-- ==== Sys2Proof/Word.lean ====
section
/-! DEFINITION. The smallest units of the model: a byte of an addressed memory and the number that names a
dictionary subentry (R46: index·256 + subindex). Quantities with a stated width are kept as integers and narrowed
where the spec narrows them (Machine/Num.lean). -/

set_option Elab.async false

namespace Sys2Proof

/-- One byte of a DOMAIN object or of a loop core's data memory. -/
abbrev Byte := BitVec 8

end Sys2Proof
end

