-- ==== Sys2Proof/Syntax.lean ====
section
/-! DEFINITION. The commands of the block: one constructor of Instr per row of spec/opcode_table.json, with the operands
the spec gives the row. Values that come from outside the block (what a partner, a pin or the plant brings) are operands. -/

namespace Sys2Proof

/-- Where a Midopin instruction issues: its core, and whether another instruction of the same bundle follows (R310: the
two instructions of a bundle read their sources before either writes). -/
structure Issue where
  core : Nat
  more : Bool
  deriving DecidableEq, Repr

/-- A plant frame as it arrives (R92): its header fields, the bytes after the header, the port it came in on, the
sequence number of its redundancy tag when it has one (R100), and whether the ports by which it would go on have equal speeds
and the egress port is idle (R97). -/
structure PlantFrame where
  port : Nat
  version : Nat
  kind : Nat
  flags : Nat
  dest : Nat
  source : Nat
  sequence : Nat
  stamp : Nat
  count : Nat
  length : Nat
  reserved : Nat
  payload : List Byte
  redundancy : Option Nat
  equalSpeed : Bool := true
  idle : Bool := true
  deriving DecidableEq, Repr

/-- The time stamps of a sync message with the latest peer-delay exchange of its port (R83, R84), in 2^-16 ns as the MAC took or
received them: the port, the receipt, the origin with its corrections, and the four times of the delay exchange. -/
structure PtpSync where
  port : Nat
  received : Int
  origin : Int
  t1 : Int
  t2 : Int
  t3 : Int
  t4 : Int
  deriving DecidableEq, Repr

/-- What a gPTP announce at a port says of its grandmaster (R83): the domain, the two priorities, the clock quality, the identity
and the steps removed of the sender. -/
structure PtpAnnounce where
  port : Nat
  domain : Nat
  priority1 : Nat
  quality : Nat
  priority2 : Nat
  identity : Nat
  steps : Nat
  deriving DecidableEq, Repr

/-- A measurement of the selected time source (R77, R78): the offset error in 2^-16 ns that `PPS_IN` or the chain gives, or the
stamps of a sync message; and the announces in force at the ports. -/
structure TimeSample where
  offset : Int
  sync : Option PtpSync := none
  announces : List PtpAnnounce := []
  deriving DecidableEq, Repr

/-- A value seen so many 2.5 ns clocks after the stage's latest request edge, from which its blanking is judged (R240, R299). -/
structure AfterEdge (α : Type) where
  value : α
  sinceEdge : Nat
  deriving DecidableEq, Repr

/-- A CAN frame of this device: its start of frame, and the loop delay measured in it, in 12.5 ns (R383). -/
structure CanSof where
  sof : Nat
  delay : Nat
  deriving DecidableEq, Repr

/-- A field input's voltage below its wire-break level for a time in µs (R403). -/
structure LowVoltage where
  input : Nat
  time : Nat
  deriving DecidableEq, Repr

/-- A field output's current in mA that has stood for a time in µs (R407). -/
structure HeldCurrent where
  output : Nat
  current : Nat
  time : Nat
  deriving DecidableEq, Repr

/-- A master sample record (R104). -/
structure MasterSample where
  master : Nat
  flags : Nat
  cycle : Nat
  time : Nat
  p : Int
  v : Int
  a : Int
  deriving DecidableEq, Repr

/-- What the estimators of a stage deliver with a computation where the spec states no law for them: the tracking loop of
the flux observer (R266) and the HFI loop (R267): angles in 2^-32 turn, speeds in 2^-16 cycle/s, the tracking error in
2^-32 turn and the saliency in Q2.30. -/
structure EstSample where
  obsAngle : Nat
  obsSpeed : Int
  hfiAngle : Nat
  hfiSpeed : Int
  hfiError : Nat
  saliency : Int
  deriving DecidableEq, Repr
/-- A trigger record (R338): its fields, whether it came in a plant frame, and that frame's header stamp. -/
structure TrigRecord where
  kind : Nat
  group : Nat
  fraction : Nat
  source : Nat
  stamp : Nat
  arming : Nat
  plant : Bool
  header : Nat
  deriving DecidableEq, Repr

/-- A Jorzer frame as it arrives (R355): its header fields and its payload. -/
structure JzFrame where
  kind : Nat
  flags : Nat
  origin : Nat
  dest : Nat
  cls : Nat
  reserved : Nat
  seq : Nat
  edge : Nat
  length : Nat
  reserved2 : Nat
  payload : List Byte
  deriving DecidableEq, Repr


/-- The commands, in the order of spec/opcode_table.json. -/
inductive Instr
  -- The tick, the row and the signal pool (spec/01_tick_row.md); general: raw filter outputs of general
  -- inputs (R238); currents: of the field outputs in mA (R408)
  | tickEdge (general : List (Nat × Int)) (currents : List (Nat × Nat))
  | inputFrameArrival (origin stamp : Nat) (duplicate : Bool) (feeds : List (Nat × Nat))
  | inputCutoff
  | stitchStart (order : Nat)
  | rowOverrun (cores : Nat)
  | slotValueWrite (session slot : Nat) (data : List Byte)
  -- The dictionary (spec/02_dictionary.md)
  | dictionaryWrite (session index sub offset : Nat) (data : List Byte)
  | stageRequest (session index sub offset : Nat) (data : List Byte)
  | commitCheckOnly (session : Nat)
  | commit (session : Nat)
  | commitCancel (session : Nat)
  | stagedSetDiscard (session : Nat)
  | commitApply
  | stickyClear (session index sub ones recurring : Nat)
  | openSession
  | closeSession (session : Nat)
  | sessionIdleTimeout (session : Nat)
  | cia402Controlword (session window value : Nat)
  -- Trellis and the plant network (spec/03_trellis_network.md)
  | trellisMeasurement (sample : TimeSample) (settled : Bool) (errorEstimate : Nat)
  | holdoverEntry
  | holdoverLimitExpiry
  | trellisSetTime (time : Nat)
  | timeStep
  | ppsInEdge (rising : Bool) (deviation : Int)
  | ppsOutPulse (rise : Bool)
  | tsFrameSent (port identifier : Nat)
  | tsQueueEntryRead (port : Nat)
  | plantFrameReceive (frame : PlantFrame)
  | announceSend
  | announceReceive (address serial : Nat) (notLocked : Bool)
  | partnerLost (address missed : Nat)
  | gateListSwitch (port : Nat)
  | ringPathLost (port : Nat)
  | masterPublish
  | masterSampleReceive (plant : Bool) (source : Nat) (sample : MasterSample)
  | snapshotScheduleTime (time : Nat)
  | snapshotScheduleFrame (time : Nat)
  | snapshotTake
  | snapshotComplete
  -- Axis commands and profiles (spec/04_profiles_homing.md)
  | enable (axis : Nat)
  | disable (axis : Nat)
  | powerOn (axis : Nat)
  | moveAbsolute (axis : Nat)
  | moveRelative (axis : Nat)
  | velocityMove (axis : Nat)
  | stop (axis : Nat)
  | resume (axis : Nat)
  | quickStop (axis : Nat)
  | abandon (axis : Nat)
  | home (axis : Nat)
  | faultReset (axis : Nat)
  | coilsOff (axis : Nat)
  | planStart (axis : Nat)
  | standstill (axis : Nat)
  | brakeEngageDelayExpiry (axis : Nat)
  | brakeReleaseDelayExpiry (axis : Nat)
  | homingTimeout (axis : Nat)
  | bindOffRequest (group value : Nat)
  | bindOffRampStart (group : Nat) (published : List (Nat × Nat))
  | bindOffEnd (group : Nat)
  | bindOffJoinLate (group startEdge r q : Nat)
  | pathStart (path : Nat)
  | pathStop (path : Nat)
  | pathResume (path : Nat)
  | pathAbandon (path : Nat)
  -- Grafts (spec/05_grafts_line_shaft.md)
  | graftEngage (graft : Nat)
  | graftDisengage (graft : Nat)
  | remoteMasterLost (graft : Nat)
  -- Coupled spans (spec/06_coupled_spans.md)
  | spanStart (group : Nat)
  | spanRelease (group : Nat)
  | spanSettled (group : Nat)
  | spanObserverDiverged (group : Nat)
  | spanTensionOutOfRange (group span : Nat)
  | spanDataStale (group : Nat)
  | spanBankWrite (group bank offset : Nat) (data : List Byte)
  | spanBankSelect (group value : Nat)
  -- Loops and network axes (spec/07_servo_loops.md)
  | followingError (axis : Nat)
  | netStatusRecord (axis stamp drive flags : Nat) (position velocity torque : Int)
  | netAxisLost (axis : Nat)
  -- Feedback channels, compare units and emulation (spec/08_feedback.md); counter: the counter value of a
  -- sample in eighths of a count (R76); delay: in 2.5 ns (R209)
  | encoderEdge (channel counter lines : Nat)
  | comparePulseEnd (unit : Nat)
  | indexPulse (channel counter : Nat) (alone : Bool)
  | ssiFrameComplete (channel word delay : Nat) (answered low : Bool)
  | armIndex (channel : Nat)
  | disarmIndex (channel : Nat)
  | preset (channel : Nat)
  | presetApply (channel : Nat)
  | lineFault (channel : Nat) (present : Bool)
  | cmpAppend (unit : Nat) (data : List Byte)
  | cmpCancelAll (unit : Nat)
  | emulationStep (output : Nat)
  -- Current sensing and field control (spec/09_field_control.md); raw: sinc filter outputs before scaling; times in ns;
  -- issued: for each phase, the counts of high time of the running half that were issued before the instant
  | focComputation (axis time : Nat) (raw : List Int) (dcLink : Int) (est : EstSample)
  | modulatorInputLost (input : Nat) (lost : Bool)
  | fastComparatorTrip (stage phase : Nat) (outputs : AfterEdge (List Int)) (issued : List Nat)
  | generalInputLimit (input : Nat) (raw : AfterEdge Int) (issued : List Nat)
  | pvsConversionComplete (code : Nat)
  | pvsComparatorChange (stage phase time : Nat) (value : Int) (sinceEdge : Nat)
  -- Sensorless operation (spec/10_sensorless_cast_on.md)
  | sixStepCommutation (axis time : Nat)
  | hfiLocked (axis : Nat)
  | hfiFailed (axis : Nat)
  | dibberPulseEnd (axis : Nat) (raw : List Int)
  | castOnMeasureTimeout (axis : Nat)
  | castOnTimeout (axis : Nat) (noAgreement : Bool)
  | lockLost (axis time : Nat)
  | ascOrFreewheel (axis : Nat)
  | reacquisitionEstimate (axis time phasor : Nat) (speed : Int)
  | lockRecovery (axis : Nat)
  | lockRecoveryFailed (axis : Nat)
  | rideThroughReturn (axis : Nat)
  | angleTest (axis : Nat)
  | returnFromRideThrough (axis : Nat)
  -- PWM generators (spec/11_pwm.md); sinceEdge: 2.5 ns clocks since the stage's latest request edge
  | halfPeriodStart (stage : Nat)
  | tripAssert (stage input : Nat) (high : Bool) (run : AfterEdge Nat) (issued : List Nat)
  | blankingClose (stage input : Nat) (issued : List Nat)
  | gateEnableWithdrawn (stage : Nat) (driver : Bool) (issued : List Nat)
  | switchingResume (stage : Nat)
  | auxChannelEvent (stage channel : Nat) (valley : Bool)
  -- The Midopin instructions (spec/12_loop_cores.md): the core, the decoded fields, and whether another instruction of
  -- the same bundle follows (R310)
  | nop (at_ : Issue)
  | add (at_ : Issue) (sat : Bool) (rd ra rb : Nat)
  | sub (at_ : Issue) (sat : Bool) (rd ra rb : Nat)
  | addi (at_ : Issue) (sat : Bool) (rd ra : Nat) (imm : Int)
  | and (at_ : Issue) (rd ra rb : Nat)
  | or (at_ : Issue) (rd ra rb : Nat)
  | xor (at_ : Issue) (rd ra rb : Nat)
  | shl (at_ : Issue) (sat : Bool) (rd ra rb : Nat)
  | shr (at_ : Issue) (rounded : Bool) (rd ra rb : Nat)
  | movi (at_ : Issue) (rd : Nat) (imm : Int)
  | clamp (at_ : Issue) (rd ra rb : Nat)
  | min (at_ : Issue) (rd ra rb : Nat)
  | max (at_ : Issue) (rd ra rb : Nat)
  | maxi (at_ : Issue) (rd ra : Nat)
  | mini (at_ : Issue) (rd ra : Nat)
  | mul (at_ : Issue) (sat : Bool) (rd ra rb : Nat)
  | mac (at_ : Issue) (sat : Bool) (acc : Nat) (subtract : Bool) (ra rb : Nat)
  | cmac (at_ : Issue) (sat conj : Bool) (ra rb : Nat)
  | accr (at_ : Issue) (sat : Bool) (acc shift rd : Nat)
  | accz (at_ : Issue) (acc : Nat) (load : Bool) (ra : Nat)
  | ftap (at_ : Issue) (sat : Bool) (acc : Nat) (subtract : Bool) (rc ra rb : Nat)
  | div (at_ : Issue) (sat : Bool) (rd ra rb : Nat)
  | divComplete (core : Nat)
  | sqrt (at_ : Issue) (rd ra : Nat)
  | sqrtComplete (core : Nat)
  | ld (at_ : Issue) (rd ra : Nat) (imm : Int) (ecc : Bool)
  | st (at_ : Issue) (rd ra : Nat) (imm : Int)
  | ldi (at_ : Issue) (rd ra : Nat) (imm : Int) (ecc : Bool)
  | sti (at_ : Issue) (rd ra : Nat) (imm : Int)
  | beq (at_ : Issue) (ra rb : Nat) (offset : Int)
  | bne (at_ : Issue) (ra rb : Nat) (offset : Int)
  | blt (at_ : Issue) (ra rb : Nat) (offset : Int)
  | bge (at_ : Issue) (ra rb : Nat) (offset : Int)
  | j (at_ : Issue) (offset : Int)
  | rep (at_ : Issue) (rot : Bool) (ra body count : Nat)
  | ret (at_ : Issue)
  | coreInterruptTaken (core kind : Nat) (retSameCycle : Bool) (holdoff : Nat)
  | debugHalt (core : Nat)
  | loopCoreMemoryError (core : Nat) (data : Bool) (address : Nat)
  | memoryRestored (core : Nat)
  | sentryEvent (core vector : Nat)
  -- Trigger, acquisition and register marks (spec/13_acquisition.md); times in 2^-16 ns; raw: the samples of the stored
  -- value (filter outputs for an analog channel); width: for how long the input stays at the level after the edge
  | arm
  | disarm
  | forceTrigger
  | armingEdge
  | triggerFire (time : Nat)
  | fireRecordSend
  | triggerRecord (r : TrigRecord)
  | settleWindowClose
  | acqSampleStored (group channel time : Nat) (raw : List Int)
  | writeBackDrain (bytes : Nat)
  | streamBlockWrite
  | markEdge (input counter : Nat) (rising : Bool) (width : Nat)
  -- Jorzer and the host interface (spec/14_jorzer_host.md). images: for each position its committed process-image map as
  -- (slot, direction, offset); groups: bind-off groups with members beyond the lost link; delay times in 2^-16 ns; path:
  -- 0 a PCIe submission queue, 2 the chain, 3 the plant network or ETH2
  | headDetection
  | enumerate (position : Nat) (serials : List Nat)
  | map (serials resets : List Nat) (images : List (Nat × List (Nat × Nat × Nat)))
  | acceptMap
  | linkLoss (port cause : Nat) (groups : List Nat)
  | linkUp (port : Nat)
  | jorzerFrameReceive (port : Nat) (crcOk : Bool) (frame : JzFrame)
  | exchangeFrame (origin edge : Nat) (payload : List Byte)
  | creditAndAcknowledge (port acked : Nat) (credits : List Nat) (replay : Bool)
  | delayMeasurement (port t1 t2 t3 t4 : Nat)
  | sync (stamp fraction : Nat) (correction residence : Int) (arrival : Nat)
  | reconcile (port epoch : Nat) (consumed received : List Nat)
  | mailboxDoorbell (value : Nat) (entry data : List Byte)
  | submissionTailDoorbell (queue value : Nat)
  | completionHeadDoorbell (queue value : Nat)
  | submissionFetch (entry data : List Byte)
  | hostRead (path source tag : Nat)
  | hostWrite (path source tag : Nat)
  | hostStage (path source tag : Nat)
  | hostNoOp (path source tag : Nat)
  | completionIrqTimeout (queue : Nat)
  | hostLinkLost
  | hostReconcile (heads : List (Nat × Nat))
  | tagTimeout (tag : Nat)
  -- CAN FD (spec/15_can_fd.md): sof: TAI time of the SOF bit in ns (0: no frame is being sent); tec, rec: the error counters
  -- that ISO 11898-1 gives after the event; delay: the loop delay measured in the frame, in 12.5 ns (R383)
  | canModeChange (controller : Nat)
  | rateDetectionDwell (controller : Nat)
  | rateDetectionTimeout (controller : Nat)
  | canBufRequest (controller buffer : Nat)
  | canBufCancel (controller buffer sof : Nat)
  | canBufRelease (controller buffer : Nat)
  | canFrameTransmitted (controller : Nat) (frame : CanSof) (tec rec_ : Nat)
  | canFrameReceived (controller sof tec rec_ id flags : Nat) (data : List Byte)
  | canError (controller tec rec_ : Nat) (transmitting : Bool) (sof : Nat)
  | canRecover (controller : Nat)
  | busOffRecovery (controller : Nat)
  | ttSlotFire (controller slot : Nat)
  | ttWindowExpiry (controller slot sof : Nat)
  -- Field I/O (spec/16_field_io.md): samples as (voltage in mV, number of equal 1 µs samples); temperature in °C; currents
  -- in µA; inputs: the first valid sample of each input in mV
  | fieldInputChange (input : Nat) (samples : List (Nat × Nat))
  | wireBreak (low : LowVoltage)
  | fieldOutputOverload (held : HeldCurrent)
  | fieldOutputOverTemperature (output : Nat) (temperature : Int)
  | openWire (output current : Nat)
  | fieldSupplyInvalid (voltage : Nat)
  | fieldOutputShed (output : Nat)
  | fieldSupplyValid (voltage : Nat) (inputs : List Nat)
  | fieldOutputAutoRestore (output : Nat)
  | dieLinkLost
  | dieLinkRestored (inputs : List Nat)
  -- Safety functions (spec/17_safety.md): inputs: bit i the sample of input 8 + i; crossFail: a cycle out of tolerance or a
  -- missing exchange; differ: the decisions differ; readback: a line differs from its command; response: the time that an
  -- STO demand of the cycle took (µs)
  | safetyCycle (inputs code response : Nat) (crossFail differ readback : Bool)
  | discrepancyLatch (pair : Nat)
  | ss1TimerExpiry (group : Nat)
  | requestFrame
  | requestPathLost
  | safetyAcknowledge
  | safetyUnlock (session value : Nat)
  | safetyUnlockExpiry (session : Nat)
  | sealRead (code : Nat)
  | offPulse (output : Nat) (off : Bool)
  | selfTestComplete (ok : Bool)
  -- Fault collection and thermal management (spec/18_faults_thermal.md): sources: fault source numbers (R429); readings: per
  -- sensor its frequency in kHz and the temperature in 0.1 °C that the factory calibration gives it
  | blockReset (source : Nat)
  | chipReset
  | faultForce (kind : Nat) (high : Bool) (value : Nat)
  | faultReactionWrite (kind value : Nat)
  | clearFatalRecord
  | eraseLog
  | faultLogCopy
  | temperatureMeasurement (readings : List (Nat × Int))
  | throttleUp
  | throttleDown
  | thermalEscalation
  | thermalHoldRelease
  -- Supplies, clocks, resets and device states (spec/19_package_power_reset.md): voltages in mV in the order VCORE, VDDQ,
  -- VIO18, VIO33; locked: every PLL is locked; bad: bit b set when the content of bank b fails a check in flash; bootMs: time
  -- from release
  | supplyFault (supply voltage : Nat)
  | clockFault
  | powerGood (voltages : List Nat)
  | nrstQualified
  | nrstRelease
  | nrstFailedClosed
  | nrstIgnoreEnd
  | resetRelease (locked : Bool) (bad : Nat)
  | startupComplete (bootMs : Nat)
  | supervisorWatchdog (core : Nat)
  | deviceReady
  | deviceRun
  | deviceHalt
  | deviceSafe
  | deviceReset
  -- Non-volatile store and update (spec/20_nv_update.md): verified: both safety cores read the field part back against its
  -- digest; ok: the operation verified by read-back
  | updateBegin
  | updateActivate (verified : Bool)
  | updateConfirm
  | updateRevert
  | updateAbort
  | updateData (offset : Nat) (data : List Byte)
  | bankErased
  | flashOperationComplete (ok : Bool)
  | save
  | clear
  | journalReclaim (sector : Nat)
  | measuredMaximumReset (key : Nat)
  -- Rows that the table lists last; sof: as above
  | canArbitrationLost (controller sof : Nat)
  | creditFrameTimeout (port : Nat)
  | nerrMinPulseExpiry
  | dibberGapExpiry (axis : Nat)
  | frerResetTimeExpiry (stream : Nat)
  | fieldInputValidAgain (input voltage : Nat)
  deriving DecidableEq, Repr

end Sys2Proof
end

