-- ==== Sys2Proof/Decode.lean ====
section
/-! DEFINITION. The words of the opcode table: the block takes commands, and spec/opcode_table.json gives none of its rows
bits, so no word spells a command. (The 32-bit words of Midopin are read by the loader and by the loop cores,
Machine/Loader.lean; a row of the table names an instruction that is already decoded.) -/

namespace Sys2Proof

/-- The command that a word of the table's bits spells: none, since no row has bits.
(DESIGN CHOICE, safe: log entry 7.) -/
def decodeTableWord (_nbits _w : Nat) : Option Instr := none

end Sys2Proof
end

