-- ==== Sys2Proof/Config.lean ====
section
/-! DEFINITION. What the spec leaves to the part or leaves open: constants and free values without a body, so that
no proof can lean on a value (notes/assumptions names each). -/

namespace Sys2Proof.Config

/-- R70: `SerialNumber`, unique per part. -/
opaque serialNumber : BitVec 32

/-- R70: `RevisionNumber`. -/
opaque revisionNumber : BitVec 32

/-- R70: `HardwareVersion`, 1 to 64 bytes of UTF-8. -/
opaque hardwareVersion : List (BitVec 8)

/-- R70: `SoftwareVersion` of the active bank. -/
opaque softwareVersion : Nat → List (BitVec 8)

/-- R70: `TemperatureGrade` is 2 (SKQ-6416-E) when this is true, else 1. -/
opaque gradeE : Bool

/-- `StoreFormat` of the running firmware (R470). -/
opaque storeFormat : BitVec 16

/-- The free value the model takes where the spec states a step's effect and leaves one value open: applied to the
counter of `State.free`, which advances at each use. -/
opaque free : Nat → Int

/-- Free bytes, for an open value that is a byte string. -/
opaque freeBytes : Nat → List (BitVec 8)

/-- R308: the value of a register that is undefined when a stitch or a handler enters: by the dispatch and the register
(64 and 65 are acc0 and acc1). -/
opaque freeReg : Nat → Nat → Int

/-- R307, R308: the byte address in the 64 KB of data memory at which the loader places the parameter record of the stitch of an order. -/
opaque recordBase : Nat → BitVec 16

/-- R332, R346: whether the marks area of a skein precedes its data area; the spec gives the sizes and no order. -/
opaque marksFirst : Bool

/-- R83: the gPTP clock identity of the part. -/
opaque clockIdentity : BitVec 64

/-- R83: the gPTP clock quality of the part: class, accuracy and variance, as one number of 32 bits. -/
opaque clockQuality : BitVec 32

/-- R97, R30: the links of the plant network run at 100 Mb/s, not at 1 Gb/s. -/
opaque plantSlow : Bool

/-- R97, R30: the relays on the path to a plant address; 65,536 stands for the farthest device. -/
opaque plantHops : Nat → Nat

/-- R442: where the 8 ms periods of paused work lie in TAI time (ns). -/
opaque pausePhase : Nat

/-- R178: the configuration tag of a span group over the values of its objects. -/
opaque spanTag : List Int → Nat

/-- R179: whether a span member on another device (its entry: position and axis) is in Holding, Moving or Stopping in a tick. -/
opaque memberRuns : Nat → Nat → Bool

/-- R167: whether a span group runs on its home device, for a device that is not the home, in a tick. -/
opaque groupRuns : Nat → Nat → Bool

/-- R247: the table sine of an angle in 2^-32 turn, in Q2.30, before the stated bound is imposed. -/
opaque sinTable : BitVec 32 → Int

/-- R247: the table cosine of an angle in 2^-32 turn, before the stated bound is imposed. -/
opaque cosTable : BitVec 32 → Int

/-- The angle of a vector (y, x) in 2^-32 turn, where the spec names an arctangent and gives no rounding. -/
opaque atan2 : Int → Int → BitVec 32

/-- R250, R264: an electrical speed in 2^-16 cycle/s as Q16.16 rad/s; the spec states no rounding of the factor 2π. -/
opaque radPerSec : Int → Int

/-- Angles in 2^-32 turn computed by the device from a list of measurements by a rule the spec gives only in words. -/
opaque fitAngle : List Int → BitVec 32

/-- Figures computed by the device from a list of measurements by a rule the spec gives only in words. -/
opaque fitValue : List Int → Int

/-- R359: the occupancy of the chain segments on the way to a position by the cyclic frames of other devices, in ns. -/
opaque chainLoad : Nat → Nat

/-- R166: whether a span member on another device (its entry: position and axis) belongs to a bind-off group there. -/
opaque memberBound : Nat → Nat → Bool

/-- R482: the settings payload of a format, converted into another format. -/
opaque convert : Nat → Nat → List (BitVec 8) → List (BitVec 8)

/-- R476: whether a signature over a digest verifies under a key the part holds. -/
opaque signatureValid : List (BitVec 8) → Bool

/-- R475: the SHA digest of a byte string. -/
opaque digest : List (BitVec 8) → List (BitVec 8)

end Sys2Proof.Config
end

