-- ==== Sys2Proof/Machine/Num.lean ====
section
/-! DEFINITION. The integer arithmetic the spec's algorithms share: rounding shifts and quotients (R113),
saturation and wrapping to a width, bit tests and little-endian bytes (R49). -/

namespace Sys2Proof.Machine

/-- Shift left by `n` bits, exact. -/
def shl (x : Int) (n : Nat) : Int := x * 2 ^ n

/-- R113: quotient rounded to nearest, ties away from zero. A zero divisor gives 0; no rule divides by one. -/
def qdiv (x y : Int) : Int :=
  if y = 0 then 0
  else
    let q := (2 * x.natAbs + y.natAbs) / (2 * y.natAbs)
    if (x < 0) = (y < 0) then (q : Int) else -(q : Int)

/-- R113: shift right by `k` bits, rounded to nearest, ties away from zero. -/
def rsh (x : Int) (k : Nat) : Int := qdiv x (2 ^ k)

/-- Clamp to [lo, hi]. -/
def clampI (x lo hi : Int) : Int := max lo (min hi x)

/-- Saturate to a signed width. -/
def satS (w : Nat) (x : Int) : Int := clampI x (-(2 ^ (w - 1))) (2 ^ (w - 1) - 1)

/-- Saturate to 32 bits signed. -/
def sat32 (x : Int) : Int := satS 32 x

/-- Saturate to 64 bits signed. -/
def sat64 (x : Int) : Int := satS 64 x

/-- The low `w` bits as an unsigned number. -/
def wrapU (w : Nat) (x : Int) : Int := x % 2 ^ w

/-- The low `w` bits as a signed number. -/
def wrapS (w : Nat) (x : Int) : Int :=
  let y := x % 2 ^ w
  if y < 2 ^ (w - 1) then y else y - 2 ^ w

/-- Bit `i` of a number. -/
def bitAt (x i : Nat) : Bool := x.testBit i

/-- A number with bit `i` set. -/
def setBitN (x i : Nat) : Nat := x ||| (1 <<< i)

/-- A number with bit `i` clear. -/
def clrBitN (x i : Nat) : Nat := if x.testBit i then x - (1 <<< i) else x

/-- 1 for true, 0 for false. -/
def b2i (b : Bool) : Int := if b then 1 else 0

/-- The ceiling of a nonnegative quotient of naturals; 0 for a zero divisor. -/
def ceilDiv (x y : Nat) : Nat := if y = 0 then 0 else (x + y - 1) / y

/-- Little-endian bytes as an unsigned number (R49). -/
def leNat : List Byte → Nat
  | [] => 0
  | b :: t => b.toNat + 256 * leNat t

/-- `n` little-endian bytes of a number (R49). -/
def natLE : Nat → Nat → List Byte
  | 0, _ => []
  | n + 1, v => BitVec.ofNat 8 v :: natLE n (v / 256)

/-- A signed number of `n` bytes from its little-endian bytes. -/
def leInt (n : Nat) (l : List Byte) : Int := wrapS (8 * n) (leNat l)

/-- `n` little-endian bytes of an integer, two's complement. -/
def intLE (n : Nat) (v : Int) : List Byte := natLE n (wrapU (8 * n) v).toNat

end Sys2Proof.Machine
end

