-- ==== Sys2Proof/Machine/DictTypes.lean ====
section
/-! DEFINITION. What one row of the object tables says (R46–R50, R64, R65): the data type, the access class, the
values a write may carry and whether zero is refused. -/

namespace Sys2Proof.Machine.Dict

/-- R49: the data types that occur in the object tables. Q16.16 and Q2.30 are I32, Q32.32 is I64. -/
inductive Typ
  | bool | u8 | u16 | u32 | u64 | i8 | i16 | i32 | i64 | str | dom | record
  deriving DecidableEq, Repr

/-- R50: the access classes. -/
inductive Acc
  | ro | rw | wo | rws | snap | sl
  deriving DecidableEq, Repr

/-- The values an object accepts, from the last column of its table. -/
inductive Range
  | full                          -- every value of the type
  | between (lo hi : Int)
  | betweenOr (lo hi x : Int)     -- a range, or one further value
  | oneOf (l : List Int)
  | sticky (mask : Nat)           -- sticky bits (R65); bits outside the mask are reserved (R10)
  | aligned (n : Nat)             -- a multiple of n
  | digSource                     -- DigSource (R329)
  | etherType                     -- PlantEtherType (spec/03_trellis_network.md)
  | spanMember                    -- SpanMember (spec/06_coupled_spans.md)
  deriving DecidableEq, Repr

/-- One row of an object table. -/
structure Row where
  off : Nat       -- index within the instance (whole index for the root rows)
  cnt : Nat       -- consecutive indexes the row stands for
  lo : Nat        -- first subindex
  hi : Nat        -- last subindex
  instLo : Nat    -- first instance that has the object (R47)
  instHi : Nat    -- last instance that has it
  typ : Typ
  acc : Acc
  dflt : Int      -- the table's default
  range : Range
  zero : Bool     -- zero is refused with 0x0302 (R64)
  deriving DecidableEq, Repr

end Sys2Proof.Machine.Dict
end

