-- ==== Sys2Proof/Machine/DictRows.lean ====
section
/-! DEFINITION. The object tables of the spec as data: one row per object, grouped by the block whose instances
share an offset layout (R47). Offsets are within the instance; the root rows hold whole indexes. -/

namespace Sys2Proof.Machine

namespace Dict

/-- Rows of block axis0. -/
def axis0Rows : List Row := [
  ⟨0x0, 1, 1, 1, 0, 10000, .u8, .wo, 0, .full, false⟩,
  ⟨0x0, 1, 2, 2, 0, 10000, .u8, .ro, 0, .full, false⟩,
  ⟨0x0, 1, 3, 3, 0, 10000, .u16, .rw, 0, .sticky 0x1FF, false⟩,
  ⟨0x0, 1, 4, 4, 0, 10000, .u8, .ro, 0, .full, false⟩,
  ⟨0x1, 1, 1, 1, 0, 10000, .i64, .ro, 0, .full, false⟩,
  ⟨0x1, 1, 2, 2, 0, 10000, .i32, .ro, 0, .full, false⟩,
  ⟨0x1, 1, 3, 3, 0, 10000, .i32, .ro, 0, .full, false⟩,
  ⟨0x2, 1, 1, 1, 0, 10000, .u8, .rws, 4, .between 0 64, false⟩,
  ⟨0x2, 1, 2, 2, 0, 10000, .u8, .ro, 0, .full, false⟩,
  ⟨0x2, 1, 3, 3, 0, 10000, .u64, .ro, 0, .full, false⟩,
  ⟨0x2, 1, 4, 4, 0, 10000, .u64, .ro, 0, .full, false⟩,
  ⟨0x2, 1, 5, 5, 0, 10000, .u64, .ro, 0, .full, false⟩,
  ⟨0x4, 1, 1, 1, 0, 10000, .u8, .rw, 1, .between 1 3, false⟩,
  ⟨0x4, 1, 2, 2, 0, 10000, .i64, .rw, 0, .full, false⟩,
  ⟨0x4, 1, 3, 3, 0, 10000, .i32, .rw, 0, .full, false⟩,
  ⟨0x4, 1, 4, 4, 0, 10000, .u8, .rw, 1, .between 1 3, false⟩,
  ⟨0x5, 1, 1, 1, 0, 10000, .i64, .ro, 0, .full, false⟩,
  ⟨0x5, 1, 2, 2, 0, 10000, .i64, .ro, 0, .full, false⟩,
  ⟨0x5, 1, 3, 3, 0, 10000, .i64, .ro, 0, .full, false⟩,
  ⟨0x5, 1, 4, 4, 0, 10000, .i64, .ro, 0, .full, false⟩,
  ⟨0x5, 1, 5, 5, 0, 10000, .u64, .ro, 0, .full, false⟩]

/-- Rows of block axis1. -/
def axis1Rows : List Row := [
  ⟨0x8, 1, 1, 1, 0, 10000, .u32, .rw, 65536, .between 0 2147483647, false⟩,
  ⟨0x8, 1, 2, 2, 0, 10000, .u32, .rw, 65536, .full, true⟩,
  ⟨0x8, 1, 3, 3, 0, 10000, .u32, .rw, 65536, .full, true⟩,
  ⟨0x8, 1, 4, 4, 0, 10000, .u32, .rw, 65536, .full, true⟩,
  ⟨0x8, 1, 5, 5, 0, 10000, .u32, .rw, 131072, .full, true⟩,
  ⟨0x8, 1, 6, 6, 0, 10000, .u32, .rw, 262144, .full, true⟩,
  ⟨0x8, 1, 7, 7, 0, 10000, .u32, .rw, 65536, .full, true⟩,
  ⟨0x8, 1, 8, 8, 0, 10000, .u32, .rw, 65536, .full, true⟩,
  ⟨0x9, 1, 1, 1, 0, 10000, .u16, .rws, 0, .between 0 4096, false⟩,
  ⟨0x9, 1, 2, 2, 0, 10000, .dom, .rws, 0, .full, false⟩]

/-- Rows of block axis2. -/
def axis2Rows : List Row := [
  ⟨0x10, 1, 1, 1, 0, 10000, .u8, .ro, 255, .full, false⟩,
  ⟨0x10, 1, 2, 2, 0, 10000, .bool, .ro, 0, .full, false⟩,
  ⟨0x10, 1, 3, 3, 0, 10000, .bool, .rws, 0, .full, false⟩]

/-- Rows of block axis3. -/
def axis3Rows : List Row := [
  ⟨0x18, 1, 1, 1, 0, 10000, .u8, .rws, 0, .between 0 3, false⟩,
  ⟨0x18, 1, 2, 2, 0, 10000, .u16, .rws, 65535, .betweenOr 0 4095 65535, false⟩,
  ⟨0x18, 1, 3, 3, 0, 10000, .u8, .ro, 0, .full, false⟩,
  ⟨0x18, 1, 4, 4, 0, 10000, .u8, .rws, 255, .betweenOr 0 3 255, false⟩,
  ⟨0x18, 1, 5, 5, 0, 10000, .u16, .rw, 0, .sticky 0xFF, false⟩,
  ⟨0x18, 1, 6, 6, 0, 10000, .u8, .ro, 1, .full, false⟩,
  ⟨0x19, 4, 1, 1, 0, 10000, .bool, .rws, 0, .full, false⟩,
  ⟨0x19, 4, 2, 2, 0, 10000, .i32, .rws, 0, .full, false⟩,
  ⟨0x19, 4, 3, 3, 0, 10000, .u8, .rws, 0, .between 0 62, false⟩,
  ⟨0x19, 4, 4, 4, 0, 10000, .i32, .rws, 0, .full, false⟩,
  ⟨0x19, 4, 5, 5, 0, 10000, .u8, .rws, 0, .between 0 62, false⟩,
  ⟨0x19, 4, 6, 6, 0, 10000, .i32, .rws, 0, .full, false⟩,
  ⟨0x19, 4, 7, 7, 0, 10000, .u8, .rws, 0, .between 0 62, false⟩,
  ⟨0x19, 4, 8, 8, 0, 10000, .i32, .rws, 1073741824, .between 0 1073741824, true⟩,
  ⟨0x19, 4, 9, 9, 0, 10000, .u32, .rws, 0, .full, false⟩,
  ⟨0x19, 4, 10, 10, 0, 10000, .i32, .rws, 1073741824, .full, false⟩,
  ⟨0x19, 4, 11, 11, 0, 10000, .u8, .rws, 30, .between 0 62, false⟩,
  ⟨0x19, 4, 12, 12, 0, 10000, .i32, .rws, 0, .full, false⟩,
  ⟨0x19, 4, 13, 13, 0, 10000, .u8, .rws, 0, .between 0 62, false⟩,
  ⟨0x19, 4, 14, 14, 0, 10000, .i32, .rws, 0, .full, false⟩,
  ⟨0x19, 4, 15, 15, 0, 10000, .u8, .rws, 0, .between 0 62, false⟩,
  ⟨0x19, 4, 16, 16, 0, 10000, .u32, .rws, 0, .full, false⟩,
  ⟨0x19, 4, 17, 17, 0, 10000, .i32, .rws, 0, .full, false⟩,
  ⟨0x19, 4, 18, 18, 0, 10000, .u8, .rws, 0, .between 0 62, false⟩,
  ⟨0x1D, 1, 1, 1, 0, 10000, .u8, .rws, 0, .between 0 1, false⟩,
  ⟨0x1D, 1, 2, 2, 0, 10000, .i32, .rws, 1073741824, .full, false⟩,
  ⟨0x1D, 1, 3, 3, 0, 10000, .i32, .rws, 0, .full, false⟩,
  ⟨0x1D, 1, 4, 4, 0, 10000, .i32, .rws, 0, .full, false⟩,
  ⟨0x1D, 1, 5, 5, 0, 10000, .i32, .rws, 0, .full, false⟩,
  ⟨0x1D, 1, 6, 6, 0, 10000, .i32, .rws, 0, .full, false⟩,
  ⟨0x1D, 1, 17, 17, 0, 10000, .u8, .rws, 0, .between 0 1, false⟩,
  ⟨0x1D, 1, 18, 18, 0, 10000, .i32, .rws, 1073741824, .full, false⟩,
  ⟨0x1D, 1, 19, 19, 0, 10000, .i32, .rws, 0, .full, false⟩,
  ⟨0x1D, 1, 20, 20, 0, 10000, .i32, .rws, 0, .full, false⟩,
  ⟨0x1D, 1, 21, 21, 0, 10000, .i32, .rws, 0, .full, false⟩,
  ⟨0x1D, 1, 22, 22, 0, 10000, .i32, .rws, 0, .full, false⟩,
  ⟨0x1E, 1, 1, 1, 0, 10000, .u32, .rw, 6553600, .between 0 2147483647, false⟩,
  ⟨0x1E, 1, 2, 2, 0, 10000, .i32, .rw, 0, .between 0 2147483647, false⟩,
  ⟨0x1E, 1, 3, 3, 0, 10000, .i32, .rw, 0, .between 0 2147483647, false⟩,
  ⟨0x1E, 1, 4, 4, 0, 10000, .u64, .rw, 268435456, .full, false⟩,
  ⟨0x1E, 1, 5, 5, 0, 10000, .u64, .rw, 1073741824, .full, false⟩,
  ⟨0x1E, 1, 6, 6, 0, 10000, .u16, .rw, 4, .full, false⟩,
  ⟨0x1E, 1, 7, 7, 0, 10000, .i64, .ro, 0, .full, false⟩,
  ⟨0x1E, 1, 8, 8, 0, 10000, .i32, .rw, 65536, .full, true⟩,
  ⟨0x1E, 1, 17, 20, 0, 10000, .u8, .rws, 0, .between 0 8, false⟩,
  ⟨0x1E, 1, 21, 24, 0, 10000, .u16, .rws, 65535, .betweenOr 0 4095 65535, false⟩,
  ⟨0x1F, 1, 1, 1, 16, 63, .u8, .rws, 1, .between 1 2, false⟩,
  ⟨0x1F, 1, 2, 2, 16, 63, .u16, .rws, 0, .full, false⟩,
  ⟨0x1F, 1, 3, 3, 16, 63, .u8, .rws, 0, .full, false⟩,
  ⟨0x1F, 1, 4, 4, 16, 63, .u8, .rws, 0, .between 0 3, false⟩,
  ⟨0x1F, 1, 5, 5, 16, 63, .i32, .rws, 65536, .full, true⟩,
  ⟨0x1F, 1, 6, 6, 16, 63, .u8, .rw, 3, .full, false⟩,
  ⟨0x1F, 1, 7, 7, 16, 63, .u8, .ro, 0, .full, false⟩,
  ⟨0x1F, 1, 8, 8, 16, 63, .u32, .ro, 0, .full, false⟩]

/-- Rows of block axis4. -/
def axis4Rows : List Row := [
  ⟨0x20, 1, 1, 1, 0, 15, .u8, .rws, 4, .between 1 64, true⟩,
  ⟨0x20, 1, 2, 2, 0, 15, .u8, .rws, 1, .between 1 3, false⟩,
  ⟨0x20, 1, 3, 3, 0, 15, .u32, .rws, 0, .full, false⟩,
  ⟨0x20, 1, 4, 4, 0, 15, .u16, .rws, 65535, .betweenOr 0 4095 65535, false⟩,
  ⟨0x20, 1, 5, 5, 0, 15, .u8, .rws, 1, .between 1 2, false⟩,
  ⟨0x20, 1, 6, 6, 0, 15, .u8, .rw, 1, .between 1 2, false⟩,
  ⟨0x20, 1, 7, 7, 0, 15, .i32, .rws, 65536, .full, true⟩,
  ⟨0x21, 1, 1, 1, 0, 15, .u32, .rws, 1000000, .full, false⟩,
  ⟨0x21, 1, 2, 2, 0, 15, .u32, .rws, 1000000, .full, false⟩,
  ⟨0x21, 1, 3, 3, 0, 15, .u32, .rws, 0, .full, false⟩,
  ⟨0x21, 1, 4, 4, 0, 15, .u32, .rws, 0, .full, false⟩,
  ⟨0x22, 1, 1, 1, 0, 15, .i32, .rws, 0, .full, false⟩,
  ⟨0x22, 1, 2, 2, 0, 15, .i32, .rws, 0, .full, false⟩,
  ⟨0x22, 1, 3, 3, 0, 15, .i32, .rws, 0, .full, false⟩,
  ⟨0x22, 1, 4, 4, 0, 15, .i32, .rws, 0, .full, false⟩,
  ⟨0x22, 1, 5, 5, 0, 15, .bool, .rws, 1, .full, false⟩,
  ⟨0x22, 1, 6, 6, 0, 15, .i32, .rw, 1073741824, .between 0 1073741824, false⟩,
  ⟨0x23, 1, 1, 1, 0, 15, .i32, .rw, 0, .full, false⟩,
  ⟨0x23, 1, 2, 2, 0, 15, .i32, .rw, 0, .full, false⟩,
  ⟨0x23, 1, 3, 3, 0, 15, .bool, .rws, 0, .full, false⟩,
  ⟨0x23, 1, 4, 4, 0, 15, .i32, .rw, 1020054733, .full, false⟩,
  ⟨0x23, 1, 5, 5, 0, 15, .i32, .rw, 0, .full, false⟩,
  ⟨0x23, 1, 6, 6, 0, 15, .i32, .rw, 0, .full, false⟩,
  ⟨0x24, 1, 1, 1, 0, 15, .u8, .rws, 255, .betweenOr 0 15 255, false⟩,
  ⟨0x24, 1, 2, 2, 0, 15, .i32, .rw, 36700160, .full, false⟩,
  ⟨0x24, 1, 3, 3, 0, 15, .i32, .rw, 0, .full, false⟩,
  ⟨0x24, 1, 4, 4, 0, 15, .i32, .rw, 0, .full, false⟩,
  ⟨0x25, 1, 1, 1, 0, 15, .u16, .rw, 0, .full, false⟩,
  ⟨0x25, 1, 2, 2, 0, 15, .i32, .rw, 0, .full, false⟩,
  ⟨0x26, 1, 1, 1, 0, 15, .i32, .ro, 0, .full, false⟩,
  ⟨0x26, 1, 2, 2, 0, 15, .i32, .ro, 0, .full, false⟩,
  ⟨0x26, 1, 3, 3, 0, 15, .i32, .ro, 0, .full, false⟩,
  ⟨0x26, 1, 4, 4, 0, 15, .i32, .ro, 0, .full, false⟩,
  ⟨0x26, 1, 5, 5, 0, 15, .i32, .ro, 0, .full, false⟩,
  ⟨0x26, 1, 6, 6, 0, 15, .i32, .ro, 0, .full, false⟩,
  ⟨0x26, 1, 7, 7, 0, 15, .u32, .ro, 0, .full, false⟩,
  ⟨0x26, 1, 8, 8, 0, 15, .u16, .rw, 0, .sticky 0x1FF, false⟩,
  ⟨0x26, 1, 9, 9, 0, 15, .i32, .ro, 0, .full, false⟩,
  ⟨0x27, 1, 1, 1, 0, 15, .u64, .ro, 0, .full, false⟩,
  ⟨0x27, 1, 2, 2, 0, 15, .i32, .ro, 1042818059, .full, false⟩,
  ⟨0x27, 1, 3, 3, 0, 15, .u32, .ro, 2000, .full, false⟩]

/-- Rows of block axis5. -/
def axis5Rows : List Row := [
  ⟨0x28, 1, 1, 1, 0, 10000, .u8, .rws, 2, .between 1 2, false⟩,
  ⟨0x28, 1, 2, 2, 0, 10000, .u32, .rws, 65536, .full, true⟩,
  ⟨0x28, 1, 3, 3, 0, 10000, .u32, .rws, 16384, .full, false⟩,
  ⟨0x28, 1, 4, 4, 0, 10000, .u32, .rw, 67108864, .full, false⟩,
  ⟨0x28, 1, 5, 5, 0, 10000, .u32, .rw, 0, .full, false⟩,
  ⟨0x28, 1, 6, 6, 0, 10000, .u16, .rw, 8000, .full, false⟩,
  ⟨0x28, 1, 7, 7, 0, 10000, .i32, .rw, 214748365, .full, false⟩,
  ⟨0x28, 1, 8, 8, 0, 10000, .i32, .rw, 3276800, .full, false⟩,
  ⟨0x28, 1, 9, 9, 0, 10000, .u16, .rw, 200, .full, true⟩,
  ⟨0x29, 1, 1, 1, 0, 10000, .bool, .rws, 0, .full, false⟩,
  ⟨0x29, 1, 2, 2, 0, 10000, .i32, .rw, 2621440, .full, false⟩,
  ⟨0x29, 1, 3, 3, 0, 10000, .u8, .rws, 1, .oneOf [1, 2, 4], true⟩,
  ⟨0x29, 1, 4, 4, 0, 10000, .i32, .rw, 53687091, .full, false⟩,
  ⟨0x29, 1, 5, 5, 0, 10000, .u32, .rw, 33554432, .full, false⟩,
  ⟨0x29, 1, 6, 6, 0, 10000, .u32, .rw, 536870912, .full, false⟩,
  ⟨0x29, 1, 7, 7, 0, 10000, .i32, .ro, 0, .full, false⟩,
  ⟨0x2A, 1, 1, 1, 0, 10000, .u16, .rw, 8000, .full, true⟩,
  ⟨0x2A, 1, 2, 2, 0, 10000, .u32, .rw, 200000, .full, false⟩,
  ⟨0x2A, 1, 3, 3, 0, 10000, .i32, .rw, 0, .full, false⟩,
  ⟨0x2A, 1, 4, 4, 0, 10000, .i32, .rw, 53687091, .full, false⟩,
  ⟨0x2B, 1, 1, 1, 0, 10000, .u32, .rw, 20000, .full, false⟩,
  ⟨0x2B, 1, 2, 2, 0, 10000, .i32, .rw, 1310720, .full, false⟩,
  ⟨0x2B, 1, 3, 3, 0, 10000, .u32, .rw, 256, .full, false⟩,
  ⟨0x2B, 1, 4, 4, 0, 10000, .u32, .rw, 65536, .full, true⟩,
  ⟨0x2B, 1, 5, 5, 0, 10000, .i32, .rw, 0, .full, false⟩,
  ⟨0x2B, 1, 6, 6, 0, 10000, .u32, .rw, 0, .full, false⟩,
  ⟨0x2B, 1, 7, 7, 0, 10000, .u8, .rws, 0, .between 0 1, false⟩,
  ⟨0x2B, 1, 8, 8, 0, 10000, .u32, .ro, 0, .full, false⟩,
  ⟨0x2C, 1, 1, 1, 0, 10000, .i32, .rw, 966367642, .between 0 1073741824, false⟩,
  ⟨0x2C, 1, 2, 2, 0, 10000, .bool, .rw, 1, .full, false⟩,
  ⟨0x2C, 1, 3, 3, 0, 10000, .u32, .rw, 33554432, .full, false⟩,
  ⟨0x2D, 1, 1, 1, 0, 10000, .bool, .rws, 0, .full, false⟩,
  ⟨0x2D, 1, 2, 2, 0, 10000, .u8, .rw, 1, .between 1 2, false⟩,
  ⟨0x2D, 1, 3, 3, 0, 10000, .u16, .rw, 64, .full, false⟩,
  ⟨0x2D, 1, 4, 4, 0, 10000, .i64, .ro, 0, .full, false⟩,
  ⟨0x2E, 1, 1, 1, 0, 10000, .u8, .wo, 0, .full, false⟩,
  ⟨0x2E, 1, 2, 2, 0, 10000, .u8, .ro, 0, .full, false⟩,
  ⟨0x2E, 1, 3, 3, 0, 10000, .u8, .ro, 0, .full, false⟩,
  ⟨0x2E, 1, 4, 4, 0, 10000, .u8, .ro, 0, .full, false⟩,
  ⟨0x2E, 1, 5, 5, 0, 10000, .u16, .rw, 0, .sticky 0x1FF, false⟩,
  ⟨0x2E, 1, 6, 6, 0, 10000, .u32, .ro, 0, .full, false⟩,
  ⟨0x2E, 1, 7, 7, 0, 10000, .i32, .ro, 0, .full, false⟩,
  ⟨0x2E, 1, 8, 8, 0, 10000, .i32, .ro, 0, .full, false⟩,
  ⟨0x2F, 1, 1, 1, 0, 10000, .u32, .ro, 0, .full, false⟩,
  ⟨0x2F, 1, 2, 2, 0, 10000, .u32, .ro, 0, .full, false⟩,
  ⟨0x2F, 1, 3, 3, 0, 10000, .u32, .ro, 0, .full, false⟩,
  ⟨0x2F, 1, 4, 4, 0, 10000, .u32, .ro, 0, .full, false⟩]

/-- Rows of block axis6. -/
def axis6Rows : List Row := [
  ⟨0x30, 1, 1, 1, 0, 10000, .u8, .rws, 0, .between 0 3, false⟩,
  ⟨0x30, 1, 2, 2, 0, 10000, .u8, .rws, 255, .betweenOr 0 15 255, false⟩,
  ⟨0x30, 1, 3, 3, 0, 10000, .u64, .rws, 65536, .full, true⟩,
  ⟨0x30, 1, 4, 4, 0, 10000, .i64, .rws, 0, .full, false⟩,
  ⟨0x30, 1, 5, 5, 0, 10000, .bool, .rws, 0, .full, false⟩,
  ⟨0x31, 1, 1, 1, 0, 10000, .u32, .rw, 250000, .full, false⟩,
  ⟨0x31, 1, 2, 2, 0, 10000, .u32, .rw, 20000000, .full, false⟩,
  ⟨0x31, 1, 3, 3, 0, 10000, .i32, .ro, 0, .full, false⟩,
  ⟨0x31, 1, 4, 4, 0, 10000, .u8, .ro, 0, .full, false⟩,
  ⟨0x31, 1, 5, 5, 0, 10000, .u8, .ro, 0, .full, false⟩]

/-- Rows of block axis7. -/
def axis7Rows : List Row := [
  ⟨0x38, 1, 1, 1, 0, 10000, .bool, .rws, 0, .full, false⟩,
  ⟨0x38, 1, 2, 2, 0, 10000, .i64, .rws, 0, .full, false⟩,
  ⟨0x38, 1, 3, 3, 0, 10000, .i64, .rws, 0, .full, false⟩,
  ⟨0x38, 1, 4, 4, 0, 10000, .bool, .rws, 0, .full, false⟩,
  ⟨0x39, 1, 1, 1, 0, 10000, .u8, .rws, 255, .betweenOr 0 15 255, false⟩,
  ⟨0x39, 1, 2, 2, 0, 10000, .u8, .rws, 255, .betweenOr 0 15 255, false⟩,
  ⟨0x39, 1, 3, 3, 0, 10000, .u8, .rws, 255, .betweenOr 0 15 255, false⟩,
  ⟨0x39, 1, 4, 4, 0, 10000, .u64, .rw, 0, .full, false⟩,
  ⟨0x39, 1, 5, 5, 0, 10000, .u32, .ro, 0, .full, false⟩,
  ⟨0x3A, 1, 1, 1, 0, 10000, .u8, .rw, 1, .between 1 8, false⟩,
  ⟨0x3A, 1, 2, 2, 0, 10000, .u32, .rw, 32768, .full, false⟩,
  ⟨0x3A, 1, 3, 3, 0, 10000, .u32, .rw, 2048, .full, false⟩,
  ⟨0x3A, 1, 4, 4, 0, 10000, .u32, .rw, 65536, .full, true⟩,
  ⟨0x3A, 1, 5, 5, 0, 10000, .i64, .rw, 0, .full, false⟩,
  ⟨0x3A, 1, 6, 6, 0, 10000, .u32, .rw, 0, .full, false⟩,
  ⟨0x3A, 1, 7, 7, 0, 10000, .u8, .ro, 0, .full, false⟩,
  ⟨0x3B, 1, 1, 1, 0, 10000, .u8, .rw, 1, .between 1 3, false⟩,
  ⟨0x3B, 1, 2, 2, 0, 10000, .u32, .rw, 256, .full, false⟩,
  ⟨0x3B, 1, 3, 3, 0, 10000, .u16, .rw, 16, .full, false⟩,
  ⟨0x3B, 1, 4, 4, 0, 10000, .u8, .rws, 255, .oneOf [0, 1, 2, 3, 4, 5, 6, 7, 0x10, 0xFF], false⟩,
  ⟨0x3B, 1, 5, 5, 0, 10000, .u16, .rw, 0, .full, false⟩,
  ⟨0x3B, 1, 6, 6, 0, 10000, .u16, .rw, 0, .full, false⟩]

/-- Rows of block can. -/
def canRows : List Row := [
  ⟨0x0, 1, 1, 1, 0, 10000, .u8, .rw, 0, .between 0 4, false⟩,
  ⟨0x0, 1, 2, 2, 0, 10000, .u8, .rw, 1, .between 1 2, false⟩,
  ⟨0x0, 1, 3, 3, 0, 10000, .u8, .wo, 0, .full, false⟩,
  ⟨0x0, 1, 4, 4, 0, 10000, .u16, .rw, 0, .sticky 0x7F, false⟩,
  ⟨0x0, 1, 5, 5, 0, 10000, .u16, .ro, 0, .full, false⟩,
  ⟨0x0, 1, 6, 6, 0, 10000, .u16, .ro, 0, .full, false⟩,
  ⟨0x1, 1, 1, 1, 0, 10000, .u16, .rws, 2, .between 1 32, true⟩,
  ⟨0x1, 1, 2, 2, 0, 10000, .u16, .rws, 63, .between 2 256, false⟩,
  ⟨0x1, 1, 3, 3, 0, 10000, .u16, .rws, 16, .between 2 128, false⟩,
  ⟨0x1, 1, 4, 4, 0, 10000, .u16, .rws, 16, .between 1 128, false⟩,
  ⟨0x1, 1, 5, 5, 0, 10000, .u8, .rws, 1, .between 1 32, true⟩,
  ⟨0x1, 1, 6, 6, 0, 10000, .u8, .rws, 29, .between 1 32, false⟩,
  ⟨0x1, 1, 7, 7, 0, 10000, .u8, .rws, 10, .between 1 16, false⟩,
  ⟨0x1, 1, 8, 8, 0, 10000, .u8, .rws, 10, .between 1 16, false⟩,
  ⟨0x1, 1, 9, 9, 0, 10000, .bool, .rws, 1, .full, false⟩,
  ⟨0x1, 1, 10, 10, 0, 10000, .u8, .rws, 20, .between 0 127, false⟩,
  ⟨0x3, 1, 1, 1, 0, 10000, .u64, .ro, 0, .full, false⟩,
  ⟨0x3, 1, 2, 2, 0, 10000, .u64, .ro, 0, .full, false⟩,
  ⟨0x3, 1, 3, 3, 0, 10000, .u64, .ro, 0, .full, false⟩,
  ⟨0x3, 1, 4, 4, 0, 10000, .u64, .ro, 0, .full, false⟩,
  ⟨0x3, 1, 5, 5, 0, 10000, .u64, .ro, 0, .full, false⟩,
  ⟨0x3, 1, 6, 6, 0, 10000, .u64, .ro, 0, .full, false⟩,
  ⟨0x3, 1, 7, 7, 0, 10000, .u64, .ro, 0, .full, false⟩,
  ⟨0x3, 1, 8, 8, 0, 10000, .u32, .ro, 0, .full, false⟩,
  ⟨0x3, 1, 9, 9, 0, 10000, .u32, .ro, 0, .full, false⟩,
  ⟨0x4, 1, 2, 2, 0, 10000, .dom, .rws, 0, .full, false⟩,
  ⟨0x4, 1, 3, 3, 0, 10000, .u16, .rw, 100, .full, true⟩,
  ⟨0x4, 1, 4, 4, 0, 10000, .u32, .rw, 0, .full, false⟩,
  ⟨0x4, 1, 5, 5, 0, 10000, .u8, .rw, 2, .between 1 3, false⟩,
  ⟨0x4, 1, 6, 6, 0, 10000, .u8, .ro, 255, .full, false⟩,
  ⟨0x10, 64, 1, 1, 0, 10000, .u8, .rws, 0, .between 0 2, false⟩,
  ⟨0x10, 64, 2, 2, 0, 10000, .u32, .rw, 0, .between 0 536870911, false⟩,
  ⟨0x10, 64, 3, 3, 0, 10000, .u8, .rw, 0, .between 0 31, false⟩,
  ⟨0x10, 64, 4, 4, 0, 10000, .u8, .rw, 0, .between 0 64, false⟩,
  ⟨0x10, 64, 5, 5, 0, 10000, .dom, .rw, 0, .full, false⟩,
  ⟨0x10, 64, 6, 6, 0, 10000, .u8, .wo, 0, .full, false⟩,
  ⟨0x10, 64, 7, 7, 0, 10000, .u8, .ro, 0, .full, false⟩,
  ⟨0x10, 64, 8, 8, 0, 10000, .u64, .ro, 0, .full, false⟩,
  ⟨0x10, 64, 9, 9, 0, 10000, .bool, .rws, 0, .full, false⟩,
  ⟨0x10, 64, 10, 10, 0, 10000, .u16, .rws, 65535, .betweenOr 0 4095 65535, false⟩,
  ⟨0x10, 64, 11, 11, 0, 10000, .u16, .rws, 65535, .betweenOr 0 4095 65535, false⟩,
  ⟨0x10, 64, 12, 12, 0, 10000, .u16, .rws, 65535, .betweenOr 0 4095 65535, false⟩,
  ⟨0x50, 32, 1, 1, 0, 10000, .bool, .rws, 0, .full, false⟩,
  ⟨0x50, 32, 2, 2, 0, 10000, .bool, .rws, 0, .full, false⟩,
  ⟨0x50, 32, 3, 3, 0, 10000, .u32, .rws, 0, .between 0 536870911, false⟩,
  ⟨0x50, 32, 4, 4, 0, 10000, .u32, .rws, 0, .between 0 536870911, false⟩,
  ⟨0x50, 32, 5, 5, 0, 10000, .u8, .rws, 0, .between 0 63, false⟩,
  ⟨0x70, 1, 1, 1, 0, 10000, .u32, .rws, 1000000, .between 100000 1000000000, true⟩,
  ⟨0x70, 1, 2, 2, 0, 10000, .u8, .rws, 64, .between 1 64, true⟩,
  ⟨0x70, 1, 3, 3, 0, 10000, .dom, .rws, 0, .full, false⟩]

/-- Rows of block cmp. -/
def cmpRows : List Row := [
  ⟨0x0, 1, 1, 1, 0, 10000, .u8, .rws, 255, .betweenOr 0 15 255, false⟩,
  ⟨0x0, 1, 2, 2, 0, 10000, .u8, .rws, 1, .between 1 2, false⟩,
  ⟨0x0, 1, 3, 3, 0, 10000, .bool, .rws, 0, .full, false⟩,
  ⟨0x0, 1, 4, 4, 0, 10000, .i64, .rws, 0, .full, false⟩,
  ⟨0x0, 1, 5, 5, 0, 10000, .bool, .rw, 0, .full, false⟩,
  ⟨0x1, 1, 1, 1, 0, 10000, .record, .wo, 0, .full, false⟩,
  ⟨0x1, 1, 2, 2, 0, 10000, .u8, .wo, 0, .full, false⟩,
  ⟨0x1, 1, 3, 3, 0, 10000, .u16, .ro, 0, .full, false⟩,
  ⟨0x1, 1, 4, 4, 0, 10000, .i64, .ro, 0, .full, false⟩,
  ⟨0x1, 1, 5, 5, 0, 10000, .i64, .ro, 0, .full, false⟩,
  ⟨0x1, 1, 6, 6, 0, 10000, .u64, .ro, 0, .full, false⟩,
  ⟨0x1, 1, 7, 7, 0, 10000, .u16, .rw, 0, .sticky 0x3, false⟩,
  ⟨0x2, 1, 1, 1, 0, 10000, .u64, .ro, 0, .full, false⟩,
  ⟨0x2, 1, 2, 2, 0, 10000, .u64, .ro, 0, .full, false⟩,
  ⟨0x2, 1, 3, 3, 0, 10000, .u64, .ro, 0, .full, false⟩,
  ⟨0x2, 1, 4, 4, 0, 10000, .u64, .ro, 0, .full, false⟩,
  ⟨0x2, 1, 5, 5, 0, 10000, .u64, .ro, 0, .full, false⟩]

/-- Rows of block emu. -/
def emuRows : List Row := [
  ⟨0x0, 1, 1, 1, 0, 10000, .u8, .rws, 0, .between 0 2, false⟩,
  ⟨0x0, 1, 2, 2, 0, 10000, .u16, .rws, 0, .full, false⟩,
  ⟨0x0, 1, 3, 3, 0, 10000, .u32, .rws, 1, .full, false⟩,
  ⟨0x0, 1, 4, 4, 0, 10000, .u32, .rws, 1, .full, true⟩,
  ⟨0x0, 1, 5, 5, 0, 10000, .u64, .rws, 65536, .full, true⟩,
  ⟨0x0, 1, 6, 6, 0, 10000, .u32, .rw, 40000000, .between 0 40000000, false⟩,
  ⟨0x0, 1, 7, 7, 0, 10000, .u32, .rws, 0, .full, false⟩,
  ⟨0x0, 1, 8, 8, 0, 10000, .u32, .rw, 0, .full, false⟩,
  ⟨0x1, 1, 1, 1, 0, 10000, .i64, .ro, 0, .full, false⟩,
  ⟨0x1, 1, 2, 2, 0, 10000, .i64, .ro, 0, .full, false⟩,
  ⟨0x1, 1, 3, 3, 0, 10000, .i64, .ro, 0, .full, false⟩,
  ⟨0x1, 1, 4, 4, 0, 10000, .i64, .ro, 0, .full, false⟩,
  ⟨0x1, 1, 5, 5, 0, 10000, .u16, .rw, 0, .sticky 0x3, false⟩]

/-- Rows of block fb. -/
def fbRows : List Row := [
  ⟨0x0, 1, 1, 1, 0, 10000, .u8, .rws, 0, .between 0 6, false⟩,
  ⟨0x0, 1, 3, 3, 0, 10000, .u16, .rws, 8, .between 0 40000, false⟩,
  ⟨0x0, 1, 4, 4, 0, 10000, .u8, .rws, 0, .between 0 2, false⟩,
  ⟨0x0, 1, 5, 5, 0, 10000, .u8, .rws, 255, .betweenOr 0 3 255, false⟩,
  ⟨0x0, 1, 6, 6, 0, 10000, .i64, .rw, 0, .full, false⟩,
  ⟨0x0, 1, 7, 7, 0, 10000, .u8, .wo, 0, .full, false⟩,
  ⟨0x0, 1, 8, 8, 0, 10000, .i64, .rw, 0, .full, false⟩,
  ⟨0x1, 1, 1, 1, 0, 10000, .i64, .ro, 0, .full, false⟩,
  ⟨0x1, 1, 2, 2, 0, 10000, .u64, .ro, 0, .full, false⟩,
  ⟨0x1, 1, 3, 3, 0, 10000, .i64, .ro, 0, .full, false⟩,
  ⟨0x1, 1, 4, 4, 0, 10000, .u64, .ro, 0, .full, false⟩,
  ⟨0x1, 1, 5, 5, 0, 10000, .u8, .ro, 0, .full, false⟩,
  ⟨0x1, 1, 6, 6, 0, 10000, .u16, .rw, 0, .sticky 0x3F, false⟩,
  ⟨0x2, 1, 1, 1, 0, 10000, .u8, .rws, 25, .between 8 48, false⟩,
  ⟨0x2, 1, 2, 2, 0, 10000, .u32, .rws, 1000000, .between 100000 10000000, true⟩,
  ⟨0x2, 1, 3, 3, 0, 10000, .u8, .rws, 0, .between 0 40, false⟩,
  ⟨0x2, 1, 4, 4, 0, 10000, .u8, .rws, 24, .between 8 48, false⟩,
  ⟨0x2, 1, 5, 5, 0, 10000, .u32, .rw, 0, .full, false⟩,
  ⟨0x2, 1, 6, 6, 0, 10000, .u32, .ro, 0, .full, false⟩,
  ⟨0x2, 1, 7, 7, 0, 10000, .u8, .rw, 3, .full, false⟩,
  ⟨0x2, 1, 8, 8, 0, 10000, .u32, .ro, 0, .full, false⟩,
  ⟨0x3, 1, 1, 1, 0, 10000, .u16, .rw, 16, .full, false⟩,
  ⟨0x4, 1, 1, 1, 0, 10000, .u8, .rws, 255, .betweenOr 0 15 255, false⟩,
  ⟨0x4, 1, 2, 2, 0, 10000, .i64, .ro, 0, .full, false⟩,
  ⟨0x4, 1, 3, 3, 0, 10000, .u64, .ro, 0, .full, false⟩,
  ⟨0x4, 1, 4, 4, 0, 10000, .u8, .ro, 0, .full, false⟩,
  ⟨0x8, 1, 1, 1, 0, 10000, .u64, .ro, 0, .full, false⟩,
  ⟨0x8, 1, 2, 2, 0, 10000, .u64, .ro, 0, .full, false⟩,
  ⟨0x8, 1, 3, 3, 0, 10000, .u64, .ro, 0, .full, false⟩,
  ⟨0x8, 1, 4, 4, 0, 10000, .u64, .ro, 0, .full, false⟩,
  ⟨0x8, 1, 5, 5, 0, 10000, .i64, .ro, 0, .full, false⟩,
  ⟨0x8, 1, 6, 6, 0, 10000, .i64, .ro, 0, .full, false⟩]

/-- Rows of block graft. -/
def graftRows : List Row := [
  ⟨0x0, 1, 1, 1, 0, 10000, .u8, .rws, 0, .between 0 4, false⟩,
  ⟨0x0, 1, 2, 2, 0, 10000, .u8, .rws, 0, .between 0 6, false⟩,
  ⟨0x0, 1, 3, 3, 0, 10000, .u16, .rws, 0, .full, false⟩,
  ⟨0x0, 1, 4, 4, 0, 10000, .u16, .rws, 0, .full, false⟩,
  ⟨0x0, 1, 5, 5, 0, 10000, .u8, .rws, 255, .betweenOr 0 63 255, false⟩,
  ⟨0x1, 1, 1, 1, 0, 10000, .i32, .rws, 1, .full, false⟩,
  ⟨0x1, 1, 2, 2, 0, 10000, .u32, .rws, 1, .full, true⟩,
  ⟨0x1, 1, 3, 3, 0, 10000, .u32, .rws, 0, .between 0 65536, false⟩,
  ⟨0x1, 1, 4, 4, 0, 10000, .i64, .rws, 0, .full, false⟩,
  ⟨0x1, 1, 5, 5, 0, 10000, .dom, .rws, 0, .full, false⟩,
  ⟨0x1, 1, 6, 6, 0, 10000, .u16, .rws, 65535, .betweenOr 0 4095 65535, false⟩,
  ⟨0x1, 1, 7, 7, 0, 10000, .i64, .rw, 0, .full, false⟩,
  ⟨0x1, 1, 8, 8, 0, 10000, .u32, .rw, 256, .full, false⟩,
  ⟨0x1, 1, 9, 9, 0, 10000, .u64, .rw, 4294967296, .full, false⟩,
  ⟨0x1, 1, 10, 10, 0, 10000, .u32, .rw, 0, .full, false⟩,
  ⟨0x1, 1, 11, 11, 0, 10000, .u8, .rw, 1, .between 1 2, false⟩,
  ⟨0x2, 1, 1, 1, 0, 10000, .u8, .wo, 0, .full, false⟩,
  ⟨0x2, 1, 2, 2, 0, 10000, .u8, .ro, 0, .full, false⟩,
  ⟨0x2, 1, 3, 3, 0, 10000, .u16, .rw, 0, .sticky 0x1F, false⟩,
  ⟨0x2, 1, 4, 4, 0, 10000, .i32, .ro, 0, .full, false⟩,
  ⟨0x2, 1, 5, 5, 0, 10000, .i64, .ro, 0, .full, false⟩,
  ⟨0x2, 1, 6, 6, 0, 10000, .u32, .ro, 0, .full, false⟩,
  ⟨0x2, 1, 7, 7, 0, 10000, .u8, .ro, 0, .full, false⟩,
  ⟨0x2, 1, 8, 8, 0, 10000, .u8, .rw, 2, .full, false⟩,
  ⟨0x2, 1, 9, 9, 0, 10000, .u8, .ro, 0, .full, false⟩,
  ⟨0x2, 1, 10, 10, 0, 10000, .i64, .ro, 0, .full, false⟩,
  ⟨0x2, 1, 11, 11, 0, 10000, .i32, .ro, 0, .full, false⟩,
  ⟨0x3, 1, 1, 1, 0, 10000, .i64, .ro, 0, .full, false⟩,
  ⟨0x3, 1, 2, 2, 0, 10000, .i64, .ro, 0, .full, false⟩,
  ⟨0x3, 1, 3, 3, 0, 10000, .i64, .ro, 0, .full, false⟩]

/-- Rows of block mark. -/
def markRows : List Row := [
  ⟨0x0, 1, 1, 1, 0, 10000, .u8, .rws, 1, .between 1 3, false⟩,
  ⟨0x0, 1, 2, 2, 0, 10000, .u16, .rw, 4, .full, false⟩,
  ⟨0x0, 1, 3, 3, 0, 10000, .u8, .rws, 255, .betweenOr 0 63 255, false⟩,
  ⟨0x0, 1, 4, 4, 0, 10000, .u32, .rw, 0, .full, false⟩,
  ⟨0x0, 1, 5, 5, 0, 10000, .u32, .rw, 0, .full, false⟩,
  ⟨0x0, 1, 6, 9, 0, 10000, .u8, .rws, 255, .betweenOr 0 63 255, false⟩,
  ⟨0x1, 1, 1, 1, 0, 10000, .u16, .rws, 65535, .betweenOr 0 4095 65535, false⟩,
  ⟨0x1, 1, 2, 5, 0, 10000, .u16, .rws, 65535, .betweenOr 0 4095 65535, false⟩,
  ⟨0x1, 1, 6, 6, 0, 10000, .u16, .rws, 65535, .betweenOr 0 4095 65535, false⟩,
  ⟨0x2, 1, 1, 1, 0, 10000, .u8, .ro, 0, .full, false⟩,
  ⟨0x2, 1, 2, 2, 0, 10000, .u64, .ro, 0, .full, false⟩,
  ⟨0x2, 1, 3, 3, 0, 10000, .u16, .ro, 0, .full, false⟩,
  ⟨0x2, 1, 4, 7, 0, 10000, .i64, .ro, 0, .full, false⟩,
  ⟨0x2, 1, 8, 8, 0, 10000, .u16, .rw, 0, .sticky 0x7, false⟩,
  ⟨0x3, 1, 1, 1, 0, 10000, .u64, .ro, 0, .full, false⟩,
  ⟨0x3, 1, 2, 2, 0, 10000, .u64, .ro, 0, .full, false⟩,
  ⟨0x3, 1, 3, 3, 0, 10000, .u64, .ro, 0, .full, false⟩,
  ⟨0x3, 1, 4, 4, 0, 10000, .u64, .ro, 0, .full, false⟩]

/-- Rows of block path. -/
def pathRows : List Row := [
  ⟨0x0, 1, 1, 6, 0, 10000, .u8, .rws, 255, .betweenOr 0 63 255, false⟩,
  ⟨0x1, 1, 1, 1, 0, 10000, .u8, .wo, 0, .full, false⟩,
  ⟨0x1, 1, 2, 2, 0, 10000, .u8, .ro, 0, .full, false⟩,
  ⟨0x1, 1, 3, 3, 0, 10000, .i32, .ro, 1073741824, .full, false⟩,
  ⟨0x2, 1, 1, 1, 0, 10000, .u32, .rw, 65536, .full, false⟩,
  ⟨0x2, 1, 2, 2, 0, 10000, .u32, .rw, 65536, .full, true⟩,
  ⟨0x2, 1, 3, 3, 0, 10000, .u32, .rw, 65536, .full, true⟩,
  ⟨0x2, 1, 4, 4, 0, 10000, .u32, .rw, 4096, .full, false⟩,
  ⟨0x3, 1, 1, 1, 0, 10000, .u16, .rws, 0, .between 0 1024, false⟩,
  ⟨0x3, 1, 2, 2, 0, 10000, .dom, .rws, 0, .full, false⟩]

/-- Rows of block ps0. -/
def ps0Rows : List Row := [
  ⟨0x0, 1, 1, 1, 0, 10000, .u8, .rws, 1, .between 1 64, true⟩,
  ⟨0x0, 1, 2, 2, 0, 10000, .u16, .ro, 25000, .full, false⟩,
  ⟨0x0, 1, 3, 3, 0, 10000, .u16, .rws, 160, .between 0 2047, false⟩,
  ⟨0x0, 1, 4, 4, 0, 10000, .u16, .rws, 100, .between 0 1023, false⟩,
  ⟨0x0, 1, 5, 5, 0, 10000, .i16, .ro, 0, .full, false⟩,
  ⟨0x0, 1, 6, 6, 0, 10000, .u8, .rws, 0, .between 0 63, false⟩,
  ⟨0x0, 1, 7, 7, 0, 10000, .u8, .ro, 0, .full, false⟩,
  ⟨0x0, 1, 8, 8, 0, 10000, .u8, .ro, 0, .full, false⟩,
  ⟨0x1, 1, 1, 3, 0, 10000, .u8, .rws, 1, .between 0 2, false⟩,
  ⟨0x1, 1, 4, 5, 0, 10000, .u8, .rws, 2, .between 1 2, false⟩,
  ⟨0x1, 1, 6, 8, 0, 10000, .u16, .rw, 8, .between 0 4000, false⟩,
  ⟨0x1, 1, 9, 11, 0, 10000, .u16, .rw, 0, .between 0 4000, false⟩,
  ⟨0x2, 1, 1, 1, 0, 10000, .u8, .rws, 8, .full, false⟩,
  ⟨0x2, 1, 2, 2, 0, 10000, .u16, .rws, 16, .full, false⟩,
  ⟨0x2, 1, 3, 3, 0, 10000, .u8, .ro, 0, .full, false⟩,
  ⟨0x3, 1, 1, 1, 0, 10000, .u16, .rw, 0, .sticky 0x77, false⟩,
  ⟨0x3, 1, 2, 2, 0, 10000, .u32, .ro, 0, .full, false⟩,
  ⟨0x3, 1, 3, 3, 0, 10000, .u32, .ro, 0, .full, false⟩,
  ⟨0x3, 1, 4, 4, 0, 10000, .u32, .ro, 0, .full, false⟩,
  ⟨0x4, 4, 1, 1, 0, 10000, .u8, .rws, 0, .between 0 3, false⟩,
  ⟨0x4, 4, 2, 2, 0, 10000, .u16, .rw, 0, .full, false⟩,
  ⟨0x4, 4, 3, 3, 0, 10000, .u8, .rws, 1, .between 1 2, false⟩,
  ⟨0x4, 4, 4, 4, 0, 10000, .u8, .rws, 0, .between 0 7, false⟩,
  ⟨0x8, 3, 1, 1, 0, 10000, .i64, .ro, 0, .full, false⟩,
  ⟨0x8, 3, 2, 2, 0, 10000, .i64, .ro, 0, .full, false⟩,
  ⟨0x8, 3, 3, 3, 0, 10000, .i64, .ro, 0, .full, false⟩,
  ⟨0x8, 3, 4, 4, 0, 10000, .i64, .ro, 0, .full, false⟩,
  ⟨0x8, 3, 5, 5, 0, 10000, .i64, .ro, 0, .full, false⟩]

/-- Rows of block ps1. -/
def ps1Rows : List Row := [
  ⟨0x10, 1, 1, 1, 0, 10000, .u8, .rws, 0, .between 0 63, false⟩,
  ⟨0x10, 1, 2, 2, 0, 10000, .u8, .rws, 0, .between 0 63, false⟩,
  ⟨0x10, 1, 3, 3, 0, 10000, .u8, .rws, 0, .betweenOr 0 63 255, false⟩,
  ⟨0x10, 1, 4, 4, 0, 10000, .u8, .rws, 3, .between 1 3, false⟩,
  ⟨0x10, 1, 5, 5, 0, 10000, .u16, .rws, 16, .between 4 256, true⟩,
  ⟨0x10, 1, 6, 6, 0, 10000, .u8, .rws, 1, .between 1 2, false⟩,
  ⟨0x10, 1, 7, 7, 0, 10000, .u16, .rws, 80, .between 0 4000, false⟩,
  ⟨0x10, 1, 8, 8, 0, 10000, .u32, .rw, 65536, .full, false⟩,
  ⟨0x10, 1, 9, 9, 0, 10000, .u8, .rw, 2, .full, false⟩,
  ⟨0x11, 1, 1, 1, 0, 10000, .i32, .rws, 3276800, .full, false⟩,
  ⟨0x11, 1, 2, 2, 0, 10000, .i32, .rws, 3276800, .full, false⟩,
  ⟨0x11, 1, 3, 3, 0, 10000, .i32, .rws, 3276800, .full, false⟩,
  ⟨0x11, 1, 4, 4, 0, 10000, .i32, .rw, 0, .full, false⟩,
  ⟨0x11, 1, 5, 5, 0, 10000, .i32, .rw, 0, .full, false⟩,
  ⟨0x11, 1, 6, 6, 0, 10000, .i32, .rw, 0, .full, false⟩,
  ⟨0x12, 1, 1, 1, 0, 10000, .bool, .rws, 0, .full, false⟩,
  ⟨0x12, 1, 2, 2, 0, 10000, .u8, .rws, 3, .between 1 3, false⟩,
  ⟨0x12, 1, 3, 3, 0, 10000, .u16, .rws, 64, .between 4 256, true⟩,
  ⟨0x12, 1, 4, 4, 0, 10000, .i32, .rws, 65536, .full, false⟩,
  ⟨0x12, 1, 5, 5, 0, 10000, .i32, .rw, 0, .full, false⟩,
  ⟨0x12, 1, 6, 6, 0, 10000, .u16, .rws, 65535, .betweenOr 0 4095 65535, false⟩,
  ⟨0x12, 1, 7, 7, 0, 10000, .i32, .rw, 2147483647, .full, false⟩,
  ⟨0x12, 1, 8, 8, 0, 10000, .i32, .rw, (-2147483648), .full, false⟩,
  ⟨0x12, 1, 9, 9, 0, 10000, .u8, .rws, 0, .between 0 2, false⟩,
  ⟨0x12, 1, 10, 10, 0, 10000, .i32, .ro, 0, .full, false⟩,
  ⟨0x13, 1, 1, 1, 0, 10000, .bool, .rws, 0, .full, false⟩,
  ⟨0x13, 1, 2, 2, 0, 10000, .u8, .rws, 2, .between 1 3, false⟩,
  ⟨0x13, 1, 3, 3, 0, 10000, .u8, .rws, 8, .between 4 32, true⟩,
  ⟨0x13, 1, 4, 4, 0, 10000, .i32, .rw, 2147483647, .full, false⟩,
  ⟨0x13, 1, 5, 5, 0, 10000, .i32, .rw, (-2147483648), .full, false⟩,
  ⟨0x13, 1, 6, 6, 0, 10000, .u8, .rw, 1, .full, false⟩,
  ⟨0x14, 1, 1, 1, 0, 10000, .i32, .rws, 52428800, .full, false⟩,
  ⟨0x14, 1, 2, 2, 0, 10000, .i32, .rw, 0, .full, false⟩,
  ⟨0x14, 1, 3, 3, 0, 10000, .bool, .rws, 0, .full, false⟩,
  ⟨0x14, 1, 4, 4, 0, 10000, .u8, .rws, 2, .between 1 2, false⟩,
  ⟨0x14, 1, 5, 5, 0, 10000, .i32, .rw, 0, .full, false⟩,
  ⟨0x14, 1, 6, 6, 0, 10000, .i32, .rw, 0, .full, false⟩,
  ⟨0x14, 1, 7, 7, 0, 10000, .u16, .rw, 200, .full, false⟩,
  ⟨0x14, 1, 8, 8, 0, 10000, .i32, .ro, 0, .full, false⟩,
  ⟨0x14, 1, 9, 9, 0, 10000, .i32, .ro, 0, .full, false⟩,
  ⟨0x14, 1, 10, 10, 0, 10000, .i32, .ro, 0, .full, false⟩,
  ⟨0x14, 1, 11, 11, 0, 10000, .u32, .ro, 0, .full, false⟩,
  ⟨0x14, 1, 12, 12, 0, 10000, .u32, .ro, 0, .full, false⟩,
  ⟨0x18, 1, 1, 1, 0, 10000, .u8, .rws, 20, .between 16 80, true⟩,
  ⟨0x18, 1, 2, 2, 0, 10000, .bool, .rws, 0, .full, false⟩,
  ⟨0x18, 1, 3, 3, 0, 10000, .u8, .rws, 1, .between 1 2, false⟩,
  ⟨0x18, 1, 4, 4, 0, 10000, .u8, .rws, 0, .between 0 12, false⟩]

/-- Rows of block root10. -/
def root10Rows : List Row := [
  ⟨0x1000, 1, 0, 0, 0, 10000, .u32, .ro, 4194706, .full, false⟩,
  ⟨0x1008, 1, 0, 0, 0, 10000, .str, .ro, 0, .full, false⟩,
  ⟨0x1009, 1, 0, 0, 0, 10000, .str, .ro, 0, .full, false⟩,
  ⟨0x100A, 1, 0, 0, 0, 10000, .str, .ro, 0, .full, false⟩,
  ⟨0x1018, 1, 1, 1, 0, 10000, .u32, .ro, 2641, .full, false⟩,
  ⟨0x1018, 1, 2, 2, 0, 10000, .u32, .ro, 25622, .full, false⟩,
  ⟨0x1018, 1, 3, 3, 0, 10000, .u32, .ro, 0, .full, false⟩,
  ⟨0x1018, 1, 4, 4, 0, 10000, .u32, .ro, 0, .full, false⟩,
  ⟨0x1019, 1, 0, 0, 0, 10000, .u8, .ro, 0, .full, false⟩]

/-- Rows of block root11. -/
def root11Rows : List Row := [
  ⟨0x1100, 1, 1, 1, 0, 10000, .u16, .ro, 0, .full, false⟩,
  ⟨0x1100, 1, 2, 2, 0, 10000, .u32, .rw, 10000, .between 0 3600000, false⟩,
  ⟨0x1100, 1, 3, 3, 0, 10000, .u16, .ro, 0, .full, false⟩]

/-- Rows of block root1F. -/
def root1FRows : List Row := [
  ⟨0x1F80, 1, 1, 1, 0, 10000, .u8, .rw, 0, .between 0 63, false⟩,
  ⟨0x1F80, 1, 2, 2, 0, 10000, .u8, .rw, 1, .between 0 63, false⟩]

/-- Rows of block root20, part 0. -/
def root20Rows_0 : List Row := [
  ⟨0x2000, 1, 1, 1, 0, 10000, .u8, .rws, 3, .between 1 6, true⟩,
  ⟨0x2000, 1, 3, 3, 0, 10000, .u32, .rws, 0, .between 0 250000, false⟩,
  ⟨0x2000, 1, 4, 4, 0, 10000, .u64, .ro, 0, .full, false⟩,
  ⟨0x2000, 1, 5, 5, 0, 10000, .u64, .ro, 0, .full, false⟩,
  ⟨0x2000, 1, 6, 6, 0, 10000, .u8, .rw, 3, .full, false⟩,
  ⟨0x2001, 1, 1, 1, 0, 10000, .u16, .ro, 0, .full, false⟩,
  ⟨0x2001, 1, 2, 2, 0, 10000, .u64, .ro, 0, .full, false⟩,
  ⟨0x2001, 1, 3, 3, 0, 10000, .u32, .ro, 90000, .full, false⟩,
  ⟨0x2001, 1, 4, 4, 0, 10000, .u8, .ro, 255, .full, false⟩,
  ⟨0x2001, 1, 17, 24, 0, 10000, .u32, .ro, 0, .full, false⟩,
  ⟨0x2001, 1, 33, 40, 0, 10000, .u32, .rw, 0, .oneOf [0], false⟩,
  ⟨0x2002, 1, 1, 8, 0, 10000, .u32, .ro, 0, .full, false⟩,
  ⟨0x2003, 1, 0, 0, 0, 10000, .u16, .rw, 0, .sticky 0xFFE0, false⟩,
  ⟨0x2030, 16, 1, 1, 0, 10000, .u64, .rws, 0, .full, false⟩,
  ⟨0x2030, 16, 2, 2, 0, 10000, .u8, .rws, 0, .between 0 63, false⟩,
  ⟨0x2030, 16, 3, 3, 0, 10000, .u8, .ro, 0, .full, false⟩,
  ⟨0x2050, 1, 1, 1, 0, 10000, .u32, .ro, 0, .full, false⟩,
  ⟨0x2050, 1, 2, 2, 0, 10000, .u8, .ro, 0, .full, false⟩,
  ⟨0x2050, 1, 3, 3, 0, 10000, .u16, .ro, 0, .full, false⟩,
  ⟨0x2050, 1, 4, 4, 0, 10000, .u16, .rw, 0, .sticky 0xFFFF, false⟩,
  ⟨0x2050, 1, 5, 5, 0, 10000, .u16, .ro, 65535, .full, false⟩,
  ⟨0x2010, 1, 1, 1, 0, 10000, .u8, .wo, 0, .full, false⟩,
  ⟨0x2010, 1, 2, 2, 0, 10000, .u64, .rw, 0, .full, false⟩,
  ⟨0x2010, 1, 3, 3, 0, 10000, .u64, .rw, 0, .full, false⟩,
  ⟨0x2010, 1, 4, 4, 0, 10000, .u16, .ro, 0, .full, false⟩,
  ⟨0x2010, 1, 5, 5, 0, 10000, .u32, .ro, 0, .full, false⟩,
  ⟨0x2010, 1, 6, 6, 0, 10000, .u32, .ro, 0, .full, false⟩,
  ⟨0x2010, 1, 7, 7, 0, 10000, .u32, .ro, 0, .full, false⟩,
  ⟨0x2010, 1, 8, 8, 0, 10000, .u16, .ro, 0, .full, false⟩,
  ⟨0x2010, 1, 9, 9, 0, 10000, .u8, .ro, 0, .full, false⟩,
  ⟨0x2011, 1, 1, 1, 0, 10000, .u32, .ro, 0, .full, false⟩,
  ⟨0x2011, 1, 2, 2, 0, 10000, .u32, .ro, 0, .full, false⟩,
  ⟨0x2040, 16, 1, 1, 0, 10000, .u64, .rws, 0, .full, false⟩,
  ⟨0x2040, 16, 2, 2, 0, 10000, .u8, .wo, 0, .full, false⟩,
  ⟨0x2040, 16, 3, 3, 0, 10000, .u8, .ro, 0, .full, false⟩,
  ⟨0x2040, 16, 4, 4, 0, 10000, .u32, .ro, 0, .full, false⟩,
  ⟨0x2040, 16, 5, 5, 0, 10000, .u64, .ro, 0, .full, false⟩,
  ⟨0x2040, 16, 6, 6, 0, 10000, .u32, .ro, 0, .full, false⟩,
  ⟨0x2020, 1, 1, 1, 0, 10000, .u8, .ro, 0, .full, false⟩,
  ⟨0x2020, 1, 2, 2, 0, 10000, .u8, .wo, 0, .full, false⟩,
  ⟨0x2020, 1, 3, 3, 0, 10000, .u8, .rws, 0, .between 0 2, false⟩,
  ⟨0x2020, 1, 4, 4, 0, 10000, .u16, .rw, 0, .sticky 0x1F, false⟩,
  ⟨0x2020, 1, 5, 5, 0, 10000, .u8, .ro, 0, .full, false⟩,
  ⟨0x2020, 1, 6, 6, 0, 10000, .u32, .ro, 0, .full, false⟩,
  ⟨0x2020, 1, 7, 7, 0, 10000, .u8, .ro, 0, .full, false⟩,
  ⟨0x2020, 1, 8, 11, 0, 10000, .i32, .ro, 0, .full, false⟩,
  ⟨0x2051, 1, 1, 1, 0, 10000, .u64, .snap, 0, .full, false⟩,
  ⟨0x2051, 1, 2, 2, 0, 10000, .u64, .snap, 0, .full, false⟩,
  ⟨0x2051, 1, 3, 3, 0, 10000, .u64, .snap, 0, .full, false⟩,
  ⟨0x2052, 1, 1, 1, 0, 10000, .u64, .snap, 0, .full, false⟩,
  ⟨0x2052, 1, 2, 2, 0, 10000, .u64, .snap, 0, .full, false⟩,
  ⟨0x2052, 1, 3, 3, 0, 10000, .u64, .snap, 0, .full, false⟩,
  ⟨0x2052, 1, 4, 4, 0, 10000, .u64, .snap, 0, .full, false⟩,
  ⟨0x2053, 1, 1, 1, 0, 10000, .u64, .snap, 0, .full, false⟩,
  ⟨0x2053, 1, 2, 2, 0, 10000, .u64, .snap, 0, .full, false⟩,
  ⟨0x2053, 1, 3, 3, 0, 10000, .u64, .snap, 0, .full, false⟩,
  ⟨0x2053, 1, 4, 4, 0, 10000, .u64, .snap, 0, .full, false⟩,
  ⟨0x2053, 1, 5, 5, 0, 10000, .u64, .snap, 0, .full, false⟩,
  ⟨0x2053, 1, 6, 6, 0, 10000, .u64, .snap, 0, .full, false⟩,
  ⟨0x2053, 1, 7, 7, 0, 10000, .u64, .snap, 0, .full, false⟩]

/-- Rows of block root20, part 1. -/
def root20Rows_1 : List Row := [
  ⟨0x2054, 1, 1, 1, 0, 10000, .u64, .snap, 0, .full, false⟩,
  ⟨0x2054, 1, 2, 2, 0, 10000, .u64, .snap, 0, .full, false⟩,
  ⟨0x2054, 1, 3, 3, 0, 10000, .u64, .snap, 0, .full, false⟩,
  ⟨0x2055, 1, 1, 1, 0, 10000, .u64, .snap, 0, .full, false⟩,
  ⟨0x2055, 1, 2, 2, 0, 10000, .u64, .snap, 0, .full, false⟩,
  ⟨0x2055, 1, 3, 3, 0, 10000, .u64, .snap, 0, .full, false⟩,
  ⟨0x2055, 1, 4, 4, 0, 10000, .u64, .snap, 0, .full, false⟩,
  ⟨0x2055, 1, 5, 5, 0, 10000, .u64, .snap, 0, .full, false⟩,
  ⟨0x2056, 1, 1, 1, 0, 10000, .u64, .snap, 0, .full, false⟩,
  ⟨0x2056, 1, 2, 2, 0, 10000, .u64, .snap, 0, .full, false⟩,
  ⟨0x2056, 1, 3, 3, 0, 10000, .u64, .snap, 0, .full, false⟩,
  ⟨0x2056, 1, 4, 4, 0, 10000, .u64, .snap, 0, .full, false⟩,
  ⟨0x2056, 1, 5, 5, 0, 10000, .i64, .snap, 0, .full, false⟩,
  ⟨0x2056, 1, 6, 6, 0, 10000, .i64, .snap, 0, .full, false⟩,
  ⟨0x2056, 1, 7, 7, 0, 10000, .i64, .snap, 0, .full, false⟩,
  ⟨0x2057, 1, 1, 1, 0, 10000, .u64, .snap, 0, .full, false⟩,
  ⟨0x2057, 1, 2, 2, 0, 10000, .u64, .snap, 0, .full, false⟩,
  ⟨0x2057, 1, 3, 3, 0, 10000, .u64, .snap, 0, .full, false⟩,
  ⟨0x2057, 1, 4, 4, 0, 10000, .u64, .snap, 0, .full, false⟩,
  ⟨0x2057, 1, 5, 5, 0, 10000, .u64, .snap, 0, .full, false⟩,
  ⟨0x2057, 1, 6, 6, 0, 10000, .u64, .snap, 0, .full, false⟩,
  ⟨0x2058, 1, 1, 1, 0, 10000, .i64, .snap, 0, .full, false⟩,
  ⟨0x2058, 1, 2, 2, 0, 10000, .i64, .snap, 0, .full, false⟩,
  ⟨0x2058, 1, 3, 3, 0, 10000, .i64, .snap, 0, .full, false⟩,
  ⟨0x2058, 1, 4, 4, 0, 10000, .i64, .snap, 0, .full, false⟩,
  ⟨0x2059, 1, 1, 1, 0, 10000, .u64, .snap, 0, .full, false⟩,
  ⟨0x2059, 1, 2, 2, 0, 10000, .u64, .snap, 0, .full, false⟩,
  ⟨0x2059, 1, 3, 3, 0, 10000, .u64, .snap, 0, .full, false⟩,
  ⟨0x2059, 1, 4, 4, 0, 10000, .u64, .snap, 0, .full, false⟩,
  ⟨0x205A, 1, 1, 1, 0, 10000, .u64, .snap, 0, .full, false⟩,
  ⟨0x205A, 1, 2, 2, 0, 10000, .u64, .snap, 0, .full, false⟩,
  ⟨0x205A, 1, 3, 3, 0, 10000, .u64, .snap, 0, .full, false⟩,
  ⟨0x205A, 1, 4, 4, 0, 10000, .u64, .snap, 0, .full, false⟩,
  ⟨0x205B, 1, 1, 1, 0, 10000, .u64, .snap, 0, .full, false⟩,
  ⟨0x205B, 1, 2, 2, 0, 10000, .u64, .snap, 0, .full, false⟩,
  ⟨0x205B, 1, 3, 3, 0, 10000, .u64, .snap, 0, .full, false⟩,
  ⟨0x205B, 1, 4, 4, 0, 10000, .u64, .snap, 0, .full, false⟩,
  ⟨0x205B, 1, 5, 5, 0, 10000, .u64, .snap, 0, .full, false⟩,
  ⟨0x205B, 1, 6, 6, 0, 10000, .u64, .snap, 0, .full, false⟩,
  ⟨0x205B, 1, 7, 7, 0, 10000, .u64, .snap, 0, .full, false⟩,
  ⟨0x205B, 1, 8, 8, 0, 10000, .u64, .snap, 0, .full, false⟩,
  ⟨0x205E, 1, 1, 1, 0, 10000, .i64, .snap, 0, .full, false⟩,
  ⟨0x205E, 1, 2, 2, 0, 10000, .i64, .snap, 0, .full, false⟩,
  ⟨0x205E, 1, 3, 3, 0, 10000, .i64, .snap, 0, .full, false⟩,
  ⟨0x205E, 1, 4, 4, 0, 10000, .i64, .snap, 0, .full, false⟩]

/-- Rows of block root20. -/
def root20Rows : List Row := root20Rows_0 ++ root20Rows_1

/-- Rows of block root21. -/
def root21Rows : List Row := [
  ⟨0x2100, 1, 1, 1, 0, 10000, .u64, .ro, 0, .full, false⟩,
  ⟨0x2100, 1, 2, 2, 0, 10000, .u64, .ro, 0, .full, false⟩,
  ⟨0x2100, 1, 3, 3, 0, 10000, .u64, .ro, 1099511627776, .full, false⟩,
  ⟨0x2100, 1, 4, 4, 0, 10000, .u64, .ro, 0, .full, false⟩,
  ⟨0x2100, 1, 5, 5, 0, 10000, .u64, .ro, 0, .full, false⟩,
  ⟨0x2100, 1, 6, 6, 0, 10000, .u16, .ro, 0, .full, false⟩,
  ⟨0x2100, 1, 7, 7, 0, 10000, .u64, .wo, 0, .full, false⟩,
  ⟨0x2101, 1, 1, 1, 0, 10000, .u8, .rws, 1, .between 1 4, false⟩,
  ⟨0x2101, 1, 2, 2, 0, 10000, .u8, .ro, 0, .full, false⟩,
  ⟨0x2101, 1, 3, 3, 0, 10000, .u16, .rw, 1000, .between 0 2000, false⟩,
  ⟨0x2101, 1, 4, 4, 0, 10000, .u32, .rw, 1000000, .full, false⟩,
  ⟨0x2101, 1, 5, 5, 0, 10000, .i64, .ro, 0, .full, false⟩,
  ⟨0x2101, 1, 6, 6, 0, 10000, .u32, .ro, 0, .full, false⟩,
  ⟨0x2101, 1, 7, 7, 0, 10000, .u32, .rw, 100, .full, false⟩,
  ⟨0x2101, 1, 8, 8, 0, 10000, .u32, .rw, 10000, .full, false⟩,
  ⟨0x2101, 1, 9, 9, 0, 10000, .u16, .rw, 0, .sticky 0xFF, false⟩,
  ⟨0x2103, 3, 1, 1, 0, 10000, .bool, .rws, 1, .full, false⟩,
  ⟨0x2103, 3, 2, 2, 0, 10000, .i32, .rws, 0, .full, false⟩,
  ⟨0x2103, 3, 3, 3, 0, 10000, .u32, .rws, 0, .between 0 4294901760, false⟩,
  ⟨0x2103, 3, 4, 4, 0, 10000, .u32, .rws, 0, .between 0 4294901760, false⟩,
  ⟨0x2103, 3, 5, 5, 0, 10000, .u32, .ro, 0, .full, false⟩,
  ⟨0x2103, 3, 6, 6, 0, 10000, .u8, .ro, 0, .full, false⟩,
  ⟨0x2103, 3, 7, 7, 0, 10000, .i8, .rws, (-3), .between (-7) (1), false⟩,
  ⟨0x2103, 3, 8, 8, 0, 10000, .i8, .rws, 0, .between (-4) (3), false⟩,
  ⟨0x2107, 1, 1, 1, 0, 10000, .u8, .rws, 0, .between 0 127, false⟩,
  ⟨0x2107, 1, 2, 2, 0, 10000, .u8, .rws, 248, .full, false⟩,
  ⟨0x2107, 1, 3, 3, 0, 10000, .u8, .rws, 248, .full, false⟩,
  ⟨0x2107, 1, 4, 4, 0, 10000, .u64, .ro, 0, .full, false⟩,
  ⟨0x2107, 1, 5, 5, 0, 10000, .u16, .ro, 0, .full, false⟩,
  ⟨0x2110, 3, 1, 1, 0, 10000, .u8, .ro, 0, .full, false⟩,
  ⟨0x2110, 3, 2, 2, 0, 10000, .u64, .ro, 0, .full, false⟩,
  ⟨0x2110, 3, 3, 3, 0, 10000, .u64, .ro, 0, .full, false⟩,
  ⟨0x2110, 3, 4, 4, 0, 10000, .u64, .ro, 0, .full, false⟩,
  ⟨0x2110, 3, 16, 16, 0, 10000, .record, .ro, 0, .full, false⟩,
  ⟨0x2102, 1, 1, 1, 0, 10000, .u8, .rws, 1, .between 1 2, false⟩,
  ⟨0x2102, 1, 2, 2, 0, 10000, .u32, .rw, 1000, .full, false⟩,
  ⟨0x2102, 1, 3, 3, 0, 10000, .u32, .rw, 100000000, .between 0 500000000, false⟩,
  ⟨0x2102, 1, 4, 4, 0, 10000, .i32, .rw, 0, .between (-500000000) (500000000), false⟩,
  ⟨0x2120, 1, 1, 1, 0, 10000, .u64, .wo, 0, .full, false⟩,
  ⟨0x2120, 1, 2, 2, 0, 10000, .u32, .rw, 0, .full, false⟩,
  ⟨0x2120, 1, 3, 3, 0, 10000, .u8, .ro, 0, .full, false⟩,
  ⟨0x2120, 1, 4, 4, 0, 10000, .u64, .ro, 0, .full, false⟩,
  ⟨0x2120, 1, 5, 5, 0, 10000, .u32, .ro, 0, .full, false⟩,
  ⟨0x2120, 1, 6, 6, 0, 10000, .u8, .ro, 0, .full, false⟩,
  ⟨0x2120, 1, 7, 7, 0, 10000, .u32, .ro, 0, .full, false⟩]

/-- Rows of block root22. -/
def root22Rows : List Row := [
  ⟨0x2200, 1, 1, 1, 0, 10000, .u16, .rws, 0, .full, false⟩,
  ⟨0x2200, 1, 2, 2, 0, 10000, .u16, .rws, 34997, .etherType, false⟩,
  ⟨0x2200, 1, 3, 3, 0, 10000, .u16, .rws, 0, .between 0 4094, false⟩,
  ⟨0x2200, 1, 4, 4, 0, 10000, .u8, .rws, 6, .between 0 7, false⟩,
  ⟨0x2200, 1, 5, 5, 0, 10000, .u16, .rw, 1000, .between 0 60000, false⟩,
  ⟨0x2200, 1, 6, 6, 0, 10000, .u8, .rw, 3, .full, false⟩,
  ⟨0x2200, 1, 7, 7, 0, 10000, .u16, .rw, 0, .sticky 0x1F, false⟩,
  ⟨0x2250, 1, 1, 1, 0, 10000, .u16, .ro, 0, .full, false⟩,
  ⟨0x2250, 1, 2, 2, 0, 10000, .dom, .ro, 0, .full, false⟩,
  ⟨0x2230, 3, 1, 1, 0, 10000, .bool, .rws, 0, .full, false⟩,
  ⟨0x2230, 3, 2, 2, 0, 10000, .u32, .rws, 1000000, .full, true⟩,
  ⟨0x2230, 3, 3, 3, 0, 10000, .u64, .rws, 0, .full, false⟩,
  ⟨0x2230, 3, 4, 4, 0, 10000, .u8, .rws, 0, .between 0 64, false⟩,
  ⟨0x2230, 3, 5, 5, 0, 10000, .dom, .rws, 0, .full, false⟩,
  ⟨0x2240, 1, 1, 1, 0, 10000, .bool, .rws, 0, .full, false⟩,
  ⟨0x2240, 1, 2, 2, 0, 10000, .u8, .rws, 16, .between 0 32, false⟩,
  ⟨0x2240, 1, 3, 3, 0, 10000, .u32, .rw, 1000, .full, false⟩,
  ⟨0x2240, 1, 4, 4, 0, 10000, .u32, .rw, 2000, .full, false⟩,
  ⟨0x2240, 1, 16, 16, 0, 10000, .u64, .ro, 0, .full, false⟩,
  ⟨0x2240, 1, 17, 17, 0, 10000, .u64, .ro, 0, .full, false⟩,
  ⟨0x2240, 1, 18, 18, 0, 10000, .u64, .ro, 0, .full, false⟩,
  ⟨0x2240, 1, 19, 19, 0, 10000, .u64, .ro, 0, .full, false⟩,
  ⟨0x2201, 1, 1, 1, 0, 10000, .u16, .rws, 8, .between 1 128, true⟩,
  ⟨0x2201, 1, 2, 2, 0, 10000, .u64, .ro, 0, .full, false⟩,
  ⟨0x2210, 32, 1, 1, 0, 10000, .u16, .rws, 65535, .betweenOr 0 4095 65535, false⟩,
  ⟨0x2210, 32, 2, 2, 0, 10000, .u16, .rws, 65535, .betweenOr 0 4095 65535, false⟩,
  ⟨0x2210, 32, 3, 3, 0, 10000, .u16, .rws, 65535, .betweenOr 0 4095 65535, false⟩]

/-- Rows of block root23. -/
def root23Rows : List Row := [
  ⟨0x2300, 1, 1, 1, 0, 10000, .u8, .ro, 255, .full, false⟩,
  ⟨0x2300, 1, 2, 2, 0, 10000, .u8, .ro, 0, .full, false⟩,
  ⟨0x2300, 1, 3, 3, 0, 10000, .u8, .ro, 0, .full, false⟩,
  ⟨0x2300, 1, 4, 4, 0, 10000, .u16, .rw, 0, .sticky 0x1F, false⟩,
  ⟨0x2300, 1, 5, 5, 0, 10000, .u8, .rws, 0, .oneOf [1], false⟩,
  ⟨0x2300, 1, 6, 6, 0, 10000, .dom, .ro, 0, .full, false⟩,
  ⟨0x2300, 1, 7, 7, 0, 10000, .dom, .ro, 0, .full, false⟩,
  ⟨0x2301, 1, 1, 1, 0, 10000, .u8, .rws, 8, .between 1 64, true⟩,
  ⟨0x2301, 1, 2, 2, 0, 10000, .u16, .rw, 1, .between 1 1000, true⟩,
  ⟨0x2301, 1, 3, 3, 0, 10000, .u16, .rw, 16, .full, false⟩,
  ⟨0x2302, 2, 1, 1, 0, 10000, .u8, .ro, 0, .full, false⟩,
  ⟨0x2302, 2, 2, 2, 0, 10000, .u32, .ro, 0, .full, false⟩,
  ⟨0x2302, 2, 3, 3, 0, 10000, .i32, .rws, 0, .between (-3276800) (3276800), false⟩,
  ⟨0x2302, 2, 4, 4, 0, 10000, .u64, .ro, 0, .full, false⟩,
  ⟨0x2302, 2, 5, 5, 0, 10000, .u64, .ro, 0, .full, false⟩,
  ⟨0x2302, 2, 6, 6, 0, 10000, .u32, .ro, 0, .full, false⟩,
  ⟨0x2302, 2, 7, 7, 0, 10000, .u8, .ro, 0, .full, false⟩,
  ⟨0x2310, 32, 1, 1, 0, 10000, .u64, .rws, 0, .aligned 64, false⟩,
  ⟨0x2310, 32, 2, 2, 0, 10000, .u16, .rws, 0, .between 0 4096, false⟩,
  ⟨0x2310, 32, 3, 3, 0, 10000, .u8, .rws, 0, .between 0 31, false⟩,
  ⟨0x2310, 32, 4, 4, 0, 10000, .u8, .rws, 2, .between 0 3, false⟩,
  ⟨0x2310, 32, 5, 5, 0, 10000, .u16, .ro, 0, .full, false⟩,
  ⟨0x2330, 32, 1, 1, 0, 10000, .u64, .rws, 0, .aligned 64, false⟩,
  ⟨0x2330, 32, 2, 2, 0, 10000, .u16, .rws, 0, .between 0 4096, false⟩,
  ⟨0x2330, 32, 3, 3, 0, 10000, .u8, .rws, 255, .betweenOr 1 32 255, false⟩,
  ⟨0x2330, 32, 4, 4, 0, 10000, .u8, .rw, 0, .full, false⟩,
  ⟨0x2330, 32, 5, 5, 0, 10000, .u32, .rw, 0, .full, false⟩,
  ⟨0x2330, 32, 6, 6, 0, 10000, .u64, .rws, 0, .aligned 65536, false⟩,
  ⟨0x2330, 32, 7, 7, 0, 10000, .u32, .rws, 0, .full, false⟩,
  ⟨0x2330, 32, 8, 8, 0, 10000, .u16, .ro, 0, .full, false⟩,
  ⟨0x2350, 1, 1, 1, 0, 10000, .u64, .ro, 0, .full, false⟩,
  ⟨0x2350, 1, 2, 2, 0, 10000, .u64, .ro, 0, .full, false⟩,
  ⟨0x2350, 1, 3, 3, 0, 10000, .u64, .ro, 0, .full, false⟩,
  ⟨0x2350, 1, 4, 4, 0, 10000, .u32, .rw, 1000, .full, false⟩,
  ⟨0x2350, 1, 5, 5, 0, 10000, .u16, .rw, 0, .sticky 0xF, false⟩,
  ⟨0x2360, 1, 1, 1, 0, 10000, .u16, .rws, 0, .between 0 512, false⟩,
  ⟨0x2360, 1, 2, 2, 0, 10000, .dom, .rws, 0, .full, false⟩,
  ⟨0x2380, 9, 1, 1, 0, 10000, .u64, .ro, 0, .full, false⟩,
  ⟨0x2380, 9, 2, 2, 0, 10000, .u64, .ro, 0, .full, false⟩,
  ⟨0x2380, 9, 3, 3, 0, 10000, .u64, .ro, 0, .full, false⟩,
  ⟨0x2380, 9, 4, 4, 0, 10000, .u64, .ro, 0, .full, false⟩,
  ⟨0x2380, 9, 5, 5, 0, 10000, .u64, .ro, 0, .full, false⟩,
  ⟨0x2380, 9, 6, 6, 0, 10000, .u64, .ro, 0, .full, false⟩,
  ⟨0x2380, 9, 7, 7, 0, 10000, .u64, .ro, 0, .full, false⟩]

/-- Rows of block root25. -/
def root25Rows : List Row := [
  ⟨0x2500, 1, 1, 1, 0, 10000, .i32, .ro, 0, .full, false⟩,
  ⟨0x2500, 1, 2, 2, 0, 10000, .u16, .rw, 0, .sticky 0x7, false⟩,
  ⟨0x2500, 1, 3, 3, 0, 10000, .bool, .ro, 0, .full, false⟩,
  ⟨0x2500, 1, 4, 4, 0, 10000, .i16, .ro, 0, .full, false⟩,
  ⟨0x2500, 1, 5, 5, 0, 10000, .u16, .ro, 0, .full, false⟩,
  ⟨0x2500, 1, 6, 6, 0, 10000, .u8, .ro, 0, .full, false⟩,
  ⟨0x2500, 1, 7, 7, 0, 10000, .u32, .ro, 0, .full, false⟩,
  ⟨0x2510, 16, 1, 1, 0, 10000, .u8, .rws, 1, .between 1 4, true⟩,
  ⟨0x2510, 16, 2, 2, 0, 10000, .u16, .rws, 100, .between 30 270, false⟩,
  ⟨0x2510, 16, 3, 3, 0, 10000, .u16, .rws, 80, .between 30 270, false⟩,
  ⟨0x2510, 16, 4, 4, 0, 10000, .u16, .rws, 1000, .full, false⟩,
  ⟨0x2510, 16, 5, 5, 0, 10000, .bool, .rws, 0, .full, false⟩,
  ⟨0x2510, 16, 6, 6, 0, 10000, .bool, .rws, 1, .full, false⟩,
  ⟨0x2510, 16, 7, 7, 0, 10000, .bool, .rws, 0, .full, false⟩,
  ⟨0x2510, 16, 8, 8, 0, 10000, .u16, .rws, 15, .between 5 260, false⟩,
  ⟨0x2510, 16, 9, 9, 0, 10000, .u16, .rw, 10, .full, false⟩,
  ⟨0x2510, 16, 10, 10, 0, 10000, .u16, .rws, 65535, .betweenOr 0 4095 65535, false⟩,
  ⟨0x2510, 16, 11, 11, 0, 10000, .u8, .rw, 0, .sticky 0x1, false⟩,
  ⟨0x2510, 16, 12, 12, 0, 10000, .u32, .ro, 0, .full, false⟩,
  ⟨0x2510, 16, 13, 13, 0, 10000, .u16, .ro, 0, .full, false⟩,
  ⟨0x2530, 8, 1, 1, 0, 10000, .u8, .rws, 0, .between 0 2, false⟩,
  ⟨0x2530, 8, 2, 2, 0, 10000, .u16, .rws, 65535, .betweenOr 0 4095 65535, false⟩,
  ⟨0x2530, 8, 3, 3, 0, 10000, .bool, .rw, 0, .full, false⟩,
  ⟨0x2530, 8, 4, 4, 0, 10000, .bool, .rw, 0, .full, false⟩,
  ⟨0x2530, 8, 5, 5, 0, 10000, .u16, .rw, 600, .between 100 750, false⟩,
  ⟨0x2530, 8, 6, 6, 0, 10000, .u16, .rw, 5000, .full, false⟩,
  ⟨0x2530, 8, 7, 7, 0, 10000, .u16, .rw, 2000, .full, false⟩,
  ⟨0x2530, 8, 8, 8, 0, 10000, .u16, .ro, 0, .full, false⟩,
  ⟨0x2530, 8, 9, 9, 0, 10000, .u16, .rw, 1, .sticky 0x1F, false⟩]

/-- Rows of block root26. -/
def root26Rows : List Row := [
  ⟨0x2600, 1, 1, 1, 0, 10000, .u8, .ro, 0, .full, false⟩,
  ⟨0x2600, 1, 2, 2, 0, 10000, .u8, .ro, 0, .full, false⟩,
  ⟨0x2600, 1, 3, 3, 0, 10000, .u8, .ro, 0, .full, false⟩,
  ⟨0x2600, 1, 4, 4, 0, 10000, .u16, .rw, 0, .sticky 0x3F, false⟩,
  ⟨0x2600, 1, 5, 5, 0, 10000, .u32, .wo, 0, .full, false⟩,
  ⟨0x2600, 1, 6, 6, 0, 10000, .u8, .wo, 0, .full, false⟩,
  ⟨0x2601, 1, 1, 1, 0, 10000, .dom, .sl, 0, .full, false⟩,
  ⟨0x2601, 1, 2, 2, 0, 10000, .u32, .sl, 0, .full, false⟩,
  ⟨0x2601, 1, 3, 3, 0, 10000, .u32, .ro, 0, .full, false⟩,
  ⟨0x2602, 1, 1, 4, 0, 10000, .u8, .ro, 1, .full, false⟩,
  ⟨0x2603, 1, 1, 4, 0, 10000, .u8, .ro, 1, .full, false⟩,
  ⟨0x2603, 1, 5, 5, 0, 10000, .u16, .ro, 0, .full, false⟩,
  ⟨0x2603, 1, 6, 6, 0, 10000, .u8, .ro, 0, .full, false⟩,
  ⟨0x2604, 1, 1, 1, 0, 10000, .u32, .ro, 0, .full, false⟩,
  ⟨0x2604, 1, 2, 2, 0, 10000, .u32, .rw, 0, .oneOf [0], false⟩]

/-- Rows of block root27. -/
def root27Rows : List Row := [
  ⟨0x2700, 1, 1, 1, 0, 10000, .u8, .ro, 0, .full, false⟩,
  ⟨0x2700, 1, 2, 2, 0, 10000, .u8, .ro, 1, .full, false⟩,
  ⟨0x2700, 1, 3, 3, 0, 10000, .u16, .rw, 1, .full, false⟩,
  ⟨0x2700, 1, 4, 4, 0, 10000, .u32, .ro, 0, .full, false⟩,
  ⟨0x2700, 1, 5, 5, 0, 10000, .u32, .ro, 0, .full, false⟩,
  ⟨0x2700, 1, 6, 6, 0, 10000, .u32, .ro, 0, .full, false⟩,
  ⟨0x2700, 1, 7, 7, 0, 10000, .dom, .ro, 0, .full, false⟩,
  ⟨0x2700, 1, 8, 8, 0, 10000, .dom, .ro, 0, .full, false⟩,
  ⟨0x2700, 1, 9, 9, 0, 10000, .u8, .wo, 0, .full, false⟩,
  ⟨0x2701, 51, 1, 1, 0, 10000, .u8, .rw, 0, .between 0 127, false⟩,
  ⟨0x2701, 51, 2, 2, 0, 10000, .u32, .ro, 0, .full, false⟩,
  ⟨0x2701, 51, 3, 3, 0, 10000, .u64, .rw, 0, .sticky 0xFFFFFFFFFFFFFFFF, false⟩,
  ⟨0x2701, 51, 4, 4, 0, 10000, .u64, .rw, 0, .sticky 0xFFFFFFFFFFFFFFFF, false⟩,
  ⟨0x2701, 51, 5, 5, 0, 10000, .u64, .ro, 0, .full, false⟩,
  ⟨0x2701, 51, 6, 6, 0, 10000, .u64, .ro, 0, .full, false⟩,
  ⟨0x2701, 51, 7, 7, 0, 10000, .u64, .wo, 0, .full, false⟩,
  ⟨0x2701, 51, 8, 8, 0, 10000, .u64, .wo, 0, .full, false⟩,
  ⟨0x2780, 1, 1, 7, 0, 10000, .i16, .ro, 0, .full, false⟩,
  ⟨0x2780, 1, 8, 8, 0, 10000, .u8, .ro, 0, .full, false⟩,
  ⟨0x2781, 1, 1, 14, 0, 10000, .i16, .ro, 0, .full, false⟩,
  ⟨0x2781, 1, 17, 30, 0, 10000, .u32, .ro, 0, .full, false⟩,
  ⟨0x2781, 1, 33, 33, 0, 10000, .u16, .ro, 0, .full, false⟩,
  ⟨0x2782, 1, 1, 1, 0, 10000, .i16, .rws, 115, .between 60 125, false⟩,
  ⟨0x2782, 1, 2, 2, 0, 10000, .i16, .rws, 125, .between 70 135, false⟩,
  ⟨0x2782, 1, 3, 3, 0, 10000, .i16, .rws, 130, .between 80 140, false⟩,
  ⟨0x2782, 1, 4, 4, 0, 10000, .u8, .rw, 5, .full, false⟩,
  ⟨0x2782, 1, 5, 5, 0, 10000, .u16, .rw, 50, .full, false⟩,
  ⟨0x2782, 1, 6, 6, 0, 10000, .u16, .rw, 30, .full, false⟩,
  ⟨0x2782, 1, 7, 7, 0, 10000, .u8, .ro, 0, .full, false⟩,
  ⟨0x2782, 1, 8, 8, 0, 10000, .u16, .rw, 0, .sticky 0xFF, false⟩]

/-- Rows of block root28. -/
def root28Rows : List Row := [
  ⟨0x2800, 1, 1, 1, 0, 10000, .u8, .wo, 0, .full, false⟩,
  ⟨0x2800, 1, 2, 2, 0, 10000, .u8, .ro, 0, .full, false⟩,
  ⟨0x2800, 1, 3, 3, 0, 10000, .u8, .ro, 0, .full, false⟩,
  ⟨0x2800, 1, 4, 4, 0, 10000, .u8, .rw, 2, .full, false⟩,
  ⟨0x2800, 1, 5, 5, 0, 10000, .u8, .ro, 0, .full, false⟩,
  ⟨0x2800, 1, 6, 6, 0, 10000, .u32, .ro, 0, .full, false⟩,
  ⟨0x2800, 1, 7, 7, 0, 10000, .u16, .rw, 0, .sticky 0xF, false⟩,
  ⟨0x2801, 1, 1, 1, 0, 10000, .dom, .wo, 0, .full, false⟩,
  ⟨0x2802, 1, 1, 2, 0, 10000, .u8, .ro, 0, .full, false⟩,
  ⟨0x2802, 1, 3, 4, 0, 10000, .u32, .ro, 0, .full, false⟩,
  ⟨0x2802, 1, 5, 5, 0, 10000, .u32, .ro, 0, .full, false⟩,
  ⟨0x2810, 1, 1, 1, 0, 10000, .u8, .wo, 0, .full, false⟩,
  ⟨0x2810, 1, 2, 2, 0, 10000, .u8, .ro, 0, .full, false⟩,
  ⟨0x2810, 1, 3, 3, 0, 10000, .u32, .ro, 0, .full, false⟩,
  ⟨0x2810, 1, 4, 4, 0, 10000, .u32, .ro, 0, .full, false⟩,
  ⟨0x2810, 1, 5, 5, 0, 10000, .u16, .ro, 0, .full, false⟩,
  ⟨0x2810, 1, 6, 6, 0, 10000, .u32, .ro, 0, .full, false⟩,
  ⟨0x2810, 1, 7, 7, 0, 10000, .u32, .ro, 0, .full, false⟩]

/-- Rows of block root29. -/
def root29Rows : List Row := [
  ⟨0x2900, 1, 1, 1, 0, 10000, .u8, .wo, 0, .full, false⟩,
  ⟨0x2900, 1, 2, 2, 0, 10000, .u8, .ro, 0, .full, false⟩,
  ⟨0x2900, 1, 3, 3, 0, 10000, .u8, .rw, 0, .between 0 3, false⟩,
  ⟨0x2900, 1, 4, 4, 0, 10000, .u64, .rw, 0, .full, false⟩,
  ⟨0x2900, 1, 5, 5, 0, 10000, .u8, .rws, 0, .full, false⟩,
  ⟨0x2900, 1, 6, 6, 0, 10000, .u32, .rws, 250000, .full, false⟩,
  ⟨0x2900, 1, 7, 7, 0, 10000, .u64, .rw, 0, .full, false⟩,
  ⟨0x2900, 1, 8, 8, 0, 10000, .u64, .rw, 1000, .full, false⟩,
  ⟨0x2900, 1, 9, 9, 0, 10000, .u8, .rws, 255, .betweenOr 0 31 255, false⟩,
  ⟨0x2900, 1, 10, 10, 0, 10000, .u64, .ro, 0, .full, false⟩,
  ⟨0x2900, 1, 11, 11, 0, 10000, .u16, .rw, 0, .sticky 0x1F, false⟩,
  ⟨0x2900, 1, 12, 12, 0, 10000, .u8, .rws, 0, .between 0 15, false⟩,
  ⟨0x2901, 1, 1, 1, 0, 10000, .u8, .rws, 5, .between 1 5, false⟩,
  ⟨0x2901, 1, 2, 2, 0, 10000, .u64, .rws, 0, .full, false⟩,
  ⟨0x2901, 1, 3, 3, 0, 10000, .u64, .rws, 0, .full, false⟩,
  ⟨0x2901, 1, 4, 4, 0, 10000, .u8, .rws, 1, .between 1 3, false⟩,
  ⟨0x2901, 1, 5, 5, 0, 10000, .u32, .rws, 0, .full, false⟩,
  ⟨0x2901, 1, 6, 6, 0, 10000, .u16, .rws, 65535, .betweenOr 0 4095 65535, false⟩,
  ⟨0x2901, 1, 7, 7, 0, 10000, .i64, .rws, 0, .full, false⟩,
  ⟨0x2901, 1, 8, 8, 0, 10000, .u8, .rws, 1, .between 1 3, false⟩,
  ⟨0x2901, 1, 9, 9, 0, 10000, .u8, .rws, 0, .between 0 15, false⟩,
  ⟨0x2901, 1, 10, 10, 0, 10000, .u16, .rws, 0, .full, false⟩,
  ⟨0x2902, 1, 1, 1, 0, 10000, .u8, .rws, 0, .oneOf [0, 8, 16, 32, 64], false⟩,
  ⟨0x2902, 1, 2, 2, 0, 10000, .u16, .rws, 4, .between 4 65535, true⟩,
  ⟨0x2903, 1, 1, 64, 0, 10000, .u16, .rws, 0, .digSource, false⟩,
  ⟨0x2910, 4, 1, 1, 0, 10000, .u8, .rws, 48, .full, false⟩,
  ⟨0x2910, 4, 2, 2, 0, 10000, .dom, .ro, 0, .full, false⟩,
  ⟨0x2920, 32, 1, 1, 0, 10000, .u8, .rws, 255, .betweenOr 0 63 255, false⟩,
  ⟨0x2920, 32, 2, 2, 0, 10000, .u16, .rws, 1, .full, true⟩,
  ⟨0x2920, 32, 3, 3, 0, 10000, .bool, .rws, 0, .full, false⟩,
  ⟨0x2940, 64, 1, 1, 0, 10000, .u16, .rws, 65535, .betweenOr 0 4095 65535, false⟩,
  ⟨0x2940, 64, 2, 2, 0, 10000, .u16, .rws, 1, .full, true⟩,
  ⟨0x2940, 64, 3, 3, 0, 10000, .bool, .rws, 0, .full, false⟩,
  ⟨0x2980, 1, 1, 1, 0, 10000, .u64, .ro, 0, .full, false⟩,
  ⟨0x2980, 1, 2, 2, 0, 10000, .u64, .ro, 0, .full, false⟩,
  ⟨0x2980, 1, 3, 3, 0, 10000, .u64, .ro, 0, .full, false⟩,
  ⟨0x2980, 1, 4, 4, 0, 10000, .u64, .ro, 0, .full, false⟩]

/-- Rows of block root2A. -/
def root2ARows : List Row := [
  ⟨0x2A00, 1, 1, 1, 0, 10000, .u16, .rws, 0, .between 0 1024, false⟩,
  ⟨0x2A00, 1, 2, 2, 0, 10000, .dom, .rws, 0, .full, false⟩,
  ⟨0x2A01, 1, 1, 1, 0, 10000, .u32, .rws, 0, .between 0 524288, false⟩,
  ⟨0x2A01, 1, 2, 2, 0, 10000, .dom, .rws, 0, .full, false⟩,
  ⟨0x2A10, 8, 1, 1, 0, 10000, .u8, .ro, 0, .full, false⟩,
  ⟨0x2A10, 8, 2, 2, 0, 10000, .u16, .rw, 0, .sticky 0xFE, false⟩,
  ⟨0x2A10, 8, 3, 3, 0, 10000, .u32, .ro, 0, .full, false⟩,
  ⟨0x2A10, 8, 4, 4, 0, 10000, .u32, .rw, 0, .oneOf [0], false⟩,
  ⟨0x2A10, 8, 5, 5, 0, 10000, .u16, .ro, 0, .full, false⟩,
  ⟨0x2A10, 8, 6, 6, 0, 10000, .u32, .ro, 0, .full, false⟩,
  ⟨0x2A20, 2, 1, 8, 0, 10000, .u16, .rws, 65535, .full, false⟩,
  ⟨0x2A20, 2, 9, 16, 0, 10000, .u8, .rws, 255, .betweenOr 0 63 255, false⟩,
  ⟨0x2A20, 2, 17, 17, 0, 10000, .u32, .ro, 0, .full, false⟩,
  ⟨0x2A20, 2, 18, 18, 0, 10000, .u32, .ro, 0, .full, false⟩]

/-- Rows of block root2B. -/
def root2BRows : List Row := [
  ⟨0x2B00, 64, 1, 1, 0, 10000, .u16, .rws, 0, .between 0 2048, false⟩,
  ⟨0x2B00, 64, 2, 2, 0, 10000, .dom, .rws, 0, .full, false⟩,
  ⟨0x2B00, 64, 3, 3, 0, 10000, .u32, .ro, 0, .full, false⟩,
  ⟨0x2B00, 64, 4, 4, 0, 10000, .u8, .ro, 0, .full, false⟩,
  ⟨0x2B00, 64, 5, 5, 0, 10000, .u16, .ro, 0, .full, false⟩,
  ⟨0x2B00, 64, 6, 6, 0, 10000, .u32, .ro, 0, .full, false⟩]

/-- Rows of block slot. -/
def slotRows : List Row := [
  ⟨0x5000, 4096, 1, 1, 0, 10000, .u64, .ro, 0, .full, false⟩,
  ⟨0x5000, 4096, 2, 2, 0, 10000, .u8, .rws, 0, .between 0 14, false⟩,
  ⟨0x5000, 4096, 3, 3, 0, 10000, .u16, .ro, 65535, .full, false⟩,
  ⟨0x5000, 4096, 4, 4, 0, 10000, .u8, .ro, 0, .full, false⟩]

/-- Rows of block span0. -/
def span0Rows : List Row := [
  ⟨0x0, 1, 1, 1, 0, 10000, .u8, .rws, 255, .betweenOr 0 63 255, false⟩,
  ⟨0x0, 1, 2, 2, 0, 10000, .u8, .rws, 0, .between 0 8, false⟩,
  ⟨0x0, 1, 3, 3, 0, 10000, .u8, .rws, 0, .between 0 16, false⟩,
  ⟨0x0, 1, 4, 4, 0, 10000, .u8, .rws, 0, .between 0 7, false⟩,
  ⟨0x0, 1, 5, 5, 0, 10000, .u8, .rws, 0, .between 0 8, false⟩,
  ⟨0x0, 1, 6, 6, 0, 10000, .u8, .ro, 1, .full, false⟩,
  ⟨0x1, 1, 1, 8, 0, 10000, .u16, .rws, 65535, .spanMember, false⟩,
  ⟨0x2, 1, 1, 8, 0, 10000, .u16, .rws, 65535, .betweenOr 0 4095 65535, false⟩,
  ⟨0x3, 1, 1, 16, 0, 10000, .u16, .rws, 65535, .betweenOr 0 4095 65535, false⟩,
  ⟨0x4, 1, 1, 7, 0, 10000, .u16, .rws, 65535, .betweenOr 0 4095 65535, false⟩,
  ⟨0x5, 1, 1, 8, 0, 10000, .u8, .rws, 255, .betweenOr 0 15 255, false⟩,
  ⟨0x6, 1, 1, 7, 0, 10000, .u8, .rws, 255, .betweenOr 0 15 255, false⟩,
  ⟨0x7, 1, 1, 1, 0, 10000, .dom, .rw, 0, .full, false⟩,
  ⟨0x7, 1, 2, 2, 0, 10000, .dom, .rw, 0, .full, false⟩,
  ⟨0x7, 1, 3, 3, 0, 10000, .u8, .rw, 0, .between 0 1, false⟩,
  ⟨0x7, 1, 4, 4, 0, 10000, .u16, .rws, 65535, .betweenOr 0 4095 65535, false⟩]

/-- Rows of block span1. -/
def span1Rows : List Row := [
  ⟨0x8, 1, 1, 8, 0, 10000, .u32, .rw, 4096, .full, false⟩,
  ⟨0x8, 1, 9, 9, 0, 10000, .u32, .rw, 65536, .full, true⟩,
  ⟨0x9, 1, 1, 7, 0, 10000, .i32, .rws, 0, .full, false⟩,
  ⟨0xA, 1, 1, 7, 0, 10000, .i32, .rws, 2147483647, .full, false⟩,
  ⟨0xB, 1, 1, 16, 0, 10000, .u32, .rw, 4294967295, .full, false⟩,
  ⟨0xC, 1, 1, 1, 0, 10000, .u16, .rw, 64, .full, false⟩,
  ⟨0xC, 1, 2, 2, 0, 10000, .u8, .rw, 2, .full, false⟩,
  ⟨0xC, 1, 3, 3, 0, 10000, .u8, .rw, 4, .full, false⟩,
  ⟨0xD, 1, 1, 1, 0, 10000, .u8, .wo, 0, .full, false⟩,
  ⟨0xD, 1, 2, 2, 0, 10000, .u8, .ro, 0, .full, false⟩,
  ⟨0xD, 1, 3, 3, 0, 10000, .u16, .rw, 0, .sticky 0x1FE, false⟩,
  ⟨0xD, 1, 4, 4, 0, 10000, .u8, .ro, 0, .full, false⟩,
  ⟨0xE, 1, 1, 7, 0, 10000, .i32, .ro, 0, .full, false⟩,
  ⟨0xF, 1, 1, 8, 0, 10000, .i32, .ro, 0, .full, false⟩]

/-- Rows of block span2. -/
def span2Rows : List Row := [
  ⟨0x10, 1, 1, 8, 0, 10000, .i64, .ro, 0, .full, false⟩,
  ⟨0x11, 1, 1, 16, 0, 10000, .i32, .ro, 0, .full, false⟩,
  ⟨0x12, 1, 1, 16, 0, 10000, .i32, .ro, 0, .full, false⟩,
  ⟨0x13, 1, 1, 8, 0, 10000, .i64, .ro, 0, .full, false⟩]

end Dict

end Sys2Proof.Machine
end

