-- ==== Sys2Proof/Machine/Names.lean ====
section
/-! DEFINITION. The names of the dictionary objects (R46): for each object of the spec's tables the key of its
subentry, index·256 + subindex, as a function of the instance numbers the tables give it. -/

namespace Sys2Proof.Machine

namespace Obj


/-! Objects of spec/01_tick_row.md. -/

def SlotValue (s : Nat) : Nat := (0x5000 + s) * 256 + 0x1
def SlotType (s : Nat) : Nat := (0x5000 + s) * 256 + 0x2
def SlotProducer (s : Nat) : Nat := (0x5000 + s) * 256 + 0x3
def SlotFlags (s : Nat) : Nat := (0x5000 + s) * 256 + 0x4
def TickPeriod : Nat := 0x200001
def TickInputWindow : Nat := 0x200003
def TickNumber : Nat := 0x200004
def TickEdgeTime : Nat := 0x200005
def InputLateLimit : Nat := 0x200006
def RowStitchCount : Nat := 0x200101
def RowCommitEdge : Nat := 0x200102
def RowBudgetCycles : Nat := 0x200103
def RowAdmissionFailCore : Nat := 0x200104
def RowCoreLoad (i : Nat) : Nat := 0x200111 + i
def RowCoreMaxMeasured (i : Nat) : Nat := 0x200121 + i
def RowOverrunCount (i : Nat) : Nat := 0x200201 + i
def RowStatus : Nat := 0x200300
def GangMembers (g : Nat) : Nat := (0x2030 + g) * 256 + 0x1
def GangLeader (g : Nat) : Nat := (0x2030 + g) * 256 + 0x2
def GangState (g : Nat) : Nat := (0x2030 + g) * 256 + 0x3
def ResetEpoch : Nat := 0x205001
def LastResetCause : Nat := 0x205002
def Reconciling : Nat := 0x205003
def LedgerImbalance : Nat := 0x205004
def LastBlockReset : Nat := 0x205005

/-! Objects of spec/02_dictionary.md. -/

def CommitCommand : Nat := 0x201001
def CommitEdge : Nat := 0x201002
def CommitTime : Nat := 0x201003
def CommitStatus : Nat := 0x201004
def CommitFailObject : Nat := 0x201005
def CommitFailPeer : Nat := 0x201006
def ConfigGeneration : Nat := 0x201007
def StagedCount : Nat := 0x201008
def PendingCommits : Nat := 0x201009
def StickyClearRefused : Nat := 0x201101
def StickyClearRefusedLast : Nat := 0x201102
def SessionCount : Nat := 0x110001
def SessionIdleTimeout : Nat := 0x110002
def SessionOwnNumber : Nat := 0x110003
def DeviceType : Nat := 0x100000
def DeviceName : Nat := 0x100800
def HardwareVersion : Nat := 0x100900
def SoftwareVersion : Nat := 0x100A00
def VendorId : Nat := 0x101801
def ProductCode : Nat := 0x101802
def RevisionNumber : Nat := 0x101803
def SerialNumber : Nat := 0x101804
def TemperatureGrade : Nat := 0x101900
def Cia402WindowAxis : Nat := 0x1F8001
def Cia402WindowAxis1 : Nat := 0x1F8002

/-! Objects of spec/03_trellis_network.md. -/

def TrellisCounter : Nat := 0x210001
def TrellisOffset : Nat := 0x210002
def TrellisRate : Nat := 0x210003
def TrellisBaseCounter : Nat := 0x210004
def TrellisTime : Nat := 0x210005
def TrellisTimeFraction : Nat := 0x210006
def TrellisSetTime : Nat := 0x210007
def TrellisSource : Nat := 0x210101
def TrellisState : Nat := 0x210102
def TrellisSlewLimit : Nat := 0x210103
def TrellisStepThreshold : Nat := 0x210104
def TrellisOffsetError : Nat := 0x210105
def TrellisErrorEstimate : Nat := 0x210106
def TrellisErrorLimit : Nat := 0x210107
def HoldoverLimit : Nat := 0x210108
def TrellisStatus : Nat := 0x210109
def PortPtpEnable (p : Nat) : Nat := (0x2103 + p) * 256 + 0x1
def PortAsymmetry (p : Nat) : Nat := (0x2103 + p) * 256 + 0x2
def PortIngressLatency (p : Nat) : Nat := (0x2103 + p) * 256 + 0x3
def PortEgressLatency (p : Nat) : Nat := (0x2103 + p) * 256 + 0x4
def PortMeanLinkDelay (p : Nat) : Nat := (0x2103 + p) * 256 + 0x5
def PortPtpRole (p : Nat) : Nat := (0x2103 + p) * 256 + 0x6
def PortLogSyncInterval (p : Nat) : Nat := (0x2103 + p) * 256 + 0x7
def PortLogPdelayInterval (p : Nat) : Nat := (0x2103 + p) * 256 + 0x8
def PtpDomain : Nat := 0x210701
def PtpPriority1 : Nat := 0x210702
def PtpPriority2 : Nat := 0x210703
def GrandmasterIdentity : Nat := 0x210704
def StepsRemoved : Nat := 0x210705
def TsQueueOccupancy (p : Nat) : Nat := (0x2110 + p) * 256 + 0x1
def TsRequested (p : Nat) : Nat := (0x2110 + p) * 256 + 0x2
def TsDelivered (p : Nat) : Nat := (0x2110 + p) * 256 + 0x3
def TsOverflowed (p : Nat) : Nat := (0x2110 + p) * 256 + 0x4
def TsQueueEntry (p : Nat) : Nat := (0x2110 + p) * 256 + 0x10
def PpsInEdge : Nat := 0x210201
def PpsInWindow : Nat := 0x210202
def PpsOutWidth : Nat := 0x210203
def PpsOutOffset : Nat := 0x210204
def PlantAddress : Nat := 0x220001
def PlantEtherType : Nat := 0x220002
def PlantVlanId : Nat := 0x220003
def PlantPcp : Nat := 0x220004
def AnnounceInterval : Nat := 0x220005
def PartnerLossCount : Nat := 0x220006
def PlantStatus : Nat := 0x220007
def PartnerCount : Nat := 0x225001
def PartnerTable : Nat := 0x225002
def GateEnable (p : Nat) : Nat := (0x2230 + p) * 256 + 0x1
def GateCycleTime (p : Nat) : Nat := (0x2230 + p) * 256 + 0x2
def GateBaseTime (p : Nat) : Nat := (0x2230 + p) * 256 + 0x3
def GateListLength (p : Nat) : Nat := (0x2230 + p) * 256 + 0x4
def GateList (p : Nat) : Nat := (0x2230 + p) * 256 + 0x5
def FrerEnable : Nat := 0x224001
def FrerHistoryLength : Nat := 0x224002
def FrerResetTime : Nat := 0x224003
def FrerLatentPeriod : Nat := 0x224004
def FrerPassed : Nat := 0x224010
def FrerDiscarded : Nat := 0x224011
def FrerRogue : Nat := 0x224012
def FrerLost : Nat := 0x224013
def NetworkCycleTicks : Nat := 0x220101
def NetworkCycleNumber : Nat := 0x220102
def MasterPublishPosition (j : Nat) : Nat := (0x2210 + j) * 256 + 0x1
def MasterPublishVelocity (j : Nat) : Nat := (0x2210 + j) * 256 + 0x2
def MasterPublishAcceleration (j : Nat) : Nat := (0x2210 + j) * 256 + 0x3
def SnapshotScheduleTime : Nat := 0x212001
def SnapshotPeriod : Nat := 0x212002
def SnapshotPending : Nat := 0x212003
def SnapshotLastTime : Nat := 0x212004
def SnapshotLastNumber : Nat := 0x212005
def SnapshotFlags : Nat := 0x212006
def SnapshotMissed : Nat := 0x212007

/-! Objects of spec/04_profiles_homing.md. -/

def BindOffMembers (b : Nat) : Nat := (0x2040 + b) * 256 + 0x1
def BindOffRequest (b : Nat) : Nat := (0x2040 + b) * 256 + 0x2
def BindOffState (b : Nat) : Nat := (0x2040 + b) * 256 + 0x3
def BindOffDuration (b : Nat) : Nat := (0x2040 + b) * 256 + 0x4
def BindOffStartEdge (b : Nat) : Nat := (0x2040 + b) * 256 + 0x5
def BindOffRequests (b : Nat) : Nat := (0x2040 + b) * 256 + 0x6
def PathAxis (p i : Nat) : Nat := (0x4C00 + p * 0x20) * 256 + 0x1 + i
def PathCommand (p : Nat) : Nat := (0x4C01 + p * 0x20) * 256 + 0x1
def PathState (p : Nat) : Nat := (0x4C01 + p * 0x20) * 256 + 0x2
def PathScale (p : Nat) : Nat := (0x4C01 + p * 0x20) * 256 + 0x3
def PathVelocity (p : Nat) : Nat := (0x4C02 + p * 0x20) * 256 + 0x1
def PathAcceleration (p : Nat) : Nat := (0x4C02 + p * 0x20) * 256 + 0x2
def PathJerk (p : Nat) : Nat := (0x4C02 + p * 0x20) * 256 + 0x3
def PathArcTolerance (p : Nat) : Nat := (0x4C02 + p * 0x20) * 256 + 0x4
def PathElementCount (p : Nat) : Nat := (0x4C03 + p * 0x20) * 256 + 0x1
def PathElements (p : Nat) : Nat := (0x4C03 + p * 0x20) * 256 + 0x2
def AxisCommand (n : Nat) : Nat := (0x3000 + n * 0x40) * 256 + 0x1
def AxisState (n : Nat) : Nat := (0x3000 + n * 0x40) * 256 + 0x2
def AxisStatus (n : Nat) : Nat := (0x3000 + n * 0x40) * 256 + 0x3
def AxisLimitState (n : Nat) : Nat := (0x3000 + n * 0x40) * 256 + 0x4
def AxisSetpointPosition (n : Nat) : Nat := (0x3001 + n * 0x40) * 256 + 0x1
def AxisSetpointVelocity (n : Nat) : Nat := (0x3001 + n * 0x40) * 256 + 0x2
def AxisSetpointAcceleration (n : Nat) : Nat := (0x3001 + n * 0x40) * 256 + 0x3
def ProfileRunAhead (n : Nat) : Nat := (0x3002 + n * 0x40) * 256 + 0x1
def SetpointQueueOccupancy (n : Nat) : Nat := (0x3002 + n * 0x40) * 256 + 0x2
def SetpointWritten (n : Nat) : Nat := (0x3002 + n * 0x40) * 256 + 0x3
def SetpointConsumed (n : Nat) : Nat := (0x3002 + n * 0x40) * 256 + 0x4
def SetpointFlushed (n : Nat) : Nat := (0x3002 + n * 0x40) * 256 + 0x5
def AxisMoveMode (n : Nat) : Nat := (0x3004 + n * 0x40) * 256 + 0x1
def AxisTargetPosition (n : Nat) : Nat := (0x3004 + n * 0x40) * 256 + 0x2
def AxisTargetVelocity (n : Nat) : Nat := (0x3004 + n * 0x40) * 256 + 0x3
def AxisModuloDirection (n : Nat) : Nat := (0x3004 + n * 0x40) * 256 + 0x4
def MoveCommanded (n : Nat) : Nat := (0x3005 + n * 0x40) * 256 + 0x1
def MoveExecuted (n : Nat) : Nat := (0x3005 + n * 0x40) * 256 + 0x2
def MoveRemaining (n : Nat) : Nat := (0x3005 + n * 0x40) * 256 + 0x3
def MoveAbandoned (n : Nat) : Nat := (0x3005 + n * 0x40) * 256 + 0x4
def MoveStartEdge (n : Nat) : Nat := (0x3005 + n * 0x40) * 256 + 0x5
def ProfileVelocity (n : Nat) : Nat := (0x3008 + n * 0x40) * 256 + 0x1
def ProfileAcceleration (n : Nat) : Nat := (0x3008 + n * 0x40) * 256 + 0x2
def ProfileDeceleration (n : Nat) : Nat := (0x3008 + n * 0x40) * 256 + 0x3
def ProfileJerk (n : Nat) : Nat := (0x3008 + n * 0x40) * 256 + 0x4
def StopDeceleration (n : Nat) : Nat := (0x3008 + n * 0x40) * 256 + 0x5
def QuickStopDeceleration (n : Nat) : Nat := (0x3008 + n * 0x40) * 256 + 0x6
def BindOffDeceleration (n : Nat) : Nat := (0x3008 + n * 0x40) * 256 + 0x7
def BindOffJerk (n : Nat) : Nat := (0x3008 + n * 0x40) * 256 + 0x8
def ProfileTableLength (n : Nat) : Nat := (0x3009 + n * 0x40) * 256 + 0x1
def ProfileTable (n : Nat) : Nat := (0x3009 + n * 0x40) * 256 + 0x2
def SoftLimitEnable (n : Nat) : Nat := (0x3038 + n * 0x40) * 256 + 0x1
def SoftLimitLower (n : Nat) : Nat := (0x3038 + n * 0x40) * 256 + 0x2
def SoftLimitUpper (n : Nat) : Nat := (0x3038 + n * 0x40) * 256 + 0x3
def AxisModulo (n : Nat) : Nat := (0x3038 + n * 0x40) * 256 + 0x4
def LimitInputNegative (n : Nat) : Nat := (0x3039 + n * 0x40) * 256 + 0x1
def LimitInputPositive (n : Nat) : Nat := (0x3039 + n * 0x40) * 256 + 0x2
def HomeInput (n : Nat) : Nat := (0x3039 + n * 0x40) * 256 + 0x3
def LimitHysteresis (n : Nat) : Nat := (0x3039 + n * 0x40) * 256 + 0x4
def LimitChatterCount (n : Nat) : Nat := (0x3039 + n * 0x40) * 256 + 0x5
def HomingMethod (n : Nat) : Nat := (0x303A + n * 0x40) * 256 + 0x1
def HomingSearchVelocity (n : Nat) : Nat := (0x303A + n * 0x40) * 256 + 0x2
def HomingCreepVelocity (n : Nat) : Nat := (0x303A + n * 0x40) * 256 + 0x3
def HomingAcceleration (n : Nat) : Nat := (0x303A + n * 0x40) * 256 + 0x4
def HomeOffset (n : Nat) : Nat := (0x303A + n * 0x40) * 256 + 0x5
def HomingTimeout (n : Nat) : Nat := (0x303A + n * 0x40) * 256 + 0x6
def HomingStatus (n : Nat) : Nat := (0x303A + n * 0x40) * 256 + 0x7
def StandstillMode (n : Nat) : Nat := (0x303B + n * 0x40) * 256 + 0x1
def StandstillVelocity (n : Nat) : Nat := (0x303B + n * 0x40) * 256 + 0x2
def StandstillTicks (n : Nat) : Nat := (0x303B + n * 0x40) * 256 + 0x3
def BrakeOutput (n : Nat) : Nat := (0x303B + n * 0x40) * 256 + 0x4
def BrakeEngageDelay (n : Nat) : Nat := (0x303B + n * 0x40) * 256 + 0x5
def BrakeReleaseDelay (n : Nat) : Nat := (0x303B + n * 0x40) * 256 + 0x6

/-! Objects of spec/05_grafts_line_shaft.md. -/

def GraftKind (k : Nat) : Nat := (0x4A00 + k * 0x4) * 256 + 0x1
def GraftMasterSource (k : Nat) : Nat := (0x4A00 + k * 0x4) * 256 + 0x2
def GraftMasterNumber (k : Nat) : Nat := (0x4A00 + k * 0x4) * 256 + 0x3
def GraftMasterAddress (k : Nat) : Nat := (0x4A00 + k * 0x4) * 256 + 0x4
def GraftFollower (k : Nat) : Nat := (0x4A00 + k * 0x4) * 256 + 0x5
def GearNumerator (k : Nat) : Nat := (0x4A01 + k * 0x4) * 256 + 0x1
def GearDenominator (k : Nat) : Nat := (0x4A01 + k * 0x4) * 256 + 0x2
def CamLength (k : Nat) : Nat := (0x4A01 + k * 0x4) * 256 + 0x3
def CamLift (k : Nat) : Nat := (0x4A01 + k * 0x4) * 256 + 0x4
def CamTable (k : Nat) : Nat := (0x4A01 + k * 0x4) * 256 + 0x5
def PhaseTrimSource (k : Nat) : Nat := (0x4A01 + k * 0x4) * 256 + 0x6
def PhaseTrimTarget (k : Nat) : Nat := (0x4A01 + k * 0x4) * 256 + 0x7
def PhaseTrimRate (k : Nat) : Nat := (0x4A01 + k * 0x4) * 256 + 0x8
def ClutchDistance (k : Nat) : Nat := (0x4A01 + k * 0x4) * 256 + 0x9
def ClutchEngagePosition (k : Nat) : Nat := (0x4A01 + k * 0x4) * 256 + 0xA
def ClutchEngageMode (k : Nat) : Nat := (0x4A01 + k * 0x4) * 256 + 0xB
def GraftCommand (k : Nat) : Nat := (0x4A02 + k * 0x4) * 256 + 0x1
def GraftState (k : Nat) : Nat := (0x4A02 + k * 0x4) * 256 + 0x2
def GraftStatus (k : Nat) : Nat := (0x4A02 + k * 0x4) * 256 + 0x3
def GraftWeight (k : Nat) : Nat := (0x4A02 + k * 0x4) * 256 + 0x4
def PhaseTrimActual (k : Nat) : Nat := (0x4A02 + k * 0x4) * 256 + 0x5
def RemoteMasterAge (k : Nat) : Nat := (0x4A02 + k * 0x4) * 256 + 0x6
def RemoteMasterState (k : Nat) : Nat := (0x4A02 + k * 0x4) * 256 + 0x7
def RemoteLossCycles (k : Nat) : Nat := (0x4A02 + k * 0x4) * 256 + 0x8
def RemoteMasterFlags (k : Nat) : Nat := (0x4A02 + k * 0x4) * 256 + 0x9
def GraftOutputPosition (k : Nat) : Nat := (0x4A02 + k * 0x4) * 256 + 0xA
def GraftOutputVelocity (k : Nat) : Nat := (0x4A02 + k * 0x4) * 256 + 0xB
def GearMasterTerm (k : Nat) : Nat := (0x4A03 + k * 0x4) * 256 + 0x1
def GearFollowerTerm (k : Nat) : Nat := (0x4A03 + k * 0x4) * 256 + 0x2
def GearRemainder (k : Nat) : Nat := (0x4A03 + k * 0x4) * 256 + 0x3
def AxisGraft (n : Nat) : Nat := (0x3010 + n * 0x40) * 256 + 0x1
def AxisGraftEngaged (n : Nat) : Nat := (0x3010 + n * 0x40) * 256 + 0x2
def AxisVirtual (n : Nat) : Nat := (0x3010 + n * 0x40) * 256 + 0x3

/-! Objects of spec/06_coupled_spans.md. -/

def SpanHome (g : Nat) : Nat := (0x4800 + g * 0x20) * 256 + 0x1
def SpanMemberCount (g : Nat) : Nat := (0x4800 + g * 0x20) * 256 + 0x2
def SpanStateCount (g : Nat) : Nat := (0x4800 + g * 0x20) * 256 + 0x3
def SpanLoadCellCount (g : Nat) : Nat := (0x4800 + g * 0x20) * 256 + 0x4
def SpanIntegratorCount (g : Nat) : Nat := (0x4800 + g * 0x20) * 256 + 0x5
def SpanLoopDelay (g : Nat) : Nat := (0x4800 + g * 0x20) * 256 + 0x6
def SpanMember (g i : Nat) : Nat := (0x4801 + g * 0x20) * 256 + 0x1 + i
def SpanTrimSlot (g i : Nat) : Nat := (0x4802 + g * 0x20) * 256 + 0x1 + i
def SpanRefSlot (g i : Nat) : Nat := (0x4803 + g * 0x20) * 256 + 0x1 + i
def SpanLoadCellSlot (g i : Nat) : Nat := (0x4804 + g * 0x20) * 256 + 0x1 + i
def SpanIntegratorState (g i : Nat) : Nat := (0x4805 + g * 0x20) * 256 + 0x1 + i
def SpanTensionMap (g i : Nat) : Nat := (0x4806 + g * 0x20) * 256 + 0x1 + i
def SpanBank0 (g : Nat) : Nat := (0x4807 + g * 0x20) * 256 + 0x1
def SpanBank1 (g : Nat) : Nat := (0x4807 + g * 0x20) * 256 + 0x2
def SpanBankSelect (g : Nat) : Nat := (0x4807 + g * 0x20) * 256 + 0x3
def SpanBankSource (g : Nat) : Nat := (0x4807 + g * 0x20) * 256 + 0x4
def SpanTrimLimit (g i : Nat) : Nat := (0x4808 + g * 0x20) * 256 + 0x1 + i
def SpanTrimSlew (g : Nat) : Nat := (0x4808 + g * 0x20) * 256 + 0x9
def SpanTensionMin (g i : Nat) : Nat := (0x4809 + g * 0x20) * 256 + 0x1 + i
def SpanTensionMax (g i : Nat) : Nat := (0x480A + g * 0x20) * 256 + 0x1 + i
def SpanResidualLimit (g i : Nat) : Nat := (0x480B + g * 0x20) * 256 + 0x1 + i
def SpanSettleTicks (g : Nat) : Nat := (0x480C + g * 0x20) * 256 + 0x1
def SpanStaleLimit (g : Nat) : Nat := (0x480C + g * 0x20) * 256 + 0x2
def SpanRangeTicks (g : Nat) : Nat := (0x480C + g * 0x20) * 256 + 0x3
def SpanCommand (g : Nat) : Nat := (0x480D + g * 0x20) * 256 + 0x1
def SpanState (g : Nat) : Nat := (0x480D + g * 0x20) * 256 + 0x2
def SpanStatus (g : Nat) : Nat := (0x480D + g * 0x20) * 256 + 0x3
def SpanActiveBank (g : Nat) : Nat := (0x480D + g * 0x20) * 256 + 0x4
def SpanTensionEstimate (g i : Nat) : Nat := (0x480E + g * 0x20) * 256 + 0x1 + i
def SpanTrimVelocity (g i : Nat) : Nat := (0x480F + g * 0x20) * 256 + 0x1 + i
def SpanTrimPosition (g i : Nat) : Nat := (0x4810 + g * 0x20) * 256 + 0x1 + i
def SpanStateEstimate (g i : Nat) : Nat := (0x4811 + g * 0x20) * 256 + 0x1 + i
def SpanResidual (g i : Nat) : Nat := (0x4812 + g * 0x20) * 256 + 0x1 + i
def SpanIntegral (g i : Nat) : Nat := (0x4813 + g * 0x20) * 256 + 0x1 + i

/-! Objects of spec/07_servo_loops.md. -/

def LoopGainSelect (n : Nat) : Nat := (0x3018 + n * 0x40) * 256 + 0x1
def LoopGainSource (n : Nat) : Nat := (0x3018 + n * 0x40) * 256 + 0x2
def LoopGainActive (n : Nat) : Nat := (0x3018 + n * 0x40) * 256 + 0x3
def LoopRideThroughGainSet (n : Nat) : Nat := (0x3018 + n * 0x40) * 256 + 0x4
def LoopStatus (n : Nat) : Nat := (0x3018 + n * 0x40) * 256 + 0x5
def LoopFeedbackLead (n : Nat) : Nat := (0x3018 + n * 0x40) * 256 + 0x6
def GainSetEnable (n g : Nat) : Nat := (0x3019 + n * 0x40 + g) * 256 + 0x1
def PosKp (n g : Nat) : Nat := (0x3019 + n * 0x40 + g) * 256 + 0x2
def PosKpShift (n g : Nat) : Nat := (0x3019 + n * 0x40 + g) * 256 + 0x3
def PosKi (n g : Nat) : Nat := (0x3019 + n * 0x40 + g) * 256 + 0x4
def PosKiShift (n g : Nat) : Nat := (0x3019 + n * 0x40 + g) * 256 + 0x5
def PosKd (n g : Nat) : Nat := (0x3019 + n * 0x40 + g) * 256 + 0x6
def PosKdShift (n g : Nat) : Nat := (0x3019 + n * 0x40 + g) * 256 + 0x7
def PosDFilter (n g : Nat) : Nat := (0x3019 + n * 0x40 + g) * 256 + 0x8
def PosIntLimit (n g : Nat) : Nat := (0x3019 + n * 0x40 + g) * 256 + 0x9
def VelFfGain (n g : Nat) : Nat := (0x3019 + n * 0x40 + g) * 256 + 0xA
def VelFfShift (n g : Nat) : Nat := (0x3019 + n * 0x40 + g) * 256 + 0xB
def VelKp (n g : Nat) : Nat := (0x3019 + n * 0x40 + g) * 256 + 0xC
def VelKpShift (n g : Nat) : Nat := (0x3019 + n * 0x40 + g) * 256 + 0xD
def VelKi (n g : Nat) : Nat := (0x3019 + n * 0x40 + g) * 256 + 0xE
def VelKiShift (n g : Nat) : Nat := (0x3019 + n * 0x40 + g) * 256 + 0xF
def VelIntLimit (n g : Nat) : Nat := (0x3019 + n * 0x40 + g) * 256 + 0x10
def AccFfGain (n g : Nat) : Nat := (0x3019 + n * 0x40 + g) * 256 + 0x11
def AccFfShift (n g : Nat) : Nat := (0x3019 + n * 0x40 + g) * 256 + 0x12
def FilterVelocityType (n : Nat) : Nat := (0x301D + n * 0x40) * 256 + 0x1
def FilterVelocityB0 (n : Nat) : Nat := (0x301D + n * 0x40) * 256 + 0x2
def FilterVelocityB1 (n : Nat) : Nat := (0x301D + n * 0x40) * 256 + 0x3
def FilterVelocityB2 (n : Nat) : Nat := (0x301D + n * 0x40) * 256 + 0x4
def FilterVelocityA1 (n : Nat) : Nat := (0x301D + n * 0x40) * 256 + 0x5
def FilterVelocityA2 (n : Nat) : Nat := (0x301D + n * 0x40) * 256 + 0x6
def FilterTorqueType (n : Nat) : Nat := (0x301D + n * 0x40) * 256 + 0x11
def FilterTorqueB0 (n : Nat) : Nat := (0x301D + n * 0x40) * 256 + 0x12
def FilterTorqueB1 (n : Nat) : Nat := (0x301D + n * 0x40) * 256 + 0x13
def FilterTorqueB2 (n : Nat) : Nat := (0x301D + n * 0x40) * 256 + 0x14
def FilterTorqueA1 (n : Nat) : Nat := (0x301D + n * 0x40) * 256 + 0x15
def FilterTorqueA2 (n : Nat) : Nat := (0x301D + n * 0x40) * 256 + 0x16
def VelocityLimit (n : Nat) : Nat := (0x301E + n * 0x40) * 256 + 0x1
def TorqueLimitPositive (n : Nat) : Nat := (0x301E + n * 0x40) * 256 + 0x2
def TorqueLimitNegative (n : Nat) : Nat := (0x301E + n * 0x40) * 256 + 0x3
def FollowingErrorLimit (n : Nat) : Nat := (0x301E + n * 0x40) * 256 + 0x4
def FollowingErrorLimitDegraded (n : Nat) : Nat := (0x301E + n * 0x40) * 256 + 0x5
def FollowingErrorTicks (n : Nat) : Nat := (0x301E + n * 0x40) * 256 + 0x6
def FollowingErrorActual (n : Nat) : Nat := (0x301E + n * 0x40) * 256 + 0x7
def RatedTorque (n : Nat) : Nat := (0x301E + n * 0x40) * 256 + 0x8
def LoopTraceNode (n i : Nat) : Nat := (0x301E + n * 0x40) * 256 + 0x11 + i
def LoopTraceSlot (n i : Nat) : Nat := (0x301E + n * 0x40) * 256 + 0x15 + i
def NetAxisPath (n : Nat) : Nat := (0x301F + n * 0x40) * 256 + 0x1
def NetAxisAddress (n : Nat) : Nat := (0x301F + n * 0x40) * 256 + 0x2
def NetAxisRemoteIndex (n : Nat) : Nat := (0x301F + n * 0x40) * 256 + 0x3
def NetAxisKind (n : Nat) : Nat := (0x301F + n * 0x40) * 256 + 0x4
def NetAxisTorqueConstant (n : Nat) : Nat := (0x301F + n * 0x40) * 256 + 0x5
def NetAxisStatusLossCount (n : Nat) : Nat := (0x301F + n * 0x40) * 256 + 0x6
def NetAxisDriveState (n : Nat) : Nat := (0x301F + n * 0x40) * 256 + 0x7
def NetAxisLateReports (n : Nat) : Nat := (0x301F + n * 0x40) * 256 + 0x8

/-! Objects of spec/08_feedback.md. -/

def FbType (c : Nat) : Nat := (0x4000 + c * 0x20) * 256 + 0x1
def FbMinEdgeInterval (c : Nat) : Nat := (0x4000 + c * 0x20) * 256 + 0x3
def FbIndexMode (c : Nat) : Nat := (0x4000 + c * 0x20) * 256 + 0x4
def FbIndexGate (c : Nat) : Nat := (0x4000 + c * 0x20) * 256 + 0x5
def FbIndexValue (c : Nat) : Nat := (0x4000 + c * 0x20) * 256 + 0x6
def FbCommand (c : Nat) : Nat := (0x4000 + c * 0x20) * 256 + 0x7
def FbCountPreset (c : Nat) : Nat := (0x4000 + c * 0x20) * 256 + 0x8
def FbCount (c : Nat) : Nat := (0x4001 + c * 0x20) * 256 + 0x1
def FbLastEdgeTime (c : Nat) : Nat := (0x4001 + c * 0x20) * 256 + 0x2
def FbIndexLatchCount (c : Nat) : Nat := (0x4001 + c * 0x20) * 256 + 0x3
def FbIndexLatchTime (c : Nat) : Nat := (0x4001 + c * 0x20) * 256 + 0x4
def FbState (c : Nat) : Nat := (0x4001 + c * 0x20) * 256 + 0x5
def FbStatus (c : Nat) : Nat := (0x4001 + c * 0x20) * 256 + 0x6
def SsiBits (c : Nat) : Nat := (0x4002 + c * 0x20) * 256 + 0x1
def SsiClock (c : Nat) : Nat := (0x4002 + c * 0x20) * 256 + 0x2
def SsiPositionShift (c : Nat) : Nat := (0x4002 + c * 0x20) * 256 + 0x3
def SsiPositionBits (c : Nat) : Nat := (0x4002 + c * 0x20) * 256 + 0x4
def SsiMaxStep (c : Nat) : Nat := (0x4002 + c * 0x20) * 256 + 0x5
def SsiLineDelay (c : Nat) : Nat := (0x4002 + c * 0x20) * 256 + 0x6
def SsiLossCount (c : Nat) : Nat := (0x4002 + c * 0x20) * 256 + 0x7
def SsiReadyTime (c : Nat) : Nat := (0x4002 + c * 0x20) * 256 + 0x8
def FbRejectLimit (c : Nat) : Nat := (0x4003 + c * 0x20) * 256 + 0x1
def FbEventSource (c : Nat) : Nat := (0x4004 + c * 0x20) * 256 + 0x1
def FbEventCount (c : Nat) : Nat := (0x4004 + c * 0x20) * 256 + 0x2
def FbEventTime (c : Nat) : Nat := (0x4004 + c * 0x20) * 256 + 0x3
def FbEventFlags (c : Nat) : Nat := (0x4004 + c * 0x20) * 256 + 0x4
def FbEdges (c : Nat) : Nat := (0x4008 + c * 0x20) * 256 + 0x1
def FbUp (c : Nat) : Nat := (0x4008 + c * 0x20) * 256 + 0x2
def FbDown (c : Nat) : Nat := (0x4008 + c * 0x20) * 256 + 0x3
def FbRejected (c : Nat) : Nat := (0x4008 + c * 0x20) * 256 + 0x4
def FbIndexAdjust (c : Nat) : Nat := (0x4008 + c * 0x20) * 256 + 0x5
def FbStartCount (c : Nat) : Nat := (0x4008 + c * 0x20) * 256 + 0x6
def FbSource (n : Nat) : Nat := (0x3030 + n * 0x40) * 256 + 0x1
def FbChannelNumber (n : Nat) : Nat := (0x3030 + n * 0x40) * 256 + 0x2
def FbCountsPerCycle (n : Nat) : Nat := (0x3030 + n * 0x40) * 256 + 0x3
def FbPositionOffset (n : Nat) : Nat := (0x3030 + n * 0x40) * 256 + 0x4
def FbReverse (n : Nat) : Nat := (0x3030 + n * 0x40) * 256 + 0x5
def SpeedWindow (n : Nat) : Nat := (0x3031 + n * 0x40) * 256 + 0x1
def SpeedStandstillTimeout (n : Nat) : Nat := (0x3031 + n * 0x40) * 256 + 0x2
def SpeedEstimate (n : Nat) : Nat := (0x3031 + n * 0x40) * 256 + 0x3
def SpeedDirection (n : Nat) : Nat := (0x3031 + n * 0x40) * 256 + 0x4
def SpeedState (n : Nat) : Nat := (0x3031 + n * 0x40) * 256 + 0x5
def CmpChannel (u : Nat) : Nat := (0x4200 + u * 0x10) * 256 + 0x1
def CmpLateMode (u : Nat) : Nat := (0x4200 + u * 0x10) * 256 + 0x2
def CmpIdleLevel (u : Nat) : Nat := (0x4200 + u * 0x10) * 256 + 0x3
def CmpCycleLength (u : Nat) : Nat := (0x4200 + u * 0x10) * 256 + 0x4
def CmpEnable (u : Nat) : Nat := (0x4200 + u * 0x10) * 256 + 0x5
def CmpAppend (u : Nat) : Nat := (0x4201 + u * 0x10) * 256 + 0x1
def CmpCommand (u : Nat) : Nat := (0x4201 + u * 0x10) * 256 + 0x2
def CmpOccupancy (u : Nat) : Nat := (0x4201 + u * 0x10) * 256 + 0x3
def CmpMissedAt (u : Nat) : Nat := (0x4201 + u * 0x10) * 256 + 0x4
def CmpMissedPosition (u : Nat) : Nat := (0x4201 + u * 0x10) * 256 + 0x5
def CmpLastFireTime (u : Nat) : Nat := (0x4201 + u * 0x10) * 256 + 0x6
def CmpStatus (u : Nat) : Nat := (0x4201 + u * 0x10) * 256 + 0x7
def CmpArmed (u : Nat) : Nat := (0x4202 + u * 0x10) * 256 + 0x1
def CmpFired (u : Nat) : Nat := (0x4202 + u * 0x10) * 256 + 0x2
def CmpFiredLate (u : Nat) : Nat := (0x4202 + u * 0x10) * 256 + 0x3
def CmpMissed (u : Nat) : Nat := (0x4202 + u * 0x10) * 256 + 0x4
def CmpCancelled (u : Nat) : Nat := (0x4202 + u * 0x10) * 256 + 0x5
def EmuSource (e : Nat) : Nat := (0x4280 + e * 0x10) * 256 + 0x1
def EmuSourceNumber (e : Nat) : Nat := (0x4280 + e * 0x10) * 256 + 0x2
def EmuP (e : Nat) : Nat := (0x4280 + e * 0x10) * 256 + 0x3
def EmuQ (e : Nat) : Nat := (0x4280 + e * 0x10) * 256 + 0x4
def EmuSlotCountsPerCycle (e : Nat) : Nat := (0x4280 + e * 0x10) * 256 + 0x5
def EmuMaxEdgeRate (e : Nat) : Nat := (0x4280 + e * 0x10) * 256 + 0x6
def EmuZPeriod (e : Nat) : Nat := (0x4280 + e * 0x10) * 256 + 0x7
def EmuDelayLimit (e : Nat) : Nat := (0x4280 + e * 0x10) * 256 + 0x8
def EmuInput (e : Nat) : Nat := (0x4281 + e * 0x10) * 256 + 0x1
def EmuEmitted (e : Nat) : Nat := (0x4281 + e * 0x10) * 256 + 0x2
def EmuDelayed (e : Nat) : Nat := (0x4281 + e * 0x10) * 256 + 0x3
def EmuRemainder (e : Nat) : Nat := (0x4281 + e * 0x10) * 256 + 0x4
def EmuStatus (e : Nat) : Nat := (0x4281 + e * 0x10) * 256 + 0x5

/-! Objects of spec/09_field_control.md. -/

def CurInputU (n : Nat) : Nat := (0x4410 + n * 0x20) * 256 + 0x1
def CurInputV (n : Nat) : Nat := (0x4410 + n * 0x20) * 256 + 0x2
def CurInputW (n : Nat) : Nat := (0x4410 + n * 0x20) * 256 + 0x3
def CurSincOrder (n : Nat) : Nat := (0x4410 + n * 0x20) * 256 + 0x4
def CurOsr (n : Nat) : Nat := (0x4410 + n * 0x20) * 256 + 0x5
def CurSampleMode (n : Nat) : Nat := (0x4410 + n * 0x20) * 256 + 0x6
def CurSettleTime (n : Nat) : Nat := (0x4410 + n * 0x20) * 256 + 0x7
def CurSumLimit (n : Nat) : Nat := (0x4410 + n * 0x20) * 256 + 0x8
def CurSumCount (n : Nat) : Nat := (0x4410 + n * 0x20) * 256 + 0x9
def CurGainU (n : Nat) : Nat := (0x4411 + n * 0x20) * 256 + 0x1
def CurGainV (n : Nat) : Nat := (0x4411 + n * 0x20) * 256 + 0x2
def CurGainW (n : Nat) : Nat := (0x4411 + n * 0x20) * 256 + 0x3
def CurOffsetU (n : Nat) : Nat := (0x4411 + n * 0x20) * 256 + 0x4
def CurOffsetV (n : Nat) : Nat := (0x4411 + n * 0x20) * 256 + 0x5
def CurOffsetW (n : Nat) : Nat := (0x4411 + n * 0x20) * 256 + 0x6
def GenInputEnable (n : Nat) : Nat := (0x4412 + n * 0x20) * 256 + 0x1
def GenSincOrder (n : Nat) : Nat := (0x4412 + n * 0x20) * 256 + 0x2
def GenOsr (n : Nat) : Nat := (0x4412 + n * 0x20) * 256 + 0x3
def GenGain (n : Nat) : Nat := (0x4412 + n * 0x20) * 256 + 0x4
def GenOffset (n : Nat) : Nat := (0x4412 + n * 0x20) * 256 + 0x5
def GenInputSlot (n : Nat) : Nat := (0x4412 + n * 0x20) * 256 + 0x6
def GenCompHigh (n : Nat) : Nat := (0x4412 + n * 0x20) * 256 + 0x7
def GenCompLow (n : Nat) : Nat := (0x4412 + n * 0x20) * 256 + 0x8
def GenCompAction (n : Nat) : Nat := (0x4412 + n * 0x20) * 256 + 0x9
def GenValue (n : Nat) : Nat := (0x4412 + n * 0x20) * 256 + 0xA
def FastEnable (n : Nat) : Nat := (0x4413 + n * 0x20) * 256 + 0x1
def FastOrder (n : Nat) : Nat := (0x4413 + n * 0x20) * 256 + 0x2
def FastOsr (n : Nat) : Nat := (0x4413 + n * 0x20) * 256 + 0x3
def FastHigh (n : Nat) : Nat := (0x4413 + n * 0x20) * 256 + 0x4
def FastLow (n : Nat) : Nat := (0x4413 + n * 0x20) * 256 + 0x5
def FastCount (n : Nat) : Nat := (0x4413 + n * 0x20) * 256 + 0x6
def PvsGain (n : Nat) : Nat := (0x4414 + n * 0x20) * 256 + 0x1
def PvsOffset (n : Nat) : Nat := (0x4414 + n * 0x20) * 256 + 0x2
def PvsScan (n : Nat) : Nat := (0x4414 + n * 0x20) * 256 + 0x3
def PvsCompMode (n : Nat) : Nat := (0x4414 + n * 0x20) * 256 + 0x4
def PvsCompThreshold (n : Nat) : Nat := (0x4414 + n * 0x20) * 256 + 0x5
def PvsCompHysteresis (n : Nat) : Nat := (0x4414 + n * 0x20) * 256 + 0x6
def PvsBlanking (n : Nat) : Nat := (0x4414 + n * 0x20) * 256 + 0x7
def PvsVoltageU (n : Nat) : Nat := (0x4414 + n * 0x20) * 256 + 0x8
def PvsVoltageV (n : Nat) : Nat := (0x4414 + n * 0x20) * 256 + 0x9
def PvsVoltageW (n : Nat) : Nat := (0x4414 + n * 0x20) * 256 + 0xA
def PvsDropped (n : Nat) : Nat := (0x4414 + n * 0x20) * 256 + 0xB
def PvsBlanked (n : Nat) : Nat := (0x4414 + n * 0x20) * 256 + 0xC
def DsClockDivider (n : Nat) : Nat := (0x4418 + n * 0x20) * 256 + 0x1
def DsClockEnable (n : Nat) : Nat := (0x4418 + n * 0x20) * 256 + 0x2
def DsDataEdge (n : Nat) : Nat := (0x4418 + n * 0x20) * 256 + 0x3
def DsDataDelay (n : Nat) : Nat := (0x4418 + n * 0x20) * 256 + 0x4
def FocPolePairs (n : Nat) : Nat := (0x3020 + n * 0x40) * 256 + 0x1
def FocAngleSource (n : Nat) : Nat := (0x3020 + n * 0x40) * 256 + 0x2
def FocAngleOffset (n : Nat) : Nat := (0x3020 + n * 0x40) * 256 + 0x3
def FocAngleSlot (n : Nat) : Nat := (0x3020 + n * 0x40) * 256 + 0x4
def FocUpdatesPerPeriod (n : Nat) : Nat := (0x3020 + n * 0x40) * 256 + 0x5
def FocSetpointMode (n : Nat) : Nat := (0x3020 + n * 0x40) * 256 + 0x6
def FocTorqueConstant (n : Nat) : Nat := (0x3020 + n * 0x40) * 256 + 0x7
def FocLd (n : Nat) : Nat := (0x3021 + n * 0x40) * 256 + 0x1
def FocLq (n : Nat) : Nat := (0x3021 + n * 0x40) * 256 + 0x2
def FocRs (n : Nat) : Nat := (0x3021 + n * 0x40) * 256 + 0x3
def FocFluxLinkage (n : Nat) : Nat := (0x3021 + n * 0x40) * 256 + 0x4
def FocKpD (n : Nat) : Nat := (0x3022 + n * 0x40) * 256 + 0x1
def FocKiD (n : Nat) : Nat := (0x3022 + n * 0x40) * 256 + 0x2
def FocKpQ (n : Nat) : Nat := (0x3022 + n * 0x40) * 256 + 0x3
def FocKiQ (n : Nat) : Nat := (0x3022 + n * 0x40) * 256 + 0x4
def FocDecoupling (n : Nat) : Nat := (0x3022 + n * 0x40) * 256 + 0x5
def FocModLimit (n : Nat) : Nat := (0x3022 + n * 0x40) * 256 + 0x6
def FocCurrentLimit (n : Nat) : Nat := (0x3023 + n * 0x40) * 256 + 0x1
def FocIdSetpoint (n : Nat) : Nat := (0x3023 + n * 0x40) * 256 + 0x2
def FwEnable (n : Nat) : Nat := (0x3023 + n * 0x40) * 256 + 0x3
def FwThreshold (n : Nat) : Nat := (0x3023 + n * 0x40) * 256 + 0x4
def FwGain (n : Nat) : Nat := (0x3023 + n * 0x40) * 256 + 0x5
def FwIdMax (n : Nat) : Nat := (0x3023 + n * 0x40) * 256 + 0x6
def DcLinkSource (n : Nat) : Nat := (0x3024 + n * 0x40) * 256 + 0x1
def DcLinkNominal (n : Nat) : Nat := (0x3024 + n * 0x40) * 256 + 0x2
def DcLinkMin (n : Nat) : Nat := (0x3024 + n * 0x40) * 256 + 0x3
def DcLinkMax (n : Nat) : Nat := (0x3024 + n * 0x40) * 256 + 0x4
def DtcTime (n : Nat) : Nat := (0x3025 + n * 0x40) * 256 + 0x1
def DtcBand (n : Nat) : Nat := (0x3025 + n * 0x40) * 256 + 0x2
def FocId (n : Nat) : Nat := (0x3026 + n * 0x40) * 256 + 0x1
def FocIq (n : Nat) : Nat := (0x3026 + n * 0x40) * 256 + 0x2
def FocVd (n : Nat) : Nat := (0x3026 + n * 0x40) * 256 + 0x3
def FocVq (n : Nat) : Nat := (0x3026 + n * 0x40) * 256 + 0x4
def FocIdFw (n : Nat) : Nat := (0x3026 + n * 0x40) * 256 + 0x5
def FocDcLink (n : Nat) : Nat := (0x3026 + n * 0x40) * 256 + 0x6
def FocAngle (n : Nat) : Nat := (0x3026 + n * 0x40) * 256 + 0x7
def FocStatus (n : Nat) : Nat := (0x3026 + n * 0x40) * 256 + 0x8
def FocIqTickMean (n : Nat) : Nat := (0x3026 + n * 0x40) * 256 + 0x9
def FocSampleTime (n : Nat) : Nat := (0x3027 + n * 0x40) * 256 + 0x1
def FocModSpan (n : Nat) : Nat := (0x3027 + n * 0x40) * 256 + 0x2
def FocLatency (n : Nat) : Nat := (0x3027 + n * 0x40) * 256 + 0x3

/-! Objects of spec/10_sensorless_cast_on.md. -/

def SlMethod (n : Nat) : Nat := (0x3028 + n * 0x40) * 256 + 0x1
def SlHandoverSpeed (n : Nat) : Nat := (0x3028 + n * 0x40) * 256 + 0x2
def SlHandoverHysteresis (n : Nat) : Nat := (0x3028 + n * 0x40) * 256 + 0x3
def SlHandoverTolerance (n : Nat) : Nat := (0x3028 + n * 0x40) * 256 + 0x4
def SlCommAdvance (n : Nat) : Nat := (0x3028 + n * 0x40) * 256 + 0x5
def SlDemagTime (n : Nat) : Nat := (0x3028 + n * 0x40) * 256 + 0x6
def SlResidualLimit (n : Nat) : Nat := (0x3028 + n * 0x40) * 256 + 0x7
def SlObserverGain (n : Nat) : Nat := (0x3028 + n * 0x40) * 256 + 0x8
def SlObserverBandwidth (n : Nat) : Nat := (0x3028 + n * 0x40) * 256 + 0x9
def HfiEnable (n : Nat) : Nat := (0x3029 + n * 0x40) * 256 + 0x1
def HfiAmplitude (n : Nat) : Nat := (0x3029 + n * 0x40) * 256 + 0x2
def HfiDivider (n : Nat) : Nat := (0x3029 + n * 0x40) * 256 + 0x3
def HfiMinSaliency (n : Nat) : Nat := (0x3029 + n * 0x40) * 256 + 0x4
def HfiLockTolerance (n : Nat) : Nat := (0x3029 + n * 0x40) * 256 + 0x5
def HfiLossTolerance (n : Nat) : Nat := (0x3029 + n * 0x40) * 256 + 0x6
def HfiSaliency (n : Nat) : Nat := (0x3029 + n * 0x40) * 256 + 0x7
def DibberPulseTime (n : Nat) : Nat := (0x302A + n * 0x40) * 256 + 0x1
def DibberGap (n : Nat) : Nat := (0x302A + n * 0x40) * 256 + 0x2
def DibberCurrentLimit (n : Nat) : Nat := (0x302A + n * 0x40) * 256 + 0x3
def DibberMinContrast (n : Nat) : Nat := (0x302A + n * 0x40) * 256 + 0x4
def CastOnMeasureTime (n : Nat) : Nat := (0x302B + n * 0x40) * 256 + 0x1
def CastOnBemfThreshold (n : Nat) : Nat := (0x302B + n * 0x40) * 256 + 0x2
def CastOnRestSpeed (n : Nat) : Nat := (0x302B + n * 0x40) * 256 + 0x3
def CastOnDeceleration (n : Nat) : Nat := (0x302B + n * 0x40) * 256 + 0x4
def CastOnDcLimit (n : Nat) : Nat := (0x302B + n * 0x40) * 256 + 0x5
def CastOnTimeout (n : Nat) : Nat := (0x302B + n * 0x40) * 256 + 0x6
def CastOnAlign (n : Nat) : Nat := (0x302B + n * 0x40) * 256 + 0x7
def CastOnAlignOffset (n : Nat) : Nat := (0x302B + n * 0x40) * 256 + 0x8
def AscThreshold (n : Nat) : Nat := (0x302C + n * 0x40) * 256 + 0x1
def LockRecoveryEnable (n : Nat) : Nat := (0x302C + n * 0x40) * 256 + 0x2
def SlReacqTolerance (n : Nat) : Nat := (0x302C + n * 0x40) * 256 + 0x3
def RideThroughEnable (n : Nat) : Nat := (0x302D + n * 0x40) * 256 + 0x1
def RideThroughReturn (n : Nat) : Nat := (0x302D + n * 0x40) * 256 + 0x2
def RideThroughReturnTicks (n : Nat) : Nat := (0x302D + n * 0x40) * 256 + 0x3
def RideThroughCorrection (n : Nat) : Nat := (0x302D + n * 0x40) * 256 + 0x4
def SlCommand (n : Nat) : Nat := (0x302E + n * 0x40) * 256 + 0x1
def CastOnState (n : Nat) : Nat := (0x302E + n * 0x40) * 256 + 0x2
def CastOnResult (n : Nat) : Nat := (0x302E + n * 0x40) * 256 + 0x3
def SlEstimator (n : Nat) : Nat := (0x302E + n * 0x40) * 256 + 0x4
def SlStatus (n : Nat) : Nat := (0x302E + n * 0x40) * 256 + 0x5
def SlAngle (n : Nat) : Nat := (0x302E + n * 0x40) * 256 + 0x6
def SlSpeed (n : Nat) : Nat := (0x302E + n * 0x40) * 256 + 0x7
def BemfEstimate (n : Nat) : Nat := (0x302E + n * 0x40) * 256 + 0x8
def CastOnCount (n : Nat) : Nat := (0x302F + n * 0x40) * 256 + 0x1
def LockLossCount (n : Nat) : Nat := (0x302F + n * 0x40) * 256 + 0x2
def LockRecoveries (n : Nat) : Nat := (0x302F + n * 0x40) * 256 + 0x3
def RideThroughCount (n : Nat) : Nat := (0x302F + n * 0x40) * 256 + 0x4

/-! Objects of spec/11_pwm.md. -/

def PwmRatio (n : Nat) : Nat := (0x4400 + n * 0x20) * 256 + 0x1
def PwmHalfPeriod (n : Nat) : Nat := (0x4400 + n * 0x20) * 256 + 0x2
def PwmDeadTime (n : Nat) : Nat := (0x4400 + n * 0x20) * 256 + 0x3
def PwmMinPulse (n : Nat) : Nat := (0x4400 + n * 0x20) * 256 + 0x4
def PwmStretch (n : Nat) : Nat := (0x4400 + n * 0x20) * 256 + 0x5
def PwmPolarity (n : Nat) : Nat := (0x4400 + n * 0x20) * 256 + 0x6
def PwmLegMode (n : Nat) : Nat := (0x4400 + n * 0x20) * 256 + 0x7
def PwmOutputLevel (n : Nat) : Nat := (0x4400 + n * 0x20) * 256 + 0x8
def TripMode (n i : Nat) : Nat := (0x4401 + n * 0x20) * 256 + 0x1 + i
def TripActiveLevel (n i : Nat) : Nat := (0x4401 + n * 0x20) * 256 + 0x4 + i
def TripFilter (n i : Nat) : Nat := (0x4401 + n * 0x20) * 256 + 0x6 + i
def TripBlanking (n i : Nat) : Nat := (0x4401 + n * 0x20) * 256 + 0x9 + i
def CbcLimit (n : Nat) : Nat := (0x4402 + n * 0x20) * 256 + 0x1
def CbcLeak (n : Nat) : Nat := (0x4402 + n * 0x20) * 256 + 0x2
def CbcCount (n : Nat) : Nat := (0x4402 + n * 0x20) * 256 + 0x3
def PwmTripStatus (n : Nat) : Nat := (0x4403 + n * 0x20) * 256 + 0x1
def TripCountA (n : Nat) : Nat := (0x4403 + n * 0x20) * 256 + 0x2
def TripCountB (n : Nat) : Nat := (0x4403 + n * 0x20) * 256 + 0x3
def TripCountC (n : Nat) : Nat := (0x4403 + n * 0x20) * 256 + 0x4
def AuxAction (n j : Nat) : Nat := (0x4404 + n * 0x20 + j) * 256 + 0x1
def AuxCompare (n j : Nat) : Nat := (0x4404 + n * 0x20 + j) * 256 + 0x2
def AuxRegion (n j : Nat) : Nat := (0x4404 + n * 0x20 + j) * 256 + 0x3
def AuxTripMask (n j : Nat) : Nat := (0x4404 + n * 0x20 + j) * 256 + 0x4
def VsRequested (n f : Nat) : Nat := (0x4408 + n * 0x20 + f) * 256 + 0x1
def VsIssued (n f : Nat) : Nat := (0x4408 + n * 0x20 + f) * 256 + 0x2
def VsCarry (n f : Nat) : Nat := (0x4408 + n * 0x20 + f) * 256 + 0x3
def VsClamped (n f : Nat) : Nat := (0x4408 + n * 0x20 + f) * 256 + 0x4
def VsTripped (n f : Nat) : Nat := (0x4408 + n * 0x20 + f) * 256 + 0x5

/-! Objects of spec/12_loop_cores.md. -/

def RowStitchTableLength : Nat := 0x2A0001
def RowStitchTable : Nat := 0x2A0002
def RowParamLength : Nat := 0x2A0101
def RowParameters : Nat := 0x2A0102
def CoreKind (c : Nat) : Nat := (0x2A10 + c) * 256 + 0x1
def CoreStatus (c : Nat) : Nat := (0x2A10 + c) * 256 + 0x2
def CoreEccCorrected (c : Nat) : Nat := (0x2A10 + c) * 256 + 0x3
def CoreIrqHoldoffMax (c : Nat) : Nat := (0x2A10 + c) * 256 + 0x4
def CoreInstrUsed (c : Nat) : Nat := (0x2A10 + c) * 256 + 0x5
def CoreDataUsed (c : Nat) : Nat := (0x2A10 + c) * 256 + 0x6
def SentryVectorSource (s i : Nat) : Nat := (0x2A20 + s) * 256 + 0x1 + i
def SentryVectorKernel (s i : Nat) : Nat := (0x2A20 + s) * 256 + 0x9 + i
def SentryDeferred (s : Nat) : Nat := (0x2A20 + s) * 256 + 0x11
def SentryReserve (s : Nat) : Nat := (0x2A20 + s) * 256 + 0x12
def KernelLength (k : Nat) : Nat := (0x2B00 + k) * 256 + 0x1
def KernelImage (k : Nat) : Nat := (0x2B00 + k) * 256 + 0x2
def KernelBound (k : Nat) : Nat := (0x2B00 + k) * 256 + 0x3
def KernelStatus (k : Nat) : Nat := (0x2B00 + k) * 256 + 0x4
def KernelFailBundle (k : Nat) : Nat := (0x2B00 + k) * 256 + 0x5
def KernelRepeatSpan (k : Nat) : Nat := (0x2B00 + k) * 256 + 0x6

/-! Objects of spec/13_acquisition.md. -/

def AcqCommand : Nat := 0x290001
def AcqState : Nat := 0x290002
def AcqArmSlot : Nat := 0x290003
def AcqArmTime : Nat := 0x290004
def AcqGroup : Nat := 0x290005
def AcqGroupSettle : Nat := 0x290006
def AcqPreCount : Nat := 0x290007
def AcqPostCount : Nat := 0x290008
def AcqStreamQueue : Nat := 0x290009
def AcqCapacity : Nat := 0x29000A
def AcqStatus : Nat := 0x29000B
def EventMask : Nat := 0x29000C
def TrigSource : Nat := 0x290101
def TrigMask : Nat := 0x290102
def TrigValue : Nat := 0x290103
def TrigPatternMode : Nat := 0x290104
def TrigHold : Nat := 0x290105
def TrigSlot : Nat := 0x290106
def TrigLevel : Nat := 0x290107
def TrigSlope : Nat := 0x290108
def TrigMark : Nat := 0x290109
def TrigFault : Nat := 0x29010A
def DigWidth : Nat := 0x290201
def DigDivider : Nat := 0x290202
def DigSource (i : Nat) : Nat := 0x290301 + i
def SkeinSize (s : Nat) : Nat := (0x2910 + s) * 256 + 0x1
def SkeinData (s : Nat) : Nat := (0x2910 + s) * 256 + 0x2
def AnaSource (a : Nat) : Nat := (0x2920 + a) * 256 + 0x1
def AnaDecimation (a : Nat) : Nat := (0x2920 + a) * 256 + 0x2
def AnaReduce (a : Nat) : Nat := (0x2920 + a) * 256 + 0x3
def SigSlot (g : Nat) : Nat := (0x2940 + g) * 256 + 0x1
def SigDecimation (g : Nat) : Nat := (0x2940 + g) * 256 + 0x2
def SigReduce (g : Nat) : Nat := (0x2940 + g) * 256 + 0x3
def AcqAcquired : Nat := 0x298001
def AcqStored : Nat := 0x298002
def AcqStreamed : Nat := 0x298003
def AcqOverflowed : Nat := 0x298004
def MarkEdge (m : Nat) : Nat := (0x4300 + m * 0x10) * 256 + 0x1
def MarkMinWidth (m : Nat) : Nat := (0x4300 + m * 0x10) * 256 + 0x2
def MarkGateAxis (m : Nat) : Nat := (0x4300 + m * 0x10) * 256 + 0x3
def MarkGateStart (m : Nat) : Nat := (0x4300 + m * 0x10) * 256 + 0x4
def MarkGateLength (m : Nat) : Nat := (0x4300 + m * 0x10) * 256 + 0x5
def MarkAxis (m i : Nat) : Nat := (0x4300 + m * 0x10) * 256 + 0x6 + i
def MarkTimeSlot (m : Nat) : Nat := (0x4301 + m * 0x10) * 256 + 0x1
def MarkPosSlot (m i : Nat) : Nat := (0x4301 + m * 0x10) * 256 + 0x2 + i
def MarkSeqSlot (m : Nat) : Nat := (0x4301 + m * 0x10) * 256 + 0x6
def MarkPending (m : Nat) : Nat := (0x4302 + m * 0x10) * 256 + 0x1
def MarkLastTime (m : Nat) : Nat := (0x4302 + m * 0x10) * 256 + 0x2
def MarkLastFraction (m : Nat) : Nat := (0x4302 + m * 0x10) * 256 + 0x3
def MarkLastPosition (m i : Nat) : Nat := (0x4302 + m * 0x10) * 256 + 0x4 + i
def MarkStatus (m : Nat) : Nat := (0x4302 + m * 0x10) * 256 + 0x8
def MarkEdges (m : Nat) : Nat := (0x4303 + m * 0x10) * 256 + 0x1
def MarkLatched (m : Nat) : Nat := (0x4303 + m * 0x10) * 256 + 0x2
def MarkFiltered (m : Nat) : Nat := (0x4303 + m * 0x10) * 256 + 0x3
def MarkDropped (m : Nat) : Nat := (0x4303 + m * 0x10) * 256 + 0x4

/-! Objects of spec/14_jorzer_host.md. -/

def JzPosition : Nat := 0x230001
def JzChainLength : Nat := 0x230002
def JzState : Nat := 0x230003
def JzStatus : Nat := 0x230004
def JzCommand : Nat := 0x230005
def JzChainMap : Nat := 0x230006
def JzAcceptedMap : Nat := 0x230007
def JzSyncInterval : Nat := 0x230101
def JzDelayInterval : Nat := 0x230102
def JzCrcLimit : Nat := 0x230103
def JzPortState (j : Nat) : Nat := (0x2302 + j) * 256 + 0x1
def JzLinkDelay (j : Nat) : Nat := (0x2302 + j) * 256 + 0x2
def JzAsymmetry (j : Nat) : Nat := (0x2302 + j) * 256 + 0x3
def JzCrcErrors (j : Nat) : Nat := (0x2302 + j) * 256 + 0x4
def JzReplays (j : Nat) : Nat := (0x2302 + j) * 256 + 0x5
def JzLinkDowns (j : Nat) : Nat := (0x2302 + j) * 256 + 0x6
def JzLinkDownCause (j : Nat) : Nat := (0x2302 + j) * 256 + 0x7
def HsqBase (q : Nat) : Nat := (0x2310 + q) * 256 + 0x1
def HsqSize (q : Nat) : Nat := (0x2310 + q) * 256 + 0x2
def HsqCompletionQueue (q : Nat) : Nat := (0x2310 + q) * 256 + 0x3
def HsqClass (q : Nat) : Nat := (0x2310 + q) * 256 + 0x4
def HsqHead (q : Nat) : Nat := (0x2310 + q) * 256 + 0x5
def HcqBase (q : Nat) : Nat := (0x2330 + q) * 256 + 0x1
def HcqSize (q : Nat) : Nat := (0x2330 + q) * 256 + 0x2
def HcqVector (q : Nat) : Nat := (0x2330 + q) * 256 + 0x3
def HcqIrqCount (q : Nat) : Nat := (0x2330 + q) * 256 + 0x4
def HcqIrqTime (q : Nat) : Nat := (0x2330 + q) * 256 + 0x5
def HcqStreamBase (q : Nat) : Nat := (0x2330 + q) * 256 + 0x6
def HcqStreamSize (q : Nat) : Nat := (0x2330 + q) * 256 + 0x7
def HcqTail (q : Nat) : Nat := (0x2330 + q) * 256 + 0x8
def HostSubmitted : Nat := 0x235001
def HostCompleted : Nat := 0x235002
def HostOutstanding : Nat := 0x235003
def HostTagTimeout : Nat := 0x235004
def HostStatus : Nat := 0x235005
def PiMapLength : Nat := 0x236001
def PiMap : Nat := 0x236002
def CrGranted (c : Nat) : Nat := (0x2380 + c) * 256 + 0x1
def CrUsed (c : Nat) : Nat := (0x2380 + c) * 256 + 0x2
def CrHeld (c : Nat) : Nat := (0x2380 + c) * 256 + 0x3
def CrConsumed (c : Nat) : Nat := (0x2380 + c) * 256 + 0x4
def CrOccupancy (c : Nat) : Nat := (0x2380 + c) * 256 + 0x5
def CrLate (c : Nat) : Nat := (0x2380 + c) * 256 + 0x6
def CrCorrupt (c : Nat) : Nat := (0x2380 + c) * 256 + 0x7

/-! Objects of spec/15_can_fd.md. -/

def CanMode (c : Nat) : Nat := (0x2400 + c * 0x80) * 256 + 0x1
def CanRecovery (c : Nat) : Nat := (0x2400 + c * 0x80) * 256 + 0x2
def CanCommand (c : Nat) : Nat := (0x2400 + c * 0x80) * 256 + 0x3
def CanStatus (c : Nat) : Nat := (0x2400 + c * 0x80) * 256 + 0x4
def CanTec (c : Nat) : Nat := (0x2400 + c * 0x80) * 256 + 0x5
def CanRec (c : Nat) : Nat := (0x2400 + c * 0x80) * 256 + 0x6
def CanNomPrescaler (c : Nat) : Nat := (0x2401 + c * 0x80) * 256 + 0x1
def CanNomSeg1 (c : Nat) : Nat := (0x2401 + c * 0x80) * 256 + 0x2
def CanNomSeg2 (c : Nat) : Nat := (0x2401 + c * 0x80) * 256 + 0x3
def CanNomSjw (c : Nat) : Nat := (0x2401 + c * 0x80) * 256 + 0x4
def CanDataPrescaler (c : Nat) : Nat := (0x2401 + c * 0x80) * 256 + 0x5
def CanDataSeg1 (c : Nat) : Nat := (0x2401 + c * 0x80) * 256 + 0x6
def CanDataSeg2 (c : Nat) : Nat := (0x2401 + c * 0x80) * 256 + 0x7
def CanDataSjw (c : Nat) : Nat := (0x2401 + c * 0x80) * 256 + 0x8
def CanTdcEnable (c : Nat) : Nat := (0x2401 + c * 0x80) * 256 + 0x9
def CanTdcOffset (c : Nat) : Nat := (0x2401 + c * 0x80) * 256 + 0xA
def CanQueued (c : Nat) : Nat := (0x2403 + c * 0x80) * 256 + 0x1
def CanTransmitted (c : Nat) : Nat := (0x2403 + c * 0x80) * 256 + 0x2
def CanCancelled (c : Nat) : Nat := (0x2403 + c * 0x80) * 256 + 0x3
def CanReceived (c : Nat) : Nat := (0x2403 + c * 0x80) * 256 + 0x4
def CanAccepted (c : Nat) : Nat := (0x2403 + c * 0x80) * 256 + 0x5
def CanFiltered (c : Nat) : Nat := (0x2403 + c * 0x80) * 256 + 0x6
def CanOverrun (c : Nat) : Nat := (0x2403 + c * 0x80) * 256 + 0x7
def CanTxSkipped (c : Nat) : Nat := (0x2403 + c * 0x80) * 256 + 0x8
def TtWindowMissed (c : Nat) : Nat := (0x2403 + c * 0x80) * 256 + 0x9
def CanDetectTable (c : Nat) : Nat := (0x2404 + c * 0x80) * 256 + 0x2
def CanDetectDwell (c : Nat) : Nat := (0x2404 + c * 0x80) * 256 + 0x3
def CanDetectTimeout (c : Nat) : Nat := (0x2404 + c * 0x80) * 256 + 0x4
def CanDetectThen (c : Nat) : Nat := (0x2404 + c * 0x80) * 256 + 0x5
def CanDetectResult (c : Nat) : Nat := (0x2404 + c * 0x80) * 256 + 0x6
def CanBufRole (c b : Nat) : Nat := (0x2410 + c * 0x80 + b) * 256 + 0x1
def CanBufId (c b : Nat) : Nat := (0x2410 + c * 0x80 + b) * 256 + 0x2
def CanBufFlags (c b : Nat) : Nat := (0x2410 + c * 0x80 + b) * 256 + 0x3
def CanBufLength (c b : Nat) : Nat := (0x2410 + c * 0x80 + b) * 256 + 0x4
def CanBufData (c b : Nat) : Nat := (0x2410 + c * 0x80 + b) * 256 + 0x5
def CanBufCommand (c b : Nat) : Nat := (0x2410 + c * 0x80 + b) * 256 + 0x6
def CanBufState (c b : Nat) : Nat := (0x2410 + c * 0x80 + b) * 256 + 0x7
def CanBufTime (c b : Nat) : Nat := (0x2410 + c * 0x80 + b) * 256 + 0x8
def CanBufOneShot (c b : Nat) : Nat := (0x2410 + c * 0x80 + b) * 256 + 0x9
def CanBufTxSlot (c b : Nat) : Nat := (0x2410 + c * 0x80 + b) * 256 + 0xA
def CanBufTriggerSlot (c b : Nat) : Nat := (0x2410 + c * 0x80 + b) * 256 + 0xB
def CanBufRxSlot (c b : Nat) : Nat := (0x2410 + c * 0x80 + b) * 256 + 0xC
def CanFltEnable (c f : Nat) : Nat := (0x2450 + c * 0x80 + f) * 256 + 0x1
def CanFltIde (c f : Nat) : Nat := (0x2450 + c * 0x80 + f) * 256 + 0x2
def CanFltId (c f : Nat) : Nat := (0x2450 + c * 0x80 + f) * 256 + 0x3
def CanFltMask (c f : Nat) : Nat := (0x2450 + c * 0x80 + f) * 256 + 0x4
def CanFltBuffer (c f : Nat) : Nat := (0x2450 + c * 0x80 + f) * 256 + 0x5
def TtCycleLength (c : Nat) : Nat := (0x2470 + c * 0x80) * 256 + 0x1
def TtMatrixCycles (c : Nat) : Nat := (0x2470 + c * 0x80) * 256 + 0x2
def TtSlotTable (c : Nat) : Nat := (0x2470 + c * 0x80) * 256 + 0x3

/-! Objects of spec/16_field_io.md. -/

def FieldSupplyVoltage : Nat := 0x250001
def FieldStatus : Nat := 0x250002
def FieldInputsValid : Nat := 0x250003
def FieldDieTemperature : Nat := 0x250004
def FinImage : Nat := 0x250005
def FoutImage : Nat := 0x250006
def FieldSagCount : Nat := 0x250007
def FinType (i : Nat) : Nat := (0x2510 + i) * 256 + 0x1
def FinThresholdOn (i : Nat) : Nat := (0x2510 + i) * 256 + 0x2
def FinThresholdOff (i : Nat) : Nat := (0x2510 + i) * 256 + 0x3
def FinFilterCount (i : Nat) : Nat := (0x2510 + i) * 256 + 0x4
def FinInvert (i : Nat) : Nat := (0x2510 + i) * 256 + 0x5
def FinSubstitute (i : Nat) : Nat := (0x2510 + i) * 256 + 0x6
def FinWireBreakEnable (i : Nat) : Nat := (0x2510 + i) * 256 + 0x7
def FinWireBreakLevel (i : Nat) : Nat := (0x2510 + i) * 256 + 0x8
def FinWireBreakTime (i : Nat) : Nat := (0x2510 + i) * 256 + 0x9
def FinSlot (i : Nat) : Nat := (0x2510 + i) * 256 + 0xA
def FinStatus (i : Nat) : Nat := (0x2510 + i) * 256 + 0xB
def FinTransitions (i : Nat) : Nat := (0x2510 + i) * 256 + 0xC
def FinVoltage (i : Nat) : Nat := (0x2510 + i) * 256 + 0xD
def FoutSource (o : Nat) : Nat := (0x2530 + o) * 256 + 0x1
def FoutSlot (o : Nat) : Nat := (0x2530 + o) * 256 + 0x2
def FoutValue (o : Nat) : Nat := (0x2530 + o) * 256 + 0x3
def FoutAutoRestore (o : Nat) : Nat := (0x2530 + o) * 256 + 0x4
def FoutOverloadLimit (o : Nat) : Nat := (0x2530 + o) * 256 + 0x5
def FoutOverloadTime (o : Nat) : Nat := (0x2530 + o) * 256 + 0x6
def FoutOpenCurrent (o : Nat) : Nat := (0x2530 + o) * 256 + 0x7
def FoutCurrent (o : Nat) : Nat := (0x2530 + o) * 256 + 0x8
def FoutStatus (o : Nat) : Nat := (0x2530 + o) * 256 + 0x9

/-! Objects of spec/17_safety.md. -/

def SafetyConfigSource : Nat := 0x260001
def SealCode : Nat := 0x260002
def SafetyState : Nat := 0x260003
def SafetyStatus : Nat := 0x260004
def SafetyUnlock : Nat := 0x260005
def SafetyCommand : Nat := 0x260006
def SafetyParamSet : Nat := 0x260101
def SafetyParamCrc : Nat := 0x260102
def SafetyParamCrcComputed : Nat := 0x260103
def PairState (i : Nat) : Nat := 0x260201 + i
def StoGroupState (i : Nat) : Nat := 0x260301 + i
def GateEnableImage : Nat := 0x260305
def SupplyEnableImage : Nat := 0x260306
def SafetyDemands : Nat := 0x260401
def StoResponseMax : Nat := 0x260402

/-! Objects of spec/18_faults_thermal.md. -/

def FaultHighestClass : Nat := 0x270001
def NerrState : Nat := 0x270002
def NerrMinPulse : Nat := 0x270003
def FaultLogHead : Nat := 0x270004
def FaultLogCount : Nat := 0x270005
def FaultLogDropped : Nat := 0x270006
def FaultLog : Nat := 0x270007
def FatalRecord : Nat := 0x270008
def FaultCommand : Nat := 0x270009
def FaultReaction (k : Nat) : Nat := (0x2700 + k) * 256 + 0x1
def FaultCount (k : Nat) : Nat := (0x2700 + k) * 256 + 0x2
def FaultSticky (k : Nat) : Nat := (0x2700 + k) * 256 + 0x3
def FaultStickyHigh (k : Nat) : Nat := (0x2700 + k) * 256 + 0x4
def FaultActive (k : Nat) : Nat := (0x2700 + k) * 256 + 0x5
def FaultActiveHigh (k : Nat) : Nat := (0x2700 + k) * 256 + 0x6
def FaultForce (k : Nat) : Nat := (0x2700 + k) * 256 + 0x7
def FaultForceHigh (k : Nat) : Nat := (0x2700 + k) * 256 + 0x8
def ZoneTemperature (i : Nat) : Nat := 0x278001 + i
def HottestZone : Nat := 0x278008
def SensorTemperature (i : Nat) : Nat := 0x278101 + i
def SensorFrequency (i : Nat) : Nat := 0x278111 + i
def SensorBroken : Nat := 0x278121
def ThermalThrottleThreshold : Nat := 0x278201
def ThermalCriticalThreshold : Nat := 0x278202
def ThermalShutdownThreshold : Nat := 0x278203
def ThermalHysteresis : Nat := 0x278204
def ThermalRateLimit : Nat := 0x278205
def ThermalEscalateTime : Nat := 0x278206
def ThrottleLevel : Nat := 0x278207
def ThermalStatus : Nat := 0x278208

/-! Objects of spec/19_package_power_reset.md. -/

def DeviceState : Nat := 0x202001
def DeviceCommand : Nat := 0x202002
def StartupTarget : Nat := 0x202003
def ResetStatus : Nat := 0x202004
def BootBank : Nat := 0x202005
def BootTime : Nat := 0x202006
def NrstState : Nat := 0x202007
def SupplyVoltage (i : Nat) : Nat := 0x202008 + i

/-! Objects of spec/20_nv_update.md. -/

def UpdateCommand : Nat := 0x280001
def UpdateState : Nat := 0x280002
def UpdateRejectCause : Nat := 0x280003
def UpdateTrialBoots : Nat := 0x280004
def UpdateTrialCount : Nat := 0x280005
def UpdateReceived : Nat := 0x280006
def UpdateStatus : Nat := 0x280007
def UpdateData : Nat := 0x280101
def BankState (i : Nat) : Nat := 0x280201 + i
def BankVersion (i : Nat) : Nat := 0x280203 + i
def MinSecurityVersion : Nat := 0x280205
def StoreCommand : Nat := 0x281001
def StoreState : Nat := 0x281002
def StoreUsed : Nat := 0x281003
def StoreLastSize : Nat := 0x281004
def StoreFormat : Nat := 0x281005
def StoreRolledBack : Nat := 0x281006
def StoreSequence : Nat := 0x281007

/-! Objects of spec/01_tick_row.md. -/

def SumTickStarted : Nat := 0x205101
def SumTickCompleted : Nat := 0x205102
def SumTickOverrun : Nat := 0x205103
def SumSetpointWritten : Nat := 0x205201
def SumSetpointConsumed : Nat := 0x205202
def SumSetpointOccupancy : Nat := 0x205203
def SumSetpointFlushed : Nat := 0x205204
def SumCreditGranted : Nat := 0x205301
def SumCreditUsed : Nat := 0x205302
def SumCreditHeld : Nat := 0x205303
def SumCreditConsumed : Nat := 0x205304
def SumCreditOccupancy : Nat := 0x205305
def SumCreditLate : Nat := 0x205306
def SumCreditCorrupt : Nat := 0x205307
def SumHostTagSubmitted : Nat := 0x205401
def SumHostTagCompleted : Nat := 0x205402
def SumHostTagOutstanding : Nat := 0x205403
def SumInputFrameReceived : Nat := 0x205501
def SumInputFrameAccepted : Nat := 0x205502
def SumInputFrameDuplicate : Nat := 0x205503
def SumInputFrameLate : Nat := 0x205504
def SumInputFrameRejected : Nat := 0x205505
def SumEncoderEdges : Nat := 0x205601
def SumEncoderUp : Nat := 0x205602
def SumEncoderDown : Nat := 0x205603
def SumEncoderRejected : Nat := 0x205604
def SumEncoderIndexAdjust : Nat := 0x205605
def SumEncoderPosition : Nat := 0x205606
def SumEncoderStartPosition : Nat := 0x205607
def SumCompareArmed : Nat := 0x205701
def SumCompareFired : Nat := 0x205702
def SumCompareFiredLate : Nat := 0x205703
def SumCompareMissed : Nat := 0x205704
def SumCompareCancelled : Nat := 0x205705
def SumComparePending : Nat := 0x205706
def SumEmulationInput : Nat := 0x205801
def SumEmulationEmitted : Nat := 0x205802
def SumEmulationDelayed : Nat := 0x205803
def SumEmulationRemainder : Nat := 0x205804
def SumCaptureAcquired : Nat := 0x205901
def SumCaptureStored : Nat := 0x205902
def SumCaptureStreamed : Nat := 0x205903
def SumCaptureOverflowed : Nat := 0x205904
def SumMarkEdges : Nat := 0x205A01
def SumMarkLatched : Nat := 0x205A02
def SumMarkFiltered : Nat := 0x205A03
def SumMarkDropped : Nat := 0x205A04
def SumCanMessageQueued : Nat := 0x205B01
def SumCanMessageTransmitted : Nat := 0x205B02
def SumCanMessageCancelled : Nat := 0x205B03
def SumCanMessagePending : Nat := 0x205B04
def SumCanMessageReceived : Nat := 0x205B05
def SumCanMessageAccepted : Nat := 0x205B06
def SumCanMessageFiltered : Nat := 0x205B07
def SumCanMessageOverrun : Nat := 0x205B08
def SumMoveCommanded : Nat := 0x205E01
def SumMoveExecuted : Nat := 0x205E02
def SumMoveRemaining : Nat := 0x205E03
def SumMoveAbandoned : Nat := 0x205E04

end Obj

end Sys2Proof.Machine
end

