-- ==== Sys2Proof/Machine/Dict.lean ====
section
/-! DEFINITION. Finding an object in the dictionary: which row an index and a subindex name (R46, R47, R493), its
default, and whether its instance exists. -/

namespace Sys2Proof.Machine.Dict

/-- The rows of the axis objects at an offset, by groups of eight offsets (R47). -/
def axisRows (off : Nat) : List Row :=
  match off / 8 with
  | 0 => axis0Rows | 1 => axis1Rows | 2 => axis2Rows | 3 => axis3Rows
  | 4 => axis4Rows | 5 => axis5Rows | 6 => axis6Rows | _ => axis7Rows

/-- The rows of the blocks that have no instances of their own, by the index's upper byte. -/
def rootRows (i : Nat) : List Row :=
  match i / 256 with
  | 0x10 => root10Rows | 0x11 => root11Rows | 0x1F => root1FRows
  | 0x20 => root20Rows | 0x21 => root21Rows | 0x22 => root22Rows | 0x23 => root23Rows
  | 0x25 => root25Rows | 0x26 => root26Rows | 0x27 => root27Rows | 0x28 => root28Rows
  | 0x29 => root29Rows | 0x2A => root2ARows | 0x2B => root2BRows
  | _ => []

/-- The block an index lies in: the instance number, the offset within the instance and the rows to search. -/
def locate (i : Nat) : Nat × Nat × List Row :=
  if 0x5000 ≤ i ∧ i < 0x6000 then (0, i, slotRows)
  else if 0x3000 ≤ i ∧ i < 0x4000 then ((i - 0x3000) / 0x40, (i - 0x3000) % 0x40, axisRows ((i - 0x3000) % 0x40))
  else if 0x4000 ≤ i ∧ i < 0x4200 then ((i - 0x4000) / 0x20, (i - 0x4000) % 0x20, fbRows)
  else if 0x4200 ≤ i ∧ i < 0x4280 then ((i - 0x4200) / 0x10, (i - 0x4200) % 0x10, cmpRows)
  else if 0x4280 ≤ i ∧ i < 0x42C0 then ((i - 0x4280) / 0x10, (i - 0x4280) % 0x10, emuRows)
  else if 0x4300 ≤ i ∧ i < 0x4400 then ((i - 0x4300) / 0x10, (i - 0x4300) % 0x10, markRows)
  else if 0x4400 ≤ i ∧ i < 0x4600 then
    ((i - 0x4400) / 0x20, (i - 0x4400) % 0x20, if (i - 0x4400) % 0x20 < 16 then ps0Rows else ps1Rows)
  else if 0x4800 ≤ i ∧ i < 0x4900 then
    ((i - 0x4800) / 0x20, (i - 0x4800) % 0x20,
      if (i - 0x4800) % 0x20 < 8 then span0Rows else if (i - 0x4800) % 0x20 < 16 then span1Rows else span2Rows)
  else if 0x4A00 ≤ i ∧ i < 0x4C00 then ((i - 0x4A00) / 4, (i - 0x4A00) % 4, graftRows)
  else if 0x4C00 ≤ i ∧ i < 0x4D00 then ((i - 0x4C00) / 0x20, (i - 0x4C00) % 0x20, pathRows)
  else if 0x2400 ≤ i ∧ i < 0x2500 then ((i - 0x2400) / 0x80, (i - 0x2400) % 0x80, canRows)
  else (0, i, rootRows i)

/-- The rows of an index: those whose offsets hold it. -/
def rowsAt (i : Nat) : List Row :=
  let p := locate i
  p.2.2.filter fun r => r.off ≤ p.2.1 && p.2.1 < r.off + r.cnt

/-- The row of a subentry among the rows of its index. -/
def rowOf (i sub : Nat) : Option Row := (rowsAt i).find? fun r => r.lo ≤ sub && sub ≤ r.hi

/-- The row of a key (index·256 + subindex). -/
def row (key : Nat) : Option Row := rowOf (key / 256) (key % 256)


/-- R47: an index that names an object. -/
def known (i : Nat) : Bool := !(rowsAt i).isEmpty

/-- R47: the instance of an index has the row's object. The high words of the sticky and active bits of a fault kind
exist for kinds 0x0A and 0x0B only (spec/18_faults_thermal.md, Fault objects). -/
def present (i : Nat) (r : Row) : Bool := r.instLo ≤ (locate i).1 && (locate i).1 ≤ r.instHi

/-- The kinds with 128 instances (R430). -/
def wideKind (k : Nat) : Bool := k == 0x0A || k == 0x0B

/-- R46: the highest subindex in use at an index; a fault kind without high words ends at its subindex 7. -/
def highestSub (i : Nat) : Nat :=
  if 0x2701 ≤ i ∧ i ≤ 0x2733 ∧ wideKind (i - 0x2700) = false then 7 else (rowsAt i).foldl (fun m r => max m r.hi) 0

/-- R431: the default reaction of a fault kind: bit 0 I, 1 T, 2 N, 3 B, 4 S, 5 K, 6 C (table of R430). -/
def defaultReaction (k : Nat) : Nat :=
  if k ∈ [0x05, 0x30, 0x31] then 0x44
  else if k ∈ [0x28, 0x2B] then 0x15
  else if k ∈ [0x14, 0x16] then 0x11
  else if k ∈ [0x01, 0x0A, 0x0B, 0x0C, 0x0D, 0x0E, 0x0F, 0x10, 0x11, 0x12, 0x17, 0x1A, 0x1B, 0x1D, 0x1F, 0x25, 0x27, 0x2A, 0x2F]
  then 0x09
  else if k = 0x2D then 0 else 1

/-- R183: the latch slots of the axes are slots s0+3 to s0+6 with s0 = 0x400 + 0x10·n. -/
def isLatchSlot (s : Nat) : Bool := 0x400 ≤ s && s < 0x800 && 3 ≤ s % 16 && s % 16 ≤ 6

/-- R183: the type of a latch slot. -/
def latchType (s : Nat) : Int := if s % 16 = 3 then 8 else if s % 16 = 4 then 9 else if s % 16 = 5 then 14 else 1

/-- The value a register reads as until something writes it: the table's default, or the per-instance default its
table or rule states.
(DESIGN CHOICE, unsafe: log entry 3; DESIGN CHOICE, safe: log entry 6; DESIGN CHOICE, unsafe: log entry 124.) -/
def dflt (key : Nat) : Int :=
  let i := key / 256
  let sub := key % 256
  if 0x5000 ≤ i ∧ i < 0x6000 then
    if sub = 2 then (if isLatchSlot (i - 0x5000) then latchType (i - 0x5000) else 0)
    else if sub = 3 then (if isLatchSlot (i - 0x5000) then 0xFFFE else 0xFFFF)
    else 0
  else if 0x2701 ≤ i ∧ i ≤ 0x2733 ∧ sub = 1 then defaultReaction (i - 0x2700)
  else if key = Obj.SerialNumber then Config.serialNumber.toNat
  else if key = Obj.RevisionNumber then Config.revisionNumber.toNat
  else if key = Obj.PlantAddress then (Config.serialNumber.toNat % 65536 : Nat)
  else if key = Obj.TemperatureGrade then (if Config.gradeE then 2 else 1)
  else if key = Obj.BankState 0 ∨ key = Obj.LastResetCause then 1
  else if key = Obj.StoreFormat then Config.storeFormat.toNat
  else if 0x7000 ≤ i ∧ i < 0x7040 then (if sub = 1 then 1 else 0)
  else if 0x2A10 ≤ i ∧ i < 0x2A18 ∧ sub = 1 then (if i < 0x2A16 then 1 else 2)
  else if 0x4400 ≤ i ∧ i < 0x4600 ∧ (i - 0x4400) % 0x20 = 0x10 ∧ 1 ≤ sub ∧ sub ≤ 3 then
    ((3 * ((i - 0x4400) / 0x20) + sub - 1 : Nat) : Int)
  else if 0x3000 ≤ i ∧ i < 0x4000 ∧ (i - 0x3000) % 0x40 = 0x19 ∧ sub = 1 then 1
  else match row key with
    | some r => r.dflt
    | none => 0

/-- The bytes of an integer type (R49). -/
def size : Typ → Nat
  | .bool | .u8 | .i8 => 1
  | .u16 | .i16 => 2
  | .u32 | .i32 => 4
  | .u64 | .i64 => 8
  | .record => 16
  | .str | .dom => 0

/-- The size in bytes of a DOMAIN object (R49 and its own table). -/
def domSize (key : Nat) : Nat :=
  let i := key / 256
  if key = Obj.PartnerTable then 256 * 16
  else if key = Obj.RowStitchTable then 1024 * 64
  else if key = Obj.RowParameters then 524288
  else if key = Obj.JzChainMap ∨ key = Obj.JzAcceptedMap then 256
  else if key = Obj.PiMap then 4096
  else if key = Obj.SafetyParamSet then 64
  else if key = Obj.FaultLog then 131072 * 32
  else if key = Obj.FatalRecord then 256
  else if key = Obj.UpdateData then 12 * 1048576
  else if 0x2230 ≤ i ∧ i < 0x2233 then 512
  else if 0x4C00 ≤ i ∧ i < 0x4D00 then 1024 * 72
  else if 0x3000 ≤ i ∧ i < 0x4000 then 4096 * 24
  else if 0x4A00 ≤ i ∧ i < 0x4C00 then 65536 * 16
  else if 0x4800 ≤ i ∧ i < 0x4900 then 4408
  else if 0x2B00 ≤ i ∧ i < 0x2C00 then 16384
  else if 0x2910 ≤ i ∧ i < 0x2914 then 192 * 1048576
  else if 0x2400 ≤ i ∧ i < 0x2500 then
    (if (i - 0x2400) % 0x80 = 4 then 128 else if (i - 0x2400) % 0x80 = 0x70 then 384 else 64)
  else 0

end Sys2Proof.Machine.Dict
end

