-- ==== Sys2Proof/Machine/Sparse.lean ====
section
/-! DEFINITION. Sparse tables: a list of (key, value) pairs with strictly rising keys, in which no entry equals what
an unlisted key reads as. The registers, the memory and every table of block state are held in this one form. -/

namespace Sys2Proof.Machine.Sparse

variable {α : Type}

/-- What a key reads as: its entry, or the default of the key. -/
def get (d : Nat → α) : List (Nat × α) → Nat → α
  | [], k => d k
  | p :: t, k => if p.1 = k then p.2 else get d t k

/-- Put an entry in its place in a rising list. -/
def insert (k : Nat) (v : α) : List (Nat × α) → List (Nat × α)
  | [] => [(k, v)]
  | p :: t => if k < p.1 then (k, v) :: p :: t else if p.1 = k then (k, v) :: t else p :: insert k v t

/-- Drop the entries of a key. -/
def erase (k : Nat) (l : List (Nat × α)) : List (Nat × α) := l.filter fun p => p.1 != k

/-- Write a key; writing the value an unlisted key reads as drops the entry. -/
def put [DecidableEq α] (d : Nat → α) (l : List (Nat × α)) (k : Nat) (v : α) : List (Nat × α) :=
  if v = d k then erase k l else insert k v l

/-- Add a range from `lo` up to `hi` to a rising list of ranges that do not touch. -/
def cover (lo hi : Nat) : List (Nat × Nat) → List (Nat × Nat)
  | [] => [(lo, hi)]
  | x :: t =>
    if hi < x.1 then (lo, hi) :: x :: t else if x.2 < lo then x :: cover lo hi t else cover (min lo x.1) (max hi x.2) t

/-- The canonical form: keys strictly rising, no entry at its default. -/
def wf [DecidableEq α] (d : Nat → α) (l : List (Nat × α)) : Bool :=
  decide (l.Pairwise fun p q => p.1 < q.1) && l.all fun p => decide (p.2 ≠ d p.1)

end Sys2Proof.Machine.Sparse
end

