-- ==== Sys2Proof/Machine/State.lean ====
section
/-! DEFINITION. The state of the block as plain data: the dictionary registers, the addressed memories, and the state
the spec gives each block beside its objects. -/

namespace Sys2Proof.Machine

/-- A cubic Hermite segment (R111, R113): its length in ticks, its end position (unwrapped) and its end velocity. -/
structure Seg where
  dur : Nat
  p1 : Int
  v1 : Int
  deriving DecidableEq, Repr

/-- The profile generator of an axis (R113, R116, R120): the segments still to run, the state at the start of the
first, the segment clock in Q32.32 ticks, the constant velocity that follows the last segment of a velocity move with
its carried remainder, and the setpoint it produced last. -/
structure Gen where
  segs : List Seg := []
  p0 : Int := 0
  v0 : Int := 0
  clock : Int := 0
  vel : Option Int := none
  carry : Int := 0
  p : Int := 0
  v : Int := 0
  a : Int := 0
  done : Bool := true
  deriving DecidableEq, Repr

/-- An entry of an axis's setpoint queue (R122): the edge it is for, the generator after producing it (whose p, v, a
are the setpoint) and whether a consumer took it in the tick that ends at its edge (R124). -/
structure Entry where
  edge : Nat
  gen : Gen
  taken : Bool
  deriving DecidableEq, Repr

/-- What the axis is executing, for the distance ledger (R127). -/
inductive MoveKind
  | none | target | velocity | homing
  deriving DecidableEq, Repr

/-- A plan that waits for the next edge (R123). -/
inductive PlanReq
  | move (target : Int)             -- commands 4 and 5
  | table (target : Option Int)     -- a mode-3 move: run the committed segment table; its target once it is commanded
  | velocity (v : Int)              -- command 6
  | resume                          -- command 8
  | stop (limitKey : Nat) (keep : Bool)   -- commands 7, 9, 10: the object that holds the deceleration; keep the remainder
  | segs (target : Int) (l : List Seg)   -- R139: the member's table of a path
  | replan                          -- R128: the remainder under new limits
  | asked (absolute : Bool) (value : Int)   -- commands 4 and 5 from Standby: resolved at the closure edge (R127, R196)
  | homing (v : Int) (quick : Bool) -- R142, R143: run at a velocity; a reversal first stops on QuickStopDeceleration
  deriving DecidableEq, Repr

/-- Homing progress (R142, R143): 0 none, 1 search, 2 pass through the input after a reversal, 3 creep to the switch
edge, 4 creep to the index, 5 back onto the input after passing through it, 6 accepted and not begun; whether the search has reversed once; the input seen at the previous edge. -/
structure HomeRt where
  phase : Nat := 0
  reversed : Bool := false
  wasActive : Bool := false
  deriving DecidableEq, Repr

/-- What an axis keeps beside its objects: the profile step's generator and queue (R122), the setpoint of the latest
consumed entry (unwrapped), the move in hand (R127), the pending plan (R123), the stop in progress, standstill and brake
(R129, R131), the limit latches (R141), homing, loop closure (R195, R196), the counters of R194, R200 and R202, and the underruns
of R40. -/
structure AxisRt where
  gen : Gen := {}
  queue : List Entry := []
  sp : Int := 0
  spV : Int := 0
  spA : Int := 0
  move : MoveKind := .none
  target : Int := 0
  req : Option PlanReq := none
  stopKey : Nat := 0              -- object holding the deceleration of the running stop ramp; 0 none
  quick : Bool := false           -- the stop is a quick stop or bind-off (R72)
  overridden : Bool := false
  standRun : Nat := 0
  engageTo : Nat := 0             -- brake engage delay running toward: 1 Standby, 2 Disabled, 3 Standby shorted; 0 none
  brakeEngaged : Bool := true
  releaseWait : Bool := false
  limNeg : Bool := false
  limPos : Bool := false
  latchNegAt : Int := 0
  latchPosAt : Int := 0
  home : HomeRt := {}
  closed : Bool := false
  closing : Bool := false         -- the next edge is the first loop-closed edge (R196)
  afterCast : Option PlanReq := none
  homeAfterCast : Bool := false
  overrunS : Bool := false        -- S-frame names the axis because it is Faulted (R423)
  followRun : Nat := 0
  followOver : Bool := false
  netLateRun : Nat := 0
  netTaken : Bool := false        -- a status record was taken at the latest edge
  netRec : Option (Option (Int × Int) × Int) := none   -- a record staged for the next edge: position and velocity, torque
  netDegraded : Bool := false
  gainPrev : Nat := 0
  graftCastOn : Option Nat := none -- graft to engage once cast-on ends (R155)
  softStop : Bool := false        -- a stop ramp to a software limit runs (R140)
  ref : Int := 0                  -- what homing added to the measured position (R142)
  newSource : Bool := false       -- the latch source changed at the latest edge (R201)
  sourceDue : Bool := false       -- it changes at the next edge
  last : Int × Int × Int := (0, 0, 0)   -- the state of the entry for the latest edge (R123)
  lastGen : Gen := {}             -- the generator as it stood with that entry
  byCommand : Bool := false       -- the pending plan was asked for by a command: PLAN_START applies it
  mode : Nat := 1                 -- the mode of the move in hand (R117)
  inNeg : Bool := false           -- the filtered limit inputs at the latest edge (R141)
  inPos : Bool := false
  vPrev : Int := 0                -- the setpoint velocity at the edge before the latest one (R133)
  ownScale : Bool := false        -- a limit stop took the axis out of a ramp of R134 or R139 (R141)
  underruns : Nat := 0            -- underruns of its setpoint queue (R40)
  starved : Nat := 0              -- the edge for which its queue held no entry (R40); 0 none
  deriving DecidableEq, Repr

/-- A bind-off group (R133–R136): 0 idle, 1 requested, 2 ramping; the start edge; r and q in Q16.16, while requested the
minima of this device's own members (`none32` with no moving member); Tb in ticks; the first edge at which this
device's members run with the ramp; the velocities v_i of R133; and the members detached from a graft in this tick, whose
v_i is published at the next edge (R158). -/
structure BindRt where
  phase : Nat := 0
  start : Nat := 0
  r : Nat := 0
  q : Nat := 0
  tb : Nat := 0
  joined : Nat := 0
  vs : List (Nat × Int) := []
  rejoin : List Nat := []
  deriving DecidableEq, Repr

/-- A path group (R139): the time scale ramp: its start edge, whether it falls, the scale it began at (Q2.30), and the
rate limits in Q16.16 with the duration in ticks. -/
structure PathRt where
  start : Nat := 0
  falling : Bool := false
  ramping : Bool := false
  base : Int := 1073741824
  r : Nat := 0
  q : Nat := 0
  tb : Nat := 0
  deriving DecidableEq, Repr

/-- A graft's hidden state (R149–R163): the master at the latest computed edge and whether there is one; the output; the
velocity of the chain before the follower's own profile takes its place; the master cycle and the base that a cam
latched; what shifts (R215) add to a cam's or a trim's output; its own position while it is blended out (R154); the clutch's
distance, its weight at the start of disengaging and the follower's own position; whether the output is held (R149) and whether it was computed in this tick;
the newest sample, the one before it and one that waits for the next edge (R105). -/
structure GraftRt where
  pm : Int := 0
  seen : Bool := false
  po : Int := 0
  vo : Int := 0
  ao : Int := 0
  cv : Int := 0
  h0 : Int := 0
  camBase : Int := 0
  off : Int := 0
  raw : Int := 0
  u : Int := 0
  w0 : Int := 0
  own : Int := 0
  held : Bool := false
  ran : Bool := false
  remote : Option MasterSample := none
  earlier : Option MasterSample := none
  next : Option MasterSample := none
  nextEarlier : Option MasterSample := none  -- the one accepted before it in the same tick (R160)
  table : List (Nat × Nat) := []  -- the ranges of bytes of its cam table that were written (R151)
  deriving DecidableEq, Repr

/-- A span group's hidden state (R170–R180): the carries c of R174, the clamp each trim met in the previous tick (R173),
P of the previous tick (D = 3), w and y of each member at the latest edge and at the one before, those of remote members
that wait for the next edge, those of remote members that have not come for the latest one, the run counters, the references held under
R180, which bytes of each bank were written, and the positions whose tag differs (R178). -/
structure SpanRt where
  carry : List Int := []
  clampSign : List Int := []
  posPrev : List Int := []
  wy : List (Int × Int) := []
  wyPrev : List (Int × Int) := []
  arrived : List (Nat × Int × Int) := []
  settleRun : Nat := 0
  divergeRun : Nat := 0
  staleRun : Nat := 0
  rangeRun : List (Nat × Nat) := []
  refsHeld : Option (List Int) := none
  written0 : Nat := 0
  written1 : Nat := 0
  differing : List Nat := []
  missing : List Nat := []
  deriving DecidableEq, Repr

/-- The state a primitive stitch keeps from tick to tick (R495): started, the integrator, filtered derivative and last
feedback of R187 with the gains of the previous tick (R190), the biquad history (R191), the run counter of R504; and
whether the stitch ran and finished in this tick and whether it computed from stale input (R198). -/
structure StitchRt where
  started : Bool := false
  i : Int := 0
  dt : Int := 0
  yPrev : Int := 0
  gains : List Int := []
  x1 : Int := 0
  x2 : Int := 0
  y1 : Int := 0
  y2 : Int := 0
  run : Nat := 0
  finished : Bool := false
  stale : Bool := false
  deriving DecidableEq, Repr

/-- One subentry of a staged set (R54), or one byte range of a DOMAIN. -/
structure Staged where
  key : Nat
  offset : Nat
  data : List Byte
  deriving DecidableEq, Repr

/-- A dictionary session (R67): its number, its staged set with the generation of R56, its own commit objects, the
windows of R71 and the safety unlock of R420 with its time (ns). -/
structure Session where
  num : Nat
  staged : List Staged := []
  gen : Option Nat := none
  edge : Nat := 0
  time : Nat := 0
  status : Nat := 0
  failObj : Nat := 0
  failPeer : Nat := 0
  win0 : Nat := 0
  win1 : Nat := 1
  unlocked : Bool := false
  unlockAt : Nat := 0
  deriving DecidableEq, Repr

/-- A pending commit (R57–R59): the session, the apply edge and the changes, in order of acceptance. -/
structure PCommit where
  session : Nat
  edge : Nat
  changes : List Staged
  deriving DecidableEq, Repr

/-- The answer of the latest request (R11): its status, the bytes a read returned, and the snapshot's time and number
for an RO-snap read (R52). -/
structure Resp where
  status : Nat := 0
  data : List Byte := []
  time : Nat := 0
  number : Nat := 0
  deriving DecidableEq, Repr

/-- A frame or record the device sent (R92, R198, R104, R133, R355): its kind and its fields. -/
structure Sent where
  kind : Nat
  fields : List Int
  deriving DecidableEq, Repr

/-- An input origin (R20): the consecutive late ticks, the latest edge it was late for, the edges from the latest one on for
which a frame came in time, and the slots it feeds; whether it sends a frame for every edge. -/
structure OriginRt where
  lateRun : Nat := 0
  lateEdge : Nat := 0
  onTime : List Nat := []
  slots : List Nat := []
  known : Bool := false
  deriving DecidableEq, Repr

/-- The row within a tick: the cores stopped in it, the cores that overran in the tick before (R35), the staged input
values (edge, slot, value), whether the input window is open, the cores forced to stop in the next tick and in this one
(R35), whether the overrun check of this tick was made, and whether a tick runs (an edge came since the reset). -/
structure RowRt where
  stopped : Nat := 0
  overran : Nat := 0
  inputs : List (Nat × Nat × Nat) := []
  window : Bool := false
  forced : Nat := 0
  forcedNow : Nat := 0
  checked : Bool := false
  ticking : Bool := false
  deriving DecidableEq, Repr

/-- The Trellis servo (R78–R81): consecutive good measurements, the out-of-tolerance condition of R91, the steps decided
and waiting for their tick boundary (whether a host write asked for it, and by how many ns), and the PPS_OUT pin. -/
structure TrellisRt where
  goodRun : Nat := 0
  outOfTol : Bool := false
  steps : List (Bool × Int) := []
  ppsOut : Bool := false
  deriving DecidableEq, Repr

/-- A listed partner (R95). -/
structure Partner where
  addr : Nat
  lost : Bool
  configured : Bool
  notLocked : Bool
  serial : Nat
  time : Nat
  deriving DecidableEq, Repr

/-- The vector recovery state of a stream (R100). -/
structure FrerRt where
  valid : Bool := false
  newest : Nat := 0
  history : Nat := 0
  deriving DecidableEq, Repr

/-- A gate list in force (R99), whether another one waits, and the time of the apply edge from which that one may begin. -/
structure GateRt where
  enable : Bool := false
  cycle : Nat := 0
  base : Nat := 0
  entries : List (Nat × Nat) := []
  pending : Bool := false
  since : Nat := 0
  deriving DecidableEq, Repr

/-- A scheduled or taken snapshot (R44, R106–R108): its time, flags and values, and the ledgers that failed their check. -/
structure Snap where
  time : Nat
  flags : Nat
  vals : List (Nat × Int)
  bad : Nat
  deriving DecidableEq, Repr

/-- The snapshot unit. -/
structure SnapRt where
  pending : List Nat := []
  passed : Option Nat := none     -- the snapshot a forward step passed, taken at the next edge (R81)
  current : Option Snap := none   -- taken, not yet complete
  last : Option Snap := none
  deriving DecidableEq, Repr

/-- The plant side: partners, the next sequence number of each frame type sent (R92, R100), streams received, time-stamp queues,
gates, the address conflict of R96, the time of the newest sample accepted of each remote master (R105), and the setpoint records
of this tick that wait for their frame, by destination (R198). -/
structure PlantRt where
  partners : List Partner := []
  seqs : List (Nat × Nat) := []
  streams : List (Nat × FrerRt) := []
  tsQueues : List (Nat × List (Nat × Nat × Nat)) := []
  gates : List (Nat × GateRt) := []
  conflict : Bool := false
  newest : List (Nat × Nat) := []
  setpoints : List (Nat × List Int) := []
  deriving DecidableEq, Repr

/-- An entry of the fault log (R437). -/
structure LogEntry where
  time : Nat
  frac : Nat
  source : Nat
  epoch : Nat
  cls : Nat
  reaction : Nat
  flags : Nat
  repeats : Nat
  value : Int
  deriving DecidableEq, Repr

/-- The fault collector (R429–R438): the queue of R437, the entries of the last 10 ms that are already in the log (with their place there), the fatal record and how many of its entries the log holds, the kinds that reacted with N and the pulse of
R434 with the time it began (ns), the instances forced in this tick (R435), the block and chip resets that reactions K and C wait to carry out, and of
this tick the axes to bind off, whether every group is, and the axes that a safe torque off named (R433). -/
structure FaultRt where
  queue : List LogEntry := []
  recent : List (Nat × LogEntry) := []
  fatal : List LogEntry := []
  copied : Nat := 0
  nKinds : List Nat := []
  pulse : Bool := false
  pulseAt : Nat := 0
  fatalHold : Bool := false
  running : Bool := false
  forced : List Nat := []
  blockResets : List Nat := []
  chipReset : Option Nat := none
  trap : Bool := false
  dueB : List Nat := []
  dueWide : Bool := false
  namedS : List Nat := []
  deriving DecidableEq, Repr

/-- An accepted count-line edge (R217): its time in 2^-16 ns, the count after it, its direction, and the axes whose standstill was
reported after it (R218). -/
structure FbEdge where
  time : Nat
  count : Int
  up : Bool
  still : List Nat := []
  deriving DecidableEq, Repr

/-- An event whose count is not yet published (R220): its time, whether the channel itself latches it (R221), and the accepted edges
that bracket it so far. -/
structure FbEvent where
  te : Nat
  pub : Bool
  before : Option FbEdge
  after : Option FbEdge
  deriving DecidableEq, Repr

/-- A count-line edge whose interval of R205 has not ended (R206): its sample in eighths of a count and its time, the line state
before and after it and at present, whether another edge already lies within the interval, and whether it follows a change of the
direction line too closely (R207). -/
structure FbPend where
  sample : Nat
  time : Nat
  old : Nat
  new : Nat
  lines : Nat
  bad : Bool
  tooSoon : Bool
  deriving DecidableEq, Repr

/-- What a feedback channel keeps beside its objects (R205–R225): the decoder's line state (bit 0 A, 1 B, 2 Z), the edge
in its interval, the count, the edge history (newest first, at most 64), the sample of the last change of the direction
line, the edges rejected in this tick, counts set in this tick (old, new), a preset asked for, events not yet final,
whether the latches were read, the SSI word, its errors, delays (in 2.5 ns) and counts by tick, the line fault level, whether the
position is uncertain (R224) and whether a cause of loss was present in the latest tick (R223). -/
structure FbRt where
  lines : Nat := 0
  pend : Option FbPend := none
  count : Int := 0
  edges : List FbEdge := []
  dirTime : Option Nat := none
  rejTick : Nat := 0
  resets : List (Int × Int) := []
  presetDue : Bool := false
  events : List FbEvent := []
  eventUnread : Bool := false
  indexUnread : Bool := false
  ssiPrev : Option Nat := none
  ssiErrors : Nat := 0
  ssiDelays : List Nat := []
  ssiCounts : List Int := []
  fault : Bool := false
  uncertain : Bool := false
  lost : Bool := false
  deriving DecidableEq, Repr

/-- An entry of a compare list (R226). -/
structure CmpEntry where
  pos : Int
  action : Nat
  dir : Nat
  width : Nat
  deriving DecidableEq, Repr

/-- A compare unit (R226–R229): the pending entries, whether the head was armed and tested, the output level and the
number of pulses that have not ended; the time of the last fire as latched at the edge (R18) and the entries that stitches
append at the end of the tick, each with the slot that tells of a refusal (R502). -/
structure CmpRt where
  list : List CmpEntry := []
  armed : Bool := false
  level : Bool := false
  pulses : Nat := 0
  fireAtEdge : Int := 0
  fromRow : List (CmpEntry × Nat) := []
  deriving DecidableEq, Repr

/-- An emulation output (R230–R232): the output lines, the input counts of the slot at the previous edge, and the increments that the
slot gives in the running tick with how many of them are delivered. -/
structure EmuRt where
  a : Bool := false
  b : Bool := false
  z : Bool := false
  prev : Option Int := none
  spread : Int := 0
  fed : Nat := 0
  deriving DecidableEq, Repr

/-- One phase of a PWM generator (R289–R295): the shadow word and whether it is new, the active word, the leg mode in
force and the one asked for, the request level, its length so far (none: saturated), the high time of the running half
and whether the half still counts (a trip has not ended it). The carry is the object `VsCarry`. -/
structure PhaseRt where
  shadow : Nat := 0
  fresh : Bool := false
  word : Nat := 0
  mode : Nat := 0
  want : Nat := 0
  lvl : Bool := false
  run : Option Nat := none
  q : Nat := 0
  running : Bool := false
  deriving DecidableEq, Repr

/-- A PWM generator (R284–R306): the phases; the halves started in this tick; the read-back of GENn and DSEm; whether the
outputs are off until switching resumes (R298, R303); the cycle-by-cycle hold, the inputs that acted in this period and
the run of quiet periods (R301); the inputs asserted, those whose window after an assertion is open (R303), the inputs
blanked by auxiliary channels and those that wait for a window to close (R299, R306); the clock at which the tick is
predicted to end (R286, R287); whether the stage was committed once (R296). -/
structure PwmRt where
  phases : List PhaseRt := [{}, {}, {}]
  half : Nat := 0
  gen : Bool := false
  dse : Bool := false
  off : Bool := true
  hold : Bool := false
  acted : Nat := 0
  quiet : Nat := 0
  asserted : Nat := 0
  tail : Nat := 0
  aux0 : Bool := false
  aux1 : Bool := false
  waiting : Nat := 0
  ends : Option Nat := none
  committed : Bool := false
  comp : Nat := 0
  deriving DecidableEq, Repr

/-- A field pipeline (R248–R262): integrators and field weakening; the setpoints (d, q) computed for the next edge, in
force, and used by the last computation of the previous tick; the count of computations in this tick; the gains of the
previous computation (R257); whether it was active; the run counters of R259 and R260; the sum of iq over the tick; the
latest computation: id, iq, vd, vq, V_dc, θ_s, t_c, the applied phase voltages and the sample time; the position slot of
angle source 3 at the previous edge. -/
structure FocRt where
  ad : Int := 0
  aq : Int := 0
  idFw : Int := 0
  shadow : Int × Int := (0, 0)
  loaded : Int × Int := (0, 0)
  prev : Int × Int := (0, 0)
  used : Int × Int := (0, 0)
  mode : Nat := 1
  j : Nat := 0
  kp : Option (Int × Int) := none
  active : Bool := false
  sumRun : Nat := 0
  dcRun : Nat := 0
  iqSum : Int := 0
  id : Int := 0
  iq : Int := 0
  vd : Int := 0
  vq : Int := 0
  vdc : Int := 0
  theta : Nat := 0
  time : Nat := 0
  applied : Int × Int × Int := (0, 0, 0)
  slotPrev : Option Int := none
  changes : List (Nat × Nat × Bool) := []   -- comparator changes: phase, time, level; the last 8 of each (R262)
  fastRuns : List Nat := [0, 0, 0]          -- consecutive fast-filter outputs beyond the bounds, per phase (R239)
  deriving DecidableEq, Repr

/-- A dibber scan or polarity check (R269): θ_0, the pulses done with their currents, newest first, whether a gap runs, and when
the pulse or gap began (2^-16 ns). -/
structure DibberRt where
  polarity : Bool
  theta0 : Nat
  done : List Int
  gap : Bool
  since : Nat
  deriving DecidableEq, Repr

/-- What the estimators, cast-on, lock recovery and ride-through of a local axis keep (R263–R283). -/
structure SlRt where
  angle : Nat := 0                -- angle and speed of the estimator in use
  speed : Int := 0
  edgeAngle : Option Nat := none  -- its angle at the previous edge, for the unwrapped position
  turns : Int := 0                -- unwrapped electrical angle since the position base
  base : Int := 0                 -- position to which it is added (R280)
  psa : Int := 0                  -- flux observer (R266)
  psb : Int := 0
  resFirst : Option Nat := none   -- sample time of the first of a run above the residual limit
  resSpan : Nat := 0
  tries : Nat := 0                -- computations of an upward hand-over without agreement (R264)
  hfiCount : Nat := 0             -- HFI computations since it started
  lockRun : Nat := 0
  lossRun : Nat := 0
  salRun : Nat := 0
  locked : Bool := false
  cross : List Nat := []          -- zero-crossing times, newest first (R265, R271)
  dirUp : Bool := true
  commAt : Nat := 0               -- latest commutation
  sector : Nat := 0
  zAngle : Nat := 0               -- the electrical angle of the latest zero crossing (R265)
  mAngle : Nat := 0               -- the angle and speed that cast-on measured, and when
  mSpeed : Int := 0
  mTime : Nat := 0
  shorted : Bool := false         -- the angle comes from the short-circuit phasor (R271)
  agreeAt : Option Nat := none    -- since when the estimator agrees in state 4
  dibber : Option DibberRt := none
  test : Bool := false            -- an angle test runs (R283)
  closeDue : Option Bool := none  -- acquisition done, waits for the closure edge: true when state 5 follows
  braked : Bool := false
  waitEdge : Bool := false        -- an encoder or network axis waits for the next edge (R270)
  aligned : Bool := false
  offset : Option Nat := none     -- the acquired FocAngleOffset (R270)
  lost : Bool := false            -- lock recovery runs (R274)
  detected : Nat := 0
  lastE : Int := 0                -- E and speed at the last valid estimate
  lastV : Int := 0
  asc : Bool := false
  hold : Bool := false            -- a failed recovery keeps the short circuit while E is high (R278)
  estimate : Option (Nat × Nat × Int) := none   -- the latest estimate: time, angle, speed (R276)
  reacq : Bool := false
  riding : Bool := false          -- ride-through is in effect (R280)
  absent : Nat := 0
  deriving DecidableEq, Repr


/-- An active repeat of a loop core (R313, R314): first and last bundle of its body, the iterations left with the present
one, the iteration number and the rot bit. -/
structure Repeat where
  first : Nat
  last : Nat
  left : Nat
  iter : Nat
  rot : Bool
  deriving DecidableEq, Repr

/-- A register bank of a loop core: registers written since the latest dispatch (64 and 65 are acc0 and acc1), the number
under which the others are free (none: they hold the reset value), rof, the active repeats (innermost first), pc, and a
branch with the delay slots that still come before it. -/
structure Bank where
  x : List (Nat × Int) := []
  seed : Option Nat := none
  rof : Nat := 0
  reps : List Repeat := []
  pc : Nat := 0
  branch : Option (Nat × Nat) := none
  deriving DecidableEq, Repr

/-- What the instruction of slot 0 does to the flow at the end of its bundle. -/
inductive Flow
  | next
  | branch (target : Nat)
  | loop (r : Repeat)
  | skip (target : Nat)
  | ret
  deriving DecidableEq, Repr

/-- A loop core (spec/12_loop_cores.md): both banks (the shadow bank exists on sentry cores), which one runs, the stitch it
runs, the writes of a bundle whose second instruction has not issued (registers, stores, flow, the units that it starts) and
whether there is one, DIV and SQRT in flight (shadow bank, register, value), the interrupt requests (bit 0 overrun stop, 1 debug halt, 2 memory error), a debug halt,
the memory with an uncorrectable error (data, address), and of a sentry core the vectors that ran in this tick, that wait
for the running handler and that wait for the next tick. -/
structure CoreRt where
  main : Bank := {}
  shadow : Bank := {}
  inShadow : Bool := false
  stitch : Option Nat := none
  buf : List (Nat × Int) := []
  bufStore : List (Nat × Nat × Int) := []
  bufFlow : Flow := .next
  bufDiv : Option (Bool × Nat × Int) := none
  bufSqrt : Option (Bool × Nat × Int) := none
  mid : Bool := false
  div : Option (Bool × Nat × Int) := none
  sqrt : Option (Bool × Nat × Int) := none
  irq : Nat := 0
  halted : Bool := false
  err : Option (Bool × Nat) := none
  ranVec : Nat := 0
  pendVec : Nat := 0
  deferVec : Nat := 0
  deriving DecidableEq, Repr



/-- A sample of a recording (R328): its group (0 digital, 1 analog, 2 signal), its time in 2^-16 ns, whether it is one of
the base group, and its bytes. -/
structure AcqSample where
  group : Nat
  time : Nat
  base : Bool
  data : List Byte
  deriving DecidableEq, Repr

/-- The acquisition engine (R328–R346): an arming that waits for its edge (0: the next one) with its arming field; the slot,
the arming field and epoch in force; the arm edge (ns); the requested and effective counts, Δ and S; the ring of
provisional samples, oldest first; whether this device fired, and a fire record that waits for its edge; the trigger point
(2^-16 ns) and its source; the trigger sample; the base samples taken after it; the pre samples held; the bytes given to
the data area, those already in it, and the offset of the trigger sample; the write-back queue; the time, number and bytes
of the samples of the latest instant; the overflow time; the header's flags, end cause, marks and stored count; the signal
channels' collected samples; the trigger slot's value at the two latest edges; the times of streamed samples (R373); the
edge that an arming must come after, the arming of a fire record that waits, the instant the settle window opened, the
bytes of provisional samples in the write-back queue, the bytes of `wb` that lie in capture memory, the instant of the
last sample, the time of a mark or fault that met the condition, and of the pattern: the digital word and run at the latest
sample, and a condition that came true with the source that made it so. -/
structure AcqRt where
  armAt : Option (Nat × Nat) := none
  slot : Nat := 0
  arming : Nat := 0
  epoch : Nat := 0
  edge : Nat := 0
  pre : Nat := 0
  post : Nat := 0
  postEff : Nat := 0
  delta : Nat := 0
  settle : Nat := 0
  ring : List AcqSample := []
  fired : Bool := false
  fireDue : Option Nat := none
  trig : Option (Nat × Nat) := none
  iStar : Option Nat := none
  after : Nat := 0
  preFilled : Nat := 0
  given : Nat := 0
  drained : Nat := 0
  trigOffset : Nat := 0
  wb : List Byte := []
  instant : Nat × Nat × Nat := (0, 0, 0)
  overTime : Option Nat := none
  flags : Nat := 0
  cause : Nat := 0
  marks : Nat := 0
  stored : Nat := 0
  sig : List (Nat × List Nat) := []
  sigPrev : Option Int := none
  sigNow : Option Int := none
  times : List (Nat × Nat) := []  -- of streamed samples: the bytes given before and the time
  armAfter : Nat := 0
  fireArming : Nat := 0
  opened : Nat := 0
  ringWb : Nat := 0
  back : Nat := 0
  ended : Option Nat := none
  cond : Option Nat := none
  patWord : Option Nat := none
  patRun : Nat := 0
  patDue : Option (Nat × Option Nat) := none
  deriving DecidableEq, Repr

/-- A mark input (R347–R349): the counter value of its latest edge in eighths of a count and the queue of latched marks, oldest first (2^-16 ns). -/
structure MarkRt where
  lastEdge : Option Nat := none
  queue : List Nat := []
  deriving DecidableEq, Repr


/-- A frame that leaves on a Jorzer port (R355, R358, R362): its type, flags, origin, destination, class and edge, its payload,
and, once sent in classes 2 to 4, its link sequence and how often it was replayed. -/
structure JzOut where
  kind : Nat
  flags : Nat
  origin : Nat
  dest : Nat
  cls : Nat
  edge : Nat
  payload : List Byte
  seq : Nat
  replays : Nat
  deriving DecidableEq, Repr

/-- A Jorzer port (R354, R358, R360, R362, R363, R374, R375): the link sequence sent last and received last, the frames not
acknowledged (the replay buffer), those that wait from this device and from the other port, the arbitration's next class
and, per class 2 to 4, whether the relayed input has the turn with both deficits; the credits due to the partner per class;
the times of CRC failures (ns), the latest link delays and when the last was measured (ns); whether the port was up before in this epoch, and the partner's
reset epoch, and the time of the latest type-10 frame (ns). -/
structure JzPortRt where
  txSeq : Nat := 0
  rxSeq : Nat := 0
  unacked : List JzOut := []
  own : List JzOut := []
  relayed : List JzOut := []
  next : Nat := 2
  drr : List (Bool × Nat × Nat) := [(false, 0, 0), (false, 0, 0), (false, 0, 0)]
  due : List Nat := [0, 0, 0]
  crcTimes : List Nat := []
  delays : List Int := []
  delayAt : Nat := 0
  wasUp : Bool := false
  epoch : Option Nat := none
  creditAt : Nat := 0
  deriving DecidableEq, Repr

/-- An exchange record that waits for the tick's frames (R357): its destination, none for a broadcast, its kind and instance,
and its bytes. -/
structure ExOut where
  dest : Option Nat
  kind : Nat
  inst : Nat
  bytes : List Byte
  deriving DecidableEq, Repr

/-- The Jorzer chain (R351–R361, R380): the ports; whether a map came since the latest enumeration began; the number of
entries of the accepted map; exchange frames taken for a later edge (edge, origin, payload); the process-image maps of the
positions; the image values taken of an edge (edge, origin, count); the head's time at the latest sync frame and its
arrival (2^-16 ns); the records for the tick's exchange frames; the chain length that the weights of R363 use; and whether
the device is beyond the 64th of the chain (R351). -/
structure JzRt where
  port0 : JzPortRt := {}
  port1 : JzPortRt := {}
  mapped : Bool := false
  accepted : Nat := 0
  staged : List (Nat × Nat × List Byte) := []
  images : List (Nat × List (Nat × Nat × Nat)) := []
  piSeen : Nat × Nat × Nat := (0, 0, 0)
  headTime : Int := 0
  headAt : Nat := 0
  out : List ExOut := []
  weightLen : Nat := 0
  outside : Bool := false
  deriving DecidableEq, Repr

/-- A request entry that is outstanding (R367, R369): how it came (0 a submission queue, 1 the mailbox, 2 the chain, 3 the
plant network or ETH2), from where (queue, origin or address), its fields, its data, the time of its acceptance (ns), and what
it waits for: 0 it was not executed, 1 a tick boundary (R80), 2 the store (R472), 3 a fenced entry for another position that
earlier entries hold back (R370), 16 and above the outcome of a CAN frame (R390). -/
structure HostReq where
  path : Nat
  source : Nat
  opcode : Nat
  flags : Nat
  tag : Nat
  dest : Nat
  session : Nat
  index : Nat
  sub : Nat
  length : Nat
  offset : Nat
  address : Nat
  data : List Byte
  time : Nat
  waits : Nat := 0
  deriving DecidableEq, Repr

/-- A completion queue (R366, R368, R372, R373): the phase bit of this pass, the host's head, the entries it has not freed,
the entries pending for the interrupt and the time of the oldest (ns), the entries as written, those that wait for a credit
(with their interrupt flag), the next block of the stream buffer, and of the entries not freed which are stream blocks. -/
structure CqRt where
  phase : Bool := true
  head : Nat := 0
  occ : Nat := 0
  irq : Nat := 0
  oldest : Nat := 0
  ring : List (Nat × List Byte) := []
  waiting : List (List Byte × Bool) := []
  block : Nat := 0
  blocks : List Bool := []
  deriving DecidableEq, Repr

/-- The host interface (R364–R378): submission tails, completion queues, class waits and the next queue of each class, the
outstanding entries in order of acceptance, the mailbox's busy bit and completion, and whether the link is lost. -/
structure HostRt where
  tails : List (Nat × Nat) := []
  cqs : List (Nat × CqRt) := []
  waits : List Nat := [0, 0, 0, 0]
  nextQueue : List Nat := [0, 0, 0, 0]
  reqs : List HostReq := []
  busy : Bool := false
  mailbox : List Byte := []
  lost : Bool := false
  deriving DecidableEq, Repr

/-- A CAN controller (R384–R398): the mode in force; bus-off, and whether the host asked for recovery; the entry that rate
detection tries; the requests (buffer, time in ns); the cancels that wait for their outcome; and the schedule slots whose
window runs (slot, buffer); the basic cycle in which a slot fired last; and when detection, and its entry, began (ns). -/
structure CanRt where
  mode : Nat := 0
  busOff : Bool := false
  confirmed : Bool := false
  entry : Nat := 0
  reqs : List (Nat × Nat) := []
  cancels : List Nat := []
  tt : List (Nat × Nat) := []
  fired : List (Nat × Nat) := []
  detectAt : Nat := 0
  entryAt : Nat := 0
  deriving DecidableEq, Repr

/-- A field input (R399–R404): the comparator's level, the filter's counter and output, the last voltage (mV), and a wire
break. -/
structure FinRt where
  level : Bool := false
  c : Nat := 0
  f : Bool := false
  voltage : Nat := 0
  broken : Bool := false
  deriving DecidableEq, Repr

/-- A field output (R406–R408): the command, until when an overload persists (ns), over-temperature, an open wire. -/
structure FoutRt where
  cmd : Bool := false
  overUntil : Nat := 0
  hot : Bool := false
  opened : Bool := false
  deriving DecidableEq, Repr

/-- The field side (R409–R411): inputs, outputs, whether the supply and the die link are valid, and the outputs that restore
themselves, in order; since when the supply is invalid, or when the next output may restore itself (ns). At power-up neither
supply nor link is valid. -/
structure FieldRt where
  fins : List (Nat × FinRt) := []
  fouts : List (Nat × FoutRt) := []
  supply : Bool := false
  link : Bool := false
  restore : List Nat := []
  at_ : Nat := 0
  deriving DecidableEq, Repr

/-- The safety die (R412–R428): the last sample of inputs 8–15, the runs of equal samples and the filtered inputs; for each
pair the cycles in discrepancy, and whether a latched pair passed through demand; the pairs in demand and the groups
acknowledged since their last demand; the groups whose SS1-t timer runs; the axes named by the latest request frame and
whether frames arrive; the cycles in which decisions or read-backs differ; whether the seal code was read; the SBC outputs
that are on; the groups whose channels are on; and when each SS1-t timer started (ns). -/
structure SafetyRt where
  raw : Nat := 0
  runs : List Nat := [0, 0, 0, 0, 0, 0, 0, 0]
  filt : Nat := 0
  disc : List Nat := [0, 0, 0, 0]
  passed : Nat := 0
  demand : Nat := 0
  acked : Nat := 0
  timers : Nat := 0
  named : Nat := 0xFFFF
  path : Bool := false
  differRun : Nat := 0
  readRun : Nat := 0
  sealed : Bool := false
  brakes : Nat := 0
  live : Nat := 0
  timerAt : List Nat := [0, 0, 0, 0]
  deriving DecidableEq, Repr

/-- The thermal manager (R439–R445): the latest raw reading of each sensor, the plausible run of a broken sensor, the run
of measurements in which the two sensors of a zone disagree, the zone temperatures of the last second (newest first), for
each zone the measurements with L at 7 above the throttle threshold, the zones that raised "thermal limit" and have not
cooled, and of a thermal hold the threshold in force and the run of cool measurements. -/
structure ThermalRt where
  prev : List (Nat × Int) := []
  good : List (Nat × Nat) := []
  disagree : List (Nat × Nat) := []
  history : List (List Int) := []
  seven : List (Nat × Nat) := []
  limited : List Nat := []
  hold : Option Int := none
  coolRun : Nat := 0
  deriving DecidableEq, Repr

/-- The always-on supervisor (R450–R459) and start-up (R463, R464): whether the rest of the part is in reset, power-good,
the level of NRST, whether this start follows a failed-closed pin, whether a hold preceded it and aborted a program,
whether start-up runs, recovery service, and whether the bank that runs
is not the one the selector named (R464). -/
structure PowerRt where
  inReset : Bool := true
  good : Bool := false
  nrstLow : Bool := false
  failedStart : Bool := false
  held : Bool := false
  aborted : Bool := false
  booting : Bool := false
  recovery : Bool := false
  fellBack : Bool := false
  deriving DecidableEq, Repr

/-- A record of the store (R470): its place (sector 0–3 small records, 4–63 journal), sequence, kind, format, transaction,
payload, and whether its commit flag is programmed. -/
structure NvRec where
  sector : Nat
  offset : Nat
  seq : Nat
  kind : Nat
  format : Nat
  txn : Nat
  payload : List Byte
  committed : Bool
  deriving DecidableEq, Repr

/-- The flash operation in progress: a page of the record being written, a page of the bank, or an erase of a sector. -/
inductive FlashOp
  | record
  | bank
  | erase (sector : Nat)
  deriving DecidableEq, Repr

/-- The non-volatile store and the update (R468–R483): the records in flash; where the next small record and the next
journal record go; the records that wait to be written, with the pages left of the first (the last is its commit flag); a
save that waits for its edge; the bank pages that wait; the operation in progress and whether its page was retried; the
sectors whose erase was aborted; whether the next boot falls back (command 4 or a watchdog during the trial); the
identities of the packages in the banks and in the field die's slots; and the slot that runs. -/
structure NvRt where
  records : List NvRec := []
  smallAt : Nat × Nat := (0, 0)
  journalAt : Nat × Nat := (4, 0)
  queue : List NvRec := []
  pages : Nat := 0
  saveDue : Bool := false
  bankPages : Nat := 0
  op : Option FlashOp := none
  retried : Bool := false
  dirty : List Nat := []
  fallback : Bool := false
  packages : List Nat := [1, 0]
  nextPackage : Nat := 2
  slots : List Nat := [1, 0]
  slot : Nat := 0
  deriving DecidableEq, Repr

/-- The state of the block. -/
structure State where
  regs : List (Nat × Int) := []  -- the dictionary registers: key to value, sparse against `Dict.dflt`
  mem : List Host.Cell := []  -- bytes of DOMAIN objects and core data memories; an unlisted byte reads 0
  pending : List Instr := []  -- the commands that wait, first in, first out
  resp : Resp := {}  -- the answer of the latest request
  sent : List Sent := []  -- what the device sent since the latest tick edge, oldest first
  free : Nat := 0  -- the model's own counter of free values
  sessions : List Session := []  -- the open sessions (R67)
  lastSession : Nat := 0  -- the number issued last (R67)
  commits : List PCommit := []  -- the pending commits, in order of acceptance (R57)
  slotNow : List (Nat × Nat) := []  -- slot values produced in this tick (raw 64 bits), published at the next edge
  hostWrites : List (Nat × Nat) := []  -- host slot writes waiting for the next edge (R28)
  oldVals : List (Nat × Int) := []  -- values at the latest edge of RW objects written directly since (R51)
  oldBytes : List (Nat × Byte) := []  -- bytes of memory at the latest edge that were written directly since (R51)
  axes : List (Nat × AxisRt) := []  -- axes
  binds : List (Nat × BindRt) := []  -- bind-off groups
  paths : List (Nat × PathRt) := []  -- path groups
  grafts : List (Nat × GraftRt) := []  -- grafts
  spans : List (Nat × SpanRt) := []  -- span groups
  stitches : List (Nat × StitchRt) := []  -- stitches by order
  origins : List (Nat × OriginRt) := []  -- input origins (R20)
  row : RowRt := {}  -- the row within the tick
  trellis : TrellisRt := {}  -- the Trellis servo
  plant : PlantRt := {}  -- the plant side
  snap : SnapRt := {}  -- the snapshot unit
  faults : FaultRt := {}  -- the fault collector
  fbs : List (Nat × FbRt) := []  -- feedback channels
  cmps : List (Nat × CmpRt) := []  -- compare units
  emus : List (Nat × EmuRt) := []  -- emulation outputs
  pwms : List (Nat × PwmRt) := []  -- PWM generators
  focs : List (Nat × FocRt) := []  -- field pipelines
  sls : List (Nat × SlRt) := []  -- sensorless state of the local axes
  pvs : List (Nat × Nat) := []  -- phase-voltage conversions that wait: stage and phase, in order of arrival (R261)
  lostInputs : List Nat := []  -- modulator inputs that are lost (R236)
  cores : List (Nat × CoreRt) := []  -- the loop cores (ch. 12)
  acq : AcqRt := {}  -- the acquisition engine
  marks : List (Nat × MarkRt) := []  -- the mark inputs
  hist : List (Nat × List (Nat × Int × Int)) := []  -- latched samples of axes (time in ns, position, velocity), newest first (R348)
  jz : JzRt := {}  -- the Jorzer chain
  host : HostRt := {}  -- the host interface
  cans : List (Nat × CanRt) := []  -- the CAN controllers
  field : FieldRt := {}  -- the field side of the field-and-safety die
  safety : SafetyRt := {}  -- the safety die
  thermal : ThermalRt := {}  -- the thermal manager
  power : PowerRt := {}  -- the always-on supervisor
  nv : NvRt := {}  -- the non-volatile store and the update
  deriving DecidableEq, Repr

/-- Reasons for which the block would stop with a fault. No command raises one; the constructor says that an address
outside every memory of the block was touched, and it would be safe. -/
inductive Fault
  | noSuchAddress (key : Nat)
  deriving DecidableEq, Repr

/-- Reasons for which a command would be refused by the model itself (not by the device: a device's refusal is a status
in `State.resp`). `notModelled` names a command without a meaning; it is raised by no arm once every command has its
meaning, and it is safe. -/
inductive Refusal
  | notModelled (mnemonic : String)
  deriving DecidableEq, Repr

/-- The state right after a power-on reset: every field at its default.
(DESIGN CHOICE, unsafe: log entry 3.) -/
def State.reset : State := {}

end Sys2Proof.Machine
end

