-- ==== Sys2Proof/Machine/Ops.lean ====
section
/-! DEFINITION. The named operations every meaning goes through: the dictionary registers, the memories, Trellis time
(R74), the signal pool (R26, R28), the tables of block state, and the answers of requests (R11). -/

namespace Sys2Proof.Machine

/-- What a dictionary register reads as. -/
def State.get (s : State) (k : Nat) : Int := Sparse.get Dict.dflt s.regs k

/-- Write a dictionary register. -/
def State.put (s : State) (k : Nat) (v : Int) : State := { s with regs := Sparse.put Dict.dflt s.regs k v }

/-- A register as a natural number. -/
def State.nat (s : State) (k : Nat) : Nat := (s.get k).toNat

/-- A register read as a flag. -/
def State.flag (s : State) (k : Nat) : Bool := s.get k != 0

/-- Bit `i` of a register. -/
def State.bit (s : State) (k i : Nat) : Bool := (s.nat k).testBit i

/-- Set a bit of a register. -/
def State.setBit (s : State) (k i : Nat) : State := s.put k (setBitN (s.nat k) i : Nat)

/-- Clear a bit of a register. -/
def State.clrBit (s : State) (k i : Nat) : State := s.put k (clrBitN (s.nat k) i : Nat)

/-- Set a bit of a register when a condition holds. -/
def State.setBitIf (s : State) (c : Bool) (k i : Nat) : State := if c then s.setBit k i else s

/-- Set or clear a bit of a register. -/
def State.putBit (s : State) (k i : Nat) (v : Bool) : State := if v then s.setBit k i else s.clrBit k i

/-- Add to an unsigned counter of `w` bits, modulo 2^w. -/
def State.count (s : State) (k w : Nat) (d : Int) : State := s.put k (wrapU w (s.get k + d))

/-- Add to a signed 64-bit ledger term, modulo 2^64. -/
def State.addI64 (s : State) (k : Nat) (d : Int) : State := s.put k (wrapS 64 (s.get k + d))

/-- Write several registers. -/
def State.putAll (s : State) : List (Nat × Int) → State
  | [] => s
  | p :: t => (s.put p.1 p.2).putAll t

/-- Fold a state over a list of numbers. -/
def State.each (s : State) (l : List Nat) (f : State → Nat → State) : State := l.foldl f s

/-! ### Memory -/

/-- The memory address of a byte of a DOMAIN object. -/
def domAddr (key offset : Nat) : Nat := key * 4294967296 + offset

/-- The key under which a kernel's parameter record is held in data memory, by the order of its stitch (R309). -/
def kernelKey (order : Nat) : Nat := 0x1000000 + order

/-- The key of the process image in BAR2 (R364, R379). -/
def bar2Key : Nat := 0x1001000

/-- The key of a firmware bank in flash (R468): 0 A, 1 B. -/
def bankKey (b : Nat) : Nat := 0x1001010 + b

/-- One byte of memory.
(DESIGN CHOICE, unsafe: log entry 4.) -/
def Memory.read (m : List Host.Cell) (a : Nat) : Byte := Sparse.get (fun _ => (0 : Byte)) m a

/-- Write one byte of memory. -/
def Memory.write (m : List Host.Cell) (a : Nat) (b : Byte) : List Host.Cell := Sparse.put (fun _ => (0 : Byte)) m a b

/-- The canonical form of the memory. -/
def Memory.wf (m : List Host.Cell) : Bool := Sparse.wf (fun _ => (0 : Byte)) m

/-- `n` bytes from an address up. -/
def Memory.readN (m : List Host.Cell) (a : Nat) : Nat → List Byte
  | 0 => []
  | n + 1 => Memory.read m a :: Memory.readN m (a + 1) n

/-- Write bytes from an address up. -/
def Memory.writeN (m : List Host.Cell) (a : Nat) : List Byte → List Host.Cell
  | [] => m
  | b :: t => Memory.writeN (Memory.write m a b) (a + 1) t

/-- Bytes of a DOMAIN object.
(DESIGN CHOICE, unsafe: log entry 4.) -/
def State.bytes (s : State) (key offset n : Nat) : List Byte := Memory.readN s.mem (domAddr key offset) n

/-- An unsigned little-endian field of a DOMAIN object. -/
def State.uint (s : State) (key offset n : Nat) : Nat := leNat (s.bytes key offset n)

/-- A signed little-endian field of a DOMAIN object. -/
def State.sint (s : State) (key offset n : Nat) : Int := leInt n (s.bytes key offset n)

/-- Write bytes of a DOMAIN object. -/
def State.store (s : State) (key offset : Nat) (l : List Byte) : State :=
  { s with mem := Memory.writeN s.mem (domAddr key offset) l }

/-! ### Direct writes (R51) -/

/-- R51: the values that the row and the blocks use in this tick: those that objects written directly had at the latest edge. -/
def State.inForce (s : State) : State := s.putAll s.oldVals

/-- R51: the value of a register that a block outside the row uses in this tick. -/
def State.inUse (s : State) (k : Nat) : Int := (s.oldVals.lookup k).getD (s.get k)

/-- The value in use as a natural number. -/
def State.natInUse (s : State) (k : Nat) : Nat := (s.inUse k).toNat

/-- The value in use as a flag. -/
def State.flagInUse (s : State) (k : Nat) : Bool := s.inUse k != 0

/-- R51: the bytes of a DOMAIN object that a block uses in this tick. -/
def State.bytesInUse (s : State) (key offset n : Nat) : List Byte :=
  (List.range n).map fun i =>
    (s.oldBytes.lookup (domAddr key offset + i)).getD (Memory.read s.mem (domAddr key offset + i))

/-- R51: the values written directly in this tick, laid over what the blocks left. -/
def State.rewritten (s t : State) : State := t.putAll (s.oldVals.map fun p => (p.1, s.get p.1))

/-- R51: what a block computes in a tick uses the values in force.
(DEDUCED, unsafe: log entry 9.) -/
def State.atEdge (s : State) (f : State → State) : State := s.rewritten (f s.inForce)

/-- R51: an event within a tick meets the values in force.
(DEDUCED, unsafe: log entry 9.) -/
def viaEdge (f : State → Host.Outcome State Fault Refusal) (s : State) : Host.Outcome State Fault Refusal :=
  match f s.inForce with
  | .next t => .next (s.rewritten t)
  | o => o

/-- R51: bytes of a DOMAIN object are written directly; until the next edge the blocks use those they replace. -/
def State.storeDirect (s : State) (key offset : Nat) (l : List Byte) : State :=
  let a := domAddr key offset
  let old := ((List.range l.length).filter fun i => !s.oldBytes.any fun (c : Nat × Byte) => c.1 == a + i).map fun i =>
    (a + i, Memory.read s.mem (a + i))
  { s.store key offset l with oldBytes := s.oldBytes ++ old }

/-! ### Answers, outputs, free values -/

/-- Answer a request with a status (R11). -/
def State.reply (s : State) (status : Nat) : State := { s with resp := { status := status } }

/-- Answer a request with 0x0000. -/
def State.done (s : State) : State := s.reply 0

/-- Answer a read. -/
def State.answer (s : State) (l : List Byte) : State := { s with resp := { status := 0, data := l } }

/-- Record a frame or record the device sent. -/
def State.send (s : State) (kind : Nat) (fields : List Int) : State := { s with sent := s.sent ++ [⟨kind, fields⟩] }

/-- R92, R100: a plant frame leaves: the tags (port, VLAN, priority, redundancy sequence or −1), the EtherType, the header
(flags, destination, source, sequence, stamp, record count, payload length) and the fields of the records. With `FrerEnable` it
leaves on `ETH0` and `ETH1` with the stream's sequence number, else once (port 3: as the switch forwards it). During an address
conflict no frame but announces is sent (R96).
(DESIGN CHOICE, unsafe: log entry 133.) -/
def State.sendFrame (s : State) (kind : Nat) (broadcast : Bool) (dest stamp count length : Nat) (records : List Int) : State :=
  if s.plant.conflict && kind != 6 then s
  else
    let seq := (s.plant.seqs.lookup kind).getD 0
    let flags := (if broadcast then 1 else 0) + (if s.get Obj.TrellisState = 2 then 0 else 4)
    let frame := fun (port tag : Int) => (⟨kind, [port, s.get Obj.PlantVlanId, s.get Obj.PlantPcp, tag, s.get Obj.PlantEtherType,
      (flags : Nat), dest, s.get Obj.PlantAddress, seq, stamp, count, length] ++ records⟩ : Sent)
    let s := { s with plant := { s.plant with seqs := Sparse.insert kind ((seq + 1) % 65536) s.plant.seqs } }
    { s with sent := s.sent ++ if s.flag Obj.FrerEnable then [frame 0 seq, frame 1 seq] else [frame 3 (-1)] }

/-- Kinds of `Sent`: plant frames by their type (R92), below 0x10, and the others of the block. -/
def sentNetSetpoint : Nat := 2
def sentMaster : Nat := 1
def sentResponse : Nat := 5
def sentAnnounce : Nat := 6
def sentTrigger : Nat := 8
def sentJorzer : Nat := 0x14
def sentForward : Nat := 0x15
def sentRequestFrame : Nat := 0x16
def sentMsi : Nat := 0x17
def sentCompletion : Nat := 0x18
def sentStream : Nat := 0x19
def sentCan : Nat := 0x1A
def sentPpsOut : Nat := 0x1B
def sentDma : Nat := 0x1C

/-- The present free value, and the state after using it.
(DESIGN CHOICE, safe: log entry 5.) -/
def State.fresh (s : State) : Int × State := (Config.free s.free, { s with free := s.free + 1 })

/-! ### Trellis time (R13, R74, R89) -/

/-- R13: T in ns for a `TickPeriod` code: 31.25 µs · 2^(code − 1). -/
def periodNs (code : Nat) : Nat := 31250 * 2 ^ (code - 1)

/-- T in ns. -/
def State.tNs (s : State) : Nat := periodNs (s.nat Obj.TickPeriod)

/-- R13: loop-core cycles per tick. -/
def cyclesPerTick (code : Nat) : Nat := 25000 * 2 ^ (code - 1)

/-- R74: the 128-bit product of the time computation at a counter value. -/
def State.timeProduct (s : State) (c : Nat) : Nat :=
  (wrapU 64 ((c : Int) - s.get Obj.TrellisBaseCounter)).toNat * s.nat Obj.TrellisRate

/-- R74: TAI time in ns at a counter value. -/
def State.timeAt (s : State) (c : Nat) : Nat := (s.nat Obj.TrellisOffset + s.timeProduct c / 2 ^ 40) % 2 ^ 64

/-- R74: the fraction in 2^-16 ns at a counter value. -/
def State.fracAt (s : State) (c : Nat) : Nat := s.timeProduct c / 2 ^ 24 % 65536

/-- R74, R76: the time in 2^-16 ns at a counter value given in eighths of a count (125 ps). -/
def State.time16 (s : State) (c8 : Nat) : Nat :=
  (s.nat Obj.TrellisOffset * 65536 + (wrapU 67 ((c8 : Int) - 8 * s.get Obj.TrellisBaseCounter)).toNat * s.nat Obj.TrellisRate / 2 ^ 27) % 2 ^ 80

/-- TAI time now. -/
def State.now (s : State) : Nat := s.timeAt (s.nat Obj.TrellisCounter)

/-- The fraction of the present instant. -/
def State.nowFrac (s : State) : Nat := s.fracAt (s.nat Obj.TrellisCounter)

/-- R14: the number of the latest edge. -/
def State.tick (s : State) : Nat := s.nat Obj.TickNumber

/-- R352, R357: a record for the exchange frames of the tick; a device that is not joined or is excluded sends none. -/
def State.exPost (s : State) (dest : Option Nat) (kind inst : Nat) (bytes : List Byte) : State :=
  if s.get Obj.JzPosition = 0xFF ∨ s.get Obj.JzState = 3 then s
  else { s with jz := { s.jz with out := s.jz.out ++ [⟨dest, kind, inst, bytes⟩] } }

/-- An input frame that counts in one term of its ledger (R41). -/
def State.inputCount (s : State) (key : Nat) : State := (s.count Obj.SumInputFrameReceived 64 1).count key 64 1

/-! ### Tables of block state -/

def State.axis (s : State) (n : Nat) : AxisRt := Sparse.get (fun _ => {}) s.axes n
def State.setAxis (s : State) (n : Nat) (r : AxisRt) : State := { s with axes := Sparse.put (fun _ => {}) s.axes n r }
def State.fin (s : State) (i : Nat) : FinRt := Sparse.get (fun _ => {}) s.field.fins i
def State.bind (s : State) (n : Nat) : BindRt := Sparse.get (fun _ => {}) s.binds n
def State.setBind (s : State) (n : Nat) (r : BindRt) : State := { s with binds := Sparse.put (fun _ => {}) s.binds n r }
def State.path (s : State) (n : Nat) : PathRt := Sparse.get (fun _ => {}) s.paths n
def State.setPath (s : State) (n : Nat) (r : PathRt) : State := { s with paths := Sparse.put (fun _ => {}) s.paths n r }
def State.graft (s : State) (n : Nat) : GraftRt := Sparse.get (fun _ => {}) s.grafts n
def State.setGraft (s : State) (n : Nat) (r : GraftRt) : State :=
  { s with grafts := Sparse.put (fun _ => {}) s.grafts n r }
def State.span (s : State) (n : Nat) : SpanRt := Sparse.get (fun _ => {}) s.spans n
def State.setSpan (s : State) (n : Nat) (r : SpanRt) : State := { s with spans := Sparse.put (fun _ => {}) s.spans n r }
def State.stitch (s : State) (n : Nat) : StitchRt := Sparse.get (fun _ => {}) s.stitches n
def State.setStitch (s : State) (n : Nat) (r : StitchRt) : State :=
  { s with stitches := Sparse.put (fun _ => {}) s.stitches n r }
def State.origin (s : State) (n : Nat) : OriginRt := Sparse.get (fun _ => {}) s.origins n
def State.setOrigin (s : State) (n : Nat) (r : OriginRt) : State :=
  { s with origins := Sparse.put (fun _ => {}) s.origins n r }

/-! ### Axis states (R109) -/

/-- R109: the axis states by their codes in `AxisState`. -/
def axDisabled : Int := 0
def axStandby : Int := 1
def axHolding : Int := 2
def axMoving : Int := 3
def axStopping : Int := 4
def axCasting : Int := 5
def axFaulted : Int := 6

/-- R460: the device states by their codes in `DeviceState`. -/
def devBoot : Int := 0
def devSafe : Int := 1
def devReady : Int := 2
def devRun : Int := 3
def devHalt : Int := 4

/-- Axis 0–15 is local, 16–63 a network axis. -/
def isLocal (n : Nat) : Bool := n < 16

/-- All axis numbers. -/
def allAxes : List Nat := List.range 64

/-! ### The signal pool (R25–R28) -/

/-- The width in bits of a slot type, and whether the bits above it are its sign extension (R28). -/
def slotWidth (t : Nat) : Nat × Bool :=
  if t = 1 then (1, false)
  else if t = 3 ∨ t = 7 then (32, false)
  else if t = 5 ∨ t = 13 then (64, false)
  else if t = 4 ∨ t = 8 then (64, true)
  else if t = 0 then (0, false)
  else (32, true)

/-- R308: a slot's 64 raw bits read as a number of its type. -/
def slotDecode (t : Nat) (raw : Nat) : Int :=
  let w := slotWidth t
  if w.2 then wrapS (max w.1 1) raw else (raw % 2 ^ w.1 : Nat)

/-- R28: the 64 raw bits of a number of a type: sign-extended for signed types, zero-extended otherwise. -/
def slotEncode (t : Nat) (v : Int) : Nat :=
  let w := slotWidth t
  if w.2 then (wrapU 64 (wrapS (max w.1 1) v)).toNat else (wrapU w.1 v).toNat

/-- R308: a value saturated to a slot type's range, and whether the saturation acted. A BOOL takes 1 for any nonzero
value; F32 passes its raw bits. -/
def slotSat (t : Nat) (v : Int) : Int × Bool :=
  let w := slotWidth t
  if t = 1 then (b2i (v != 0), false)
  else if t = 7 then (wrapU 32 v, false)
  else if w.2 then (satS w.1 v, satS w.1 v != v)
  else (clampI v 0 (2 ^ w.1 - 1), clampI v 0 (2 ^ w.1 - 1) != v)

/-- The type of a slot. -/
def State.slotType (s : State) (i : Nat) : Nat := s.nat (Obj.SlotType i)

/-- The value of a slot as published at the latest edge. -/
def State.slotPrev (s : State) (i : Nat) : Int := slotDecode (s.slotType i) (s.nat (Obj.SlotValue i))

/-- The value produced in this tick, if any. -/
def State.slotFresh (s : State) (i : Nat) : Option Int := (s.slotNow.lookup i).map (slotDecode (s.slotType i))

/-- The value of a slot as produced in this tick, else as published at the latest edge. -/
def State.slotNewest (s : State) (i : Nat) : Int := (s.slotFresh i).getD (s.slotPrev i)

/-- A producer writes a slot in this tick: the value is saturated to the slot's type (R308). -/
def State.slotWrite (s : State) (i : Nat) (v : Int) : State :=
  if i = 0xFFFF then s
  else
    let t := s.slotType i
    let r := slotSat t v
    let s := { s with slotNow := Sparse.insert i (slotEncode t r.1) s.slotNow }
    s.setBitIf r.2 (Obj.SlotFlags i) 1

/-- A latch source writes a slot at an edge (R18). -/
def State.slotLatch (s : State) (i : Nat) (v : Int) : State :=
  s.put (Obj.SlotValue i) (slotEncode (s.slotType i) (slotSat (s.slotType i) v).1 : Nat)

/-- R20: flag a slot stale in this tick. -/
def State.slotStale (s : State) (i : Nat) : State := s.setBit (Obj.SlotFlags i) 0

/-- R183: the first of the 16 slots of axis n's vendor row. -/
def axisSlot (n : Nat) : Nat := 0x400 + 0x10 * n

end Sys2Proof.Machine
end

