-- ==== Sys2Proof/Machine/Operands.lean ====
section
/-! DEFINITION. The operand forms of the row: a stitch-table entry (R327) and the fields of its parameter record
(R495–R504), read from the committed `RowStitchTable` and `RowParameters`. -/

namespace Sys2Proof.Machine

/-- R23: the kinds of stitches. -/
def kindEmpty : Nat := 0
def kindPI : Nat := 1
def kindPID : Nat := 2
def kindBiquad : Nat := 3
def kindProfile : Nat := 4
def kindGraftGear : Nat := 5
def kindGraftCam : Nat := 6
def kindSpan : Nat := 7
def kindFieldSetpoint : Nat := 8
def kindNetSetpoint : Nat := 9
def kindGlue : Nat := 0x0A
def kindLimiter : Nat := 0x0B
def kindSelector : Nat := 0x0C
def kindGainSum : Nat := 0x0D
def kindReaction : Nat := 0x10
def kindSupervision : Nat := 0x11
def kindKernel : Nat := 0x80

/-- A stitch-table entry (R327). -/
structure Stitch where
  kind : Nat
  core : Nat
  order : Nat
  inputs : List Nat
  outputs : List Nat
  kernel : Nat
  recLen : Nat
  recOff : Nat
  deriving DecidableEq, Repr

/-- R327: an unwired slot number. -/
def unwired : Nat := 0xFFFF

/-- R327: entry `i` of a stitch table held as 64-byte entries. -/
def stitchOf (l : List Byte) : Stitch :=
  let u := fun o n => leNat ((l.drop o).take n)
  { kind := u 0 1, core := u 1 1, order := u 2 2,
    inputs := (List.range 8).map fun j => u (4 + 2 * j) 2,
    outputs := (List.range 4).map fun j => u (20 + 2 * j) 2,
    kernel := u 28 1, recLen := u 30 2, recOff := u 32 4 }

/-- Entry `i` of the committed stitch table. -/
def State.stitchEntry (s : State) (i : Nat) : Stitch := stitchOf (s.bytes Obj.RowStitchTable (64 * i) 64)

/-- The committed row. -/
def State.rowTable (s : State) : List Stitch := (List.range (s.nat Obj.RowStitchTableLength)).map s.stitchEntry

/-- The stitch of an order in the committed row. -/
def State.stitchByOrder (s : State) (o : Nat) : Option Stitch := s.rowTable.find? fun d => d.order == o

/-- Slot of input `j`. -/
def Stitch.input (d : Stitch) (j : Nat) : Nat := d.inputs.getD j unwired

/-- Slot of output `j`. -/
def Stitch.output (d : Stitch) (j : Nat) : Nat := d.outputs.getD j unwired

/-- Byte `o` of a stitch's record in the committed `RowParameters`. -/
def State.recU (s : State) (d : Stitch) (o n : Nat) : Nat := s.uint Obj.RowParameters (d.recOff + o) n

/-- A signed field of a stitch's record. -/
def State.recI (s : State) (d : Stitch) (o n : Nat) : Int := s.sint Obj.RowParameters (d.recOff + o) n

/-- The axes a stitch's record names, itself, through a graft's follower or through a span group (R31, R496–R504). -/
def State.stitchAxes (s : State) (d : Stitch) : List Nat :=
  let b0 := s.recU d 0 1
  if d.kind = kindProfile ∨ d.kind = kindFieldSetpoint ∨ d.kind = kindNetSetpoint ∨ d.kind = kindSupervision then [b0]
  else if d.kind = kindGraftGear ∨ d.kind = kindGraftCam then
    let f := s.nat (Obj.GraftFollower b0)
    if f < 64 then [f] else []
  else if d.kind = kindSpan then
    (List.range (s.nat (Obj.SpanMemberCount b0))).filterMap fun i =>
      let m := s.nat (Obj.SpanMember b0 i)
      if m / 256 = s.nat Obj.JzPosition then some (m % 64) else none
  else if d.kind = kindPI ∨ d.kind = kindPID then (if b0 = 0 then [] else [s.recU d 1 1])
  else if d.kind = kindBiquad ∨ d.kind = kindLimiter then (if b0 = 0 then [] else [s.recU d 2 1])
  else if d.kind = kindReaction then allAxes.filter fun a => (s.recU d 8 8).testBit a
  else []

/-- R203: the stitch that owns a trace node of an axis: its position or its velocity loop.
(DESIGN CHOICE, unsafe: log entry 26.) -/
def State.traceOwner (n : State) (a node : Nat) : Option Stitch :=
  let src := if 5 ≤ node ∧ node ≤ 7 then 2 else 1
  n.rowTable.find? fun d => (d.kind == kindPI || d.kind == kindPID) && n.recU d 0 1 == src && n.recU d 1 1 == a

/-- R203: the trace slots that a PI or PID stitch writes. -/
def State.traceSlots (n : State) (d : Stitch) : List Nat :=
  if (d.kind = kindPI ∨ d.kind = kindPID) ∧ n.recU d 0 1 ≠ 0 then
    (let a := n.recU d 1 1
     (List.range 4).filterMap fun j =>
       let node := n.nat (Obj.LoopTraceNode a j)
       if node ≠ 0 ∧ n.nat (Obj.LoopTraceSlot a j) ≠ unwired ∧ n.traceOwner a node = some d then some (n.nat (Obj.LoopTraceSlot a j))
       else none)
  else []

/-- R170, R174: the trim slots of this device's members of a span group. -/
def State.spanTrimSlots (n : State) (g : Nat) : List Nat :=
  (List.range (n.nat (Obj.SpanMemberCount g))).filterMap fun i =>
    if n.nat (Obj.SpanMember g i) / 256 = n.nat Obj.JzPosition ∧ n.nat (Obj.SpanTrimSlot g i) ≠ unwired then
      some (n.nat (Obj.SpanTrimSlot g i)) else none

/-- R25, R170, R203: the slots that a stitch writes: its outputs, the trims of a coupled-span step and the traces of a loop. -/
def State.writesOf (n : State) (d : Stitch) : List Nat :=
  (d.outputs.filter fun w => w != unwired) ++ n.traceSlots d ++ (if d.kind = kindSpan then n.spanTrimSlots (n.recU d 0 1) else [])

/-! ### Writers of slots (R25, R183, R203) -/

/-- R203: the traces in use: axis, node, slot. -/
def State.traces (n : State) : List (Nat × Nat × Nat) :=
  (allAxes.flatMap fun a => (List.range 4).map fun j => (a, n.nat (Obj.LoopTraceNode a j), n.nat (Obj.LoopTraceSlot a j))).filter
    fun x => x.2.1 != 0 && x.2.2 != unwired

/-- The latch sources (R183, R238, R349, R382, R402) beside those of the axes: a number of the source and the slot it writes. -/
def State.latchSources (n : State) : List (Nat × Nat) :=
  let gen := (List.range 16).filterMap fun g => if n.flag (Obj.GenInputEnable g) then some (g, n.nat (Obj.GenInputSlot g)) else none
  let fin := (List.range 16).map fun i => (0x100 + i, n.nat (Obj.FinSlot i))
  let mark := (List.range 16).flatMap fun m =>
    (0x200 + 8 * m, n.nat (Obj.MarkTimeSlot m)) :: (0x201 + 8 * m, n.nat (Obj.MarkSeqSlot m)) ::
      (List.range 4).map fun i => (0x202 + 8 * m + i, n.nat (Obj.MarkPosSlot m i))
  let can := (List.range 2).flatMap fun c => (List.range 64).filterMap fun b =>
    if n.nat (Obj.CanBufRole c b) = 2 then some (0x300 + 64 * c + b, n.nat (Obj.CanBufRxSlot c b)) else none
  (gen ++ fin ++ mark ++ can).filter fun w => w.2 != unwired

/-- The slots that latch sources write beside the latch slots of the axes. -/
def State.latchSlots (n : State) : List Nat := n.latchSources.map fun x => x.2

/-- R170: the trim slots of this device's members, which the coupled-span step writes. -/
def State.trimSlots (n : State) : List Nat := (List.range 8).flatMap n.spanTrimSlots

/-- Every writer of a slot, once each. -/
def State.writers (n : State) : List Nat :=
  n.latchSlots ++ n.trimSlots ++ ((n.traces.map fun x => x.2.2)) ++
    ((n.rowTable.flatMap fun d => d.outputs).filter fun w => w != unwired)

/-- R392: a frame of more than 8 bytes goes on in the slots above the one that `CanBufRxSlot` names, as far as they are used and
nothing else writes them: the source of the buffer and such a slot. -/
def State.canTail (n : State) : List (Nat × Nat) :=
  ((n.latchSources.filter fun x => decide (0x300 ≤ x.1)).flatMap fun x =>
    ((List.range 7).map fun i => x.2 + 1 + i).filterMap fun w =>
      if w < 4096 ∧ n.slotType w ≠ 0 ∧ n.writers.contains w = false ∧ Dict.isLatchSlot w = false then some (x.1, w) else none)

/-- R26: the producer of a slot in the committed row. -/
def State.producerOf (s : State) (slot : Nat) : Option Stitch :=
  if slot = unwired then none else s.rowTable.find? fun d => (s.writesOf d).contains slot

/-- R36: the gang that an axis is a member of. -/
def State.gangOf (s : State) (a : Nat) : Option Nat := (List.range 16).find? fun g => s.bit (Obj.GangMembers g) a

/-- The leader whose profile an axis follows: its gang's leader, or itself. -/
def State.leaderOf (s : State) (a : Nat) : Nat :=
  match s.gangOf a with
  | some g => s.nat (Obj.GangLeader g)
  | none => a

/-- R36: the profile stitch of an axis in the committed row. -/
def State.profileOf (s : State) (a : Nat) : Option Stitch := s.rowTable.find? fun d => d.kind == kindProfile && s.recU d 0 1 == a

/-- R36: the slot that stands in for a slot: the output of the leader's profile step for the same output of the profile step of
another gang member, each other slot for itself. -/
def State.gangSlot (s : State) (slot : Nat) : Nat :=
  match s.producerOf slot with
  | some d =>
    let a := s.recU d 0 1
    if d.kind = kindProfile ∧ s.leaderOf a ≠ a then
      match s.profileOf (s.leaderOf a) with
      | some l => if l.output (d.outputs.findIdx fun w => w == slot) = unwired then slot else l.output (d.outputs.findIdx fun w => w == slot)
      | none => slot
    else slot
  | none => slot

/-- R26: the value of a slot for a stitch: of this tick when the producer's order is lower and it ran, else of the previous
tick. -/
def State.slotFor (s : State) (order slot : Nat) : Int :=
  match s.producerOf slot with
  | some d => if d.order < order then s.slotNewest slot else s.slotPrev slot
  | none => s.slotPrev slot

/-- R26, R36: what a stitch reads from a wired slot. -/
def State.readSlot (s : State) (order slot : Nat) : Int := if slot = unwired then 0 else s.slotFor order (s.gangSlot slot)

/-- R146, R153, R166: the slots that a stitch reads through the object its record names. -/
def State.objectSlots (n : State) (d : Stitch) : List Nat :=
  let b := n.recU d 0 1
  (if d.kind = kindGraftGear ∨ d.kind = kindGraftCam then
    (if n.get (Obj.GraftMasterSource b) = 6 then [n.nat (Obj.GraftMasterNumber b)] else []) ++
      (if n.get (Obj.GraftKind b) = 3 then [n.nat (Obj.PhaseTrimSource b)] else [])
   else if d.kind = kindSpan then (List.range (n.nat (Obj.SpanStateCount b))).map fun i => n.nat (Obj.SpanRefSlot b i)
   else []).filter fun w => w != unwired

/-- R26, R146: the stitches whose values of the same tick a stitch reads: those of lower order that write a slot it reads, and
the profile steps and graft steps that a graft follows. -/
def State.producersOf (n : State) (row : List Stitch) (d : Stitch) : List Stitch :=
  let reads := ((d.inputs.filter fun w => w != unwired) ++ n.objectSlots d).map n.gangSlot
  let b := n.recU d 0 1
  let graft := d.kind = kindGraftGear ∨ d.kind = kindGraftCam
  let m := n.nat (Obj.GraftMasterNumber b)
  let f := n.nat (Obj.GraftFollower b)
  row.filter fun x => decide (x.order < d.order) &&
    ((n.writesOf x).any (fun w => reads.contains w) ||
     (decide graft && x.kind == kindProfile && (n.recU x 0 1 == f || (n.get (Obj.GraftMasterSource b) == 1 && n.recU x 0 1 == m))) ||
     (decide graft && (x.kind == kindGraftGear || x.kind == kindGraftCam) && n.get (Obj.GraftMasterSource b) == 3 && n.recU x 0 1 == m))

/-- Input `j` of a stitch as a number of its slot's type; 0 when unwired (R308). -/
def State.inVal (s : State) (d : Stitch) (j : Nat) : Int := s.readSlot d.order (d.input j)

/-- Whether input `j` is wired. -/
def Stitch.wired (d : Stitch) (j : Nat) : Bool := d.input j != unwired

/-- R20, R26, R198: the stitch computes from stale input: a slot it reads is stale in this tick, or the stitch that wrote it in this
tick computed from stale input. -/
def State.anyStale (s : State) (d : Stitch) : Bool :=
  (((d.inputs.filter fun w => w != unwired) ++ s.objectSlots d).any fun i => s.bit (Obj.SlotFlags (s.gangSlot i)) 0) ||
    (s.producersOf s.rowTable d).any fun x => (s.stitch x.order).stale

end Sys2Proof.Machine
end

