-- ==== Sys2Proof/Machine/Flags.lean ====
section
/-! DEFINITION. Raising a fault source (R429–R438): the records, the log, `NERR`, and the reactions carried out on the
axes of the instance. A clear of a condition is here too. -/

namespace Sys2Proof.Machine

/-! ### Kinds (table of R430) -/

def fkRowOverrun : Nat := 0x01
def fkInputLate : Nat := 0x02
def fkSetpointLate : Nat := 0x03
def fkLedger : Nat := 0x04
def fkLedgerMemory : Nat := 0x05
def fkTimeLost : Nat := 0x06
def fkSyncTolerance : Nat := 0x07
def fkRingLost : Nat := 0x08
def fkAddress : Nat := 0x09
def fkGraftOverflow : Nat := 0x0A
def fkMasterLost : Nat := 0x0B
def fkSpanRange : Nat := 0x0C
def fkSpanStale : Nat := 0x0D
def fkFollowing : Nat := 0x0E
def fkNetLost : Nat := 0x0F
def fkNetDrive : Nat := 0x10
def fkNetFeedback : Nat := 0x11
def fkFeedbackLost : Nat := 0x12
def fkEmulation : Nat := 0x13
def fkSense : Nat := 0x14
def fkGeneral : Nat := 0x15
def fkCurrentSum : Nat := 0x16
def fkDcLink : Nat := 0x17
def fkCastOn : Nat := 0x18
def fkLockLost : Nat := 0x19
def fkRecovery : Nat := 0x1A
def fkTrip : Nat := 0x1B
def fkKernel : Nat := 0x1C
def fkCoreMemory : Nat := 0x1D
def fkJorzer : Nat := 0x1E
def fkChain : Nat := 0x1F
def fkBusOff : Nat := 0x20
def fkWireBreak : Nat := 0x21
def fkOverload : Nat := 0x22
def fkOverTemp : Nat := 0x23
def fkFieldSupply : Nat := 0x24
def fkDieLink : Nat := 0x25
def fkDiscrepancy : Nat := 0x26
def fkSafeStop : Nat := 0x27
def fkSafetyFault : Nat := 0x28
def fkThrottle : Nat := 0x29
def fkThermal : Nat := 0x2A
def fkShutdown : Nat := 0x2B
def fkSensor : Nat := 0x2C
def fkMemCorrected : Nat := 0x2D
def fkDramCapture : Nat := 0x2E
def fkDramTables : Nat := 0x2F
def fkMemory : Nat := 0x30
def fkWatchdog : Nat := 0x31
def fkUpdateFallback : Nat := 0x32
def fkResetPin : Nat := 0x33

/-- R430: the class of a kind: 1 corrected, 2 contained, 3 fatal. -/
def faultClass (k : Nat) : Nat :=
  if k ∈ [0x08, 0x19, 0x29, 0x2C, 0x2D, 0x32, 0x33] then 1
  else if k ∈ [0x05, 0x30, 0x31] then 3 else 2

/-- R431: kinds whose reaction is fixed as a whole. -/
def fixedKind (k : Nat) : Bool := k ∈ [0x05, 0x28, 0x2B, 0x30, 0x31]

/-- R431: bits a kind's reaction must keep. -/
def fixedBits (k : Nat) : Nat := if k = 0x2A then 8 else 0

/-- R430: kinds that accept block reset. -/
def acceptsK (k : Nat) : Bool := k ∈ [0x13, 0x1E, 0x20, 0x2E]

/-- R430: whether a kind has the instance. -/
def instanceExists (k i : Nat) : Bool :=
  if k ∈ [0x01, 0x0C, 0x0D, 0x1C, 0x1D, 0x22, 0x23] then i < 8
  else if k ∈ [0x02, 0x0E, 0x12, 0x18] then i < 64
  else if k ∈ [0x03, 0x0F, 0x10, 0x11] then 16 ≤ i && i < 64
  else if k ∈ [0x04, 0x14, 0x15, 0x16, 0x17, 0x19, 0x1A, 0x1B, 0x21, 0x27] then i < 16
  else if k ∈ [0x0A, 0x0B] then i < 128
  else if k ∈ [0x13, 0x26, 0x31] then i < 4
  else if k ∈ [0x08, 0x1E, 0x20, 0x32] then i < 2
  else if k ∈ [0x29, 0x2A, 0x2B] then i < 7
  else if k = 0x2C then i < 14
  else if k = 0x2D then i < 6
  else if k = 0x2E then i = 0 || i = 4
  else if k = 0x2F then i = 2 || i = 3
  else if k = 0x30 then i = 1 || i = 5
  else 1 ≤ k && k ≤ 0x33 && i = 0

/-- The register and bit that hold an instance's sticky bit. -/
def stickyAt (k i : Nat) : Nat × Nat := if i < 64 then (Obj.FaultSticky k, i) else (Obj.FaultStickyHigh k, i - 64)

/-- The register and bit that hold an instance's active bit. -/
def activeAt (k i : Nat) : Nat × Nat := if i < 64 then (Obj.FaultActive k, i) else (Obj.FaultActiveHigh k, i - 64)

/-- Whether an instance's condition is present. -/
def State.faultActive (s : State) (k i : Nat) : Bool := s.bit (activeAt k i).1 (activeAt k i).2

/-- R436: the condition of an instance begins or ends. -/
def State.setActive (s : State) (k i : Nat) (v : Bool) : State := s.putBit (activeAt k i).1 (activeAt k i).2 v

/-! ### Targets (R432) -/

/-- The bind-off groups an axis is a member of. -/
def State.groupsOf (s : State) (a : Nat) : List Nat :=
  (List.range 16).filter fun b => s.bit (Obj.BindOffMembers b) a

/-- The axis at the head of a follower's graft chain, if it is a local axis: followed through graft outputs (R147). -/
def State.chainMaster (s : State) : Nat → Nat → Option Nat
  | 0, _ => none
  | n + 1, k =>
    let src := s.nat (Obj.GraftMasterSource k)
    if src = 3 then s.chainMaster n (s.nat (Obj.GraftMasterNumber k))
    else if src = 1 ∨ src = 2 then some (s.nat (Obj.GraftMasterNumber k)) else none

/-- The axis is a graft follower of a member of some bind-off group (R132). -/
def State.followsMember (s : State) (a : Nat) : Bool :=
  let g := s.nat (Obj.AxisGraft a)
  g < 128 && match s.chainMaster 128 g with
    | some m => !(s.groupsOf m).isEmpty
    | none => false

/-- R132, R166, R432: the bind-off groups that hold an axis, itself or as a graft follower of a member. -/
def State.groupsHolding (s : State) (a : Nat) : List Nat :=
  let g := s.nat (Obj.AxisGraft a)
  let m := if g < 128 then s.chainMaster 128 g else none
  (s.groupsOf a ++ (match m with | some m => s.groupsOf m | none => [])).dedup

/-- The local members of a span group. -/
def State.spanLocal (s : State) (g : Nat) : List Nat :=
  (List.range (s.nat (Obj.SpanMemberCount g))).filterMap fun i =>
    let m := s.nat (Obj.SpanMember g i)
    if m / 256 = s.nat Obj.JzPosition then some (m % 64) else none

/-- The axes that carry a stitch on a core. -/
def State.coreAxes (s : State) (c : Nat) : List Nat :=
  (((s.rowTable.filter fun d => d.core == c).map s.stitchAxes).flatten).dedup

/-- R430, R432: the kinds whose instance names an axis or the stage of one. -/
def axisKind (k : Nat) : Bool := k ∈ [0x03, 0x0E, 0x0F, 0x10, 0x11, 0x12, 0x14, 0x16, 0x17, 0x18, 0x19, 0x1A, 0x1B, 0x27]

/-- R432: the kinds whose instance is device-wide: it names no axis, stage, graft, span group or core.
(DEDUCED, unsafe: log entry 144.) -/
def deviceWide (k : Nat) : Bool :=
  decide (1 ≤ k ∧ k ≤ 0x33) && !axisKind k && !(k ∈ [0x01, 0x0A, 0x0B, 0x0C, 0x0D, 0x1C, 0x1D])

/-- The grafts of the chain that ends at a graft, the graft first. -/
def State.chainOf (s : State) : Nat → Nat → List Nat
  | 0, _ => []
  | n + 1, k => k :: (if s.get (Obj.GraftMasterSource k) = 3 then s.chainOf n (s.nat (Obj.GraftMasterNumber k)) else [])

/-- The followers whose chain holds a graft. -/
def State.followersOf (s : State) (k : Nat) : List Nat :=
  (List.range 128).filterMap fun g =>
    let a := s.nat (Obj.GraftFollower g)
    if a < 64 ∧ (s.chainOf 128 g).contains k = true then some a else none

/-- R432: the axes a source's reactions act on.
(DEDUCED, unsafe: log entry 144.) -/
def State.faultAxes (s : State) (k i : Nat) : List Nat :=
  if axisKind k then [i]
  else if k ∈ [0x0A, 0x0B] then s.followersOf i
  else if k ∈ [0x0C, 0x0D] then s.spanLocal i
  else if k ∈ [0x01, 0x1C, 0x1D] then s.coreAxes i
  else if deviceWide k then allAxes
  else []

/-! ### Stops a reaction asks for -/

/-- The members of a gang. -/
def State.gangMembers (s : State) (g : Nat) : List Nat := allAxes.filter fun a => s.bit (Obj.GangMembers g) a

/-- Ask for a stop from the next edge (R123, R125) on an axis or, in a gang, on its leader (R38): the object that holds
the deceleration and whether the remaining distance is kept. -/
def State.askStop (s : State) (a limitKey : Nat) (keep : Bool) : State :=
  let l := s.leaderOf a
  let r := s.axis l
  if s.get (Obj.AxisState l) = axMoving ∨ s.get (Obj.AxisState l) = axStopping then
    let key := limitKey - Obj.StopDeceleration a + Obj.StopDeceleration l
    let s := s.setAxis l { r with req := some (.stop key keep), quick := limitKey == Obj.QuickStopDeceleration a, home := {} }
    let s := s.put (Obj.AxisState l) axStopping
    match s.gangOf a with
    | some g => s.put (Obj.GangState g) 2
    | none => s
  else s

/-- R127: the remaining distance is abandoned. -/
def State.abandonRemaining (s : State) (a : Nat) : State :=
  let s := s.addI64 (Obj.MoveAbandoned a) (s.get (Obj.MoveRemaining a))
  (s.put (Obj.MoveRemaining a) 0)

/-- The axis leads a gang with further members, which stop on its profile (R38). -/
def State.leads (s : State) (a : Nat) : Bool :=
  match s.gangOf a with
  | some g => s.nat (Obj.GangLeader g) == a && decide (1 < (s.gangMembers g).length)
  | none => false

/-- R154: an axis that leaves Moving other than by its graft's own events no longer follows.
(DEDUCED, unsafe: log entry 56.) -/
def State.graftDrop (s : State) (a : Nat) : State :=
  if s.flag (Obj.AxisGraftEngaged a) then
    ((s.put (Obj.AxisGraftEngaged a) 0).put (Obj.GraftState (s.nat (Obj.AxisGraft a))) 0).setBit
      (Obj.GraftStatus (s.nat (Obj.AxisGraft a))) 1
  else s

/-- R109, R127, R131, R38: an axis enters Faulted: from any state but Disabled and Faulted; its remaining distance is
abandoned, its brake engages at once, its loops open, and a gang it belongs to stops and is blocked.
(DEDUCED, unsafe: log entry 56.) -/
def State.axisToFaulted (s : State) (a : Nat) : State :=
  if s.get (Obj.AxisState a) = axDisabled ∨ s.get (Obj.AxisState a) = axFaulted then s
  else
    let r := s.axis a
    let runs := s.leads a && decide (s.get (Obj.AxisState a) = axMoving ∨ s.get (Obj.AxisState a) = axStopping)
    let s := s.abandonRemaining a
    let s := s.graftDrop a
    let s := s.setAxis a { r with req := if runs then some (.stop (Obj.QuickStopDeceleration a) false) else none, move := .none, stopKey := 0, engageTo := 0, brakeEngaged := true,
                                  releaseWait := false, closed := false, closing := false,
                                  afterCast := none, home := {}, standRun := 0, overrunS := true, byCommand := false,
                                  gen := if s.leads a then r.gen else { p := r.sp, p0 := r.sp },
                                  last := if s.leads a then r.last else (r.sp, 0, 0) }
    let s := s.put (Obj.AxisState a) axFaulted
    match s.gangOf a with
    | some g => (s.askStop (s.nat (Obj.GangLeader g)) (Obj.QuickStopDeceleration (s.nat (Obj.GangLeader g))) false).put
        (Obj.GangState g) 3
    | none => s

/-- R133: the setpoint velocity of an axis at the latest edge: its chain's output while a graft is engaged, its leader's in
a gang. -/
def State.cmdVel (s : State) (a : Nat) : Int :=
  if s.flag (Obj.AxisGraftEngaged a) then s.get (Obj.GraftOutputVelocity (s.nat (Obj.AxisGraft a)))
  else (s.axis (s.leaderOf a)).last.2.1

/-- R136, R357: the value of a record without a moving member. -/
def none32 : Nat := 0xFFFFFFFF

/-- R134: the least of d_i / |v_i| over the members with their velocities v_i, in Q16.16, rounded down to U32. `num` holds 2^-12
cycle/s² or 2^-8 cycle/s³ and `shift` the power of two that brings the quotient to Q16.16. -/
def State.bindLimit (s : State) (members : List (Nat × Int)) (num : Nat → Nat) (shift : Nat) : Nat :=
  members.foldl (fun m a =>
    let v := a.2.natAbs
    if v = 0 then m else min m (min (none32 - 1) (s.natInUse (num a.1) * 2 ^ shift / v))) none32

/-- The members of a bind-off group on this device. -/
def State.bindMembers (s : State) (b : Nat) : List Nat := allAxes.filter fun a => s.bit (Obj.BindOffMembers b) a

/-- The members of a bind-off group that are moving. -/
def State.bindMoving (s : State) (b : Nat) : List Nat :=
  (s.bindMembers b).filter fun a => s.get (Obj.AxisState a) = axMoving ∨ s.get (Obj.AxisState a) = axStopping

/-- R357: a bind-off record: flags (bit 0 request, bit 1 ramping), r, q and the start edge; a device without members of
the group sends none.
(DESIGN CHOICE, unsafe: log entry 118.) -/
def State.sendBindOff (s : State) (b flags r q start : Nat) : State :=
  if s.get (Obj.BindOffMembers b) = 0 then s
  else s.exPost none 7 b (natLE 4 flags ++ natLE 4 r ++ natLE 4 q ++ natLE 4 start)

/-- R136: while a bind-off ramps, its record is repeated in every tick up to the end of the ramp; R158: the minima with
the v_i of members that left a graft in the tick before are published beside it.
(DESIGN CHOICE, unsafe: log entry 118.) -/
def State.bindRepeat (s : State) (b : Nat) : State :=
  let x := s.bind b
  if x.phase = 2 ∧ s.tick < x.start + x.tb then
    let s := s.sendBindOff b 2 x.r x.q x.start
    if x.rejoin.isEmpty then s
    else
      let vs := (x.rejoin.map fun a => (a, s.cmdVel a)) ++ x.vs.filter fun y => !x.rejoin.contains y.1
      (s.setBind b { x with rejoin := [], vs := vs }).sendBindOff b 0 (s.bindLimit vs Obj.BindOffDeceleration 20) (s.bindLimit vs Obj.BindOffJerk 24) 0
  else s

/-- R133, R134: a bind-off is requested for a start edge: this device's minima are formed from the velocities v_i, and it publishes
them; `r0` and `q0` are the minima already known. -/
def State.bindAsked (s : State) (b start : Nat) (vs : List (Nat × Int)) (r0 q0 : Nat) : State :=
  let r := s.bindLimit vs Obj.BindOffDeceleration 20
  let q := s.bindLimit vs Obj.BindOffJerk 24
  (s.setBind b { phase := 1, start := start, r := min r r0, q := min q q0, vs := vs }).sendBindOff b 1 r q 0

/-- R133, R135: a bind-off request made on this device in the tick after the latest edge. -/
def State.askBindOff (s : State) (b : Nat) : State :=
  let s := s.count (Obj.BindOffRequests b) 32 1
  if (s.bind b).phase = 0 then s.bindAsked b (s.tick + 2) ((s.bindMoving b).map fun a => (a, s.cmdVel a)) none32 none32 else s

/-- R432: reaction B on a list of axes: the bind-off groups that hold them, and a quick stop for an axis in no group
that follows no member; a gang's stop for a fault keeps nothing (R38). -/
def State.bindOffNow (s : State) (axes : List Nat) : State :=
  let groups := ((axes.map s.groupsHolding).flatten).dedup
  let alone := axes.filter fun a => (s.groupsOf a).isEmpty && !s.followsMember a
  (s.each groups State.askBindOff).each alone fun s a => s.askStop a (Obj.QuickStopDeceleration a) (s.gangOf a).isNone

/-- R432, R433: reaction B on a list of axes: carried out at the end of the tick, for the axes that no S of the tick names. -/
def State.reactB (s : State) (axes : List Nat) : State := { s with faults := { s.faults with dueB := s.faults.dueB ++ axes } }

/-- R433: the bind-off reactions of the tick: the groups of the device, or those of the axes.
(DESIGN CHOICE, unsafe: log entry 117; DESIGN CHOICE, unsafe: log entry 118.) -/
def State.reactEnd (s : State) : State :=
  let f := s.faults
  let s := { s with faults := { f with dueB := [], dueWide := false, namedS := [] } }
  let s := if f.dueWide then s.each ((List.range 16).filter fun b => s.nat (Obj.BindOffMembers b) != 0) State.askBindOff else s
  s.bindOffNow ((f.dueB.filter fun a => !f.namedS.contains a).dedup)

/-- R198: the 16 bytes of a setpoint record. -/
def setpointBytes (record : List Int) : List Byte :=
  ((record.take 4).map (intLE 1)).flatten ++ ((record.drop 4).map (intLE 4)).flatten

/-- R198: a setpoint record of a network axis leaves: in the exchange frames of the chain, or in the one frame of the tick for its receiver; `now`
sends a frame of its own at once.
(DESIGN CHOICE, unsafe: log entry 139.) -/
def State.sendSetpoint (s : State) (a : Nat) (record : List Int) (now : Bool) : State :=
  if s.get (Obj.NetAxisPath a) = 2 then
    (if now then s.sendFrame sentNetSetpoint false (s.nat (Obj.NetAxisAddress a)) ((s.tick + 1) * s.tNs) 1 16 record
     else { s with plant := { s.plant with setpoints := s.plant.setpoints ++ [(s.nat (Obj.NetAxisAddress a), record)] } })
  else s.exPost (some (s.nat (Obj.NetAxisAddress a))) 2 0 (setpointBytes record)

/-- R198: the setpoint frames of the tick that ends: one for each receiving device, stamped with the apply edge. -/
def State.sendSetpoints (s : State) (n : Nat) : State :=
  let l := s.plant.setpoints
  let s := { s with plant := { s.plant with setpoints := [] } }
  s.each (l.map fun x => x.1).dedup fun s dest =>
    let r := l.filter fun x => x.1 == dest
    s.sendFrame sentNetSetpoint false dest (n * s.tNs) r.length (16 * r.length) (r.flatMap fun x => x.2)

/-- R432: reaction S on a list of axes: local axes are named in the request frame, network axes are sent records with
enable 0, and each enters Faulted. -/
def State.reactS (s : State) (axes : List Nat) : State :=
  let mask := (axes.filter isLocal).foldl (fun m a => setBitN m a) 0
  let s := if mask = 0 then s else s.send sentRequestFrame [mask]
  let s := s.each (axes.filter fun a => !isLocal a) fun s a => s.sendSetpoint a [s.get (Obj.NetAxisRemoteIndex a), s.get (Obj.NetAxisKind a), 0, 0, 0, 0, 0] true
  let s := { s with faults := { s.faults with namedS := s.faults.namedS ++ axes } }
  s.each axes State.axisToFaulted

/-! ### Marks of a recording (R345, R346) -/

/-- R332: the bytes of a skein slot's data area. -/
def State.skeinData (s : State) (slot : Nat) : Nat := s.nat (Obj.SkeinSize slot) * 1048576 - 4096 - 65536

/-- R346: where the marks area of a slot starts; the spec leaves its place within the slot to the device.
(DESIGN CHOICE, unsafe: log entry 97.) -/
def State.marksOffset (s : State) (slot : Nat) : Nat := if Config.marksFirst then 4096 else 4096 + s.skeinData slot

/-- R332: where the data area of a slot starts.
(DESIGN CHOICE, unsafe: log entry 97.) -/
def State.dataOffset (_s : State) (_slot : Nat) : Nat := if Config.marksFirst then 4096 + 65536 else 4096

/-- R346: a mark is written while the marks area has room: time in 2^-16 ns, kind, source number and value.
(DESIGN CHOICE, unsafe: log entry 100.) -/
def State.acqMark (s : State) (time kind source value : Nat) : State :=
  let r := s.acq
  if r.marks < 4096 then
    let l := natLE 8 (time / 65536) ++ natLE 2 (time % 65536) ++ natLE 1 kind ++ natLE 1 source ++ natLE 4 value
    let s := s.store (Obj.SkeinData r.slot) (s.marksOffset r.slot + 16 * r.marks) l
    { s with acq := { s.acq with marks := r.marks + 1 } }
  else ({ s with acq := { r with flags := setBitN r.flags 7 } }).setBit Obj.AcqStatus 4

/-- R335: a Latched event of `TrigMark`, or the raising of `TrigFault`, meets the condition of `TrigSource` 3 or 4 at its time
while the engine waits for a trigger. -/
def State.acqCondition (s : State) (kind source value time : Nat) : State :=
  let src := s.get Obj.TrigSource
  let meets := (src == 3 && kind == 4 && source == s.nat Obj.TrigMark) || (src == 4 && kind == 6 && value == s.nat Obj.TrigFault)
  if meets && decide (1 ≤ s.get Obj.AcqState ∧ s.get Obj.AcqState ≤ 2) && s.acq.cond.isNone then
    { s with acq := { s.acq with cond := some time } }
  else s

/-- R345: an event of an enabled kind becomes a mark while the engine records.
(DESIGN CHOICE, unsafe: log entry 100.) -/
def State.acqEvent (s : State) (bit kind source value : Nat) (time : Nat) : State :=
  let s := s.acqCondition kind source value time
  if s.bit Obj.EventMask bit && decide (1 ≤ s.get Obj.AcqState ∧ s.get Obj.AcqState ≤ 3) then
    s.acqMark time kind source value
  else s

/-- The present instant in 2^-16 ns. -/
def State.now16 (s : State) : Nat := s.now * 65536 + s.nowFrac

/-! ### Raising (R436–R438) -/

/-- The 32 bytes of a log entry (R437). -/
def LogEntry.bytes (e : LogEntry) : List Byte :=
  natLE 8 e.time ++ natLE 2 e.frac ++ natLE 2 e.source ++ natLE 4 e.epoch ++ natLE 1 e.cls ++ natLE 1 e.reaction ++
    natLE 1 e.flags ++ [0] ++ natLE 4 e.repeats ++ intLE 8 e.value

/-- R437: a raise enters the queue while there is room. -/
def State.logAppend (s : State) (e : LogEntry) : State :=
  if s.faults.queue.length < 1024 then { s with faults := { s.faults with queue := s.faults.queue ++ [e] } }
  else s.count Obj.FaultLogDropped 32 1

/-- R437: a raise within 10 ms of its source's last queued entry counts in that entry, in the queue or in the log that
holds it by then; any other raise is queued.
(DESIGN CHOICE, unsafe: log entry 116.) -/
def State.logRaise (s : State) (e : LogEntry) : State :=
  let again := fun (x : LogEntry) => { x with repeats := x.repeats + 1, flags := setBitN x.flags 1 }
  let near := fun (x : LogEntry) => x.source == e.source && decide (e.time - x.time < 10000000)
  match s.faults.queue.reverse.find? fun q => q.source == e.source, s.faults.recent.find? fun p => near p.2 with
  | some q, _ =>
    if near q then { s with faults := { s.faults with queue := s.faults.queue.map fun x => if x = q then again x else x } }
    else s.logAppend e
  | none, some p =>
    let l := s.faults.recent.map fun x => if x = p then (p.1, again p.2) else x
    ({ s with faults := { s.faults with recent := l } }).store Obj.FaultLog (p.1 * 32) (again p.2).bytes
  | none, none => s.logAppend e

/-- The highest class of any set `FaultSticky` bit. -/
def State.highestClass (s : State) : Nat :=
  (List.range 0x34).foldl (fun m k =>
    if k ≥ 1 && (s.nat (Obj.FaultSticky k) != 0 || (Dict.wideKind k && s.nat (Obj.FaultStickyHigh k) != 0))
    then max m (faultClass k) else m) 0

/-- R434: drive `NERR` low. -/
def State.nerrLow (s : State) (k : Nat) : State :=
  let f := s.faults
  { s.put Obj.NerrState 1 with
    faults := { f with nKinds := if k ∈ f.nKinds then f.nKinds else k :: f.nKinds,
                       pulse := decide (s.inUse Obj.NerrMinPulse ≠ 0),
                       pulseAt := s.now,
                       fatalHold := f.fatalHold || faultClass k == 3 } }

/-- Whether an axis already stands where a reaction would bring it (R433). -/
def State.alreadyFaulted (s : State) (l : List Nat) : List Nat := l.filter fun a => s.get (Obj.AxisState a) ≠ axFaulted

/-- R432, R433: carry out a reaction set for an instance. With C, only the S frame, the fatal record and `NERR` precede
it; for axes named by S, S replaces B.
(DESIGN CHOICE, unsafe: log entry 117.) -/
def State.react (s : State) (k i set : Nat) : State :=
  let axes := s.faultAxes k i
  let c := set.testBit 6
  let s := if set.testBit 2 then s.nerrLow k else s
  let s := if set.testBit 4 then s.reactS axes else s
  if c then { s with faults := { s.faults with chipReset := some (if k = fkWatchdog then 6 else 4) } }
  else
    let s := if set.testBit 3 && !set.testBit 4 then
        (if deviceWide k then { s with faults := { s.faults with dueWide := true } } else s.reactB axes) else s
    let s := if set.testBit 0 then s.send sentMsi [0] else s
    let s := if set.testBit 1 then { s with faults := { s.faults with trap := true } } else s
    if set.testBit 5 then { s with faults := { s.faults with blockResets := s.faults.blockResets ++ [k * 256 + i] } } else s

/-- R436–R438: what a raise records: the sticky bit, the count, the active bit when the condition lasts, the log and
the fatal record. -/
def State.raiseRecord (s : State) (k i : Nat) (value : Int) (forced lasting : Bool) : State :=
  let set := s.nat (Obj.FaultReaction k)
  let s := s.setBit (stickyAt k i).1 (stickyAt k i).2
  let s := s.count (Obj.FaultCount k) 32 1
  let s := if lasting then s.setActive k i true else s
  let e : LogEntry :=
    { time := s.now, frac := s.nowFrac, source := k * 256 + i, epoch := s.nat Obj.ResetEpoch,
      cls := faultClass k, reaction := set, flags := if forced then 1 else 0, repeats := 0, value := value }
  let s := (s.logRaise e).acqEvent 3 6 (k % 256) (k * 256 + i) s.now16
  let s := if faultClass k = 3 ∧ s.faults.fatal.length < 8 then
      { s with faults := { s.faults with fatal := s.faults.fatal ++ [e] } } else s
  s.put Obj.FaultHighestClass s.highestClass

/-- R436–R438: raise an instance with the reaction in force. `lasting` says that the condition persists after the raise.
(DESIGN CHOICE, unsafe: log entry 147.) -/
def State.raiseWith (s : State) (k i : Nat) (value : Int) (forced lasting : Bool) : State :=
  (s.raiseRecord k i value forced lasting).react k i (s.nat (Obj.FaultReaction k))

/-- R4, R280: raise a lasting instance once, its reaction masked. -/
def State.raiseMasked (s : State) (k i : Nat) : State :=
  if s.faultActive k i then s else s.raiseRecord k i 0 false true

/-- Raise an instance whose source is an event without a lasting condition. -/
def State.raise (s : State) (k i : Nat) : State := s.raiseWith k i 0 false false

/-- Raise an instance whose condition lasts until its rule ends it. -/
def State.raiseLasting (s : State) (k i : Nat) : State := s.raiseWith k i 0 false true

/-- Raise a lasting instance once, with the value that its log entry holds (R437): nothing when its condition is already present. -/
def State.raiseValue (s : State) (k i : Nat) (value : Int) : State :=
  if s.faultActive k i then s else s.raiseWith k i value false true

/-- Raise a lasting instance once: nothing when its condition is already present. -/
def State.raiseOnce (s : State) (k i : Nat) : State := if s.faultActive k i then s else s.raiseLasting k i

/-- R109: a fault cause of the axis is present: an active source whose reaction target includes it. -/
def State.axisFaultCause (s : State) (a : Nat) : Bool :=
  ((List.range 0x34).any fun k =>
    k ≥ 1 && ((List.range 128).any fun i => instanceExists k i && s.faultActive k i && (s.faultAxes k i).contains a)) ||
  (isLocal a && decide (s.get (Obj.StoGroupState (a / 4)) ≠ 0))

end Sys2Proof.Machine
end

