-- ==== Sys2Proof/Machine/Feedback.lean ====
section
/-! DEFINITION. Feedback channels, compare units and encoder emulation (R204–R233), and the measured position and speed
of an axis (R216–R219). Times of line edges are in 2^-16 ns. -/

namespace Sys2Proof.Machine

def State.fb (s : State) (c : Nat) : FbRt := Sparse.get (fun _ => {}) s.fbs c
def State.setFb (s : State) (c : Nat) (r : FbRt) : State := { s with fbs := Sparse.put (fun _ => {}) s.fbs c r }

/-- R224: the position of a channel becomes uncertain, which sets `PositionUncertain`, or no longer is. -/
def State.fbUncertain (s : State) (c : Nat) (v : Bool) : State :=
  (s.setFb c { s.fb c with uncertain := v }).setBitIf v (Obj.FbStatus c) 0
def State.cmp (s : State) (u : Nat) : CmpRt := Sparse.get (fun _ => {}) s.cmps u
def State.setCmp (s : State) (u : Nat) (r : CmpRt) : State := { s with cmps := Sparse.put (fun _ => {}) s.cmps u r }
def State.emu (s : State) (e : Nat) : EmuRt := Sparse.get (fun _ => {}) s.emus e
def State.setEmu (s : State) (e : Nat) (r : EmuRt) : State := { s with emus := Sparse.put (fun _ => {}) s.emus e r }

/-- The channels. -/
def allChannels : List Nat := List.range 16

/-- The axes whose measured position comes from a channel (R216). -/
def State.channelAxes (s : State) (c : Nat) : List Nat :=
  allAxes.filter fun a => s.get (Obj.FbSource a) = 1 && s.nat (Obj.FbChannelNumber a) == c

/-! ### Shifts of the position reference (R215, R142) -/

/-- A generator whose positions are shifted. -/
def Gen.shift (g : Gen) (d : Int) : Gen :=
  { g with segs := g.segs.map fun x => { x with p1 := x.p1 + d }, p0 := g.p0 + d, p := g.p + d }

/-- R119: the setpoint position as `AxisSetpointPosition` reports it. -/
def State.shownPosition (s : State) (a : Nat) (p : Int) : Int :=
  if s.flag (Obj.AxisModulo a) then p % 4294967296 else wrapS 64 p

/-- R215: the setpoint state and every queued entry of an axis shift; of an engaged graft follower the output of the last
graft of its chain. -/
def State.shiftSetpoint (s : State) (a : Nat) (d : Int) : State :=
  let g := s.nat (Obj.AxisGraft a)
  if g < 128 ∧ s.flag (Obj.AxisGraftEngaged a) then
    let r := s.graft g
    let kind := s.nat (Obj.GraftKind g)
    let r := if kind = 2 ∨ kind = 3 then { r with po := r.po + d, off := r.off + d } else { r with po := r.po + d }
    (s.setGraft g r).put (Obj.GraftOutputPosition g) (wrapS 64 r.po)
  else
    let r := s.axis a
    let s := s.setAxis a
      { r with gen := r.gen.shift d, queue := r.queue.map fun e => { e with gen := e.gen.shift d },
               sp := r.sp + d, last := (r.last.1 + d, r.last.2), lastGen := r.lastGen.shift d, target := r.target + d,
               latchNegAt := r.latchNegAt + d, latchPosAt := r.latchPosAt + d }
    s.put (Obj.AxisSetpointPosition a) (s.shownPosition a (r.sp + d))

/-! ### Measured position and speed (R216–R219) -/

/-- R216: the mechanical position of a count. -/
def State.rawPos (s : State) (a : Nat) (count : Int) : Int :=
  let sgn : Int := if s.flag (Obj.FbReverse a) then -1 else 1
  s.get (Obj.FbPositionOffset a) + sgn * qdiv (count * 4294967296) (s.get (Obj.FbCountsPerCycle a))

/-- R216, R142, R282: the axis position of a count, with the reference that homing set and the correction kept after a
ride-through. -/
def State.countPos (s : State) (a : Nat) (count : Int) : Int :=
  wrapS 64 (s.rawPos a count + (s.axis a).ref + s.get (Obj.RideThroughCorrection a))

/-- v(ΔC, Δt) with Δt in 2^-16 ns. -/
def edgeSpeed (cpc dc dt : Int) : Int := qdiv (dc * 65536 * 1000000000 * 65536) (cpc * dt)

/-- R217: the edge after `x` is the first after standstill: the axis's standstill was reported after `x` (R218). -/
def afterStandstill (a : Nat) (x : FbEdge) : Bool := x.still.contains a

/-- R217: the oldest edge of k's run within the window: walk back from k over at most 63 edges. -/
def runStart (a w : Nat) (k : FbEdge) : Nat → FbEdge → List FbEdge → Option FbEdge
  | 0, _, _ => none
  | _ + 1, _, [] => none
  | n + 1, y, x :: l =>
    if y.up != x.up || afterStandstill a x then none
    else if k.time ≤ x.time + w then (runStart a w k n x l).or (some x)
    else none

/-- R217: measured speed, sign of the latest edge (true for up), and whether it is a first or reversal edge.
(DEDUCED, unsafe: log entry 73.) -/
def State.measuredSpeed (s : State) (a : Nat) (edges : List FbEdge) : Option (Int × Bool × Bool) :=
  let cpc := s.get (Obj.FbCountsPerCycle a)
  let ts := s.nat (Obj.SpeedStandstillTimeout a) * 65536
  let w := s.nat (Obj.SpeedWindow a) * 65536
  match edges with
  | [] => none
  | [k] => some (if ts = 0 then 0 else edgeSpeed cpc (if k.up then 1 else -1) ts, k.up, true)
  | k :: x :: l =>
    if afterStandstill a x then
      some (edgeSpeed cpc (if k.up then 1 else -1) (Nat.min (k.time - x.time) ts), k.up, true)
    else if k.up != x.up then some (0, k.up, true)
    else
      let j := (if w = 0 then none else runStart a w k 63 k (x :: l)).getD x
      some (edgeSpeed cpc (k.count - j.count) (k.time - j.time), k.up, false)

/-- R218: the reported speed at a tick edge, the direction code and the state code. -/
def State.speedAt (s : State) (a c edgeNs : Nat) : Int × Nat × Nat :=
  let sgn : Int := if s.flag (Obj.FbReverse a) then -1 else 1
  let edges := (s.fb c).edges
  match edges, s.measuredSpeed a edges with
  | k :: _, some (m, up, first) =>
    let dir := if up then 1 else 2
    let dt := edgeNs * 65536 - k.time
    let ts := s.nat (Obj.SpeedStandstillTimeout a) * 65536
    if ts ≠ 0 ∧ ts ≤ dt then (0, dir, 3)
    else
      let bound := edgeSpeed (s.get (Obj.FbCountsPerCycle a)) 1 dt
      let v := if dt = 0 then m else if m < 0 then -(min (-m) bound) else min m bound
      (sat32 (sgn * v), dir, if first then 2 else 1)
  | _, _ => (0, 0, 0)

/-- R219: the speed of an SSI channel.
(DESIGN CHOICE, unsafe: log entry 74.) -/
def State.ssiSpeed (s : State) (a c : Nat) : Int :=
  let l := (s.fb c).ssiCounts
  let w := max 1 (min 64 (s.nat (Obj.SpeedWindow a) / s.tNs))
  let w := min w (l.length - 1)
  let sgn : Int := if s.flag (Obj.FbReverse a) then -1 else 1
  if w = 0 then 0
  else sat32 (sgn * qdiv ((l.getD 0 0 - l.getD w 0) * 65536 * 1000000000) (s.get (Obj.FbCountsPerCycle a) * (w * s.tNs : Nat)))

/-- R219: the speed of a source that is no edge estimator: the direction is its sign, kept at 0.
(DESIGN CHOICE, unsafe: log entry 74.) -/
def State.showSpeed (s : State) (a : Nat) (v : Int) : State :=
  let s := (s.put (Obj.SpeedEstimate a) v).put (Obj.SpeedState a) 1
  if v = 0 then s else s.put (Obj.SpeedDirection a) (if 0 < v then 1 else 2)

/-- R183, R216: write the measured position and speed of an axis whose source is a channel.
(DEDUCED, unsafe: log entry 75.) -/
def State.latchMeasured (s : State) (c edgeNs a : Nat) : State :=
  let s := s.slotLatch (axisSlot a + 3) (s.countPos a (s.get (Obj.FbCount c)))
  if 5 ≤ s.nat (Obj.FbType c) then (s.slotLatch (axisSlot a + 4) (s.ssiSpeed a c)).showSpeed a (s.ssiSpeed a c)
  else
    let v := s.speedAt a c edgeNs
    let s := (s.slotLatch (axisSlot a + 4) v.1).put (Obj.SpeedEstimate a) v.1
    let s := if v.2.1 = 0 then s else s.put (Obj.SpeedDirection a) (if s.flag (Obj.FbReverse a) then (3 - v.2.1 : Nat) else (v.2.1 : Nat))
    let s := s.put (Obj.SpeedState a) v.2.2
    match (s.fb c).edges with
    | e :: l => if v.2.2 = 3 ∧ e.still.contains a = false then s.setFb c { s.fb c with edges := { e with still := a :: e.still } :: l } else s
    | [] => s

/-! ### Compare units (R226–R229) -/

/-- R226: an entry from its 16 bytes. -/
def cmpEntryOf (l : List Byte) : CmpEntry :=
  { pos := leInt 8 (l.take 8), action := leNat ((l.drop 8).take 1), dir := leNat ((l.drop 9).take 1),
    width := leNat ((l.drop 10).take 2) }

/-- R226: the status of an append. -/
def cmpEntryStatus (l : List Byte) : Nat :=
  let e := cmpEntryOf l
  if l.length ≠ 16 then 0x0205
  else if leNat (l.drop 12) ≠ 0 ∨ e.action = 0 ∨ 4 < e.action ∨ e.dir = 0 ∨ 3 < e.dir then 0x0301
  else if e.action = 4 ∧ e.width = 0 then 0x0302
  else if e.action ≠ 4 ∧ e.width ≠ 0 then 0x0301
  else 0

/-- The occupancy and the Armed count after an append at the tail. -/
def State.cmpPush (s : State) (u : Nat) (e : CmpEntry) : State :=
  let r := s.cmp u
  let s := s.setCmp u { r with list := r.list ++ [e] }
  let s := s.count (Obj.CmpArmed u) 64 1
  s.put (Obj.CmpOccupancy u) (r.list.length + 1 : Nat)

/-- The head leaves the list; with a cycle length it is appended again (R229). -/
def State.cmpPop (s : State) (u : Nat) : State :=
  let r := s.cmp u
  match r.list with
  | [] => s
  | e :: l =>
    let s := s.setCmp u { r with list := l, armed := false }
    let s := s.put (Obj.CmpOccupancy u) (l.length : Nat)
    let len := s.get (Obj.CmpCycleLength u)
    if len = 0 then s else s.cmpPush u { e with pos := wrapS 64 (e.pos + len) }

/-- R227: the output acts. -/
def State.cmpAct (s : State) (u : Nat) (e : CmpEntry) : State :=
  let r := s.cmp u
  s.setCmp u (match e.action with
    | 1 => { r with level := true }
    | 2 => { r with level := false }
    | 3 => { r with level := !r.level }
    | _ => { r with level := true, pulses := r.pulses + 1 })

/-- R228: the entry is behind count `c`. -/
def CmpEntry.behind (e : CmpEntry) (c : Int) : Bool :=
  if e.dir = 1 then e.pos ≤ c else if e.dir = 2 then c ≤ e.pos else c == e.pos

/-- R228: arm and test the head of an enabled unit, and those after it that are behind as well. -/
def State.cmpArm (s : State) (u : Nat) : Nat → State
  | 0 => s
  | n + 1 =>
    let r := s.cmp u
    if !s.flag (Obj.CmpEnable u) || r.armed then s
    else match r.list with
      | [] => s
      | e :: _ =>
        let c := (s.fb (s.nat (Obj.CmpChannel u))).count
        if !e.behind c then s.setCmp u { r with armed := true }
        else if s.get (Obj.CmpLateMode u) = 1 then
          let s := s.count (Obj.CmpMissed u) 64 1
          let s := s.put (Obj.CmpMissedAt u) c
          let s := s.put (Obj.CmpMissedPosition u) e.pos
          let s := s.setBit (Obj.CmpStatus u) 0
          (s.cmpPop u).cmpArm u n
        else
          let s := s.count (Obj.CmpFiredLate u) 64 1
          let s := s.setBit (Obj.CmpStatus u) 1
          let s := s.cmpAct u e
          (s.cmpPop u).cmpArm u n

/-- The passes over a list that one command makes.
(DESIGN CHOICE, safe: log entry 77.) -/
def cmpFuel : Nat := 8192

/-- R227: entries at one position fire in the same cycle.
(DESIGN CHOICE, safe: log entry 77.) -/
def State.cmpFire (s : State) (u time : Nat) (pos : Int) : Nat → State
  | 0 => s
  | n + 1 =>
    match (s.cmp u).list with
    | e :: _ =>
      if e.pos = pos then
        let s := s.count (Obj.CmpFired u) 64 1
        let s := s.put (Obj.CmpLastFireTime u) (time / 65536 : Nat)
        let s := s.cmpAct u e
        (s.cmpPop u).cmpFire u time pos n
      else s
    | [] => s

/-- R227: a unit sees an accepted count of its channel. -/
def State.cmpCount (s : State) (time : Nat) (c : Int) (up : Bool) (u : Nat) : State :=
  let r := s.cmp u
  if s.flag (Obj.CmpEnable u) && r.armed then
    match r.list with
    | e :: _ =>
      if e.pos = c ∧ (e.dir = 3 ∨ (e.dir = 1 ↔ up = true)) then
        (s.cmpFire u time c (r.list.length + 1)).cmpArm u cmpFuel
      else s
    | [] => s
  else s.cmpArm u cmpFuel

/-- The units on a channel. -/
def State.cmpUnits (s : State) (c : Nat) : List Nat := (List.range 8).filter fun u => s.nat (Obj.CmpChannel u) == c

/-- R215: every unit on a channel re-evaluates its armed entry. -/
def State.cmpReevaluate (s : State) (c : Nat) : State :=
  s.each (s.cmpUnits c) fun s u => (s.setCmp u { s.cmp u with armed := false }).cmpArm u cmpFuel

/-- R226: append an entry; the status is in the answer. -/
def State.cmpAppend (s : State) (u : Nat) (l : List Byte) : State :=
  let st := cmpEntryStatus l
  if st ≠ 0 then s.reply st
  else if 4096 ≤ (s.cmp u).list.length then s.reply 0x0501
  else ((s.cmpPush u (cmpEntryOf l)).cmpArm u cmpFuel).done

/-- R226, R502: at the end of a tick the entries of stitches follow those of the host; a full list refuses one, and the output of
the stitch shows it. -/
def State.cmpRowEdge (s : State) (u : Nat) : State :=
  let l := (s.cmp u).fromRow
  if l.isEmpty then s
  else
    let s := s.setCmp u { s.cmp u with fromRow := [] }
    (l.foldl (fun s e => if 4096 ≤ (s.cmp u).list.length then s.slotWrite e.2 1 else s.cmpPush u e.1) s).cmpArm u cmpFuel

/-- R18: the time of the latest fire is latched at an edge. -/
def State.cmpLatch (s : State) (u : Nat) : State := s.setCmp u { s.cmp u with fireAtEdge := s.get (Obj.CmpLastFireTime u) }

/-- R227: `CmpEnable` was written: the output takes its idle level while disabled, the head is armed when enabled.
(DEDUCED, unsafe: log entry 135.) -/
def State.cmpEnabled (s : State) (u : Nat) : State :=
  if s.flag (Obj.CmpEnable u) then s.cmpArm u cmpFuel
  else s.setCmp u { s.cmp u with armed := false, level := s.flag (Obj.CmpIdleLevel u) }

/-! ### Encoder emulation (R230–R233) -/

/-- R231: `n` input increments of one sign: the step count owed and the remainder. -/
def emuInput (p q acc owe n : Int) : Int × Int :=
  let x := acc + p * n
  if 0 ≤ n then (if q ≤ x then (x - x / q * q, owe + x / q) else (x, owe))
  else (if x ≤ -q then (x + (-x) / q * q, owe - (-x) / q) else (x, owe))

/-- R231: deliver increments to an output.
(DESIGN CHOICE, unsafe: log entry 78.) -/
def State.emuFeed (s : State) (n : Int) (e : Nat) : State :=
  if n = 0 then s
  else
    let r := emuInput (s.get (Obj.EmuP e)) (s.get (Obj.EmuQ e)) (s.get (Obj.EmuRemainder e)) (s.get (Obj.EmuDelayed e)) n
    let s := s.addI64 (Obj.EmuInput e) n
    let s := s.put (Obj.EmuRemainder e) r.1
    let s := s.put (Obj.EmuDelayed e) (wrapS 64 r.2)
    let s := s.setBitIf (1 < r.2.natAbs || (r.2 != 0 && !s.flag (Obj.EmuMaxEdgeRate e))) (Obj.EmuStatus e) 1
    let lim := s.nat (Obj.EmuDelayLimit e)
    if lim ≠ 0 ∧ lim < r.2.natAbs then (s.setBit (Obj.EmuStatus e) 0).raiseOnce fkEmulation e
    else s.setActive fkEmulation e false

/-- The outputs fed by a channel. -/
def State.emuOutputs (s : State) (c : Nat) : List Nat :=
  (List.range 4).filter fun e => s.get (Obj.EmuSource e) = 1 && s.nat (Obj.EmuSourceNumber e) == c

/-- R232: the output lines of a number of net steps. -/
def emuLines (emitted : Int) (period : Nat) : Bool × Bool × Bool :=
  let ph := emitted % 4
  let a := decide (ph = 1 ∨ ph = 2)
  let b := decide (ph = 2 ∨ ph = 3)
  (a, b, period != 0 && a && b && decide (emitted % period = 0))

/-- R231: the emitter makes one step toward the sign of what it owes. -/
def State.emuStep (s : State) (e : Nat) : State :=
  let owe := s.get (Obj.EmuDelayed e)
  if owe = 0 ∨ !s.flag (Obj.EmuMaxEdgeRate e) then s
  else
    let d : Int := if 0 < owe then 1 else -1
    let s := s.put (Obj.EmuDelayed e) (owe - d)
    let s := s.addI64 (Obj.EmuEmitted e) d
    let l := emuLines (s.get (Obj.EmuEmitted e)) (s.nat (Obj.EmuZPeriod e))
    let s := s.setEmu e { s.emu e with a := l.1, b := l.2.1, z := l.2.2 }
    let lim := s.nat (Obj.EmuDelayLimit e)
    if lim ≠ 0 ∧ lim < (owe - d).natAbs then s else s.setActive fkEmulation e false

/-- R230: the first `due` increments that a slot gives in the tick have been delivered. -/
def State.emuDeliver (s : State) (due e : Nat) : State :=
  let r := s.emu e
  (s.setEmu e { r with fed := max r.fed due }).emuFeed (r.spread.sign * ((due - r.fed : Nat) : Int)) e

/-- R230: the increments of a slot that are due by now, at even spacing across the tick, the first at its edge.
(DESIGN CHOICE, unsafe: log entry 78.) -/
def State.emuDue (s : State) (e : Nat) : Nat :=
  let n := (s.emu e).spread.natAbs
  min n ((s.now - s.nat Obj.TickEdgeTime) * n / s.tNs + 1)

/-- R230: at an edge an output fed by a slot takes the difference of the input counts, after what is left of the ended tick. -/
def State.emuSlotEdge (s : State) (e : Nat) : State :=
  let s := s.emuDeliver (s.emu e).spread.natAbs e
  if s.get (Obj.EmuSource e) = 2 then
    let p := s.slotPrev (s.nat (Obj.EmuSourceNumber e))
    let c := (p * s.get (Obj.EmuSlotCountsPerCycle e)) / 4294967296
    let n := match (s.emu e).prev with
      | some x => c - x
      | none => 0
    let s := s.setEmu e { s.emu e with prev := some c, spread := n, fed := 0 }
    s.emuDeliver (s.emuDue e) e
  else s.setEmu e { s.emu e with spread := 0, fed := 0 }

/-! ### Counting (R205–R207, R225) -/

/-- What a change of line state means for a channel type: nothing counted, a count in a direction, or a change that is
rejected (R204, R207). -/
inductive LineChange
  | none | up | down | both | bad
  deriving DecidableEq, Repr

/-- The next state up in a cyclic order. -/
def nextIn (l : List Nat) (x : Nat) : Option Nat :=
  match l.findIdx? (· == x) with
  | some i => l[(i + 1) % l.length]?
  | .none => Option.none

/-- R204, R207: decode a change of the line state (bit 0 A, bit 1 B, bit 2 Z). -/
def lineChange (typ old new : Nat) : LineChange :=
  match typ with
  | 1 =>
    if old % 4 = new % 4 then .none
    else if nextIn [0, 1, 3, 2] (old % 4) = some (new % 4) then .up
    else if nextIn [0, 1, 3, 2] (new % 4) = some (old % 4) then .down
    else .bad
  | 2 => if !old.testBit 0 && new.testBit 0 then (if new.testBit 1 then .up else .down) else .none
  | 3 =>
    let a := !old.testBit 0 && new.testBit 0
    let b := !old.testBit 1 && new.testBit 1
    if a && b then .both else if a then .up else if b then .down else .none
  | 4 =>
    if old % 8 = new % 8 then .none
    else if nextIn [1, 3, 2, 6, 4, 5] (old % 8) = some (new % 8) then .up
    else if nextIn [1, 3, 2, 6, 4, 5] (new % 8) = some (old % 8) then .down
    else .bad
  | _ => .none

/-- The count lines of a type, as a mask of the line state. -/
def countLines (typ : Nat) : Nat := if typ = 1 ∨ typ = 3 then 3 else if typ = 2 then 1 else if typ = 4 then 7 else 0

/-- R205, R207: a rejected edge, or `n` of them in one sample, in the channel ledger (R225). -/
def State.fbReject (s : State) (c n : Nat) : State :=
  let s := s.setBit (Obj.FbStatus c) 1
  let s := s.fbUncertain c true
  let r := s.fb c
  let s := s.setFb c { r with rejTick := r.rejTick + n }
  (s.count (Obj.FbEdges c) 64 n).count (Obj.FbRejected c) 64 n

/-- R220: an accepted edge brackets an event. -/
def FbEvent.meet (x : FbEvent) (e : FbEdge) : FbEvent :=
  if e.time ≤ x.te then { x with before := some e } else if x.after.isNone then { x with after := some e } else x

/-- R206, R225: an accepted count: the count, the ledger, the history, the compare units and the emulation.
(DEDUCED, unsafe: log entry 72.) -/
def State.fbStep (s : State) (c time : Nat) (up : Bool) : State :=
  let r := s.fb c
  let n := wrapS 64 (r.count + if up then 1 else -1)
  let e : FbEdge := { time := time, count := n, up := up }
  let s := s.setFb c { r with count := n, edges := (e :: r.edges).take 64, events := r.events.map fun x => x.meet e }
  let s := s.count (Obj.FbEdges c) 64 1
  let s := s.count (if up then Obj.FbUp c else Obj.FbDown c) 64 1
  let s := s.putBit (Obj.FbState c) 0 (!up)
  let s := s.each (s.cmpUnits c) fun s u => s.cmpCount time n up u
  s.each (s.emuOutputs c) fun s e => s.emuFeed (if up then 1 else -1) e

/-- R207: how many edges on count lines a change of the line state holds: for up/down lines each changed line is one. -/
def edgesIn (typ old new : Nat) : Nat := if typ = 3 ∧ (old ^^^ new) % 4 = 3 then 2 else 1

/-- R205, R207: the verdict on an edge at the end of its interval; the decoder takes the line state at the end of the run either way.
(DEDUCED, unsafe: log entry 72.) -/
def State.fbResolve (s : State) (c : Nat) (p : FbPend) (bad : Bool) : State :=
  let typ := s.nat (Obj.FbType c)
  let ch := lineChange typ p.old p.new
  let s := s.setFb c { s.fb c with lines := p.lines, pend := none }
  let s := s.putBit (Obj.FbState c) 3 (typ != 4 || (p.lines % 8 != 0 && p.lines % 8 != 7))
  if bad ∨ ch = .bad ∨ (p.tooSoon = true ∧ ch ≠ .none) then s.fbReject c (edgesIn typ p.old p.new)
  else match ch with
    | .up => s.fbStep c p.time true
    | .down => s.fbStep c p.time false
    | .both => (s.fbStep c p.time true).fbStep c p.time false
    | _ => s

/-- The interval of R205 in eighths of a count. -/
def State.fbInterval (s : State) (c : Nat) : Nat := s.nat (Obj.FbMinEdgeInterval c) * 20

/-- R206: an edge whose interval has ended by a counter value (in eighths of a count) is counted. -/
def State.fbFlush (s : State) (c at8 : Nat) : State :=
  match (s.fb c).pend with
  | some p => if p.sample + s.fbInterval c < at8 then s.fbResolve c p p.bad else s
  | none => s

/-- R206: what is due on a channel at the present counter value. -/
def State.fbFlushNow (s : State) (c : Nat) : State := s.fbFlush c (8 * s.nat Obj.TrellisCounter)

/-- R213: an edge of an index's sample or of an earlier one is counted before the index, whose own interval has ended.
(DEDUCED, unsafe: log entry 72.) -/
def State.fbSettle (s : State) (c at8 : Nat) : State :=
  match (s.fb c).pend with
  | some p => if p.sample ≤ at8 then s.fbResolve c p p.bad else s
  | none => s

/-- R205, R207: an edge arrives at a sample, in eighths of a count: the line state after it.
(DEDUCED, unsafe: log entry 72.) -/
def State.fbEdge (s : State) (c at8 lines : Nat) : State :=
  let iv := s.fbInterval c
  let typ := s.nat (Obj.FbType c)
  let s := s.fbFlush c at8
  let r := s.fb c
  let old := match r.pend with
    | some p => p.lines
    | none => r.lines
  let dir := if typ == 2 && old.testBit 1 != lines.testBit 1 then some at8 else r.dirTime
  if (old &&& countLines typ) = (lines &&& countLines typ) then
    match r.pend with
    | some p => s.setFb c { r with pend := some { p with lines := lines }, dirTime := dir }
    | none => s.setFb c { r with lines := lines, dirTime := dir }
  else
    let soon := match dir with
      | some d => decide (at8 < d + iv)
      | none => false
    let p : FbPend := { sample := at8, time := s.time16 at8, old := old, new := lines, lines := lines,
                        bad := decide (edgesIn typ old lines = 2), tooSoon := soon }
    let s := s.setFb c { r with dirTime := dir }
    if iv = 0 then s.fbResolve c p false
    else match r.pend with
      | some q =>
        let s := s.fbResolve c q true
        s.setFb c { s.fb c with pend := some { p with bad := true } }
      | none => s.setFb c { s.fb c with pend := some p }

/-! ### Index and preset (R213–R215) -/

/-- R215: the count is set: the ledger, the latch and the compare units.
(DESIGN CHOICE, unsafe: log entry 78.) -/
def State.fbSetCount (s : State) (c : Nat) (new : Int) : State :=
  let r := s.fb c
  let s := s.addI64 (Obj.FbIndexAdjust c) (new - r.count)
  let s := s.put (Obj.FbIndexLatchCount c) r.count
  let sh := fun (e : FbEdge) => { e with count := e.count + (new - r.count) }
  let s := s.setFb c { r with count := new, edges := r.edges.map sh, events := r.events.map fun x => { x with before := x.before.map sh, after := x.after.map sh } }
  s.cmpReevaluate c

/-- R215: the shifts of counts set since the latest edge, for the loop-closed axes of the channel. -/
def State.fbApplyShifts (s : State) (c : Nat) : State :=
  let r := s.fb c
  let s := s.setFb c { r with resets := [] }
  if r.resets.isEmpty then s
  else s.each (s.channelAxes c) fun s a =>
    let corr := s.get (Obj.RideThroughCorrection a)
    let s := s.put (Obj.RideThroughCorrection a) 0
    if (s.axis a).closed then
      s.shiftSetpoint a ((r.resets.map fun p => s.rawPos a p.2 - s.rawPos a p.1).sum - corr)
    else s

/-- R221: latch the index with its own time, before any reset. -/
def State.fbIndexLatch (s : State) (c time : Nat) : State :=
  let r := s.fb c
  let s := s.setBitIf r.indexUnread (Obj.FbStatus c) 5
  let s := s.put (Obj.FbIndexLatchCount c) r.count
  let s := s.put (Obj.FbIndexLatchTime c) (time / 65536 : Nat)
  s.setFb c { r with indexUnread := true }

/-- R213: whether the gate lets an index qualify: A in bit 1, B in bit 0.
(DEDUCED, unsafe: log entry 72.) -/
def State.indexGate (s : State) (c : Nat) : Bool :=
  let g := s.nat (Obj.FbIndexGate c)
  let l := (s.fb c).lines
  g == 0xFF || g == (if l.testBit 0 then 2 else 0) + (if l.testBit 1 then 1 else 0)

/-- R213: a qualified index in its mode. The shift of the axes follows at the edge that latches the new count. -/
def State.fbIndex (s : State) (c time : Nat) : State :=
  let mode := s.nat (Obj.FbIndexMode c)
  let v := s.get (Obj.FbIndexValue c)
  let set := fun (s : State) =>
    let old := (s.fb c).count
    let s := (s.fbIndexLatch c time).fbSetCount c v
    let s := s.fbUncertain c false
    s.setFb c { s.fb c with resets := (s.fb c).resets ++ [(old, v)] }
  if mode = 0 then s.fbIndexLatch c time
  else if mode = 1 then set s
  else if s.bit (Obj.FbState c) 1 then (set s).clrBit (Obj.FbState c) 1
  else s.fbIndexLatch c time

/-! ### Event latches (R220) -/

/-- R220: an event with the edges of the history that bracket it. -/
def FbRt.event (r : FbRt) (te : Nat) (pub : Bool) : FbEvent :=
  { te := te, pub := pub, before := r.edges.find? fun e => e.time ≤ te, after := (r.edges.filter fun e => te < e.time).getLast? }

/-- R220, R221: a channel keeps an event until it is final. -/
def State.fbEvent (s : State) (te : Nat) (pub : Bool) (c : Nat) : State :=
  s.setFb c { s.fb c with events := (s.fb c).events ++ [(s.fb c).event te pub] }

/-- R220: the count at an event time, in Q32.32, when it is final at a tick edge: with its not-interpolated flag.
(DEDUCED, unsafe: log entry 73.) -/
def State.eventCount (s : State) (c te edge16 : Nat) : Option (Int × Bool) :=
  let r := s.fb c
  let q := fun (x : Int) => wrapS 64 (x * 4294967296)
  let x := (r.events.find? fun x => x.te == te).getD (r.event te false)
  let ts := match s.channelAxes c with
    | a :: _ => s.nat (Obj.SpeedStandstillTimeout a) * 65536
    | [] => 20000000 * 65536
  let expired := fun (t : Nat) => ts != 0 && decide (te + ts < t)
  let c0 := match x.before, x.after with
    | some j, _ => j.count
    | none, some k => if k.up then k.count - 1 else k.count + 1
    | none, none => r.count
  if 5 ≤ s.nat (Obj.FbType c) then some (q c0, true)
  else match x.before, x.after with
    | some j, some k =>
      if j.up = k.up ∧ expired k.time = false then
        let f := qdiv (((te - j.time : Nat) : Int) * 4294967296) ((k.time - j.time : Nat) : Int)
        some (wrapS 64 (j.count * 4294967296 + (k.count - j.count) * f), false)
      else some (q c0, true)
    | none, some _ => some (q c0, true)
    | _, none => if expired edge16 then some (q c0, true) else none

/-- R221: publish one final event of a channel. -/
def State.fbPublishEvent (s : State) (c te : Nat) (v : Int × Bool) : State :=
  let r := s.fb c
  let s := s.setBitIf r.eventUnread (Obj.FbStatus c) 5
  let s := s.put (Obj.FbEventCount c) v.1
  let s := s.put (Obj.FbEventTime c) (te / 65536 : Nat)
  let s := s.putBit (Obj.FbEventFlags c) 0 v.2
  s.setFb c { r with eventUnread := true }

/-- R220: at a tick edge the events of a channel that became final are published; those that only a mark needs stay with it. -/
def State.fbEventsEdge (s : State) (c edgeNs : Nat) : State :=
  let evs := (s.fb c).events
  let count := fun (x : FbEvent) => s.eventCount c x.te (edgeNs * 65536)
  let due := (evs.filter fun x => x.pub).filterMap fun x => (count x).map fun v => (x.te, v)
  let held := fun (x : FbEvent) => if x.pub then (count x).isNone else s.marks.any fun m => m.2.queue.contains x.te
  let s := s.setFb c { s.fb c with events := evs.filter held }
  due.foldl (fun s x => s.fbPublishEvent c x.1 x.2) s

/-! ### The tick edge and the loss of feedback (R223) -/

/-- R223: the causes of a loss that are present in the latest tick. -/
def State.fbLossCause (s : State) (c : Nat) : Bool :=
  let r := s.fb c
  r.fault || s.natInUse (Obj.FbRejectLimit c) < r.rejTick || s.natInUse (Obj.SsiLossCount c) < r.ssiErrors

/-- R280: the axis rides through a loss of its encoder: the reaction is masked. -/
def State.canRide (s : State) (a : Nat) : Bool :=
  isLocal a && s.flag (Obj.RideThroughEnable a) && decide (s.get (Obj.FbSource a) = 1) && (s.axis a).closed

/-- R223: `FeedbackLost` is set and the fault source raised for every axis of the channel, while a cause is present.
(DEDUCED, unsafe: log entry 76.) -/
def State.fbLoss (s : State) (c : Nat) : State :=
  let axes := s.channelAxes c
  let s := s.setFb c { s.fb c with lost := s.nat (Obj.FbType c) != 0 && s.fbLossCause c }
  if (s.fb c).lost then
    (s.setBit (Obj.FbStatus c) 4).each axes fun s a =>
      if s.canRide a then s.raiseMasked fkFeedbackLost a else s.raiseOnce fkFeedbackLost a
  else s.each axes fun s a => s.setActive fkFeedbackLost a false

/-- R18: at a tick edge a channel's count and edge time are latched and its axes take their measured values. -/
def State.fbEdgeLatch (s : State) (edgeNs c : Nat) : State :=
  if s.nat (Obj.FbType c) = 0 then s.setFb c { s.fb c with lost := false }
  else
    let s := s.fbFlushNow c
    let s := s.put (Obj.FbCount c) (s.fb c).count
    let s := match (s.fb c).edges with
      | e :: _ => s.put (Obj.FbLastEdgeTime c) (e.time / 65536 : Nat)
      | [] => s
    let s := if 5 ≤ s.nat (Obj.FbType c) then s else s.each (s.channelAxes c) fun s a => s.latchMeasured c edgeNs a
    let s := s.fbApplyShifts c
    let s := s.fbEventsEdge c edgeNs
    let s := s.fbLoss c
    s.setFb c { s.fb c with rejTick := 0 }

/-! ### SSI (R208–R212) -/

/-- R210: the position word of a frame. -/
def State.ssiWord (s : State) (c word : Nat) : Nat :=
  let w := s.nat (Obj.SsiPositionBits c)
  let x := word / 2 ^ s.nat (Obj.SsiPositionShift c) % 2 ^ w
  if s.nat (Obj.FbType c) = 6 then (List.range w).foldl (fun y i => y ^^^ (x >>> i)) 0 else x

/-- R212: t_r for a delay, in ns. -/
def State.ssiReady (s : State) (c d : Nat) : Nat :=
  ceilDiv ((s.nat (Obj.SsiBits c) + 1) * 1000000000) (s.nat (Obj.SsiClock c)) + d / 2 + 50

/-- The axes of an SSI channel get their slots flagged stale. -/
def State.ssiStale (s : State) (c : Nat) : State :=
  s.each (s.channelAxes c) fun s a => (s.slotStale (axisSlot a + 3)).slotStale (axisSlot a + 4)

/-- R211: a frame error. -/
def State.ssiError (s : State) (c : Nat) (step : Bool) : State :=
  let s := s.setBit (Obj.FbStatus c) 3
  let s := if step then s.fbUncertain c true else s
  let s := (s.count (Obj.FbEdges c) 64 1).count (Obj.FbRejected c) 64 1
  let r := s.fb c
  let s := s.setFb c { r with ssiErrors := r.ssiErrors + 1, ssiCounts := (r.count :: r.ssiCounts).take 65 }
  s.ssiStale c

/-- R210: an accepted word: the first sets the count, a later one adds the shortest difference. -/
def State.ssiAccept (s : State) (c w : Nat) : State :=
  let r := s.fb c
  let width := s.nat (Obj.SsiPositionBits c)
  match r.ssiPrev with
  | none =>
    let s := s.put (Obj.FbStartCount c) (w : Nat)
    s.setFb c { r with ssiPrev := some w, count := w, ssiErrors := 0, ssiCounts := [(w : Int)] }
  | some p =>
    let d := wrapS width ((w : Int) - p)
    let m := s.nat (Obj.SsiMaxStep c)
    if m ≠ 0 ∧ m < d.natAbs then s.ssiError c true
    else
      let n := wrapS 64 (r.count + d)
      let s := s.setFb c { r with ssiPrev := some w, count := n, ssiErrors := 0, ssiCounts := (n :: r.ssiCounts).take 65 }
      let s := s.count (Obj.FbEdges c) 64 d.natAbs
      s.count (if 0 ≤ d then Obj.FbUp c else Obj.FbDown c) 64 d.natAbs

/-- R208–R212: a frame completes: the word received, the measured delay in 2.5 ns (R209), whether the data line answered within
5 µs and whether it was low at the start. -/
def State.ssiFrame (s : State) (c word delay : Nat) (answered low : Bool) : State :=
  if low || !answered then s.ssiError c false
  else if 2000 < delay then s.ssiError c false
  else
    let r := s.fb c
    let l := (delay :: r.ssiDelays).take 16
    let s := s.setFb c { r with ssiDelays := l }
    let mean := (5 * l.sum + l.length) / (2 * l.length)
    let s := s.put (Obj.SsiLineDelay c) (mean : Nat)
    let s := s.put (Obj.SsiReadyTime c) (s.ssiReady c mean : Nat)
    let s := s.ssiAccept c (s.ssiWord c word)
    if (s.fb c).ssiErrors = 0 then
      let s := s.put (Obj.FbCount c) (s.fb c).count
      s.each (s.channelAxes c) fun s a => s.latchMeasured c (s.nat Obj.TickEdgeTime) a
    else s

/-! ### Meanings -/

/-- ENCODER_EDGE (R205): an edge on the lines of a channel is accepted or rejected and counted. -/
def encoderEdgeNow (c at8 lines : Nat) (s : State) : Host.Outcome State Fault Refusal := .next (s.fbEdge c at8 lines)

/-- ENCODER_EDGE, with the values that directly written objects had at the latest edge (R51). -/
def execEncoderEdge (c at8 lines : Nat) (s : State) : Host.Outcome State Fault Refusal :=
  viaEdge (encoderEdgeNow c at8 lines) s

/-- COMPARE_PULSE_END (R227): a pulse ends at its time. -/
def comparePulseEndNow (u : Nat) (s : State) : Host.Outcome State Fault Refusal :=
  let r := s.cmp u
  .next (if r.pulses = 0 then s
    else s.setCmp u { r with pulses := r.pulses - 1, level := !s.flag (Obj.CmpEnable u) && s.flag (Obj.CmpIdleLevel u) })

/-- COMPARE_PULSE_END, with the values that directly written objects had at the latest edge (R51). -/
def execComparePulseEnd (u : Nat) (s : State) : Host.Outcome State Fault Refusal :=
  viaEdge (comparePulseEndNow u) s

/-- SSI_FRAME_COMPLETE (R208). -/
def ssiFrameCompleteNow (c word delay : Nat) (answered low : Bool) (s : State) : Host.Outcome State Fault Refusal :=
  .next (s.ssiFrame c word delay answered low)

/-- SSI_FRAME_COMPLETE, with the values that directly written objects had at the latest edge (R51). -/
def execSsiFrameComplete (c word delay : Nat) (answered low : Bool) (s : State) : Host.Outcome State Fault Refusal :=
  viaEdge (ssiFrameCompleteNow c word delay answered low) s

/-- ARM_INDEX (R214): refused in mode 0 or 1. -/
def execArmIndex (c : Nat) (s : State) : Host.Outcome State Fault Refusal :=
  .next (if s.get (Obj.FbIndexMode c) = 2 then (s.setBit (Obj.FbState c) 1).done else s.reply 0x0703)

/-- DISARM_INDEX (R214). -/
def execDisarmIndex (c : Nat) (s : State) : Host.Outcome State Fault Refusal := .next (s.clrBit (Obj.FbState c) 1).done

/-- PRESET (R214): the count is set to `FbCountPreset` at the next tick edge. -/
def execPreset (c : Nat) (s : State) : Host.Outcome State Fault Refusal :=
  .next (s.setFb c { s.fb c with presetDue := true }).done

/-- R214, R215: at the tick edge after a preset the count is set, latched, and its axes shift. -/
def State.presetApply (s : State) (c : Nat) : State :=
  if (s.fb c).presetDue then
    let new := s.get (Obj.FbCountPreset c)
    let old := (s.fb c).count
    let s := s.fbSetCount c new
    let s := s.setFb c { s.fb c with presetDue := false, resets := (s.fb c).resets ++ [(old, new)] }
    let s := s.put (Obj.FbCount c) new
    let s := s.each (s.channelAxes c) fun s a => s.slotLatch (axisSlot a + 3) (s.countPos a new)
    (s.fbApplyShifts c).fbUncertain c false
  else s

/-- PRESET_APPLY (R215). -/
def execPresetApply (c : Nat) (s : State) : Host.Outcome State Fault Refusal := .next (s.presetApply c)

/-- LINE_FAULT (R222, R223): the level of a used pair becomes too small, or is back.
(DEDUCED, unsafe: log entry 76.) -/
def execLineFault (c : Nat) (present : Bool) (s : State) : Host.Outcome State Fault Refusal :=
  let s := s.setFb c { s.fb c with fault := present }
  let s := s.putBit (Obj.FbState c) 2 present
  let s := s.setBitIf present (Obj.FbStatus c) 2
  .next (if present then s.fbLoss c else s)

/-- CMP_APPEND (R226). -/
def cmpAppendNow (u : Nat) (data : List Byte) (s : State) : Host.Outcome State Fault Refusal :=
  .next (if 8 ≤ u then s.reply 0x0101 else (s.fbFlushNow (s.nat (Obj.CmpChannel u))).cmpAppend u data)

/-- CMP_APPEND, with the values that directly written objects had at the latest edge (R51). -/
def execCmpAppend (u : Nat) (data : List Byte) (s : State) : Host.Outcome State Fault Refusal :=
  viaEdge (cmpAppendNow u data) s

/-- CMP_CANCEL_ALL (R229): every pending entry is removed and counted; the output keeps its level. -/
def execCmpCancelAll (u : Nat) (s : State) : Host.Outcome State Fault Refusal :=
  let r := s.cmp u
  let s := s.setCmp u { r with list := [], armed := false }
  let s := s.count (Obj.CmpCancelled u) 64 r.list.length
  .next (s.put (Obj.CmpOccupancy u) 0).done

/-- EMULATION_STEP (R231). -/
def emulationStepNow (e : Nat) (s : State) : Host.Outcome State Fault Refusal := .next ((s.emuDeliver (s.emuDue e) e).emuStep e)

/-- EMULATION_STEP, with the values that directly written objects had at the latest edge (R51). -/
def execEmulationStep (e : Nat) (s : State) : Host.Outcome State Fault Refusal :=
  viaEdge (emulationStepNow e) s

end Sys2Proof.Machine
end

