-- ==== Sys2Proof/Machine/Pwm.lean ====
section
/-! DEFINITION. PWM generators and trip handling (R284–R306), and the phase-voltage conversions they and the field
pipelines ask for (R261). Phases are 0 U, 1 V, 2 W; trip inputs 0 A, 1 B, 2 C. -/

namespace Sys2Proof.Machine

def State.pwm (s : State) (n : Nat) : PwmRt := Sparse.get (fun _ => {}) s.pwms n
def State.setPwm (s : State) (n : Nat) (r : PwmRt) : State := { s with pwms := Sparse.put (fun _ => {}) s.pwms n r }

/-- A phase of a stage. -/
def State.phase (s : State) (n f : Nat) : PhaseRt := (s.pwm n).phases.getD f {}

/-- Change a phase of a stage. -/
def State.setPhase (s : State) (n f : Nat) (x : PhaseRt) : State :=
  s.setPwm n { s.pwm n with phases := (s.pwm n).phases.set f x }

/-- R284: the nominal tick length in 2.5 ns counts. -/
def State.tickClocks (s : State) : Nat := s.tNs * 2 / 5

/-- R284: the half-period P. -/
def State.halfPeriod (s : State) (n : Nat) : Nat := s.tickClocks / (2 * s.nat (Obj.PwmRatio n))

/-- R286: what peak `i` of `k` receives of δ. -/
def peakStretch (delta : Int) (k i : Nat) : Int :=
  delta.tdiv k + (if i < delta.natAbs % k then (if 0 < delta then 1 else -1) else 0)

/-- R302: a latch stands on the stage. -/
def State.tripLatched (s : State) (n : Nat) : Bool := s.nat (Obj.PwmTripStatus n) % 8 != 0

/-- R297: the outputs of the stage may not be driven. -/
def State.stageOff (s : State) (n : Nat) : Bool :=
  let p := s.pwm n
  p.off || p.hold || !p.gen || !p.dse || s.tripLatched n

/-- The legs' modes as `PwmLegMode` packs them (R294). -/
def State.showLegs (s : State) (n : Nat) : State :=
  s.put (Obj.PwmLegMode n) ((s.phase n 0).mode + 4 * (s.phase n 1).mode + 16 * (s.phase n 2).mode : Nat)

/-- Ask for a leg mode on every phase from the next load boundary (R294). -/
def State.wantLegs (s : State) (n m : Nat) : State :=
  s.setPwm n { s.pwm n with phases := (s.pwm n).phases.map fun x => { x with want := m } }

/-- R289: the pipeline writes the shadow words of the three phases. -/
def State.writeWords (s : State) (n : Nat) (w : Nat × Nat × Nat) : State :=
  let p := s.pwm n
  let ws := [w.1, w.2.1, w.2.2]
  s.setPwm n { p with phases := p.phases.mapIdx fun f x => { x with shadow := ws.getD f 0, fresh := true } }

/-- R294: a phase takes the mode asked for. A carry is moved to Clamped on leaving mode 1. -/
def State.loadMode (s : State) (n f : Nat) : State :=
  let x := s.phase n f
  if x.want = x.mode then s
  else
    let s := if x.mode = 1 then
        (s.addI64 (Obj.VsClamped n f) (s.get (Obj.VsCarry n f))).put (Obj.VsCarry n f) 0
      else s
    s.setPhase n f { x with mode := x.want, lvl := false, run := none, q := 0, running := false }

/-- R289: a load boundary of a phase. -/
def State.loadPhase (s : State) (n f : Nat) : State :=
  let x := s.phase n f
  let s := if x.fresh then s.setPhase n f { x with word := x.shadow, fresh := false } else s
  s.loadMode n f

/-- R291: the placement of a phase's edge: the high time q, what goes to Clamped, the new carry before the bound of R293
and whether an interval was suppressed. `run` is the length of the level at the half's start.
(DEDUCED, unsafe: log entry 81.) -/
def placeEdge (w : Nat) (c : Int) (lvl up : Bool) (run m h : Nat) : Nat × Int × Int × Bool :=
  if w = 0 ∨ 16 * h ≤ w then
    let q := if w = 0 then 0 else h
    (q, c + (w - 16 * q : Int), 0, false)
  else
    let x : Int := w + c
    let q0 : Int := clampI (x / 16) 0 h
    let mh : Int := ((m + 1) / 2 : Nat)
    let r : Int × Bool :=
      if up then
        if !lvl then (0, false)
        else
          let q := if q0 < h then min (h : Int) (max q0 ((m : Int) - run)) else q0
          if q < h ∧ (h : Int) - q < mh then (h, true) else (q, false)
      else if lvl then (h, false)
      else
        let q := if 0 < q0 then max 0 (min q0 ((h : Int) + run - m)) else q0
        if 0 < q ∧ q < mh then (0, true) else (q, false)
    (r.1.toNat, 0, x - 16 * r.1, r.2)

/-- The level and its length after a half of `h` counts that dwells `d` more at its end. -/
def afterHalf (lvl up : Bool) (q run h d cap : Nat) : Bool × Option Nat :=
  let sat := fun (x : Nat) => if cap ≤ x then none else some x
  if up then
    if lvl then (if q < h then (false, sat (h - q + d)) else (true, sat (run + h + d)))
    else if q = h ∧ 0 < h then (true, sat (h + d)) else (false, sat (run + h + d))
  else if lvl then (if q = 0 then (false, sat h) else (true, sat (run + h)))
  else if 0 < q then (true, sat q) else (false, sat (run + h))

/-- R293: the part of a carry beyond ±16·P. -/
def carryExcess (c : Int) (p : Nat) : Int := c - clampI c (-(16 * p : Nat)) ((16 * p : Nat))

/-- R291–R295: a half begins for a phase.
(DEDUCED, unsafe: log entry 81.) -/
def State.halfPhase (s : State) (n : Nat) (up : Bool) (h d : Nat) (f : Nat) : State :=
  let x := s.phase n f
  if x.mode ≠ 1 then s.setPhase n f { x with running := false }
  else
    let c := s.get (Obj.VsCarry n f)
    let s := s.addI64 (Obj.VsRequested n f) x.word
    if s.stageOff n then
      let s := s.addI64 (Obj.VsTripped n f) (x.word + c)
      let s := s.put (Obj.VsCarry n f) 0
      s.setPhase n f { x with lvl := false, run := none, q := 0, running := false }
    else
      let p := s.halfPeriod n
      let cap := 2 * p + 1
      let run := x.run.getD cap
      let m := s.nat (Obj.PwmDeadTime n) + s.nat (Obj.PwmMinPulse n)
      let e := placeEdge x.word c x.lvl up run m h
      let ex := carryExcess e.2.2.1 p
      let s := s.addI64 (Obj.VsClamped n f) (e.2.1 + ex)
      let s := s.put (Obj.VsCarry n f) (e.2.2.1 - ex)
      let s := s.addI64 (Obj.VsIssued n f) (16 * e.1 : Nat)
      let s := s.setBitIf e.2.2.2 (Obj.PwmTripStatus n) 6
      let a := afterHalf x.lvl up e.1 run h d cap
      s.setPhase n f { x with lvl := a.1, run := a.2, q := e.1, running := true }

/-- R300: the running half of a phase is cut: what was issued stays, the rest of x goes to Tripped. -/
def State.cutPhase (s : State) (n : Nat) (issued : List Nat) (f : Nat) : State :=
  let x := s.phase n f
  if x.mode ≠ 1 then s
  else
    let c := s.get (Obj.VsCarry n f)
    let k := if x.running then min (issued.getD f 0) x.q else 0
    let q := if x.running then x.q else 0
    let s := s.addI64 (Obj.VsIssued n f) (16 * ((k : Int) - q))
    let s := s.addI64 (Obj.VsTripped n f) (16 * ((q : Int) - k) + c)
    let s := s.put (Obj.VsCarry n f) 0
    s.setPhase n f { x with lvl := false, run := none, q := 0, running := false }

/-- The running half of a stage is cut on all phases. -/
def State.cutHalf (s : State) (n : Nat) (issued : List Nat) : State := s.each [0, 1, 2] fun s f => s.cutPhase n issued f

/-! ### A cast-on that ends (R273, R283) -/

def State.sl (s : State) (a : Nat) : SlRt := Sparse.get (fun _ => {}) s.sls a
def State.setSl (s : State) (a : Nat) (r : SlRt) : State := { s with sls := Sparse.put (fun _ => {}) s.sls a r }

/-- Cast-on, or an angle test, runs on the axis. -/
def State.casts (s : State) (a : Nat) : Bool := decide (s.get (Obj.AxisState a) = axCasting) || (s.sl a).test

/-- R273: what cast-on or an angle test kept is dropped; `CastOnState` is 7 with the result. -/
def State.castStop (s : State) (a result : Nat) : State :=
  let s := s.setSl a { s.sl a with dibber := none, closeDue := none, waitEdge := false, test := false, asc := false }
  ((s.put (Obj.CastOnResult a) result).put (Obj.CastOnState a) 7).wantLegs a 0

/-- R273: a failure with its result; an angle test only reports.
(DEDUCED, unsafe: log entry 90.) -/
def State.castFail (s : State) (a result : Nat) : State :=
  let test := (s.sl a).test
  let s := s.castStop a result
  if test then s
  else
    let s := s.setBit (Obj.SlStatus a) 3
    let s := s.raise fkCastOn a
    s.axisToFaulted a

/-! ### Trips (R299–R304) -/

/-- The count object of a trip input. -/
def tripCount (n i : Nat) : Nat := if i = 0 then Obj.TripCountA n else if i = 1 then Obj.TripCountB n else Obj.TripCountC n

/-- R306: an auxiliary channel blanks the input. -/
def State.auxBlanks (s : State) (n i : Nat) : Bool :=
  let p := s.pwm n
  (p.aux0 && s.get (Obj.AuxAction n 0) = 1 && s.bit (Obj.AuxTripMask n 0) i) ||
  (p.aux1 && s.get (Obj.AuxAction n 1) = 1 && s.bit (Obj.AuxTripMask n 1) i)

/-- R302, R273, R279: latches are recorded against the inputs of a mask; the fault source is raised. A cast-on in progress fails,
and a lock recovery in active short circuit goes on without it.
(DEDUCED, unsafe: log entry 80.) -/
def State.tripLatch (s : State) (n mask : Nat) : State :=
  let s := s.put (Obj.PwmTripStatus n) (s.nat (Obj.PwmTripStatus n) ||| (mask % 8) : Nat)
  let s := s.setPwm n { s.pwm n with off := true }
  let s := s.raiseLasting fkTrip n
  let x := s.sl n
  let s := if x.lost && x.asc then (s.setSl n { x with asc := false, cross := [] }).put (Obj.SlEstimator n) 4 else s
  if s.casts n then s.castFail n 10 else s

/-- R301: a mode-2 input acted in this period: the count moves once a period and becomes a latch at its limit. -/
def State.cbcCount (s : State) (n mask : Nat) : State :=
  let p := s.pwm n
  let s := if p.acted = 0 then s.put (Obj.CbcCount n) (min 255 (s.get (Obj.CbcCount n) + 1)) else s
  let s := s.setPwm n { p with acted := p.acted ||| mask }
  if s.get (Obj.CbcLimit n) ≤ s.get (Obj.CbcCount n) then s.tripLatch n (p.acted ||| mask) else s

/-- R300, R301: an assertion that is not blanked acts.
(DESIGN CHOICE, unsafe: log entry 79.) -/
def State.tripAct (s : State) (n i : Nat) (issued : List Nat) : State :=
  let s := s.count (tripCount n i) 32 1
  let s := s.cutHalf n issued
  if s.get (Obj.TripMode n i) = 1 then s.tripLatch n (2 ^ i)
  else
    let s := s.setPwm n { s.pwm n with hold := true }
    let s := s.setBit (Obj.PwmTripStatus n) 4
    s.cbcCount n (2 ^ i)

/-- R299: an input is active: A and B at their active level, C while a comparator asserts the current trip. -/
def State.tripActive (s : State) (n i : Nat) (high : Bool) : Bool :=
  if i = 2 then (s.pwm n).comp != 0 else high == (s.get (Obj.TripActiveLevel n i) == 1)

/-- R299: an input is asserted when it has been active for more than `TripFilter` samples of 2.5 ns; 0 bypasses the filter. -/
def State.tripPasses (s : State) (n i : Nat) (high : Bool) (run : Nat) : Bool :=
  s.tripActive n i high && (s.nat (Obj.TripFilter n i) == 0 || decide (s.nat (Obj.TripFilter n i) < run))

/-- R299, R300: an input becomes asserted and acts unless blanked, or its assertion ends.
(DESIGN CHOICE, unsafe: log entry 79.) -/
def State.tripInput (s : State) (n i : Nat) (asserted : Bool) (sinceEdge : Nat) (issued : List Nat) : State :=
  let p := s.pwm n
  if asserted then
    let s := s.setPwm n { p with asserted := setBitN p.asserted i, tail := clrBitN p.tail i }
    let s := s.acqEvent 2 5 n (n * 256 + i) s.now16
    if s.get (Obj.TripMode n i) = 0 then s
    else if sinceEdge < s.nat (Obj.TripBlanking n i) ∨ s.auxBlanks n i then
      s.setPwm n { s.pwm n with waiting := setBitN (s.pwm n).waiting i }
    else s.tripAct n i issued
  else
    s.setPwm n { p with asserted := clrBitN p.asserted i, waiting := clrBitN p.waiting i,
                        tail := if s.flag (Obj.TripBlanking n i) then setBitN p.tail i else p.tail }

/-- R239, R240, R299: a comparator of the stage (phases 0 to 2, general input 3) asserts the current trip or no longer does: the
trip stands while any of them asserts it, and becomes an assertion once its own filter has passed. -/
def State.compTrip (s : State) (n b : Nat) (asserts : Bool) (sinceEdge : Nat) (issued : List Nat) : State :=
  let m := (s.pwm n).comp
  let m' := if asserts then setBitN m b else clrBitN m b
  let s := s.setPwm n { s.pwm n with comp := m' }
  if (m == 0) = (m' == 0) then s
  else if m' = 0 then (if (s.pwm n).asserted.testBit 2 then s.tripInput n 2 false sinceEdge issued else s)
  else if s.nat (Obj.TripFilter n 2) = 0 then s.tripInput n 2 true sinceEdge issued
  else s

/-- TRIP_ASSERT (R299, R300): the level of an input that has stood for `run` samples of 2.5 ns.
(DESIGN CHOICE, unsafe: log entry 79.) -/
def tripAssertNow (n i : Nat) (high : Bool) (run sinceEdge : Nat) (issued : List Nat) (s : State) :
    Host.Outcome State Fault Refusal :=
  let on := s.tripPasses n i high run
  .next (if on = (s.pwm n).asserted.testBit i then s else s.tripInput n i on sinceEdge issued)

/-- TRIP_ASSERT, with the values that directly written objects had at the latest edge (R51). -/
def execTripAssert (n i : Nat) (high : Bool) (run : AfterEdge Nat) (issued : List Nat) (s : State) :
    Host.Outcome State Fault Refusal :=
  viaEdge (tripAssertNow n i high run.value run.sinceEdge issued) s

/-- BLANKING_CLOSE (R299): the window of an input closes; an assertion that waited acts. -/
def blankingCloseNow (n i : Nat) (issued : List Nat) (s : State) : Host.Outcome State Fault Refusal :=
  let p := s.pwm n
  let s' := s.setPwm n { p with waiting := clrBitN p.waiting i, tail := clrBitN p.tail i }
  .next (if p.waiting.testBit i && p.asserted.testBit i && !s.auxBlanks n i then s'.tripAct n i issued
    else if p.waiting.testBit i then s else s')

/-- BLANKING_CLOSE, with the values that directly written objects had at the latest edge (R51). -/
def execBlankingClose (n i : Nat) (issued : List Nat) (s : State) : Host.Outcome State Fault Refusal :=
  viaEdge (blankingCloseNow n i issued) s

/-- R303: the condition of a latch: the input is asserted, or its window after the assertion is open. -/
def State.tripCondition (s : State) (n i : Nat) : Bool := (s.pwm n).asserted.testBit i || (s.pwm n).tail.testBit i

/-- R303: latches were cleared: with none left the count is 0 and the fault condition ends.
(DEDUCED, unsafe: log entry 80.) -/
def State.tripCleared (s : State) (n : Nat) : State :=
  if s.tripLatched n then s else (s.put (Obj.CbcCount n) 0).setActive fkTrip n false

/-! ### Gating (R297, R298) -/

/-- R297: an enable of the stage is withdrawn: the outputs go off, the axis enters Faulted (R109), and a cast-on in
progress ends with result 10 (R273). -/
def State.gateOff (s : State) (n : Nat) (driver : Bool) (issued : List Nat) : State :=
  let s := s.cutHalf n issued
  let p := s.pwm n
  let s := s.setPwm n (if driver then { p with dse := false, off := true } else { p with gen := false, off := true })
  let s := s.setBit (Obj.PwmTripStatus n) 5
  let s := if s.casts n then s.castStop n 10 else s
  s.axisToFaulted n

/-- GATE_ENABLE_WITHDRAWN (R297). -/
def execGateEnableWithdrawn (n : Nat) (driver : Bool) (issued : List Nat) (s : State) :
    Host.Outcome State Fault Refusal := .next (s.gateOff n driver issued)

/-- The restart of R294 on every phase. -/
def State.restartPhases (s : State) (n : Nat) : State :=
  s.setPwm n { s.pwm n with phases := (s.pwm n).phases.map fun x => { x with lvl := false, run := none, running := false } }

/-- SWITCHING_RESUME (R298, R303): with both enables present and every latch clear, switching resumes. -/
def execSwitchingResume (n : Nat) (s : State) : Host.Outcome State Fault Refusal :=
  let p := s.pwm n
  .next (if p.off && p.gen && p.dse && !s.tripLatched n then (s.setPwm n { p with off := false }).restartPhases n else s)

/-! ### Halves -/

/-- R301: the valley of a period: the leak, and the end or continuation of a hold. -/
def State.cbcValley (s : State) (n : Nat) : State :=
  let p := s.pwm n
  let leak := s.nat (Obj.CbcLeak n)
  let quiet := if p.acted = 0 then p.quiet + 1 else 0
  let drop := leak ≠ 0 && leak ≤ quiet
  let s := if drop then s.put (Obj.CbcCount n) (max 0 (s.get (Obj.CbcCount n) - 1)) else s
  let s := s.setPwm n { p with acted := 0, quiet := if drop then 0 else quiet }
  if p.hold then
    let still := (List.range 3).foldl (fun m i =>
      if p.asserted.testBit i && s.get (Obj.TripMode n i) = 2 && !s.auxBlanks n i then setBitN m i else m) 0
    if still ≠ 0 then s.cbcCount n still
    else (s.setPwm n { s.pwm n with hold := false }).restartPhases n
  else s

/-- R286: the stretch of the peak that half `i` adjoins, from δ of the tick. -/
def State.halfStretch (s : State) (n i : Nat) : Int :=
  peakStretch (s.get (Obj.PwmStretch n)) (s.nat (Obj.PwmRatio n)) (i / 2)

/-- R291: half `i` of the tick begins. -/
def State.halfStart (s : State) (n : Nat) : State :=
  let i := (s.pwm n).half
  if 2 * s.nat (Obj.PwmRatio n) ≤ i then s
  else
    let up := i % 2 = 0
    let s := if up then s.cbcValley n else s
    let s := if up ∨ s.get (Obj.FocUpdatesPerPeriod n) = 2 then s.each [0, 1, 2] fun s f => s.loadPhase n f else s
    let st := s.halfStretch n i
    let p := s.halfPeriod n
    let h := if st < 0 then p - st.natAbs else p
    let d := if up ∧ 0 < st then st.natAbs else 0
    let s := s.each [0, 1, 2] fun s f => s.halfPhase n up h d f
    let s := s.setPwm n { s.pwm n with half := i + 1 }
    s.showLegs n

/-- HALF_PERIOD_START (R291). -/
def execHalfPeriodStart (n : Nat) (s : State) : Host.Outcome State Fault Refusal :=
  .next (s.atEdge fun s => s.halfStart n)

/-- The outputs at their active level, as `PwmOutputLevel` packs them: UH, UL, VH, VL, WH, WL from bit 0. -/
def State.outputLevel (s : State) (n : Nat) : Nat :=
  if s.stageOff n then 0
  else (List.range 3).foldl (fun m f =>
    let x := s.phase n f
    if x.mode = 1 then setBitN m (if x.lvl then 2 * f else 2 * f + 1)
    else if x.mode = 2 then setBitN m (2 * f + 1) else m) 0

/-- R287: the final valley absorbs the clocks by which the edge came off its prediction. -/
def State.absorbClock (s : State) (n : Nat) (diff : Int) (f : Nat) : State :=
  let x := s.phase n f
  if x.mode = 1 && x.lvl && !s.stageOff n && diff != 0 then
    let s := s.addI64 (Obj.VsIssued n f) (16 * diff)
    s.addI64 (Obj.VsCarry n f) (-(16 * diff))
  else s

/-- R285–R287: the tick edge of a generator: the clock of this edge and the clock predicted for the next. -/
def State.pwmEdge (s : State) (clock next n : Nat) : State :=
  let p := s.pwm n
  let diff : Int := match p.ends with
    | some e => (clock : Int) - e
    | none => 0
  let s := s.put (Obj.PwmOutputLevel n) (s.outputLevel n : Nat)
  let s := s.each [0, 1, 2] fun s f => s.absorbClock n diff f
  let k := s.nat (Obj.PwmRatio n)
  let s := s.put (Obj.PwmStretch n) (wrapS 16 (((next - clock : Nat) : Int) - (2 * k * s.halfPeriod n : Nat)))
  s.setPwm n { s.pwm n with half := 0, ends := some next }

/-! ### Phase-voltage conversions (R261) -/

/-- A conversion of one input is asked for; one still queued is replaced and counted. -/
def State.pvsRequest (s : State) (n f : Nat) : State :=
  let s := if (n, f) ∈ s.pvs then s.count (Obj.PvsDropped n) 32 1 else s
  { s with pvs := (s.pvs.filter fun x => x != (n, f)) ++ [(n, f)] }

/-- R261: the scaled result of a 12-bit code. -/
def State.pvsScale (s : State) (n code : Nat) : Int :=
  sat32 (rsh (((code * 262144 : Nat) - s.get (Obj.PvsOffset n)) * s.get (Obj.PvsGain n)) 30)

/-- PVS_CONVERSION_COMPLETE (R261): the conversion at the front of the queue completes with a code. -/
def pvsConversionCompleteNow (code : Nat) (s : State) : Host.Outcome State Fault Refusal :=
  .next (match s.pvs with
    | [] => s
    | x :: l =>
      let key := if x.2 = 0 then Obj.PvsVoltageU x.1 else if x.2 = 1 then Obj.PvsVoltageV x.1 else Obj.PvsVoltageW x.1
      { s.put key (s.pvsScale x.1 code) with pvs := l })

/-- PVS_CONVERSION_COMPLETE, with the values that directly written objects had at the latest edge (R51). -/
def execPvsConversionComplete (code : Nat) (s : State) : Host.Outcome State Fault Refusal :=
  viaEdge (pvsConversionCompleteNow code) s

end Sys2Proof.Machine
end

