-- ==== Sys2Proof/Machine/Foc.lean ====
section
/-! DEFINITION. Current sensing and the field pipeline (R234–R262): scaling, the depth limit, references, the
computation of R248 and its checks. Angles are in 2^-32 turn, currents and voltages in Q16.16. -/

namespace Sys2Proof.Machine

def State.foc (s : State) (a : Nat) : FocRt := Sparse.get (fun _ => {}) s.focs a
def State.setFoc (s : State) (a : Nat) (r : FocRt) : State := { s with focs := Sparse.put (fun _ => {}) s.focs a r }

/-! ### Scaling (R237) -/

/-- R237: a raw filter output as a fraction of full scale in Q2.30. -/
def sincFraction (order osr : Nat) (raw : Int) : Int := qdiv (raw * 1073741824) ((osr ^ order : Nat) : Int)

/-- R237: the scaled value of a fraction. -/
def sincScale (offset gain q : Int) : Int := sat32 (rsh ((q - offset) * gain) 30)

/-- R237: an overrange sample. -/
def overrange (q : Int) : Bool := 1073741824 - 262144 ≤ q.natAbs

/-- R237: a general input's scaled value. -/
def State.genScale (s : State) (g : Nat) (raw : Int) : Int :=
  sincScale (s.get (Obj.GenOffset g)) (s.get (Obj.GenGain g)) (sincFraction (s.nat (Obj.GenSincOrder g)) (s.nat (Obj.GenOsr g)) raw)

/-- The gain and offset of a phase input. -/
def State.curCal (s : State) (n f : Nat) : Int × Int :=
  if f = 0 then (s.get (Obj.CurOffsetU n), s.get (Obj.CurGainU n))
  else if f = 1 then (s.get (Obj.CurOffsetV n), s.get (Obj.CurGainV n))
  else (s.get (Obj.CurOffsetW n), s.get (Obj.CurGainW n))

/-- The order and ratio of the phase filters; in period-average mode the first-order sum over its own bit count is
delivered as a fraction by the caller (R241). -/
def State.curFraction (s : State) (n : Nat) (raw : Int) : Int :=
  if s.get (Obj.CurSampleMode n) = 2 then raw else sincFraction (s.nat (Obj.CurSincOrder n)) (s.nat (Obj.CurOsr n)) raw

/-- A scaled phase current. -/
def State.phaseCurrent (s : State) (n f : Nat) (raw : Int) : Int :=
  let c := s.curCal n f
  sincScale c.1 c.2 (s.curFraction n raw)

/-- R248: the three phase currents; with W unused the third is minus the sum of the others. -/
def State.phaseCurrents (s : State) (n : Nat) (raw : List Int) : Int × Int × Int :=
  let iu := s.phaseCurrent n 0 (raw.getD 0 0)
  let iv := s.phaseCurrent n 1 (raw.getD 1 0)
  (iu, iv, if s.get (Obj.CurInputW n) = 0xFF then -iu - iv else s.phaseCurrent n 2 (raw.getD 2 0))

/-! ### Transforms (R248) -/

/-- Phase quantities to α and β.
(DESIGN CHOICE, unsafe: log entry 82.) -/
def clarke (u v w : Int) : Int × Int := (qdiv (2 * u - v - w) 3, rsh ((v - w) * 619925131) 30)

/-- The sine of r/2^30 of a quarter turn, in units of 2^-62, to better than 2^-50: the series to its tenth term. -/
def quarterSine (r : Nat) : Int :=
  let z : Int := (r : Int) * 7244019458077122842 / 2 ^ 30
  let z2 := z * z / 2 ^ 62
  z * ([10, 9, 8, 7, 6, 5, 4, 3, 2, 1].foldl
    (fun (acc : Int) (k : Int) => 2 ^ 62 - z2 * acc / 2 ^ 62 / (2 * k * (2 * k + 1))) (2 ^ 62)) / 2 ^ 62

/-- The exact sine of an angle in 2^-32 turn, in units of 2^-62. -/
def exactSine (th : Nat) : Int :=
  let r := th % 2 ^ 30
  match th / 2 ^ 30 % 4 with
  | 0 => quarterSine r
  | 1 => quarterSine (2 ^ 30 - r)
  | 2 => -quarterSine r
  | _ => -quarterSine (2 ^ 30 - r)

/-- R247: a table value, a free value kept within the stated error of 2^-26 about the exact one. -/
def nearSine (exact table : Int) : Int := clampI table (exact / 2 ^ 32 - 16) (exact / 2 ^ 32 + 17)

/-- R247: the sine of an angle, in Q2.30.
(DESIGN CHOICE, safe: log entry 83.) -/
def sinQ30 (th : Nat) : Int := nearSine (exactSine th) (Config.sinTable (BitVec.ofNat 32 th))

/-- R247: the cosine of an angle, in Q2.30.
(DESIGN CHOICE, safe: log entry 83.) -/
def cosQ30 (th : Nat) : Int := nearSine (exactSine (th + 2 ^ 30)) (Config.cosTable (BitVec.ofNat 32 th))

/-- R250, R275: an electrical speed in 2^-16 cycle/s as Q16.16 rad/s, 2π times it. The rounding is a free value, kept within
one unit of the exact product.
(DESIGN CHOICE, safe: log entry 83.) -/
def radPerSec (v : Int) : Int :=
  let f : Int := (v.natAbs : Int) * 115904311329233965478 / 2 ^ 64
  if 0 ≤ v then clampI (Config.radPerSec v) f (f + 1) else clampI (Config.radPerSec v) (-(f + 1)) (-f)

/-- α and β to d and q at an angle.
(DESIGN CHOICE, unsafe: log entry 82.) -/
def park (al be : Int) (th : Nat) : Int × Int :=
  let c := cosQ30 th
  let sn := sinQ30 th
  (rsh (al * c + be * sn) 30, rsh (-al * sn + be * c) 30)

/-- d and q to α and β. -/
def parkInv (d q : Int) (th : Nat) : Int × Int :=
  let c := cosQ30 th
  let sn := sinQ30 th
  (rsh (d * c - q * sn) 30, rsh (d * sn + q * c) 30)

/-- α and β to the three phases. -/
def clarkeInv (al be : Int) : Int × Int × Int :=
  (al, (-al).tdiv 2 + rsh (be * 929887697) 30, (-al).tdiv 2 - rsh (be * 929887697) 30)

/-- The integer square root, rounded down. -/
def isqrt (x : Int) : Int := (Nat.sqrt x.toNat : Nat)

/-! ### The depth limit and latency (R242, R244) -/

/-- L_w + 2g in 2.5 ns counts. -/
def State.windowCounts (s : State) (n : Nat) : Nat :=
  s.nat (Obj.CurSincOrder n) * s.nat (Obj.CurOsr n) * s.nat (Obj.DsClockDivider (n / 2 * 2))
    + 2 * (s.nat (Obj.PwmDeadTime n) + s.nat (Obj.CurSettleTime n))

/-- R242: D_min and D_max in Q2.30. -/
def State.depth (s : State) (n : Nat) : Int × Int :=
  if s.get (Obj.CurSampleMode n) = 2 then (0, 1073741824)
  else
    let x := qdiv ((1073741824 * s.windowCounts n * s.nat (Obj.PwmRatio n) : Nat) : Int) (s.tickClocks : Int)
    (if s.get (Obj.FocUpdatesPerPeriod n) = 2 then x else 0, 1073741824 - x)

/-- R242: the span S. -/
def State.modSpan (s : State) (n : Nat) : Int := (s.depth n).2 - (s.depth n).1

/-- R244: t_L in ns. -/
def State.focLatencyNs (s : State) (n : Nat) : Nat :=
  if s.get (Obj.CurSampleMode n) = 2 then
    s.tNs / (s.nat (Obj.PwmRatio n) * s.nat (Obj.FocUpdatesPerPeriod n)) / 2 + 800
  else s.nat (Obj.CurSincOrder n) * s.nat (Obj.CurOsr n) * s.nat (Obj.DsClockDivider (n / 2 * 2)) * 5 / 4 + 800

/-- R246: Δ from the sample centre to the middle of the interval in which the result applies, in ns. -/
def State.focDelta (s : State) (n : Nat) : Nat :=
  let k := s.nat (Obj.PwmRatio n)
  let u := s.nat (Obj.FocUpdatesPerPeriod n)
  if s.get (Obj.CurSampleMode n) = 2 then 2 * s.tNs / (k * u)
  else if u = 2 then 3 * s.tNs / (4 * k) else s.tNs / k

/-! ### Activation and references (R249, R255, R256) -/

/-- R256: cast-on commands the pipeline: HFI and synchronisation. The pulses of a dibber scan are its own. -/
def State.castDrives (s : State) (a : Nat) : Bool :=
  let st := s.get (Obj.CastOnState a)
  decide (2 ≤ st ∧ st ≤ 4) && s.casts a && (s.sl a).dibber.isNone

/-- R256: the pipeline is active. -/
def State.focActive (s : State) (a : Nat) : Bool := !s.stageOff a && ((s.axis a).closed || s.castDrives a)

/-- R255: the setpoint that the next computation uses. -/
def State.focSetpoint (s : State) (a : Nat) : Int × Int :=
  let r := s.foc a
  if s.get (Obj.CastOnState a) = 4 ∧ s.get (Obj.AxisState a) = axCasting then (0, 0)
  else if r.mode = 2 then
    let ku : Int := (s.nat (Obj.PwmRatio a) * s.nat (Obj.FocUpdatesPerPeriod a) : Nat)
    let j : Int := (r.j + 1 : Nat)
    (r.prev.1 + qdiv ((r.loaded.1 - r.prev.1) * j) ku, r.prev.2 + qdiv ((r.loaded.2 - r.prev.2) * j) ku)
  else r.loaded

/-- R249: the references, and whether a clamp acted. -/
def State.focReferences (s : State) (a : Nat) (sp : Int × Int) (idFw : Int) : Int × Int × Bool :=
  let imax := max 0 (s.get (Obj.FocCurrentLimit a))
  let d0 := sp.1 + idFw
  let d := clampI d0 (-imax) imax
  let qmax := isqrt (imax * imax - d * d)
  let q := clampI sp.2 (-qmax) qmax
  (d, q, d != d0 || q != sp.2)

/-! ### The regulators (R250, R251) -/

/-- R250: the decoupling terms: ffd, ffq from the references, the currents and ω_e in Q16.16 rad/s. -/
def State.focDecouple (s : State) (a : Nat) (idr iqr id iq w : Int) : Int × Int :=
  if s.flag (Obj.FocDecoupling a) then
    let rs := s.get (Obj.FocRs a)
    (qdiv (rs * idr) 1000000 - qdiv (w * s.get (Obj.FocLq a) * iq) (65536 * 1000000000),
     qdiv (rs * iqr) 1000000 + qdiv (w * s.get (Obj.FocLd a) * id) (65536 * 1000000000)
       + qdiv (w * s.get (Obj.FocFluxLinkage a)) 1000000)
  else (0, 0)

/-- R250: V_lim = FocModLimit × S × V_dc / √3. -/
def State.focVlim (s : State) (a : Nat) (vdc : Int) : Int :=
  max 0 (rsh (rsh (rsh (s.get (Obj.FocModLimit a) * s.modSpan a) 30 * vdc) 30 * 619925131) 30)

/-- R250: the voltage limit: vd, then vq. -/
def voltageLimit (vd vq vlim : Int) : Int × Int :=
  let d := clampI vd (-vlim) vlim
  let m := isqrt (vlim * vlim - d * d)
  (d, clampI vq (-m) m)

/-- R250: an integrator after a computation: `out` is the unclamped output, `lim` the clamped one. -/
def integrate (acc ki e out lim vlim : Int) : Int :=
  let x := ki * e
  if (lim < out ∧ 0 < x) ∨ (out < lim ∧ x < 0) then acc else clampI (acc + rsh x 16) (-vlim) vlim

/-- R251: field weakening. -/
def State.focWeaken (s : State) (a : Nat) (idFw vmag vlim : Int) : Int :=
  if s.flag (Obj.FwEnable a) then
    clampI (idFw - rsh (s.get (Obj.FwGain a) * (vmag - rsh (s.get (Obj.FwThreshold a) * vlim) 30)) 16)
      (-(max 0 (s.inUse (Obj.FwIdMax a)))) 0
  else 0

/-- R252: the dead-time compensation of a phase with reference current `ix`, in Q2.30 of the period. -/
def State.deadTimeComp (s : State) (a : Nat) (ix : Int) : Int :=
  let band := s.get (Obj.DtcBand a)
  let x : Int := if band = 0 then (if 0 < ix then 1073741824 else if ix < 0 then -1073741824 else 0)
    else clampI (qdiv (ix * 1073741824) band) (-1073741824) 1073741824
  qdiv (s.get (Obj.DtcTime a) * x) ((32 * s.halfPeriod a : Nat) : Int)

/-- R265: six-step commutation drives the stage. -/
def State.sixStep (s : State) (a : Nat) : Bool := decide (s.get (Obj.SlEstimator a) = 2) && (s.axis a).closed

/-- R265: the phase that a sector drives high and the one it drives low; the third floats. -/
def sectorPhases (sector : Nat) : Nat × Nat := ([0, 0, 1, 1, 2, 2].getD sector 0, [1, 2, 2, 0, 0, 1].getD sector 0)

/-- An entry of three phases. -/
def ofPhase {α : Type} (x : α × α × α) (f : Nat) : α := if f = 0 then x.1 else if f = 1 then x.2.1 else x.2.2

/-- R265: the current of the two conducting phases. -/
def conducting (sector : Nat) (iab : Int × Int) : Int :=
  let i := clarkeInv iab.1 iab.2
  let p := sectorPhases sector
  qdiv (ofPhase i p.1 - ofPhase i p.2) 2

/-- R265: a quantity on the driven phases of a sector: high, low, and none on the third. -/
def sectorSplit (sector : Nat) (x : Int) : Int × Int × Int :=
  let p := sectorPhases sector
  let f := fun (k : Nat) => if k = p.1 then x else if k = p.2 then -x else 0
  (f 0, f 1, f 2)

/-- R265: the phase voltages of a sector for the output of the q regulator, centred.
(DESIGN CHOICE, unsafe: log entry 87.) -/
def sectorVolts (sector : Nat) (v : Int) : Int × Int × Int := sectorSplit sector (rsh (v * 929887697) 30)

/-- What a computation delivers. -/
structure FocOut where
  id : Int
  iq : Int
  vd : Int
  vq : Int
  ad : Int
  aq : Int
  idFw : Int
  words : Nat × Nat × Nat
  applied : Int × Int × Int
  currentLimited : Bool
  voltageLimited : Bool
  fwLimit : Bool
  dutyClamped : Bool
  deriving DecidableEq, Repr

/-- R248: the computation for an active pipeline: currents (α, β), V_dc, θ_s, the electrical speed p·v in
2^-16 cycle/s, the setpoint, and the injected d voltage of R267. In six-step (R265) the q regulator regulates the current of the
conducting phases to the magnitude of the reference.
(DESIGN CHOICE, unsafe: log entry 82.) -/
def State.focCompute (s : State) (a : Nat) (iab : Int × Int) (vdc : Int) (theta : Nat) (pv : Int) (sp : Int × Int)
    (inject : Int) : FocOut :=
  let r := s.foc a
  let six := s.sixStep a
  let sector := (s.sl a).sector
  let ref0 := s.focReferences a sp r.idFw
  let i := if six then (0, conducting sector iab) else park iab.1 iab.2 theta
  let ref := if six then (0, (ref0.2.1.natAbs : Int), ref0.2.2) else ref0
  let w := radPerSec pv
  let ff := s.focDecouple a ref.1 ref.2.1 i.1 i.2 w
  let kpd := s.get (Obj.FocKpD a)
  let kpq := s.get (Obj.FocKpQ a)
  let ed := ref.1 - i.1
  let eq := ref.2.1 - i.2
  let vlim := s.focVlim a vdc
  let pvs := clarke (s.get (Obj.PvsVoltageU a)) (s.get (Obj.PvsVoltageV a)) (s.get (Obj.PvsVoltageW a))
  let meas := park pvs.1 pvs.2 theta
  let scan := s.flag (Obj.PvsScan a)
  let ad0 := if r.active then r.ad else if scan then meas.1 - rsh (kpd * ed) 16 - ff.1 else ff.1
  let aq0 := if r.active then r.aq else if scan then meas.2 - rsh (kpq * eq) 16 - ff.2 else ff.2
  let bump := fun (acc old new e : Int) => clampI (acc + rsh (old * e) 16 - rsh (new * e) 16) (-vlim) vlim
  let ad1 := match r.kp with
    | some k => if r.active && k.1 != kpd then bump ad0 k.1 kpd ed else ad0
    | none => ad0
  let aq1 := match r.kp with
    | some k => if r.active && k.2 != kpq then bump aq0 k.2 kpq eq else aq0
    | none => aq0
  let vd0 := if six then 0 else rsh (kpd * ed) 16 + ad1 + ff.1 + inject
  let vq0 := rsh (kpq * eq) 16 + aq1 + ff.2
  let vmag := isqrt (vd0 * vd0 + vq0 * vq0)
  let v := voltageLimit vd0 vq0 vlim
  let tha := ((theta : Int) + qdiv (pv * 65536 * s.focDelta a) 1000000000) % 4294967296
  let vab := parkInv v.1 v.2 tha.toNat
  let vp := if six then sectorVolts sector v.2 else clarkeInv vab.1 vab.2
  let vmax := max vp.1 (max vp.2.1 vp.2.2)
  let vmin := min vp.1 (min vp.2.1 vp.2.2)
  let d := s.depth a
  let vdiv := max vdc 65536
  let iabr := parkInv ref.1 ref.2.1 tha.toNat
  let ipr := if six then sectorSplit sector ref.2.1 else clarkeInv iabr.1 iabr.2
  let duty := fun (x ix : Int) =>
    let d0 := qdiv (d.1 + d.2) 2 + qdiv ((x - qdiv (vmax + vmin) 2) * 1073741824) vdiv + s.deadTimeComp a ix
    (clampI d0 d.1 d.2, decide (clampI d0 d.1 d.2 ≠ d0))
  let du := duty vp.1 ipr.1
  let dv := duty vp.2.1 ipr.2.1
  let dw := duty vp.2.2 ipr.2.2
  let word := fun (x : Int) => (rsh (x * (s.halfPeriod a : Nat) * 16) 30).toNat
  let volts := fun (x ix : Int) => qdiv ((x - s.deadTimeComp a ix) * vdc) 1073741824
  let fw := s.focWeaken a r.idFw vmag vlim
  { id := i.1, iq := if six && ref0.2.1 < 0 then -i.2 else i.2, vd := v.1, vq := v.2,
    ad := integrate ad1 (s.get (Obj.FocKiD a)) ed vd0 v.1 vlim,
    aq := integrate aq1 (s.get (Obj.FocKiQ a)) eq vq0 v.2 vlim,
    idFw := fw, words := (word du.1, word dv.1, word dw.1),
    applied := (volts du.1 ipr.1, volts dv.1 ipr.2.1, volts dw.1 ipr.2.2),
    currentLimited := ref.2.2, voltageLimited := v.1 != vd0 || v.2 != vq0,
    fwLimit := s.flag (Obj.FwEnable a) && s.inUse (Obj.FwIdMax a) != 0 && fw == -(s.inUse (Obj.FwIdMax a)),
    dutyClamped := du.2 || dv.2 || dw.2 }

/-- R256: the duty word of an inactive pipeline, (D_max + D_min)/2. -/
def State.idleWord (s : State) (a : Nat) : Nat :=
  let d := s.depth a
  (rsh (qdiv (d.1 + d.2) 2 * (s.halfPeriod a : Nat) * 16) 30).toNat

/-! ### Checks (R259, R260) -/

/-- R259: the current sum, with three phase inputs. -/
def State.focSumCheck (s : State) (a : Nat) (sum : Int) : State :=
  let lim := s.get (Obj.CurSumLimit a)
  if lim = 0 ∨ s.get (Obj.CurInputW a) = 0xFF then s
  else if lim < sum.natAbs then
    let r := s.foc a
    let s := s.setFoc a { r with sumRun := r.sumRun + 1 }
    if s.nat (Obj.CurSumCount a) < r.sumRun + 1 then (s.setBit (Obj.FocStatus a) 3).raiseOnce fkCurrentSum a else s
  else (s.setFoc a { s.foc a with sumRun := 0 }).setActive fkCurrentSum a false

/-- R260: V_dc outside its bounds; a bound of 0 is off. -/
def State.dcOutside (s : State) (a : Nat) (vdc : Int) : Bool :=
  (s.flag (Obj.DcLinkMin a) && decide (vdc < s.get (Obj.DcLinkMin a))) ||
  (s.flag (Obj.DcLinkMax a) && decide (s.get (Obj.DcLinkMax a) < vdc))

/-- R260: the DC-link check. -/
def State.focDcCheck (s : State) (a : Nat) (vdc : Int) : State :=
  if s.dcOutside a vdc then
    let r := s.foc a
    let s := s.setFoc a { r with dcRun := r.dcRun + 1 }
    if s.nat (Obj.CurSumCount a) < r.dcRun + 1 then (s.setBit (Obj.FocStatus a) 5).raiseOnce fkDcLink a else s
  else (s.setFoc a { s.foc a with dcRun := 0 }).setActive fkDcLink a false

/-- R260: V_dc of a computation, with the raw output of the general input. -/
def State.focVdc (s : State) (a : Nat) (raw : Int) : Int :=
  let g := s.nat (Obj.DcLinkSource a)
  if g < 16 then s.genScale g raw else s.get (Obj.DcLinkNominal a)

/-! ### Inputs lost, comparators (R236, R239, R240) -/

/-- The axes that use a modulator input as a phase current. -/
def State.inputPhases (s : State) (i : Nat) : List Nat :=
  (List.range 16).filter fun n => s.nat (Obj.CurInputU n) == i || s.nat (Obj.CurInputV n) == i || s.nat (Obj.CurInputW n) == i

/-- The axes that use a general input for their DC link. -/
def State.inputDcLink (s : State) (i : Nat) : List Nat :=
  if 48 ≤ i then (List.range 16).filter fun n => s.nat (Obj.DcLinkSource n) == i - 48 else []

/-- R236: a used modulator input of an axis is lost. -/
def State.senseLost (s : State) (a : Nat) : Bool :=
  s.lostInputs.any fun i => (s.inputPhases i).contains a || (s.inputDcLink i).contains a

/-- MODULATOR_INPUT_LOST (R236): an input is lost, or its cause has ended. -/
def execModulatorInputLost (i : Nat) (lost : Bool) (s : State) : Host.Outcome State Fault Refusal :=
  .next
    (if lost then
      let s := { s with lostInputs := if i ∈ s.lostInputs then s.lostInputs else i :: s.lostInputs }
      let s := s.each (s.inputPhases i ++ s.inputDcLink i) fun s a => s.setBit (Obj.FocStatus a) 7
      s.each (s.inputPhases i) fun s a => s.raiseOnce fkSense a
    else
      let s := { s with lostInputs := s.lostInputs.filter fun x => x != i }
      s.each (s.inputPhases i) fun s a =>
        if s.lostInputs.any fun j => (s.inputPhases j).contains a then s else s.setActive fkSense a false)

/-- R239: the run of consecutive outputs that lie above the high or below the low bound, after further outputs, newest first. -/
def beyondRun (hi lo : Int) (run : Nat) (l : List Int) : Nat :=
  let out := fun (x : Int) => decide (hi < x ∨ x < lo)
  if l.all out then run + l.length else (l.takeWhile out).length

/-- FAST_COMPARATOR_TRIP (R239): the outputs of a phase's fast filter since the previous ones, newest first. -/
def fastComparatorTripNow (n f : Nat) (outputs : List Int) (sinceEdge : Nat) (issued : List Nat) (s : State) :
    Host.Outcome State Fault Refusal :=
  let c := s.curCal n f
  let l := outputs.map fun x => sincScale c.1 c.2 (sincFraction (s.nat (Obj.FastOrder n)) (s.nat (Obj.FastOsr n)) x)
  let r := s.foc n
  let run := if s.flag (Obj.FastEnable n) then beyondRun (s.get (Obj.FastHigh n)) (s.get (Obj.FastLow n)) (r.fastRuns.getD f 0) l else 0
  let s := s.setFoc n { r with fastRuns := r.fastRuns.set f run }
  .next (s.compTrip n f (s.flag (Obj.FastEnable n) && decide (s.nat (Obj.FastCount n) < run)) sinceEdge issued)

/-- FAST_COMPARATOR_TRIP, with the values that directly written objects had at the latest edge (R51). -/
def execFastComparatorTrip (n f : Nat) (outputs : AfterEdge (List Int)) (issued : List Nat) (s : State) :
    Host.Outcome State Fault Refusal :=
  viaEdge (fastComparatorTripNow n f outputs.value outputs.sinceEdge issued) s

/-- R240: a general input's comparator on a scaled value. -/
def State.generalLimit (s : State) (g : Nat) (x : Int) : Bool :=
  decide (s.get (Obj.GenCompHigh g) < x ∨ x < s.get (Obj.GenCompLow g))

/-- GENERAL_INPUT_LIMIT (R240): an output of a general input's comparator filter.
(DEDUCED, unsafe: log entry 80.) -/
def generalInputLimitNow (g : Nat) (raw : Int) (sinceEdge : Nat) (issued : List Nat) (s : State) : Host.Outcome State Fault Refusal :=
  let x := sincScale (s.get (Obj.GenOffset g)) (s.get (Obj.GenGain g))
    (sincFraction (s.nat (Obj.FastOrder g)) (s.nat (Obj.FastOsr g)) raw)
  let act := s.get (Obj.GenCompAction g)
  let beyond := s.flag (Obj.GenInputEnable g) && s.generalLimit g x
  let s := s.compTrip g 3 (act = 1 && beyond) sinceEdge issued
  .next (if act = 2 && beyond then s.raiseOnce fkGeneral g else s.setActive fkGeneral g false)

/-- GENERAL_INPUT_LIMIT, with the values that directly written objects had at the latest edge (R51). -/
def execGeneralInputLimit (g : Nat) (raw : AfterEdge Int) (issued : List Nat) (s : State) : Host.Outcome State Fault Refusal :=
  viaEdge (generalInputLimitNow g raw.value raw.sinceEdge issued) s

/-! ### The tick edge (R238, R255, R258) -/

/-- R238: a general input's latest output is latched into its slot. -/
def State.genEdge (s : State) (p : Nat × Int) : State :=
  let g := p.1
  if s.flag (Obj.GenInputEnable g) then
    let v := s.genScale g p.2
    let s := s.put (Obj.GenValue g) v
    let sl := s.nat (Obj.GenInputSlot g)
    if sl = unwired then s else s.slotLatch sl v
  else s

/-- R255, R258: the shadow setpoint is loaded and the state of the latest computation is latched.
(DEDUCED, unsafe: log entry 88.) -/
def State.focEdge (s : State) (a : Nat) : State :=
  let r := s.foc a
  let s := s.putAll [(Obj.FocId a, r.id), (Obj.FocIq a, r.iq), (Obj.FocVd a, r.vd), (Obj.FocVq a, r.vq), (Obj.FocIdFw a, r.idFw),
    (Obj.FocDcLink a, r.vdc), (Obj.FocAngle a, r.theta), (Obj.FocSampleTime a, r.time)]
  let s := if r.j = 0 then s else s.put (Obj.FocIqTickMean a) (qdiv r.iqSum r.j)
  let s := s.slotLatch (axisSlot a + 5) (sat32 (rsh (s.get (Obj.FocTorqueConstant a) * r.iq) 16))
  let sl := s.nat (Obj.FocAngleSlot a)
  s.setFoc a { r with loaded := r.shadow, prev := r.used, mode := s.nat (Obj.FocSetpointMode a), j := 0, iqSum := 0,
                      slotPrev := if sl = unwired then none else some (s.slotPrev sl) }

end Sys2Proof.Machine
end

