-- ==== Sys2Proof/Machine/Plan.lean ====
section
/-! DEFINITION. The profile generator (R113–R116) and the planner (R117–R121, R125): segments from a start state, a
target and the limits. Phases are computed with rational numbers in ticks and native units per tick, rounded up to
whole ticks, and the peak is then lowered until the distance is exact. -/

namespace Sys2Proof.Machine

/-! ### Evaluating a segment (R113, R114) -/

/-- R113: position, velocity and acceleration on a segment of D ticks from (p0, v0) to (p1, v1) at clock `t` (Q32.32
ticks), with the time scale σ (Q2.30) and its rate σ′ (Q2.30 per second). -/
def hermite (tNs : Nat) (p0 v0 p1 v1 : Int) (d : Nat) (t sigma dsigma : Int) : Int × Int × Int :=
  let tau : Int := (d * tNs : Nat)
  let ta := qdiv (v0 * 65536 * tau) 1000000000
  let tb := qdiv (v1 * 65536 * tau) 1000000000
  let dp := p1 - p0
  let c1 := ta
  let c2 := 3 * dp - 2 * ta - tb
  let c3 := -2 * dp + ta + tb
  let x := t / d
  let h := c2 + rsh (c3 * x) 32
  let h := c1 + rsh (h * x) 32
  let g := 2 * c2 + rsh (3 * c3 * x) 32
  let g := c1 + rsh (g * x) 32
  let vr := qdiv (g * 1000000000) (tau * 65536)
  let ar := qdiv ((2 * c2 + rsh (6 * c3 * x) 32) * 1000000000000000000) (tau * tau * 1048576)
  (p0 + rsh (h * x) 32, rsh (vr * sigma) 30, sat32 (rsh (rsh (ar * sigma) 30 * sigma) 30 + rsh (vr * dsigma) 34))

/-- The generator's output state in the tick in which the clock reaches the end of a segment (R113, R114): the end position
and the scaled end velocity exactly, the acceleration by its formula. -/
def Gen.atEnd (g : Gen) (sigma : Int) (p v a : Int) (fin : Bool) : Gen :=
  { g with p := p, v := rsh (v * sigma) 30, a := a, done := fin }

/-- R116: move the clock into the segment it has reached: the excess over a segment carries into the next. -/
def Gen.skip : List Seg → Int → Int → Int → List Seg × Int × Int × Int × Bool
  | [], p0, v0, t => ([], p0, v0, t, true)
  | [x], p0, v0, t =>
    if t > shl x.dur 32 then ([], x.p1, x.v1, t - shl x.dur 32, true) else ([x], p0, v0, t, false)
  | x :: y :: l, p0, v0, t =>
    if t > shl x.dur 32 then Gen.skip (y :: l) x.p1 x.v1 (t - shl x.dur 32) else (x :: y :: l, p0, v0, t, false)

/-- R120: one tick of a constant-velocity run: v·2^16·T/10^9 units scaled by σ, the remainder carried. -/
def Gen.coast (tNs : Nat) (g : Gen) (v sigma dsigma : Int) : Gen :=
  let num := v * 65536 * tNs * sigma + g.carry
  let den : Int := 1000000000 * 2 ^ 30
  let dp := num.tdiv den
  { g with p := g.p + dp, carry := num - dp * den, v := rsh (v * sigma) 30, a := rsh (v * dsigma) 34 }

/-- R116: one tick of the generator. -/
def Gen.step (tNs : Nat) (g : Gen) (sigma dsigma : Int) : Gen :=
  match g.segs with
  | [] =>
    match g.vel with
    | some v => g.coast tNs v sigma dsigma
    | none => { g with v := 0, a := 0 }
  | _ :: _ =>
    let r := Gen.skip g.segs g.p0 g.v0 (g.clock + sigma * 4)
    match r with
    | (x :: l, p0, v0, t, _) =>
      let g := { g with segs := x :: l, p0 := p0, v0 := v0, clock := t }
      let e := hermite tNs p0 v0 x.p1 x.v1 x.dur t sigma dsigma
      if t = shl x.dur 32 then
        (match l with
         | [] => { g.atEnd sigma x.p1 x.v1 e.2.2 g.vel.isNone with segs := [], p0 := x.p1, v0 := x.v1, clock := 0 }
         | _ :: _ => g.atEnd sigma x.p1 x.v1 e.2.2 false)
      else
        { g with p := e.1, v := e.2.1, a := e.2.2 }
    | ([], p0, v0, t, _) =>
      match g.vel with
      | some v =>
        let g := { g with segs := [], p0 := p0, v0 := v0, clock := 0, p := p0 }
        g.coast tNs v (t / 4) dsigma |> fun g' => { g' with v := rsh (v * sigma) 30 }
      | none => { g with segs := [], p0 := p0, v0 := v0, clock := 0, p := p0, v := 0, a := 0, done := true }

/-! ### Phases -/

/-- A phase of constant jerk: its ticks and its accelerations at both ends, in position units per tick². -/
structure Phase where
  n : Nat
  a0 : ℚ
  a1 : ℚ
  deriving DecidableEq, Repr

/-- The least n with n·c ≥ √y − b, for c > 0. -/
def ceilRoot (y b c : ℚ) : Nat :=
  let m : Int := (Nat.sqrt (y / (c * c)).floor.toNat : Int) - (b / c).ceil - 2
  let ok := fun (n : Int) => decide (0 ≤ (n : ℚ) * c + b ∧ y ≤ ((n : ℚ) * c + b) ^ 2)
  let pick := (List.range 6).find? fun i => ok (m + i)
  match pick with
  | some i => (m + i).toNat
  | none => (m + 6).toNat

/-- The least n with n·c ≥ x, for c > 0. -/
def ceilTicks (x c : ℚ) : Nat := (x / c).ceil.toNat

/-- Velocity in position units per tick from native 2^-16 cycle/s. -/
def velTick (tNs : Nat) (v : Int) : ℚ := (v * 65536 * tNs : Int) / (1000000000 : ℚ)

/-- Acceleration in position units per tick² from native 2^-12 cycle/s². -/
def accTick (tNs : Nat) (a : Int) : ℚ := (a * 1048576 * (tNs * tNs) : Int) / (1000000000000000000 : ℚ)

/-- Jerk in position units per tick³ from native 2^-8 cycle/s³. -/
def jerkTick (tNs : Nat) (j : Int) : ℚ := (j * 16777216 * (tNs * tNs * tNs) : Int) / (1000000000000000000000000000 : ℚ)

/-- Velocity after the phases. -/
def phaseV : List Phase → ℚ → ℚ
  | [], v => v
  | x :: l, v => phaseV l (v + (x.a0 + x.a1) / 2 * x.n)

/-- Distance over the phases. -/
def phaseD : List Phase → ℚ → ℚ
  | [], _ => 0
  | x :: l, v => v * x.n + (2 * x.a0 + x.a1) / 6 * (x.n * x.n) + phaseD l (v + (x.a0 + x.a1) / 2 * x.n)

/-- The ramp of mode 1: a change of velocity at a constant acceleration of at most `a`. -/
def rampFlat (dv a : ℚ) : List Phase :=
  if dv = 0 ∨ a ≤ 0 then []
  else
    let n := ceilTicks (abs dv) a
    [⟨n, dv / n, dv / n⟩]

/-- The peak acceleration with which counts of ticks change the velocity by exactly `dv` from acceleration `a0` to 0. -/
def jerkPeak (dv a0 : ℚ) (c : Nat × Nat × Nat) : ℚ :=
  let den : ℚ := c.1 / 2 + c.2.1 + c.2.2 / 2
  if den = 0 then 0 else (dv - a0 * c.1 / 2) / den

/-- R117: the first phase lasts as long as the jerk limit needs to bring `a0` to the peak, so that the setpoint acceleration is
continuous also where it starts at its limit. -/
def jerkLead (dv a0 j : ℚ) : Nat → Nat × Nat × Nat → Nat × Nat × Nat
  | 0, c => c
  | fuel + 1, c => if abs (jerkPeak dv a0 c - a0) ≤ j * c.1 then c else jerkLead dv a0 j fuel (c.1 + 1, c.2)

/-- The tick counts of a jerk-limited change of velocity `dv` ≥ its turning point from acceleration `a0`, toward a peak
acceleration of at most `a` under jerk `j`: ramp up, hold, ramp down. -/
def jerkCounts (dv a0 a j : ℚ) : Nat × Nat × Nat :=
  let y := j * dv + a0 * a0 / 2
  let c := if a * a ≤ y then
      let n1 := ceilTicks (abs (a - a0)) j
      let n3 := ceilTicks a j
      let dvr := (a * a - a0 * a0) / (2 * j) * (if a0 ≤ a then 1 else -1) + a * a / (2 * j)
      (n1, ceilTicks (max 0 (dv - dvr)) a, n3)
    else (ceilRoot y a0 j, 0, ceilRoot y 0 j)
  if a0 = 0 then c else jerkLead dv a0 j 64 c

/-- The phases of given counts that change the velocity by exactly `dv` from acceleration `a0` to 0. -/
def jerkPhases (dv a0 : ℚ) (c : Nat × Nat × Nat) : List Phase :=
  if (c.1 : ℚ) / 2 + c.2.1 + c.2.2 / 2 = 0 then []
  else
    let ap := jerkPeak dv a0 c
    [⟨c.1, a0, ap⟩, ⟨c.2.1, ap, ap⟩, ⟨c.2.2, ap, 0⟩].filter fun x => x.n != 0

/-- The ramp of mode 2: a change of velocity `dv` from acceleration `a0` to 0 under `a` and `j` (R117). -/
def rampJerk (dv a0 a j : ℚ) : List Phase :=
  if a ≤ 0 ∨ j ≤ 0 then []
  else if dv = 0 ∧ a0 = 0 then []
  else
    let turn := a0 * abs a0 / (2 * j)
    if turn ≤ dv then jerkPhases dv a0 (jerkCounts dv a0 a j)
    else jerkPhases dv a0 (jerkCounts (-dv) (-a0) a j)

/-- The limits of a plan in ticks: mode, velocity, acceleration, deceleration, jerk. -/
structure Limits where
  mode : Nat
  v : ℚ
  a : ℚ
  d : ℚ
  j : ℚ
  deriving DecidableEq, Repr

/-- A ramp under the plan's mode. In mode 1 the start acceleration is not carried (R117). -/
def ramp (l : Limits) (dv a0 a : ℚ) : List Phase := if l.mode = 2 then rampJerk dv a0 a l.j else rampFlat dv a

/-- The phases that bring a velocity to rest. -/
def stopPhases (l : Limits) (v a : ℚ) : List Phase := ramp l (-v) a l.d

/-- A square root rounded down to 2^-64.
(DESIGN CHOICE, unsafe: log entry 61.) -/
def sqrtQ (x : ℚ) : ℚ := (Nat.sqrt (x * 2 ^ 128).floor.toNat : ℚ) / 2 ^ 64

/-- R117, step 1: the exact distance of a change of velocity from `v` to `w` at a constant acceleration `lim`. -/
def flatDist (v w lim : ℚ) : ℚ := if lim ≤ 0 then 0 else (v + w) / 2 * (abs (w - v) / lim)

/-- R117, step 1: the exact distance of a jerk-limited change of velocity `dv` at or above its turning point, from
velocity `v` and acceleration `a0` to acceleration 0: ramp up, hold, ramp down. -/
def jerkDist (v dv a0 a j : ℚ) : ℚ :=
  let y := j * dv + a0 * a0 / 2
  let ap := if a * a ≤ y then a else sqrtQ y
  let t1 := abs (ap - a0) / j
  let t3 := ap / j
  let t2 := if a * a ≤ y then max 0 ((dv - (a0 + ap) * t1 / 2 - ap * t3 / 2) / ap) else 0
  let v1 := v + (a0 + ap) / 2 * t1
  let v2 := v1 + ap * t2
  v * t1 + (2 * a0 + ap) / 6 * t1 * t1 + v1 * t2 + ap / 2 * t2 * t2 + v2 * t3 + ap / 3 * t3 * t3

/-- R117, step 1: the exact distance of a ramp from `v` and `a0` to `w`. -/
def rampDist (l : Limits) (v w a0 lim : ℚ) : ℚ :=
  if l.mode = 2 then
    (if lim ≤ 0 ∨ l.j ≤ 0 then 0
     else if a0 * abs a0 / (2 * l.j) ≤ w - v then jerkDist v (w - v) a0 lim l.j
     else -(jerkDist (-v) (v - w) (-a0) lim l.j))
  else flatDist v w lim

/-- R117, R120: a ramp from `v` and `a0` to `w` raises the velocity: `w` is not below the velocity that ramping the
acceleration to 0 reaches by itself. -/
def Limits.rises (l : Limits) (v w a0 : ℚ) : Bool :=
  if l.mode = 2 ∧ a0 ≠ 0 then decide (0 < l.j ∧ a0 * abs a0 / (2 * l.j) ≤ w - v) else decide (v ≤ w)

/-- The distance that bringing a velocity to rest takes (R118). -/
def stopDist (l : Limits) (v a : ℚ) : ℚ := rampDist l v 0 a l.d

/-- R117, step 1: the distance of a move with a given peak: accelerate, decelerate. -/
def peakDist (l : Limits) (v a peak : ℚ) : ℚ :=
  rampDist l v peak a (if l.rises v peak a then l.a else l.d) + rampDist l peak 0 0 l.d

/-- The largest peak of at most `hi` whose move fits in `dist`, by halving an interval `fuel` times.
(DESIGN CHOICE, unsafe: log entry 61.) -/
def searchPeak (l : Limits) (v a dist : ℚ) : Nat → ℚ → ℚ → ℚ
  | 0, lo, _ => lo
  | n + 1, lo, hi =>
    let m := (lo + hi) / 2
    if peakDist l v a m ≤ dist then searchPeak l v a dist n m hi else searchPeak l v a dist n lo m

/-- The peak of mode 1 in exact form has a square root; its tick counts follow from comparing squares. -/
def flatCounts (l : Limits) (v dist : ℚ) : Nat × Nat × Nat :=
  let y := (2 * l.a * l.d * dist + l.d * v * v) / (l.a + l.d)
  if l.v * l.v ≤ y then
    let n1 := ceilTicks (abs (l.v - v)) (if v ≤ l.v then l.a else l.d)
    let n3 := ceilTicks l.v l.d
    (n1, ceilTicks (max 0 (dist - (v + l.v) / 2 * n1 - l.v / 2 * n3)) l.v, n3)
  else (ceilRoot y v l.a, 0, ceilRoot y 0 l.d)

/-- R117, step 3: the peak with which counts of ticks of mode 1 cover the distance exactly. -/
def flatPeak (v dist : ℚ) (c : Nat × Nat × Nat) : ℚ :=
  let den : ℚ := c.1 / 2 + c.2.1 + c.2.2 / 2
  if den = 0 then 0 else (dist - v * c.1 / 2) / den

/-- A peak that counts of ticks of mode 1 reach and leave within the limits. -/
def flatOk (l : Limits) (v : ℚ) (c : Nat × Nat × Nat) (p : ℚ) : Bool :=
  decide (0 < p ∧ p ≤ max v l.v ∧ p ≤ c.2.2 * l.d ∧ p - v ≤ c.1 * l.a ∧ v - p ≤ c.1 * l.d)

/-- The phases of mode 1 for counts of ticks and a peak. -/
def flatPhases (v : ℚ) (c : Nat × Nat × Nat) (p : ℚ) : List Phase :=
  ([⟨c.1, (p - v) / c.1, (p - v) / c.1⟩, ⟨c.2.1, 0, 0⟩, ⟨c.2.2, -p / c.2.2, -p / c.2.2⟩] : List Phase).filter fun x => x.n != 0

/-- Counts of ticks of mode 1 whose first phase slows the axis below the velocity it starts with.
(DESIGN CHOICE, unsafe: log entry 60.) -/
def slowCounts (l : Limits) (v dist : ℚ) : Option (Nat × Nat × Nat) :=
  let nd := ceilTicks v l.d
  let cand := fun (n1 n3 : Nat) =>
    let hi := min (min v l.v) (n3 * l.d)
    (n1, (max 0 ((dist - v * n1 / 2) / hi - ((n1 + n3 : Nat) : ℚ) / 2)).ceil.toNat, n3)
  (List.range nd).findSome? fun i =>
    [nd - i - 1, nd - i].findSome? fun n3 =>
      let c := cand (i + 1) n3
      if n3 ≠ 0 ∧ flatOk l v c (flatPeak v dist c) = true then some c else none

/-- Phases with every sign turned. -/
def flipPhases (l : List Phase) : List Phase := l.map fun x => ⟨x.n, -x.a0, -x.a1⟩

/-- R118: a ramp to rest, then a move by what is left, in its direction; `rest` plans a move by a distance from rest. -/
def stopThen (l : Limits) (rest : ℚ → List Phase) (v a dist : ℚ) : List Phase :=
  let st := stopPhases l v a
  let left := dist - phaseD st v
  st ++ (if left < 0 then flipPhases (rest (-left)) else if left = 0 then [] else rest left)

/-- Tick counts of the up to three phases of a ramp of mode 2. -/
def rampCounts (l : Limits) (dv a0 lim : ℚ) : Nat × Nat × Nat :=
  if lim ≤ 0 ∨ l.j ≤ 0 ∨ (dv = 0 ∧ a0 = 0) then (0, 0, 0)
  else if a0 * abs a0 / (2 * l.j) ≤ dv then jerkCounts dv a0 lim l.j
  else jerkCounts (-dv) (-a0) lim l.j

/-- The phases keep the limits of accelerations and jerk. -/
def phasesOk (l : Limits) (ph : List Phase) : Bool :=
  ph.all fun x => decide (x.a1 ≤ l.a ∧ -l.d ≤ x.a1 ∧ abs (x.a1 - x.a0) ≤ l.j * x.n)

/-- The phases of a move of mode 2 toward a target ahead, and whether they keep the limits from the velocity they start with. -/
def curveTry (l : Limits) (v a dist : ℚ) : List Phase × Bool :=
  let full := decide (peakDist l v a l.v ≤ dist)
  let peak := if full then l.v else searchPeak l v a dist 64 0 l.v
  let c1 := rampCounts l (peak - v) a (if l.rises v peak a then l.a else l.d)
  let c3 := rampCounts l (-peak) 0 l.d
  let dist' := fun (nc : Nat) (p : ℚ) =>
    phaseD (jerkPhases (p - v) a c1) v + p * nc + phaseD (jerkPhases (-p) 0 c3) p
  -- what is left for a cruise; a move without one gets none from the last bit of the search
  let left := dist - dist' 0 peak
  let nc := if peak ≤ 0 ∨ left ≤ (if full then 0 else 1) then 0 else ceilTicks left peak
  -- step 3 of R117: the counts stay, the peak is lowered until the distance is exact
  let d0 := dist' nc 0
  let slope := dist' nc 1 - d0
  let p := if slope = 0 then 0 else (dist - d0) / slope
  let first := jerkPhases (p - v) a c1
  let ph := first ++ (if nc = 0 then [] else [⟨nc, 0, 0⟩]) ++ jerkPhases (-p) 0 c3
  (ph, decide (v = 0 ∧ a = 0) || (phasesOk l ph && decide (0 ≤ p ∧ p ≤ max v l.v) && (!first.isEmpty || decide (p = v))))

/-- R117, step 3, for an axis that runs at its peak: a first phase of 2·m ticks lowers the velocity a little.
(DESIGN CHOICE, unsafe: log entry 60.) -/
def curveLower (l : Limits) (v dist : ℚ) (m : Nat) : Option (List Phase) :=
  let c1 := (m, 0, m)
  let c3 := rampCounts l (-v) 0 l.d
  let dist' := fun (nc : Nat) (p : ℚ) => phaseD (jerkPhases (p - v) 0 c1) v + p * nc + phaseD (jerkPhases (-p) 0 c3) p
  let left := dist - dist' 0 v
  if left < 0 ∨ v ≤ 0 then none
  else
    let nc := ceilTicks left v
    let d0 := dist' nc 0
    let p := (dist - d0) / (dist' nc 1 - d0)
    let ph := jerkPhases (p - v) 0 c1 ++ (if nc = 0 then [] else [⟨nc, 0, 0⟩]) ++ jerkPhases (-p) 0 c3
    if decide (0 < p ∧ p ≤ v) && phasesOk l ph then some ph else none

/-- The phases of a move of mode 2 from a velocity without acceleration; where no lowered peak serves, the axis comes to rest and
goes on from there.
(DESIGN CHOICE, unsafe: log entry 60.) -/
def curveFlat (l : Limits) (v dist : ℚ) : List Phase :=
  let r := curveTry l v 0 dist
  if r.2 then r.1
  else match (List.range 16).findSome? fun i => curveLower l v dist (2 ^ i) with
    | some ph => ph
    | none => stopThen l (fun d => (curveTry l 0 0 d).1) v 0 dist

/-- The phases of a move of mode 2 toward a target ahead: where they would break a limit from the acceleration in force, that is
first brought to 0.
(DESIGN CHOICE, unsafe: log entry 60.) -/
def curvePhases (l : Limits) (v a dist : ℚ) : List Phase :=
  let r := curveTry l v a dist
  if r.2 then r.1
  else if a = 0 ∨ l.j ≤ 0 then curveFlat l v dist
  else
    let n := ceilTicks (abs a) l.j
    let pre : Phase := ⟨n, a, 0⟩
    let v' := v + a / 2 * n
    let left := dist - phaseD [pre] v
    if 0 ≤ v' ∧ stopDist l v' 0 ≤ left then pre :: curveFlat l v' left
    else stopThen l (fun d => (curveTry l 0 0 d).1) v a dist

/-- The phases of a move toward a target that lies ahead by `dist` ≥ the stopping distance, from v ≥ 0 (R117).
(DESIGN CHOICE, unsafe: log entry 61.) -/
def movePhases (l : Limits) (v a dist : ℚ) : List Phase :=
  if l.mode = 2 then curvePhases l v a dist
  else
    let c := flatCounts l v dist
    let p := flatPeak v dist c
    if v = 0 ∨ flatOk l v c p = true then flatPhases v c p
    else
      match slowCounts l v dist with
      | some c => flatPhases v c (flatPeak v dist c)
      | none => stopThen l (fun d => let c := flatCounts l 0 d; flatPhases 0 c (flatPeak 0 d c)) v 0 dist

/-- Round a rational to the nearest integer, ties away from zero (R117, step 4). -/
def roundQ (x : ℚ) : Int := qdiv x.num x.den

/-- A velocity in native units from position units per tick, rounded toward zero (R117, step 5). -/
def velNative (tNs : Nat) (v : ℚ) : Int :=
  let y := v * 1000000000 / ((65536 * tNs : Nat) : ℚ)
  y.num.tdiv y.den

/-- The segments of phases run from an exact state: ends rounded, end velocities rounded toward zero. -/
def toSegs (tNs : Nat) : List Phase → ℚ → ℚ → List Seg
  | [], _, _ => []
  | x :: l, p, v =>
    let p1 := p + v * x.n + (2 * x.a0 + x.a1) / 6 * (x.n * x.n)
    let v1 := v + (x.a0 + x.a1) / 2 * x.n
    ⟨x.n, roundQ p1, velNative tNs v1⟩ :: toSegs tNs l p1 v1

/-- R117, R118, R121: the phases of a move by `dist` from velocity `v` and acceleration `a`. Where the velocity points
away or the target lies inside the stopping distance, the move begins with a ramp to rest. -/
def planPhases (l : Limits) (v a dist : ℚ) : List Phase :=
  let neg := decide (dist < 0 ∨ (dist = 0 ∧ (v < 0 ∨ (v = 0 ∧ a < 0))))
  let v' := if neg then -v else v
  let a' := if neg then -a else a
  let dist' := if neg then -dist else dist
  let out :=
    if l.v ≤ 0 then stopPhases l v' a'
    else if v' < 0 ∨ dist' < stopDist l v' a' then stopThen l (movePhases l 0 0) v' a' dist'
    else if dist' = 0 ∧ v' = 0 ∧ a' = 0 then []
    else movePhases l v' a' dist'
  if neg then flipPhases out else out

/-- R117, step 4: the last segment ends at the target at rest. Ends of a ramp that misses it by more than the rounding (R140) are
moved in proportion to the way they stand from the start. -/
def fixEnd (p target : Int) (l : List Seg) : List Seg :=
  match l.reverse with
  | [] => []
  | x :: r =>
    if (target - x.p1).natAbs ≤ 2 ∨ x.p1 = p then (⟨x.dur, target, 0⟩ :: r).reverse
    else (⟨x.dur, target, 0⟩ :: (r.map fun (y : Seg) => ⟨y.dur, p + qdiv ((y.p1 - p) * (target - p)) (x.p1 - p), y.v1⟩)).reverse

/-- R117: the segments of a move from a setpoint state to a target. -/
def planMove (l : Limits) (tNs : Nat) (p v a target : Int) : List Seg :=
  let ph := planPhases l (velTick tNs v) (accTick tNs a) ((target - p : Int) : ℚ)
  let sg := toSegs tNs ph p (velTick tNs v)
  if l.v ≤ 0 then
    match sg.reverse with
    | [] => []
    | x :: r => (⟨x.dur, x.p1, 0⟩ :: r).reverse
  else fixEnd p target sg

/-- R125: the segments of a stop ramp. -/
def planStop (l : Limits) (tNs : Nat) (p v a : Int) : List Seg :=
  let ph := stopPhases l (velTick tNs v) (accTick tNs a)
  match (toSegs tNs ph p (velTick tNs v)).reverse with
  | [] => []
  | x :: r => (⟨x.dur, x.p1, 0⟩ :: r).reverse

/-- R120: the segments of a ramp to a velocity: a falling speed on the deceleration, a rising one on the acceleration. -/
def planVelocity (l : Limits) (tNs : Nat) (p v a vt : Int) : List Seg :=
  let v0 := velTick tNs v
  let v1 := velTick tNs vt
  let a0 := accTick tNs a
  let ph :=
    if v * vt < 0 then ramp l (-v0) a0 l.d ++ ramp l v1 0 l.a
    else
      let dir : ℚ := if v < 0 ∨ (v = 0 ∧ vt < 0) then -1 else 1
      ramp l (v1 - v0) a0 (if l.rises (dir * v0) (dir * v1) (dir * a0) then l.a else l.d)
  match (toSegs tNs ph p v0).reverse with
  | [] => []
  | x :: r => (⟨x.dur, x.p1, vt⟩ :: r).reverse

/-! ### The S-curve of a bind-off or path stop (R134, R139) -/

/-- R134: Tb in whole ticks from r and q (Q16.16 per second and per second²). -/
def curveTicks (tNs r q : Nat) : Nat :=
  if r = 0 ∨ q = 0 then 0
  else
    let rr : ℚ := r / 65536
    let qq : ℚ := q / 65536
    let tb := if rr * rr ≤ qq then 1 / rr + rr / qq else 2 / sqrtQ qq
    (tb * 1000000000 / tNs).ceil.toNat

/-- R134: λ at `k` ticks after the start edge, with r or q lowered so that the curve lasts `tb` ticks: λ and its rate,
in Q2.30 and Q2.30 per second.
(DEDUCED, unsafe: log entry 62.) -/
def curveAt (tNs r q tb k : Nat) : Int × Int :=
  if tb ≤ k then (0, 0)
  else
    let rr : ℚ := r / 65536
    let q0 : ℚ := q / 65536
    let tt : ℚ := (tb * tNs : Nat) / 1000000000
    let t : ℚ := (k * tNs : Nat) / 1000000000
    let flat := decide (rr * rr ≤ q0)
    let qq := if flat then q0 else 4 / (tt * tt)
    let tj := if flat then (let x := tt * tt - 4 / q0; (tt - sqrtQ (if x < 0 then 0 else x)) / 2) else tt / 2
    let lam := if t < tj then 1 - qq * t * t / 2
      else if t ≤ tt - tj then 1 - qq * tj * t + qq * tj * tj / 2
      else qq * (tt - t) * (tt - t) / 2
    let rate := if t < tj then -(qq * t) else if t ≤ tt - tj then -(qq * tj) else -(qq * (tt - t))
    (clampI (roundQ (lam * 2 ^ 30)) 0 (2 ^ 30), roundQ (rate * 2 ^ 30))

end Sys2Proof.Machine
end

