-- ==== Sys2Proof/Machine/Sensorless.lean ====
section
/-! DEFINITION. Sensorless operation, cast-on, lock recovery and encoder ride-through of a local axis (R263–R283), and
the field computation with its estimators (R245, R248, R264–R268). Times are in ns. -/

namespace Sys2Proof.Machine

/-! ### Speed, period, back-EMF -/

/-- The electrical speed p·v in 2^-16 cycle/s. -/
def State.elSpeed (s : State) (a : Nat) (v : Int) : Int := s.get (Obj.FocPolePairs a) * v

/-- A span of ns reaches `num`/`den` electrical periods at speed v. -/
def State.spansPeriods (s : State) (a : Nat) (v : Int) (span num den : Nat) : Bool :=
  num * 65536000000000 ≤ den * span * (s.elSpeed a v).natAbs && v != 0

/-- E = √3·|ω_e|·ψ, line to line, Q16.16 V.
(DEDUCED, unsafe: log entry 89.) -/
def State.bemf (s : State) (a : Nat) (v : Int) : Int :=
  let w : Int := (radPerSec (s.elSpeed a v)).natAbs
  qdiv (rsh (w * 1859775393) 30 * s.get (Obj.FocFluxLinkage a)) 1000000

/-- `AscThreshold` × V_dc.
(DEDUCED, unsafe: log entry 89.) -/
def State.ascLevel (s : State) (a : Nat) : Int := rsh (s.get (Obj.AscThreshold a) * (s.foc a).vdc) 30

/-- The distance of two angles. -/
def angleDiff (x y : Int) : Nat := (wrapS 32 (x - y)).natAbs

/-- An angle advanced at an electrical speed for a time. -/
def advance (angle : Nat) (pv : Int) (dt : Int) : Nat := (((angle : Int) + qdiv (pv * 65536 * dt) 1000000000) % 4294967296).toNat

/-! ### Cast-on (R270–R273) -/

/-- R131: the brake is released once cast-on has measured; motion waits `BrakeReleaseDelay`. -/
def State.brakeRelease (s : State) (a : Nat) : State :=
  let r := s.axis a
  if !r.brakeEngaged then s
  else s.setAxis a { r with brakeEngaged := false,
                            releaseWait := decide (s.get (Obj.BrakeOutput a) ≠ 0xFF ∧ s.get (Obj.BrakeReleaseDelay a) ≠ 0) }

/-- Cast-on, or an angle test, enters state 3: HFI. -/
def State.startHfi (s : State) (a : Nat) : State :=
  let s := s.put (Obj.SlEstimator a) 1
  s.setSl a { s.sl a with hfiCount := 0, lockRun := 0, lossRun := 0, salRun := 0, locked := false }

/-- R271: the acquisition begins: state 1, or 3 when the window is 0. -/
def State.castAcquire (s : State) (a : Nat) : State :=
  let s := s.setSl a
    { s.sl a with cross := [], agreeAt := none, shorted := false, asc := false, hold := false, dibber := none, braked := false,
                  closeDue := none, waitEdge := false }
  let s := s.wantLegs a 0
  if s.get (Obj.CastOnMeasureTime a) = 0 then (s.put (Obj.CastOnState a) 3).startHfi a
  else s.put (Obj.CastOnState a) 1

/-- R270: the rotor angle has to be acquired first. -/
def State.castAcquires (s : State) (a : Nat) : Bool :=
  s.get (Obj.FbSource a) = 3 || (s.get (Obj.FbSource a) = 1 && s.flag (Obj.CastOnAlign a) && !(s.sl a).aligned && isLocal a)

/-- R109, R131: leaving Standby: the shorted switches and the limits of an earlier motion end. -/
def State.leaveStandby (s : State) (a : Nat) : State :=
  if s.bit (Obj.AxisLimitState a) 2 then
    let s := s.clrBit (Obj.AxisLimitState a) 2
    if isLocal a then s.wantLegs a 0 else s
  else s

/-! ### Segment tables (R111) -/

/-- R111: entry `i` of the committed table from a start: its segment. -/
def State.tableEntry (s : State) (a : Nat) (base : Int) (i : Nat) : Seg :=
  let k := Obj.ProfileTable a
  { dur := s.uint k (24 * i) 4
    p1 := if (s.uint k (24 * i + 4) 4).testBit 0 then s.sint k (24 * i + 8) 8 else base + s.sint k (24 * i + 8) 8
    v1 := s.sint k (24 * i + 16) 4 }

/-- The committed table as segments of a move that starts at a position. -/
def State.tableSegs (s : State) (a : Nat) (base : Int) : List Seg :=
  (List.range (s.nat (Obj.ProfileTableLength a))).map (s.tableEntry a base)

/-- The end of a list of segments. -/
def segsEnd : List Seg → Int → Int
  | [], p => p
  | x :: l, _ => segsEnd l x.p1

/-- R148: a virtual axis is loop-closed at once. -/
def State.castVirtual (s : State) (a : Nat) (pending : Option PlanReq) : State :=
  let r := s.axis a
  let s := s.setAxis a { r with closed := true, closing := false, req := pending, brakeEngaged := false, standRun := 0 }
  let s := s.put (Obj.CastOnResult a) 1
  s.put (Obj.AxisState a) (if pending.isSome then axMoving else axHolding)

/-- R109, R270: an axis enters Casting-on with the move that waits. -/
def State.castBegin (s : State) (a : Nat) (pending : Option PlanReq) (homing : Bool) : State :=
  let s := s.leaveStandby a
  let s := s.count (Obj.CastOnCount a) 32 1
  if s.flag (Obj.AxisVirtual a) then s.castVirtual a pending
  else
    let s := s.put (Obj.AxisState a) axCasting
    let s := (s.put (Obj.CastOnResult a) 0).put (Obj.CastOnState a) 0
    let s := s.setAxis a { s.axis a with afterCast := pending, homeAfterCast := homing }
    if isLocal a && s.tripLatched a then s.castFail a 10
    else if s.castAcquires a then s.castAcquire a else s.setSl a { s.sl a with waitEdge := true, closeDue := none }

/-- R119: the target of an absolute move on a modulo axis, from a position. -/
def State.moduloTarget (s : State) (a : Nat) (p t : Int) : Int :=
  let d := (t - p) % 4294967296
  let dir := s.get (Obj.AxisModuloDirection a)
  p + if (dir = 1 ∧ 2147483648 < d) ∨ (dir = 3 ∧ d ≠ 0) then d - 4294967296 else d

/-- The target of a command 4 or 5 from a position. -/
def State.targetFrom (s : State) (a : Nat) (p : Int) (absolute : Bool) (x : Int) : Int :=
  if !absolute then p + x else if s.flag (Obj.AxisModulo a) then s.moduloTarget a p x else x

/-- R271: the sign of the pending move's first planned velocity; 0 with none. -/
def State.pendingDir (s : State) (a : Nat) : Int :=
  let r := s.axis a
  match r.afterCast with
  | some (.velocity v) => v.sign
  | some (.asked ab t) => (s.targetFrom a (s.slotPrev (axisSlot a + 3)) ab t - s.slotPrev (axisSlot a + 3)).sign
  | some (.move t) => (t - s.slotPrev (axisSlot a + 3)).sign
  | some (.table _) => (segsEnd ((s.tableSegs a (s.slotPrev (axisSlot a + 3))).take 1) (s.slotPrev (axisSlot a + 3)) -
      s.slotPrev (axisSlot a + 3)).sign
  | some _ => 0
  | none =>
    if r.homeAfterCast then
      (let m := s.get (Obj.HomingMethod a); if m = 1 ∨ m = 4 ∨ m = 5 ∨ m = 7 then 1 else if m = 8 then 0 else -1)
    else 0

/-- R271: the rule for leaving states 2 and 4: whether state 5 follows. -/
def State.castAgainst (s : State) (a : Nat) (v : Int) : Bool :=
  s.natInUse (Obj.CastOnRestSpeed a) < v.natAbs && (s.pendingDir a == 0 || s.pendingDir a * v.sign < 0)

/-- R245: the mechanical position at a time: of an incremental channel extrapolated from the latest accepted edge with the estimator
speed, of SSI from the reading at the tick edge. -/
def State.mechPosition (s : State) (a time : Nat) : Int :=
  let c := s.nat (Obj.FbChannelNumber a)
  let f := s.fb c
  let p0 := if 5 ≤ s.nat (Obj.FbType c) then (s.rawPos a (s.get (Obj.FbCount c)), s.nat Obj.TickEdgeTime)
    else match f.edges with
      | e :: _ => (s.rawPos a f.count, e.time / 65536)
      | [] => (s.rawPos a f.count, time)
  p0.1 + qdiv (s.get (Obj.SpeedEstimate a) * 65536 * ((time : Int) - p0.2)) 1000000000

/-- R270, R271, R283: the acquisition is complete with an angle and a speed. -/
def State.castAcquired (s : State) (a angle : Nat) (v : Int) : State :=
  let x := s.sl a
  let s := s.setSl a { x with angle := angle, speed := v, dibber := none, asc := false }
  let s := s.put (Obj.SlAngle a) angle
  if x.test then
    let s := s.setSl a { s.sl a with test := false }
    ((s.put (Obj.CastOnState a) 6).put (Obj.CastOnResult a) 1).wantLegs a 0
  else
    let s := s.brakeRelease a
    if s.get (Obj.FbSource a) = 1 then
      let p : Int := s.get (Obj.FocPolePairs a)
      let off := (((angle : Int) - p * s.rawPos a (s.fb (s.nat (Obj.FbChannelNumber a))).count) % 4294967296).toNat
      let s := s.put (Obj.CastOnAlignOffset a) (off : Nat)
      s.setSl a { s.sl a with aligned := true, offset := some off, waitEdge := true }
    else s.setSl a { s.sl a with closeDue := some (s.castAgainst a v) }

/-- R196: the setpoint that the soft start seeds: the measured state one tick ahead. -/
def State.seed (s : State) (a : Nat) : Int × Int :=
  let p := s.slotPrev (axisSlot a + 3)
  let v := s.slotPrev (axisSlot a + 4)
  (p + qdiv (v * 65536 * s.tNs) 1000000000, v)

/-- R127: a move is commanded from a position: the ledger and the plan that waits. -/
def State.commandMove (s : State) (a : Nat) (p target : Int) (req : PlanReq) : State :=
  let r := s.axis a
  let s := s.addI64 (Obj.MoveCommanded a) (target - p)
  let s := s.put (Obj.MoveRemaining a) (wrapS 64 (target - p))
  s.setAxis a { r with target := target, req := some req }

/-- R127, R196: the move that waited for the closure is commanded from a position. -/
def State.releasePending (s : State) (a : Nat) (p : Int) : State :=
  let r := s.axis a
  let s := s.setAxis a { r with afterCast := none }
  match r.afterCast with
  | some (.asked ab x) => let t := s.targetFrom a p ab x; s.commandMove a p t (.move t)
  | some (.table _) => let t := segsEnd (s.tableSegs a p) p; s.commandMove a p t (.table (some t))
  | some q => s.setAxis a { s.axis a with req := some q }
  | none => s

/-- R271: state 6: the axis leaves Casting-on with the pending move planned from a position. -/
def State.castDone (s : State) (a : Nat) (p : Int) : State :=
  let r := s.axis a
  let moving := r.afterCast.isSome || r.homeAfterCast
  let s := (s.put (Obj.CastOnState a) 6).put (Obj.CastOnResult a) (if (s.sl a).braked then 2 else 1)
  let s := s.releasePending a p
  let s := s.setAxis a { s.axis a with standRun := 0 }
  s.put (Obj.AxisState a) (if moving then axMoving else axHolding)

/-- R134, R279: the axis runs with the ramp of a bind-off. -/
def State.inRamp (s : State) (a : Nat) : Bool := (s.groupsOf a).any fun b => (s.bind b).phase == 2

/-- R195, R196: the first edge at which the axis is loop-closed. -/
def State.closeLoop (s : State) (a : Nat) : State :=
  let sd := s.seed a
  let g : Gen := { p := sd.1, p0 := sd.1, v := sd.2 }
  s.setAxis a { s.axis a with
                closed := true, closing := true, sp := sd.1, spV := sd.2, spA := 0, last := (sd.1, sd.2, 0), lastGen := g, gen := g }

/-- R272: in state 5 the profile step runs a stop segment from the soft start. -/
def State.brakePlan (s : State) (a : Nat) : State :=
  let sd := s.seed a
  let l : Limits :=
    { mode := 2, v := 0, a := 0, d := accTick s.tNs (s.get (Obj.CastOnDeceleration a)), j := jerkTick s.tNs (s.get (Obj.ProfileJerk a)) }
  let sg := planStop l s.tNs sd.1 sd.2 0
  s.setAxis a { s.axis a with gen := { segs := sg, p0 := sd.1, v0 := sd.2, p := sd.1, v := sd.2, done := sg.isEmpty } }

/-- R272: σ_b in Q2.30, and whether it is below 1. -/
def State.brakeScale (s : State) (a : Nat) : Int :=
  let vcl := s.get (Obj.CastOnDcLimit a)
  if vcl = 0 ∨ s.get (Obj.DcLinkSource a) = 0xFF then 1073741824
  else clampI (qdiv ((vcl - s.get (Obj.FocDcLink a)) * 20 * 1073741824) vcl) 0 1073741824

/-- R270: a network axis may be handed over at this edge. -/
def State.netReady (s : State) (a : Nat) : Bool :=
  let d := s.get (Obj.NetAxisDriveState a)
  (s.axis a).netTaken && (d == 1 || d == 2) && !(s.axis a).netDegraded && !s.faultActive fkNetFeedback a

/-- R270, R271: what a tick edge brings to an axis in Casting-on. -/
def State.castEdge (s : State) (a : Nat) : State :=
  let x := s.sl a
  let r := s.axis a
  if s.get (Obj.AxisState a) ≠ axCasting then s
  else if x.waitEdge then
    if s.get (Obj.FbSource a) = 1 ∧ s.faultActive fkFeedbackLost a then s.castFail a 8
    else if s.get (Obj.FbSource a) = 2 ∧ !s.netReady a then s
    else
      let s := s.brakeRelease a
      if (s.axis a).releaseWait then s
      else
        let s := s.setSl a { x with waitEdge := false }
        let s := s.closeLoop a
        s.castDone a (s.axis a).sp
  else match x.closeDue with
    | some br =>
      if r.releaseWait then s
      else
        let s := s.setSl a { x with closeDue := none, braked := br }
        let s := s.closeLoop a
        if br then (s.put (Obj.CastOnState a) 5).brakePlan a else s.castDone a (s.axis a).sp
    | none =>
      if s.get (Obj.CastOnState a) = 5 ∧ (s.slotPrev (axisSlot a + 4)).natAbs ≤ s.natInUse (Obj.CastOnRestSpeed a) then
        s.castDone a r.sp
      else s

/-- CAST_ON_MEASURE_TIMEOUT (R271). -/
def execCastOnMeasureTimeout (a : Nat) (s : State) : Host.Outcome State Fault Refusal :=
  .next (if s.get (Obj.CastOnState a) = 1 then (s.put (Obj.CastOnState a) 3).startHfi a else s)

/-- CAST_ON_TIMEOUT (R273): the timeout passes, or state 4 found no agreement within 2·T_e.
(DESIGN CHOICE, unsafe: log entry 1.) -/
def execCastOnTimeout (a : Nat) (noAgreement : Bool) (s : State) : Host.Outcome State Fault Refusal :=
  .next (if s.get (Obj.AxisState a) ≠ axCasting then s
    else if noAgreement then (if s.get (Obj.CastOnState a) = 4 then s.castFail a 7 else s)
    else if s.flagInUse (Obj.CastOnTimeout a) then s.castFail a 3 else s)

/-! ### Zero crossings (R262, R265, R271, R277) -/

/-- Intervals of crossing times, newest first. -/
def intervals : List Nat → List Nat
  | x :: y :: l => (x - y) :: intervals (y :: l)
  | _ => []

/-- Every interval within ±25 % of their mean. -/
def steady (l : List Nat) : Bool := l.all fun x => 4 * l.length * x ≤ 5 * l.sum && 3 * l.sum ≤ 4 * l.length * x

/-- R271, R277: `n` crossings with steady intervals: their mean, as sum and number. -/
def crossingsOk (n : Nat) (cross : List Nat) : Option (Nat × Nat) :=
  let l := intervals (cross.take n)
  if n ≤ cross.length ∧ steady l = true then some (l.sum, l.length) else none

/-- The mechanical speed of a mean crossing interval, one sixth of an electrical period. -/
def State.crossSpeed (s : State) (a : Nat) (m : Nat × Nat) (up : Bool) : Int :=
  let v := qdiv ((65536000000000 * m.2 : Nat) : Int) ((6 * m.1 : Nat) * s.get (Obj.FocPolePairs a))
  if up then v else -v

/-- R271, R283: state 1 has measured: state 4 by the terminal voltages, or by the short-circuit phasor. An angle test is over.
(DESIGN CHOICE, safe: log entry 84.) -/
def State.castMeasured (s : State) (a time : Nat) (m : Nat × Nat) : State :=
  let x := s.sl a
  let v := s.crossSpeed a m x.dirUp
  let e := s.bemf a v
  if e < s.inUse (Obj.CastOnBemfThreshold a) then s
  else
    let asc := decide (s.ascLevel a ≤ e)
    let angle := (Config.fitAngle (x.cross.map Int.ofNat)).toNat
    if x.test then (s.put (Obj.BemfEstimate a) e).castAcquired a angle v else
    let s := s.setSl a { x with mAngle := angle, mSpeed := v, mTime := time, shorted := asc, asc := asc, estimate := none, agreeAt := none }
    let s := (s.put (Obj.CastOnState a) 4).put (Obj.SlEstimator a) (if asc then 5 else 4)
    let s := s.put (Obj.BemfEstimate a) e
    (if asc then s.wantLegs a 2 else s).brakeRelease a

/-- R265: the expected crossing interval: the mean of the last two, doubled. -/
def twiceTau (cross : List Nat) : Nat := ((intervals cross).take 2).sum

/-- R278: a recovery fails: the axis enters Faulted; the stage keeps its short circuit while E is high. -/
def State.recoveryFail (s : State) (a : Nat) : State :=
  let x := s.sl a
  let s := s.setSl a { x with lost := false, riding := false, reacq := false, estimate := none, dibber := none, hold := decide (s.ascLevel a < x.lastE) }
  let s := s.setActive fkLockLost a false
  let s := s.setBit (Obj.SlStatus a) 5
  let s := s.wantLegs a (if s.ascLevel a < x.lastE then 2 else 0)
  let s := s.raise fkRecovery a
  s.axisToFaulted a

/-- R278: a re-acquisition at a time comes after t_R = max(4·T_e, 2 ms) from the detection. -/
def State.tooLate (s : State) (a time : Nat) : Bool :=
  let x := s.sl a
  decide (2000000 < time - x.detected) && s.spansPeriods a x.lastV (time - x.detected - 1) 4 1

/-- R278: the angle is re-acquired at a time, or too late. -/
def State.reacquired (s : State) (a time angle : Nat) (v : Int) : State :=
  if s.tooLate a time then s.recoveryFail a
  else s.setSl a { s.sl a with reacq := true, dibber := none, angle := angle, speed := v }

/-- R277: a freewheeling recovery has six steady crossings.
(DESIGN CHOICE, safe: log entry 84.) -/
def State.reacquire (s : State) (a time : Nat) (m : Nat × Nat) : State :=
  let x := s.sl a
  let v := s.crossSpeed a m x.dirUp
  let e := s.bemf a v
  let s := s.put (Obj.BemfEstimate a) e
  if e < s.inUse (Obj.CastOnBemfThreshold a) then s.startHfi a
  else s.reacquired a time (Config.fitAngle (x.cross.map Int.ofNat)).toNat v

/-- The order in which the phases cross when the rotation is up. -/
def crossesUp (prev f : Nat) : Bool := (prev = 0 && f = 2) || (prev = 2 && f = 1) || (prev = 1 && f = 0)

/-- The electrical angle at a zero crossing of a phase's back-EMF, rising or falling.
(DESIGN CHOICE, unsafe: log entry 87.) -/
def crossAngle (f : Nat) (high : Bool) : Nat :=
  (match f with
    | 0 => if high then 3 else 0
    | 1 => if high then 5 else 2
    | _ => if high then 1 else 4) * 4294967296 / 6

/-- A zero crossing of a phase at a time.
(DESIGN CHOICE, unsafe: log entry 87.) -/
def State.crossing (s : State) (a f time : Nat) (high : Bool) (prev : Option Nat) : State :=
  let x := s.sl a
  let up := match prev with
    | some p => crossesUp p f
    | none => x.dirUp
  let s := s.setSl a { x with cross := (time :: x.cross).take 13, dirUp := up, zAngle := crossAngle f high }
  let x := s.sl a
  if s.get (Obj.CastOnState a) = 1 ∧ s.casts a = true then
    match crossingsOk 12 x.cross with
    | some m => s.castMeasured a time m
    | none => s
  else if x.lost && !x.asc && !x.reacq then
    match crossingsOk 6 x.cross with
    | some m => s.reacquire a time m
    | none => s
  else s

/-- R262: the output of a comparator for a phase voltage: its threshold by `PvsCompMode`; the hysteresis lies below it.
(DESIGN CHOICE, unsafe: log entry 87.) -/
def State.pvsLevel (s : State) (n : Nat) (v : Int) (old : Bool) : Bool :=
  let t := if s.get (Obj.PvsCompMode n) = 1 then s.get (Obj.PvsCompThreshold n) else qdiv (s.foc n).vdc 2
  if t < v then true else if v < t - s.get (Obj.PvsCompHysteresis n) then false else old

/-- PVS_COMPARATOR_CHANGE (R262, R265): the voltage of a phase (Q16.16 V) reaches a value, `sinceEdge` 2.5 ns clocks after the
latest edge of the stage's outputs; where its comparator changes output, the change is kept or blanked. -/
def pvsComparatorChangeNow (n f time : Nat) (value : Int) (sinceEdge : Nat) (s : State) : Host.Outcome State Fault Refusal :=
  let old := ((s.foc n).changes.find? fun c => c.1 == f).map fun c => c.2.2
  let high := s.pvsLevel n value (old.getD false)
  .next
    (if old = some high then s
    else if sinceEdge < s.nat (Obj.PvsBlanking n) then s.count (Obj.PvsBlanked n) 32 1
    else
      let r := s.foc n
      let prev := (r.changes.head?).map fun c => c.1
      let mine := (r.changes.filter fun c => c.1 == f).take 7
      let others := r.changes.filter fun c => c.1 != f
      let s := s.setFoc n { r with changes := (f, time, high) :: mine ++ others }
      if s.get (Obj.SlEstimator n) = 2 ∧ time < (s.sl n).commAt + s.nat (Obj.SlDemagTime n) * 5 / 2 then s
      else s.crossing n f time high prev)

/-- PVS_COMPARATOR_CHANGE, with the values that directly written objects had at the latest edge (R51). -/
def execPvsComparatorChange (n f time : Nat) (value : Int) (sinceEdge : Nat) (s : State) : Host.Outcome State Fault Refusal :=
  viaEdge (pvsComparatorChangeNow n f time value sinceEdge) s

/-- R265: the legs of a sector: two driven, one floating.
(DESIGN CHOICE, unsafe: log entry 87.) -/
def State.sectorLegs (s : State) (n sector : Nat) : State :=
  let p := sectorPhases sector
  s.setPwm n { s.pwm n with phases := (s.pwm n).phases.mapIdx fun f x => { x with want := if f = p.1 ∨ f = p.2 then 1 else 0 } }

/-- R264, R265: the method of `SlMethod` is in use from an angle on: six-step begins in the sector whose current leads the rotor by a
quarter turn in the direction of the torque.
(DESIGN CHOICE, unsafe: log entry 87.) -/
def State.useFast (s : State) (a angle : Nat) : State :=
  if s.get (Obj.SlMethod a) = 1 then
    let lead := if 0 ≤ (s.foc a).used.2 then 1789569706 else 1789569706 + 2147483648
    let sector := (angle + lead) % 4294967296 * 6 / 4294967296
    ((s.setSl a { s.sl a with sector := sector }).put (Obj.SlEstimator a) 2).sectorLegs a sector
  else s.put (Obj.SlEstimator a) 3

/-- R265: the next commutation is due at a time: half of τ after the zero crossing, less the advance; one for each crossing. -/
def State.commutes (s : State) (a time : Nat) : Bool :=
  let x := s.sl a
  let t2 := twiceTau x.cross
  match x.cross with
  | t :: _ => t2 == 0 || decide (x.commAt ≤ t ∧ t + t2 / 4 ≤ time + 3 * t2 * s.nat (Obj.SlCommAdvance a) / 4294967296)
  | [] => true

/-- SIX_STEP_COMMUTATION (R265): the next sector in the order of the torque's sign. -/
def execSixStepCommutation (a time : Nat) (s : State) : Host.Outcome State Fault Refusal :=
  let x := s.sl a
  let next := if 0 ≤ (s.foc a).used.2 then (x.sector + 1) % 6 else (x.sector + 5) % 6
  .next (if s.sixStep a && s.commutes a time then
      (s.setSl a { x with sector := next, commAt := time }).sectorLegs a next
    else s)

/-! ### HFI and dibber pulses (R267–R269) -/

/-- A dibber scan or a polarity check begins at the HFI angle. -/
def State.startDibber (s : State) (a : Nat) (polarity : Bool) : State :=
  let x := s.sl a
  let d : DibberRt := { polarity := polarity, theta0 := x.angle, done := [], gap := false, since := s.now16 }
  (s.setSl a { x with locked := true, dibber := some d }).wantLegs a 1

/-- HFI_LOCKED (R267): the tracking error has stayed within tolerance for 64 computations. -/
def execHfiLocked (a : Nat) (s : State) : Host.Outcome State Fault Refusal :=
  let x := s.sl a
  .next (if x.lockRun < 64 ∨ x.locked = true then s
    else if s.get (Obj.CastOnState a) = 3 ∧ s.casts a = true then
      (s.put (Obj.CastOnState a) 2).startDibber a (decide (s.natInUse (Obj.CastOnRestSpeed a) < x.speed.natAbs))
    else if x.lost then s.startDibber a true
    else s.setSl a { x with locked := true })

/-- HFI_FAILED (R268): after 256 computations the saliency is below its minimum, or the amplitude is 0. -/
def execHfiFailed (a : Nat) (s : State) : Host.Outcome State Fault Refusal :=
  let x := s.sl a
  .next (if x.hfiCount < 256 ∨ x.locked = true ∨
        (s.inUse (Obj.HfiMinSaliency a) ≤ s.get (Obj.HfiSaliency a) ∧ s.get (Obj.HfiAmplitude a) ≠ 0) then s
    else
      let s := s.setBit (Obj.SlStatus a) 1
      if s.get (Obj.CastOnState a) = 3 ∧ s.casts a = true then s.castFail a 4
      else s)

/-- R269: the direction index of each pulse of a scan. -/
def scanOrder : List Nat := [0, 6, 1, 7, 2, 8, 3, 9, 4, 10, 5, 11]

/-- The direction of the next pulse. -/
def DibberRt.direction (d : DibberRt) : Nat :=
  let k := if d.polarity then 6 * d.done.length else scanOrder.getD d.done.length 0
  (d.theta0 + k * 4294967296 / 12) % 4294967296

/-- R269: the current of direction index `k` in a finished scan. -/
def DibberRt.current (d : DibberRt) (k : Nat) : Int :=
  match scanOrder.findIdx? (· == k % 12) with
  | some i => d.done.reverse.getD i 0
  | none => 0

/-- The index of the first largest entry. -/
def argmax : List Int → Nat → Nat × Int → Nat
  | [], _, b => b.1
  | x :: l, i, b => argmax l (i + 1) (if b.2 < x then (i, x) else b)

/-- R269: a contrast (i − j)/i in Q2.30 fails its minimum. -/
def contrastLow (i j min : Int) : Bool := min != 0 && decide (qdiv ((i - j) * 1073741824) i < min)

/-- R269: the verdict of a finished scan or check: the angle, or none when the contrast is too low. -/
def DibberRt.verdict (d : DibberRt) (min : Int) : Option Nat :=
  if d.polarity then
    let i0 := d.done.getD 1 0
    let i6 := d.done.getD 0 0
    let big := max i0 i6
    if contrastLow big (if i6 ≤ i0 then i6 else i0) min then none
    else some ((d.theta0 + if i6 ≤ i0 then 0 else 2147483648) % 4294967296)
  else
    let l := (List.range 12).map d.current
    let k := argmax l 0 (0, l.getD 0 0)
    let y := d.current k
    let ym := d.current (k + 11)
    let yp := d.current (k + 1)
    if contrastLow y (d.current (k + 6)) min then none
    else
      let off := qdiv ((ym - yp) * 4294967296) (24 * (ym - 2 * y + yp))
      some ((((d.theta0 + k * 4294967296 / 12 : Nat) : Int) + off) % 4294967296).toNat

/-- A dibber scan or check fails (R269, R273).
(DEDUCED, unsafe: log entry 90.) -/
def State.dibberFail (s : State) (a result : Nat) : State :=
  let s := s.setBit (Obj.SlStatus a) 2
  if (s.sl a).lost then s.setSl a { s.sl a with dibber := none } else s.castFail a result

/-- R269, R271, R277: a scan or check passes with an angle. -/
def State.dibberPass (s : State) (a angle : Nat) : State :=
  let x := s.sl a
  if x.lost then s.reacquired a s.now angle x.speed
  else s.castAcquired a angle x.speed

/-- DIBBER_PULSE_END (R269): after `DibberPulseTime` a pulse ends with the raw phase samples. -/
def execDibberPulseEnd (a : Nat) (raw : List Int) (s : State) : Host.Outcome State Fault Refusal :=
  .next (match (s.sl a).dibber with
    | none => s
    | some d =>
      if d.gap ∨ s.now16 < d.since + s.natInUse (Obj.DibberPulseTime a) * 163840 then s
      else
        let i3 := s.phaseCurrents a raw
        let ab := clarke i3.1 i3.2.1 i3.2.2
        let i := (park ab.1 ab.2 d.direction).1
        let s := s.wantLegs a 0
        if s.inUse (Obj.DibberCurrentLimit a) < i.natAbs ∨ s.inUse (Obj.DibberCurrentLimit a) = 0 then s.dibberFail a 6
        else
          let d := { d with done := i :: d.done, gap := s.flagInUse (Obj.DibberGap a), since := s.now16 }
          let s := s.setSl a { s.sl a with dibber := some d }
          if d.done.length < (if d.polarity then 2 else 12) then (if d.gap then s else s.wantLegs a 1)
          else match d.verdict (s.inUse (Obj.DibberMinContrast a)) with
            | some angle => s.dibberPass a angle
            | none => s.dibberFail a 5)

/-- DIBBER_GAP_EXPIRY (R269): after `DibberGap` the gap ends and the next pulse is applied. -/
def execDibberGapExpiry (a : Nat) (s : State) : Host.Outcome State Fault Refusal :=
  .next (match (s.sl a).dibber with
    | none => s
    | some d =>
      if d.gap ∧ d.since + s.natInUse (Obj.DibberGap a) * 163840 ≤ s.now16 then
        (s.setSl a { s.sl a with dibber := some { d with gap := false, since := s.now16 } }).wantLegs a 1
      else s)

/-! ### Loss of lock and recovery (R274–R279) -/

/-- R274: a cause of a loss of lock is present at a time. -/
def State.lockCause (s : State) (a time : Nat) : Bool :=
  let x := s.sl a
  let est := s.get (Obj.SlEstimator a)
  let missing := est == 2 && (match x.cross with
    | t :: _ => twiceTau x.cross != 0 && decide (3 * twiceTau x.cross < 4 * (time - t))
    | [] => false)
  let residual := est == 3 && x.resFirst.isSome && s.spansPeriods a x.speed x.resSpan 1 2
  let hfi := est == 1 && x.locked && (64 ≤ x.lossRun || 256 ≤ x.salRun)
  let fast := est == 1 && decide (3 * s.nat (Obj.SlHandoverSpeed a) < 2 * x.speed.natAbs)
  missing || residual || hfi || fast

/-- R274: the lock is lost. -/
def State.loseLock (s : State) (a time : Nat) : State :=
  let x := s.sl a
  if s.get (Obj.AxisState a) = axCasting then s.castFail a 9
  else if x.lost then s.recoveryFail a
  else
    let s := s.setBit (Obj.SlStatus a) 4
    let s := s.count (Obj.LockLossCount a) 32 1
    let s := s.raiseLasting fkLockLost a
    let s := s.setAxis a { s.axis a with closed := false, closing := false, followRun := 0 }
    let s := s.setSl a { x with lost := true, detected := time, lastE := s.bemf a x.speed, lastV := x.speed,
                                estimate := none, reacq := false, cross := [], resFirst := none }
    if !s.flagInUse (Obj.LockRecoveryEnable a) || x.riding then s.recoveryFail a else s

/-- LOCK_LOST (R274): on a sensorless axis, or an axis in ride-through, when a cause is present. -/
def execLockLost (a time : Nat) (s : State) : Host.Outcome State Fault Refusal :=
  let run := s.get (Obj.FbSource a) = 3 || (s.sl a).riding
  let cast := s.get (Obj.CastOnState a) = 4 || s.get (Obj.CastOnState a) = 5
  .next (if run && s.lockCause a time && ((s.axis a).closed || (s.sl a).lost || (cast && s.get (Obj.AxisState a) = axCasting))
    then s.loseLock a time else s)

/-- ASC_OR_FREEWHEEL (R275): at the update boundary after a detection. -/
def execAscOrFreewheel (a : Nat) (s : State) : Host.Outcome State Fault Refusal :=
  let x := s.sl a
  .next (if !x.lost then s
    else
      let s := s.put (Obj.BemfEstimate a) x.lastE
      if s.ascLevel a < x.lastE then
        let s := s.setSl a { x with asc := true }
        ((s.wantLegs a 2).setBit (Obj.SlStatus a) 6).put (Obj.SlEstimator a) 5
      else
        let s := (s.setSl a { x with asc := false }).wantLegs a 0
        if x.lastE < s.inUse (Obj.CastOnBemfThreshold a) then s.startHfi a else s.put (Obj.SlEstimator a) 4)

/-- R276: the steady-state angle φ of the short-circuit current.
(DESIGN CHOICE, safe: log entry 84.) -/
def State.shortAngle (s : State) (a : Nat) (v : Int) : Nat :=
  let w := radPerSec (s.elSpeed a v)
  let psi := s.get (Obj.FocFluxLinkage a)
  (Config.atan2 (-(w * s.get (Obj.FocRs a) * psi * 65536000)) (-(w * w * s.get (Obj.FocLq a) * psi))).toNat

/-- R276: two successive estimates agree. -/
def State.estimatesAgree (s : State) (a : Nat) (x : Nat × Nat × Int) (time angle : Nat) (v : Int) : Bool :=
  angleDiff angle (advance x.2.1 (s.elSpeed a x.2.2) ((time : Int) - x.1)) ≤ s.nat (Obj.SlReacqTolerance a) &&
    decide (20 * (v - x.2.2).natAbs ≤ x.2.2.natAbs)

/-- REACQUISITION_ESTIMATE (R276): the phasor's angle and the speed of its rotation at a time. In the short circuit that a failed
recovery keeps it gives E (R278). -/
def execReacquisitionEstimate (a time phasor : Nat) (speed : Int) (s : State) : Host.Outcome State Fault Refusal :=
  let x := s.sl a
  .next (if x.hold then (s.setSl a { x with lastE := s.bemf a speed }).put (Obj.BemfEstimate a) (s.bemf a speed)
    else if !x.asc then s
    else
      let angle := (((phasor : Int) - s.shortAngle a speed) % 4294967296).toNat
      let ok := match x.estimate with
        | some y => s.estimatesAgree a y time angle speed
        | none => false
      let x' := { x with estimate := some (time, angle, speed) }
      if !ok then s.setSl a x'
      else if x.lost then (s.setSl a x').reacquired a time angle speed
      else (s.setSl a { x' with asc := false, mAngle := angle, mSpeed := speed, mTime := time }).wantLegs a 1)

/-- R278: what the running move is re-planned as. -/
def State.recoveryPlan (s : State) (a : Nat) : Option PlanReq :=
  let r := s.axis a
  if s.get (Obj.AxisState a) = axStopping then some (.stop (if r.stopKey = 0 then Obj.StopDeceleration a else r.stopKey) true)
  else if s.get (Obj.AxisState a) ≠ axMoving then none
  else match r.move, r.gen.vel with
    | .velocity, some v => some (.velocity v)
    | .homing, some v => some (.homing v false)
    | .none, _ => none
    | _, _ => some (.move r.target)

/-- LOCK_RECOVERY (R278): at the tick edge after re-acquisition. In a bind-off the loops close onto the ramp in progress (R279). -/
def execLockRecovery (a : Nat) (s : State) : Host.Outcome State Fault Refusal :=
  let x := s.sl a
  .next (if !(x.lost && x.reacq) then s
    else
      let s := s.setFoc a { s.foc a with active := false, idFw := if x.asc then clampI (s.foc a).id (-(s.inUse (Obj.FwIdMax a))) 0 else 0 }
      let s := s.setSl a { x with lost := false, reacq := false, asc := false, estimate := none, locked := true, lossRun := 0, salRun := 0 }
      let s := s.wantLegs a 1
      let s := if x.speed.natAbs < s.nat (Obj.SlHandoverSpeed a) then s.put (Obj.SlEstimator a) 1 else s.useFast a x.angle
      let s := s.setActive fkLockLost a false
      let s := s.count (Obj.LockRecoveries a) 32 1
      if s.inRamp a then s.setAxis a { s.axis a with closed := true, closing := true }
      else
        let q := s.recoveryPlan a
        let s := s.closeLoop a
        match q with
        | some q => s.setAxis a { s.axis a with req := some q }
        | none => s)

/-- LOCK_RECOVERY_FAILED (R278): t_R passes without re-acquisition. -/
def execLockRecoveryFailed (a : Nat) (s : State) : Host.Outcome State Fault Refusal :=
  .next (if (s.sl a).lost && !(s.sl a).reacq then s.recoveryFail a else s)

/-! ### Ride-through (R280–R282) -/

/-- The estimator's position: the base plus the unwrapped electrical angle over p. -/
def State.estPosition (s : State) (a : Nat) : Int :=
  let x := s.sl a
  wrapS 64 (x.base + qdiv x.turns (s.get (Obj.FocPolePairs a)))

/-- At an edge the unwrapped electrical angle advances to the estimator's angle. -/
def State.unwrapAngle (s : State) (a : Nat) : State :=
  let x := s.sl a
  let d := match x.edgeAngle with
    | some y => wrapS 32 ((x.angle : Int) - y)
    | none => 0
  s.setSl a { x with turns := x.turns + d, edgeAngle := some x.angle }

/-- R280: an axis enters ride-through at an edge: the position continues from the last encoder position, extrapolated to the edge.
(DESIGN CHOICE, unsafe: log entry 85.) -/
def State.rideEnter (s : State) (a : Nat) : State :=
  let x := s.sl a
  let p := wrapS 64 (s.mechPosition a (s.nat Obj.TickEdgeTime) + (s.axis a).ref + s.get (Obj.RideThroughCorrection a))
  let s := s.setSl a { x with riding := true, absent := 0, base := p, turns := 0, edgeAngle := some x.angle }
  let s := s.setBit (Obj.SlStatus a) 7
  let s := s.count (Obj.RideThroughCount a) 32 1
  s.setAxis a { s.axis a with newSource := true }

/-- R280, R216: at an edge a local axis latches position and speed from the estimator. -/
def State.latchEstimator (s : State) (a : Nat) : State :=
  let s := s.slotLatch (axisSlot a + 3) (wrapS 64 (s.estPosition a + if (s.sl a).riding then 0 else (s.axis a).ref))
  (s.slotLatch (axisSlot a + 4) (s.sl a).speed).showSpeed a (s.sl a).speed

/-- The tick edge of the estimators of a local axis. -/
def State.slEdge (s : State) (a : Nat) : State :=
  let x := s.sl a
  let s := if s.flag (Obj.SlEstimator a) then
      (s.put (Obj.SlAngle a) x.angle).put (Obj.SlSpeed a) x.speed else s
  let lost := s.faultActive fkFeedbackLost a
  let s := s.setAxis a { s.axis a with newSource := (s.axis a).sourceDue, sourceDue := false }
  if s.get (Obj.FbSource a) = 3 then (s.unwrapAngle a).latchEstimator a
  else if x.riding then
    let s := (s.unwrapAngle a).latchEstimator a
    s.setSl a { s.sl a with absent := if lost then 0 else x.absent + 1 }
  else if lost && s.canRide a then (s.rideEnter a).latchEstimator a
  else s

/-- R282: the ride-through ends: the latch source goes back to the channel. -/
def State.rideEnd (s : State) (a : Nat) : State :=
  let c := s.nat (Obj.FbChannelNumber a)
  let est := s.estPosition a
  let s := s.put (Obj.RideThroughCorrection a) 0
  let d := wrapS 64 (est - s.countPos a (s.get (Obj.FbCount c)))
  let s := s.put (Obj.RideThroughCorrection a) d
  let s := s.fbUncertain c true
  let s := s.setSl a { s.sl a with riding := false, absent := 0 }
  s.setAxis a { s.axis a with sourceDue := true }

/-- RIDE_THROUGH_RETURN (R282): automatic return. -/
def execRideThroughReturn (a : Nat) (s : State) : Host.Outcome State Fault Refusal :=
  let x := s.sl a
  .next (if x.riding && decide (s.inUse (Obj.RideThroughReturn a) = 1) && decide (s.natInUse (Obj.RideThroughReturnTicks a) < x.absent)
    then s.rideEnd a else s)

/-- RETURN_FROM_RIDE_THROUGH (R282, R283): `SlCommand` 2. -/
def execReturnFromRideThrough (a : Nat) (s : State) : Host.Outcome State Fault Refusal :=
  .next (if s.faultActive fkFeedbackLost a then s.reply 0x0702
    else if (s.sl a).riding && decide (s.get (Obj.RideThroughReturn a) = 2) then (s.rideEnd a).done else s.done)

/-- ANGLE_TEST (R283): `SlCommand` 1.
(DEDUCED, unsafe: log entry 88.) -/
def execAngleTest (a : Nat) (s : State) : Host.Outcome State Fault Refusal :=
  .next (if s.get Obj.DeviceState ≠ devRun then s.reply 0x0701
    else if s.get (Obj.AxisState a) ≠ axStandby then s.reply 0x0703
    else
      let s := s.put (Obj.CastOnResult a) 0
      let s := s.castAcquire a
      (s.setSl a { s.sl a with test := true }).done)

/-! ### The estimators in a computation (R264, R266–R268) -/

/-- R266: the flux observer of one computation with the currents (α, β) and the voltages applied. The residual is in
Q2.30; the angle is that of the active flux.
(DESIGN CHOICE, unsafe: log entry 86.) -/
def State.fluxStep (s : State) (a : Nat) (iab : Int × Int) : State × Int :=
  let x := s.sl a
  let lq := s.get (Obj.FocLq a)
  let ld := s.get (Obj.FocLd a)
  let psi := qdiv (s.get (Obj.FocFluxLinkage a) * 65536) 1000000
  let la := x.psa - qdiv (lq * iab.1) 1000000000
  let lb := x.psb - qdiv (lq * iab.2) 1000000000
  let m := isqrt (la * la + lb * lb)
  let mr := psi + qdiv ((ld - lq) * (s.foc a).id) 1000000000
  let ap := (s.foc a).applied
  let v := clarke ap.1 ap.2.1 ap.2.2
  let tu : Int := (s.tNs / (s.nat (Obj.PwmRatio a) * s.nat (Obj.FocUpdatesPerPeriod a)) : Nat)
  let rs := s.get (Obj.FocRs a)
  let k := s.get (Obj.SlObserverGain a)
  let upd := fun (ps v i l : Int) =>
    ps + qdiv (tu * (v - qdiv (rs * i) 1000000)) 1000000000 + qdiv (tu * k * (mr - m) * l) (65536 * 1000000000 * max m 1)
  let s := s.setSl a { x with psa := upd x.psa v.1 iab.1 la, psb := upd x.psb v.2 iab.2 lb }
  (s, qdiv ((mr - m).natAbs * 1073741824) psi)

/-- R266: the run of computations above the residual limit. -/
def State.residual (s : State) (a time : Nat) (res : Int) : State :=
  let x := s.sl a
  let lim := s.get (Obj.SlResidualLimit a)
  if lim = 0 ∨ res ≤ lim then s.setSl a { x with resFirst := none, resSpan := 0 }
  else match x.resFirst with
    | some t => s.setSl a { x with resSpan := time - t }
    | none => s.setSl a { x with resFirst := some time, resSpan := 0 }

/-- R264, R267, R268: one computation with HFI in use. -/
def State.hfiStep (s : State) (a : Nat) (e : EstSample) : State :=
  let x := s.sl a
  let low := s.flagInUse (Obj.HfiMinSaliency a) && decide (e.saliency < s.inUse (Obj.HfiMinSaliency a))
  let s := s.put (Obj.HfiSaliency a) (satS 32 e.saliency)
  let x := { x with hfiCount := x.hfiCount + 1, angle := e.hfiAngle, speed := e.hfiSpeed,
                    lockRun := if e.hfiError ≤ s.nat (Obj.HfiLockTolerance a) then x.lockRun + 1 else 0,
                    lossRun := if s.nat (Obj.HfiLossTolerance a) < e.hfiError then x.lossRun + 1 else 0,
                    salRun := if low then x.salRun + 1 else 0 }
  if s.nat (Obj.SlHandoverSpeed a) ≤ e.hfiSpeed.natAbs then
    if angleDiff e.obsAngle e.hfiAngle ≤ s.nat (Obj.SlHandoverTolerance a) then
      (s.setSl a { x with tries := 0, angle := e.obsAngle, speed := e.obsSpeed }).useFast a e.obsAngle
    else if 16 ≤ x.tries + 1 then (s.setSl a { x with tries := 0 }).setBit (Obj.SlStatus a) 0
    else s.setSl a { x with tries := x.tries + 1 }
  else s.setSl a { x with tries := 0 }

/-- R264: one computation with the high-speed method in use. -/
def State.fastStep (s : State) (a : Nat) (e : EstSample) : State :=
  let x := { s.sl a with angle := e.obsAngle, speed := e.obsSpeed }
  if e.obsSpeed.natAbs + s.nat (Obj.SlHandoverHysteresis a) < s.nat (Obj.SlHandoverSpeed a) then
    (s.setSl a { x with hfiCount := 0, lockRun := 0, lossRun := 0, salRun := 0, locked := true }).put (Obj.SlEstimator a) 1
  else s.setSl a x

/-- The estimators run on the axis (R266, R270, R280, R283). -/
def State.estimates (s : State) (a : Nat) : Bool :=
  s.get (Obj.FbSource a) = 3 || s.flag (Obj.RideThroughEnable a) || s.flag (Obj.CastOnAlign a) && s.casts a || (s.sl a).test

/-- R265: with six-step the high-speed angle is interpolated from the latest zero crossing at 1/(6·τ) turn/s; with the flux observer
it comes with the command. -/
def State.fastSample (s : State) (a time : Nat) (e : EstSample) : EstSample :=
  if s.get (Obj.SlMethod a) = 1 then
    let x := s.sl a
    let t2 := twiceTau x.cross
    let v := if t2 = 0 then 0 else s.crossSpeed a (t2, 2) x.dirUp
    { e with obsSpeed := v,
             obsAngle := match x.cross with
               | t :: _ => advance x.zAngle (s.elSpeed a v) ((time : Int) - t)
               | [] => x.angle }
  else e

/-- R264–R268: the estimators of one computation.
(DESIGN CHOICE, unsafe: log entry 86.) -/
def State.slStep (s : State) (a time : Nat) (iab : Int × Int) (e : EstSample) : State :=
  if !s.estimates a then (if s.flag (Obj.SlEstimator a) then s.put (Obj.SlEstimator a) 0 else s)
  else
    let s := if s.get (Obj.SlMethod a) = 2 ∨ s.flag (Obj.RideThroughEnable a) = true then
        let p := s.fluxStep a iab
        p.1.residual a time p.2
      else s
    let est := s.get (Obj.SlEstimator a)
    let s := if est = 0 then
        if e.obsSpeed.natAbs < s.nat (Obj.SlHandoverSpeed a) then s.put (Obj.SlEstimator a) 1 else s.useFast a e.obsAngle
      else s
    let s := if est = 0 ∨ est = 1 then s.hfiStep a e else if est = 2 ∨ est = 3 then s.fastStep a e else s
    s.put (Obj.BemfEstimate a) (sat32 (s.bemf a (s.sl a).speed))

/-- R271: in state 4 the estimator is compared with the measured angle. -/
def State.syncStep (s : State) (a time : Nat) (e : EstSample) : State :=
  let x := s.sl a
  if s.get (Obj.CastOnState a) ≠ 4 ∨ x.asc = true ∨ !s.casts a then s
  else
    let low := x.mSpeed.natAbs < s.nat (Obj.SlHandoverSpeed a)
    let est := if low then e.hfiAngle else e.obsAngle
    let meas := advance x.mAngle (s.elSpeed a x.mSpeed) ((time : Int) - x.mTime)
    if angleDiff est meas ≤ s.nat (Obj.SlHandoverTolerance a) then
      let t0 := x.agreeAt.getD time
      let s := s.setSl a { x with agreeAt := some t0 }
      if s.spansPeriods a x.mSpeed (time - t0) 1 2 then
        (if low then s.put (Obj.SlEstimator a) 1 else s.useFast a est).castAcquired a est x.mSpeed
      else s
    else s.setSl a { x with agreeAt := none }

/-! ### The field computation (R245, R248) -/

/-- R245, R270: `FocAngleOffset`, or what an alignment put in its place. -/
def State.angleOffset (s : State) (a : Nat) : Int :=
  match (s.sl a).offset with
  | some o => o
  | none => s.get (Obj.FocAngleOffset a)

/-- R245: the electrical angle at the sample centre, the electrical speed p·v, and whether the source is valid.
(DESIGN CHOICE, unsafe: log entry 85.) -/
def State.focAngle (s : State) (a time : Nat) : Nat × Int × Bool :=
  let x := s.sl a
  let src := s.get (Obj.FocAngleSource a)
  let p := s.get (Obj.FocPolePairs a)
  let wrap := fun (y : Int) => (y % 4294967296).toNat
  if src = 2 ∨ x.riding = true ∨ s.castDrives a = true then (x.angle, s.elSpeed a x.speed, !x.lost)
  else if src = 1 then
    let c := s.nat (Obj.FbChannelNumber a)
    let v := s.get (Obj.SpeedEstimate a)
    let pos := s.mechPosition a time
    (wrap (p * pos + s.angleOffset a), p * v, decide (s.get (Obj.FbSource a) = 1 ∧ c < 16) && s.nat (Obj.FbType c) != 0 && !s.fbLossCause c)
  else
    let sl := s.nat (Obj.FocAngleSlot a)
    let v := s.slotPrev sl
    let d := v - ((s.foc a).slotPrev.getD v)
    (wrap (v + qdiv (d * ((time : Int) - s.nat Obj.TickEdgeTime)) s.tNs), qdiv (d * 1000000000) (65536 * s.tNs), sl != unwired)

/-- R267: the injected d voltage of a computation: ±`HfiAmplitude`, the sign changing every `HfiDivider` computations.
(DESIGN CHOICE, unsafe: log entry 85.) -/
def State.injection (s : State) (a : Nat) : Int :=
  if s.get (Obj.SlEstimator a) = 1 ∧ s.flag (Obj.HfiEnable a) = true then
    (if (s.sl a).hfiCount / max 1 (s.nat (Obj.HfiDivider a)) % 2 = 0 then s.get (Obj.HfiAmplitude a) else -(s.get (Obj.HfiAmplitude a)))
  else 0

/-- The legs that the pipeline asks for: switching while active, two of them in six-step, off while inactive, and as they stand in
ASC, shorted standstill and dibber pulses (R256, R275, R129, R265, R269). After a failed recovery ASC ends when E is no longer
above its threshold (R278). -/
def State.pipelineLegs (s : State) (a : Nat) (active : Bool) : State :=
  let x := s.sl a
  if x.asc || s.bit (Obj.AxisLimitState a) 2 || x.dibber.isSome then s
  else if x.hold && decide (s.ascLevel a < x.lastE) then s
  else
    let s := if x.hold then s.setSl a { x with hold := false } else s
    if active && s.sixStep a then s.sectorLegs a x.sector else s.wantLegs a (if active then 1 else 0)

/-- R248: what an active or inactive computation leaves in the pipeline and the generator.
(DESIGN CHOICE, unsafe: log entry 85.) -/
def State.focUpdate (s : State) (a time : Nat) (iab : Int × Int) (vdc : Int) (th : Nat × Int × Bool) : State :=
  let r := s.foc a
  let active := s.focActive a && !(s.sl a).asc
  let sp := s.focSetpoint a
  let o := s.focCompute a iab vdc th.1 th.2.1 sp (s.injection a)
  let r' := { r with id := o.id, iq := o.iq, vdc := vdc, theta := th.1, time := time, j := r.j + 1, iqSum := r.iqSum + o.iq, active := active }
  if active then
    let s := s.setFoc a { r' with vd := o.vd, vq := o.vq, ad := o.ad, aq := o.aq, idFw := o.idFw, used := sp, applied := o.applied,
                                  kp := some (s.get (Obj.FocKpD a), s.get (Obj.FocKpQ a)) }
    let s := s.writeWords a o.words
    let s := s.setBitIf o.currentLimited (Obj.FocStatus a) 0
    let s := s.setBitIf o.voltageLimited (Obj.FocStatus a) 1
    let s := s.setBitIf o.fwLimit (Obj.FocStatus a) 2
    let s := s.setBitIf o.dutyClamped (Obj.FocStatus a) 6
    s.pipelineLegs a true
  else
    let w := s.idleWord a
    let s := s.setFoc a { r' with vd := 0, vq := 0, ad := 0, aq := 0, idFw := 0, used := sp, applied := (0, 0, 0), kp := none }
    (s.writeWords a (w, w, w)).pipelineLegs a false

/-- R237: the overrange flags of the samples. -/
def State.focOverrange (s : State) (a : Nat) (raw : List Int) : Bool :=
  (if s.get (Obj.CurInputW a) = 0xFF then raw.take 2 else raw).any fun x => overrange (s.curFraction a x)

/-- R248: one computation of a pipeline. -/
def State.focRun (s : State) (a time : Nat) (raw : List Int) (dc : Int) (est : EstSample) : State :=
  let i3 := s.phaseCurrents a raw
  let iab := clarke i3.1 i3.2.1 i3.2.2
  let vdc := s.focVdc a dc
  let s := s.setBitIf (s.focOverrange a raw) (Obj.FocStatus a) 4
  let s := if s.nat (Obj.DcLinkSource a) < 16 then s.put (Obj.GenValue (s.nat (Obj.DcLinkSource a))) vdc else s
  let est := s.fastSample a time est
  let s := s.slStep a time iab est
  let th := s.focAngle a time
  let s := s.setBitIf (!th.2.2) (Obj.FocStatus a) 8
  let s := s.focUpdate a time iab vdc th
  let s := s.focSumCheck a (i3.1 + i3.2.1 + i3.2.2)
  let s := s.focDcCheck a vdc
  let s := s.syncStep a time est
  if s.flag (Obj.PvsScan a) then s.each [0, 1, 2] fun s f => s.pvsRequest a f else s

/-- FOC_COMPUTATION (R248): the raw filter outputs of the phases sampled at `time`, the raw output of the DC-link input
and the estimators' samples. -/
def execFocComputation (a time : Nat) (raw : List Int) (dc : Int) (est : EstSample) (s : State) :
    Host.Outcome State Fault Refusal := .next (s.atEdge fun s => s.focRun a time raw dc est)

end Sys2Proof.Machine
end

