-- ==== Sys2Proof/Machine/Motion.lean ====
section
/-! DEFINITION. Axis commands, the profile step, stops, limits, standstill, brakes and homing
(spec/04_profiles_homing.md). Bind-off and paths are in Machine/Stops.lean. -/

namespace Sys2Proof.Machine

/-! ### Limits of a plan -/

/-- The axes whose limits bound a stop: the members of the gang, or the axis alone (R38). -/
def State.stopMembers (s : State) (a : Nat) : List Nat :=
  match s.gangOf a with
  | some g => s.gangMembers g
  | none => [a]

/-- The least value of an object of an axis over the members of its gang; `key` is the object of axis `a`. -/
def State.leastOver (s : State) (a key : Nat) : Int :=
  (s.stopMembers a).foldl (fun m x => min m (s.get (key - Obj.AxisCommand a + Obj.AxisCommand x))) (s.get key)

/-- The limits of a move of an axis in its mode (R117): mode 2 is jerk-limited, every other runs as a trapezoid. -/
def State.moveLimits (s : State) (a : Nat) : Limits :=
  { mode := if (s.axis a).mode = 2 then 2 else 1
    v := velTick s.tNs (s.get (Obj.ProfileVelocity a))
    a := accTick s.tNs (s.get (Obj.ProfileAcceleration a))
    d := accTick s.tNs (s.get (Obj.ProfileDeceleration a))
    j := jerkTick s.tNs (s.get (Obj.ProfileJerk a)) }

/-- The limits of a stop ramp on the deceleration object `key` (R125, R38). -/
def State.stopLimits (s : State) (a key : Nat) : Limits :=
  { s.moveLimits a with
    d := accTick s.tNs (s.leastOver a key)
    j := jerkTick s.tNs (s.leastOver a (Obj.ProfileJerk a)) }

/-- R142: the limits of a homing run. -/
def State.homeLimits (s : State) (a : Nat) (quick : Bool) : Limits :=
  { s.moveLimits a with
    a := accTick s.tNs (s.get (Obj.HomingAcceleration a))
    d := accTick s.tNs (s.get (if quick then Obj.QuickStopDeceleration a else Obj.HomingAcceleration a)) }

/-- A generator that starts a plan at a setpoint state. -/
def Gen.start (st : Int × Int × Int) (segs : List Seg) (vel : Option Int) : Gen :=
  { segs := segs, p0 := st.1, v0 := st.2.1, vel := vel, p := st.1, v := st.2.1, a := st.2.2, done := segs.isEmpty && vel.isNone }

/-- A generator at rest. -/
def Gen.rest (p : Int) : Gen := { p := p, p0 := p }

/-! ### Segment tables (R111–R115) -/

/-- R115: |dp|, |A| and |B| of every segment are at most 2^62. -/
def segsFit (tNs : Nat) : List Seg → Int → Int → Bool
  | [], _, _ => true
  | x :: l, p, v =>
    let lim : Nat := 4611686018427387904
    let tan := fun (y : Int) => (qdiv (y * 65536 * (x.dur * tNs : Nat)) 1000000000).natAbs
    decide ((x.p1 - p).natAbs ≤ lim ∧ tan v ≤ lim ∧ tan x.v1 ≤ lim) && segsFit tNs l x.p1 x.v1

/-! ### The setpoint queue (R122–R124) -/

/-- R122: the queue's length in its object. -/
def State.showQueue (s : State) (a : Nat) : State := s.put (Obj.SetpointQueueOccupancy a) ((s.axis a).queue.length : Nat)

/-- R123: every queued entry for an edge beyond `e` is flushed, and the generator stands as it did at the last entry kept. -/
def State.flushBeyond (s : State) (a e : Nat) : State :=
  let r := s.axis a
  let keep := r.queue.filter fun x => x.edge ≤ e
  let gone := r.queue.length - keep.length
  let g := match keep.getLast? with
    | some x => x.gen
    | none => if gone = 0 then r.gen else r.lastGen
  ((s.setAxis a { r with queue := keep, gen := g }).count (Obj.SetpointFlushed a) 64 gone).showQueue a

/-- R116: a move is complete: the axis holds the end of the last segment. What is left of a stopped move stays. A graft
follower stays in Moving while it is engaged (R155).
(DEDUCED, unsafe: log entry 65.) -/
def State.moveDone (s : State) (a : Nat) : State :=
  let st := s.get (Obj.AxisState a)
  if st = axMoving ∨ st = axStopping then
    let r := s.axis a
    let m := if r.move = .target ∧ s.get (Obj.MoveRemaining a) ≠ 0 then MoveKind.target else .none
    let s := s.setAxis a { r with move := m, stopKey := 0, quick := false, overridden := false, softStop := false, standRun := 0 }
    let s := match s.gangOf a with
      | some g => if s.get (Obj.GangState g) = 2 then s.put (Obj.GangState g) 1 else s
      | none => s
    if s.flag (Obj.AxisGraftEngaged a) then s else s.put (Obj.AxisState a) axHolding
  else s

/-- R127: what a consumed entry brings to the ledger: `d` is the change of setpoint position and `p` the new one. -/
def State.ledgerMove (s : State) (a : Nat) (d p : Int) : State :=
  match (s.axis a).move with
  | .target => (s.addI64 (Obj.MoveExecuted a) d).put (Obj.MoveRemaining a) (wrapS 64 ((s.axis a).target - p))
  | .velocity => (s.addI64 (Obj.MoveCommanded a) d).addI64 (Obj.MoveExecuted a) d
  | _ => s

/-- R110: the objects that report the setpoint of the latest consumed entry. -/
def State.showSetpoint (s : State) (a : Nat) : State :=
  let r := s.axis a
  ((s.put (Obj.AxisSetpointPosition a) (s.shownPosition a r.sp)).put (Obj.AxisSetpointVelocity a) r.spV).put
    (Obj.AxisSetpointAcceleration a) r.spA

/-- R124, R127: an entry is consumed: the ledger, and the setpoint that the axis and the members of a gang it leads show (R36). -/
def State.applyEntry (s : State) (a : Nat) (e : Entry) : State :=
  let s := s.ledgerMove a (e.gen.p - (s.axis a).sp) e.gen.p
  let s := (s.setAxis a { s.axis a with sp := e.gen.p, spV := e.gen.v, spA := e.gen.a }).showSetpoint a
  match s.gangOf a with
  | some g =>
    if s.nat (Obj.GangLeader g) = a then
      s.each ((s.gangMembers g).filter fun x => x != a && (s.axis x).closed && !(s.axis x).closing) fun s x =>
        (s.setAxis x { s.axis x with sp := e.gen.p, spV := e.gen.v, spA := e.gen.a }).showSetpoint x
    else s
  | none => s

/-- R124: at edge `m` the entry for that edge leaves the queue, Consumed when a consumer took it and Flushed otherwise;
a virtual axis has its own consumer (R147). With the last entry the move is complete, unless another plan waits.
(DEDUCED, unsafe: log entry 63.) -/
def State.consumeEdge (s : State) (m a : Nat) : State :=
  let r := s.axis a
  match r.queue with
  | [] => s
  | e :: rest =>
    if e.edge ≠ m then s
    else
      let s := (s.setAxis a { r with queue := rest, last := (e.gen.p, e.gen.v, e.gen.a), lastGen := e.gen }).showQueue a
      let own := s.flag (Obj.AxisVirtual a) && r.closed
      let s := if e.taken || !own then s else s.applyEntry a e
      if e.taken || own then
        let s := s.count (Obj.SetpointConsumed a) 64 1
        if e.gen.done && r.req.isNone then s.moveDone a else s
      else s.count (Obj.SetpointFlushed a) 64 1

/-! ### Starting a plan (R117–R128) -/

/-- Put a plan in force from the state of the entry for the latest edge. -/
def State.runPlan (s : State) (a : Nat) (segs : List Seg) (vel : Option Int) : State :=
  let r := s.axis a
  let g := Gen.start r.last segs vel
  let s := s.setAxis a { r with gen := g, lastGen := g, softStop := false }
  if g.done then s.moveDone a else s

/-- R125: a stop ramp on a deceleration object; where it would carry the axis past the target, the move goes on on its
own plan. -/
def State.planStopRamp (s : State) (a key : Nat) (keep : Bool) : State :=
  let r := s.axis a
  let sg := planStop (s.stopLimits a key) s.tNs r.last.1 r.last.2.1 r.last.2.2
  let stop := segsEnd sg r.last.1
  let past := (r.target - r.last.1 > 0 ∧ stop > r.target) ∨ (r.target - r.last.1 < 0 ∧ stop < r.target)
  if keep = true ∧ r.move = .target ∧ past then s
  else
    let s := s.setAxis a { s.axis a with stopKey := key }
    let s := if keep then s else
      (s.abandonRemaining a).setAxis a { s.axis a with move := if r.move = .velocity then .velocity else .none }
    s.runPlan a sg none

/-- R118: the running plan decelerates: velocity and acceleration point in opposite directions. -/
def decelerating (st : Int × Int × Int) : Bool := decide (st.2.1 * st.2.2 < 0)

/-- R128: a limit changed in mid-ramp: the remainder is re-planned, or the running ramp toward the target goes on under the needed
value. An axis that moves away from its target is re-planned. -/
def State.replan (s : State) (a : Nat) : State :=
  let r := s.axis a
  let p := r.last.1
  let v := r.last.2.1
  let ac := r.last.2.2
  if r.stopKey ≠ 0 then s.runPlan a (planStop (s.stopLimits a r.stopKey) s.tNs p v ac) none
  else match r.move with
    | .target =>
      let l := s.moveLimits a
      let fwd := decide (0 < v)
      let dist : ℚ := if fwd then (r.target - p : Int) else (p - r.target : Int)
      let sgn : ℚ := if fwd then 1 else -1
      if r.mode = 3 ∨ r.gen.done then s
      else if decelerating r.last = true ∧ 0 < dist ∧ dist < stopDist l (sgn * velTick s.tNs v) (sgn * accTick s.tNs ac) then
        (s.setBit (Obj.AxisStatus a) 0).setAxis a { r with overridden := true }
      else (s.setAxis a { r with overridden := false }).runPlan a (planMove l s.tNs p v ac r.target) none
    | .velocity =>
      match r.gen.vel with
      | some vt => if r.gen.segs.isEmpty then s else s.runPlan a (planVelocity (s.moveLimits a) s.tNs p v ac vt) (some vt)
      | none => s
    | _ => s

/-- A plan to a target from the state of the entry for the latest edge. -/
def State.planTo (s : State) (a : Nat) (target : Int) : State :=
  let r := s.axis a
  let s := s.setAxis a { r with move := .target, target := target, stopKey := 0 }
  s.runPlan a (planMove (s.moveLimits a) s.tNs r.last.1 r.last.2.1 r.last.2.2 target) none

/-- R120: a velocity move, its magnitude clamped to `ProfileVelocity`. -/
def State.planVel (s : State) (a : Nat) (v : Int) : State :=
  let r := s.axis a
  let lim := s.get (Obj.ProfileVelocity a)
  let vt := clampI v (-lim) lim
  let s := s.setAxis a { r with move := .velocity, stopKey := 0 }
  s.runPlan a (planVelocity (s.moveLimits a) s.tNs r.last.1 r.last.2.1 r.last.2.2 vt) (some vt)

/-! ### The time scale (R116, R134, R139) -/

/-- R134, R136: the time scale of a bind-off for edge `m`: λ and its rate, if the axis runs with a ramp.
(DESIGN CHOICE, unsafe: log entry 57; DEDUCED, unsafe: log entry 62.) -/
def State.bindScale (s : State) (a m : Nat) : Int × Int :=
  match (s.groupsOf a).find? fun b => (s.bind b).phase == 2 with
  | some b =>
    let x := s.bind b
    if m < x.joined ∨ m < x.start then (1073741824, 0) else curveAt s.tNs x.r x.q x.tb (m - x.start)
  | none => (1073741824, 0)

/-- The path group an axis is a member of. -/
def State.pathOf (s : State) (a : Nat) : Option Nat :=
  (List.range 8).find? fun p => (List.range 6).any fun i => s.nat (Obj.PathAxis p i) == a

/-- R139: the time scale of a path for edge `m`. -/
def State.pathScaleAt (s : State) (p m : Nat) : Int × Int :=
  let x := s.path p
  if !x.ramping then (s.get (Obj.PathScale p), 0)
  else
    let c := if m < x.start then (1073741824, 0) else curveAt s.tNs x.r x.q x.tb (m - x.start)
    if x.falling then (rsh (x.base * c.1) 30, rsh (x.base * c.2) 30)
    else (1073741824 - rsh ((1073741824 - x.base) * c.1) 30, -(rsh ((1073741824 - x.base) * c.2) 30))

/-- R116: σ and its rate for edge `m`; an axis that a limit took out of a ramp runs on its own (R141). -/
def State.sigma (s : State) (a m : Nat) : Int × Int :=
  if (s.axis a).ownScale then (1073741824, 0) else
  let b := s.bindScale a m
  let c := if s.get (Obj.AxisState a) = axCasting then (s.brakeScale a, 0)
    else match s.pathOf a with
      | some p => if s.get (Obj.PathState p) = 0 ∨ s.get (Obj.PathState p) = 4 then (1073741824, 0) else s.pathScaleAt p m
      | none => (1073741824, 0)
  (rsh (b.1 * c.1) 30, rsh (b.2 * c.1 + b.1 * c.2) 30)

/-! ### Leaving a graft (R157, R158) -/

/-- R157: the follower's own profile takes the chain's output state as a velocity move with the output velocity as its
target, from the entry for the next edge on. -/
def State.ownFromChain (s : State) (a : Nat) : State :=
  let g := s.nat (Obj.AxisGraft a)
  let o := s.graft g
  let lim := s.get (Obj.ProfileVelocity a)
  let vt := clampI o.vo (-lim) lim
  let base := Gen.start (o.po, o.vo, o.ao) (planVelocity (s.moveLimits a) s.tNs o.po o.vo o.ao vt) (some vt)
  let s := s.flushBeyond a 0
  let sg := s.sigma a (s.tick + 1)
  let e := if o.ran then base else base.step s.tNs sg.1 sg.2
  let s := s.count (Obj.SetpointWritten a) 64 1
  (s.setAxis a { s.axis a with gen := e, lastGen := base, last := (o.po, o.vo, o.ao), sp := o.po, spV := o.vo, spA := o.ao,
                               move := .velocity, queue := [⟨s.tick + 1, e, o.ran⟩] }).showQueue a

/-- R158: a follower that leaves its graft during a bind-off ramp of a group it belongs to publishes its own v_i at the next edge.
(DESIGN CHOICE, unsafe: log entry 57.) -/
def State.rejoinRamps (s : State) (a : Nat) : State :=
  s.each ((s.groupsOf a).filter fun b => (s.bind b).phase == 2) fun s b =>
    s.setBind b { s.bind b with rejoin := a :: (s.bind b).rejoin.filter fun x => x != a }

/-- R157: the graft detaches its follower.
(DESIGN CHOICE, unsafe: log entry 64.) -/
def State.graftDetach (s : State) (a : Nat) : State :=
  if s.flag (Obj.AxisGraftEngaged a) then
    let g := s.nat (Obj.AxisGraft a)
    let s := s.ownFromChain a
    let s := s.put (Obj.GraftState g) 0
    let s := s.put (Obj.AxisGraftEngaged a) 0
    let s := s.put (Obj.GraftWeight g) 0
    (s.rejoinRamps a).setBit (Obj.GraftStatus g) 1
  else s

/-- R38: a stop asked of a leader that follows a graft detaches it first: the gang stops on the leader's profile. -/
def State.stopDetach (s : State) (a : Nat) : State :=
  match (s.axis a).req with
  | some (.stop ..) => s.graftDetach a
  | _ => s

/-- R127: a segment table is commanded at its start, or its target follows the state it starts from. -/
def State.commandTable (s : State) (a : Nat) (target : Option Int) (p t : Int) : State :=
  match target with
  | none => (s.commandMove a p t .replan).setAxis a { (s.commandMove a p t .replan).axis a with req := none }
  | some old =>
    let s := s.addI64 (Obj.MoveCommanded a) (t - old)
    s.put (Obj.MoveRemaining a) (wrapS 64 (s.get (Obj.MoveRemaining a) + (t - old)))

/-- R123: the plan that waits takes effect at the latest edge.
(DESIGN CHOICE, unsafe: log entry 142.) -/
def State.planApply (s : State) (a : Nat) : State :=
  let s := s.stopDetach a
  let r := s.axis a
  match r.req with
  | none => s
  | some q =>
    let s := s.flushBeyond a s.tick
    let s := s.setAxis a { s.axis a with req := none, byCommand := false }
    let s := s.put (Obj.MoveStartEdge a) (s.tick + 1 : Nat)
    match q with
    | .move t => s.planTo a t
    | .asked ab x =>
      let t := s.targetFrom a r.last.1 ab x
      (s.commandMove a r.last.1 t (.move t)).setAxis a { s.axis a with req := none } |>.planTo a t
    | .table o =>
      let t := segsEnd (s.tableSegs a r.last.1) r.last.1
      let s := s.commandTable a o r.last.1 t
      let s := s.setAxis a { s.axis a with move := .target, target := t, stopKey := 0 }
      s.runPlan a (s.tableSegs a r.last.1) none
    | .segs t l =>
      let s := s.setAxis a { s.axis a with move := .target, target := t, stopKey := 0 }
      s.runPlan a l none
    | .velocity v => s.planVel a v
    | .resume => s.planTo a r.target
    | .stop key keep => s.planStopRamp a key keep
    | .replan => s.replan a
    | .homing v quick =>
      let s := s.setAxis a { s.axis a with move := .homing, stopKey := 0 }
      s.runPlan a (planVelocity (s.homeLimits a quick) s.tNs r.last.1 r.last.2.1 r.last.2.2 v) (some v)

/-- A plan asked for inside the device takes effect at the edge itself. -/
def State.planEdge (s : State) (a : Nat) : State :=
  let r := s.axis a
  if r.req.isSome && !r.byCommand && !r.closing then s.planApply a else s

/-- PLAN_START (R123): at the first edge after a command completes, its plan starts. -/
def execPlanStart (a : Nat) (s : State) : Host.Outcome State Fault Refusal :=
  .next (if (s.axis a).byCommand && (s.axis a).closed && !(s.axis a).closing then s.planApply a else s)

/-! ### The profile step (R113–R122, R140) -/

/-- R140: a velocity move that comes too near a software limit gets a stop ramp that ends at the limit; where none fits,
it stops with the deceleration needed and `SoftLimitHit` is set.
(DESIGN CHOICE, unsafe: log entry 54.) -/
def State.softLimitStep (s : State) (a : Nat) : State :=
  let r := s.axis a
  let g := r.gen
  match g.vel with
  | none => s
  | some vt =>
    if !s.flag (Obj.SoftLimitEnable a) || r.move != .velocity || r.softStop || g.v == 0 || vt * g.v < 0 then s
    else
      let l := s.moveLimits a
      let up := decide (0 < g.v)
      let lim := s.get (if up then Obj.SoftLimitUpper a else Obj.SoftLimitLower a)
      let dist : ℚ := if up then (lim - g.p : Int) else (g.p - lim : Int)
      let v := abs (velTick s.tNs g.v)
      let ac := accTick s.tNs g.a * (if up then 1 else -1)
      if stopDist l v ac ≤ dist - v then s
      else
        let fits := decide (stopDist l v ac ≤ dist)
        let l' : Limits := if fits then l else { l with mode := 1, d := if dist ≤ 0 then accTick s.tNs (s.get (Obj.QuickStopDeceleration a)) else v * v / (2 * dist) }
        let sg := if fits then planMove l s.tNs g.p g.v g.a lim
          else if dist ≤ 0 then planStop l' s.tNs g.p g.v g.a
          else fixEnd g.p lim (planStop l' s.tNs g.p g.v g.a)
        let s := s.setBitIf (!fits) (Obj.AxisStatus a) 3
        let s := s.setAxis a { r with gen := Gen.start (g.p, g.v, g.a) sg none, softStop := true }
        s.put (Obj.AxisState a) axStopping

/-- R122: write the entry for the edge that follows the queue. -/
def State.writeEntry (s : State) (a m : Nat) : State :=
  let s := s.softLimitStep a
  let sg := s.sigma a m
  let r := s.axis a
  let g := r.gen.step s.tNs sg.1 sg.2
  let s := s.setAxis a { r with gen := g, queue := r.queue ++ [⟨m, g, false⟩] }
  (s.count (Obj.SetpointWritten a) 64 1).showQueue a

/-- R122: how many entries this tick writes: the entry due, and one more while the run-ahead is not reached.
(DESIGN CHOICE, unsafe: log entry 157.) -/
def State.writeEntries (s : State) (a : Nat) : Nat → State
  | 0 => s
  | n + 1 =>
    let r := s.axis a
    let next := match r.queue.getLast? with
      | some e => e.edge + 1
      | none => s.tick + 1
    if next ≤ s.tick + 1 + s.nat (Obj.ProfileRunAhead a) ∧ r.queue.length < 64 then (s.writeEntry a next).writeEntries a n
    else s

/-- R196: in the tracking tick the profile step flushes its queue and writes the seeded setpoint. -/
def State.writeSeed (s : State) (a : Nat) : State :=
  let s := s.flushBeyond a 0
  let r := s.axis a
  let g := if s.get (Obj.CastOnState a) = 5 then r.gen else { p := r.sp, p0 := r.sp, v := r.spV, done := false }
  let s := s.setAxis a { r with gen := { g with done := r.gen.done }, queue := [⟨s.tick + 1, g, false⟩] }
  (s.count (Obj.SetpointWritten a) 64 1).showQueue a

/-- R141: a limit stop of an axis that runs in a ramp of its group or its path leaves the ramp. -/
def State.leaveRamp (s : State) (a : Nat) : State :=
  let l := s.leaderOf a
  s.setAxis l { s.axis l with ownScale := true }

/-- R38: the profile of an axis runs while it is loop-closed, and a gang leader's while any member is. -/
def State.profileRuns (s : State) (a : Nat) : Bool :=
  (s.axis a).closed || (match s.gangOf a with
    | some g => s.nat (Obj.GangLeader g) == a && (s.gangMembers g).any fun x => (s.axis x).closed
    | none => false)

/-- R124: a consumer takes the entry for the next edge of an axis; false when the queue holds none (R40). -/
def State.takeEntry (s : State) (a : Nat) : Bool × State :=
  let r := s.axis a
  match r.queue.find? fun e => e.edge == s.tick + 1 with
  | none => (false, s)
  | some e =>
    if e.taken then (true, s)
    else (true, (s.setAxis a { r with queue := r.queue.map fun e => if e.edge = s.tick + 1 then { e with taken := true } else e }).applyEntry a e)

/-- PROFILE_STEP (R113, R122): the queue is filled, and the outputs carry the entry for the next edge, which a virtual axis
consumes (R147). The profile step of a gang member that does not lead is ignored (R36). -/
def State.profileStep (s : State) (d : Stitch) : State :=
  let a := s.recU d 0 1
  if !s.profileRuns a || s.leaderOf a != a then s
  else
    let s := if (s.axis a).closing then s.writeSeed a else s.writeEntries a 2
    let s := match (s.axis a).queue.find? fun e => e.edge == s.tick + 1 with
      | some e => ((s.slotWrite (d.output 0) e.gen.p).slotWrite (d.output 1) e.gen.v).slotWrite (d.output 2) e.gen.a
      | none => s
    if s.flag (Obj.AxisVirtual a) && (s.axis a).closed then (s.takeEntry a).2 else s

/-! ### Limit inputs (R141) -/

/-- A filtered field input as it stood at the latest edge. -/
def State.finAt (s : State) (i : Nat) : Bool := i < 16 && s.bit Obj.FinImage i

/-- R142: the directions of a homing method: search, creep, index. -/
def homeDirs (m : Nat) : Int × Int × Int :=
  if m = 1 then (1, -1, 0) else if m = 2 then (-1, 1, 0) else if m = 3 then (-1, 1, 0) else if m = 4 then (1, -1, 0)
  else if m = 5 then (0, 0, 1) else if m = 6 then (0, 0, -1) else if m = 7 then (1, -1, -1) else (0, 0, 0)

/-- R142: the reference input of a homing method. -/
def State.homeInput (s : State) (a : Nat) : Nat :=
  let m := s.nat (Obj.HomingMethod a)
  if m = 3 then s.nat (Obj.LimitInputNegative a) else if m = 4 then s.nat (Obj.LimitInputPositive a)
  else s.nat (Obj.HomeInput a)

/-- R143: homing runs and uses this limit as its reference. -/
def State.limitIsReference (s : State) (a : Nat) (pos : Bool) : Bool :=
  (s.axis a).home.phase != 0 && s.get (Obj.HomingMethod a) == (if pos then 4 else 3)

/-- R143: homing has failed. -/
def State.homeFail (s : State) (a : Nat) : State :=
  let s := (s.put (Obj.HomingStatus a) 3).setBit (Obj.AxisStatus a) 1
  let s := s.askStop a (Obj.QuickStopDeceleration a) false
  s.setAxis a { s.axis a with home := {} }

/-- R143: homing turns around once.
(DESIGN CHOICE, unsafe: log entry 52.) -/
def State.homeReverse (s : State) (a : Nat) : State :=
  let dir := (homeDirs (s.nat (Obj.HomingMethod a))).1
  let r := s.axis a
  s.setAxis a { r with home := { r.home with phase := 1, reversed := true },
                       req := some (.homing (-dir * s.get (Obj.HomingSearchVelocity a)) true), byCommand := false }

/-- R141: a limit acts: it latches, and the axis stops on `QuickStopDeceleration` with its remaining distance abandoned.
In the search of R143 the first limit turns the search around.
(DESIGN CHOICE, unsafe: log entry 53.) -/
def State.limitAct (s : State) (a : Nat) (pos : Bool) : State :=
  let r := s.axis a
  let s := s.setAxis a (if pos then { r with limPos := true, latchPosAt := r.sp } else { r with limNeg := true, latchNegAt := r.sp })
  let s := (s.setBit (Obj.AxisLimitState a) (if pos then 1 else 0)).setBit (Obj.AxisStatus a) 2
  let h := r.home
  if h.phase = 0 ∨ h.phase = 6 then
    ((((s.graftDetach a).abandonRemaining a).askStop a (Obj.QuickStopDeceleration a) false).leaveRamp a)
  else if h.phase = 1 ∧ h.reversed = false then s.homeReverse a
  else s.homeFail a

/-- R141: one limit input at a tick edge.
(DESIGN CHOICE, unsafe: log entry 53.) -/
def State.limitInput (s : State) (a : Nat) (pos : Bool) : State :=
  let r := s.axis a
  let on := s.finAt (s.nat (if pos then Obj.LimitInputPositive a else Obj.LimitInputNegative a))
  let latched := if pos then r.limPos else r.limNeg
  let was := if pos then r.inPos else r.inNeg
  let s := s.setAxis a (if pos then { r with inPos := on } else { r with inNeg := on })
  let v := s.cmdVel a
  if latched then
    let s := if on = was then s else (s.count (Obj.LimitChatterCount a) 32 1).setBit (Obj.AxisStatus a) 4
    let away := if pos then r.latchPosAt - r.sp else r.sp - r.latchNegAt
    if !on && decide (s.get (Obj.LimitHysteresis a) ≤ away) then
      (s.setAxis a (if pos then { s.axis a with limPos := false } else { s.axis a with limNeg := false })).clrBit
        (Obj.AxisLimitState a) (if pos then 1 else 0)
    else s
  else if on && decide (if pos then 0 < v else v < 0) && !s.limitIsReference a pos then s.limitAct a pos
  else s

/-- R141: the limit inputs at a tick edge. -/
def State.limitEdge (s : State) (a : Nat) : State := (s.limitInput a false).limitInput a true

/-! ### Homing (R142, R143) -/

/-- R142: setpoint and measured position, and with them the last feedback of the axis's position loop (R187), are shifted together,
outside the ledger.
(DEDUCED, unsafe: log entry 51.) -/
def State.homeShift (s : State) (a : Nat) (d : Int) : State :=
  let s := s.setAxis a { s.axis a with ref := (s.axis a).ref + d }
  let s := s.shiftSetpoint a d
  let loops := s.rowTable.filter fun x => (x.kind == kindPI || x.kind == kindPID) && s.recU x 0 1 != 0 && s.recU x 1 1 == a && s.slotType (x.input 0) == 8
  let s := loops.foldl (fun s x => s.setStitch x.order { s.stitch x.order with yPrev := (s.stitch x.order).yPrev + d }) s
  s.slotLatch (axisSlot a + 3) (wrapS 64 (s.slotPrev (axisSlot a + 3) + d))

/-- R142: the reference is taken at a measured position: the axis comes to rest and is homed.
(DEDUCED, unsafe: log entry 51.) -/
def State.homeReference (s : State) (a : Nat) (at_ : Int) (moving : Bool) : State :=
  let s := s.homeShift a (s.get (Obj.HomeOffset a) - at_)
  let s := s.put (Obj.HomingStatus a) 2
  let s := if s.get (Obj.FbSource a) = 1 then s.fbUncertain (s.nat (Obj.FbChannelNumber a)) false else s
  let r := s.axis a
  let s := s.setAxis a { r with home := {}, req := if moving then some (.stop (Obj.HomingAcceleration a) false) else none, byCommand := false }
  if moving then s else s.moveDone a

/-- Ask for a homing run from the next plan.
(DESIGN CHOICE, unsafe: log entry 52.) -/
def State.homeRun (s : State) (a phase : Nat) (v : Int) : State :=
  let r := s.axis a
  s.setAxis a { r with home := { r.home with phase := phase }, req := some (.homing v false), byCommand := false }

/-- R142, R143: homing begins once the axis is loop-closed. -/
def State.homeBegin (s : State) (a : Nat) : State :=
  let m := s.nat (Obj.HomingMethod a)
  let dirs := homeDirs m
  let search := s.get (Obj.HomingSearchVelocity a)
  let creep := s.get (Obj.HomingCreepVelocity a)
  if m = 8 then s.homeReference a (s.axis a).sp false
  else if search = 0 ∨ creep = 0 then
    (((s.put (Obj.HomingStatus a) 3).setBit (Obj.AxisStatus a) 1).setAxis a { s.axis a with home := {} }).moveDone a
  else if dirs.1 = 0 then s.homeRun a 4 (dirs.2.2 * creep)
  else
    let on := s.finAt (s.homeInput a)
    let s := s.setAxis a { s.axis a with home := { phase := 6, wasActive := on } }
    if on then s.homeRun a 3 (dirs.2.1 * creep) else s.homeRun a 1 (dirs.1 * search)

/-- R142, R143: homing at a tick edge. -/
def State.homeEdge (s : State) (a : Nat) : State :=
  let r := s.axis a
  let h := r.home
  if h.phase = 0 ∨ !r.closed ∨ r.closing ∨ s.get (Obj.AxisState a) ≠ axMoving then s
  else if h.phase = 6 then s.homeBegin a
  else
    let dirs := homeDirs (s.nat (Obj.HomingMethod a))
    let search := s.get (Obj.HomingSearchVelocity a)
    let creep := s.get (Obj.HomingCreepVelocity a)
    let on := s.finAt (s.homeInput a)
    let s := s.setAxis a { r with home := { h with wasActive := on } }
    if h.phase = 1 ∧ on then (if h.reversed then s.homeRun a 2 (-dirs.1 * search) else s.homeRun a 3 (dirs.2.1 * creep))
    else if h.phase = 2 ∧ !on then s.homeRun a 5 (dirs.1 * search)
    else if h.phase = 5 ∧ on then s.homeRun a 3 (dirs.2.1 * creep)
    else if h.phase = 3 ∧ h.wasActive ∧ !on ∧ 0 < r.spV * dirs.2.1 then
      (if dirs.2.2 = 0 then s.homeReference a (s.slotPrev (axisSlot a + 3)) true else s.homeRun a 4 (dirs.2.2 * creep))
    else s

/-- HOMING_TIMEOUT (R143). -/
def execHomingTimeout (a : Nat) (s : State) : Host.Outcome State Fault Refusal :=
  .next (if (s.axis a).home.phase ≠ 0 ∧ s.flagInUse (Obj.HomingTimeout a) then s.homeFail a else s)

/-- R142: the axis that waits for an index of a channel in homing. -/
def State.homeWaits (s : State) (c : Nat) : List Nat :=
  (s.channelAxes c).filter fun a => (s.axis a).home.phase == 4

/-- INDEX_PULSE (R76, R213, R142): an index pulse at a counter value, in eighths of a count, on a channel whose type has an index line (types 1–3); the gate of R213 and
"alone" decide whether it is one. -/
def indexPulseNow (c at8 : Nat) (alone : Bool) (s : State) : Host.Outcome State Fault Refusal :=
  let s := s.fbSettle c at8
  .next (if alone && s.indexGate c && decide (1 ≤ s.get (Obj.FbType c) ∧ s.get (Obj.FbType c) ≤ 3) then
      let homing := s.homeWaits c
      let at_ := homing.map fun a => s.countPos a (s.fb c).count
      let s := s.fbIndex c (s.time16 at8)
      (homing.zip at_).foldl (fun s x => s.homeReference x.1 x.2 true) s
    else s)

/-- INDEX_PULSE, with the values that directly written objects had at the latest edge (R51). -/
def execIndexPulse (c at8 : Nat) (alone : Bool) (s : State) : Host.Outcome State Fault Refusal :=
  viaEdge (indexPulseNow c at8 alone) s

/-! ### Brake, standstill and rest (R129–R131) -/

/-- R109, R127, R131: the axis comes to rest in Standby (1), Disabled (2) or Standby with its low-side switches on (3). -/
def State.enterRest (s : State) (a dst : Nat) : State :=
  let s := s.graftDrop a
  let s := (s.abandonRemaining a).flushBeyond a 0
  let r := s.axis a
  let s := s.setAxis a { r with closed := false, closing := false, engageTo := 0, brakeEngaged := true,
                                req := none, byCommand := false, move := .none, home := {}, standRun := 0, gen := Gen.rest r.sp,
                                last := (r.sp, 0, 0) }
  let s := if isLocal a && !s.flag (Obj.AxisVirtual a) then s.wantLegs a (if dst = 3 then 2 else 0) else s
  let s := s.putBit (Obj.AxisLimitState a) 2 (dst == 3)
  s.put (Obj.AxisState a) (if dst = 2 then axDisabled else axStandby)

/-- R131: the brake engages, and the axis comes to rest once the delay has passed. -/
def State.engageBrake (s : State) (a dst : Nat) : State :=
  if s.get (Obj.BrakeOutput a) = 0xFF ∨ s.get (Obj.BrakeEngageDelay a) = 0 then s.enterRest a dst
  else s.setAxis a { s.axis a with engageTo := dst, brakeEngaged := true }

/-- R129: the axis is at standstill. -/
def State.atStandstill (s : State) (a : Nat) : Bool :=
  s.get (Obj.AxisState a) == axHolding && decide (max 1 (s.nat (Obj.StandstillTicks a)) ≤ (s.axis a).standRun)

/-- R129: one tick of the standstill count, at a tick edge. -/
def State.standEdge (s : State) (a : Nat) : State :=
  let still := s.get (Obj.AxisState a) = axHolding ∧ s.cmdVel a = 0 ∧
    (s.slotPrev (axisSlot a + 4)).natAbs ≤ s.nat (Obj.StandstillVelocity a)
  let r := s.axis a
  s.setAxis a { r with standRun := if still then min (r.standRun + 1) 65536 else 0 }

/-- STANDSTILL (R129). -/
def execStandstill (a : Nat) (s : State) : Host.Outcome State Fault Refusal :=
  let m := s.natInUse (Obj.StandstillMode a)
  .next (if s.atStandstill a && (s.axis a).engageTo == 0 && m ≠ 1 then s.engageBrake a (if m = 3 then 3 else 1) else s)

/-- BRAKE_ENGAGE_DELAY_EXPIRY (R131). -/
def execBrakeEngageDelayExpiry (a : Nat) (s : State) : Host.Outcome State Fault Refusal :=
  .next (if (s.axis a).engageTo = 0 then s else s.enterRest a (s.axis a).engageTo)

/-- BRAKE_RELEASE_DELAY_EXPIRY (R131). -/
def execBrakeReleaseDelayExpiry (a : Nat) (s : State) : Host.Outcome State Fault Refusal :=
  .next (s.setAxis a { s.axis a with releaseWait := false })

/-- R36: the axes of a gang show the leader's state and setpoint while they are loop-closed.
(DEDUCED, unsafe: log entry 55.) -/
def State.gangEdge (s : State) (g : Nat) : State :=
  let l := s.nat (Obj.GangLeader g)
  let lead := s.axis l
  let st := s.get (Obj.AxisState l)
  s.each ((s.gangMembers g).filter fun a => a != l) fun s a =>
    let own := s.get (Obj.AxisState a)
    if (s.axis a).closed && !(s.axis a).closing && decide (2 ≤ own ∧ own ≤ 4) then
      let s := (s.setAxis a { s.axis a with sp := lead.sp, spV := lead.spV, spA := lead.spA }).showSetpoint a
      if 2 ≤ st ∧ st ≤ 4 then s.put (Obj.AxisState a) st
      else if st = axFaulted then s.put (Obj.AxisState a) (if lead.gen.done then axHolding else axStopping)
      else s
    else s

/-! ### Axis commands (R109, R110) -/

/-- R110: the axis states that accept a command. -/
def cmdStates (c : Nat) : List Int :=
  match c with
  | 1 => [0] | 2 => [1, 2] | 3 => [1] | 4 => [1, 2, 3, 4] | 5 => [1, 2, 3, 4] | 6 => [1, 2, 3, 4] | 7 => [3, 4]
  | 8 => [2, 4] | 9 => [3, 4] | 10 => [2, 3, 4] | 11 => [1, 2] | 12 => [6] | 13 => [2] | _ => []

/-- The codes that only device state Run accepts (R110). -/
def runOnly (c : Nat) : Bool := (3 ≤ c && c ≤ 11) || c == 13

/-- R38, R110: the gang of an axis refuses a command: to a member that does not lead, or while a member is Faulted. -/
def State.gangRefuses (s : State) (a c : Nat) : Bool :=
  match s.gangOf a with
  | some g => (s.nat (Obj.GangLeader g) != a && !([1, 2, 12].contains c)) ||
      (runOnly c && (s.gangMembers g).any fun x => s.get (Obj.AxisState x) == axFaulted)
  | none => false

/-- R110: the answer to a command as far as states decide it; 0 when it is accepted. -/
def State.cmdStatus (s : State) (a c : Nat) : Nat :=
  let dev := s.get Obj.DeviceState
  if 64 ≤ a then 0x0101
  else if c = 1 ∧ dev ≠ devReady ∧ dev ≠ devRun then 0x0701
  else if runOnly c = true ∧ dev ≠ devRun then 0x0701
  else if s.gangRefuses a c then 0x0703
  else if (s.groupsOf a).any fun b => (s.bind b).phase == 2 then 0x0703
  else if !(cmdStates c).contains (s.get (Obj.AxisState a)) then 0x0703
  else if s.flag (Obj.AxisGraftEngaged a) && [4, 5, 6, 8, 11].contains c then 0x0703
  else if c = 8 ∧ s.get (Obj.MoveRemaining a) = 0 then 0x0703
  else if c = 12 ∧ s.axisFaultCause a = true then 0x0703
  else if [3, 4, 5, 6, 11].contains c && decide (s.get (Obj.AxisState a) = axStandby) && !s.flag (Obj.AxisVirtual a) &&
      !s.flag (Obj.FbSource a) then 0x0402
  else 0

/-- R141: motion in a direction leads toward a latched limit of the axis or of its gang. -/
def State.latchedToward (s : State) (a : Nat) (dir : Int) : Bool :=
  (s.stopMembers a).any fun x => ((s.axis x).limNeg && decide (dir < 0)) || ((s.axis x).limPos && decide (0 < dir))

/-- The position from which a command measures its move: the setpoint, or the measured position in Standby. -/
def State.moveFrom (s : State) (a : Nat) : Int :=
  if s.get (Obj.AxisState a) = axStandby ∧ s.flag (Obj.AxisVirtual a) = false then s.slotPrev (axisSlot a + 3) else (s.axis a).sp

/-- R111–R119, R140, R141: the checks of a command 4 or 5 on its target; 0 when it is accepted. -/
def State.moveStatus (s : State) (a : Nat) (absolute : Bool) : Nat :=
  let p := s.moveFrom a
  let x := s.get (Obj.AxisTargetPosition a)
  let table := s.get (Obj.AxisMoveMode a) = 3
  let segs := s.tableSegs a p
  let t := if table then segsEnd segs p else s.targetFrom a p absolute x
  if table ∧ s.get (Obj.ProfileTableLength a) = 0 then 0x0402
  else if table ∧ segsFit s.tNs segs p (s.axis a).spV = false then 0x0301
  else if ¬ table ∧ absolute = true ∧ s.flag (Obj.AxisModulo a) = true ∧ (x < 0 ∨ 4294967295 < x) then 0x0301
  else if s.flag (Obj.SoftLimitEnable a) = true ∧ (t < s.get (Obj.SoftLimitLower a) ∨ s.get (Obj.SoftLimitUpper a) < t) then 0x0301
  else if s.latchedToward a (t - p) then 0x0703
  else 0

/-- The members of an axis's gang that still stand by cast on with their leader (R36).
(DEDUCED, unsafe: log entry 55.) -/
def State.castGang (s : State) (a : Nat) : State :=
  s.each ((s.stopMembers a).filter fun x => x != a) fun s x =>
    if s.get (Obj.AxisState x) = axStandby then s.castBegin x none false else s

/-- R127: a new move supersedes what remained, and cancels the entry into Standby that a brake was about to bring; the brake drive
stays as it is (R131).
(DESIGN CHOICE, unsafe: log entry 142.) -/
def State.newMove (s : State) (a : Nat) (k : MoveKind) : State :=
  let s := s.abandonRemaining a
  let r := s.axis a
  let s := s.setAxis a { r with move := k, home := {}, engageTo := 0, ownScale := false, stopKey := 0, quick := false,
                                mode := s.nat (Obj.AxisMoveMode a), overridden := false, byCommand := true }
  let s := match s.gangOf a with
    | some g => s.put (Obj.GangState g) 1
    | none => s
  s.put (Obj.AxisState a) axMoving

/-- Commands 4 and 5. -/
def State.moveCommand (s : State) (a c : Nat) (absolute : Bool) : State :=
  let st := s.cmdStatus a c
  if st ≠ 0 then s.reply st
  else
    let st := s.moveStatus a absolute
    if st ≠ 0 then s.reply st
    else
      let table := s.get (Obj.AxisMoveMode a) = 3
      let p := (s.axis a).sp
      if s.get (Obj.AxisState a) = axStandby then
        let q : PlanReq := if table then .table none else .asked absolute (s.get (Obj.AxisTargetPosition a))
        let s := s.abandonRemaining a
        let s := s.setAxis a { s.axis a with mode := s.nat (Obj.AxisMoveMode a), home := {} }
        ((s.castBegin a (some q) false).castGang a).done
      else
        let t := if table then segsEnd (s.tableSegs a p) p else s.targetFrom a p absolute (s.get (Obj.AxisTargetPosition a))
        let s := s.newMove a .target
        (s.commandMove a p t (if table then .table (some t) else .move t)).done

/-- MOVE_ABSOLUTE (R110, R117). -/
def execMoveAbsolute (a : Nat) (s : State) : Host.Outcome State Fault Refusal := .next (s.moveCommand a 4 true)

/-- MOVE_RELATIVE (R110, R117). -/
def execMoveRelative (a : Nat) (s : State) : Host.Outcome State Fault Refusal := .next (s.moveCommand a 5 false)

/-- VELOCITY_MOVE (R110, R120). -/
def execVelocityMove (a : Nat) (s : State) : Host.Outcome State Fault Refusal :=
  let st := s.cmdStatus a 6
  let v := s.get (Obj.AxisTargetVelocity a)
  .next
    (if st ≠ 0 then s.reply st
    else if s.latchedToward a v then s.reply 0x0703
    else if s.get (Obj.AxisState a) = axStandby then
      let s := s.abandonRemaining a
      let s := s.setAxis a { s.axis a with mode := s.nat (Obj.AxisMoveMode a), home := {} }
      ((s.castBegin a (some (.velocity v)) false).castGang a).done
    else
      let s := s.newMove a .velocity
      (s.setAxis a { s.axis a with req := some (.velocity v) }).done)

/-- A stop command: the deceleration object, whether the remainder is kept. -/
def State.stopCommand (s : State) (a key : Nat) (keep : Bool) : State :=
  let s := s.graftDetach a
  let s := if keep then s else
    (s.abandonRemaining a).setAxis a
      { s.axis a with move := if (s.axis a).move = .velocity then .velocity else .none }
  let s := s.askStop a key keep
  s.setAxis a { s.axis a with byCommand := true }

/-- STOP (R125): in Stopping it changes nothing. -/
def execStop (a : Nat) (s : State) : Host.Outcome State Fault Refusal :=
  let st := s.cmdStatus a 7
  .next (if st ≠ 0 then s.reply st
    else if s.get (Obj.AxisState a) = axStopping then s.done
    else (s.stopCommand a (Obj.StopDeceleration a) true).done)

/-- QUICK_STOP (R125): in Stopping after a quick stop it changes nothing. -/
def execQuickStop (a : Nat) (s : State) : Host.Outcome State Fault Refusal :=
  let st := s.cmdStatus a 9
  .next (if st ≠ 0 then s.reply st
    else if s.get (Obj.AxisState a) = axStopping ∧ (s.axis a).quick then s.done
    else (s.stopCommand a (Obj.QuickStopDeceleration a) true).done)

/-- ABANDON (R125, R127). -/
def execAbandon (a : Nat) (s : State) : Host.Outcome State Fault Refusal :=
  let st := s.cmdStatus a 10
  .next (if st ≠ 0 then s.reply st
    else if s.get (Obj.AxisState a) = axHolding then
      ((s.abandonRemaining a).setAxis a { s.axis a with move := .none }).done
    else (s.stopCommand a (Obj.StopDeceleration a) false).done)

/-- RESUME (R126): a new move to the original target with the limits in force. -/
def execResume (a : Nat) (s : State) : Host.Outcome State Fault Refusal :=
  let st := s.cmdStatus a 8
  let r := s.axis a
  .next (if st ≠ 0 then s.reply st
    else if s.latchedToward a (r.target - r.sp) then s.reply 0x0703
    else
      let s := s.setAxis a { r with move := .target, engageTo := 0, ownScale := false, stopKey := 0, quick := false,
                                    req := some .resume, byCommand := true }
      let s := match s.gangOf a with
        | some g => s.put (Obj.GangState g) 1
        | none => s
      (s.put (Obj.AxisState a) axMoving).done)

/-- R142: the input a homing method needs is none. -/
def State.homeInputMissing (s : State) (a : Nat) : Bool :=
  let m := s.nat (Obj.HomingMethod a)
  ([1, 2, 3, 4, 7].contains m && s.homeInput a == 0xFF)

/-- HOME (R142): refused while the method's input is none or its motion leads toward a latched limit. -/
def execHome (a : Nat) (s : State) : Host.Outcome State Fault Refusal :=
  let st := s.cmdStatus a 11
  let dirs := homeDirs (s.nat (Obj.HomingMethod a))
  .next (if st ≠ 0 then s.reply st
    else if s.homeInputMissing a then s.reply 0x0402
    else if s.latchedToward a (if dirs.1 = 0 then dirs.2.2 else dirs.1) then s.reply 0x0703
    else
      let s := s.put (Obj.HomingStatus a) 1
      let s := if s.get (Obj.AxisState a) = axStandby then
          ((s.abandonRemaining a).castBegin a none true).castGang a else s
      let s := if s.get (Obj.AxisState a) = axHolding then s.newMove a .homing else s
      (s.setAxis a { s.axis a with home := { phase := 6 }, byCommand := false }).done)

/-- ENABLE (R109). -/
def execEnable (a : Nat) (s : State) : Host.Outcome State Fault Refusal :=
  let st := s.cmdStatus a 1
  .next (if st ≠ 0 then s.reply st else (s.put (Obj.AxisState a) axStandby).done)

/-- DISABLE (R109, R131): from Holding once the brake has engaged. -/
def execDisable (a : Nat) (s : State) : Host.Outcome State Fault Refusal :=
  let st := s.cmdStatus a 2
  .next (if st ≠ 0 then s.reply st
    else if s.get (Obj.AxisState a) = axHolding then (s.engageBrake a 2).done
    else (s.enterRest a 2).done)

/-- POWER_ON (R109, R270). -/
def execPowerOn (a : Nat) (s : State) : Host.Outcome State Fault Refusal :=
  let st := s.cmdStatus a 3
  .next (if st ≠ 0 then s.reply st else ((s.castBegin a none false).castGang a).done)

/-- COILS_OFF (R109, R131). -/
def execCoilsOff (a : Nat) (s : State) : Host.Outcome State Fault Refusal :=
  let st := s.cmdStatus a 13
  .next (if st ≠ 0 then s.reply st else (s.engageBrake a 1).done)

/-- FAULT_RESET (R109). -/
def execFaultReset (a : Nat) (s : State) : Host.Outcome State Fault Refusal :=
  let st := s.cmdStatus a 12
  .next (if st ≠ 0 then s.reply st
    else
      let s := s.put (Obj.AxisState a) axDisabled
      let s := s.setAxis a { s.axis a with overrunS := false }
      (match s.gangOf a with
      | some g => if (s.gangMembers g).any fun x => s.get (Obj.AxisState x) == axFaulted then s else s.put (Obj.GangState g) 1
      | none => s).done)

end Sys2Proof.Machine
end

