-- ==== Sys2Proof/Machine/Stops.lean ====
section
/-! DEFINITION. Bind-off of a group on one common ramp (R132–R136) and path groups (R137–R139). -/

namespace Sys2Proof.Machine

/-! ### Bind-off (R132–R136) -/

/-- R134: r after lowering, in 1/s: the greatest rate of λ. -/
def curveRate (tNs q tb : Nat) (flat : Bool) : ℚ × ℚ :=
  let tt : ℚ := (tb * tNs : Nat) / 1000000000
  if tt = 0 then (0, 0)
  else if flat then
    let q0 : ℚ := q / 65536
    let x := tt * tt - 4 / q0
    let tj := (tt - sqrtQ (if x < 0 then 0 else x)) / 2
    (q0 * tj, q0)
  else (2 / tt, 4 / (tt * tt))

/-- R134: member `a` with velocity `vi` would exceed its own limits on the ramp. -/
def State.bindExceeds (s : State) (a : Nat) (vi : Int) (r q tb : Nat) : Bool :=
  let flat := decide (((r : ℚ) / 65536) * (r / 65536) ≤ q / 65536)
  let c := curveRate s.tNs q tb flat
  let v : ℚ := vi.natAbs / 65536
  let acc : Int := (s.axis a).last.2.2
  let extra : ℚ := if 0 < vi * acc then acc.natAbs / 4096 else 0
  decide ((s.natInUse (Obj.BindOffDeceleration a) : ℚ) / 4096 < v * c.1 + extra ∨
    (s.natInUse (Obj.BindOffJerk a) : ℚ) / 256 < v * c.2)

/-- R273: a bind-off of the group abandons the move that waits for cast-on.
(DESIGN CHOICE, unsafe: log entry 57.) -/
def State.bindCasting (s : State) (b : Nat) : State :=
  s.each ((s.bindMembers b).filter fun a => s.get (Obj.AxisState a) = axCasting) fun s a =>
    (s.abandonRemaining a).setAxis a { s.axis a with afterCast := none, homeAfterCast := false, home := {} }

/-- R134: the members run with the ramp: entries already queued beyond its start are written again. -/
def State.bindEngage (s : State) (b from_ : Nat) : State :=
  let x := s.bind b
  s.each (s.bindMoving b) fun s a =>
    let s := s.flushBeyond a from_
    let s := s.setAxis a { s.axis a with home := {}, req := none, byCommand := false, quick := true, ownScale := false }
    let s := s.setBitIf (s.bindExceeds a ((x.vs.lookup a).getD (s.cmdVel a)) x.r x.q x.tb) (Obj.AxisStatus a) 5
    s.put (Obj.AxisState a) axStopping

/-- R135: at λ = 0 every member that runs with the ramp enters Holding with what remains; a velocity move ends. -/
def State.bindEnd (s : State) (b : Nat) : State :=
  let s := s.each ((s.bindMoving b).filter fun a => !(s.axis a).ownScale) fun s a =>
    let s := s.flushBeyond a 0
    let r := s.axis a
    let s := s.setAxis a { r with gen := Gen.rest r.sp, lastGen := Gen.rest r.sp, last := (r.sp, 0, 0), req := none, spV := 0, spA := 0 }
    (s.showSetpoint a).moveDone a
  (s.setBind b { s.bind b with phase := 0 }).put (Obj.BindOffState b) 0

/-- BIND_OFF_REQUEST (R133, R135). -/
def execBindOffRequest (b value : Nat) (s : State) : Host.Outcome State Fault Refusal :=
  .next (if 16 ≤ b then s.reply 0x0101 else if value ≠ 1 then s.reply 0x0301 else (s.askBindOff b).done)

/-- BIND_OFF_RAMP_START (R133, R134): at the common start edge; `published` holds the minima r and q of the other devices. -/
def execBindOffRampStart (b : Nat) (published : List (Nat × Nat)) (s : State) : Host.Outcome State Fault Refusal :=
  let x := s.bind b
  .next
    (if x.phase ≠ 1 ∨ s.tick < x.start then s
    else
      let r := published.foldl (fun m p => min m p.1) x.r
      let q := published.foldl (fun m p => min m p.2) x.q
      let s := s.bindCasting b
      if r = none32 then
        let s := (s.put (Obj.BindOffDuration b) 0).put (Obj.BindOffStartEdge b) x.start
        s.bindEnd b
      else
        let tb := curveTicks s.tNs r q
        let s := s.setBind b { x with phase := 2, r := r, q := q, tb := tb, joined := x.start }
        let s := (s.put (Obj.BindOffState b) 1).put (Obj.BindOffDuration b) tb
        let s := s.put (Obj.BindOffStartEdge b) x.start
        (s.bindEngage b s.tick).bindRepeat b)

/-- BIND_OFF_END (R135): λ has reached 0. -/
def execBindOffEnd (b : Nat) (s : State) : Host.Outcome State Fault Refusal :=
  let x := s.bind b
  .next (if x.phase = 2 ∧ x.start + x.tb ≤ s.tick then s.bindEnd b else s)

/-- BIND_OFF_JOIN_LATE (R136): the first record of a bind-off arrives after the cut-off for edge n+1: the members join
the common schedule at the first edge after the record is taken. -/
def execBindOffJoinLate (b start r q : Nat) (s : State) : Host.Outcome State Fault Refusal :=
  .next
    (if (s.bind b).phase = 2 then s
    else
      let tb := if r = none32 then 0 else curveTicks s.tNs r q
      let e := s.tick + 1
      let s := s.bindCasting b
      let s := s.each (s.bindMembers b) fun s a => s.setBit (Obj.AxisStatus a) 8
      let s := s.setBind b { phase := 2, start := start, r := r, q := q, tb := tb, joined := e }
      let s := ((s.put (Obj.BindOffState b) 1).put (Obj.BindOffDuration b) tb).put (Obj.BindOffStartEdge b) start
      let lam := if e < start then 1073741824 else (curveAt s.tNs r q tb (e - start)).1
      let s := s.each (s.bindMoving b) fun s a =>
        let v : ℚ := (s.cmdVel a).natAbs / 65536
        let step : ℚ := v * (1073741824 - lam : Int) / 1073741824 * 1000000000 / s.tNs
        let jerk : ℚ := step * 1000000000 / s.tNs
        s.setBitIf (decide ((s.natInUse (Obj.BindOffDeceleration a) : ℚ) / 4096 < step ∨ (s.natInUse (Obj.BindOffJerk a) : ℚ) / 256 < jerk))
          (Obj.AxisStatus a) 5
      s.bindEngage b s.tick)

/-! ### Path groups (R137–R139) -/

/-- The members of a path group with their member slots. -/
def State.pathMembers (s : State) (p : Nat) : List (Nat × Nat) :=
  (List.range 6).filterMap fun i => let a := s.nat (Obj.PathAxis p i); if a < 64 then some (i, a) else none

/-- A path element (R138). -/
structure PathElem where
  typ : Nat
  plane0 : Nat
  plane1 : Nat
  blend : Nat
  stop : List Int
  centre : List Int
  deriving DecidableEq, Repr

/-- Element `i` of a path. -/
def State.pathElem (s : State) (p i : Nat) : PathElem :=
  let k := Obj.PathElements p
  let b := 72 * i
  { typ := s.uint k b 1, plane0 := s.uint k (b + 1) 1 % 16, plane1 := s.uint k (b + 1) 1 / 16, blend := s.uint k (b + 4) 4,
    stop := (List.range 6).map fun j => s.sint k (b + 8 + 8 * j) 8, centre := (List.range 2).map fun j => s.sint k (b + 56 + 8 * j) 8 }

/-- The length of a vector. -/
def norm (v : List ℚ) : ℚ := sqrtQ ((v.map fun x => x * x).sum)

/-- The difference of two points. -/
def vsub (x y : List ℚ) : List ℚ := List.zipWith (fun a b => a - b) x y

/-- A point moved along a vector. -/
def vadd (x : List ℚ) (k : ℚ) (y : List ℚ) : List ℚ := List.zipWith (fun a b => a + k * b) x y

/-- A vector of unit length; a null vector stays null. -/
def unit (v : List ℚ) : List ℚ := let n := norm v; if n = 0 then v else v.map fun x => x / n

/-- A piece of a path with common tangents at its joints: end points, unit tangents, length and, for a curve, the least
radius. -/
structure Piece where
  p0 : List ℚ
  p1 : List ℚ
  t0 : List ℚ
  t1 : List ℚ
  len : ℚ
  rad : Option ℚ
  rest : Bool     -- the path stands still at the end of the piece
  deriving DecidableEq, Repr

/-- The vector halfway between two radii of one arc, in its sense (`ccw`), `full` for equal ends. -/
def midRadius (u w : ℚ × ℚ) (ccw : Bool) : ℚ × ℚ :=
  let r := sqrtQ (u.1 * u.1 + u.2 * u.2)
  let cross := u.1 * w.2 - u.2 * w.1
  let m := (u.1 + w.1, u.2 + w.2)
  let n := sqrtQ (m.1 * m.1 + m.2 * m.2)
  if u = w then (-u.1, -u.2)
  else if n = 0 then (if ccw then (-u.2, u.1) else (u.2, -u.1))
  else
    let minor := if ccw then decide (0 < cross) else decide (cross < 0)
    let k := if minor then r / n else -(r / n)
    (m.1 * k, m.2 * k)

/-- R139: the radii of an arc, halved until the chord's radial error is within the tolerance, at most `fuel` times.
(DESIGN CHOICE, unsafe: log entry 58.) -/
def arcPoints (tol : ℚ) (ccw : Bool) : Nat → ℚ × ℚ → ℚ × ℚ → Bool → List (ℚ × ℚ)
  | 0, _, w, _ => [w]
  | n + 1, u, w, first =>
    let m := midRadius u w ccw
    let c := ((u.1 + w.1) / 2, (u.2 + w.2) / 2)
    let err := sqrtQ ((m.1 - c.1) * (m.1 - c.1) + (m.2 - c.2) * (m.2 - c.2))
    if err ≤ tol ∧ first = false then [w] else arcPoints tol ccw n u m false ++ arcPoints tol ccw n m w false

/-- A point with two coordinates replaced. -/
def setPlane (e : PathElem) (x : List ℚ) (v : ℚ × ℚ) : List ℚ := (x.set e.plane0 v.1).set e.plane1 v.2

/-- The pieces of an element from a point. -/
def elemPieces (tol : ℚ) (e : PathElem) (p0 : List ℚ) : List Piece :=
  let p1 : List ℚ := e.stop.map fun x => (x : ℚ)
  if e.typ = 1 then
    let d := vsub p1 p0
    if norm d = 0 then [] else [⟨p0, p1, unit d, unit d, norm d, none, false⟩]
  else
    let c : ℚ × ℚ := (e.centre.getD 0 0, e.centre.getD 1 0)
    let u := (p0.getD e.plane0 0 - c.1, p0.getD e.plane1 0 - c.2)
    let w := (p1.getD e.plane0 0 - c.1, p1.getD e.plane1 0 - c.2)
    let ccw := e.typ == 3
    let pts := arcPoints tol ccw 12 u w true
    let n : ℚ := pts.length
    let r := sqrtQ (u.1 * u.1 + u.2 * u.2)
    let lin := vsub p1 p0
    let pt := fun (k : Nat) (v : ℚ × ℚ) => setPlane e (vadd p0 (k / n) lin) (v.1 + c.1, v.2 + c.2)
    let tan := fun (v : ℚ × ℚ) (step : ℚ) =>
      let t := if ccw then (-v.2, v.1) else (v.2, -v.1)
      unit (setPlane e (lin.map fun x => x / n) (t.1 / (if r = 0 then 1 else r) * step, t.2 / (if r = 0 then 1 else r) * step))
    let starts := u :: pts.dropLast
    (starts.zip pts).mapIdx fun k x =>
      let a := pt k x.1
      let b := if k + 1 = pts.length then p1 else pt (k + 1) x.2
      let chord := sqrtQ ((x.2.1 - x.1.1) * (x.2.1 - x.1.1) + (x.2.2 - x.1.2) * (x.2.2 - x.1.2))
      ⟨a, b, tan x.1 chord, tan x.2 chord, norm (vsub b a), some r, false⟩

/-- Mark the last piece of a list as ending at rest. -/
def restLast : List Piece → List Piece
  | [] => []
  | [x] => [{ x with rest := true }]
  | x :: l => x :: restLast l

/-- R139: join a line or an arc to what follows: a curve within the blend tolerance and half the shorter piece, beside an arc along
its chord, or a rest where no blend is asked for or the path turns back on itself.
(DESIGN CHOICE, unsafe: log entry 58.) -/
def joinPieces (tol : ℚ) (l r : List Piece) : List Piece :=
  match l.reverse, r with
  | x :: xs, y :: ys =>
    let u := unit (vsub x.p1 x.p0)
    let w := unit (vsub y.p1 y.p0)
    let dt := norm (vsub w u)
    if norm (vsub y.t0 x.t1) = 0 then l ++ r
    else if tol = 0 ∨ dt = 0 ∨ 4 - 1 / 1048576 < dt * dt then restLast l ++ r
    else
      let d := min tol (min (x.len / 2) (y.len / 2))
      let a := vadd x.p1 (-d) u
      let b := vadd y.p0 d w
      (xs.reverse ++ [{ x with p1 := a, t1 := u, len := x.len - d }]) ++
        [⟨a, b, u, w, norm (vsub b a), some (d / (2 * dt)), false⟩] ++ ({ y with p0 := b, t0 := w, len := y.len - d } :: ys)
  | _, _ => l ++ r

/-- The pieces of a whole path from the members' setpoints.
(DESIGN CHOICE, unsafe: log entry 58.) -/
def pathPieces (tol : ℚ) : List PathElem → List ℚ → List Piece → ℚ → List Piece
  | [], _, acc, _ => restLast acc
  | e :: l, p0, acc, blend =>
    let ps := elemPieces tol e p0
    pathPieces tol l (e.stop.map fun x => (x : ℚ)) (joinPieces blend acc ps) e.blend

/-- The pieces up to and with the first that ends at rest, and the others. -/
def firstRun : List Piece → List Piece × List Piece
  | [] => ([], [])
  | x :: l => if x.rest then ([x], l) else let r := firstRun l; (x :: r.1, r.2)

/-- The point and the tangent at a distance along a run. -/
def runAt : List Piece → ℚ → List ℚ × List ℚ
  | [], _ => ([], [])
  | [x], d =>
    let k := if x.len = 0 then 1 else min 1 (d / x.len)
    (vadd x.p0 k (vsub x.p1 x.p0), unit (vadd x.t0 k (vsub x.t1 x.t0)))
  | x :: l, d =>
    if d < x.len then
      let k := d / x.len
      (vadd x.p0 k (vsub x.p1 x.p0), unit (vadd x.t0 k (vsub x.t1 x.t0)))
    else runAt l (d - x.len)

/-- The distance and speed along the path after `t` ticks of phases. -/
def phaseAt : List Phase → ℚ → ℚ → ℚ → ℚ × ℚ
  | [], d, v, _ => (d, v)
  | x :: l, d, v, t =>
    if x.n ≤ t then phaseAt l (d + v * x.n + (2 * x.a0 + x.a1) / 6 * (x.n * x.n)) (v + (x.a0 + x.a1) / 2 * x.n) (t - x.n)
    else
      let j : ℚ := (x.a1 - x.a0) / x.n
      (d + v * t + x.a0 / 2 * (t * t) + j / 6 * (t * t * t), v + x.a0 * t + j / 2 * (t * t))

/-- The first tick at which the distance is reached, by halving. -/
def tickOf (ph : List Phase) (d : ℚ) : Nat → Nat → Nat → Nat
  | 0, _, hi => hi
  | n + 1, lo, hi => if hi ≤ lo then hi else
    let m := (lo + hi) / 2
    if d ≤ (phaseAt ph 0 0 m).1 then tickOf ph d n lo m else tickOf ph d n (m + 1) hi

/-- The partial sums of a list. -/
def sums : ℚ → List ℚ → List ℚ
  | _, [] => []
  | a, x :: l => (a + x) :: sums (a + x) l

/-- R139: the limits along one run: the path's, and every member's component kept within the member's.
(DESIGN CHOICE, unsafe: log entry 58.) -/
def State.runLimits (s : State) (p : Nat) (members : List (Nat × Nat)) (run : List Piece) : Limits :=
  let comp := fun (i : Nat) => run.foldl (fun m x => max m (max (abs (x.t0.getD i 0)) (abs (x.t1.getD i 0)))) (0 : ℚ)
  let cap := fun (own : ℚ) (f : Nat → ℚ) => members.foldl (fun m x => if comp x.1 = 0 then m else min m (f x.2 / comp x.1)) own
  let t := s.tNs
  let acc := cap (accTick t (s.get (Obj.PathAcceleration p))) fun a =>
    min (accTick t (s.get (Obj.ProfileAcceleration a))) (accTick t (s.get (Obj.ProfileDeceleration a)))
  let vel := cap (velTick t (s.get (Obj.PathVelocity p))) fun a => velTick t (s.get (Obj.ProfileVelocity a))
  let vel := run.foldl (fun m x => match x.rad with
    | some r => min m (sqrtQ (acc * r))
    | none => m) vel
  { mode := 2, v := vel, a := acc, d := acc, j := cap (jerkTick t (s.get (Obj.PathJerk p))) fun a => jerkTick t (s.get (Obj.ProfileJerk a)) }

/-- R139: one run from rest to rest: ticks, points and speeds at the common segment ends. -/
def State.runSegs (s : State) (p : Nat) (members : List (Nat × Nat)) (run : List Piece) : List (Nat × List ℚ × List ℚ) :=
  let l := s.runLimits p members run
  let len := (run.map fun x => x.len).sum
  if l.v ≤ 0 ∨ len ≤ 0 then []
  else
    let ph := movePhases l 0 0 len
    let total := (ph.map fun x => x.n).sum
    let marks := ((sums 0 (ph.map fun x => (x.n : ℚ))).map fun x => x.floor.toNat) ++
      ((sums 0 (run.map fun x => x.len)).map fun d => tickOf ph d 64 0 total)
    let ticks : List Nat := ((marks.filter fun m => 0 < m && m < total).mergeSort (fun x y => x ≤ y)).dedup ++ [total]
    ticks.map fun (t : Nat) =>
      let x := phaseAt ph 0 0 t
      let y := if t = total then runAt run len else runAt run x.1
      (t, y.1, y.2.map fun c => if t = total then 0 else c * x.2)

/-- R139: the segments of one member over a run: `i` is its member slot. -/
def memberSegs (tNs i : Nat) (l : List (Nat × List ℚ × List ℚ)) : List Seg :=
  let starts := 0 :: (l.map fun x => x.1).dropLast
  (starts.zip l).map fun x => ⟨x.2.1 - x.1, roundQ (x.2.2.1.getD i 0), velNative tNs (x.2.2.2.getD i 0)⟩

/-- R121, R139: the runs of a path, each planned from rest to rest; at a run whose speed limit is 0 the path stays.
(DESIGN CHOICE, unsafe: log entry 58.) -/
def State.pathRuns (s : State) (p : Nat) (members : List (Nat × Nat)) : Nat → List Piece → List (List (Nat × List ℚ × List ℚ))
  | 0, _ => []
  | n + 1, l =>
    if l.isEmpty then []
    else
      let r := firstRun l
      if (s.runLimits p members r.1).v ≤ 0 then [] else s.runSegs p members r.1 :: s.pathRuns p members n r.2

/-- R138: an arc whose radii differ by more than the tolerance. -/
def arcBad (tol : ℚ) (e : PathElem) (p0 : List ℚ) : Bool :=
  let d := fun (x : List ℚ) => sqrtQ ((x.getD e.plane0 0 - e.centre.getD 0 0) ^ 2 + (x.getD e.plane1 0 - e.centre.getD 1 0) ^ 2)
  e.typ != 1 && (tol == 0 || decide (tol < abs (d p0 - d (e.stop.map fun x => (x : ℚ)))))

/-- R138: some arc of the path is refused. -/
def anyArcBad (tol : ℚ) : List PathElem → List ℚ → Bool
  | [], _ => false
  | e :: l, p0 => arcBad tol e p0 || anyArcBad tol l (e.stop.map fun x => (x : ℚ))

/-- PATH_START (R138, R139). -/
def execPathStart (p : Nat) (s : State) : Host.Outcome State Fault Refusal :=
  let members := s.pathMembers p
  let n := s.nat (Obj.PathElementCount p)
  let elems := (List.range n).map (s.pathElem p)
  let tol : ℚ := s.nat (Obj.PathArcTolerance p)
  let start : List ℚ := (List.range 6).map fun i => match members.lookup i with
    | some a => ((s.axis a).sp : ℚ)
    | none => 0
  .next
    (if 8 ≤ p then s.reply 0x0101
    else if s.get Obj.DeviceState ≠ devRun then s.reply 0x0701
    else if n = 0 ∨ members = [] then s.reply 0x0402
    else if (members.any fun x => s.get (Obj.AxisState x.2) != axHolding) then s.reply 0x0703
    else if anyArcBad tol elems start then s.reply 0x0402
    else
      let runs := s.pathRuns p members 1025 (pathPieces tol elems start [] 0)
      let table := fun (i : Nat) => (runs.map (memberSegs s.tNs i)).flatten
      if members.any fun x => decide (4096 < (table x.1).length) then s.reply 0x0402
      else
        let s := members.foldl (fun s x =>
          let t := match elems.getLast? with
            | some e => e.stop.getD x.1 0
            | none => (s.axis x.2).sp
          let q := (s.axis x.2).sp
          let s := s.newMove x.2 .target
          let s := s.commandMove x.2 q t (.segs t (table x.1))
          s.setAxis x.2 { s.axis x.2 with byCommand := false }) s
        let s := s.setPath p {}
        ((s.put (Obj.PathState p) 1).put (Obj.PathScale p) 1073741824).done)

/-- R139: the speed along a path, in 2^-16 cycle/s. -/
def State.pathSpeed (s : State) (p : Nat) : Nat :=
  Nat.sqrt (((s.pathMembers p).map fun x => (s.axis x.2).last.2.1.natAbs ^ 2).sum)

/-- Entries beyond the next edge are written again with the new time scale. -/
def State.pathRewind (s : State) (p : Nat) : State :=
  s.each ((s.pathMembers p).map fun x => x.2) fun s a => s.flushBeyond a (s.tick + 1)

/-- PATH_STOP (R139): σ falls to 0 by the rule of R134 on the path's limits.
(DESIGN CHOICE, unsafe: log entry 59.) -/
def execPathStop (p : Nat) (s : State) : Host.Outcome State Fault Refusal :=
  .next
    (if 8 ≤ p then s.reply 0x0101
    else if s.get (Obj.PathState p) ≠ 1 then s.reply 0x0703
    else
      let v := s.pathSpeed p
      let base := (s.pathScaleAt p (s.tick + 1)).1
      let r := if v = 0 then none32 else min none32 (s.nat (Obj.PathAcceleration p) * 1048576 / v)
      let q := if v = 0 then none32 else min none32 (s.nat (Obj.PathJerk p) * 16777216 / v)
      let s := s.setPath p { start := s.tick + 1, falling := true, ramping := true, base := base, r := r, q := q, tb := curveTicks s.tNs r q }
      ((s.pathRewind p).put (Obj.PathState p) 2).done)

/-- PATH_RESUME (R139): σ rises back to 1. -/
def execPathResume (p : Nat) (s : State) : Host.Outcome State Fault Refusal :=
  .next
    (if 8 ≤ p then s.reply 0x0101
    else if s.get (Obj.PathState p) ≠ 2 ∧ s.get (Obj.PathState p) ≠ 3 then s.reply 0x0703
    else if s.get Obj.DeviceState ≠ devRun then s.reply 0x0701
    else
      let base := (s.pathScaleAt p (s.tick + 1)).1
      let s := s.setPath p { s.path p with start := s.tick + 1, falling := false, ramping := true, base := base }
      ((s.pathRewind p).put (Obj.PathState p) 1).done)

/-- PATH_ABANDON (R139): every member's remaining distance is abandoned. -/
def execPathAbandon (p : Nat) (s : State) : Host.Outcome State Fault Refusal :=
  let st := s.get (Obj.PathState p)
  .next
    (if 8 ≤ p then s.reply 0x0101
    else if st = 0 ∨ st = 4 then s.done
    else
      let s := s.put (Obj.PathState p) 0
      let s := s.each ((s.pathMembers p).map fun x => x.2) fun s a =>
        let s := (s.abandonRemaining a).setAxis a { s.axis a with move := .none }
        if st = 3 then
          let s := s.flushBeyond a 0
          (s.setAxis a { s.axis a with gen := Gen.rest (s.axis a).sp }).moveDone a
        else s.askStop a (Obj.StopDeceleration a) false
      (s.setPath p {}).put (Obj.PathScale p) 1073741824 |>.done)

/-- R139: a path at a tick edge: its scale, the end of a ramp, the end of the path.
(DESIGN CHOICE, unsafe: log entry 59.) -/
def State.pathEdge (s : State) (p : Nat) : State :=
  let st := s.get (Obj.PathState p)
  if st = 0 ∨ st = 4 then s
  else
    let x := s.path p
    let s := if x.ramping then s.put (Obj.PathScale p) (s.pathScaleAt p s.tick).1 else s
    let ended := x.ramping && decide (x.start + x.tb ≤ s.tick)
    let s := if ended then
        (s.setPath p { s.path p with ramping := false }).put (Obj.PathState p) (if x.falling then 3 else 1) else s
    if s.get (Obj.PathState p) = 1 ∧ ((s.pathMembers p).all fun y => s.get (Obj.AxisState y.2) == axHolding) then
      s.put (Obj.PathState p) 4
    else s

end Sys2Proof.Machine
end

