-- ==== Sys2Proof/Machine/Graft.lean ====
section
/-! DEFINITION. Grafts: masters, gears, cams, trims, clutches, engagement and remote masters
(spec/05_grafts_line_shaft.md). -/

namespace Sys2Proof.Machine

/-! ### Masters (R147, R160) -/

/-- The own profile's setpoint of an axis for the next edge: position, velocity, acceleration. -/
def State.ownState (s : State) (a : Nat) : Int × Int × Int :=
  match (s.axis a).queue.find? fun e => e.edge == s.tick + 1 with
  | some e => (e.gen.p, e.gen.v, e.gen.a)
  | none => ((s.axis a).sp, 0, 0)

/-- R160: a remote master at the next edge, with the age of its sample in ns. -/
def predict (te : Int) (x : MasterSample) (y : Option MasterSample) : Int × Int × Int × Int :=
  let d := te - x.time
  let jn := match y with
    | some y => x.a - y.a
    | none => 0
  let jd : Int := match y with
    | some y => x.time - y.time
    | none => 1
  (x.p + qdiv (x.v * 65536 * d) 1000000000 + qdiv (x.a * 1048576 * (d * d)) 2000000000000000000 +
      qdiv (jn * 1048576 * (d * d * d)) (6 * jd * 1000000000000000000),
    sat32 (x.v + qdiv (x.a * 16 * d) 1000000000 + qdiv (jn * 16 * (d * d)) (2 * jd * 1000000000)),
    sat32 (x.a + qdiv (jn * d) jd), d)

/-- R160: two accepted samples with one stamp leave the prediction without a value.
(DESIGN CHOICE, unsafe: log entry 143.) -/
def State.freeMaster (s : State) : Option (Int × Int × Int) × State :=
  let p := s.fresh
  let v := p.2.fresh
  let a := v.2.fresh
  (some (wrapS 64 p.1, sat32 v.1, sat32 a.1), a.2)

/-- R147: the master of a graft for the next edge: position, velocity, acceleration; none before the first sample. -/
def State.masterOf (s : State) (k : Nat) : Option (Int × Int × Int) × State :=
  let src := s.get (Obj.GraftMasterSource k)
  let n := s.nat (Obj.GraftMasterNumber k)
  if src = 1 then (some (s.ownState n), s)
  else if src = 2 then
    (let v := s.slotPrev (axisSlot n + 4)
     (some (s.slotPrev (axisSlot n + 3) + qdiv (v * 65536 * s.tNs) 1000000000, v, 0), s))
  else if src = 3 then (let g := s.graft n; (some (g.po, g.vo, g.ao), s))
  else if src = 4 ∨ src = 5 then
    match (s.graft k).remote with
    | some x =>
      let y := predict ((s.tick + 1) * s.tNs : Nat) x (s.graft k).earlier
      let s := s.put (Obj.RemoteMasterAge k) (clampI y.2.2.2 0 4294967295)
      if (s.graft k).earlier.any fun z => z.time == x.time then s.freeMaster else (some (y.1, y.2.1, y.2.2.1), s)
    | none => (none, s)
  else if src = 6 then (some (s.slotNewest n, 0, 0), s)
  else (none, s)

/-! ### Gear (R149) -/

/-- R149: one tick of a gear whose master moved by `dm`. An output beyond I64 is held and the overflow raised. -/
def State.gearStep (s : State) (k : Nat) (dm vm am : Int) : State :=
  let n := s.get (Obj.GearNumerator k)
  let d := s.get (Obj.GearDenominator k)
  let x := n * dm + s.get (Obj.GearRemainder k)
  let g := x.tdiv d
  let r := s.graft k
  let po := r.po + g
  if po < -9223372036854775808 ∨ 9223372036854775807 < po then
    let s := s.setGraft k { r with held := true, vo := 0, ao := 0, cv := 0 }
    (s.setBit (Obj.GraftStatus k) 4).raiseOnce fkGraftOverflow k
  else
    let vo := sat32 (qdiv (n * vm) d)
    let s := s.put (Obj.GearRemainder k) (x - g * d)
    let s := (s.addI64 (Obj.GearMasterTerm k) (n * dm)).addI64 (Obj.GearFollowerTerm k) (d * g)
    let s := if r.held then s.setActive fkGraftOverflow k false else s
    s.setGraft k { r with po := po, vo := vo, ao := sat32 (qdiv (n * am) d), cv := vo, held := false }

/-! ### Cam (R151, R152) -/

/-- R151: point `i` of a table of `l` points: position and slope. -/
def State.camPoint (s : State) (k l i : Nat) : Int × Int :=
  let t := Obj.CamTable k
  if i < l then (s.sint t (16 * i) 8, s.sint t (16 * i + 8) 8) else (s.sint t 0 8 + s.get (Obj.CamLift k), s.sint t 8 8)

/-- R152: the table function: the position within the cycle and dq/ds, at a master position. -/
def State.camAt (s : State) (k : Nat) (pm : Int) : Int × Int :=
  let l := s.nat (Obj.CamLength k)
  if l = 0 then (0, 0)
  else
    let x := (pm % 4294967296).toNat * l
    let i := x / 4294967296
    let sf : Int := (x % 4294967296 : Nat)
    let a := s.camPoint k l i
    let b := s.camPoint k l (i + 1)
    let ta := qdiv a.2 l
    let tb := qdiv b.2 l
    let dp := b.1 - a.1
    let c2 := 3 * dp - 2 * ta - tb
    let c3 := -2 * dp + ta + tb
    let h := c2 + rsh (c3 * sf) 32
    let h := ta + rsh (h * sf) 32
    let g := 2 * c2 + rsh (3 * c3 * sf) 32
    (a.1 + rsh (h * sf) 32, ta + rsh (g * sf) 32)

/-- R152: one tick of a cam. -/
def State.camStep (s : State) (k : Nat) (pm vm am : Int) : State :=
  let r := s.graft k
  let c := s.camAt k pm
  let l : Int := s.get (Obj.CamLength k)
  let hc := pm / 4294967296 - r.h0
  let vo := sat32 (qdiv (c.2 * l * vm) 4294967296)
  s.setGraft k { r with po := r.camBase + hc * s.get (Obj.CamLift k) + c.1 + r.off, vo := vo, ao := sat32 (qdiv (c.2 * l * am) 4294967296), cv := vo }

/-! ### Phase trim (R153) -/

/-- R153: one tick of a phase trim. -/
def State.trimStep (s : State) (k order : Nat) (pm vm am : Int) : State :=
  let src := s.nat (Obj.PhaseTrimSource k)
  let target := if src = 0xFFFF then s.get (Obj.PhaseTrimTarget k) else s.readSlot order src
  let trim := s.get (Obj.PhaseTrimActual k)
  let step := qdiv (s.get (Obj.PhaseTrimRate k) * 65536 * s.tNs) 1000000000
  let dtr := clampI (target - trim) (-step) step
  let s := s.setBitIf (decide (dtr ≠ target - trim)) (Obj.GraftStatus k) 0
  let s := s.put (Obj.PhaseTrimActual k) (wrapS 64 (trim + dtr))
  let r := s.graft k
  let vo := sat32 (vm + qdiv (dtr * 1000000000) (s.tNs * 65536 : Nat))
  s.setGraft k { r with po := pm + trim + dtr + r.off, vo := vo, ao := am, cv := vo }

/-! ### Clutch (R154–R156) -/

/-- R156: Q(u) of u in Q2.30, in Q2.30. -/
def quintic (u : Int) : Int :=
  let x : Int := u * u * u * (10 * 2 ^ 60 - 15 * u * 2 ^ 30 + 6 * u * u)
  clampI (rsh x 120) 0 1073741824

/-- R156: u in Q2.30 after a master path; E of 0 counts as travelled. -/
def travelled (path e : Int) : Int := if e ≤ 0 then 1073741824 else clampI (qdiv (path * 1073741824) e) 0 1073741824

/-- R154: the distance travelled beyond X when the master crosses it in this tick, within its cycle.
(DESIGN CHOICE, unsafe: log entry 64.) -/
def crossed (p0 p1 x : Int) : Option Int :=
  let c : Int := 4294967296
  if p0 < p1 then (if (p0 - x) / c < (p1 - x) / c then some ((p1 - x) % c) else none)
  else if p1 < p0 then (if (x - p0) / c < (x - p1) / c then some ((x - p1) % c) else none)
  else none

/-- R157: at entry into state 3 the own move ends with nothing remaining. -/
def State.ownEnds (s : State) (a : Nat) : State :=
  let s := s.abandonRemaining a
  let s := s.flushBeyond a (s.tick + 1)
  let r := s.axis a
  s.setAxis a { r with move := .none, gen := Gen.rest r.gen.p, req := none, byCommand := false, stopKey := 0 }

/-- A graft enters state 3.
(DESIGN CHOICE, unsafe: log entry 64.) -/
def State.graftEngaged (s : State) (k a : Nat) : State :=
  let s := (s.put (Obj.GraftState k) 3).put (Obj.GraftWeight k) 1073741824
  (s.put (Obj.AxisGraftEngaged a) 1).ownEnds a

/-- R154: the follower leaves its graft at the end of disengaging; its own profile goes on. -/
def State.graftReleased (s : State) (k a : Nat) : State :=
  let s := s.setGraft k { s.graft k with ran := true }
  let s := s.ownFromChain a
  ((s.put (Obj.GraftState k) 0).put (Obj.GraftWeight k) 0).put (Obj.AxisGraftEngaged a) 0

/-- R156: the output of a clutch with weight `w`: increments of the input and of the follower's own profile.
(DESIGN CHOICE, unsafe: log entry 64.) -/
def State.blend (s : State) (k : Nat) (w dpi dpown : Int) (i own : Int × Int × Int) : State :=
  let r := s.graft k
  let mix := fun x y => rsh (w * x + (1073741824 - w) * y) 30
  let s := s.put (Obj.GraftWeight k) w
  s.setGraft k { r with po := r.po + mix dpi dpown, vo := sat32 (mix i.2.1 own.2.1), ao := sat32 (mix i.2.2 own.2.2), own := own.1 }

/-- R154, R156: one tick of state 4: the weight falls from `w0` with the master path, and at 0 the follower leaves. `dpi` is
the increment of the input. -/
def State.disengageStep (s : State) (k a : Nat) (dm dpi : Int) (i own : Int × Int × Int) : State :=
  let r := s.graft k
  let path := r.u + dm.natAbs
  let w := rsh (r.w0 * (1073741824 - quintic (travelled path (s.get (Obj.ClutchDistance k))))) 30
  let s := (s.setGraft k { r with u := path }).blend k w dpi (own.1 - r.own) i own
  if w = 0 then s.graftReleased k a else s

/-- R154, R156: one tick of a clutch. -/
def State.clutchStep (s : State) (k a : Nat) (dm : Int) (i own : Int × Int × Int) : State :=
  let r := s.graft k
  let e := s.get (Obj.ClutchDistance k)
  let dpown := own.1 - r.own
  let s := s.setGraft k { r with cv := i.2.1 }
  let run := fun (s : State) (path : Int) =>
    let w := quintic (travelled path e)
    let s := (s.setGraft k { s.graft k with u := path }).blend k w dm dpown i own
    if w = 1073741824 then s.graftEngaged k a else s
  match s.nat (Obj.GraftState k) with
  | 1 =>
    match crossed (i.1 - dm) i.1 (s.get (Obj.ClutchEngagePosition k)) with
    | some d => run (s.put (Obj.GraftState k) 2) d
    | none => s.blend k 0 dm dpown i own
  | 2 => run s (r.u + dm.natAbs)
  | 3 => s.blend k 1073741824 dm dpown i own
  | 4 => s.disengageStep k a dm dm i own
  | _ => s.setGraft k { s.graft k with po := own.1, vo := own.2.1, ao := own.2.2, own := own.1 }

/-! ### The graft step -/

/-- R149, R152, R153: one tick of a gear, a cam or a trim whose master moved by `dm` to `x`. -/
def State.transform (s : State) (k order : Nat) (dm : Int) (x : Int × Int × Int) : State :=
  let kind := s.nat (Obj.GraftKind k)
  if kind = 1 then s.gearStep k dm x.2.1 x.2.2
  else if kind = 2 then s.camStep k x.1 x.2.1 x.2.2
  else if kind = 3 then s.trimStep k order x.1 x.2.1 x.2.2
  else s

/-- R154: a graft without a clutch that disengages over the clutch distance: its own output is blended out.
(DESIGN CHOICE, unsafe: log entry 64.) -/
def State.blendOut (s : State) (k a order : Nat) (dm : Int) (x own : Int × Int × Int) : State :=
  let r := s.graft k
  let s := (s.setGraft k { r with po := r.raw }).transform k order dm x
  let i := s.graft k
  let s := s.setGraft k { i with raw := i.po, po := r.po }
  s.disengageStep k a dm (i.po - r.raw) (i.po, i.vo, i.ao) own

/-- GRAFT_STEP (R149–R157): the graft transforms its master's value for the next edge; the graft that names a follower
passes the follower's own profile while it is disengaged. -/
def State.graftStep (s : State) (d : Stitch) : State :=
  let k := s.recU d 0 1
  let kind := s.nat (Obj.GraftKind k)
  let a := s.nat (Obj.GraftFollower k)
  let m := s.masterOf k
  let s := m.2
  let s := match m.1 with
    | none => s
    | some x =>
      let r := s.graft k
      let dm := if r.seen then x.1 - r.pm else 0
      let s := s.setGraft k { r with pm := x.1, seen := true }
      if kind = 4 then (if a < 64 then s.clutchStep k a dm x (s.ownState a) else s)
      else if a < 64 ∧ s.get (Obj.GraftState k) = 4 then s.blendOut k a d.order dm x (s.ownState a)
      else s.transform k d.order dm x
  let s := if a < 64 ∧ s.get (Obj.GraftState k) = 0 then
      let o := s.ownState a
      s.setGraft k { s.graft k with po := o.1, vo := o.2.1, ao := o.2.2, own := o.1 }
    else s
  let r := s.graft k
  let s := s.setGraft k { r with ran := true }
  ((s.slotWrite (d.output 0) r.po).slotWrite (d.output 1) r.vo).slotWrite (d.output 2) r.ao

/-- R105, R160: the newest accepted sample of a graft comes into use, with the one accepted before it. -/
def State.takeSample (s : State) (k : Nat) : State :=
  let r := s.graft k
  match r.next with
  | some x =>
    let before := match r.nextEarlier with
      | some y => some y
      | none => r.remote
    s.setGraft k { r with earlier := before, remote := some x, next := none, nextEarlier := none }
  | none => s

/-- What a tick edge brings to a graft: the outputs of the tick before, and a sample that arrived in it (R105, R159). -/
def State.graftEdge (s : State) (k : Nat) : State :=
  let r := s.graft k
  let s := (s.put (Obj.GraftOutputPosition k) (wrapS 64 r.po)).put (Obj.GraftOutputVelocity k) r.vo
  (s.setGraft k { r with ran := false }).takeSample k

/-! ### Engagement (R154, R155) -/

/-- R155: a remote master of the chain is not Present. -/
def State.chainAbsent (s : State) (k : Nat) : Bool :=
  (s.chainOf 128 k).any fun g =>
    (s.get (Obj.GraftMasterSource g) == 4 || s.get (Obj.GraftMasterSource g) == 5) && s.get (Obj.RemoteMasterState g) != 2

/-- R155: the follower is at standstill and the chain's output velocity is within its deadband.
(DEDUCED, unsafe: log entry 65.) -/
def State.graftStill (s : State) (k a : Nat) : Bool :=
  s.atStandstill a && decide ((s.graft k).cv.natAbs ≤ s.nat (Obj.StandstillVelocity a))

/-- R155: at engagement each cam of the chain latches its base for the follower's position `p`, and each gear clears its
remainder; `out` is the position wanted of graft `k`. The answer holds by how much its output was re-based, which is no
increment of the graft that reads it.
(DESIGN CHOICE, unsafe: log entry 64.) -/
def State.latchChain (s : State) (p : Int) : Nat → Nat → Option Int → State × Int
  | 0, _, _ => (s, 0)
  | n + 1, k, out =>
    let kind := s.get (Obj.GraftKind k)
    let u := if s.get (Obj.GraftMasterSource k) = 3 then
        s.latchChain p n (s.nat (Obj.GraftMasterNumber k))
          (if kind = 3 then out.map fun x => x - s.get (Obj.PhaseTrimActual k) else none)
      else (s, 0)
    let s := u.1
    let r := { s.graft k with pm := (s.graft k).pm + u.2 }
    if kind = 1 then
      let s := s.addI64 (Obj.GearFollowerTerm k) (s.get (Obj.GearRemainder k))
      let s := s.put (Obj.GearRemainder k) 0
      (s.setGraft k { r with po := out.getD r.po }, out.getD r.po - r.po)
    else if kind = 2 then
      (s.setGraft k { r with h0 := r.pm / 4294967296, camBase := p - (s.camAt k r.pm).1, off := 0, po := p }, p - r.po)
    else if kind = 3 then (s.setGraft k { r with off := 0, po := r.po + u.2 }, u.2)
    else (s.setGraft k r, 0)

/-- R154: a graft leaves state 0 at command 1. -/
def State.graftGo (s : State) (k a : Nat) : State :=
  let p := (s.ownState a).1
  let s := (s.latchChain p 128 k (some p)).1
  let s := s.setAxis a { s.axis a with engageTo := 0, graftCastOn := none }
  let s := s.put (Obj.AxisState a) axMoving
  let s := s.put (Obj.AxisGraftEngaged a) 1
  if s.get (Obj.GraftKind k) = 4 ∧ s.get (Obj.ClutchDistance k) ≠ 0 then
    let s := s.setGraft k { s.graft k with u := 0, own := p, po := p }
    s.put (Obj.GraftState k) (if s.get (Obj.ClutchEngageMode k) = 2 then 1 else 2)
  else s.graftEngaged k a

/-- R155: the answer to command 1; 0 when it is accepted. -/
def State.engageStatus (s : State) (k a : Nat) : Nat :=
  let st := s.get (Obj.AxisState a)
  let clutch := s.get (Obj.GraftKind k) = 4 ∧ s.get (Obj.ClutchDistance k) ≠ 0
  if s.get Obj.DeviceState ≠ devRun then 0x0703
  else if ¬ (st = axStandby ∨ st = axHolding ∨ st = axMoving) then 0x0703
  else if s.chainAbsent k then 0x0703
  else if ¬ clutch ∧ s.graftStill k a = false then 0x0703
  else 0

/-- R163: the age of the newest sample at the next edge exceeds (2 + L)·C_s, with C_s the sampling interval of the path (R162). -/
def State.masterLate (s : State) (k : Nat) : Bool :=
  let c := if s.get (Obj.GraftMasterSource k) = 4 then s.nat Obj.NetworkCycleTicks * s.tNs else s.tNs
  s.get (Obj.RemoteMasterState k) == 2 && (match (s.graft k).remote with
    | some x => decide ((((2 + s.natInUse (Obj.RemoteLossCycles k)) * c : Nat) : Int) < ((s.tick + 1) * s.tNs : Nat) - x.time)
    | none => false)

/-- R163: a remote master is Lost: its followers detach, and the source is raised. -/
def State.loseMaster (s : State) (k : Nat) : State :=
  let s := s.put (Obj.RemoteMasterState k) 3
  let s := s.each (s.followersOf k) State.graftDetach
  (s.setBit (Obj.GraftStatus k) 2).raiseOnce fkMasterLost k

/-- REMOTE_MASTER_LOST (R163): the age of the newest sample has passed (2 + L)·C_s. -/
def execRemoteMasterLost (k : Nat) (s : State) : Host.Outcome State Fault Refusal :=
  .next (if s.masterLate k then s.loseMaster k else s)

/-- R158: the losses of the remote masters of a chain that fall in this tick apply before a command to its graft. -/
def State.lossesFirst (s : State) (k : Nat) : State :=
  if 128 ≤ k then s else s.each ((s.chainOf 128 k).filter s.masterLate) State.loseMaster

/-- GRAFT_ENGAGE (R154, R155): a follower in Standby casts on first. -/
def execGraftEngage (k : Nat) (s : State) : Host.Outcome State Fault Refusal :=
  let s := s.lossesFirst k
  let a := s.nat (Obj.GraftFollower k)
  .next
    (if 128 ≤ k then s.reply 0x0101
    else if 64 ≤ a then s.reply 0x0703
    else if s.get (Obj.GraftState k) ≠ 0 then s.done
    else
      let st := s.engageStatus k a
      if st ≠ 0 then s.reply st
      else if s.get (Obj.AxisState a) = axStandby then
        let s := s.castBegin a none false
        let s := s.setAxis a { s.axis a with graftCastOn := some k }
        (if s.get (Obj.AxisState a) = axHolding then s.graftGo k a else s).done
      else (s.graftGo k a).done)

/-- R155: a graft that waited for cast-on engages at the edge at which the axis is Holding. -/
def State.graftCastEdge (s : State) (a : Nat) : State :=
  match (s.axis a).graftCastOn with
  | none => s
  | some k =>
    let st := s.get (Obj.AxisState a)
    if st = axHolding ∧ (s.axis a).closing = false then s.graftGo k a
    else if st = axCasting ∨ st = axHolding then s
    else s.setAxis a { s.axis a with graftCastOn := none }

/-- GRAFT_DISENGAGE (R154, R157): disengaging starts, or the follower detaches at once. -/
def execGraftDisengage (k : Nat) (s : State) : Host.Outcome State Fault Refusal :=
  let s := s.lossesFirst k
  let a := s.nat (Obj.GraftFollower k)
  let st := s.get (Obj.GraftState k)
  .next
    (if 128 ≤ k then s.reply 0x0101
    else if 64 ≤ a then s.reply 0x0703
    else if st = 0 ∨ st = 4 ∧ s.get (Obj.ClutchDistance k) ≠ 0 then s.done
    else if s.get (Obj.ClutchDistance k) = 0 then (s.graftDetach a).done
    else
      let w := if st = 3 then 1073741824 else if st = 1 then 0 else s.get (Obj.GraftWeight k)
      let s := s.setGraft k { s.graft k with u := 0, w0 := w, own := (s.graft k).po, raw := (s.graft k).po }
      ((s.put (Obj.GraftState k) 4).ownFromChain a).done)

/-! ### Remote masters (R163) -/

/-- The grafts that read a remote master: source 4 on the plant, 5 on the chain. -/
def State.readersOf (s : State) (plant : Bool) (address j : Nat) : List Nat :=
  (List.range 128).filter fun k =>
    s.get (Obj.GraftKind k) != 0 && s.get (Obj.GraftMasterSource k) == (if plant then 4 else 5) &&
      s.nat (Obj.GraftMasterAddress k) == address && s.nat (Obj.GraftMasterNumber k) == j

/-- R163: an accepted sample for a graft: used from the next edge, and the one accepted before it in the tick with it (R160). -/
def State.masterSample (s : State) (x : MasterSample) (k : Nat) : State :=
  let s := s.setGraft k { s.graft k with next := some x, nextEarlier := (s.graft k).next }
  let s := s.put (Obj.RemoteMasterFlags k) (x.flags % 256 : Nat)
  let s := s.setBitIf (bitAt x.flags 2) (Obj.GraftStatus k) 3
  let s := if s.get (Obj.RemoteMasterState k) = 3 then s.setActive fkMasterLost k false else s
  s.put (Obj.RemoteMasterState k) 2

end Sys2Proof.Machine
end

