-- ==== Sys2Proof/Machine/Span.lean ====
section
/-! DEFINITION. Coupled spans: matrix banks, the span step, group states (spec/06_coupled_spans.md). -/

namespace Sys2Proof.Machine

/-! ### Groups and banks (R164–R171) -/

/-- m, s and p of a group. -/
def State.spanM (s : State) (g : Nat) : Nat := min 8 (s.nat (Obj.SpanMemberCount g))
def State.spanS (s : State) (g : Nat) : Nat := min 16 (s.nat (Obj.SpanStateCount g))
def State.spanP (s : State) (g : Nat) : Nat := s.spanM g + s.nat (Obj.SpanLoadCellCount g)

/-- Whether member `i` sits on this device, and its axis. -/
def State.spanOwn (s : State) (g i : Nat) : Option Nat :=
  let m := s.nat (Obj.SpanMember g i)
  if m ≠ 0xFFFF ∧ m / 256 % 64 = s.nat Obj.JzPosition then some (m % 64) else none

/-- R164: this device runs the group's stitch. -/
def State.spanHome (s : State) (g : Nat) : Bool :=
  s.get (Obj.SpanHome g) != 0xFF && s.get (Obj.SpanHome g) == s.get Obj.JzPosition

/-- R169: the bank size. -/
def State.spanBankSize (s : State) (g : Nat) : Nat :=
  let n := s.spanS g
  let m := s.spanM g
  let p := s.spanP g
  16 + n + p + m + 4 * (n * n + 2 * n * m + 2 * n * p + 8 * m)

/-- The object of a bank. -/
def spanBankKey (g b : Nat) : Nat := if b = 0 then Obj.SpanBank0 g else Obj.SpanBank1 g

/-- R170: a bank is valid: every byte of its size was written and its header matches. -/
def State.spanBankValid (s : State) (g b : Nat) : Bool :=
  let k := spanBankKey g b
  let w := if b = 0 then (s.span g).written0 else (s.span g).written1
  let full := 2 ^ s.spanBankSize g - 1
  w &&& full == full && s.uint k 0 1 == s.spanS g && s.uint k 1 1 == s.spanP g && s.uint k 2 1 == s.spanM g &&
    s.uint k 3 1 == s.nat (Obj.SpanLoopDelay g) && (s.bytes k 16 (s.spanS g + s.spanP g + s.spanM g)).all fun b => decide (b.toNat ≤ 62)

/-- R10, R169: bytes written at an offset of a bank: its reserved bytes are 0, and its shifts are at most 62.
(DEDUCED, unsafe: log entry 137.) -/
def State.spanBytesOk (s : State) (g off : Nat) (data : List Byte) : Bool :=
  (data.mapIdx fun i b => (off + i, b.toNat)).all fun x =>
    !(decide (4 ≤ x.1 ∧ x.1 < 16) && x.2 != 0) && !(decide (16 ≤ x.1 ∧ x.1 < 16 + s.spanS g + s.spanP g + s.spanM g) && decide (62 < x.2))

/-- R171: the bank that is selected: by the slot, else by `SpanBankSelect`. -/
def State.spanSelected (s : State) (g : Nat) : Nat :=
  let src := s.nat (Obj.SpanBankSource g)
  if src = 0xFFFF then s.nat (Obj.SpanBankSelect g) else (s.slotPrev src % 2).toNat

/-- Shift `i` of the bank in use: state rows, then measurement rows, then output rows. -/
def State.spanShift (s : State) (g i : Nat) : Nat := s.uint (spanBankKey g (s.nat (Obj.SpanActiveBank g))) (16 + i) 1

/-- Coefficient `i` of the bank's data area. -/
def State.spanCoef (s : State) (g i : Nat) : Int :=
  s.sint (spanBankKey g (s.nat (Obj.SpanActiveBank g))) (16 + s.spanS g + s.spanP g + s.spanM g + 4 * i) 4

/-- R171: the active bank at a tick edge. -/
def State.spanBankEdge (s : State) (g : Nat) : State :=
  let b := s.spanSelected g
  if s.spanBankValid g b || s.nat (Obj.SpanBankSource g) == 0xFFFF then s.put (Obj.SpanActiveBank g) b
  else s.setBit (Obj.SpanStatus g) 7

/-- SPAN_BANK_WRITE (R49, R169, R170): the active bank is not written. -/
def execSpanBankWrite (g b off : Nat) (data : List Byte) (s : State) : Host.Outcome State Fault Refusal :=
  .next
    (if 8 ≤ g then s.reply 0x0101
    else if 2 ≤ b then s.reply 0x0102
    else if 4194304 < data.length ∨ 4408 < off + data.length then s.reply 0x0303
    else if s.nat (Obj.SpanActiveBank g) = b then s.reply 0x0501
    else if s.spanBytesOk g off data = false then s.reply 0x0301
    else
      let s := s.store (spanBankKey g b) off data
      let mask := (2 ^ data.length - 1) * 2 ^ off
      let r := s.span g
      (s.setSpan g (if b = 0 then { r with written0 := r.written0 ||| mask } else { r with written1 := r.written1 ||| mask })).done)

/-- SPAN_BANK_SELECT (R171). -/
def execSpanBankSelect (g value : Nat) (s : State) : Host.Outcome State Fault Refusal :=
  .next
    (if 8 ≤ g then s.reply 0x0101
    else if 2 ≤ value ∨ s.spanBankValid g value = false then s.reply 0x0301
    else (s.put (Obj.SpanBankSelect g) value).done)

/-! ### What an edge brings (R168, R176, R177) -/

/-- R168: w and y of an axis at the latest edge. -/
def State.spanSense (s : State) (a : Nat) : Int × Int := (s.slotPrev (axisSlot a + 5), s.slotPrev (axisSlot a + 4))

/-- R178: this device's tag of a group, over its group objects.
(DESIGN CHOICE, safe: log entry 67.) -/
def State.spanTag (s : State) (g : Nat) : Nat :=
  Config.spanTag
    ([s.get (Obj.SpanHome g), s.get (Obj.SpanMemberCount g), s.get (Obj.SpanStateCount g), s.get (Obj.SpanLoadCellCount g),
      s.get (Obj.SpanIntegratorCount g), s.get (Obj.SpanBankSource g)] ++
     ((List.range 8).flatMap fun i =>
       [s.get (Obj.SpanMember g i), s.get (Obj.SpanTrimSlot g i), s.get (Obj.SpanIntegratorState g i)]) ++
     ((List.range 16).map fun i => s.get (Obj.SpanRefSlot g i)) ++
     ((List.range 7).flatMap fun j =>
       [s.get (Obj.SpanLoadCellSlot g j), s.get (Obj.SpanTensionMap g j), s.get (Obj.SpanTensionMin g j), s.get (Obj.SpanTensionMax g j)]))

/-- R168: w and y of a group's members: those of this device as the slots hold them, those of the others as they came. -/
def State.spanCapture (s : State) (g : Nat) (remote : List (Int × Int)) : List (Int × Int) :=
  (List.range (s.spanM g)).map fun i => match s.spanOwn g i with
    | some a => s.spanSense a
    | none => remote.getD i (0, 0)

/-- R168, R176: the members' values at an edge; a remote value that has not come leaves the earlier one. A device that is not the
home publishes those of its members. -/
def State.spanEdge (s : State) (g : Nat) : State :=
  let m := s.spanM g
  if m = 0 then s
  else if s.spanHome g then
    let r := s.span g
    let remote := (List.range m).map fun i => (r.arrived.lookup i).getD (r.wy.getD i (0, 0))
    let missing := (List.range m).filter fun i => (s.spanOwn g i).isNone && (r.arrived.lookup i).isNone
    (s.setSpan g { r with wy := s.spanCapture g remote, wyPrev := r.wy, arrived := [], missing := missing }).spanBankEdge g
  else if s.get (Obj.SpanHome g) = 0xFF then s
  else
    let home := some (s.nat (Obj.SpanHome g))
    let own := (List.range m).filterMap (s.spanOwn g)
    let s := own.foldl (fun s a => s.exPost home 4 g (intLE 4 (s.spanSense a).1 ++ intLE 4 (s.spanSense a).2)) s
    if own.isEmpty then s else s.exPost home 6 g (natLE 8 (s.spanTag g % 4294967296))

/-- R20, R168, R177: at the input cut-off the values of network axes whose record came in the window count, and a remote member
without its values makes the tick stale. -/
def State.spanCutoff (s : State) (g : Nat) : State :=
  if s.spanM g = 0 ∨ s.spanHome g = false then s
  else
    let r := s.span g
    let run := s.get (Obj.SpanState g) ≠ 0 ∧ r.missing ≠ []
    let s := s.setSpan g { r with wy := s.spanCapture g r.wy, missing := [], staleRun := if run then r.staleRun + 1 else 0 }
    s.setBitIf (decide run) (Obj.SpanStatus g) 3

/-! ### The span step (R172–R175) -/

/-- The sum of products of two lists. -/
def dot (x y : List Int) : Int := (List.zipWith (fun a b => a * b) x y).sum

/-- Row `r` of a matrix of `n` columns that starts at coefficient `base`. -/
def State.spanRow (s : State) (g base n r : Nat) : List Int := (List.range n).map fun k => s.spanCoef g (base + r * n + k)

/-- The observer state x of a group. -/
def State.spanX (s : State) (g : Nat) : List Int := (List.range (s.spanS g)).map fun k => s.get (Obj.SpanStateEstimate g k)

/-- The references of the states as produced in this tick, or as held during a bind-off ramp (R172, R180). -/
def State.spanRefs (s : State) (g order : Nat) : List Int :=
  let now := (List.range (s.spanS g)).map fun k =>
    let slot := s.nat (Obj.SpanRefSlot g k)
    if slot = 0xFFFF then 0 else s.readSlot order slot
  (s.span g).refsHeld.getD now

/-- R180: the references as published at the latest edge, which a bind-off ramp that starts there holds. -/
def State.spanRefsAtEdge (s : State) (g : Nat) : List Int :=
  (List.range (s.spanS g)).map fun k =>
    let slot := s.nat (Obj.SpanRefSlot g k)
    if slot = 0xFFFF then 0 else s.slotPrev slot

/-- R180: a bind-off ramp of the group that holds the members, directly or as graft followers, runs. -/
def State.spanBinding (s : State) (g : Nat) : Bool :=
  (s.spanLocal g).any fun a => (s.groupsHolding a).any fun b => (s.bind b).phase == 2

/-- Write a list of values into consecutive objects, saturated to 32 bits; whether a saturation acted. -/
def State.putSat (s : State) (k : Nat → Nat) (l : List Int) : Bool × State :=
  (l.any fun x => sat32 x != x, (l.mapIdx fun i x => (i, x)).foldl (fun s p => s.put (k p.1) (sat32 p.2)) s)

/-- R172: the observer and the controller of one tick: the outputs u.
(DESIGN CHOICE, unsafe: log entry 66.) -/
def State.spanCompute (s : State) (g order : Nat) : List Int × State :=
  let n := s.spanS g
  let m := s.spanM g
  let p := s.spanP g
  let bB := n * n
  let bC := bB + n * m
  let bL := bC + p * n
  let bK := bL + n * p
  let bKi := bK + m * n
  let rt := s.span g
  let wy := if s.nat (Obj.SpanLoopDelay g) = 1 then rt.wy else
    (List.range m).map fun i => if (s.spanOwn g i).isSome then rt.wyPrev.getD i (0, 0) else rt.wy.getD i (0, 0)
  let w := wy.map fun x => x.1
  let y := (wy.map fun x => x.2) ++ (List.range (p - m)).map fun j => s.slotPrev (s.nat (Obj.SpanLoadCellSlot g j))
  let x := s.spanX g
  let e0 := y.mapIdx fun r v => v - rsh (dot (s.spanRow g bC n r) x) (s.spanShift g (n + r))
  let e := e0.map sat32
  let xn0 := (List.range n).map fun i =>
    rsh (dot (s.spanRow g 0 n i) x + dot (s.spanRow g bB m i) w + dot (s.spanRow g bL p i) e) (s.spanShift g i)
  let xn := xn0.map sat32
  let refs := s.spanRefs g order
  let r1 := s.putSat (Obj.SpanResidual g) e0
  let r2 := r1.2.putSat (Obj.SpanStateEstimate g) xn0
  let s := r2.2
  let st := s.get (Obj.SpanState g)
  let frozen := fun (j : Nat) (inc : Int) =>
    (List.range m).any fun i => decide (0 < rt.clampSign.getD i 0 * (s.spanCoef g (bKi + 8 * i + j) * inc))
  let z := (List.range (min 8 (s.nat (Obj.SpanIntegratorCount g)))).map fun j =>
    let q := s.nat (Obj.SpanIntegratorState g j)
    let inc := refs.getD q 0 - xn.getD q 0
    let z := s.get (Obj.SpanIntegral g j)
    if st = 2 ∧ frozen j inc = false then z + inc else z
  let s := (z.mapIdx fun j v => (j, v)).foldl (fun s p => s.put (Obj.SpanIntegral g p.1) (sat64 p.2)) s
  let zs := z.map sat64
  let err := List.zipWith (fun a b => a - b) xn refs
  let u0 := (List.range m).map fun i =>
    rsh (-(dot (s.spanRow g bK n i) err) + dot (s.spanRow g bKi 8 i) zs) (s.spanShift g (n + p + i))
  let sat := r1.1 || r2.1 || (z.any fun v => sat64 v != v) || (u0.any fun v => sat32 v != v)
  (u0.map sat32, s.setBitIf sat (Obj.SpanStatus g) 6)

/-- R174: the trim of member `i` for a target. -/
def State.spanTrim (s : State) (g i : Nat) (target : Int) : State :=
  let astep := qdiv (s.get (Obj.SpanTrimSlew g) * 16 * s.tNs) 1000000000
  let dv0 := s.get (Obj.SpanTrimVelocity g i)
  let lim := s.get (Obj.SpanTrimLimit g i)
  let dv1 := clampI target (dv0 - astep) (dv0 + astep)
  let dv := clampI dv1 (-lim) lim
  let r := s.span g
  let a := dv * 65536 * s.tNs + r.carry.getD i 0
  let dp := a.tdiv 1000000000
  let s := s.setBitIf (dv != dv1) (Obj.SpanStatus g) 5
  let s := s.put (Obj.SpanTrimVelocity g i) dv
  let s := s.addI64 (Obj.SpanTrimPosition g i) dp
  let pad := fun (l : List Int) => if l.length = 8 then l else List.replicate 8 0
  s.setSpan g { r with carry := (pad r.carry).set i (a - dp * 1000000000), clampSign := (pad r.clampSign).set i (dv1 - dv).sign }

/-- R174, R179: in state 4 the trim velocity drives P toward 0. The distance a trim has covered, P with its carry, is a whole number
of trim velocities of one tick; the target takes no more of it than is left and than the slew limit can still stop within.
(DESIGN CHOICE, unsafe: log entry 66.) -/
def State.spanReleaseTarget (s : State) (g i : Nat) : Int :=
  let p := s.get (Obj.SpanTrimPosition g i) * 1000000000 + (s.span g).carry.getD i 0
  let left := (p.natAbs / (65536 * s.tNs) : Nat)
  let astep := (qdiv (s.get (Obj.SpanTrimSlew g) * 16 * s.tNs) 1000000000).toNat
  -- v falls by astep in each tick, so that the distance still to come is v·(v + astep) / (2·astep)
  let stopV := Nat.sqrt (2 * astep * left)
  Int.neg (p.sign * min (s.get (Obj.SpanTrimLimit g i)) (min left (max 1 stopV) : Nat))

/-- R179: one tick of releasing for member `i`. A tick length that changed since may leave less than one unit of velocity, which
ends with the release.
(DESIGN CHOICE, unsafe: log entry 66.) -/
def State.spanReleaseTrim (s : State) (g i : Nat) : State :=
  let s := s.spanTrim g i (s.spanReleaseTarget g i)
  let p := s.get (Obj.SpanTrimPosition g i) * 1000000000 + (s.span g).carry.getD i 0
  if s.get (Obj.SpanTrimVelocity g i) = 0 ∧ p.natAbs < 65536 * s.tNs then
    let s := s.put (Obj.SpanTrimPosition g i) 0
    s.setSpan g { s.span g with carry := (s.span g).carry.set i 0 }
  else s

/-- R175: the tension estimates and their run counters. -/
def State.spanTension (s : State) (g : Nat) : State :=
  s.each (List.range 7) fun s j =>
    let q := s.nat (Obj.SpanTensionMap g j)
    if q = 0xFF then s
    else
      let f := s.get (Obj.SpanStateEstimate g q)
      let s := s.put (Obj.SpanTensionEstimate g j) f
      let out := f < s.get (Obj.SpanTensionMin g j) ∨ s.get (Obj.SpanTensionMax g j) < f
      let r := s.span g
      s.setSpan g { r with rangeRun := Sparse.put (fun _ => 0) r.rangeRun j (if out then (r.rangeRun.lookup j).getD 0 + 1 else 0) }

/-- R179: every member is in Holding, Moving or Stopping; of a member on another device no record tells it.
(DESIGN CHOICE, safe: log entry 138.) -/
def State.spanMembersRun (s : State) (g : Nat) : Bool :=
  (List.range (s.spanM g)).all fun i => match s.spanOwn g i with
    | some a => decide (2 ≤ s.get (Obj.AxisState a) ∧ s.get (Obj.AxisState a) ≤ 4)
    | none => Config.memberRuns (s.nat (Obj.SpanMember g i)) s.tick

/-- R179: the residuals lie within their limits; a limit of 0 permits nothing. -/
def State.spanSettling (s : State) (g : Nat) : Bool :=
  (List.range (s.spanP g)).all fun r =>
    s.natInUse (Obj.SpanResidualLimit g r) != 0 && decide ((s.get (Obj.SpanResidual g r)).natAbs ≤ s.natInUse (Obj.SpanResidualLimit g r))

/-- R178: the tag of some member's device differs from this device's. -/
def State.spanMismatch (s : State) (g : Nat) : Bool := !(s.span g).differing.isEmpty

/-- R178, R179: a member leaves the allowed states, or a tag differs: a group in states 1 and 2 is suspended. -/
def State.spanDrop (s : State) (g : Nat) : State :=
  let st := s.nat (Obj.SpanState g)
  let lost := !s.spanMembersRun g
  let s := s.setBitIf (lost && (st = 1 || st = 2)) (Obj.SpanStatus g) 1
  let s := s.setBitIf (s.spanMismatch g) (Obj.SpanStatus g) 8
  if (st = 1 ∨ st = 2) ∧ (lost = true ∨ s.spanMismatch g = true) then s.put (Obj.SpanState g) 3 else s

/-- R179: the transitions that the residuals and the stale ticks have brought due. -/
def State.spanDue (s : State) (g : Nat) : State :=
  let s := s.spanDrop g
  let st := s.get (Obj.SpanState g)
  let r := s.span g
  if (st = 1 ∨ st = 2) ∧ s.natInUse (Obj.SpanStaleLimit g) < r.staleRun then (s.put (Obj.SpanState g) 3).raiseOnce fkSpanStale g
  else if st = 1 ∧ s.natInUse (Obj.SpanSettleTicks g) < r.settleRun then s.put (Obj.SpanState g) 2
  else if st = 2 ∧ s.natInUse (Obj.SpanSettleTicks g) < r.divergeRun then (s.put (Obj.SpanState g) 3).setBit (Obj.SpanStatus g) 2
  else s

/-- Clear every trim, carry, integral and state of a group (R179). -/
def State.spanZero (s : State) (g : Nat) (trims : Bool) : State :=
  let s := s.each (List.range 16) fun s k => s.put (Obj.SpanStateEstimate g k) 0
  let s := s.each (List.range 8) fun s j => s.put (Obj.SpanIntegral g j) 0
  if trims then
    let s := s.each (List.range 8) fun s i => (s.put (Obj.SpanTrimVelocity g i) 0).put (Obj.SpanTrimPosition g i) 0
    s.setSpan g { s.span g with carry := [], clampSign := [], posPrev := [] }
  else s

/-- R176: the trims of this tick go to their slots, or to the remote members, stamped for the next edge. -/
def State.spanOut (s : State) (g : Nat) : State :=
  let d := s.nat (Obj.SpanLoopDelay g)
  let r := s.span g
  let ps := (List.range (s.spanM g)).map fun i => s.get (Obj.SpanTrimPosition g i)
  let s := s.each (List.range (s.spanM g)) fun s i =>
    let p := ps.getD i 0
    match s.spanOwn g i with
    | some _ => s.slotWrite (s.nat (Obj.SpanTrimSlot g i)) (if d = 1 then p else r.posPrev.getD i 0)
    | none => s.exPost (some (s.nat (Obj.SpanMember g i) / 256)) 5 g (intLE 8 p)
  s.setSpan g { s.span g with posPrev := ps }

/-- SPAN_STEP (R172–R179): one tick of a group. -/
def State.spanStep (s : State) (d : Stitch) : State :=
  let g := s.recU d 0 1
  let binding := s.spanBinding g
  let held := (s.span g).refsHeld
  let s := s.setSpan g { s.span g with refsHeld := if binding then some (held.getD (s.spanRefsAtEdge g)) else none }
  let s := s.spanDrop g
  let st := s.nat (Obj.SpanState g)
  let s := if st = 0 ∨ st = 4 then s.setSpan g { s.span g with rangeRun := [] } else s
  if st = 0 then s.spanOut g
  else if st = 4 then
    let s := s.each (List.range (s.spanM g)) fun s i => s.spanReleaseTrim g i
    let s := s.spanOut g
    if (List.range (s.spanM g)).all fun i => s.get (Obj.SpanTrimVelocity g i) == 0 && s.get (Obj.SpanTrimPosition g i) == 0 then
      s.put (Obj.SpanState g) 0
    else s
  else
    let c := s.spanCompute g d.order
    let s := c.2
    let s := s.each (List.range (s.spanM g)) fun s i =>
      s.spanTrim g i (if st = 2 then c.1.getD i 0 else s.get (Obj.SpanTrimVelocity g i))
    let s := s.spanTension g
    let ok := s.spanSettling g
    let r := s.span g
    let s := s.setSpan g { r with settleRun := if ok && st = 1 then r.settleRun + 1 else 0,
                                  divergeRun := if !ok && st = 2 then r.divergeRun + 1 else 0 }
    s.spanOut g

/-! ### Group states (R175, R177–R179) -/

/-- R179: the entry conditions of command 1; 0 when they hold. -/
def State.spanStartStatus (s : State) (g : Nat) : Nat :=
  if s.get (Obj.SpanMemberCount g) = 0 then 0x0402
  else if s.spanBankValid g (s.spanSelected g) = false then 0x0402
  else if s.spanMismatch g then 0x0402
  else if s.spanMembersRun g = false then 0x0703
  else 0

/-- SPAN_START (R178, R179): judged in the state that the transitions due in the tick bring. -/
def execSpanStart (g : Nat) (s : State) : Host.Outcome State Fault Refusal :=
  .next
    (if 8 ≤ g then s.reply 0x0101
    else if s.spanHome g = false then s.reply 0x0701
    else
      let s := s.spanDue g
      let st := s.nat (Obj.SpanState g)
      if st = 1 ∨ st = 2 then s.done
      else if s.spanStartStatus g ≠ 0 then s.reply (s.spanStartStatus g)
      else
        let s := if st = 0 then s.spanZero g true else s
        let s := s.setSpan g { s.span g with settleRun := 0, divergeRun := 0, staleRun := 0, rangeRun := [] }
        (s.put (Obj.SpanState g) 1).done)

/-- SPAN_RELEASE (R179): judged in the state that the transitions due in the tick bring. -/
def execSpanRelease (g : Nat) (s : State) : Host.Outcome State Fault Refusal :=
  .next
    (if 8 ≤ g then s.reply 0x0101
    else if s.spanHome g = false then s.reply 0x0701
    else
      let s := s.spanDue g
      let st := s.nat (Obj.SpanState g)
      if st = 0 ∨ st = 4 then s.done else (s.put (Obj.SpanState g) 4).done)

/-- SPAN_SETTLED (R179): converging, every residual within its limit for more than `SpanSettleTicks` ticks. -/
def execSpanSettled (g : Nat) (s : State) : Host.Outcome State Fault Refusal :=
  .next (if s.get (Obj.SpanState g) = 1 ∧ s.natInUse (Obj.SpanSettleTicks g) < (s.span g).settleRun then s.put (Obj.SpanState g) 2 else s)

/-- SPAN_OBSERVER_DIVERGED (R179). -/
def execSpanObserverDiverged (g : Nat) (s : State) : Host.Outcome State Fault Refusal :=
  .next (if s.get (Obj.SpanState g) = 2 ∧ s.natInUse (Obj.SpanSettleTicks g) < (s.span g).divergeRun then
      (s.put (Obj.SpanState g) 3).setBit (Obj.SpanStatus g) 2
    else s)

/-- SPAN_TENSION_OUT_OF_RANGE (R175): a used estimate lies outside its bounds for more than `SpanRangeTicks` ticks. -/
def execSpanTensionOutOfRange (g j : Nat) (s : State) : Host.Outcome State Fault Refusal :=
  .next (if s.natInUse (Obj.SpanRangeTicks g) < ((s.span g).rangeRun.lookup j).getD 0 then
      (s.setBit (Obj.SpanStatus g) 4).raiseOnce fkSpanRange g
    else s)

/-- SPAN_DATA_STALE (R177): more than `SpanStaleLimit` consecutive stale ticks suspend the group. -/
def execSpanDataStale (g : Nat) (s : State) : Host.Outcome State Fault Refusal :=
  let st := s.get (Obj.SpanState g)
  .next (if s.natInUse (Obj.SpanStaleLimit g) < (s.span g).staleRun ∧ (st = 1 ∨ st = 2) then
      (s.put (Obj.SpanState g) 3).raiseOnce fkSpanStale g
    else s)

/-- R175, R177: the conditions of a group's fault sources that have ended, at a tick edge. -/
def State.spanClear (s : State) (g : Nat) : State :=
  let r := s.span g
  let s := if s.faultActive fkSpanRange g && r.rangeRun.isEmpty then s.setActive fkSpanRange g false else s
  if s.faultActive fkSpanStale g && r.staleRun == 0 then s.setActive fkSpanStale g false else s

end Sys2Proof.Machine
end

