-- ==== Sys2Proof/Machine/Loops.lean ====
section
/-! DEFINITION. Position and velocity loops, filters, limiters, the setpoint stitches and network axes
(spec/07_servo_loops.md; records R497–R499). -/

namespace Sys2Proof.Machine

/-! ### Gain sets (R189, R202) -/

/-- R202: the loops of an axis run degraded: a ride-through, or a network axis that reports degraded feedback. -/
def State.degraded (s : State) (a : Nat) : Bool := if isLocal a then (s.sl a).riding else (s.axis a).netDegraded

/-- R189, R202: the gain set in use is chosen at a tick edge.
(DEDUCED, unsafe: log entry 68.) -/
def State.gainEdge (s : State) (a : Nat) : State :=
  let ride := s.nat (Obj.LoopRideThroughGainSet a)
  let src := s.nat (Obj.LoopGainSource a)
  if s.degraded a && ride != 0xFF then s.put (Obj.LoopGainActive a) ride
  else if src = 0xFFFF then (if s.degraded a then s else s.put (Obj.LoopGainActive a) (s.get (Obj.LoopGainSelect a)))
  else
    let g := (s.slotPrev src % 4).toNat
    if s.flag (Obj.GainSetEnable a g) then s.put (Obj.LoopGainActive a) g else s.setBit (Obj.LoopStatus a) 6

/-- The parameters of a PI or PID stitch (R497). -/
structure Gains where
  gp : Int
  fp : Nat
  gi : Int
  fi : Nat
  gd : Int
  fd : Nat
  gff : Int
  fff : Nat
  alpha : Int
  ilim : Int
  hi : Int
  lo : Int
  deriving DecidableEq, Repr

/-- R497: the gains of a stitch: inline, or the active set of its axis. -/
def State.gainsOf (s : State) (d : Stitch) : Gains :=
  let src := s.recU d 0 1
  let a := s.recU d 1 1
  let g := s.nat (Obj.LoopGainActive a)
  if src = 1 then
    { gp := s.get (Obj.PosKp a g), fp := s.nat (Obj.PosKpShift a g), gi := s.get (Obj.PosKi a g), fi := s.nat (Obj.PosKiShift a g),
      gd := if d.kind = kindPID then s.get (Obj.PosKd a g) else 0, fd := s.nat (Obj.PosKdShift a g),
      gff := s.get (Obj.VelFfGain a g), fff := s.nat (Obj.VelFfShift a g), alpha := s.get (Obj.PosDFilter a g),
      ilim := s.get (Obj.PosIntLimit a g), hi := s.get (Obj.VelocityLimit a), lo := -(s.get (Obj.VelocityLimit a)) }
  else if src = 2 then
    { gp := s.get (Obj.VelKp a g), fp := s.nat (Obj.VelKpShift a g), gi := s.get (Obj.VelKi a g), fi := s.nat (Obj.VelKiShift a g),
      gd := 0, fd := 0, gff := s.get (Obj.AccFfGain a g), fff := s.nat (Obj.AccFfShift a g), alpha := 1073741824,
      ilim := s.get (Obj.VelIntLimit a g), hi := s.get (Obj.TorqueLimitPositive a), lo := -(s.get (Obj.TorqueLimitNegative a)) }
  else
    { gp := s.recI d 4 4, fp := s.recU d 28 1, gi := s.recI d 8 4, fi := s.recU d 29 1, gd := s.recI d 12 4, fd := s.recU d 30 1,
      gff := s.recI d 16 4, fff := s.recU d 31 1, alpha := s.recI d 20 4, ilim := s.recU d 24 4, hi := s.recI d 32 8,
      lo := s.recI d 40 8 }

/-- The gains as a list, to tell a change (R190).
(DEDUCED, unsafe: log entry 68.) -/
def Gains.list (g : Gains) : List Int := [g.gp, g.fp, g.gi, g.fi, g.gd, g.fd, g.gff, g.fff, g.alpha, g.ilim]

/-- What a PI or PID stitch computes in a tick (R187). -/
structure PidOut where
  u : Int
  e : Int
  clamped : Bool
  conflict : Bool
  p : Int
  ff : Int
  yEff : Int
  rt : StitchRt
  deriving DecidableEq, Repr

/-- R187, R188, R190: one tick of a PI or PID stitch. `lead` is the feedback lead of R185.
(DEDUCED, unsafe: log entry 68.) -/
def pidCompute (g : Gains) (rt : StitchRt) (r y lead xff xtr hi lo : Int) (track : Bool) : PidOut :=
  let yEff := y + lead
  let rt := if rt.started then rt else { rt with started := true, yPrev := yEff, i := 0, dt := 0, gains := g.list }
  let e := sat64 (r - yEff)
  let p := rsh (g.gp * e) g.fp
  let pOld := rsh (rt.gains.getD 0 0 * e) (rt.gains.getD 1 0).toNat
  let i0 := if rt.gains = g.list then rt.i else clampI (rt.i + pOld - p) (-g.ilim) g.ilim
  let dr := rsh (g.gd * (rt.yPrev - yEff)) g.fd
  let dt := rt.dt + rsh (g.alpha * (dr - rt.dt)) 30
  let ff := rsh (g.gff * xff) g.fff
  let di := rsh (g.gi * e) g.fi
  let s := p + i0 + di + dt + ff
  let conflict := decide (hi < lo)
  let i := if track then clampI (xtr - p - dt - ff) (-g.ilim) g.ilim
    else if conflict then i0
    else if (hi < s ∧ 0 < di) ∨ (s < lo ∧ di < 0) then i0
    else clampI (i0 + di) (-g.ilim) g.ilim
  let sum := p + i + dt + ff
  let u := if conflict then 0 else clampI sum lo hi
  { u := u, e := e, clamped := conflict || u != sum, conflict := conflict, p := p, ff := ff, yEff := yEff,
    rt := { rt with i := i, dt := dt, yPrev := yEff, gains := g.list } }

/-! ### The PI and PID stitch -/

/-- R203: write a trace node of an axis to the slots that choose it.
(DEDUCED, unsafe: log entry 69.) -/
def State.traceNode (s : State) (a : Nat) (p : Nat × Int) : State :=
  s.each (List.range 4) fun s j => if s.nat (Obj.LoopTraceNode a j) = p.1 then s.slotWrite (s.nat (Obj.LoopTraceSlot a j)) p.2 else s

/-- R124: the stitch that takes the setpoint entries of its axis: its position loop, else its velocity loop.
(DEDUCED, unsafe: log entry 63.) -/
def State.isConsumer (s : State) (d : Stitch) : Bool :=
  let src := s.recU d 0 1
  let a := s.recU d 1 1
  src == 1 || (src == 2 && !(s.rowTable.any fun x => (x.kind == kindPI || x.kind == kindPID) && s.recU x 0 1 == 1 && s.recU x 1 1 == a))

/-- R40, R124: the axis's entry for the next edge is taken; with none while its profile runs, an underrun is recorded.
(DEDUCED, unsafe: log entry 63.) -/
def State.consume (s : State) (d : Stitch) : Bool × State :=
  let a := s.recU d 1 1
  if !s.isConsumer d || s.leaderOf a != a || !s.profileRuns a then (true, s)
  else
    let t := s.takeEntry a
    if t.1 then t
    else
      let s := t.2.setAxis a { t.2.axis a with underruns := ((t.2.axis a).underruns + 1) % 2 ^ 64, starved := s.tick + 1 }
      (false, (s.setBit Obj.RowStatus 5).setBit (Obj.AxisStatus a) 6)

/-- R40: the setpoint queue that an axis follows was empty in this tick: feed-forward is zero. -/
def State.starved (s : State) (a : Nat) : Bool := (s.axis (s.leaderOf a)).starved == s.tick + 1

/-- R194: the following error of a position loop and its run of ticks beyond the limit. -/
def State.followStep (s : State) (a : Nat) (e : Int) : State :=
  let s := s.put (Obj.FollowingErrorActual a) e
  let lim := s.nat (if s.degraded a then Obj.FollowingErrorLimitDegraded a else Obj.FollowingErrorLimit a)
  let r := s.axis a
  let beyond := r.closed && !r.closing && lim != 0 && decide (lim < e.natAbs)
  let s := s.setAxis a { r with followRun := if beyond then r.followRun + 1 else 0 }
  if !beyond && s.faultActive fkFollowing a then s.setActive fkFollowing a false else s

/-- PID_STEP (R185–R190): a PI or PID stitch.
(DEDUCED, unsafe: log entry 69.) -/
def State.pidStep (s : State) (d : Stitch) : State :=
  let src := s.recU d 0 1
  let a := s.recU d 1 1
  let c := s.consume d
  let s := c.2
  let g := s.gainsOf d
  let held := !c.1 && !s.flag (Obj.AxisGraftEngaged a)
  let r := if held && s.slotType (d.input 0) == 8 then (s.axis a).sp else s.inVal d 0
  let xff := if held || (src != 0 && s.starved a) then 0 else if d.wired 3 then s.inVal d 3 else 0
  let lead := qdiv (s.inVal d 2 * 65536 * (s.recU d 3 1 * s.tNs : Nat)) 1000000000
  let lead := if s.recU d 3 1 = 0 then 0 else lead
  let rt := s.stitch d.order
  let y := s.inVal d 1
  let rt := if src ≠ 0 ∧ (s.axis a).newSource = true ∧ s.slotType (d.input 0) = 8 then { rt with yPrev := y + lead } else rt
  let hi := if d.wired 6 then min g.hi (s.inVal d 6) else g.hi
  let lo := if d.wired 7 then max g.lo (s.inVal d 7) else g.lo
  let o := pidCompute g rt r y lead xff (s.inVal d 4) hi lo (d.wired 5 && s.inVal d 5 != 0)
  let s := s.setStitch d.order o.rt
  let s := s.setBitIf (o.conflict && src != 0) (Obj.LoopStatus a) 5
  let s := s.setBitIf (o.clamped && src == 1) (Obj.LoopStatus a) 3
  let s := s.setBitIf (o.clamped && src == 2) (Obj.LoopStatus a) 4
  let s := (((s.slotWrite (d.output 0) o.u).slotWrite (d.output 1) o.e).slotWrite (d.output 2) (b2i o.clamped)).slotWrite (d.output 3) o.rt.i
  if src = 1 then
    let s := s.followStep a o.e
    [(1, o.p), (2, o.rt.i), (3, o.rt.dt), (4, o.ff), (8, o.yEff)].foldl (fun s p => s.traceNode a p) s
  else if src = 2 then [(5, o.p), (6, o.rt.i), (7, o.ff)].foldl (fun s p => s.traceNode a p) s
  else s

/-- FOLLOWING_ERROR (R194): the error exceeds the limit in force for more than `FollowingErrorTicks` ticks. -/
def execFollowingError (a : Nat) (s : State) : Host.Outcome State Fault Refusal :=
  .next (if s.natInUse (Obj.FollowingErrorTicks a) < (s.axis a).followRun then
      (s.setBit (Obj.LoopStatus a) 7).raiseOnce fkFollowing a
    else s)

/-! ### Biquads and limiters (R191–R193) -/

/-- R498: the filter type and the coefficients b0, b1, b2, a1, a2 of a biquad stitch. -/
def State.biquadOf (s : State) (d : Stitch) : Nat × Int × Int × Int × Int × Int :=
  let a := s.recU d 2 1
  match s.recU d 0 1 with
  | 1 => (s.nat (Obj.FilterVelocityType a), s.get (Obj.FilterVelocityB0 a), s.get (Obj.FilterVelocityB1 a),
      s.get (Obj.FilterVelocityB2 a), s.get (Obj.FilterVelocityA1 a), s.get (Obj.FilterVelocityA2 a))
  | 2 => (s.nat (Obj.FilterTorqueType a), s.get (Obj.FilterTorqueB0 a), s.get (Obj.FilterTorqueB1 a),
      s.get (Obj.FilterTorqueB2 a), s.get (Obj.FilterTorqueA1 a), s.get (Obj.FilterTorqueA2 a))
  | _ => (s.recU d 3 1, s.recI d 4 4, s.recI d 8 4, s.recI d 12 4, s.recI d 16 4, s.recI d 20 4)

/-- BIQUAD_STEP (R191, R192). -/
def State.biquadStep (s : State) (d : Stitch) : State :=
  let x := s.inVal d 0
  let c := s.biquadOf d
  let r := s.stitch d.order
  let x0 := x * 65536
  if c.1 = 0 then
    (s.setStitch d.order { r with started := true, x1 := x0, x2 := x0, y1 := x0, y2 := x0 }).slotWrite (d.output 0) x
  else
    let acc := c.2.1 * x0 + c.2.2.1 * r.x1 + c.2.2.2.1 * r.x2 - c.2.2.2.2.1 * r.y1 - c.2.2.2.2.2 * r.y2
    let raw := rsh acc 30
    let y0 := clampI raw (-(2 ^ 47)) (2 ^ 47 - 1)
    let s := s.setStitch d.order { r with started := true, x2 := r.x1, x1 := x0, y2 := r.y1, y1 := y0 }
    let s := s.slotWrite (d.output 0) (rsh y0 16)
    s.setBitIf (y0 != raw && d.output 0 != unwired) (Obj.SlotFlags (d.output 0)) 1

/-- LIMITER_STEP (R193, R499). -/
def State.limiterStep (s : State) (d : Stitch) : State :=
  let src := s.recU d 0 1
  let a := s.recU d 2 1
  let hi := if src = 1 then s.get (Obj.VelocityLimit a) else if src = 2 then s.get (Obj.TorqueLimitPositive a) else s.recI d 8 8
  let lo := if src = 1 then -(s.get (Obj.VelocityLimit a)) else if src = 2 then -(s.get (Obj.TorqueLimitNegative a)) else s.recI d 16 8
  let hi := if d.wired 1 then min hi (s.inVal d 1) else hi
  let lo := if d.wired 2 then max lo (s.inVal d 2) else lo
  let x := s.inVal d 0
  let y := if hi < lo then 0 else clampI x lo hi
  let acted := decide (hi < lo) || y != x
  let s := s.setBitIf (acted && src == 2) (Obj.LoopStatus a) 4
  (s.slotWrite (d.output 0) y).slotWrite (d.output 1) (b2i acted)

/-! ### Setpoint stitches (R195, R198, R254) -/

/-- R254: a field-pipeline setpoint stitch writes the shadows loaded at the next edge; 0 while loop-open reads 1. -/
def State.fieldSetpointStep (s : State) (d : Stitch) : State :=
  let a := s.recU d 0 1
  let x := s.inVal d 0
  let iq := if s.slotType (d.input 0) = 14 then sat32 (qdiv (x * 65536) (s.get (Obj.FocTorqueConstant a))) else x
  let id := if d.wired 1 then s.inVal d 1 else s.get (Obj.FocIdSetpoint a)
  s.setFoc a { s.foc a with shadow := if s.inVal d 2 = 1 then (0, 0) else (id, iq) }

/-- NETWORK_SETPOINT_SEND (R198): the record for the network axis, stamped for the next edge. -/
def State.netSetpointStep (s : State) (d : Stitch) : State :=
  let a := s.recU d 0 1
  let kind := s.nat (Obj.NetAxisKind a)
  let g := s.nat (Obj.LoopGainActive a)
  let x := s.inVal d 0
  let value := if kind = 2 then sat32 (qdiv (x * 65536) (s.get (Obj.NetAxisTorqueConstant a))) else x
  let aux := if kind = 3 then sat32 (rsh (s.get (Obj.AccFfGain a g) * if s.starved a then 0 else s.inVal d 1) (s.nat (Obj.AccFfShift a g))) else 0
  let limit := if kind = 3 then min (s.get (Obj.TorqueLimitPositive a)) (s.get (Obj.TorqueLimitNegative a)) else s.get (Obj.VelocityLimit a)
  let flags := (if s.inVal d 2 = 0 then 1 else 0) + (if s.anyStale d then 2 else 0)
  s.sendSetpoint a [s.get (Obj.NetAxisRemoteIndex a), kind, flags, 0, value, aux, limit] false

/-! ### Network axes (R199, R200) -/

/-- R199: at an edge the record taken for it is written to the latch slots; a missing one leaves them and is stale (R200).
(DEDUCED, unsafe: log entry 70.) -/
def State.netEdge (s : State) (a : Nat) : State :=
  if isLocal a || !s.flag (Obj.NetAxisKind a) then s
  else
    let r := s.axis a
    let own := s.get (Obj.FbSource a) = 2
    let s0 := axisSlot a
    match r.netRec with
    | some x =>
      let s := s.setAxis a { r with netRec := none, netTaken := true, netLateRun := 0 }
      let s := if s.faultActive fkNetLost a then s.setActive fkNetLost a false else s
      let s := s.slotLatch (s0 + 5) x.2
      match x.1 with
      | some pv => if own then ((s.slotLatch (s0 + 3) (wrapS 64 (pv.1 + r.ref))).slotLatch (s0 + 4) pv.2).showSpeed a pv.2 else s
      | none => if own then (s.slotStale (s0 + 3)).slotStale (s0 + 4) else s
    | none => s.setAxis a { r with netTaken := false }

/-- R20, R200: at the input cut-off a network axis without a record for the edge keeps its slots, which are stale, and has a late
tick. -/
def State.netCutoff (s : State) (a : Nat) : State :=
  let r := s.axis a
  if isLocal a || !s.flag (Obj.NetAxisKind a) || r.netTaken then s
  else
    let s0 := axisSlot a
    let s := s.setAxis a { r with netLateRun := r.netLateRun + 1 }
    let s := (s.slotStale (s0 + 5)).setBit (Obj.LoopStatus a) 2
    if s.get (Obj.FbSource a) = 2 then (s.slotStale (s0 + 3)).slotStale (s0 + 4) else s

/-- A lasting condition of a fault source begins or ends with a flag. -/
def State.follows (s : State) (k i : Nat) (present : Bool) : State :=
  if present then s.raiseOnce k i else if s.faultActive k i then s.setActive k i false else s

/-- R22, R199, R200: what a status record in time says: the drive state, the flags and the values for the next latch. -/
def State.netStatus (s : State) (a drive flags : Nat) (p v t : Int) : State :=
  let drive := if drive ≤ 3 then drive else 3
  let s := s.put (Obj.NetAxisDriveState a) drive
  let s := if bitAt flags 0 then
      let s := s.count (Obj.NetAxisLateReports a) 32 1
      ((s.setBit (Obj.AxisStatus a) 7).setBit Obj.RowStatus 6).raise fkSetpointLate a
    else s
  let bad := drive == 3 || (bitAt flags 4 && (s.axis a).closed)
  let s := s.setBitIf bad (Obj.LoopStatus a) 0
  let s := s.follows fkNetDrive a bad
  let s := s.setBitIf (bitAt flags 1) (Obj.LoopStatus a) 1
  let s := s.follows fkNetFeedback a (bitAt flags 2)
  s.setAxis a { s.axis a with netDegraded := bitAt flags 1,
                              netRec := some (if bitAt flags 2 then none else some (p, v), t) }

/-- NET_AXIS_LOST (R200): no record for more than `NetAxisStatusLossCount` consecutive ticks. -/
def execNetAxisLost (a : Nat) (s : State) : Host.Outcome State Fault Refusal :=
  .next (if s.natInUse (Obj.NetAxisStatusLossCount a) < (s.axis a).netLateRun then s.raiseOnce fkNetLost a else s)

/-- R183, R195: the loop-open latch of an axis at an edge. -/
def State.loopOpenEdge (s : State) (a : Nat) : State :=
  let r := s.axis a
  let s := if r.closed then s else s.setAxis a { r with followRun := 0 }
  let s := if !r.closed && s.faultActive fkFollowing a then s.setActive fkFollowing a false else s
  s.slotLatch (axisSlot a + 6) (b2i (!r.closed || r.closing))

end Sys2Proof.Machine
end

