-- ==== Sys2Proof/Machine/Midopin.lean ====
section
/-! DEFINITION. Loop cores: the Midopin instructions, dispatch and completion, interrupts, memory errors and sentry
handlers (spec/12_loop_cores.md). -/

namespace Sys2Proof.Machine

def State.core (s : State) (c : Nat) : CoreRt := Sparse.get (fun _ => {}) s.cores c
def State.setCore (s : State) (c : Nat) (r : CoreRt) : State := { s with cores := Sparse.put (fun _ => {}) s.cores c r }

/-! ### Registers (R313) -/

/-- R313: the physical register of a name; x0 to x31 never rotate. -/
def physReg (rof k : Nat) : Nat := if k < 32 then k else 32 + (k - 32 + rof) % 32

/-- The bank that runs.
(DESIGN CHOICE, safe: log entry 92.) -/
def CoreRt.bank (c : CoreRt) : Bank := if c.inShadow then c.shadow else c.main

/-- The core with its running bank replaced. -/
def CoreRt.setBank (c : CoreRt) (b : Bank) : CoreRt := if c.inShadow then { c with shadow := b } else { c with main := b }

/-- A physical register of a bank; what was not written since the dispatch is undefined (R308). -/
def Bank.phys (b : Bank) (k : Nat) : Int :=
  if k = 0 then 0
  else match b.x.lookup k with
    | some v => v
    | none => match b.seed with
      | some n => wrapS (if k < 64 then 64 else 128) (Config.freeReg n k)
      | none => 0

/-- A result in flight to a physical register of the running bank: a dependent instruction stalls until it is there.
(DESIGN CHOICE, unsafe: log entry 91.) -/
def CoreRt.inFlight (c : CoreRt) (k : Nat) : Option Int :=
  match c.div, c.sqrt with
  | some d, _ => if d.1 = c.inShadow ∧ d.2.1 = k then some d.2.2 else
      (match c.sqrt with
       | some q => if q.1 = c.inShadow ∧ q.2.1 = k then some q.2.2 else none
       | none => none)
  | none, some q => if q.1 = c.inShadow ∧ q.2.1 = k then some q.2.2 else none
  | none, none => none

/-- What an instruction reads from a register name. -/
def CoreRt.reg (c : CoreRt) (k : Nat) : Int :=
  let p := physReg c.bank.rof k
  (c.inFlight p).getD (c.bank.phys p)

/-- What an instruction reads from an accumulator. -/
def CoreRt.acc (c : CoreRt) (a : Nat) : Int := c.bank.phys (64 + a % 2)

/-- Bits 31–0 of a register, signed (R312). -/
def CoreRt.reg32 (c : CoreRt) (k : Nat) : Int := wrapS 32 (c.reg k)

/-- Bits 15–0 or 31–16 of a register, signed (R312). -/
def half (x : Int) (upper : Bool) : Int := wrapS 16 (if upper then x / 65536 else x)

/-- A write of a register name: its physical register; x0 takes none. -/
def CoreRt.wr (c : CoreRt) (rd : Nat) (v : Int) : List (Nat × Int) := if rd = 0 then [] else [(physReg c.bank.rof rd, v)]

/-! ### Effects of an instruction -/

/-- What an instruction does: register and accumulator writes, a division or a root that it starts (register, result), a store (order, byte in the record, value), the flow, the
bits of `CoreStatus` it sets, and whether a result was saturated (R311). -/
structure Effect where
  regs : List (Nat × Int) := []
  div : Option (Nat × Int) := none
  sqrt : Option (Nat × Int) := none
  store : List (Nat × Nat × Int) := []
  flow : Flow := .next
  status : List Nat := []
  sat : Bool := false
  deriving DecidableEq, Repr

/-- R311: a result of a width: wrapped, or saturated with the flag. -/
def narrow (w : Nat) (sat : Bool) (x : Int) : Int × Bool := if sat then (satS w x, satS w x != x) else (wrapS w x, false)

/-- A 64-bit result into a register. -/
def CoreRt.result (c : CoreRt) (sat : Bool) (rd : Nat) (x : Int) : Effect :=
  let r := narrow 64 sat x
  { regs := c.wr rd r.1, sat := r.2 }

/-- R308: the registers of a bank at entry.
(DESIGN CHOICE, safe: log entry 92.) -/
def enterBank (seed : Nat) (vals : List (Nat × Int)) : Bank := { x := vals, seed := some seed }

/-- R308, R323: the completion of the stitch that a core runs: x9–x12 go to its output slots, also when a stop had been requested. -/
def State.stitchComplete (s : State) (core : Nat) : State :=
  let c := s.core core
  match c.stitch with
  | none => s
  | some o =>
    let s := match s.stitchByOrder o with
      | some d =>
        let s := s.each (List.range 4) fun s j => s.slotWrite (d.output j) (c.main.phys (9 + j))
        let s := s.each (d.outputs.filter fun o => o != unwired) fun s o => s.clrBit (Obj.SlotFlags o) 0
        s.setStitch o { s.stitch o with stale := s.anyStale d }
      | none => s
    let s := s.setStitch o { s.stitch o with finished := true }
    s.setCore core { s.core core with stitch := none }

/-- R325, R326: a handler starts on the shadow bank: x1–x8 read 0. -/
def State.startHandler (s : State) (core v : Nat) : State :=
  let c := s.core core
  let b := enterBank s.free ((List.range 8).map fun j => (1 + j, 0))
  { s.setCore core { c with shadow := b, inShadow := true, ranVec := setBitN c.ranVec v, pendVec := clrBitN c.pendVec v } with
    free := s.free + 1 }

/-- R326: the handlers that wait run in vector order once the running one has ended.
(DESIGN CHOICE, unsafe: log entry 94; DESIGN CHOICE, unsafe: log entry 96.) -/
def State.nextHandler (s : State) (core : Nat) : State :=
  match (List.range 8).find? fun v => (s.core core).pendVec.testBit v with
  | some v => s.startHandler core v
  | none => s

/-- RET at the end of a bundle: the stitch completes, or the handler gives the main bank back (R325). -/
def State.retire (s : State) (core : Nat) : State :=
  let c := s.core core
  if c.inShadow then (s.setCore core { c with inShadow := false }).nextHandler core else s.stitchComplete core

/-- R313–R315: where a bank goes at the end of a bundle without a branch taken: the end of a repeat's iteration returns to
the body and rotates. -/
def Bank.advance (b : Bank) : Bank :=
  match b.reps with
  | r :: rest =>
    if b.pc = r.last then
      let b := if r.rot then { b with rof := (b.rof + 1) % 32 } else b
      if r.left ≤ 1 then { b with reps := rest, pc := b.pc + 1 }
      else { b with reps := { r with left := r.left - 1, iter := r.iter + 1 } :: rest, pc := r.first }
    else { b with pc := b.pc + 1 }
  | [] => { b with pc := b.pc + 1 }

/-- The bank after the flow of a bundle. -/
def Bank.flow (b : Bank) (f : Flow) : Bank :=
  match b.branch with
  | some (t, 1) => { b with branch := none, pc := t }
  | some (t, n) => { b.advance with branch := some (t, n - 1) }
  | none =>
    match f with
    | .branch t => { b.advance with branch := some (t, 2) }
    | .loop r => { b with reps := r :: b.reps, pc := b.pc + 1 }
    | .skip t => { b with pc := t }
    | .next => b.advance
    | .ret => b

/-- The order of the stitch whose record a core accesses.
(DESIGN CHOICE, unsafe: log entry 94.) -/
def CoreRt.recordOrder (c : CoreRt) : Option Nat := if c.inShadow then none else c.stitch

/-- R310: an instruction issues; the writes of a bundle take place once its last instruction has issued. A handler that an event within
the bundle asked for starts then (R325). -/
def State.issue (s : State) (i : Issue) (f : CoreRt → Effect) : State :=
  let c := s.core i.core
  let e := f c
  let s := s.each e.status fun s b => s.setBit (Obj.CoreStatus i.core) b
  let s := if e.sat then
      let s := s.setBit (Obj.CoreStatus i.core) 3
      match c.recordOrder.bind s.stitchByOrder with
      | some d => s.each (d.outputs.filter fun o => o != unwired) fun s o => s.setBit (Obj.SlotFlags o) 1
      | none => s
    else s
  let regs := c.buf ++ e.regs
  let stores := c.bufStore ++ e.store
  let flow := if c.bufFlow = .next then e.flow else c.bufFlow
  let div := c.bufDiv.or (e.div.map fun d => (c.inShadow, d))
  let sqrt := c.bufSqrt.or (e.sqrt.map fun d => (c.inShadow, d))
  let c := s.core i.core
  if i.more then s.setCore i.core { c with buf := regs, bufStore := stores, bufFlow := flow, bufDiv := div, bufSqrt := sqrt, mid := true }
  else
    let drop := fun (o : Option (Bool × Nat × Int)) => o.filter fun d => !(d.1 == c.inShadow && regs.any fun w => w.1 == d.2.1)
    let b := regs.foldl (fun b w => { b with x := Sparse.insert w.1 w.2 b.x }) c.bank
    let s := stores.foldl (fun s w => s.store (kernelKey w.1) w.2.1 (intLE 8 w.2.2)) s
    let c := { c with buf := [], bufStore := [], bufFlow := .next, bufDiv := none, bufSqrt := none, mid := false,
                      div := div.or (drop c.div), sqrt := sqrt.or (drop c.sqrt) }
    let s := s.setCore i.core (c.setBank (b.flow flow))
    let s := if flow = .ret then s.retire i.core else s
    if (s.core i.core).inShadow then s else s.nextHandler i.core

/-! ### ALU, move and search (R311, R312, R317) -/

/-- NOP (R312). -/
def execNop (i : Issue) (s : State) : Host.Outcome State Fault Refusal := .next (s.issue i fun _ => {})

/-- ADD (R312). -/
def execAdd (i : Issue) (sat : Bool) (rd ra rb : Nat) (s : State) : Host.Outcome State Fault Refusal :=
  .next (s.issue i fun c => c.result sat rd (c.reg ra + c.reg rb))

/-- SUB (R312). -/
def execSub (i : Issue) (sat : Bool) (rd ra rb : Nat) (s : State) : Host.Outcome State Fault Refusal :=
  .next (s.issue i fun c => c.result sat rd (c.reg ra - c.reg rb))

/-- ADDI (R312). -/
def execAddi (i : Issue) (sat : Bool) (rd ra : Nat) (imm : Int) (s : State) : Host.Outcome State Fault Refusal :=
  .next (s.issue i fun c => c.result sat rd (c.reg ra + imm))

/-- A bitwise operation of two registers. -/
def CoreRt.bitwise (c : CoreRt) (f : Nat → Nat → Nat) (rd ra rb : Nat) : Effect :=
  { regs := c.wr rd (wrapS 64 (f (wrapU 64 (c.reg ra)).toNat (wrapU 64 (c.reg rb)).toNat : Nat)) }

/-- AND (R312). -/
def execAnd (i : Issue) (rd ra rb : Nat) (s : State) : Host.Outcome State Fault Refusal :=
  .next (s.issue i fun c => c.bitwise (fun x y => x &&& y) rd ra rb)

/-- OR (R312). -/
def execOr (i : Issue) (rd ra rb : Nat) (s : State) : Host.Outcome State Fault Refusal :=
  .next (s.issue i fun c => c.bitwise (fun x y => x ||| y) rd ra rb)

/-- XOR (R312). -/
def execXor (i : Issue) (rd ra rb : Nat) (s : State) : Host.Outcome State Fault Refusal :=
  .next (s.issue i fun c => c.bitwise (fun x y => x ^^^ y) rd ra rb)

/-- Bits 5–0 of a register: a shift. -/
def CoreRt.shift (c : CoreRt) (k : Nat) : Nat := (c.reg k % 64).toNat

/-- SHL (R312). -/
def execShl (i : Issue) (sat : Bool) (rd ra rb : Nat) (s : State) : Host.Outcome State Fault Refusal :=
  .next (s.issue i fun c => c.result sat rd (shl (c.reg ra) (c.shift rb)))

/-- SHR (R312): arithmetic, or rounded as rsh of R113. -/
def execShr (i : Issue) (rounded : Bool) (rd ra rb : Nat) (s : State) : Host.Outcome State Fault Refusal :=
  .next (s.issue i fun c =>
    { regs := c.wr rd (if rounded then rsh (c.reg ra) (c.shift rb) else c.reg ra / 2 ^ c.shift rb) })

/-- MOVI (R312). -/
def execMovi (i : Issue) (rd : Nat) (imm : Int) (s : State) : Host.Outcome State Fault Refusal :=
  .next (s.issue i fun c => { regs := c.wr rd imm })

/-- CLAMP (R312): 0 when the bounds cross. -/
def execClamp (i : Issue) (rd ra rb : Nat) (s : State) : Host.Outcome State Fault Refusal :=
  .next (s.issue i fun c =>
    { regs := c.wr rd (if c.reg rb < c.reg ra then 0 else clampI (c.reg rd) (c.reg ra) (c.reg rb)) })

/-- MIN (R312). -/
def execMin (i : Issue) (rd ra rb : Nat) (s : State) : Host.Outcome State Fault Refusal :=
  .next (s.issue i fun c => { regs := c.wr rd (min (c.reg ra) (c.reg rb)) })

/-- MAX (R312). -/
def execMax (i : Issue) (rd ra rb : Nat) (s : State) : Host.Outcome State Fault Refusal :=
  .next (s.issue i fun c => { regs := c.wr rd (max (c.reg ra) (c.reg rb)) })

/-- R317: the iteration number of the innermost active repeat. -/
def CoreRt.iteration (c : CoreRt) : Int :=
  match c.bank.reps with
  | r :: _ => r.iter
  | [] => 0

/-- R317: a search step: the value and the iteration number when it is better. -/
def CoreRt.search (c : CoreRt) (better : Bool) (rd ra : Nat) : Effect :=
  if better then { regs := c.wr rd (c.reg ra) ++ c.wr (rd + 1) c.iteration } else {}

/-- MAXI (R317). -/
def execMaxi (i : Issue) (rd ra : Nat) (s : State) : Host.Outcome State Fault Refusal :=
  .next (s.issue i fun c => c.search (decide (c.reg rd < c.reg ra)) rd ra)

/-- MINI (R317). -/
def execMini (i : Issue) (rd ra : Nat) (s : State) : Host.Outcome State Fault Refusal :=
  .next (s.issue i fun c => c.search (decide (c.reg ra < c.reg rd)) rd ra)

/-! ### Multiply and accumulate (R312, R318) -/

/-- MUL (R312): a 64-bit product. -/
def execMul (i : Issue) (sat : Bool) (rd ra rb : Nat) (s : State) : Host.Outcome State Fault Refusal :=
  .next (s.issue i fun c => c.result sat rd (c.reg32 ra * c.reg32 rb))

/-- An accumulator plus a term, in 128 bits (R311). -/
def CoreRt.accumulate (c : CoreRt) (sat : Bool) (a : Nat) (term : Int) : Effect :=
  let r := narrow 128 sat (c.acc a + term)
  { regs := [(64 + a % 2, r.1)], sat := r.2 }

/-- The term of MAC and FTAP. -/
def CoreRt.macTerm (c : CoreRt) (subtract : Bool) (ra rb : Nat) : Int :=
  if subtract then -(c.reg32 ra * c.reg32 rb) else c.reg32 ra * c.reg32 rb

/-- MAC (R312). -/
def execMac (i : Issue) (sat : Bool) (a : Nat) (subtract : Bool) (ra rb : Nat) (s : State) : Host.Outcome State Fault Refusal :=
  .next (s.issue i fun c => c.accumulate sat a (c.macTerm subtract ra rb))

/-- CMAC (R312): complex, b conjugated with fn bit 0. -/
def execCmac (i : Issue) (sat conj : Bool) (ra rb : Nat) (s : State) : Host.Outcome State Fault Refusal :=
  .next (s.issue i fun c =>
    let ar := half (c.reg ra) false
    let ai := half (c.reg ra) true
    let br := half (c.reg rb) false
    let bi := if conj then -(half (c.reg rb) true) else half (c.reg rb) true
    let x := c.accumulate sat 0 (ar * br - ai * bi)
    let y := c.accumulate sat 1 (ar * bi + ai * br)
    { regs := x.regs ++ y.regs, sat := x.sat || y.sat })

/-- ACCR (R312). -/
def execAccr (i : Issue) (sat : Bool) (a shift rd : Nat) (s : State) : Host.Outcome State Fault Refusal :=
  .next (s.issue i fun c => c.result sat rd (rsh (c.acc a) shift))

/-- ACCZ (R312). -/
def execAccz (i : Issue) (a : Nat) (load : Bool) (ra : Nat) (s : State) : Host.Outcome State Fault Refusal :=
  .next (s.issue i fun c => { regs := [(64 + a % 2, if load then c.reg ra else 0)] })

/-- FTAP (R318): MAC and a move in one bundle. -/
def execFtap (i : Issue) (sat : Bool) (a : Nat) (subtract : Bool) (rc ra rb : Nat) (s : State) : Host.Outcome State Fault Refusal :=
  .next (s.issue i fun c =>
    let e := c.accumulate sat a (c.macTerm subtract ra rb)
    { e with regs := e.regs ++ c.wr rc (c.reg rb) })

/-! ### Division and square root (R312) -/

/-- A unit writes its result and is free.
(DESIGN CHOICE, unsafe: log entry 91.) -/
def State.unitDone (s : State) (core : Nat) (o : Option (Bool × Nat × Int)) : State :=
  match o with
  | none => s
  | some d =>
    let c := s.core core
    let put := fun (b : Bank) => if d.2.1 = 0 then b else { b with x := Sparse.insert d.2.1 d.2.2 b.x }
    s.setCore core (if d.1 then { c with shadow := put c.shadow } else { c with main := put c.main })

/-- The divider writes its result.
(DESIGN CHOICE, unsafe: log entry 91.) -/
def State.divDone (s : State) (core : Nat) : State :=
  let s := s.unitDone core (s.core core).div
  s.setCore core { s.core core with div := none }

/-- The square-root unit writes its result. -/
def State.sqrtDone (s : State) (core : Nat) : State :=
  let s := s.unitDone core (s.core core).sqrt
  s.setCore core { s.core core with sqrt := none }

/-- DIV (R312): a second division waits for the first. -/
def execDiv (i : Issue) (sat : Bool) (rd ra rb : Nat) (s : State) : Host.Outcome State Fault Refusal :=
  let s := s.divDone i.core
  let c := s.core i.core
  let d := c.reg32 rb
  let r := if d = 0 then (0, false) else narrow 64 sat ((c.reg ra).tdiv d)
  .next (s.issue i fun _ =>
    { status := if d = 0 then [4] else [], sat := r.2, div := some (if rd = 0 then 0 else physReg c.bank.rof rd, r.1) })

/-- DIV_COMPLETE (R312). -/
def execDivComplete (core : Nat) (s : State) : Host.Outcome State Fault Refusal := .next (s.divDone core)

/-- SQRT (R312): of ra as unsigned, rounded down. -/
def execSqrt (i : Issue) (rd ra : Nat) (s : State) : Host.Outcome State Fault Refusal :=
  let s := s.sqrtDone i.core
  let c := s.core i.core
  let r : Int := (Nat.sqrt (wrapU 64 (c.reg ra)).toNat : Nat)
  .next (s.issue i fun _ => { sqrt := some (if rd = 0 then 0 else physReg c.bank.rof rd, r) })

/-- SQRT_COMPLETE (R312). -/
def execSqrtComplete (core : Nat) (s : State) : Host.Outcome State Fault Refusal := .next (s.sqrtDone core)

/-! ### Data memory (R309, R323) -/

/-- R309: an 8-byte access at an address: the stitch whose record holds it and the byte within the record.
(DESIGN CHOICE, safe: log entry 93.) -/
def State.recordAt (s : State) (core : Nat) (addr : Int) : Option (Nat × Nat) :=
  match (s.core core).recordOrder with
  | none => none
  | some o =>
    match s.stitchByOrder o with
    | none => none
    | some d =>
      let base : Int := (Config.recordBase o).toNat
      if base ≤ addr ∧ addr + 8 ≤ base + d.recLen then some (o, (addr - base).toNat) else none

/-- R309: an access outside the record is not executed and is reported. -/
def State.accessViolation (s : State) (core : Nat) : State := (s.setBit (Obj.CoreStatus core) 1).raise fkKernel core

/-- R309: a load: the value, 0 outside the record. -/
def State.loadWord (s : State) (core : Nat) (addr : Int) : Int :=
  match s.recordAt core addr with
  | some p => s.sint (kernelKey p.1) p.2 8
  | none => 0

/-- R309: what an access reports. -/
def State.accessCheck (s : State) (core : Nat) (addr : Int) : State :=
  if (s.recordAt core addr).isSome then s else s.accessViolation core

/-- R323: a single-bit error corrected in line. -/
def State.eccCorrected (s : State) (core : Nat) (ecc : Bool) : State :=
  if ecc then ((s.count (Obj.CoreEccCorrected core) 32 1).setBit (Obj.CoreStatus core) 5).raise fkMemCorrected 0 else s

/-- LD (R309, R312). -/
def execLd (i : Issue) (rd ra : Nat) (imm : Int) (ecc : Bool) (s : State) : Host.Outcome State Fault Refusal :=
  let addr := wrapS 64 ((s.core i.core).reg ra + 8 * imm)
  let v := s.loadWord i.core addr
  let s := (s.accessCheck i.core addr).eccCorrected i.core ecc
  .next (s.issue i fun c => { regs := c.wr rd v })

/-- ST (R309, R312). -/
def execSt (i : Issue) (rd ra : Nat) (imm : Int) (s : State) : Host.Outcome State Fault Refusal :=
  let addr := wrapS 64 ((s.core i.core).reg ra + 8 * imm)
  let at_ := s.recordAt i.core addr
  let s := s.accessCheck i.core addr
  .next (s.issue i fun c => { store := match at_ with
    | some p => [(p.1, p.2, c.reg rd)]
    | none => [] })

/-- LDI (R309, R312): the address register is then advanced. -/
def execLdi (i : Issue) (rd ra : Nat) (imm : Int) (ecc : Bool) (s : State) : Host.Outcome State Fault Refusal :=
  let addr := (s.core i.core).reg ra
  let v := s.loadWord i.core addr
  let s := (s.accessCheck i.core addr).eccCorrected i.core ecc
  .next (s.issue i fun c => { regs := c.wr ra (wrapS 64 (addr + 8 * imm)) ++ c.wr rd v })

/-- STI (R309, R312). -/
def execSti (i : Issue) (rd ra : Nat) (imm : Int) (s : State) : Host.Outcome State Fault Refusal :=
  let addr := (s.core i.core).reg ra
  let at_ := s.recordAt i.core addr
  let s := s.accessCheck i.core addr
  .next (s.issue i fun c =>
    { regs := c.wr ra (wrapS 64 (addr + 8 * imm))
      store := match at_ with
        | some p => [(p.1, p.2, c.reg rd)]
        | none => [] })

/-! ### Flow (R308, R314, R315) -/

/-- A branch when a condition holds. -/
def CoreRt.branchIf (c : CoreRt) (cond : Bool) (offset : Int) : Effect :=
  { flow := if cond then .branch ((c.bank.pc : Int) + offset).toNat else .next }

/-- BEQ (R315). -/
def execBeq (i : Issue) (ra rb : Nat) (offset : Int) (s : State) : Host.Outcome State Fault Refusal :=
  .next (s.issue i fun c => c.branchIf (c.reg ra == c.reg rb) offset)

/-- BNE (R315). -/
def execBne (i : Issue) (ra rb : Nat) (offset : Int) (s : State) : Host.Outcome State Fault Refusal :=
  .next (s.issue i fun c => c.branchIf (c.reg ra != c.reg rb) offset)

/-- BLT (R315). -/
def execBlt (i : Issue) (ra rb : Nat) (offset : Int) (s : State) : Host.Outcome State Fault Refusal :=
  .next (s.issue i fun c => c.branchIf (decide (c.reg ra < c.reg rb)) offset)

/-- BGE (R315). -/
def execBge (i : Issue) (ra rb : Nat) (offset : Int) (s : State) : Host.Outcome State Fault Refusal :=
  .next (s.issue i fun c => c.branchIf (decide (c.reg rb ≤ c.reg ra)) offset)

/-- J (R315). -/
def execJ (i : Issue) (offset : Int) (s : State) : Host.Outcome State Fault Refusal :=
  .next (s.issue i fun c => c.branchIf true offset)

/-- REP (R314). -/
def execRep (i : Issue) (rot : Bool) (ra body count : Nat) (s : State) : Host.Outcome State Fault Refusal :=
  .next (s.issue i fun c =>
    let n := if ra = 0 then count else (clampI (c.reg ra) 0 count).toNat
    let pc := c.bank.pc
    { flow := if n = 0 then .skip (pc + 1 + body) else .loop { first := pc + 1, last := pc + body, left := n, iter := 0, rot := rot }
      status := if ra ≠ 0 ∧ (count : Int) < c.reg ra then [2] else [] })

/-- RET (R308, R325). -/
def execRet (i : Issue) (s : State) : Host.Outcome State Fault Refusal :=
  .next (s.issue i fun _ => { flow := .ret })

/-! ### Dispatch (R308) -/

/-- R308: the dispatch of a user kernel: inputs to x1–x8, the record's address to x13.
(DESIGN CHOICE, safe: log entry 93.) -/
def State.dispatchKernel (s : State) (d : Stitch) : State :=
  let c := s.core d.core
  let vals := ((List.range 8).map fun j => (1 + j, if d.wired j then wrapS 64 (s.inVal d j) else 0)) ++ [(13, ((Config.recordBase d.order).toNat : Int))]
  { s.setCore d.core { c with main := enterBank s.free vals, stitch := some d.order } with free := s.free + 1 }

/-! ### Interrupts and memory errors (R322–R324) -/

/-- R322: a bundle boundary at which a request may be taken. -/
def CoreRt.boundary (c : CoreRt) : Bool :=
  !c.mid && c.main.branch.isNone && c.main.reps.isEmpty && c.div.isNone && c.sqrt.isNone

/-- CORE_INTERRUPT_TAKEN (R322, R323): kind 0 the overrun stop, 1 a debug halt, 2 a memory error; a RET in the same cycle
still publishes. -/
def execCoreInterruptTaken (core kind : Nat) (retSameCycle : Bool) (holdoff : Nat) (s : State) : Host.Outcome State Fault Refusal :=
  let c := s.core core
  .next
    (if !(c.irq.testBit kind) || !c.boundary then s
    else
      let s := s.put (Obj.CoreIrqHoldoffMax core) (max (s.get (Obj.CoreIrqHoldoffMax core)) (min holdoff 4294967295 : Nat))
      let s := if retSameCycle then s.stitchComplete core else s
      let c := s.core core
      s.setCore core { c with irq := clrBitN c.irq kind, stitch := none, halted := c.halted || kind == 1 })

/-- DEBUG_HALT (R322): the request waits for a boundary. -/
def execDebugHalt (core : Nat) (s : State) : Host.Outcome State Fault Refusal :=
  .next (s.setCore core { s.core core with irq := setBitN (s.core core).irq 1 })

/-- R34: outputs of the stitches of a core that have not finished keep their previous-tick values and are stale. -/
def State.staleOutputs (s : State) (core : Nat) (all : Bool) : State :=
  (s.rowTable.filter fun d => d.core == core && (all || !(s.stitch d.order).finished)).foldl
    (fun s d => s.each (s.writesOf d) fun s o =>
      { s with slotNow := Sparse.erase o s.slotNow }.slotStale o) s

/-- R34: a core has overrun in this tick: its row stops, and the overrun is counted and raised. -/
def State.overrunCore (s : State) (core : Nat) (forced : Bool) : State :=
  if s.row.stopped.testBit core then s
  else
    let s := { s with row := { s.row with stopped := setBitN s.row.stopped core } }
    let s := s.setCore core { s.core core with irq := if (s.core core).stitch.isSome then setBitN (s.core core).irq 0 else (s.core core).irq }
    let s := s.count (Obj.RowOverrunCount core) 32 1
    let s := s.setBit Obj.RowStatus (8 + core)
    let s := s.staleOutputs core forced
    let s := s.raiseWith fkRowOverrun core 0 forced false
    if s.row.overran.testBit core then s.reactS ((s.coreAxes core).filter fun a => !s.flag (Obj.AxisVirtual a)) else s

/-- LOOP_CORE_MEMORY_ERROR (R324). -/
def execLoopCoreMemoryError (core : Nat) (data : Bool) (address : Nat) (s : State) : Host.Outcome State Fault Refusal :=
  .next
    (let s := s.overrunCore core false
     let c := s.core core
     let s := s.setCore core { c with err := some (data, address), irq := setBitN c.irq 2 }
     (s.setBit (Obj.CoreStatus core) 6).raiseValue fkCoreMemory core address)

/-- R309: copy a kernel's record from `RowParameters` into data memory. -/
def State.installRecord (s : State) (d : Stitch) : State :=
  s.store (kernelKey d.order) 0 (s.bytes Obj.RowParameters d.recOff d.recLen)

/-- MEMORY_RESTORED (R324): a parameter record comes back from `RowParameters` and loses the kernel's state. -/
def execMemoryRestored (core : Nat) (s : State) : Host.Outcome State Fault Refusal :=
  .next
    (match (s.core core).err with
     | none => s
     | some (data, address) =>
       let hit := s.rowTable.filter fun d =>
         d.kind == kindKernel && d.core == core && decide ((Config.recordBase d.order).toNat ≤ address ∧ address < (Config.recordBase d.order).toNat + d.recLen)
       let s := if data && !hit.isEmpty then (hit.foldl State.installRecord s).setBit (Obj.CoreStatus core) 7 else s
       let s := s.setCore core { s.core core with err := none }
       s.setActive fkCoreMemory core false)

/-! ### Sentry events (R325, R326) -/

/-- R326: a vector that is in use. -/
def State.vectorUsed (s : State) (core v : Nat) : Bool :=
  let k := s.nat (Obj.SentryVectorKernel (core - 6) v)
  decide (6 ≤ core ∧ core < 8 ∧ v < 8) && s.get (Obj.SentryVectorSource (core - 6) v) != 0xFFFF && k < 64 && s.flag (Obj.KernelLength k)

/-- SENTRY_EVENT (R325, R326): the handler runs, waits for the running one, or is deferred to the next tick. -/
def execSentryEvent (core v : Nat) (s : State) : Host.Outcome State Fault Refusal :=
  let c := s.core core
  .next
    (if !s.vectorUsed core v then s
    else if c.ranVec.testBit v || c.pendVec.testBit v then
      (s.setCore core { c with deferVec := setBitN c.deferVec v }).count (Obj.SentryDeferred (core - 6)) 32 1
    else if c.inShadow || c.mid then s.setCore core { c with pendVec := setBitN c.pendVec v }
    else s.startHandler core v)

/-- R326: at a tick edge every vector may run again, and the deferred ones run.
(DESIGN CHOICE, unsafe: log entry 96.) -/
def State.sentryEdge (s : State) (core : Nat) : State :=
  let c := s.core core
  let s := s.setCore core { c with ranVec := 0, pendVec := c.pendVec ||| c.deferVec, deferVec := 0 }
  if c.inShadow then s else s.nextHandler core

end Sys2Proof.Machine
end

