-- ==== Sys2Proof/Machine/Row.lean ====
section
/-! DEFINITION. The row within a tick: input frames and their cut-off, the start of a stitch, the primitive kinds that no
other chapter defines, and the overrun check (spec/01_tick_row.md; R500–R504). -/

namespace Sys2Proof.Machine

/-! ### Input frames (R19, R20) -/

/-- Whether an input stamped for an edge is in time. -/
inductive Arrival
  | staged    -- stamped for a later edge
  | open_     -- stamped for the latest edge while the window is open
  | late
  deriving DecidableEq, Repr

/-- R19: when an input stamped for an edge arrives.
(DEDUCED, unsafe: log entry 22.) -/
def State.arrival (s : State) (stamp : Nat) : Arrival :=
  if s.tick < stamp then .staged else if stamp = s.tick ∧ s.row.window = true then .open_ else .late

/-- R19: an input value in time is staged, or taken at once while the window is open.
(DEDUCED, unsafe: log entry 22.) -/
def State.takeInput (s : State) (stamp : Nat) (feeds : List (Nat × Nat)) : State :=
  match s.arrival stamp with
  | .staged => { s with row := { s.row with inputs := s.row.inputs ++ feeds.map fun f => (stamp, f.1, f.2) } }
  | .open_ => feeds.foldl (fun s f => s.put (Obj.SlotValue f.1) (f.2 % 2 ^ 64 : Nat)) s
  | .late => s

/-- R20: a late tick of an origin, judged once: its slots are stale in the tick, and more than `InputLateLimit` late ticks in a row
raise "input late".
(DEDUCED, unsafe: log entry 22.) -/
def State.lateTick (s : State) (o edge : Nat) : State :=
  let r := s.origin o
  if (edge ≤ r.lateEdge ∧ 0 < r.lateRun) ∨ r.onTime.contains edge = true then s
  else
    let run := if r.lateEdge + 1 = edge then r.lateRun + 1 else 1
    let s := s.setOrigin o { r with lateRun := run, lateEdge := edge, known := true }
    let s := if edge = s.tick then s.each r.slots State.slotStale else s
    if s.natInUse Obj.InputLateLimit < run then s.raiseOnce fkInputLate o else s

/-- R20: an origin's frame for an edge is in time. -/
def State.originOnTime (s : State) (o stamp : Nat) (slots : List Nat) : State :=
  let r := s.origin o
  s.setOrigin o { r with onTime := r.onTime ++ [stamp], slots := slots, known := true }

/-- INPUT_FRAME_ARRIVAL (R19, R20): `feeds` names the slots the frame feeds with their raw values. -/
def execInputFrameArrival (o stamp : Nat) (duplicate : Bool) (feeds : List (Nat × Nat)) (s : State) : Host.Outcome State Fault Refusal :=
  let s := s.count Obj.SumInputFrameReceived 64 1
  .next
    (if duplicate then s.count Obj.SumInputFrameDuplicate 64 1
    else if s.arrival stamp = .late then
      let s := (s.count Obj.SumInputFrameLate 64 1).setBit Obj.RowStatus 7
      let s := s.setOrigin o { s.origin o with slots := feeds.map fun f => f.1, known := true }
      s.lateTick o stamp
    else
      let s := s.count Obj.SumInputFrameAccepted 64 1
      (s.takeInput stamp feeds).originOnTime o stamp (feeds.map fun f => f.1))

/-- NET_STATUS_RECORD (R199, R200, R20, R22): a record by itself, stamped for the latest edge, is an input for the next, or one for
the edge before while the input window is open; any other is late.
(DESIGN CHOICE, unsafe: log entry 71.) -/
def execNetStatusRecord (a stamp drive flags : Nat) (p v t : Int) (s : State) : Host.Outcome State Fault Refusal :=
  .next
    (if isLocal a || decide (64 ≤ a) || !s.flag (Obj.NetAxisKind a) then s
    else if !(stamp = s.tick ∨ (stamp + 1 = s.tick ∧ s.row.window = true)) then
      let s := (s.inputCount Obj.SumInputFrameLate).setBit Obj.RowStatus 7
      if s.get (Obj.NetAxisPath a) = 1 then s.lateTick (s.nat (Obj.NetAxisAddress a)) (stamp + 1) else s
    else
      let s := (s.inputCount Obj.SumInputFrameAccepted).netStatus a drive flags p v t
      if stamp = s.tick then s else s.netEdge a)

/-- R20: an origin at the input cut-off: a tick with its frame ends the run of late ticks, any other is late. -/
def State.originCutoff (s : State) (o : Nat) : State :=
  let r := s.origin o
  let s := if r.onTime.contains s.tick then
      let s := s.setOrigin o { r with lateRun := 0, lateEdge := 0 }
      if s.faultActive fkInputLate o then s.setActive fkInputLate o false else s
    else if r.known then s.lateTick o s.tick else s
  s.setOrigin o { s.origin o with onTime := (s.origin o).onTime.filter fun e => decide (s.tick < e) }

/-- R19, R20: the input cut-off: the window closes, and what came neither before the edge nor in the window is late. -/
def State.cutoff (s : State) : State :=
  let s := { s with row := { s.row with window := false } }
  let s := (s.origins.map fun p => p.1).foldl State.originCutoff s
  let s := s.each allAxes State.netCutoff
  s.each (List.range 8) State.spanCutoff

/-- INPUT_CUTOFF (R19, R20): the edge plus `TickInputWindow`. -/
def execInputCutoff (s : State) : Host.Outcome State Fault Refusal := .next (if s.row.window then s.cutoff else s)

/-- R18: the inputs staged for an edge go to their slots at that edge. -/
def State.stageInputs (s : State) (edge : Nat) : State :=
  let now := s.row.inputs.filter fun x => x.1 == edge
  let s := now.foldl (fun s x => s.put (Obj.SlotValue x.2.1) (x.2.2 % 2 ^ 64 : Nat)) s
  { s with row := { s.row with inputs := s.row.inputs.filter fun x => x.1 > edge } }

/-! ### Primitive kinds of spec/12_loop_cores.md (R23, R500–R504) -/

/-- R502: compare-and-latch glue: an entry is appended while the request reads 1, after every host append of the tick; the time of
the last fire is the one latched at the edge (R18). -/
def State.glueStep (s : State) (d : Stitch) : State :=
  let u := s.recU d 0 1
  let e : CmpEntry := { pos := s.inVal d 1, action := s.recU d 1 1, dir := s.recU d 2 1, width := s.recU d 4 2 }
  let want := s.inVal d 0 != 0
  let full := decide (4096 ≤ (s.cmp u).list.length + (s.cmp u).fromRow.length)
  let time := (s.cmp u).fireAtEdge
  let s := if want && !full then s.setCmp u { s.cmp u with fromRow := (s.cmp u).fromRow ++ [(e, d.output 0)] } else s
  (s.slotWrite (d.output 0) (b2i (want && full))).slotWrite (d.output 1) time

/-- R500: selector. -/
def State.selectorStep (s : State) (d : Stitch) : State :=
  let k := s.inVal d 0
  let j := (1 + k).toNat
  let ok := decide (1 ≤ j ∧ j ≤ 7) && d.wired j
  (s.slotWrite (d.output 0) (s.inVal d (if ok then j else 1))).slotWrite (d.output 1) (b2i (!ok))

/-- R501: gain-sum. -/
def State.gainSumStep (s : State) (d : Stitch) : State :=
  let terms := ((List.range 8).filter d.wired).map fun j => rsh (s.recI d (8 + 4 * j) 4 * s.inVal d j) (s.recU d (40 + j) 1)
  let x := terms.sum
  let sat := (slotSat (s.slotType (d.output 0)) x).2
  (s.slotWrite (d.output 0) x).slotWrite (d.output 1) (b2i sat)

/-- FAULT_REACTION_STITCH (R503): bind-off or safe torque off on the axes of the mask while the condition reads 1. -/
def State.reactionStep (s : State) (d : Stitch) : State :=
  let set := s.recU d 0 1
  let mask := s.recU d 8 8
  let axes := allAxes.filter fun a => mask.testBit a
  let on := s.inVal d 0 != 0
  let s := if on && set.testBit 4 then s.reactS axes else s
  let s := if on && set.testBit 3 && !set.testBit 4 then s.reactB axes else s
  s.slotWrite (d.output 0) (b2i on)

/-- R504: commutation supervision. -/
def State.superviseStep (s : State) (d : Stitch) : State :=
  let a := s.recU d 0 1
  let ref : Int := if d.wired 0 then s.get (Obj.FocPolePairs a) * s.slotPrev (d.input 0) + s.angleOffset a
    else s.get (Obj.SlAngle a)
  let diff := (wrapS 32 (s.get (Obj.FocAngle a) - ref)).natAbs
  let r := s.stitch d.order
  let run := if s.recU d 4 4 < diff then r.run + 1 else 0
  let s := s.setStitch d.order { r with started := true, run := run }
  (s.slotWrite (d.output 0) (b2i (decide (s.recU d 8 2 < run)))).slotWrite (d.output 1) diff

/-- R23: what a stitch of a primitive kind does in a tick. An empty stitch's slots read 0. -/
def State.runPrimitive (s : State) (d : Stitch) : State :=
  let k := d.kind
  if k = kindPI ∨ k = kindPID then s.pidStep d
  else if k = kindBiquad then s.biquadStep d
  else if k = kindProfile then s.profileStep d
  else if k = kindGraftGear ∨ k = kindGraftCam then s.graftStep d
  else if k = kindSpan then s.spanStep d
  else if k = kindFieldSetpoint then s.fieldSetpointStep d
  else if k = kindNetSetpoint then s.netSetpointStep d
  else if k = kindGlue then s.glueStep d
  else if k = kindLimiter then s.limiterStep d
  else if k = kindSelector then s.selectorStep d
  else if k = kindGainSum then s.gainSumStep d
  else if k = kindReaction then s.reactionStep d
  else if k = kindSupervision then s.superviseStep d
  else s.each (d.outputs.filter fun o => o != unwired) fun s o => s.slotWrite o 0

/-- R27: a stitch is held while a producer whose value of this tick it reads has not finished and its core is not stopped. -/
def State.heldBack (s : State) (d : Stitch) : Bool :=
  (s.producersOf s.rowTable d).any fun x =>
    x.kind != kindEmpty && !(s.stitch x.order).finished && !(s.row.stopped.testBit x.core || s.row.forcedNow.testBit x.core)

/-- STITCH_START (R23, R26, R27, R308): a stitch of the row starts: a primitive runs whole, a user kernel is dispatched to
its core. Nothing starts on a core that is stopped in this tick or halted (R322), nor before the producers it waits for, and a stitch runs once per
tick. -/
def execStitchStart (o : Nat) (s : State) : Host.Outcome State Fault Refusal :=
  .next (s.atEdge fun s =>
    match s.stitchByOrder o with
     | none => s
     | some d =>
       if (s.core d.core).halted || s.row.stopped.testBit d.core || s.row.forcedNow.testBit d.core || (s.stitch o).finished || s.heldBack d then s
       else if d.kind = kindKernel then s.dispatchKernel d
       else
         let s := s.runPrimitive d
         s.setStitch o { s.stitch o with finished := true, stale := s.anyStale d })

/-! ### Overrun (R34, R35) -/

/-- TICK_LEDGER_COUNT (R34).
(DEDUCED, unsafe: log entry 20.) -/
def State.tickLedger (s : State) : State :=
  let s := s.count Obj.SumTickStarted 64 1
  if s.row.stopped = 0 then s.count Obj.SumTickCompleted 64 1 else s.count Obj.SumTickOverrun 64 1

/-- R30: the measured finish times of the cores that run stitches: how long a core took is a free value.
(DESIGN CHOICE, unsafe: log entry 21.) -/
def State.measureFinish (s : State) : State :=
  s.each ((List.range 8).filter fun c => s.rowTable.any fun d => d.core == c && d.kind != kindEmpty) fun s c =>
    let v := s.fresh
    v.2.put (Obj.RowCoreMaxMeasured c) (max (s.get (Obj.RowCoreMaxMeasured c)) (v.1 % 4294967296))

/-- R34, R35: the check at 250 ns + 0.9·T, once per tick: the cores of the mask have not finished, nor those that a force
bit stops.
(DEDUCED, unsafe: log entry 20.) -/
def State.overrunCheck (s : State) (cores : Nat) : State :=
  if s.row.checked then s
  else
    let s := s.measureFinish.each (List.range 8) fun s c =>
      if s.row.forcedNow.testBit c then s.overrunCore c true else if cores.testBit c then s.overrunCore c false else s
    { s.tickLedger with row := { s.tickLedger.row with checked := true } }

/-- ROW_OVERRUN (R34, R35). -/
def execRowOverrun (cores : Nat) (s : State) : Host.Outcome State Fault Refusal := .next (s.overrunCheck cores)

/-- R34: a tick in which no core overran was checked as well, before the next edge.
(DESIGN CHOICE, unsafe: log entry 21.) -/
def State.overrunEnd (s : State) : State := if s.row.ticking then s.overrunCheck 0 else s

/-- What a tick edge brings to the row: stale and saturated marks end, and the overruns of the tick become those of the
previous one. -/
def State.rowEdge (s : State) : State :=
  let isFlags := fun (k : Nat) => decide (0x500000 ≤ k ∧ k < 0x600000) && k % 256 == 4
  let regs := s.regs.filter fun (p : Nat × Int) => !isFlags p.1
  let rts := s.stitches.map fun (p : Nat × StitchRt) => (p.1, { p.2 with finished := false, stale := false })
  let rts := rts.filter fun (p : Nat × StitchRt) => decide (p.2 ≠ ({} : StitchRt))
  let row : RowRt :=
    { s.row with
      stopped := 0, overran := s.row.stopped, forcedNow := s.row.forced, forced := 0, checked := false, ticking := true }
  { s with regs := regs, stitches := rts, row := row }

end Sys2Proof.Machine
end

