-- ==== Sys2Proof/Machine/Acq.lean ====
section
/-! DEFINITION. Acquisition and triggers (R328–R346): the configuration's rate and capacity, the ring and the recording,
group triggering, the write-back queue and the skein header. Times are in 2^-16 ns, and 2.5 ns is 163840 of them. -/

namespace Sys2Proof.Machine

/-! ### The configuration: intervals, rate and capacity (R328–R333) -/

/-- R237, R328: the interval of the outputs of a modulator input, by the stage or general input that uses it. -/
def State.modInterval (s : State) (i : Nat) : Nat :=
  let phase := (List.range 16).find? fun n =>
    s.nat (Obj.CurInputU n) == i || s.nat (Obj.CurInputV n) == i || s.nat (Obj.CurInputW n) == i
  match phase with
  | some n => s.nat (Obj.CurOsr n) * s.nat (Obj.DsClockDivider (n / 2 * 2)) * 163840
  | none =>
    if 48 ≤ i then s.nat (Obj.GenOsr (i - 48)) * s.nat (Obj.DsClockDivider ((i - 48) / 2 * 2)) * 163840
    else s.nat (Obj.CurOsr (i / 3)) * s.nat (Obj.DsClockDivider (i / 3 / 2 * 2)) * 163840

/-- The enabled analog channels. -/
def State.anaOn (s : State) : List Nat := (List.range 32).filter fun a => s.nat (Obj.AnaSource a) != 0xFF

/-- The enabled signal channels. -/
def State.sigOn (s : State) : List Nat := (List.range 64).filter fun g => s.nat (Obj.SigSlot g) != 0xFFFF

/-- R330: the stored interval of an analog channel. -/
def State.anaInterval (s : State) (a : Nat) : Nat := s.modInterval (s.nat (Obj.AnaSource a)) * s.nat (Obj.AnaDecimation a)

/-- R330: the stored interval of a signal channel. -/
def State.sigInterval (s : State) (g : Nat) : Nat := s.tNs * 65536 * s.nat (Obj.SigDecimation g)

/-- R328, R331: bytes and interval of every enabled channel. -/
def State.acqChannels (s : State) : List (Nat × Nat) :=
  (if s.nat Obj.DigWidth = 0 then [] else [(s.nat Obj.DigWidth / 8, s.nat Obj.DigDivider * 163840)]) ++
    (s.anaOn.map fun a => (if s.flag (Obj.AnaReduce a) then 16 else 4, s.anaInterval a)) ++
    s.sigOn.map fun g => (if s.flag (Obj.SigReduce g) then 32 else 8, s.sigInterval g)

/-- R331: the steady rate in bytes per 2^-16 ns. -/
def State.acqRate (s : State) : ℚ :=
  (s.acqChannels.map fun (c : Nat × Nat) => if c.2 = 0 then 0 else (c.1 : ℚ) / (c.2 : ℚ)).sum

/-- R331: the rate exceeds 1.2 GB/s. -/
def State.acqTooFast (s : State) : Bool := decide (1200000000 < s.acqRate * 1000000000 * 65536)

/-- The channel of the least interval, the lowest number first. -/
def fastest (f : Nat → Nat) : List Nat → Option Nat
  | [] => none
  | c :: l =>
    match fastest f l with
    | some d => if f d < f c then some d else some c
    | none => some c

/-- R333: the base group, its channel and Δ: the digital group, else the fastest analog channel, else the signal group. -/
def State.acqBase (s : State) : Nat × Nat × Nat :=
  if s.nat Obj.DigWidth ≠ 0 then (0, 0, s.nat Obj.DigDivider * 163840)
  else match fastest s.anaInterval s.anaOn with
    | some a => (1, a, s.anaInterval a)
    | none =>
      match fastest s.sigInterval s.sigOn with
      | some g => (2, g, s.sigInterval g)
      | none => (2, 0, s.tNs * 65536)

/-- R333: S, the base samples of the settle window. -/
def State.acqSettle (s : State) : Nat :=
  if s.get Obj.AcqGroup = 0 then 0 else ceilDiv (s.nat Obj.AcqGroupSettle * 65536) s.acqBase.2.2

/-- R333: the capacity C of a slot in base samples. `none` when nothing is stored: the rule gives no capacity then.
(DESIGN CHOICE, unsafe: log entry 98.) -/
def State.acqCapacity (s : State) (slot : Nat) : Option Int :=
  let b := s.acqRate * (s.acqBase.2.2 : ℚ)
  if b = 0 then none else some (((s.skeinData slot : ℚ) / b).floor - s.acqSettle - 1)

/-- R373: samples stream to the host. -/
def State.streaming (s : State) : Bool := s.nat Obj.AcqStreamQueue != 0xFF

/-- The status of an arming into a slot (R331–R333, R373). -/
def State.armStatus (s : State) (slot : Nat) : Nat :=
  if s.get (Obj.SkeinSize slot) = 0 then 0x0402
  else if s.acqTooFast then 0x0402
  else if s.streaming then (if s.get (Obj.HcqStreamSize (s.nat Obj.AcqStreamQueue)) = 0 then 0x0402 else 0)
  else match s.acqCapacity slot with
    | some c => if c < s.get Obj.AcqPreCount then 0x0301 else 0
    | none => 0

/-! ### The header (R346) -/

/-- R341: φ. -/
def State.acqPhi (s : State) : Nat :=
  match s.acq.iStar, s.acq.trig with
  | some t, some g => (wrapU 16 (qdiv (((t : Int) - g.1) * 65536) s.acq.delta)).toNat
  | _, _ => 0

/-- R346: the header's 256 bytes. -/
def State.headerBytes (s : State) : List Byte :=
  let r := s.acq
  let t := (r.trig.map fun g => g.1).getD 0
  natLE 2 1 ++ natLE 2 r.flags ++ natLE 1 r.cause ++ natLE 1 r.slot ++ natLE 2 (s.nat Obj.PlantAddress) ++
    natLE 4 r.epoch ++ natLE 4 r.arming ++ natLE 8 r.edge ++ natLE 8 (t / 65536) ++ natLE 2 (t % 65536) ++
    natLE 2 ((r.trig.map fun g => g.2).getD 0) ++ natLE 2 s.acqPhi ++ natLE 2 0 ++ natLE 8 r.delta ++ natLE 8 r.pre ++
    natLE 8 r.preFilled ++ natLE 8 r.post ++ natLE 8 r.postEff ++ natLE 8 r.trigOffset ++
    natLE 8 (r.overTime.getD 0 / 65536) ++ natLE 4 r.marks ++ natLE 4 (s.marksOffset r.slot) ++ natLE 8 r.stored ++
    natLE 144 0

/-- The header as it stands is written to its slot. -/
def State.putHeader (s : State) : State := s.store (Obj.SkeinData s.acq.slot) 0 s.headerBytes

/-- Set a flag of the header. -/
def State.acqFlag (s : State) (i : Nat) : State := { s with acq := { s.acq with flags := setBitN s.acq.flags i } }

/-- R346: the flag `TimeNotLocked`, when Trellis is not locked at the arming edge or the trigger. -/
def State.acqTimeFlag (s : State) : State := if s.get Obj.TrellisState = 2 then s else s.acqFlag 6

/-! ### Arming (R339, R342) -/

/-- R339: the pending arming: it waits for a later edge than the latest one. -/
def State.acqArm (s : State) (time : Nat) : State :=
  { s with acq := { s.acq with armAt := some (time, time % 4294967296), armAfter := s.tick } }

/-- R338: a trigger record travels as a broadcast frame of the plant network and as an exchange value on the chain. -/
def State.sendTrigger (s : State) (stamp : Nat) (record : List Int) : State :=
  let u := fun i => (record.getD i 0).toNat
  (s.sendFrame sentTrigger true 0 stamp 1 24 record).exPost none 8 0
    (natLE 1 (u 0) ++ natLE 1 (u 1) ++ natLE 2 (u 2) ++ natLE 2 (u 3) ++ natLE 2 0 ++ natLE 8 (u 4) ++ natLE 4 (u 5) ++ natLE 4 0)

/-- ARM (R331–R333, R339, R342): `AcqCommand` 1. -/
def execArm (s : State) : Host.Outcome State Fault Refusal :=
  let st := s.get Obj.AcqState
  let t := s.nat Obj.AcqArmTime
  let slot := s.nat Obj.AcqArmSlot
  let group := s.nat Obj.AcqGroup
  .next
    (if 1 ≤ st ∧ st ≤ 3 then s.reply 0x0501
    else if group ≠ 0 ∧ t = 0 then s.reply 0x0302
    else if group ≠ 0 ∧ t ≤ s.now + 2 * s.tNs then s.reply 0x0601
    else if s.armStatus slot ≠ 0 then s.reply (s.armStatus slot)
    else
      let s := if group = 0 then s
        else s.sendTrigger t [1, group, 0, s.get Obj.PlantAddress, t, (t % 4294967296 : Nat)]
      (s.acqArm t).done)

/-- R342: the cells of a slot are cleared: an arming replaces an earlier skein. -/
def State.clearSkein (s : State) (slot : Nat) : State :=
  let k := Obj.SkeinData slot
  { s with mem := s.mem.filter fun c => decide (c.1 < domAddr k 0 ∨ domAddr (k + 1) 0 ≤ c.1) }

/-- ARMING_EDGE (R342): the first tick edge at or after the arm time. A table of channels whose layout the spec does not
give takes free bytes.
(DESIGN CHOICE, unsafe: log entry 97.) -/
def execArmingEdge (s : State) : Host.Outcome State Fault Refusal :=
  .next
    (match s.acq.armAt with
     | none => s
     | some (t, field) =>
       let st := s.get Obj.AcqState
       if (1 ≤ st ∧ st ≤ 3) ∨ s.nat Obj.TickEdgeTime < t ∨ s.tick = s.acq.armAfter then s
       else
         let slot := s.natInUse Obj.AcqArmSlot
         let edge := s.nat Obj.TickEdgeTime
         let pre := s.natInUse Obj.AcqPreCount
         let post := s.natInUse Obj.AcqPostCount
         let free := s.fresh
         let s := free.2.clearSkein slot
         let table := (Config.freeBytes (s.free - 1)).take 3840
         let s := s.store (Obj.SkeinData slot) 256 table
         let cap := s.acqCapacity slot
         let s := s.put Obj.AcqCapacity (match cap with | some c => wrapU 64 c | none => wrapU 64 free.1)
         let eff := match cap with
           | some c => if s.streaming then post else min post (c - pre).toNat
           | none => post
         let clamped := decide (eff < post)
         let s := s.setBitIf clamped Obj.AcqStatus 0
         let r : AcqRt :=
           { slot := slot, arming := if t = 0 then edge % 4294967296 else field, epoch := s.nat Obj.ResetEpoch,
             edge := edge, pre := pre, post := post, postEff := eff, delta := s.acqBase.2.2, settle := s.acqSettle,
             wb := s.acq.wb, back := s.acq.back, ringWb := s.acq.ringWb, fireDue := s.acq.fireDue, fireArming := s.acq.fireArming,
             flags := (if clamped then 2 else 0) + (if s.streaming then 8 else 0) }
         (({ s with acq := r }).put Obj.AcqState 1).acqTimeFlag.putHeader)

/-! ### Samples (R334, R344, R345) -/

/-- R342: a recording ends with a cause. -/
def State.acqDone (s : State) (cause : Nat) : State :=
  (({ s with acq := { s.acq with cause := cause, ring := [] } }).put Obj.AcqState 4).putHeader

/-- R344: a sample of some bytes finds room in the write-back queue of 256 KB, beside provisional and counted samples. -/
def State.acqRoom (s : State) (n : Nat) : Bool := decide (s.acq.ringWb + (s.acq.wb.length - s.acq.back) + n ≤ 262144)

/-- R345: a sample is counted and its bytes go on; `direct` for what the ring already holds in capture memory. -/
def State.acqCount (s : State) (x : AcqSample) (direct : Bool) : State :=
  let s := s.count Obj.AcqAcquired 64 1
  let s := s.count (if s.streaming then Obj.AcqStreamed else Obj.AcqStored) 64 1
  let r := s.acq
  let n := x.data.length
  let i := r.instant
  let r := { r with stored := r.stored + 1, given := r.given + n,
                    instant := if i.1 = x.time then (x.time, i.2.1 + 1, i.2.2 + n) else (x.time, 1, n) }
  if direct && !s.streaming then
    let s := s.store (Obj.SkeinData r.slot) (s.dataOffset r.slot + r.drained) x.data
    { s with acq := { r with drained := r.drained + n } }
  else
    let times := if s.streaming then r.times ++ [(r.given - n, x.time)] else []
    { s with acq := { r with wb := r.wb ++ x.data, times := times, back := if direct then r.back + n else r.back } }

/-- ACQ_OVERFLOW (R344): a sample finds no room: it and every other sample of its instant count as Overflowed, and the
capture ends. -/
def State.acqOverflow (s : State) (x : AcqSample) : State :=
  let r := s.acq
  let same := decide (r.instant.1 = x.time)
  let k := if same then r.instant.2.1 else 0
  let n := if same then r.instant.2.2 else 0
  let term := if s.streaming then Obj.AcqStreamed else Obj.AcqStored
  let s := (s.count term 64 (-k)).count Obj.AcqOverflowed 64 (k + 1)
  let s := s.count Obj.AcqAcquired 64 1
  let s := s.setBit Obj.AcqStatus 1
  let r := { r with overTime := some x.time, stored := r.stored - k, given := r.given - n,
                    wb := r.wb.take (r.wb.length - n), flags := setBitN r.flags 2 }
  (({ s with acq := r }).acqMark x.time 1 0 0).acqDone 2

/-- R334: with no pre samples the recording begins at the trigger sample: other groups' samples wait until it is known. -/
def State.acqEarly (s : State) (x : AcqSample) : Bool := !x.base && s.acq.iStar.isNone && s.acq.pre == 0

/-- A sample of the recording in state 3 (R334, R341, R345). -/
def State.acqTake (s : State) (x : AcqSample) (direct : Bool) : State :=
  if s.get Obj.AcqState ≠ 3 then s
  else if !direct && !s.acqRoom x.data.length then s.acqOverflow x
  else if s.acqEarly x then { s with acq := { s.acq with ring := s.acq.ring ++ [x] } }
  else
    let r : AcqRt := s.acq
    let first : Bool := x.base && r.iStar.isNone && decide ((r.trig.map fun g => g.1).getD 0 ≤ x.time)
    let held := if first then r.ring.filter fun y => y.time == x.time else []
    let r : AcqRt := if first then { r with iStar := some x.time, trigOffset := r.given, ring := [] }
      else if x.base && r.iStar.isSome then { r with after := r.after + 1 }
      else r
    let s : State := held.foldl (fun s y => s.acqCount y true) (({ s with acq := r }).acqCount x direct)
    if x.base && s.acq.iStar.isSome && decide (s.acq.postEff ≤ s.acq.after) then
      ({ s with acq := { s.acq with ended := some x.time } }).acqDone 1
    else if first then s.putHeader
    else s

/-- R334: after the last post sample, one more sample of another group at its instant belongs to the recording. -/
def State.acqLast (s : State) (x : AcqSample) : State :=
  if s.acqRoom x.data.length then (s.acqCount x false).putHeader
  else (s.count Obj.AcqAcquired 64 1).count Obj.AcqOverflowed 64 1

/-- R343, R344: a provisional sample passes the write-back queue on its way to the ring: one that finds no room ends the
capture before any trigger. The samples of its instant count as Overflowed.
(DESIGN CHOICE, unsafe: log entry 100.) -/
def State.acqProvisional (s : State) (x : AcqSample) (ring : List AcqSample) : State :=
  if s.acqRoom x.data.length then { s with acq := { s.acq with ring := ring, ringWb := s.acq.ringWb + x.data.length } }
  else
    let k := (s.acq.ring.filter fun y => y.time == x.time).length
    let s := (s.count Obj.AcqAcquired 64 k).count Obj.AcqOverflowed 64 k
    s.acqOverflow x

/-- R334: the ring as it is kept: from the earliest of the last `n` base samples on. -/
def keepBase (n : Nat) (l : List AcqSample) : List AcqSample :=
  let bases := l.filter fun x => x.base
  if n = 0 then []
  else if bases.length ≤ n then l
  else match bases.drop (bases.length - n) with
    | b :: _ => l.filter fun x => decide (b.time ≤ x.time)
    | [] => []

/-- R334, R345: the trigger: the recording begins with the retained pre samples, and those taken since t* follow. -/
def State.acqTrigger (s : State) : State :=
  let r := s.acq
  let t := (r.trig.map fun g => g.1).getD 0
  let old : List AcqSample := keepBase r.pre (r.ring.filter fun x => decide (x.time < t))
  let new : List AcqSample := r.ring.filter fun x => decide (t ≤ x.time)
  let s := s.put Obj.AcqState 3
  let s := { s with acq := { r with ring := [], preFilled := (old.filter fun (x : AcqSample) => x.base).length,
                                    flags := setBitN r.flags 0 } }
  let s := (s.acqMark t 2 0 0).acqTimeFlag
  let s := (old ++ new).foldl (fun s x => s.acqTake x true) s
  s.putHeader

/-- The value of a stored sample (R328–R330). -/
def State.acqData (s : State) (group channel : Nat) (raw : List Int) : List Byte :=
  let last := raw.getLastD 0
  if group = 0 then natLE (s.nat Obj.DigWidth / 8) (wrapU 64 last).toNat
  else
    let width := if group = 1 then 4 else 8
    let reduce := if group = 1 then s.flag (Obj.AnaReduce channel) else s.flag (Obj.SigReduce channel)
    if reduce then
      let lo := raw.foldl min last
      let hi := raw.foldl max last
      intLE width lo ++ intLE width hi ++ intLE width (qdiv raw.sum raw.length) ++ intLE width last
    else intLE width last

/-- R237: a raw output of a modulator input as its user scales it. -/
def State.modScale (s : State) (i : Nat) (raw : Int) : Int :=
  let named := fun n f => s.nat (if f = 0 then Obj.CurInputU n else if f = 1 then Obj.CurInputV n else Obj.CurInputW n) == i
  match (List.range 48).find? fun x => named (x / 3) (x % 3) with
  | some x => s.phaseCurrent (x / 3) (x % 3) raw
  | none => if 48 ≤ i then s.genScale (i - 48) raw else s.phaseCurrent (i / 3) (i % 3) raw

/-- The channel of a group stores samples.
(DESIGN CHOICE, unsafe: log entry 101.) -/
def State.acqStores (s : State) (group channel : Nat) : Bool :=
  if group = 0 then s.nat Obj.DigWidth != 0
  else if group = 1 then channel < 32 && s.nat (Obj.AnaSource channel) != 0xFF
  else group == 2 && channel < 64 && s.nat (Obj.SigSlot channel) != 0xFFFF

/-- R329: the level of a digital source: what the device itself forms, else the level at the pin or comparator. -/
def State.digLevel (s : State) (code : Nat) (pin : Bool) : Bool :=
  let x := code % 256
  match code / 256 with
  | 0 => false
  | 2 => (s.fin x).f
  | 3 =>
    let r := s.fb (x / 8)
    (match r.pend with
     | some p => p.lines
     | none => r.lines).testBit (x % 8)
  | 4 => (s.cmp x).level
  | 6 => (s.pwm (x / 2)).asserted.testBit (x % 2)
  | _ => pin

/-- R329: the 64 digital sources at a sample; bit j of `pins` is the level at the pin or comparator that source j names.
(DESIGN CHOICE, unsafe: log entry 145.) -/
def State.digWord (s : State) (pins : Int) : Int :=
  (List.range 64).foldl (fun w j => if s.digLevel (s.nat (Obj.DigSource j)) (bitAt (pins % 2 ^ 64).toNat j) then w + 2 ^ j else w) 0

/-- R329: a sample of the digital group falls a whole number of its intervals after the arming edge.
(DESIGN CHOICE, unsafe: log entry 145.) -/
def State.digDue (s : State) (time : Nat) : Bool :=
  let t0 := s.acq.edge * 65536
  decide (t0 ≤ time) && (time - t0) % (s.nat Obj.DigDivider * 163840) == 0

/-- R335: the pattern is true of a digital word. -/
def State.patternHolds (s : State) (w : Nat) : Bool := (w ^^^ s.nat Obj.TrigValue) &&& s.nat Obj.TrigMask == 0

/-- R336: the lowest-numbered source of the mask that changed between two digital words. -/
def State.patternSource (s : State) (old new : Nat) : Option Nat :=
  (List.range 64).find? fun j => (s.nat Obj.TrigMask).testBit j && old.testBit j != new.testBit j

/-- R336: the pattern trigger takes the 64 sources at a sample: mode 1 fires where the pattern becomes true, mode 2 where it
becomes false, mode 3 where it has been true for more than `TrigHold` samples. A first sample after arming has no change.
(DESIGN CHOICE, unsafe: log entry 98.) -/
def State.patternSample (s : State) (time w : Nat) : State :=
  let r := s.acq
  let mode := s.get Obj.TrigPatternMode
  let now := s.patternHolds w
  let run := if now then r.patRun + 1 else 0
  let was := r.patWord.map s.patternHolds
  let fires := if mode = 3 then run == s.nat Obj.TrigHold + 1
    else if mode = 2 then was == some true && !now
    else was == some false && now
  let source := if mode = 3 then none else s.patternSource (r.patWord.getD w) w
  let due := if fires && r.patDue.isNone then some (time, source) else r.patDue
  { s with acq := { r with patWord := some w, patRun := run, patDue := due } }

/-- ACQ_SAMPLE_STORED (R328–R330, R334, R336, R342, R344, R345): a sample is due: in states 1 and 2 it enters the ring, in
state 3 the recording; in state 4 it is one more of the instant of an overflow or of the last sample. A digital sample feeds
the pattern trigger, stored or not. A signal channel takes the slot values that the latest tick edges latched. -/
def acqSampleStoredNow (group channel time : Nat) (raw : List Int) (s : State) : Host.Outcome State Fault Refusal :=
  let st := s.get Obj.AcqState
  let s := if group = 0 ∧ 1 ≤ st ∧ st ≤ 2 ∧ s.digDue time then s.patternSample time (s.digWord (raw.getLastD 0)).toNat else s
  .next
    (if s.acqStores group channel && (group != 0 || s.digDue time) then
      let vals := if group = 0 then [s.digWord (raw.getLastD 0)]
        else if group = 1 then raw.map (s.modScale (s.nat (Obj.AnaSource channel)))
        else
          let t := s.slotType (s.nat (Obj.SigSlot channel))
          (((s.acq.sig.lookup channel).getD []).map (slotDecode t)).reverse
      let s := if group = 2 then { s with acq := { s.acq with sig := Sparse.erase channel s.acq.sig } } else s
      let b := s.acqBase
      let x : AcqSample :=
        { group := group, time := time, base := b.1 == group && b.2.1 == channel, data := s.acqData group channel vals }
      if st = 1 then s.acqProvisional x (keepBase (s.acq.pre + s.acq.settle + 1) (s.acq.ring ++ [x]))
      else if st = 2 then
        if s.acqRoom x.data.length then s.acqProvisional x (s.acq.ring ++ [x]) else s.acqTrigger.acqTake x false
      else if st = 3 then s.acqTake x false
      else if st = 4 ∧ s.acq.cause = 2 ∧ s.acq.overTime = some time then
        (s.count Obj.AcqAcquired 64 1).count Obj.AcqOverflowed 64 1
      else if st = 4 ∧ s.acq.cause = 1 ∧ s.acq.ended = some time ∧ x.base = false then s.acqLast x
      else s
    else s)

/-- ACQ_SAMPLE_STORED, with the values that directly written objects had at the latest edge (R51). -/
def execAcqSampleStored (group channel time : Nat) (raw : List Int) (s : State) : Host.Outcome State Fault Refusal :=
  viaEdge (acqSampleStoredNow group channel time raw) s

/-- R328, R203: at a tick edge every enabled signal channel collects its slot's raw value while the engine records. -/
def State.acqEdge (s : State) : State :=
  let st := s.get Obj.AcqState
  let now : Option Int := if s.nat Obj.TrigSlot < 4096 then some (s.slotPrev (s.nat Obj.TrigSlot)) else none
  let s := { s with acq := { s.acq with sigPrev := s.acq.sigNow, sigNow := now } }
  if 1 ≤ st ∧ st ≤ 3 then
    s.each s.sigOn fun s g =>
      let old := (s.acq.sig.lookup g).getD []
      let v := s.nat (Obj.SlotValue (s.nat (Obj.SigSlot g)))
      { s with acq := { s.acq with sig := Sparse.insert g ((v :: old).take (s.nat (Obj.SigDecimation g))) s.acq.sig } }
  else s

/-! ### Triggering (R335–R341) -/

def State.mark (s : State) (m : Nat) : MarkRt := Sparse.get (fun _ => {}) s.marks m
def State.setMark (s : State) (m : Nat) (r : MarkRt) : State := { s with marks := Sparse.put (fun _ => {}) s.marks m r }

/-- R340: the device sees a fire with time t_f from an address in state 1 or 2.
(DESIGN CHOICE, unsafe: log entry 98.) -/
def State.acqSee (s : State) (t source : Nat) : State :=
  let st := s.get Obj.AcqState
  let better := match s.acq.trig with | some g => decide (t < g.1) | none => true
  let s := if better then { s with acq := { s.acq with trig := some (t, source) } } else s
  if st = 1 then
    if s.get Obj.AcqGroup = 0 ∨ s.get Obj.AcqGroupSettle = 0 then s.acqTrigger
    else ({ s with acq := { s.acq with opened := s.now16 } }).put Obj.AcqState 2
  else s

/-- R337, R340: this device fires: in state 1 it fires and its record waits for the next edge; in state 2 it only takes
part in the minimum; in other states nothing happens. -/
def State.acqFire (s : State) (t : Nat) : State :=
  let st := s.get Obj.AcqState
  if st = 1 ∨ st = 2 then
    let s := if st = 1 ∧ s.get Obj.AcqGroup ≠ 0 then 
      { s with acq := { s.acq with fired := true, fireDue := some t, fireArming := s.acq.arming } } else s
    s.acqSee t (s.nat Obj.PlantAddress)
  else s

/-- R335: the slot of source 2 crossed its level between the last two latches. -/
def State.trigCrossed (s : State) : Bool :=
  match s.acq.sigPrev, s.acq.sigNow with
  | some a, some b =>
    let l := s.get Obj.TrigLevel
    let slope := s.get Obj.TrigSlope
    (slope != 2 && decide (a < l ∧ l ≤ b)) || (slope != 1 && decide (l < a ∧ b ≤ l))
  | _, _ => false

/-- R336: the trigger time of a pattern that came true at a sample: of mode 3 the sample's; else that of the edge of the
lowest source that changed: of a `MARKm` source its time-to-digital time, else the 400 MHz sample time given for it. -/
def State.patternTime (s : State) (sample : Nat) (source : Option Nat) (edge : Nat) : Nat :=
  match source with
  | none => sample
  | some j =>
    let code := s.nat (Obj.DigSource j)
    match code / 256, (s.mark (code % 256)).lastEdge with
    | 1, some at8 => s.time16 at8 / 8192 * 8192
    | _, _ => sample - (sample - edge) / 163840 * 163840

/-- R335, R336: when the condition of `TrigSource` has come true, its trigger time. Source 5 has no condition. -/
def State.trigTime (s : State) (edge : Nat) : Option Nat :=
  let src := s.get Obj.TrigSource
  if src = 1 then s.acq.patDue.map fun d => s.patternTime d.1 d.2 edge
  else if src = 2 then (if s.trigCrossed then some (s.nat Obj.TickEdgeTime * 65536) else none)
  else if src = 3 ∨ src = 4 then s.acq.cond
  else none

/-- TRIGGER_FIRE (R335–R337): the condition of `TrigSource` 1 to 4 has come true; `time` is the 400 MHz sample time of the
edge that made a pattern true. -/
def execTriggerFire (time : Nat) (s : State) : Host.Outcome State Fault Refusal :=
  .next
    (match s.trigTime time with
     | some t => ({ s with acq := { s.acq with patDue := none, cond := none } } : State).acqFire t
     | none => s)

/-- FORCE_TRIGGER (R337): `AcqCommand` 3; t_f is the command's completion time. -/
def execForceTrigger (s : State) : Host.Outcome State Fault Refusal := .next (s.acqFire s.now16).done

/-- FIRE_RECORD_SEND (R340): one fire record at the next tick edge after the first own fire. -/
def execFireRecordSend (s : State) : Host.Outcome State Fault Refusal :=
  .next
    (match s.acq.fireDue with
     | none => s
     | some t =>
       let s := s.sendTrigger (t / 65536)
         [2, s.get Obj.AcqGroup, (t % 65536 : Nat), s.get Obj.PlantAddress, (t / 65536 : Nat), s.acq.fireArming]
       { s with acq := { s.acq with fireDue := none } })

/-- SETTLE_WINDOW_CLOSE (R340): `AcqGroupSettle` after the window opened it closes and t* stands. -/
def execSettleWindowClose (s : State) : Host.Outcome State Fault Refusal :=
  .next (if s.get Obj.AcqState = 2 ∧ s.acq.opened + s.nat Obj.AcqGroupSettle * 65536 ≤ s.now16 then s.acqTrigger else s)

/-- R342: an armed or running recording ends: after a first fire the retained samples are recorded first.
(DESIGN CHOICE, unsafe: log entry 98.) -/
def State.acqStop (s : State) (cause : Nat) : State :=
  let st := s.get Obj.AcqState
  if 1 ≤ st ∧ st ≤ 3 then
    let s := if st = 2 then s.acqTrigger else s
    if s.get Obj.AcqState = 4 then s else s.acqDone cause
  else s

/-- DISARM (R338, R342): `AcqCommand` 2; in a group a disarm record is sent. -/
def execDisarm (s : State) : Host.Outcome State Fault Refusal :=
  let st := s.get Obj.AcqState
  let running := decide (1 ≤ st ∧ st ≤ 3)
  let s := if running && s.get Obj.AcqGroup != 0 then
      s.sendTrigger s.now [3, s.get Obj.AcqGroup, s.nowFrac, s.get Obj.PlantAddress, s.now, s.acq.arming] else s
  .next ({ s.acqStop 3 with acq := { (s.acqStop 3).acq with armAt := none } }).done

/-- Count a trigger record's outcome in the input-frame ledger (R338–R340). -/
def State.trigCount (s : State) (key : Nat) : State := (s.count Obj.SumInputFrameReceived 64 1).count key 64 1

/-- R338–R342: a trigger record is taken.
(DESIGN CHOICE, unsafe: log entry 99.) -/
def State.trigRecord (s : State) (r : TrigRecord) : State :=
  let st := s.get Obj.AcqState
  let live := decide (1 ≤ st ∧ st ≤ 3)
  if r.group ≠ s.nat Obj.AcqGroup ∨ r.group = 0 then s
  else if (r.plant && r.header != r.stamp) || r.kind == 0 || decide (3 < r.kind) then s.trigCount Obj.SumInputFrameRejected
  else if r.kind = 1 then
    if live then (s.trigCount Obj.SumInputFrameRejected).setBit Obj.AcqStatus 3
    else if s.armStatus (s.nat Obj.AcqArmSlot) ≠ 0 then (s.trigCount Obj.SumInputFrameRejected).setBit Obj.AcqStatus 3
    else (s.trigCount Obj.SumInputFrameAccepted).acqArm r.stamp
  else if r.arming ≠ s.acq.arming ∨ (st = 0 ∧ r.kind = 2) then s.trigCount Obj.SumInputFrameRejected
  else if r.kind = 2 then
    if st = 1 ∨ st = 2 then
      let s := s.trigCount Obj.SumInputFrameAccepted
      let t := r.stamp * 65536 + r.fraction
      let first := match s.acq.trig with | some g => decide (t < g.1) | none => true
      let s := if first then s.acqFlag 4 else s
      s.acqSee t r.source
    else ((s.trigCount Obj.SumInputFrameLate).setBit Obj.AcqStatus 2).acqFlag 5
  else (s.trigCount Obj.SumInputFrameAccepted).acqStop 3

/-- TRIGGER_RECORD (R338). -/
def execTriggerRecord (r : TrigRecord) (s : State) : Host.Outcome State Fault Refusal := .next (s.trigRecord r)

/-! ### The write-back queue (R343) -/

/-- R442: throttling holds the paused work: at level L it runs for 8 − L of every 8 ms.
(DESIGN CHOICE, unsafe: log entry 101.) -/
def State.workHeld (s : State) : Bool :=
  decide (0 < s.get Obj.ThrottleLevel) && decide ((8 : Int) - s.get Obj.ThrottleLevel ≤ ((s.now + Config.pausePhase) / 1000000 % 8 : Nat))

/-- WRITE_BACK_DRAIN (R343, R442): bytes leave the write-back queue, those of provisional samples first; while throttling
holds the drain, none leave. A streaming capture drains what it recorded by blocks (R373). -/
def execWriteBackDrain (n : Nat) (s : State) : Host.Outcome State Fault Refusal :=
  .next
    (if s.workHeld then s
    else if s.streaming then { s with acq := { s.acq with ringWb := s.acq.ringWb - n } }
    else
      let k := min n s.acq.ringWb
      let n := n - k
      let r := { s.acq with ringWb := s.acq.ringWb - k }
      let s := s.store (Obj.SkeinData r.slot) (s.dataOffset r.slot + r.drained) (r.wb.take n)
      { s with acq := { r with wb := r.wb.drop n, drained := r.drained + min n r.wb.length } })

end Sys2Proof.Machine
end

