-- ==== Sys2Proof/Machine/Marks.lean ====
section
/-! DEFINITION. Register marks (R347–R349): an edge on a mark input is latched, filtered or dropped; the position of a mark on
each of its axes; the publication of the oldest final mark at a tick edge. Also the events of the auxiliary PWM channels
(R305, R306). -/

namespace Sys2Proof.Machine


/-- R347: `MarkEdge` selects the edge. -/
def State.markActive (s : State) (m : Nat) (rising : Bool) : Bool :=
  let e := s.get (Obj.MarkEdge m)
  e == 3 || (e == 1 && rising) || (e == 2 && !rising)

/-- R347: the gate is open at a time: the gate axis's latest latched position, carried on at its velocity, lies within the
window modulo one cycle.
(DESIGN CHOICE, unsafe: log entry 102.) -/
def State.markGate (s : State) (m time : Nat) : Bool :=
  let a := s.nat (Obj.MarkGateAxis m)
  if 64 ≤ a ∨ s.get (Obj.MarkGateLength m) = 0 then true
  else
    let dt : Int := (time : Int) - s.nat Obj.TickEdgeTime * 65536
    let p := s.slotPrev (axisSlot a + 3) + qdiv (s.slotPrev (axisSlot a + 4) * dt) 1000000000
    decide ((p - s.get (Obj.MarkGateStart m)) % 4294967296 < s.get (Obj.MarkGateLength m))

/-- The channels whose event source is a mark input (R221). -/
def State.eventChannels (s : State) (m : Nat) : List Nat := allChannels.filter fun c => s.nat (Obj.FbEventSource c) == m

/-- R347: an active edge is filtered: too soon after the previous one, too short, or outside the gate. -/
def State.markFiltered (s : State) (m at8 time width : Nat) : Bool :=
  let soon := match (s.mark m).lastEdge with
    | some t => decide (at8 < t + 160)
    | none => false
  let w := s.nat (Obj.MarkMinWidth m)
  soon || (w != 0 && decide (width < w * 20)) || !s.markGate m time

/-- R347: a mark is latched: it enters the queue, the channels whose event source is the input latch it (R221), and the channels
of its axes keep what brackets it (R348). -/
def State.markLatch (s : State) (m time : Nat) : State :=
  let r := s.mark m
  let s := s.setMark m { r with queue := r.queue ++ [time] }
  let s := (s.count (Obj.MarkLatched m) 64 1).put (Obj.MarkPending m) (r.queue.length + 1 : Nat)
  let s := s.acqEvent 1 4 m (s.nat (Obj.MarkLatched m)) time
  let own := s.eventChannels m
  let axes := ((List.range 4).map fun j => s.nat (Obj.MarkAxis m j)).filter fun a => decide (a < 64) && s.get (Obj.FbSource a) == 1
  let others := ((axes.map fun a => s.nat (Obj.FbChannelNumber a)).dedup.filter fun c => !own.contains c)
  (s.each own (State.fbEvent · time true)).each others (State.fbEvent · time false)

/-- MARK_EDGE (R76, R221, R347): an edge of `MARKm` at a counter value, in eighths of a count, is time-stamped and
latched, filtered or dropped; `width` is how long the input keeps the level, in the same unit. -/
def markEdgeNow (m at8 : Nat) (rising : Bool) (width : Nat) (s : State) : Host.Outcome State Fault Refusal :=
  let r := s.mark m
  let time := s.time16 at8 / 8192 * 8192
  let filtered := s.markFiltered m at8 time width
  let active := s.markActive m rising
  let s := s.setMark m { r with lastEdge := some at8 }
  .next
    (if active then
      let s := s.count (Obj.MarkEdges m) 64 1
      if filtered then s.count (Obj.MarkFiltered m) 64 1
      else if r.queue.length < 16 then s.markLatch m time
      else (s.count (Obj.MarkDropped m) 64 1).setBit (Obj.MarkStatus m) 0
    else s)

/-- MARK_EDGE, with the values that directly written objects had at the latest edge (R51). -/
def execMarkEdge (m at8 : Nat) (rising : Bool) (width : Nat) (s : State) : Host.Outcome State Fault Refusal :=
  viaEdge (markEdgeNow m at8 rising width) s

/-! ### Positions of a mark (R348) -/

/-- R348, R113: the position at a time between two latched samples (time in ns, position, velocity). -/
def hermiteAt (t0 p0 v0 t1 p1 v1 : Int) (t16 : Int) : Int :=
  let tau := t1 - t0
  let ta := qdiv (v0 * 65536 * tau) 1000000000
  let tb := qdiv (v1 * 65536 * tau) 1000000000
  let dp := p1 - p0
  let c2 := 3 * dp - 2 * ta - tb
  let c3 := -2 * dp + ta + tb
  let x := if tau = 0 then 0 else ((t16 - t0 * 65536) * 65536) / tau
  let h := c2 + rsh (c3 * x) 32
  let h := ta + rsh (h * x) 32
  p0 + rsh (h * x) 32

/-- R348: the samples that bracket a time, from a list with the newest first.
(DESIGN CHOICE, unsafe: log entry 102.) -/
def bracket (t16 : Int) : List (Nat × Int × Int) → Option ((Nat × Int × Int) × (Nat × Int × Int))
  | y :: x :: l => if (x.1 : Int) * 65536 ≤ t16 ∧ t16 ≤ (y.1 : Int) * 65536 then some (x, y) else bracket t16 (x :: l)
  | _ => none

/-- A position formed for a mark: the value, and which sticky bit of `MarkStatus` it sets. -/
abbrev MarkPos := Int × Option Nat

/-- R348: the position of an axis at an event time, when it is final at the latest edge. An event older than every sample
held takes the oldest. -/
def State.markPosition (s : State) (a te : Nat) : Option MarkPos :=
  if s.get (Obj.FbSource a) = 1 then
    let c := s.nat (Obj.FbChannelNumber a)
    match s.eventCount c te (s.nat Obj.TickEdgeTime * 65536) with
    | some v =>
      let sgn : Int := if s.flag (Obj.FbReverse a) then -1 else 1
      let p := s.get (Obj.FbPositionOffset a) + sgn * qdiv v.1 (s.get (Obj.FbCountsPerCycle a))
      some (wrapS 64 (p + (s.axis a).ref + s.get (Obj.RideThroughCorrection a)), if v.2 then some 1 else none)
    | none => none
  else
    let l := (s.hist.lookup a).getD []
    match bracket te l with
    | some (x, y) => some (wrapS 64 (hermiteAt x.1 x.2.1 x.2.2 y.1 y.2.1 y.2.2 te), some 2)
    | none =>
      match l.getLast? with
      | some x => if te < x.1 * 65536 then some (x.2.1, some 2) else none
      | none => none

/-- R348: at a tick edge the axes that marks name keep the sample they latched.
(DESIGN CHOICE, unsafe: log entry 102.) -/
def State.histEdge (s : State) : State :=
  let axes := ((List.range 16).map fun m => (List.range 4).map fun j => s.nat (Obj.MarkAxis m j)).flatten.dedup
  let axes := axes.filter fun a => decide (a < 64) && (isLocal a || s.get (Obj.NetAxisKind a) == 0 || (s.axis a).netTaken)
  let time := s.nat Obj.TickEdgeTime
  s.each axes fun s a =>
    let x := (time, s.slotPrev (axisSlot a + 3), s.slotPrev (axisSlot a + 4))
    { s with hist := Sparse.insert a ((x :: (s.hist.lookup a).getD []).take 64) s.hist }

/-- R349: the slots of a published mark. -/
def State.markSlots (s : State) (m te : Nat) (ps : List (Nat × MarkPos)) : State :=
  let out := fun (s : State) (slot : Nat) (v : Int) => if slot = 0xFFFF then s else s.slotLatch slot v
  let s := out s (s.nat (Obj.MarkTimeSlot m)) (te / 65536 : Nat)
  let s := ps.foldl (fun s x =>
    let s := out s (s.nat (Obj.MarkPosSlot m x.1)) x.2.1
    let s := s.put (Obj.MarkLastPosition m x.1) x.2.1
    match x.2.2 with | some b => s.setBit (Obj.MarkStatus m) b | none => s) s
  let q := s.nat (Obj.MarkSeqSlot m)
  if q = 0xFFFF then s else s.slotLatch q (wrapU 32 (s.slotPrev q + 1))

/-- MARK_PUBLISH (R349): at a tick edge the oldest mark whose positions are all final is published. -/
def State.markPublish (s : State) (m : Nat) : State :=
  match (s.mark m).queue with
  | [] => s
  | te :: l =>
    let js := (List.range 4).filter fun j => s.nat (Obj.MarkAxis m j) < 64
    let ps := js.filterMap fun j => (s.markPosition (s.nat (Obj.MarkAxis m j)) te).map fun p => (j, p)
    if ps.length < js.length then s
    else
      let s := s.markSlots m te ps
      let s := (s.put (Obj.MarkLastTime m) (te / 65536 : Nat)).put (Obj.MarkLastFraction m) (te % 65536 : Nat)
      (s.setMark m { s.mark m with queue := l }).put (Obj.MarkPending m) (l.length : Nat)

/-! ### Auxiliary channels (R305, R306) -/

/-- AUX_CHANNEL_EVENT (R305, R306, R261): the counter passes the compare value of an auxiliary channel, toward the valley or
toward the peak: the channel enters or leaves its region. -/
def auxChannelEventNow (n j : Nat) (valley : Bool) (s : State) : Host.Outcome State Fault Refusal :=
  let p := s.pwm n
  let entry := valley == (s.get (Obj.AuxRegion n j) == 1)
  let s := s.setPwm n (if j = 0 then { p with aux0 := entry } else { p with aux1 := entry })
  let act := s.get (Obj.AuxAction n j)
  .next
    (if act = 2 then s.each [0, 1, 2] fun s f => s.pvsRequest n f
    else if act = 3 then s.acqEvent 0 3 n (n * 256 + j) s.now16
    else s)

/-- AUX_CHANNEL_EVENT, with the values that directly written objects had at the latest edge (R51). -/
def execAuxChannelEvent (n j : Nat) (valley : Bool) (s : State) : Host.Outcome State Fault Refusal :=
  viaEdge (auxChannelEventNow n j valley) s

end Sys2Proof.Machine
end

