-- ==== Sys2Proof/Machine/JzLink.lean ====
section
/-! DEFINITION. What a Jorzer port sends (R355, R358, R362, R363, R374): cyclic and control frames at once, classes 2 to 4 by
credits, in order, kept until they are acknowledged, and arbitrated between this device and the frames it relays. -/

namespace Sys2Proof.Machine

def State.port (s : State) (j : Nat) : JzPortRt := if j = 0 then s.jz.port0 else s.jz.port1
def State.setPort (s : State) (j : Nat) (r : JzPortRt) : State :=
  if j = 0 then { s with jz := { s.jz with port0 := r } } else { s with jz := { s.jz with port1 := r } }

/-- R374: the credit class of frame class 2, 3 or 4 on a port. -/
def creditClass (port cls : Nat) : Nat := 3 + 3 * port + (cls - 2)

/-- R374: what an ingress port grants to a class, in 64-byte blocks. -/
def grantOf (cls : Nat) : Nat := if cls = 4 then 512 else 256

/-- R374: the 64-byte blocks of a frame's payload, at least one.
(DESIGN CHOICE, unsafe: log entry 103.) -/
def blocksOf (l : List Byte) : Nat := max 1 (ceilDiv l.length 64)

/-- R43, R374: class `c` is suspended. -/
def State.suspended (s : State) (c : Nat) : Bool := s.bit Obj.Reconciling c

/-- R374: the producer uses n units of a class. -/
def State.creditUse (s : State) (c n : Nat) : State :=
  ((s.count (Obj.CrUsed c) 64 n).count (Obj.CrHeld c) 64 (-n)).count (Obj.CrOccupancy c) 64 n

/-- R374: n units are consumed, and their credits return.
(DESIGN CHOICE, unsafe: log entry 104.) -/
def State.creditReturn (s : State) (c n : Nat) : State :=
  (((s.count (Obj.CrGranted c) 64 n).count (Obj.CrHeld c) 64 n).count (Obj.CrConsumed c) 64 n).count (Obj.CrOccupancy c) 64 (-n)

/-- R374: a consumer's capacity is granted.
(DESIGN CHOICE, unsafe: log entry 104.) -/
def State.creditGrant (s : State) (c n : Nat) : State := (s.count (Obj.CrGranted c) 64 n).count (Obj.CrHeld c) 64 n

/-- R374: a completion comes for a tag that has completed: it is discarded, and its credit returns.
(DESIGN CHOICE, unsafe: log entry 104.) -/
def State.creditLate (s : State) (c : Nat) : State :=
  ((s.count (Obj.CrGranted c) 64 1).count (Obj.CrUsed c) 64 1).count (Obj.CrLate c) 64 1

/-- A frame on the line (R355). -/
def State.onLine (s : State) (port : Nat) (f : JzOut) : State :=
  s.send sentJorzer ([(port : Int), f.kind, f.flags, f.origin, f.dest, f.cls, f.seq, f.edge] ++ f.payload.map fun b => (b.toNat : Int))

/-- R353, R354: the port carries traffic. -/
def State.portUp (s : State) (j : Nat) : Bool := s.get (Obj.JzPortState j) == 2

/-- R352, R363: at the first edge after an enumeration or an acceptance the weights follow the chain: its length where the
accepted positions agree.
(DESIGN CHOICE, unsafe: log entry 103.) -/
def State.weightEdge (s : State) : State :=
  let l := if s.jz.mapped && !s.faultActive fkChain 0 then s.nat Obj.JzChainLength else s.jz.accepted
  if l = s.jz.weightLen then s else { s with jz := { s.jz with weightLen := l } }

/-- R363: the weight of an input of an egress port: this device's own, or the relayed one by the chain length in use. A
relayed input that this length does not hold has weight 1.
(DESIGN CHOICE, unsafe: log entry 103.) -/
def State.weightOf (s : State) (port : Nat) (relayed : Bool) : Nat :=
  if !relayed then 1
  else max 1 (if port = 0 then s.jz.weightLen - 1 - s.nat Obj.JzPosition else s.nat Obj.JzPosition)

/-- The first frame of a class in a list. -/
def headOf (cls : Nat) (l : List JzOut) : Option JzOut := l.find? fun f => f.cls == cls

/-- R363: deficit round-robin between both inputs for one class: the input served, and the new state. `dr` holds which
input has the turn and both deficits. -/
def State.drrPick (s : State) (port cls : Nat) : Nat → (Bool × Nat × Nat) → Option (Bool × JzOut) × (Bool × Nat × Nat)
  | 0, dr => (none, dr)
  | n + 1, dr =>
    let r := s.port port
    let mine := headOf cls (if dr.1 then r.relayed else r.own)
    let other := headOf cls (if dr.1 then r.own else r.relayed)
    let deficit := if dr.1 then dr.2.2 else dr.2.1
    let size := match mine with | some f => f.payload.length + 24 | none => 0
    let turn : Bool × Nat × Nat :=
      let q := 1048 * s.weightOf port (!dr.1)
      let keep := if mine.isNone then 0 else deficit
      if dr.1 then (false, dr.2.1 + q, keep) else (true, keep, dr.2.2 + q)
    match mine, other with
    | none, none => (none, (dr.1, 0, 0))
    | some f, none => (some (dr.1, f), dr)
    | none, some _ => s.drrPick port cls n turn
    | some f, some _ =>
      if size ≤ deficit then (some (dr.1, f), if dr.1 then (dr.1, dr.2.1, deficit - size) else (dr.1, deficit - size, dr.2.2))
      else s.drrPick port cls n turn

/-- R358: the bytes of the replay buffer in use. -/
def JzPortRt.kept (r : JzPortRt) : Nat := (r.unacked.map fun (f : JzOut) => f.payload.length + 16).sum

/-- R358, R374: a class may send a frame: its credits, the replay buffer and the link allow it. -/
def State.maySend (s : State) (port : Nat) (f : JzOut) : Bool :=
  let c := creditClass port f.cls
  s.portUp port && !s.suspended c && decide ((blocksOf f.payload : Int) ≤ s.get (Obj.CrHeld c)) &&
    decide ((s.port port).kept + f.payload.length + 16 ≤ 32768)

/-- A frame of classes 2 to 4 leaves its queue for the line. -/
def State.dispatchFrame (s : State) (port : Nat) (relayed : Bool) (f : JzOut) (dr : Bool × Nat × Nat) : State :=
  let r := s.port port
  let seq := (r.txSeq + 1) % 65536
  let g := { f with seq := seq }
  let r := { r with txSeq := seq, unacked := r.unacked ++ [g], drr := r.drr.set (f.cls - 2) dr, next := (f.cls - 1) % 3 + 2 }
  let r := if relayed then { r with relayed := r.relayed.erase f } else { r with own := r.own.erase f }
  ((s.setPort port r).creditUse (creditClass port f.cls) (blocksOf f.payload)).onLine port g

/-- R362, R363: one frame of classes 2 to 4, the classes in round-robin. -/
def State.serveOne (s : State) (port : Nat) : Option State :=
  let n := (s.port port).next
  [n, (n - 1) % 3 + 2, n % 3 + 2].findSome? fun cls =>
    let dr := (s.port port).drr.getD (cls - 2) (false, 0, 0)
    let p := s.drrPick port cls 130 dr
    match p.1 with
    | some (rel, f) => if s.maySend port f then some (s.dispatchFrame port rel f p.2) else none
    | none => none

/-- Serve a port while a frame may leave. -/
def State.serve (s : State) (port : Nat) : Nat → State
  | 0 => s
  | n + 1 => match s.serveOne port with
    | some t => t.serve port n
    | none => s

/-- R351, R358, R362: a frame is given to a port: classes 0 and 1 leave at once or are lost, the others wait for their turn,
also while the link retrains. A port without signal, and a device beyond the 64th, send nothing. -/
def State.jzSend (s : State) (port : Nat) (relayed : Bool) (f : JzOut) : State :=
  if s.jz.outside || s.get (Obj.JzPortState port) == 0 then s
  else if f.cls ≤ 1 then (if s.portUp port then s.onLine port f else s)
  else
    let r := s.port port
    let s := s.setPort port (if relayed then { r with relayed := r.relayed ++ [f] } else { r with own := r.own ++ [f] })
    s.serve port ((s.port port).own.length + (s.port port).relayed.length)

/-- R351: the port toward a chain position. -/
def State.portTo (s : State) (dest : Nat) : Nat := if dest < s.nat Obj.JzPosition then 0 else 1

/-- A frame that this device originates. -/
def State.originate (s : State) (kind cls dest flags : Nat) (payload : List Byte) : JzOut :=
  { kind := kind, flags := flags, origin := s.nat Obj.JzPosition, dest := dest, cls := cls, edge := 0, payload := payload,
    seq := 0, replays := 0 }

/-! ### Exchange frames of a tick (R357) -/

/-- A record group (R357): its kind, its instance and its records. -/
structure Group where
  kind : Nat
  inst : Nat
  records : List (List Byte)
  deriving DecidableEq, Repr

/-- R357: a group's header and records. -/
def Group.bytes (g : Group) : List Byte := natLE 1 g.kind ++ natLE 1 g.inst ++ natLE 1 g.records.length ++ natLE 1 0 ++ g.records.flatten

/-- A record joins the group of its kind and instance, or opens one. -/
def addRecord (x : ExOut) : List Group → List Group
  | [] => [⟨x.kind, x.inst, [x.bytes]⟩]
  | g :: l =>
    if g.kind = x.kind ∧ g.inst = x.inst ∧ g.records.length < 255 then { g with records := g.records ++ [x.bytes] } :: l
    else g :: addRecord x l

/-- R357: the payloads of the frames for one destination: records that do not fit in 1,024 bytes go on in a further frame. -/
def packRecords (l : List ExOut) : List (List Byte) :=
  let bytes := fun (g : List Group) => (g.map Group.bytes).flatten
  let r := l.foldl (fun (acc : List (List Group) × List Group) x =>
    let g := addRecord x acc.2
    if 1024 < (bytes g).length then (acc.1 ++ [acc.2], addRecord x []) else (acc.1, g)) ([], [])
  (r.1 ++ [r.2]).map bytes

/-- R357: the exchange frames of the tick that ends, stamped with the edge at which they are inputs: to each destination named,
and one broadcast.
(DESIGN CHOICE, unsafe: log entry 107.) -/
def State.exFlush (s : State) (n : Nat) : State :=
  if s.get Obj.JzPosition = 0xFF ∨ s.get Obj.JzState = 3 then s
  else
    let l := s.jz.out
    let frame := fun (flags dest : Nat) (payload : List Byte) =>
      ({ s.originate 1 0 dest flags payload with edge := n % 4294967296 } : JzOut)
    let s := { s with jz := { s.jz with out := [] } }
    let s := ((l.filterMap fun x => x.dest).dedup).foldl (fun s d =>
      (packRecords (l.filter fun x => x.dest == some d)).foldl (fun s p => s.jzSend (s.portTo d) false (frame 0 d p)) s) s
    (packRecords (l.filter fun x => x.dest.isNone)).foldl (fun s p =>
      (s.jzSend 0 false (frame 1 0 p)).jzSend 1 false (frame 1 0 p)) s

/-- R374: the type-10 frame of a port: it acknowledges and returns the credits that are due. -/
def State.creditFrame (s : State) (port : Nat) : State :=
  let r := s.port port
  let f := s.originate 10 1 0 0 (natLE 2 r.rxSeq ++ (r.due.map (natLE 2)).flatten)
  ((s.setPort port { r with due := [0, 0, 0], creditAt := s.now })).jzSend port false f

/-- R374: units of a class were taken out of the ingress buffer of a port: 8 due send a type-10 frame. -/
def State.creditDue (s : State) (port cls n : Nat) : State :=
  let r := s.port port
  let due := r.due.set (cls - 2) (r.due.getD (cls - 2) 0 + n)
  let s := s.setPort port { r with due := due }
  if 8 ≤ due.sum then s.creditFrame port else s

/-- CREDIT_FRAME_TIMEOUT (R374): 2 µs have passed since the last type-10 frame. -/
def execCreditFrameTimeout (port : Nat) (s : State) : Host.Outcome State Fault Refusal :=
  .next (if 0 < (s.port port).due.sum ∧ (s.port port).creditAt + 2000 ≤ s.now then s.creditFrame port else s)

end Sys2Proof.Machine
end

