-- ==== Sys2Proof/Machine/HostCq.lean ====
section
/-! DEFINITION. Completions of the host interface (R366, R368, R369, R372–R374): entries of the completion queues with their
phase and credits, interrupts, stream blocks, and the end of an outstanding tag. -/

namespace Sys2Proof.Machine

def State.cq (s : State) (q : Nat) : CqRt := Sparse.get (fun _ => {}) s.host.cqs q
def State.setCq (s : State) (q : Nat) (r : CqRt) : State :=
  { s with host := { s.host with cqs := Sparse.put (fun _ => {}) s.host.cqs q r } }

/-- R372, R376: the vector of a completion queue is signalled; while the link is lost the entries stay pending. -/
def State.cqSignal (s : State) (q : Nat) : State :=
  if s.host.lost then s
  else
    let s := s.setCq q { s.cq q with irq := 0 }
    let v := s.nat (Obj.HcqVector q)
    if v = 0xFF then s else s.send sentMsi [v]

/-- R368: the 64 bytes of a completion entry without its phase: the fields up to byte 31 and the inline data. -/
def entryBytes (tag status queue flags source length sqHead time offset : Nat) (inline : List Byte) : List Byte :=
  natLE 2 tag ++ natLE 2 status ++ natLE 1 queue ++ natLE 1 flags ++ natLE 1 source ++ natLE 1 0 ++ natLE 4 length ++
    natLE 2 sqHead ++ natLE 2 0 ++ natLE 8 time ++ natLE 8 offset ++ (inline.take 32 ++ List.replicate (32 - inline.length) 0)

/-- R368: an entry with its phase bit. -/
def withPhase (l : List Byte) (phase : Bool) : List Byte :=
  if phase then l.set 5 (l.getD 5 0 ||| 1) else l

/-- R366, R374: a completion queue has a credit. -/
def State.cqRoom (s : State) (q : Nat) : Bool :=
  decide ((s.cq q).occ < s.nat (Obj.HcqSize q)) && (s.cq q).waiting.isEmpty

/-- COMPLETION_WRITE (R368, R372, R376): an entry is written at the tail with the phase of this pass; `now` asks for an
interrupt at once, and `block` says that it announces a stream block. While the link is lost the entry stays in the
internal copy. -/
def State.cqWrite (s : State) (q : Nat) (l : List Byte) (now block : Bool) : State :=
  let r := s.cq q
  let size := s.nat (Obj.HcqSize q)
  let i := s.nat (Obj.HcqTail q)
  let e := withPhase l r.phase
  let wrap := decide (size ≤ i + 1)
  let s := s.setCq q { r with ring := Sparse.insert i e r.ring, occ := r.occ + 1, blocks := r.blocks ++ [block],
                              phase := if wrap then !r.phase else r.phase, irq := r.irq + 1,
                              oldest := if r.irq = 0 then s.now else r.oldest }
  let s := s.put (Obj.HcqTail q) (if wrap then 0 else (i + 1 : Nat))
  let s := s.creditUse 1 1
  let s := if s.host.lost then s else s.send sentCompletion ([(q : Int), i] ++ e.map fun b => (b.toNat : Int))
  let n := s.natInUse (Obj.HcqIrqCount q)
  if now ∨ n ≤ (s.cq q).irq then s.cqSignal q else s

/-- R374: an entry is written while the queue has a credit; otherwise it waits. -/
def State.cqPost (s : State) (q : Nat) (l : List Byte) (now : Bool) : State :=
  if s.cqRoom q then s.cqWrite q l now false
  else s.setCq q { s.cq q with waiting := (s.cq q).waiting ++ [(l, now)] }

/-- Entries that wait for credits are written while there are any. -/
def State.cqFlush (s : State) (q : Nat) : Nat → State
  | 0 => s
  | n + 1 =>
    match (s.cq q).waiting with
    | [] => s
    | x :: l =>
      if (s.cq q).occ < s.nat (Obj.HcqSize q) then
        ((s.setCq q { s.cq q with waiting := l }).cqWrite q x.1 x.2 false).cqFlush q n
      else s

/-- R366: the host frees entries up to a head index. An index equal to the present head frees a full ring.
(DESIGN CHOICE, unsafe: log entry 108.) -/
def State.cqFree (s : State) (q head : Nat) : State :=
  let r := s.cq q
  let size := s.nat (Obj.HcqSize q)
  let d := if head = r.head then (if r.occ = size then size else 0) else (head + size - r.head) % size
  let n := min d r.occ
  let blocks := ((r.blocks.take n).filter id).length
  let s := s.setCq q { r with head := head, occ := r.occ - n, blocks := r.blocks.drop n, irq := min r.irq (r.occ - n) }
  let s := (s.creditReturn 1 n).creditReturn 2 blocks
  s.cqFlush q ((s.cq q).waiting.length)

/-- R372: the oldest pending entry has waited `HcqIrqTime`; 0 is no timeout.
(DESIGN CHOICE, unsafe: log entry 1.) -/
def execCompletionIrqTimeout (q : Nat) (s : State) : Host.Outcome State Fault Refusal :=
  let t := s.natInUse (Obj.HcqIrqTime q)
  .next (if t ≠ 0 ∧ 0 < (s.cq q).irq ∧ (s.cq q).oldest + t * 1000 ≤ s.now then s.cqSignal q else s)

/-- R366: `COMPLETION_HEAD_DOORBELL`: a value at or above the queue size is ignored. -/
def execCompletionHeadDoorbell (q value : Nat) (s : State) : Host.Outcome State Fault Refusal :=
  .next (if s.nat (Obj.HcqSize q) ≤ value then s.setBit Obj.HostStatus 0 else s.cqFree q value)

/-! ### Tags (R369, R377, R378) -/

/-- Data and flags of a completed request: the inline data and the length. -/
structure Done where
  status : Nat
  data : List Byte
  unknown : Bool
  deriving DecidableEq, Repr

/-- R367: data that the entry does not hold inline follows it, padded to a multiple of 8 bytes. -/
def Done.follow (d : Done) : List Byte :=
  if d.data.length ≤ 32 then [] else d.data ++ List.replicate ((8 - d.data.length % 8) % 8) 0

/-- R367: read data beyond 32 bytes is written to the host address.
(DESIGN CHOICE, unsafe: log entry 109.) -/
def State.dmaWrite (s : State) (r : HostReq) (d : Done) : State :=
  if d.data.length ≤ 32 then s else s.send sentDma ((r.address : Int) :: d.data.map fun b => (b.toNat : Int))

/-- R368: the completion entry of a request. -/
def State.doneEntry (s : State) (r : HostReq) (source : Nat) (d : Done) : List Byte :=
  let inline := decide (d.data.length ≤ 32) && !d.data.isEmpty
  entryBytes r.tag d.status (if r.path = 0 then r.source else 0) ((if inline then 2 else 0) + (if d.unknown then 16 else 0))
    source (if d.data.isEmpty ∧ d.status = 0 then r.length else d.data.length)
    (if r.path = 0 then s.nat (Obj.HsqHead r.source) else 0) s.now 0 (if inline then d.data else [])

/-- R367: an outstanding request that this device executes itself. -/
def State.ownReq (s : State) (r : HostReq) : Bool :=
  decide (2 ≤ r.path) || s.get Obj.JzPosition == 0xFF || r.dest == s.nat Obj.JzPosition

/-- R370: an earlier entry of the same queue is outstanding.
(DESIGN CHOICE, unsafe: log entry 109.) -/
def State.fenced (s : State) (r : HostReq) : Bool :=
  bitAt r.flags 0 && ((s.host.reqs.takeWhile fun x => x != r).any fun x => x.path == r.path && x.source == r.source)

/-- R367: the 64 bytes of a request's entry. -/
def HostReq.entry (r : HostReq) : List Byte :=
  natLE 1 r.opcode ++ natLE 1 r.flags ++ natLE 2 r.tag ++ natLE 1 r.dest ++ natLE 1 0 ++ natLE 2 r.session ++ natLE 2 r.index ++
    natLE 1 r.sub ++ natLE 1 0 ++ natLE 4 r.length ++ natLE 8 r.offset ++ natLE 8 r.address ++
    (if r.length ≤ 32 then r.data ++ List.replicate (32 - r.data.length) 0 else natLE 32 0)

/-- R367: data that an entry does not hold inline follows it, padded to a multiple of 8 bytes. -/
def entryTail (length : Nat) (data : List Byte) : List Byte :=
  if length ≤ 32 then [] else data.take length ++ List.replicate ((8 - length % 8) % 8) 0

/-- R355, R367: a request for another position goes down the chain as a request frame. -/
def State.sendRequest (s : State) (r : HostReq) : State :=
  s.jzSend (s.portTo r.dest) false (s.originate 2 2 r.dest 0 (r.entry ++ entryTail r.length r.data))

/-- R370: fenced entries for other positions start when every earlier entry of their queue has completed. -/
def State.releaseFenced (s : State) : State :=
  (s.host.reqs.filter fun r => r.waits == 3 && !s.fenced r).foldl (fun s r =>
    { s with host := { s.host with reqs := s.host.reqs.map fun x => if x = r then { x with waits := 0 } else x } }.sendRequest r) s

/-- R369: an outstanding entry completes exactly once: into its completion queue, the mailbox, a completion frame toward
the head, or a frame on the plant network. -/
def State.complete (s : State) (r : HostReq) (source : Nat) (d : Done) : State :=
  let l := s.doneEntry r source d
  let s := ({ s with host := { s.host with reqs := s.host.reqs.erase r } } : State).releaseFenced
  if r.path = 0 then
    let s := (s.count Obj.HostCompleted 64 1).count Obj.HostOutstanding 64 (-1)
    let s := s.dmaWrite r d
    s.cqPost (s.nat (Obj.HsqCompletionQueue r.source)) l (bitAt r.flags 1)
  else if r.path = 1 then
    let s := s.dmaWrite r d
    { s with host := { s.host with busy := false, mailbox := l } }
  else if r.path = 2 then s.jzSend (s.portTo r.source) false (s.originate 3 3 r.source 0 (l ++ d.follow))
  else s.sendFrame sentResponse false r.source 0 1 (l ++ d.follow).length ((l ++ d.follow).map fun b => (b.toNat : Int))

/-- A request that completes after its command was taken up: its answer, and the end of the tag that waits for it.
(DEDUCED, unsafe: log entry 110.) -/
def State.answerLate (s : State) (what status : Nat) : State :=
  let s := s.reply status
  match s.host.reqs.find? fun r => r.waits == what with
  | some r => s.complete r (s.nat Obj.JzPosition) ⟨status, [], false⟩
  | none => s

/-- The code under which a cancel of a CAN buffer waits (R390). -/
def canWaits (c b : Nat) : Nat := 16 + 64 * c + b

/-- R377: every outstanding entry for a destination completes with outcome unknown. -/
def State.destinationLost (s : State) (p : Nat) : State :=
  (s.host.reqs.filter fun r => decide (r.path ≤ 1) && r.dest == p).foldl (fun s r => s.complete r p ⟨0x0601, [], true⟩) s

/-- TAG_TIMEOUT (R378): a tag that is still outstanding after `HostTagTimeout`. -/
def execTagTimeout (tag : Nat) (s : State) : Host.Outcome State Fault Refusal :=
  let t := s.natInUse Obj.HostTagTimeout
  .next
    (match s.host.reqs.find? fun r => r.path == 0 && r.tag == tag with
     | none => s
     | some r =>
       if t = 0 ∨ s.now < r.time + t * 1000000 then s
       else (s.setBit Obj.HostStatus 2).complete r r.dest ⟨0x0601, [], true⟩)

/-! ### Stream blocks (R373) -/

/-- STREAM_BLOCK_WRITE (R373, R343): a block of 64 KB, or what is left of a capture that has ended, is written when the
stream buffer has space and the queue has a credit.
(DESIGN CHOICE, unsafe: log entry 101.) -/
def execStreamBlockWrite (s : State) : Host.Outcome State Fault Refusal :=
  let q := s.nat Obj.AcqStreamQueue
  let r := s.cq q
  let l := s.acq.wb.take 65536
  let due := decide (l.length = 65536) || (s.get Obj.AcqState == 4 && !l.isEmpty)
  let size := s.nat (Obj.HcqStreamSize q)
  let used := (r.blocks.filter id).length
  .next
    (if !s.streaming || !due || !s.cqRoom q || decide (size ≤ used) then s
    else
      let off := r.block % size * 65536
      let from_ := s.acq.drained
      let first := ((s.acq.times.filter fun (x : Nat × Nat) => decide (x.1 ≤ from_)).getLast?.map fun (x : Nat × Nat) => x.2).getD 0
      let times := s.acq.times.filter fun (x : Nat × Nat) => decide (from_ + l.length ≤ x.1 ∨ x.2 = first)
      let s := { s with acq := { s.acq with wb := s.acq.wb.drop 65536, back := s.acq.back - 65536, drained := from_ + l.length, times := times } }
      let s := s.setCq q { r with block := (r.block + 1) % size }
      let s := (s.creditUse 2 1).send sentStream ((q : Int) :: (s.get (Obj.HcqStreamBase q) + (off : Nat)) :: l.map fun b => (b.toNat : Int))
      s.cqWrite q (entryBytes 0 0 0 4 (s.nat Obj.JzPosition) l.length 0 (first / 65536) off []) false true)

end Sys2Proof.Machine
end

