-- ==== Sys2Proof/Machine/Jz.lean ====
section
/-! DEFINITION. The Jorzer chain (R350–R361, R374–R377, R380): enumeration and maps, link loss and return, frames and their
exchange records, acknowledgement, delay measurement and sync. -/

namespace Sys2Proof.Machine

/-! ### Entries (R367) -/

/-- R367: a submission entry from its 64 bytes, with the data beyond them. -/
def reqOf (path source time : Nat) (l data : List Byte) : HostReq :=
  let u := fun o n => leNat ((l.drop o).take n)
  let length := u 12 4
  { path := path, source := source, opcode := u 0 1, flags := u 1 1, tag := u 2 2, dest := u 4 1, session := u 6 2, index := u 8 2,
    sub := u 10 1, length := length, offset := u 16 8, address := u 24 8,
    data := if length ≤ 32 then (l.drop 32).take length else data.take length, time := time }

/-- R10, R367: an entry's reserved bits are 0 and its tag and destination are in range.
(DESIGN CHOICE, unsafe: log entry 109.) -/
def entryClean (l : List Byte) : Bool :=
  let u := fun o n => leNat ((l.drop o).take n)
  decide (u 1 1 < 4 ∧ u 2 2 < 512 ∧ u 4 1 < 64 ∧ u 5 1 = 0 ∧ u 11 1 = 0)

/-! ### State of the chain (R351–R353) -/

/-- `JzState` from what holds: isolated, enumerating, joined, excluded or reconciling.
(DESIGN CHOICE, unsafe: log entry 103.) -/
def State.jzUpdate (s : State) : State :=
  let rec_ := (List.range 2).any fun j => s.portUp j && (s.suspended (3 + 3 * j) || s.suspended (4 + 3 * j) || s.suspended (5 + 3 * j))
  s.put Obj.JzState
    (if s.get Obj.JzPosition = 0xFF then 0 else if s.faultActive fkChain 0 then 3 else if rec_ then 4
     else if s.jz.mapped then 2 else 1)

/-- A control frame of this device on a port. -/
def State.jzControl (s : State) (port kind : Nat) (flags : Nat) (payload : List Byte) : State :=
  s.jzSend port false (s.originate kind 1 0 flags payload)

/-- The bytes of a serial list (R352). -/
def serialBytes (l : List Nat) : List Byte := (l.map (natLE 4)).flatten

/-- The serial at a position of a stored map. -/
def State.mapSerial (s : State) (key i : Nat) : Nat := s.uint key (4 * i) 4

/-- R352: the first L positions of both maps differ. -/
def State.mapsDiffer (s : State) : Bool :=
  (List.range s.jz.accepted).any fun i => s.mapSerial Obj.JzChainMap i != s.mapSerial Obj.JzAcceptedMap i

/-- CHAIN_CHANGED (R352): after an enumeration the maps are compared; the condition lasts until a map is accepted. -/
def State.compareMaps (s : State) : State :=
  (if s.mapsDiffer then (s.setBit Obj.JzStatus 1).raiseOnce fkChain 0 else s).jzUpdate

/-- R351, R352: the serial list of the chain is stored. -/
def State.storeMap (s : State) (serials : List Nat) : State :=
  let l := serials.take 64
  let s := s.store Obj.JzChainMap 0 (serialBytes (l ++ List.replicate (64 - l.length) 0))
  let s := s.put Obj.JzChainLength (l.length : Nat)
  ({ s with jz := { s.jz with mapped := true } }).compareMaps

/-- R351: the head starts an enumeration; alone it is also the end. -/
def State.startEnumeration (s : State) : State :=
  let s := ({ s with jz := { s.jz with mapped := false } }).jzUpdate
  let own := s.nat Obj.SerialNumber
  if s.portUp 1 then s.jzControl 1 5 0 (natLE 1 0 ++ serialBytes [own]) else s.storeMap [own]

/-- HEAD_DETECTION (R351): 200 ms after reset without signal on `JZ0`. -/
def execHeadDetection (s : State) : Host.Outcome State Fault Refusal :=
  .next (if s.get (Obj.JzPortState 0) = 0 ∧ s.get Obj.JzPosition = 0xFF ∧ s.power.inReset = false then (s.put Obj.JzPosition 0).startEnumeration else s)

/-- ENUMERATE (R351): a device takes the next position, adds its serial number and forwards the frame; the end answers
with the map. A device that would take position 64 does not join. -/
def execEnumerate (position : Nat) (serials : List Nat) (s : State) : Host.Outcome State Fault Refusal :=
  let p := position + 1
  .next
    (if 64 ≤ p then ({ s.put Obj.JzPosition 0xFF with jz := { s.jz with outside := true } } : State).jzUpdate
    else
      let s := ({ s.put Obj.JzPosition p with jz := { s.jz with mapped := false, outside := false } }).jzUpdate
      let l := serials ++ [s.nat Obj.SerialNumber]
      let over_ := decide (p = 63) && s.portUp 1
      let s := s.setBitIf over_ Obj.JzStatus 2
      if s.portUp 1 && !over_ then s.jzControl 1 5 0 (natLE 1 p ++ serialBytes l)
      else (s.jzControl 0 6 1 (serialBytes l)).storeMap l)

/-- R377: the positions whose device the new map shows to be another, or gone. -/
def State.resetPositions (s : State) (serials : List Nat) : List Nat :=
  (List.range (s.nat Obj.JzChainLength)).filter fun i => serials[i]? != some (s.mapSerial Obj.JzChainMap i)

/-- MAP (R351, R352, R377, R379): a map frame is stored, compared and passed on upstream; tags of destinations that were reset
complete.
(DESIGN CHOICE, unsafe: log entry 106.) -/
def execMap (serials resets : List Nat) (images : List (Nat × List (Nat × Nat × Nat))) (s : State) :
    Host.Outcome State Fault Refusal :=
  let gone := (s.resetPositions serials ++ resets).dedup
  let s := s.jzControl 0 6 1 (serialBytes serials)
  let s := ({ s with jz := { s.jz with images := images } }).storeMap serials
  .next (gone.foldl State.destinationLost s)

/-- R352: the chain map becomes the accepted map. -/
def State.acceptMap (s : State) : State :=
  let s := s.store Obj.JzAcceptedMap 0 (s.bytes Obj.JzChainMap 0 256)
  let s := ({ s with jz := { s.jz with accepted := s.nat Obj.JzChainLength } })
  (s.setActive fkChain 0 false).jzUpdate

/-- ACCEPT_MAP (R352): refused outside Safe and Ready. -/
def execAcceptMap (s : State) : Host.Outcome State Fault Refusal :=
  .next (if s.get Obj.DeviceState = devSafe ∨ s.get Obj.DeviceState = devReady then s.acceptMap.done else s.reply 0x0701)

/-! ### Loss and return of a link (R43, R136, R354, R375) -/

/-- R354: a link is lost: the cause is recorded, its credit ledgers are suspended and the port retrains. -/
def State.linkDown (s : State) (port cause : Nat) : State :=
  let s := s.put (Obj.JzPortState port) 1
  let s := (s.put (Obj.JzLinkDownCause port) cause).count (Obj.JzLinkDowns port) 32 1
  let s := s.setBit Obj.JzStatus 0
  let s := [3, 4, 5].foldl (fun s c => s.setBit Obj.Reconciling (c + 3 * port)) s
  let s := s.setPort port { s.port port with crcTimes := [] }
  (s.raiseOnce fkJorzer port).jzUpdate

/-- LINK_LOSS (R354, R136): the bind-off groups with members on both sides are requested, unless they already ramp.
(DESIGN CHOICE, unsafe: log entry 107.) -/
def execLinkLoss (port cause : Nat) (groups : List Nat) (s : State) : Host.Outcome State Fault Refusal :=
  let s := s.linkDown port cause
  let due := groups.filter fun b => decide (b < 16) && s.get (Obj.BindOffMembers b) != 0 && (s.bind b).phase != 2
  .next (s.each due State.askBindOff)

/-- R375: this device's reconcile frame: its epoch and, per class, what it used, consumed and received last. -/
def State.sendReconcile (s : State) (port : Nat) : State :=
  let l := [2, 3, 4].map fun cls =>
    let c := creditClass port cls
    natLE 8 (s.nat (Obj.CrUsed c)) ++ natLE 8 (s.nat (Obj.CrConsumed c)) ++ natLE 2 (s.port port).rxSeq
  s.jzControl port 11 0 (natLE 4 (s.nat Obj.ResetEpoch) ++ l.flatten)

/-- LINK_UP (R351, R374, R375): a port has trained: both sides tell their epoch; the first time its credits are granted and
frames may leave, later the ledgers resume with the partner's frame; enumeration runs again from the head. -/
def execLinkUp (port : Nat) (s : State) : Host.Outcome State Fault Refusal :=
  let s := (s.put (Obj.JzPortState port) 2).setActive fkJorzer port false
  let r := s.port port
  let s := s.sendReconcile port
  let s := if r.wasUp then s
    else
      let s := [2, 3, 4].foldl (fun s cls => (s.creditGrant (creditClass port cls) (grantOf cls)).clrBit Obj.Reconciling (creditClass port cls)) s
      let s := s.setPort port { s.port port with wasUp := true }
      s.serve port ((s.port port).own.length + (s.port port).relayed.length)
  let s : State := ({ s with jz := { s.jz with mapped := false } }).jzUpdate
  .next (if s.get Obj.JzPosition = 0 then s.startEnumeration else s)

/-- R375: frames up to the partner's last received sequence of their class are acknowledged. -/
def stillDue (received : List Nat) (f : JzOut) : Bool := decide (0 < wrapS 16 ((f.seq : Int) - received.getD (f.cls - 2) 0))

/-- Send again every frame that is not acknowledged (R358). -/
def State.replayAll (s : State) (port : Nat) : State :=
  let r := s.port port
  let l := r.unacked.map fun (f : JzOut) => { f with replays := f.replays + 1, flags := setBitN f.flags 2 }
  let s := s.setPort port { r with unacked := l }
  l.foldl (fun s f => s.onLine port f) s

/-- R375: neither epoch changed: the credits the partner returned meanwhile count, and what it lacks is replayed. -/
def State.reconcileSame (s : State) (port : Nat) (consumed received : List Nat) : State :=
  let s := [2, 3, 4].foldl (fun s cls =>
    let c := creditClass port cls
    let d := wrapU 64 ((consumed.getD (cls - 2) 0 : Int) - s.get (Obj.CrConsumed c))
    if d ≤ s.get (Obj.CrOccupancy c) then s.creditReturn c d.toNat else s) s
  let r := s.port port
  (s.setPort port { r with unacked := r.unacked.filter (stillDue received) }).replayAll port

/-- R375, R377: the partner's epoch changed: its frames not acknowledged are Corrupt, its grant is fresh, and tags whose
entries were lost complete. -/
def State.reconcileFresh (s : State) (port : Nat) : State :=
  let r := s.port port
  let s := r.unacked.foldl (fun s f =>
    let c := creditClass port f.cls
    let n := blocksOf f.payload
    (s.count (Obj.CrCorrupt c) 64 n).count (Obj.CrOccupancy c) 64 (-n)) s
  let s := s.setPort port { r with unacked := [], rxSeq := 0, txSeq := 0 }
  let s := [2, 3, 4].foldl (fun s cls => s.creditGrant (creditClass port cls) (grantOf cls)) s
  let lost := ((r.unacked.filter fun f => f.kind == 2).map fun f => f.dest).dedup
  lost.foldl State.destinationLost s

/-- RECONCILE (R43, R375, R377): the partner's reconcile frame after a link returned. -/
def execReconcile (port epoch : Nat) (consumed received : List Nat) (s : State) : Host.Outcome State Fault Refusal :=
  let r := s.port port
  let same := match r.epoch with | some e => decide (e = epoch) | none => true
  let held := [2, 3, 4].any fun cls => s.suspended (creditClass port cls)
  let s := [2, 3, 4].foldl (fun s cls => s.clrBit Obj.Reconciling (creditClass port cls)) s
  let s := s.setPort port { r with epoch := some epoch }
  let s := if !same then s.reconcileFresh port else if held then s.reconcileSame port consumed received else s
  let s := s.serve port ((s.port port).own.length + (s.port port).relayed.length)
  .next s.jzUpdate

/-! ### Exchange records (R357) -/

/-- R357: the record size of a group kind. -/
def recordSize (kind : Nat) : Option Nat :=
  if kind = 1 then some 32 else if kind = 2 ∨ kind = 7 then some 16 else if kind = 3 ∨ kind = 8 then some 24
  else if kind = 4 ∨ kind = 5 ∨ kind = 6 ∨ kind = 9 then some 8 else none

/-- The records of a byte string. -/
def chop (size : Nat) : Nat → List Byte → List (List Byte)
  | 0, _ => []
  | n + 1, l => l.take size :: chop size n (l.drop size)

/-- R357: the record groups of a payload; none when a kind is unknown or a size is wrong.
(DEDUCED, unsafe: log entry 134.) -/
def parseGroups : Nat → List Byte → Option (List Group)
  | _, [] => some []
  | 0, _ => none
  | n + 1, l =>
    let kind := leNat (l.take 1)
    let count := leNat ((l.drop 2).take 1)
    match recordSize kind with
    | none => none
    | some z =>
      if l.length < 4 + z * count ∨ leNat ((l.drop 3).take 1) ≠ 0 then none
      else match parseGroups n (l.drop (4 + z * count)) with
        | some t => some (⟨kind, leNat ((l.drop 1).take 1), chop z count (l.drop 4)⟩ :: t)
        | none => none

/-- An unsigned field of a record. -/
def fieldU (l : List Byte) (o n : Nat) : Nat := leNat ((l.drop o).take n)

/-- A signed field of a record. -/
def fieldI (l : List Byte) (o n : Nat) : Int := leInt n ((l.drop o).take n)

/-- R104: a master record. -/
def masterOfBytes (l : List Byte) : MasterSample :=
  { master := fieldU l 0 1, flags := fieldU l 1 1, cycle := fieldU l 4 4, time := fieldU l 8 8, p := fieldI l 16 8,
    v := fieldI l 24 4, a := fieldI l 28 4 }

/-- R338: a trigger record. -/
def trigOfBytes (l : List Byte) (plant : Bool) (header : Nat) : TrigRecord :=
  { kind := fieldU l 0 1, group := fieldU l 1 1, fraction := fieldU l 2 2, source := fieldU l 4 2, stamp := fieldU l 8 8,
    arming := fieldU l 16 4, plant := plant, header := header }

/-- R105, R159: a Jorzer master record for the grafts that read it, used at once in an open window of its edge (`now`); an
older one than the newest is not used. -/
def State.exMaster (s : State) (origin : Nat) (now : Bool) (l : List Byte) : State :=
  let x := masterOfBytes l
  s.each (s.readersOf false origin x.master) fun s k =>
    let old := match (s.graft k).remote with | some y => decide (x.time < y.time) | none => false
    if old then s else if now then (s.masterSample x k).takeSample k else s.masterSample x k

/-- R199: a status record of the network axis that its remote index names; taken at once in an open window. -/
def State.exStatus (s : State) (origin : Nat) (l : List Byte) (now : Bool) : State :=
  let i := fieldU l 0 1
  let axes := allAxes.filter fun a => !isLocal a && s.flag (Obj.NetAxisKind a) && s.get (Obj.NetAxisPath a) == 1 &&
    s.nat (Obj.NetAxisAddress a) == origin && s.nat (Obj.NetAxisRemoteIndex a) == i
  s.each axes fun s a =>
    let s := s.netStatus a (fieldU l 1 1) (fieldU l 2 1) (fieldI l 4 8) (fieldI l 12 4) (fieldI l 16 4)
    if now then s.netEdge a else s

/-- The members of a span group on a chain position, in order. -/
def State.spanMembersAt (s : State) (g p : Nat) : List Nat :=
  (List.range (s.spanM g)).filter fun i => s.nat (Obj.SpanMember g i) / 256 == p

/-- R168, R176: w and y of a remote device's members reach the home device. -/
def State.exSpan (s : State) (g origin : Nat) (recs : List (List Byte)) (now : Bool) : State :=
  if !s.spanHome g then s
  else
    let new := (s.spanMembersAt g origin).zip (recs.map fun l => (fieldI l 0 4, fieldI l 4 4))
    let r := s.span g
    if now then
      s.setSpan g { r with wy := (List.range (s.spanM g)).map fun i => (new.lookup i).getD (r.wy.getD i (0, 0)),
                           missing := r.missing.filter fun i => (new.lookup i).isNone }
    else s.setSpan g { r with arrived := new ++ r.arrived }

/-- R176: P of this device's members goes to their trim slots. -/
def State.exTrim (s : State) (g origin : Nat) (recs : List (List Byte)) : State :=
  if s.nat (Obj.SpanHome g) ≠ origin then s
  else ((s.spanMembersAt g (s.nat Obj.JzPosition)).zip recs).foldl (fun s x =>
    let slot := s.nat (Obj.SpanTrimSlot g x.1)
    if slot = unwired then s else s.slotLatch slot (fieldI x.2 0 8)) s

/-- R178: a member device's tag at the home device. -/
def State.exTag (s : State) (g origin : Nat) (l : List Byte) : State :=
  if !s.spanHome g then s
  else
    let others := (s.span g).differing.filter fun p => p != origin
    s.setSpan g { s.span g with differing := if fieldU l 0 4 = s.spanTag g then others else origin :: others }

/-- R133, R134, R136: a bind-off record of another device, in the instant of its edge or (`now`) in the open window after it: v_i are
the velocities at the edge before. A record of the ramp that ended last starts nothing. -/
def State.exBindOff (s : State) (b edge : Nat) (now : Bool) (l : List Byte) : State :=
  let x := s.bind b
  let r := fieldU l 4 4
  let q := fieldU l 8 4
  let start : Nat := ((s.tick : Int) + wrapS 32 ((fieldU l 12 4 : Int) - s.tick)).toNat
  if bitAt (fieldU l 0 1) 1 then
    if x.phase = 2 ∨ (x.phase = 0 ∧ s.nat (Obj.BindOffStartEdge b) = start ∧ s.get (Obj.BindOffDuration b) ≠ 0) then s
    else match execBindOffJoinLate b start r q s with | .next t => t | _ => s
  else if x.phase = 1 then s.setBind b { x with r := min x.r r, q := min x.q q }
  else if x.phase = 0 ∧ bitAt (fieldU l 0 1) 0 = true ∧ s.get (Obj.BindOffMembers b) ≠ 0 then
    s.bindAsked b (edge + 1) ((s.bindMoving b).map fun a => (a, if now then (s.axis a).vPrev else s.cmdVel a)) r q
  else s

/-- The process-image entries of a map in one direction: slot and offset. -/
def imageEntries (l : List (Nat × Nat × Nat)) (dir : Nat) : List (Nat × Nat) :=
  (l.filter fun e => e.2.1 == dir).map fun e => (e.1, e.2.2)

/-- R379: this device's committed map.
(DESIGN CHOICE, unsafe: log entry 106.) -/
def State.ownImages (s : State) : List (Nat × Nat × Nat) :=
  (List.range (s.nat Obj.PiMapLength)).map fun i => (s.uint Obj.PiMap (8 * i) 2, s.uint Obj.PiMap (8 * i + 2) 1, s.uint Obj.PiMap (8 * i + 4) 4)

/-- R379, R380: read-image values of a position, latched at an edge, go into the head's image with both edge copies. -/
def State.putImage (s : State) (p edge : Nat) (vals : List (Nat × List Byte)) : State :=
  let base := p * 65536
  let s := s.store bar2Key (base + 0x8000) (natLE 8 edge)
  let s := vals.foldl (fun s x => s.store bar2Key (base + 0x8008 + x.1) x.2) s
  s.store bar2Key (base + 0xFFF8) (natLE 8 edge)

/-- R380: process-image values: to this device into its host slots, or at the head into the image of their origin. Values
that continue in a further frame of the same edge go on where the earlier ones ended. -/
def State.exImage (s : State) (inst origin edge : Nat) (recs : List (List Byte)) : State :=
  let seen := s.jz.piSeen
  let from_ := if seen.1 = edge ∧ seen.2.1 = origin then seen.2.2 else 0
  let s := { s with jz := { s.jz with piSeen := (edge, origin, from_ + recs.length) } }
  if inst = 1 then
    (((imageEntries s.ownImages 1).drop from_).zip recs).foldl (fun s x => s.put (Obj.SlotValue x.1.1) (leNat x.2 : Nat)) s
  else if s.get Obj.JzPosition = 0 then
    let l := (imageEntries ((s.jz.images.lookup origin).getD []) 2).drop from_
    s.putImage origin (edge - 1) ((l.zip recs).map fun x => (x.1.2, x.2))
  else s

/-- R357: one record group takes effect; `now` when the frame came within the open input window of its edge.
(DESIGN CHOICE, unsafe: log entry 107.) -/
def State.exGroup (s : State) (origin edge : Nat) (now : Bool) (g : Group) : State :=
  if g.kind = 1 then g.records.foldl (fun s l => s.exMaster origin now l) s
  else if g.kind = 3 then g.records.foldl (fun s l => s.exStatus origin l now) s
  else if g.kind = 4 then (if g.inst < 8 ∧ g.records ≠ [] then s.exSpan g.inst origin g.records now else s)
  else if g.kind = 5 then (if g.inst < 8 then s.exTrim g.inst origin g.records else s)
  else if g.kind = 6 then (if g.inst < 8 then g.records.foldl (fun s l => s.exTag g.inst origin l) s else s)
  else if g.kind = 7 then (if g.inst < 16 then g.records.foldl (fun s l => s.exBindOff g.inst edge now l) s else s)
  else if g.kind = 8 then g.records.foldl (fun s l => s.trigRecord (trigOfBytes l false 0)) s
  else if g.kind = 9 then (if g.records = [] then s else s.exImage g.inst origin edge g.records)
  else s

/-- The groups of an exchange frame take effect. -/
def State.exApply (s : State) (origin edge : Nat) (now : Bool) (payload : List Byte) : State :=
  match parseGroups 256 payload with
  | some l => l.foldl (fun s g => s.exGroup origin edge now g) s
  | none => s

/-- R18, R19: the exchange frames taken for an edge take effect at it.
(DESIGN CHOICE, unsafe: log entry 71.) -/
def State.exEdge (s : State) (edge : Nat) : State :=
  let now := s.jz.staged.filter fun x => x.1 == edge
  let s := { s with jz := { s.jz with staged := s.jz.staged.filter fun x => decide (edge < x.1) } }
  now.foldl (fun s x => s.exApply x.2.1 edge false x.2.2) s

/-- R19, R352, R357: an exchange frame for the edge with these low bits is taken, late or rejected. An excluded device
takes no cyclic frame.
(DESIGN CHOICE, unsafe: log entry 71.) -/
def State.exchange (s : State) (origin low : Nat) (payload : List Byte) : State :=
  if s.get Obj.JzState = 3 ∨ s.get Obj.JzPosition = 0xFF then s
  else
    let s := s.count Obj.SumInputFrameReceived 64 1
    let edge : Nat := ((s.tick : Int) + wrapS 32 ((low : Int) - s.tick)).toNat
    match parseGroups 256 payload with
    | none => s.count Obj.SumInputFrameRejected 64 1
    | some _ =>
      if s.arrival edge = .late then
        ((s.count Obj.SumInputFrameLate 64 1).setBit Obj.RowStatus 7).lateTick origin edge
      else
        let s := (s.count Obj.SumInputFrameAccepted 64 1).originOnTime origin edge (s.origin origin).slots
        if s.arrival edge = .open_ then s.exApply origin edge true payload
        else { s with jz := { s.jz with staged := s.jz.staged ++ [(edge, origin, payload)] } }

/-- EXCHANGE_FRAME (R357): an exchange frame of an origin, stamped with the low bits of its edge. -/
def execExchangeFrame (origin edge : Nat) (payload : List Byte) (s : State) : Host.Outcome State Fault Refusal :=
  .next (s.exchange origin edge payload)

/-! ### Frames (R355, R356, R358) -/

/-- R355: the class of a frame type. -/
def classOf (kind : Nat) : Nat := if kind = 1 then 0 else if kind = 2 then 2 else if kind = 3 then 3 else if kind = 4 then 4 else 1

/-- R356: a frame that is rejected in spite of its CRC. -/
def jzBad (f : JzFrame) : Bool :=
  decide (8 ≤ f.flags ∨ 64 ≤ f.origin ∨ 64 ≤ f.dest ∨ f.reserved ≠ 0 ∨ f.reserved2 ≠ 0 ∨ f.kind = 0 ∨ 11 < f.kind ∨
    f.cls ≠ classOf f.kind ∨ (if f.cls = 1 then 512 else 1024) < f.length ∨ f.length ≠ f.payload.length)

/-- R356: a frame fails its CRC; more than `JzCrcLimit` within 1 ms lose the link. -/
def State.crcFailure (s : State) (port : Nat) (f : JzFrame) : State :=
  let s := (s.count (Obj.JzCrcErrors port) 64 1).setBit Obj.JzStatus 3
  let r := s.port port
  let l := s.now :: r.crcTimes.filter fun t => decide (s.now < t + 1000000)
  let s := s.setPort port { r with crcTimes := l }
  if s.natInUse Obj.JzCrcLimit < l.length then s.linkDown port 2
  else if 2 ≤ f.cls then s.creditFrame port else s

/-- R367–R369: a request that reached its destination over the chain. -/
def State.chainRequest (s : State) (f : JzFrame) : State :=
  if entryClean f.payload then
    let r := reqOf 2 f.origin s.now f.payload (f.payload.drop 64)
    { s with host := { s.host with reqs := s.host.reqs ++ [r] } }
  else s.jzSend (s.portTo f.origin) false (s.originate 3 3 f.origin 0
    (entryBytes (fieldU f.payload 2 2) 0x0301 0 0 (s.nat Obj.JzPosition) 0 0 s.now 0 []))

/-- R369, R378: a completion reaches the head: the tag completes, or one that already has is discarded and counted. -/
def State.chainCompletion (s : State) (f : JzFrame) : State :=
  let tag := fieldU f.payload 0 2
  match s.host.reqs.find? fun r => decide (r.path ≤ 1) && r.tag == tag && r.dest == f.origin with
  | none => s.creditLate 1
  | some r =>
    let flags := fieldU f.payload 5 1
    let data := if bitAt flags 1 then ((f.payload.drop 32).take (min 32 (fieldU f.payload 8 4)))
      else (f.payload.drop 64).take (fieldU f.payload 8 4)
    s.complete r f.origin ⟨fieldU f.payload 2 2, data, bitAt flags 4⟩

/-- A frame for this device by its type. The contents of control frames come as commands of their own. -/
def State.jzHandle (s : State) (f : JzFrame) : State :=
  if f.kind = 1 then s.exchange f.origin f.edge f.payload
  else if f.kind = 2 then s.chainRequest f
  else if f.kind = 3 then (if s.get Obj.JzPosition = 0 then s.chainCompletion f else s)
  else if f.kind = 4 then (if s.get Obj.JzPosition = 0 then s.send sentStream [f.origin, f.seq, f.length] else s)
  else s

/-- R353, R355, R356, R359: a frame in order: relayed, by a device without a position too, when it is for another device, or for all, and handled when it is for this
one. -/
def State.jzTake (s : State) (port : Nat) (f : JzFrame) : State :=
  let all := bitAt f.flags 0
  let mine := all || f.dest == s.nat Obj.JzPosition
  let out : JzOut := { kind := f.kind, flags := f.flags, origin := f.origin, dest := f.dest, cls := f.cls, edge := f.edge,
                       payload := f.payload, seq := 0, replays := 0 }
  let s := if all = true ∨ mine = false then s.jzSend (1 - port) true out else s
  if !mine then s
  else if jzBad f then (s.count Obj.SumInputFrameReceived 64 1).count Obj.SumInputFrameRejected 64 1
  else s.jzHandle f

/-- JORZER_FRAME_RECEIVE (R356, R358): a frame arrives on a port. Classes 2 to 4 are taken in the order of their link
sequence, and a frame out of order is not. -/
def execJorzerFrameReceive (port : Nat) (crcOk : Bool) (f : JzFrame) (s : State) : Host.Outcome State Fault Refusal :=
  .next
    (if !crcOk then s.crcFailure port f
    else if 2 ≤ f.cls ∧ f.cls ≤ 4 then
      let r := s.port port
      if f.seq = (r.rxSeq + 1) % 65536 then
        ((s.setPort port { r with rxSeq := f.seq }).jzTake port f).creditDue port f.cls (blocksOf f.payload)
      else s.creditFrame port
    else s.jzTake port f)

/-- The frames after the acknowledged one. -/
def afterAck (acked : Nat) (l : List JzOut) : List JzOut :=
  if l.any fun f => f.seq == acked then ((l.dropWhile fun f => f.seq != acked).drop 1) else l

/-- CREDIT_AND_ACKNOWLEDGE (R354, R358, R374): a type-10 frame acknowledges frames and returns credits; a partner that lacks
a frame has all that follow replayed. -/
def execCreditAndAcknowledge (port acked : Nat) (credits : List Nat) (replay : Bool) (s : State) :
    Host.Outcome State Fault Refusal :=
  let r := s.port port
  let s := s.setPort port { r with unacked := afterAck acked r.unacked }
  let s := [2, 3, 4].foldl (fun s cls =>
    let c := creditClass port cls
    s.creditReturn c (min (credits.getD (cls - 2) 0) (s.nat (Obj.CrOccupancy c)))) s
  .next
    (if replay && !(s.port port).unacked.isEmpty then
      let s := ((s.count (Obj.JzReplays port) 64 1).setBit Obj.JzStatus 4).replayAll port
      if (s.port port).unacked.any fun f => decide (4 ≤ f.replays) then s.linkDown port 3 else s
    else s.serve port ((s.port port).own.length + (s.port port).relayed.length))

/-- DELAY_MEASUREMENT (R354, R360): `JzDelayInterval` after the one before, the four times of a request and its response, in 2^-16 ns; more than 100 ns lose the
link.
(DESIGN CHOICE, unsafe: log entry 105.) -/
def execDelayMeasurement (port t1 t2 t3 t4 : Nat) (s : State) : Host.Outcome State Fault Refusal :=
  let d := qdiv (((t4 : Int) - t1) - ((t3 : Int) - t2)) 2 + s.get (Obj.JzAsymmetry port)
  let r := s.port port
  let l := (d :: r.delays).take 16
  .next
    (if !r.delays.isEmpty && decide (s.now < r.delayAt + s.natInUse Obj.JzDelayInterval * 1000000) then s
    else
      let s := s.setPort port { r with delays := l, delayAt := s.now }
      let s := s.put (Obj.JzLinkDelay port) (wrapU 32 (qdiv l.sum l.length))
      if 6553600 < d then s.linkDown port 4 else s)

/-- SYNC (R361): the head sends its time on `JZ1` at every `JzSyncInterval`-th edge; a relay adds its residence and a
receiver takes the head's time at arrival.
(DESIGN CHOICE, unsafe: log entry 105.) -/
def execSync (stamp fraction : Nat) (correction residence : Int) (arrival : Nat) (s : State) : Host.Outcome State Fault Refusal :=
  .next
    (if s.get Obj.JzPosition = 0 then
      (if s.tick % s.nat Obj.JzSyncInterval = 0 then s.jzControl 1 9 0 (natLE 8 s.now ++ natLE 2 s.nowFrac ++ natLE 8 0) else s)
    else
      let head := (stamp : Int) * 65536 + fraction + correction + s.get (Obj.JzLinkDelay 0)
      let s := { s with jz := { s.jz with headTime := head, headAt := arrival } }
      s.jzControl 1 9 0 (natLE 8 stamp ++ natLE 2 fraction ++ intLE 8 (correction + residence)))

end Sys2Proof.Machine
end

