-- ==== Sys2Proof/Machine/Can.lean ====
section
/-! DEFINITION. The CAN FD controllers (R381–R398): modes and rate detection, requests and their order, cancellation, receive
filtering, the schedule matrix, errors and bus-off. What ISO 11898-1 decides (the error counters, the instants on the bus)
comes with the commands. -/

namespace Sys2Proof.Machine

def State.can (s : State) (c : Nat) : CanRt := Sparse.get (fun _ => {}) s.cans c
def State.setCan (s : State) (c : Nat) (r : CanRt) : State := { s with cans := Sparse.put (fun _ => {}) s.cans c r }

/-- A controller and buffer that exist. -/
def canHas (c b : Nat) : Bool := decide (c < 2 ∧ b < 64)

/-! ### Requests (R386–R388) -/

/-- The buffer has a request. -/
def State.canPending (s : State) (c b : Nat) : Bool := (s.can c).reqs.any fun r => r.1 == b

/-- R388: the arbitration key of a buffer's frame. -/
def State.canKey (s : State) (c b : Nat) : Nat :=
  let id := s.natInUse (Obj.CanBufId c b)
  let f := s.natInUse (Obj.CanBufFlags c b)
  let rtr := if bitAt f 3 then 1 else 0
  if bitAt f 0 then id / 262144 % 2048 * 2097152 + 1048576 + 524288 + id % 262144 * 2 + rtr
  else id % 2048 * 2097152 + rtr * 1048576

/-- R388: of a list of requests the buffer offered first: the lowest key, then the lowest number. -/
def State.canBest (s : State) (c : Nat) : List Nat → Option Nat
  | [] => none
  | b :: l =>
    match s.canBest c l with
    | none => some b
    | some d =>
      if s.canKey c b < s.canKey c d ∨ (s.canKey c b = s.canKey c d ∧ b < d) then some b else some d

/-- R388: the buffer whose frame began at a time: the first in order of those requested by then.
(DESIGN CHOICE, unsafe: log entry 111.) -/
def State.canSending (s : State) (c sof : Nat) : Option Nat :=
  if sof = 0 ∨ (s.can c).mode ≠ 1 ∨ (s.can c).busOff then none
  else s.canBest c (((s.can c).reqs.filter fun r => decide (r.2 ≤ sof)).map fun r => r.1)

/-- R387: the data of a buffer fed from slots: their values as latched at the latest edge, little-endian. -/
def State.canSlotData (s : State) (c b : Nat) : State :=
  let slot := s.nat (Obj.CanBufTxSlot c b)
  if slot = 0xFFFF then s
  else
    let n := s.natInUse (Obj.CanBufLength c b)
    let l := ((List.range (ceilDiv n 8)).map fun i => natLE 8 (s.nat (Obj.SlotValue (slot + i)))).flatten
    s.store (Obj.CanBufData c b) 0 (l.take n)

/-- R387: a request is queued.
(DEDUCED, unsafe: log entry 112.) -/
def State.canRequest (s : State) (c b : Nat) : State :=
  let r := s.can c
  let s := (s.setCan c { r with reqs := r.reqs ++ [(b, s.now)] }).canSlotData c b
  (s.count (Obj.CanQueued c) 64 1).put (Obj.CanBufState c b) 1

/-- R387: a trigger slot or a schedule firing: a pending buffer is skipped. -/
def State.canTrigger (s : State) (c b : Nat) : State :=
  if s.canPending c b then s.count (Obj.CanTxSkipped c) 32 1 else s.canRequest c b

/-- A request ends; the counter says how, and a cancel that waited for it completes with a status.
(DEDUCED, unsafe: log entry 112.) -/
def State.canEnd (s : State) (c b key status : Nat) : State :=
  if s.canPending c b then
    let r := s.can c
    let waited := r.cancels.contains b
    let s := s.setCan c { r with reqs := r.reqs.filter (fun x => x.1 != b), cancels := r.cancels.erase b,
                                 tt := r.tt.filter fun x => x.2 != b }
    let s := (s.count key 64 1).put (Obj.CanBufState c b) 0
    if waited then s.answerLate (canWaits c b) status else s
  else s

/-- CAN_BUF_REQUEST (R387): refused while the buffer is pending. -/
def execCanBufRequest (c b : Nat) (s : State) : Host.Outcome State Fault Refusal :=
  .next
    (if !canHas c b then s.reply 0x0101
    else if s.get (Obj.CanBufRole c b) ≠ 1 then s.reply 0x0703
    else if s.canPending c b then s.reply 0x0501
    else (s.canRequest c b).done)

/-- CAN_BUF_CANCEL (R390): `sof` is the start of the frame that this controller is sending. The write completes at once unless the buffer's frame is on the bus. -/
def execCanBufCancel (c b sof : Nat) (s : State) : Host.Outcome State Fault Refusal :=
  .next
    (if !canHas c b then s.reply 0x0101
    else if !s.canPending c b then s.reply 0x0601
    else if s.canSending c sof = some b then
      let r := s.can c
      (s.setCan c { r with cancels := if r.cancels.contains b then r.cancels else r.cancels ++ [b] }).put (Obj.CanBufState c b) 2
    else (s.canEnd c b (Obj.CanCancelled c) 0).done)

/-- CAN_BUF_RELEASE (R392): a full receive buffer becomes empty. -/
def execCanBufRelease (c b : Nat) (s : State) : Host.Outcome State Fault Refusal :=
  .next
    (if !canHas c b then s.reply 0x0101
    else if s.get (Obj.CanBufState c b) = 3 then (s.put (Obj.CanBufState c b) 0).done
    else s.done)

/-! ### Counters (R396) -/

/-- R396: the error counters change; in modes 2 to 4 they are frozen.
(DESIGN CHOICE, unsafe: log entry 111.) -/
def State.canCounters (s : State) (c tec rec_ : Nat) : State :=
  if (s.can c).mode ≠ 1 then s
  else
    let s := (s.put (Obj.CanTec c) tec).put (Obj.CanRec c) rec_
    let s := s.setBitIf (decide (96 ≤ tec ∨ 96 ≤ rec_)) (Obj.CanStatus c) 0
    let s := s.setBitIf (decide (128 ≤ tec ∨ 128 ≤ rec_)) (Obj.CanStatus c) 1
    if 255 < tec ∧ (s.can c).busOff = false then
      ((s.setCan c { s.can c with busOff := true, confirmed := false }).setBit (Obj.CanStatus c) 2).raiseOnce fkBusOff c
    else s

/-! ### Frames (R388–R392) -/

/-- R388, R390, R395: an offer fails: a one-shot request, and one with a cancel, end as Cancelled; others are offered again, and a
schedule window in which they started no longer ends them. -/
def State.canFailed (s : State) (c sof : Nat) : State :=
  match s.canSending c sof with
  | none => s
  | some b =>
    if s.flag (Obj.CanBufOneShot c b) ∨ (s.can c).cancels.contains b then s.canEnd c b (Obj.CanCancelled c) 0
    else
      let r := s.can c
      (s.setCan c { r with tt := r.tt.filter fun x => x.2 != b }).put (Obj.CanBufState c b) 1

/-- R383: with `CanTdcEnable` the secondary sample point of a CAN FD frame with bit-rate switching lies at the measured loop delay plus
`CanTdcOffset`, in 12.5 ns; beyond 127 it is a bit error of the frame. -/
def State.canTdcFails (s : State) (c b delay : Nat) : Bool :=
  let f := s.natInUse (Obj.CanBufFlags c b)
  s.flag (Obj.CanTdcEnable c) && bitAt f 1 && bitAt f 2 && decide (127 < delay + s.nat (Obj.CanTdcOffset c))

/-- The frame of a buffer as it leaves: controller, identifier, flags, length, start, data. -/
def State.canSent (s : State) (c b sof : Nat) : State :=
  let n := s.natInUse (Obj.CanBufLength c b)
  s.send sentCan ([(c : Int), s.inUse (Obj.CanBufId c b), s.inUse (Obj.CanBufFlags c b), n, sof] ++
    (s.bytesInUse (Obj.CanBufData c b) 0 n).map fun x => (x.toNat : Int))

/-- CAN_FRAME_TRANSMITTED (R383, R388–R390): the a frame of this device completes, with the loop delay that was measured in it. A cancel that came after it had won completes with 0x0601. A frame whose secondary sample point lies too late met a bit
error instead. -/
def execCanFrameTransmitted (c : Nat) (frame : CanSof) (tec rec_ : Nat) (s : State) : Host.Outcome State Fault Refusal :=
  .next
    (match s.canSending c frame.sof with
     | none => s
     | some b =>
       if s.canTdcFails c b frame.delay then (s.canFailed c frame.sof).canCounters c tec rec_
       else (((s.canSent c b frame.sof).put (Obj.CanBufTime c b) frame.sof).canEnd c b (Obj.CanTransmitted c) 0x0601).canCounters c tec rec_)

/-- CAN_ARBITRATION_LOST (R388, R390): the frame that began at `sof` loses arbitration. -/
def execCanArbitrationLost (c sof : Nat) (s : State) : Host.Outcome State Fault Refusal := .next (s.canFailed c sof)

/-- CAN_ERROR (R388, R390, R396): a bus error; `transmitting` says that the controller's own frame met it. -/
def execCanError (c tec rec_ : Nat) (transmitting : Bool) (sof : Nat) (s : State) : Host.Outcome State Fault Refusal :=
  .next ((if transmitting then s.canFailed c sof else s).canCounters c tec rec_)

/-- R391: a filter matches an identifier and IDE bit. -/
def State.canMatches (s : State) (c id : Nat) (ide : Bool) (f : Nat) : Bool :=
  s.flag (Obj.CanFltEnable c f) && s.flag (Obj.CanFltIde c f) == ide &&
    ((id ^^^ s.nat (Obj.CanFltId c f)) &&& s.nat (Obj.CanFltMask c f)) == 0

/-- R381, R391: a valid frame is tested against the filters; a remote frame gives its length by that many bytes, which are not
stored. -/
def State.canFilter (s : State) (c sof id flags : Nat) (data : List Byte) : State :=
  let s := s.count (Obj.CanReceived c) 64 1
  match (List.range 32).find? fun f => s.canMatches c id (bitAt flags 0) f with
  | none => s.count (Obj.CanFiltered c) 64 1
  | some f =>
    let b := s.nat (Obj.CanFltBuffer c f)
    if s.get (Obj.CanBufRole c b) = 2 ∧ s.get (Obj.CanBufState c b) ≠ 3 then
      let s := (s.put (Obj.CanBufId c b) id).put (Obj.CanBufFlags c b) (flags % 32 : Nat)
      let s := (s.put (Obj.CanBufLength c b) (data.length : Nat)).store (Obj.CanBufData c b) 0 (if bitAt flags 3 then [] else data)
      let s := (s.put (Obj.CanBufTime c b) sof).put (Obj.CanBufState c b) 3
      s.count (Obj.CanAccepted c) 64 1
    else (s.count (Obj.CanOverrun c) 64 1).setBit (Obj.CanStatus c) 4

/-- R385: the valid entries of the detection table. -/
def State.canEntries (s : State) (c : Nat) : List Nat :=
  (List.range 8).filter fun i => s.uint (Obj.CanDetectTable c) (16 * i + 12) 1 != 0

/-- R385: a detection entry becomes the bit timing, and the controller enters the mode it was told. -/
def State.canAdopt (s : State) (c : Nat) (brs : Bool) : State :=
  let e := (s.can c).entry
  let k := Obj.CanDetectTable c
  let u := fun o n => (s.uint k (16 * e + o) n : Int)
  let s := s.putAll
    [(Obj.CanNomPrescaler c, u 0 2), (Obj.CanNomSeg1 c, u 2 2), (Obj.CanNomSeg2 c, u 4 2), (Obj.CanNomSjw c, u 6 2),
     (Obj.CanDataPrescaler c, u 8 1), (Obj.CanDataSeg1 c, u 9 1), (Obj.CanDataSeg2 c, u 10 1), (Obj.CanDataSjw c, u 11 1),
     (Obj.CanDetectResult c, (e : Int)), (Obj.CanMode c, s.inUse (Obj.CanDetectThen c))]
  let s := s.setCan c { s.can c with mode := s.natInUse (Obj.CanDetectThen c) }
  s.setBitIf (!brs) (Obj.CanStatus c) 6

/-- CAN_FRAME_RECEIVED (R385, R389, R391): a valid frame of another node. -/
def execCanFrameReceived (c sof tec rec_ id flags : Nat) (data : List Byte) (s : State) : Host.Outcome State Fault Refusal :=
  .next
    (if (s.can c).mode = 0 then s
    else
      let s := if (s.can c).mode = 4 ∧ s.canEntries c ≠ [] then s.canAdopt c (bitAt flags 2) else s
      (s.canFilter c sof id flags data).canCounters c tec rec_)

/-! ### Modes and detection (R384, R385) -/

/-- R384: the mode asked for comes into force. -/
def State.canEnter (s : State) (c : Nat) : State :=
  let m := s.nat (Obj.CanMode c)
  let old := (s.can c).mode
  if m = old then s
  else
    let s := if m = 0 then ((s.can c).reqs.map fun r => r.1).foldl (fun s b => s.canEnd c b (Obj.CanCancelled c) 0) s else s
    let zero := m == 0 || old == 0
    let s := if zero then (s.put (Obj.CanTec c) 0).put (Obj.CanRec c) 0 else s
    let r := s.can c
    let s := s.setCan c { r with mode := m, busOff := r.busOff && !zero, entry := (s.canEntries c).headD 0,
                                 detectAt := s.now, entryAt := s.now }
    if zero && s.faultActive fkBusOff c then s.setActive fkBusOff c false else s

/-- CAN_MODE_CHANGE (R384): the bus is idle. -/
def execCanModeChange (c : Nat) (s : State) : Host.Outcome State Fault Refusal := .next (s.canEnter c)

/-- R384: a write of `CanMode` takes effect at once in mode 0 and while bus-off. -/
def State.canModeWritten (s : State) (c : Nat) : State :=
  if (s.can c).mode = 0 ∨ (s.can c).busOff = true then s.canEnter c else s

/-- RATE_DETECTION_DWELL (R385): an entry has dwelt for `CanDetectDwell`: the next valid one is tried. -/
def execRateDetectionDwell (c : Nat) (s : State) : Host.Outcome State Fault Refusal :=
  let r := s.can c
  let l := s.canEntries c
  .next
    (if r.mode = 4 ∧ r.entryAt + s.natInUse (Obj.CanDetectDwell c) * 1000000 ≤ s.now then
      s.setCan c { r with entry := (l.find? fun i => decide (r.entry < i)).getD (l.headD r.entry), entryAt := s.now }
    else s)

/-- RATE_DETECTION_TIMEOUT (R385): `CanDetectTimeout` has passed: the controller stays listen-only. -/
def execRateDetectionTimeout (c : Nat) (s : State) : Host.Outcome State Fault Refusal :=
  .next
    (if (s.can c).mode = 4 ∧ s.inUse (Obj.CanDetectTimeout c) ≠ 0 ∧
        (s.can c).detectAt + s.natInUse (Obj.CanDetectTimeout c) * 1000000 ≤ s.now then
      let s := s.setCan c { s.can c with mode := 2 }
      ((s.put (Obj.CanMode c) 2).put (Obj.CanDetectResult c) 0xFF).setBit (Obj.CanStatus c) 5
    else s)

/-! ### Bus-off (R397) -/

/-- CAN_RECOVER (R397): `CanCommand` 1. -/
def execCanRecover (c : Nat) (s : State) : Host.Outcome State Fault Refusal :=
  let r := s.can c
  .next (if 2 ≤ c then s.reply 0x0101 else (if r.busOff then s.setCan c { r with confirmed := true } else s).done)

/-- BUS_OFF_RECOVERY (R397): 128 occurrences of 11 recessive bits, counted from the command in host-confirmed mode. -/
def execBusOffRecovery (c : Nat) (s : State) : Host.Outcome State Fault Refusal :=
  let r := s.can c
  .next
    (if r.busOff && (s.inUse (Obj.CanRecovery c) == 1 || r.confirmed) then
      let s := s.setCan c { r with busOff := false, confirmed := false }
      ((s.put (Obj.CanTec c) 0).put (Obj.CanRec c) 0).setActive fkBusOff c false
    else s)

/-! ### The schedule matrix (R394, R395) -/

/-- R394: a field of a schedule slot: 0 offset, 1 window, 2 mask, 3 buffer. -/
def State.ttField (s : State) (c j i : Nat) : Nat :=
  let k := Obj.TtSlotTable c
  if i = 0 then s.uint k (24 * j) 4 else if i = 1 then s.uint k (24 * j + 4) 4
  else if i = 2 then s.uint k (24 * j + 8) 8 else s.uint k (24 * j + 16) 1

/-- R394: the basic cycle at the present time. -/
def State.ttCycle (s : State) (c : Nat) : Nat := s.now / s.nat (Obj.TtCycleLength c)

/-- R394: a slot fires: its offset has come in a basic cycle of its mask in which it did not fire yet. -/
def State.ttDue (s : State) (c j : Nat) : Bool :=
  decide (j < 16) && (s.ttField c j 2).testBit (s.ttCycle c % s.nat (Obj.TtMatrixCycles c)) &&
    decide (s.ttField c j 0 ≤ s.now % s.nat (Obj.TtCycleLength c)) && (s.can c).fired.lookup j != some (s.ttCycle c)

/-- TT_SLOT_FIRE (R387, R394, R395): the offset of a slot comes in a basic cycle of its mask. -/
def execTtSlotFire (c j : Nat) (s : State) : Host.Outcome State Fault Refusal :=
  let b := s.ttField c j 3
  .next
    (if s.ttDue c j then
      let was := s.canPending c b
      let s := s.setCan c { s.can c with fired := Sparse.insert j (s.ttCycle c) (s.can c).fired }
      let s := s.canTrigger c b
      let r := s.can c
      if was || s.ttField c j 1 == 0 then s else s.setCan c { r with tt := r.tt ++ [(j, b)] }
    else s)

/-- R395: when the window of a slot's latest firing ends. -/
def State.ttDeadline (s : State) (c j : Nat) : Nat :=
  ((s.can c).fired.lookup j).getD 0 * s.nat (Obj.TtCycleLength c) + s.ttField c j 0 + s.ttField c j 1

/-- TT_WINDOW_EXPIRY (R395): no SOF by firing + window: the request is withdrawn; a frame that has started completes. -/
def execTtWindowExpiry (c j sof : Nat) (s : State) : Host.Outcome State Fault Refusal :=
  let r := s.can c
  .next
    (match r.tt.find? fun x => x.1 == j && decide (s.ttDeadline c j ≤ s.now) with
     | none => s
     | some x =>
       let s' := s.setCan c { r with tt := r.tt.filter fun y => y.1 != j }
       if s.canSending c sof = some x.2 then s'
       else ((s'.canEnd c x.2 (Obj.CanCancelled c) 0).count (Obj.TtWindowMissed c) 32 1).setBit (Obj.CanStatus c) 3)

/-- R387, R392: what a tick edge brings: trigger slots, and full buffers whose contents are latched into slots.
(DESIGN CHOICE, unsafe: log entry 136.) -/
def State.canEdge (s : State) (c : Nat) : State :=
  let s := s.each (List.range 64) fun s b =>
    let t := s.nat (Obj.CanBufTriggerSlot c b)
    if s.get (Obj.CanBufRole c b) = 1 ∧ t ≠ 0xFFFF ∧ s.slotPrev t ≠ 0 then s.canTrigger c b else s
  s.each (List.range 64) fun s b =>
    let slot := s.nat (Obj.CanBufRxSlot c b)
    if s.get (Obj.CanBufRole c b) = 2 ∧ s.get (Obj.CanBufState c b) = 3 ∧ slot ≠ 0xFFFF then
      let n := s.nat (Obj.CanBufLength c b)
      let tail := (s.canTail.filter fun x => x.1 == 0x300 + 64 * c + b).map fun x => x.2
      let s := s.each ((List.range (ceilDiv n 8)).filter fun i => i == 0 || tail.contains (slot + i)) fun s i =>
        s.put (Obj.SlotValue (slot + i)) (leNat (s.bytes (Obj.CanBufData c b) (8 * i) (min 8 (n - 8 * i))) : Nat)
      s.put (Obj.CanBufState c b) 0
    else s

end Sys2Proof.Machine
end

