-- ==== Sys2Proof/Machine/Field.lean ====
section
/-! DEFINITION. The 24 V field inputs and outputs (R399–R411): thresholds, the up/down filter, wire break and substitutes, the
output switches with their causes, the field supply and the die link. Voltages are in mV. -/

namespace Sys2Proof.Machine

def State.setFin (s : State) (i : Nat) (r : FinRt) : State :=
  { s with field := { s.field with fins := Sparse.put (fun _ => {}) s.field.fins i r } }
def State.fout (s : State) (o : Nat) : FoutRt := Sparse.get (fun _ => {}) s.field.fouts o
def State.setFout (s : State) (o : Nat) (r : FoutRt) : State :=
  { s with field := { s.field with fouts := Sparse.put (fun _ => {}) s.field.fouts o r } }

/-! ### Inputs (R399–R404) -/

/-- R399: the thresholds in force, in mV: on above, off below. -/
def State.finThresholds (s : State) (i : Nat) : Nat × Nat :=
  let t := s.nat (Obj.FinType i)
  if t = 1 then (10000, 8000) else if t = 2 ∨ t = 3 then (9000, 7000)
  else (s.nat (Obj.FinThresholdOn i) * 100, s.nat (Obj.FinThresholdOff i) * 100)

/-- R399: the comparator's level for a voltage. -/
def State.finCompare (s : State) (i : Nat) (level : Bool) (mv : Nat) : Bool :=
  let t := s.finThresholds i
  if t.1 < mv then true else if mv < t.2 then false else level

/-- R401: the filter over a run of equal samples: the counter and the output. -/
def filterRun (n : Nat) (sample : Bool) (k c : Nat) (f : Bool) : Nat × Bool :=
  if k = 0 then (c, f)
  else if n = 0 then (0, sample)
  else if sample then (min (c + k) n, f || decide (n ≤ c + k))
  else (c - k, f && decide (k < c))

/-- R404: the input is valid. -/
def State.finValid (s : State) (i : Nat) : Bool := s.field.supply && s.field.link && !(s.fin i).broken

/-- R404: the filtered value as every role reads it. -/
def State.finValue (s : State) (i : Nat) : Bool := if s.finValid i then (s.fin i).f else s.flag (Obj.FinSubstitute i)

/-- R399, R401: a run of equal samples of an input.
(DESIGN CHOICE, unsafe: log entry 113.) -/
def State.finRun (s : State) (i mv k : Nat) : State :=
  let r := s.fin i
  let level := s.finCompare i r.level mv
  let sample := level != s.flag (Obj.FinInvert i)
  let x := filterRun (s.nat (Obj.FinFilterCount i)) sample k r.c r.f
  if s.finValid i then
    let s := s.setFin i { r with level := level, voltage := mv, c := x.1, f := x.2 }
    if x.2 != r.f then s.count (Obj.FinTransitions i) 32 1 else s
  else s.setFin i { r with level := level, voltage := mv }

/-- FIELD_INPUT_CHANGE (R399, R401): the samples of an input up to a change of its filtered value. -/
def execFieldInputChange (i : Nat) (samples : List (Nat × Nat)) (s : State) : Host.Outcome State Fault Refusal :=
  .next (samples.foldl (fun s x => s.finRun i x.1 x.2) s)

/-- R404: an input becomes valid: c and f are set from its first valid sample.
(DESIGN CHOICE, unsafe: log entry 113.) -/
def State.finFirst (s : State) (i mv : Nat) : State :=
  let r := s.fin i
  let level := s.finCompare i r.level mv
  let x := level != s.flag (Obj.FinInvert i)
  let s := s.setFin i { r with level := level, voltage := mv, c := if x then s.nat (Obj.FinFilterCount i) else 0, f := x }
  if x != r.f then s.count (Obj.FinTransitions i) 32 1 else s

/-- WIRE_BREAK (R403): the voltage has stayed below the level for a time (µs), more than `FinWireBreakTime`; 0 bypasses it. -/
def execWireBreak (low : LowVoltage) (s : State) : Host.Outcome State Fault Refusal :=
  let i := low.input
  let r := s.fin i
  let limit := s.natInUse (Obj.FinWireBreakTime i)
  .next
    (if (limit == 0 || decide (limit * 1000 < low.time)) && s.flag (Obj.FinWireBreakEnable i) && decide (r.voltage < s.nat (Obj.FinWireBreakLevel i) * 100) then
      ((s.setFin i { r with broken := true }).setBit (Obj.FinStatus i) 0).raiseOnce fkWireBreak i
    else s)

/-- FIELD_INPUT_VALID_AGAIN (R403, R404): the first sample above the wire-break level. -/
def execFieldInputValidAgain (i mv : Nat) (s : State) : Host.Outcome State Fault Refusal :=
  let r := s.fin i
  .next
    (if r.broken && decide (s.nat (Obj.FinWireBreakLevel i) * 100 < mv) then
      let s := (s.setFin i { r with broken := false }).setActive fkWireBreak i false
      s.finFirst i mv
    else s)

/-- R402: the filtered values of all inputs are latched into the image and their slots, with the voltages. -/
def State.finEdge (s : State) : State :=
  let img := (List.range 16).foldl (fun m i => if s.finValue i then setBitN m i else m) 0
  let s := (s.put Obj.FinImage img)
  s.each (List.range 16) fun s i =>
    let s := s.put (Obj.FinVoltage i) ((s.fin i).voltage / 100 : Nat)
    let slot := s.nat (Obj.FinSlot i)
    if slot = 0xFFFF then s else s.slotLatch slot (b2i (s.finValue i))

/-! ### Outputs (R406–R408) -/

/-- R407: the output drives its command. -/
def State.foutOn (s : State) (o : Nat) : Bool := (s.fout o).cmd && !s.bit (Obj.FoutStatus o) 0

/-- R407: a cause of an output persists. -/
def State.foutCause (s : State) (o : Nat) : Bool :=
  decide (s.now < (s.fout o).overUntil) || (s.fout o).hot || !s.field.supply || !s.field.link

/-- R425: safe brake control switches the output: its group under the configuration in force (bit mask of groups). -/
def sbcOutput (sbc o : Nat) : Bool := sbc.testBit (o / 2)

/-- R131, R406: the axis whose brake drive is this output releases its brake. -/
def State.brakeReleased (s : State) (o : Nat) : Bool :=
  allAxes.any fun a => s.nat (Obj.BrakeOutput a) == o && !(s.axis a).brakeEngaged

/-- R406: the command of an output at a tick edge. -/
def State.foutCommand (s : State) (o : Nat) : Bool :=
  let src := s.get (Obj.FoutSource o)
  if src = 0 then s.flag (Obj.FoutValue o)
  else if src = 1 then s.slotPrev (s.nat (Obj.FoutSlot o)) != 0
  else s.brakeReleased o

/-- R406, R408: at a tick edge the commands apply and the image and the currents are latched. `sbc` names the outputs that
the safety die switches. -/
def State.foutEdge (s : State) (sbc : Nat) (currents : List (Nat × Nat)) : State :=
  let s := s.each (List.range 8) fun s o =>
    let c := if sbc.testBit o then s.safety.brakes.testBit o else s.foutCommand o
    let s := s.setFout o { s.fout o with cmd := c }
    match currents.lookup o with
    | some i => s.put (Obj.FoutCurrent o) (i % 65536 : Nat)
    | none => s
  s.put Obj.FoutImage ((List.range 8).foldl (fun m o => if s.foutOn o then setBitN m o else m) 0 : Nat)

/-- R407: an output goes off for a cause that sets a bit of its status. -/
def State.foutStop (s : State) (o bit : Nat) : State := (s.setBit (Obj.FoutStatus o) 0).setBit (Obj.FoutStatus o) bit

/-- FIELD_OUTPUT_OVERLOAD (R407): the current (mA) has been above `FoutOverloadLimit` for a time (µs), more than
`FoutOverloadTime`, 0 bypassing it; the condition persists for 10 ms after switch-off. -/
def execFieldOutputOverload (held : HeldCurrent) (s : State) : Host.Outcome State Fault Refusal :=
  let o := held.output
  let limit := s.natInUse (Obj.FoutOverloadTime o)
  .next
    (if s.foutOn o ∧ s.natInUse (Obj.FoutOverloadLimit o) < held.current ∧ (limit = 0 ∨ limit < held.time) then
      let s := s.setFout o { s.fout o with overUntil := s.now + 10000000 }
      (s.foutStop o 1).raiseOnce fkOverload o
    else s)

/-- FIELD_OUTPUT_OVER_TEMPERATURE (R407): above 150 °C; the condition persists until below 130 °C. -/
def execFieldOutputOverTemperature (o : Nat) (t : Int) (s : State) : Host.Outcome State Fault Refusal :=
  .next
    (if 150 < t then ((s.setFout o { s.fout o with hot := true }).foutStop o 2).raiseOnce fkOverTemp o
    else if t < 130 ∧ (s.fout o).hot = true then (s.setFout o { s.fout o with hot := false }).setActive fkOverTemp o false
    else s)

/-- OPEN_WIRE (R408): the current of an output, in µA, over 50 ms: below the limit the wire is open; the output stays on.
(DESIGN CHOICE, unsafe: log entry 113.) -/
def execOpenWire (o current : Nat) (s : State) : Host.Outcome State Fault Refusal :=
  let limit := s.natInUse (Obj.FoutOpenCurrent o)
  let opened := s.foutOn o && limit != 0 && decide (current < limit)
  .next ((s.setFout o { s.fout o with opened := opened }).setBitIf opened (Obj.FoutStatus o) 3)

/-- R407: the end of an overload's 10 ms, seen at a tick edge. -/
def State.overloadEdge (s : State) : State :=
  s.each (List.range 8) fun s o =>
    if s.faultActive fkOverload o && decide ((s.fout o).overUntil ≤ s.now) then s.setActive fkOverload o false else s

/-! ### Supply and die link (R409–R411) -/

/-- R409: the reported voltage. -/
def supplyShown (mv : Nat) : Int := (mv * 65536 / 1000 : Nat)

/-- R404: all inputs are valid as far as the supply and the link go. -/
def State.inputsValid (s : State) : State := s.put Obj.FieldInputsValid (b2i (s.field.supply && s.field.link))

/-- FIELD_SUPPLY_INVALID (R409): 100 samples below 18.0 V or above 31.0 V. -/
def execFieldSupplyInvalid (mv : Nat) (s : State) : Host.Outcome State Fault Refusal :=
  let s := s.put Obj.FieldSupplyVoltage (supplyShown mv)
  .next
    (if s.field.supply && decide (mv < 18000 ∨ 31000 < mv) then
      let s := s.setBit Obj.FieldStatus (if mv < 18000 then 0 else 1)
      let s := (s.count Obj.FieldSagCount 32 1).raiseOnce fkFieldSupply 0
      ({ s with field := { s.field with supply := false, restore := [], at_ := s.now } }).inputsValid
    else s)

/-- FIELD_OUTPUT_SHED (R409): 12.5·o µs after the supply became invalid. -/
def execFieldOutputShed (o : Nat) (s : State) : Host.Outcome State Fault Refusal :=
  .next (if s.field.supply ∨ s.now < s.field.at_ + 12500 * o then s else s.foutStop o 4)

/-- R410: the outputs that restore themselves.
(DESIGN CHOICE, unsafe: log entry 113.) -/
def State.restorable (s : State) : List Nat :=
  (List.range 8).filter fun o => s.bit (Obj.FoutStatus o) 0 && s.flagInUse (Obj.FoutAutoRestore o) && !s.foutCause o

/-- FIELD_SUPPLY_VALID (R404, R410): 5,000 samples in band: inputs become valid from their first valid samples, and the
outputs with auto-restore whose only cause was the supply wait for their turn. -/
def execFieldSupplyValid (mv : Nat) (inputs : List Nat) (s : State) : Host.Outcome State Fault Refusal :=
  let s := s.put Obj.FieldSupplyVoltage (supplyShown mv)
  .next
    (if !s.field.supply && decide (19200 ≤ mv ∧ mv ≤ 30000) then
      let s := { s with field := { s.field with supply := true, at_ := s.now } }
      let s := { s.setActive fkFieldSupply 0 false with field := { s.field with restore := s.restorable } }
      (s.each (List.range 16) fun s i => if s.finValid i then s.finFirst i (inputs.getD i 0) else s).inputsValid
    else s)

/-- FIELD_OUTPUT_AUTO_RESTORE (R410): the next output in ascending order, one per 1 ms. -/
def execFieldOutputAutoRestore (o : Nat) (s : State) : Host.Outcome State Fault Refusal :=
  .next
    (match s.field.restore with
     | [] => s
     | p :: l =>
       if p = o ∧ s.field.at_ ≤ s.now then
         let s := { s with field := { s.field with restore := l, at_ := s.field.at_ + 1000000 } }
         if s.foutCause o then s else s.clrBit (Obj.FoutStatus o) 0
       else s)

/-- DIE_LINK_LOST (R411): no valid frame for 20 µs. -/
def execDieLinkLost (s : State) : Host.Outcome State Fault Refusal :=
  let s := s.each (List.range 8) fun s o => s.foutStop o 4
  let s := (s.setBit Obj.FieldStatus 2).raiseOnce fkDieLink 0
  .next ({ s with field := { s.field with link := false } }).inputsValid

/-- DIE_LINK_RESTORED (R404, R411): 1 ms of valid frames. -/
def execDieLinkRestored (inputs : List Nat) (s : State) : Host.Outcome State Fault Refusal :=
  .next
    (if s.field.link then s
    else
      let s := { s with field := { s.field with link := true } }
      let s := if s.faultActive fkDieLink 0 then s.setActive fkDieLink 0 false else s
      (s.each (List.range 16) fun s i => if s.finValid i then s.finFirst i (inputs.getD i 0) else s).inputsValid)

end Sys2Proof.Machine
end

