-- ==== Sys2Proof/Machine/SafetyFn.lean ====
section
/-! DEFINITION. The safety functions (R412–R428): configuration, safe input pairs, STO and SS1-t demands, request frames and
releases, safe brake control, and safety faults. -/

namespace Sys2Proof.Machine

/-! ### Configuration (R418–R420) -/

/-- One byte of the CRC-32 of IEEE 802.3, bit by bit (reflected). -/
def crcBits : Nat → Nat → Nat
  | 0, c => c
  | n + 1, c => crcBits n (if c.testBit 0 then (c >>> 1) ^^^ 0xEDB88320 else c >>> 1)

/-- R420, R470: the CRC-32 of IEEE 802.3. -/
def crc32 (l : List Byte) : Nat := (l.foldl (fun c (b : Byte) => crcBits 8 (c ^^^ b.toNat)) 0xFFFFFFFF) ^^^ 0xFFFFFFFF

/-- The configuration in force. -/
structure SafetyCfg where
  pairs : Nat
  ss1 : Nat
  auto : Bool
  masks : List Nat
  delays : List Nat
  disc : Nat
  filter : Nat
  sbc : Nat
  deriving DecidableEq, Repr

/-- R418: the configuration of a seal code. -/
def sealCfg (code : Nat) : SafetyCfg :=
  let pairs := code % 16
  let d := code / 32 % 4
  let delay := if d = 0 then 100 else if d = 1 then 200 else if d = 2 then 500 else 1000
  { pairs := pairs, ss1 := if bitAt code 4 then pairs else 0, auto := false, masks := [1, 2, 4, 8],
    delays := [delay, delay, delay, delay], disc := 50, filter := 3, sbc := if bitAt code 7 then 15 else 0 }

/-- R419: the configuration of a parameter set. -/
def paramCfg (l : List Byte) : SafetyCfg :=
  let u := fun o n => leNat ((l.drop o).take n)
  { pairs := u 1 1 % 16, ss1 := u 2 1 % 16, auto := u 3 1 == 1, masks := (List.range 4).map fun p => u (4 + p) 1 % 16,
    delays := (List.range 4).map fun g => u (8 + 2 * g) 2, disc := u 16 2, filter := u 18 1, sbc := u 19 1 % 16 }

/-- The bytes of the committed parameter set. -/
def State.paramSet (s : State) : List Byte := s.bytes Obj.SafetyParamSet 0 64

/-- The configuration in force, if there is one (`SafetyConfigSource`). -/
def State.safetyCfg (s : State) : Option SafetyCfg :=
  let src := s.nat Obj.SafetyConfigSource
  if src = 1 then some (sealCfg (s.nat Obj.SealCode)) else if src = 2 then some (paramCfg s.paramSet) else none

/-- R420: the stored set verifies. -/
def State.paramValid (s : State) : Bool :=
  (s.paramSet.headD 0).toNat == 1 && crc32 s.paramSet == s.nat Obj.SafetyParamCrc

/-- R418, R420: the configuration source that a seal code and the stored set give. -/
def State.configSource (s : State) : Nat :=
  let code := s.nat Obj.SealCode
  if code = 0 then (if s.paramValid then 2 else 0) else if code % 16 = 0 then 0 else 1

/-- R420: the source is set; without a valid configuration `ConfigInvalid` is set. -/
def State.putSource (s : State) : State :=
  let src := s.configSource
  (s.put Obj.SafetyConfigSource src).setBitIf (src == 0) Obj.SafetyStatus 4

/-- R425: the outputs that safe brake control switches, by the configuration in force. -/
def State.sbcOutputs (s : State) : Nat :=
  match s.safetyCfg with
  | some c => (List.range 8).foldl (fun m o => if sbcOutput c.sbc o then setBitN m o else m) 0
  | none => 0

/-- R428: `SafetyState` outside the self-test and a safety fault. -/
def State.safetyStateEdge (s : State) : State :=
  let st := s.get Obj.SafetyState
  if st = 0 ∨ st = 3 then s
  else
    let hold := s.get Obj.SafetyConfigSource = 0 ∨ s.get Obj.DeviceState = devBoot ∨ s.get Obj.DeviceState = devSafe
    s.put Obj.SafetyState (if hold then 1 else 2)

/-! ### Lines (R413, R414, R423, R425) -/

/-- The channels of a group are on: released, or with its SS1-t timer running since it was released. -/
def State.groupOn (s : State) (g : Nat) : Bool :=
  s.get (Obj.StoGroupState g) == 0 || (s.get (Obj.StoGroupState g) == 2 && s.safety.live.testBit g)

/-- R423: the request frame names an axis, or no frame arrives. -/
def State.namedOff (s : State) (n : Nat) : Bool := !s.safety.path || s.safety.named.testBit n

/-- R413, R423: `GENn` is present. -/
def State.genOn (s : State) (n : Nat) : Bool := s.groupOn (n / 4) && !s.namedOff n

/-- R413, R423: `DSEm` is present: not when every axis of the group is withdrawn by the request frame. -/
def State.dseOn (s : State) (g : Nat) : Bool := s.groupOn g && (List.range 4).any fun i => !s.namedOff (4 * g + i)

/-- R131, R425: an axis of a group with safe brake control commands release.
(DESIGN CHOICE, unsafe: log entry 114.) -/
def State.groupBrake (s : State) (g : Nat) : Bool :=
  (List.range 4).any fun i => s.get (Obj.BrakeOutput (4 * g + i)) == 0x10 && !(s.axis (4 * g + i)).brakeEngaged

/-- The lines and the SBC outputs follow the decisions; a PWM generator reads back an enable that is present again. -/
def State.safetyLines (s : State) : State :=
  let gen := (List.range 16).foldl (fun m n => if s.genOn n then setBitN m n else m) 0
  let dse := (List.range 4).foldl (fun m g => if s.dseOn g then setBitN m g else m) 0
  let brakes := (List.range 8).foldl (fun m o =>
    if s.sbcOutputs.testBit o && s.groupOn (o / 2) && s.groupBrake (o / 2) then setBitN m o else m) 0
  let s := (s.put Obj.GateEnableImage gen).put Obj.SupplyEnableImage dse
  let s := { s with safety := { s.safety with brakes := brakes } }
  let s := s.each ((List.range 8).filter fun o => s.sbcOutputs.testBit o) fun s o =>
    s.setFout o { s.fout o with cmd := brakes.testBit o }
  s.each (List.range 16) fun s n =>
    let p := s.pwm n
    let g := p.gen || gen.testBit n
    let d := p.dse || dse.testBit (n / 4)
    if g = p.gen ∧ d = p.dse then s else s.setPwm n { p with gen := g, dse := d }

/-- R421: both channels of a group are withdrawn; its axes enter Faulted (R109).
(DESIGN CHOICE, unsafe: log entry 114.) -/
def State.withdraw (s : State) (g : Nat) : State :=
  let s := { s with safety := { s.safety with timers := clrBitN s.safety.timers g, live := clrBitN s.safety.live g } }
  (s.put (Obj.StoGroupState g) 1).each (List.range 4) fun s i => s.axisToFaulted (4 * g + i)

/-! ### Safety faults (R426) -/

/-- SAFETY_FAULT (R426): every enable is withdrawn, the SBC outputs go off, and state 3 lasts until a reset. -/
def State.safetyFault (s : State) : State :=
  if s.get Obj.SafetyState = 3 then s
  else
    let s := s.put Obj.SafetyState 3
    let s := s.each (List.range 4) State.withdraw
    s.safetyLines.raiseLasting fkSafetyFault 0

/-! ### Pairs (R415–R417) -/

/-- R415: one input of the safety die takes a sample: the filtered bit and the run of equal samples. -/
def safetyFilter (n run : Nat) (same : Bool) (x f : Bool) : Nat × Bool :=
  let run := if same then run + 1 else 1
  (run, if n ≤ run then x else f)

/-- R415: the eight inputs of a cycle pass the filter. -/
def State.safetyInputs (s : State) (n inputs : Nat) : State :=
  let r := s.safety
  let new := (List.range 8).map fun i =>
    safetyFilter n (r.runs.getD i 0) (inputs.testBit i == r.raw.testBit i) (inputs.testBit i) (r.filt.testBit i)
  let filt := (List.range 8).foldl (fun m i => if (new.getD i (0, false)).2 then setBitN m i else m) 0
  { s with safety := { r with raw := inputs % 256, runs := new.map fun x => min x.1 255, filt := filt } }

/-- R417: an input of the pair is invalid on the field die. -/
def State.pairInvalid (s : State) (p : Nat) : Bool :=
  !s.field.supply || (s.fin (8 + 2 * p)).broken || (s.fin (9 + 2 * p)).broken

/-- R415, R417: the state that a pair's inputs give. -/
def State.pairNow (s : State) (c : SafetyCfg) (p : Nat) : Nat :=
  let a := s.safety.filt.testBit (2 * p)
  let b := s.safety.filt.testBit (2 * p + 1)
  if c.pairs.testBit p && s.pairInvalid p then 1 else if a && !b then 0 else if !a && b then 1 else 2

/-- R416: a pair latches. -/
def State.pairLatch (s : State) (p : Nat) : State :=
  let s := { s with safety := { s.safety with passed := clrBitN s.safety.passed p } }
  ((s.put (Obj.PairState p) 3).setBit Obj.SafetyStatus 0).raiseOnce fkDiscrepancy p

/-- R415, R416: the pair state of a cycle. A latched pair ends when it has passed through demand and returned to run.
(DESIGN CHOICE, unsafe: log entry 114.) -/
def State.pairCycle (s : State) (c : SafetyCfg) (p : Nat) : State :=
  let x := s.pairNow c p
  let r := s.safety
  let run := if x = 2 ∧ c.pairs.testBit p then r.disc.getD p 0 + 1 else 0
  let s := { s with safety := { r with disc := r.disc.set p run } }
  if s.get (Obj.PairState p) = 3 then
    if x = 1 then { s with safety := { s.safety with passed := setBitN s.safety.passed p } }
    else if x = 0 ∧ s.safety.passed.testBit p = true then (s.put (Obj.PairState p) 0).setActive fkDiscrepancy p false
    else s
  else
    let s := s.put (Obj.PairState p) x
    if 0 < run ∧ c.disc = 0 then s.pairLatch p else s

/-- DISCREPANCY_LATCH (R416): a pair has been in discrepancy for longer than `DiscrepancyTime`. -/
def execDiscrepancyLatch (p : Nat) (s : State) : Host.Outcome State Fault Refusal :=
  .next
    (match s.safetyCfg with
     | some c => if c.pairs.testBit p ∧ s.get (Obj.PairState p) = 2 ∧ c.disc * 10 < s.safety.disc.getD p 0 then s.pairLatch p else s
     | none => s)

/-! ### Demands (R421, R422) -/

/-- SS1_DEMAND (R422): the timer of a group starts and "safe stop requested" is raised for its axes.
(DESIGN CHOICE, unsafe: log entry 114.) -/
def State.ss1Demand (s : State) (g : Nat) : State :=
  if s.safety.timers.testBit g then s
  else
    let s := { s with safety := { s.safety with timers := setBitN s.safety.timers g, timerAt := s.safety.timerAt.set g s.now } }
    (s.put (Obj.StoGroupState g) 2).each (List.range 4) fun s i => s.raise fkSafeStop (4 * g + i)

/-- R421, R422: a pair enters demand: each group of its mask is withdrawn, or its timer starts. -/
def State.pairDemand (s : State) (c : SafetyCfg) (p : Nat) : State :=
  let s := s.count Obj.SafetyDemands 32 1
  let groups := (List.range 4).filter fun g => (c.masks.getD p 0).testBit g
  s.each groups fun s g =>
    let s := { s with safety := { s.safety with acked := clrBitN s.safety.acked g } }
    if c.ss1.testBit p ∧ c.delays.getD g 0 ≠ 0 then s.ss1Demand g else s.withdraw g

/-- The demands of a cycle: a pair that acts as demand and did not before. -/
def State.demandCycle (s : State) (c : SafetyCfg) : State :=
  s.each (List.range 4) fun s p =>
    let on := c.pairs.testBit p && s.get (Obj.PairState p) != 0
    let was := s.safety.demand.testBit p
    let s := { s with safety := { s.safety with demand := if on then setBitN s.safety.demand p else clrBitN s.safety.demand p } }
    if on && !was then s.pairDemand c p else s

/-- R422: the delay of a group's SS1-t timer in ns. -/
def State.ss1Delay (s : State) (g : Nat) : Nat := (s.safetyCfg.map fun c => c.delays.getD g 0 * 1000000).getD 0

/-- SS1_TIMER_EXPIRY (R422): the timer has reached the group's delay: both channels are withdrawn. -/
def execSs1TimerExpiry (g : Nat) (s : State) : Host.Outcome State Fault Refusal :=
  .next (if s.safety.timers.testBit g ∧ s.safety.timerAt.getD g 0 + s.ss1Delay g ≤ s.now then (s.withdraw g).safetyLines else s)

/-! ### Release (R424) -/

/-- R424: the release conditions of a group but for the acknowledgement. -/
def State.releasable (s : State) (c : SafetyCfg) (g : Nat) : Bool :=
  s.get Obj.SafetyState == 2 && !s.safety.timers.testBit g &&
    decide (s.get Obj.DeviceState = devReady ∨ s.get Obj.DeviceState = devRun ∨ s.get Obj.DeviceState = devHalt) &&
    (List.range 4).all fun p => !((c.masks.getD p 0).testBit g && s.safety.demand.testBit p)

/-- GROUP_RELEASE (R424): a group that stays released, is released, waits for the acknowledgement, or stays withdrawn. -/
def State.groupCycle (s : State) (g : Nat) : State :=
  let st := s.get (Obj.StoGroupState g)
  match s.safetyCfg with
  | none => if st = 1 then s else s.withdraw g
  | some c =>
    if s.get Obj.SafetyState ≠ 2 then (if st = 1 then s else s.withdraw g)
    else if st = 2 then s
    else if s.releasable c g then
      (if c.auto || s.safety.acked.testBit g then
         ({ s with safety := { s.safety with live := setBitN s.safety.live g } } : State).put (Obj.StoGroupState g) 0
       else if st = 0 then s else s.put (Obj.StoGroupState g) 3)
    else if st = 3 then s.put (Obj.StoGroupState g) 1
    else s

/-- The groups and the lines after a change. -/
def State.safetyGroups (s : State) : State := (s.each (List.range 4) State.groupCycle).safetyLines

/-- R412, R414, R418, R426: the checks of a cycle.
(DEDUCED, unsafe: log entry 115.) -/
def State.safetyChecks (s : State) (code : Nat) (crossFail differ readback : Bool) : State :=
  let r := s.safety
  let d := if differ then r.differRun + 1 else 0
  let b := if readback then r.readRun + 1 else 0
  let s := { s with safety := { r with differRun := d, readRun := b } }
  let cross := crossFail || decide (2 < d)
  let moved := r.sealed && decide (code ≠ s.nat Obj.SealCode)
  let s := s.setBitIf cross Obj.SafetyStatus 2
  let s := s.setBitIf moved Obj.SafetyStatus 3
  if cross || moved || decide (2 ≤ b) then s.safetyFault else s

/-- SAFETY_CYCLE (R412–R427): the inputs are sampled, the configuration in force evaluated and the cores compared.
(DEDUCED, unsafe: log entry 115.) -/
def execSafetyCycle (inputs code response : Nat) (crossFail differ readback : Bool) (s : State) :
    Host.Outcome State Fault Refusal :=
  let s := (s.safetyStateEdge).safetyChecks code crossFail differ readback
  .next
    (match s.safetyCfg with
     | none => s.safetyGroups
     | some c =>
       let s := s.safetyInputs c.filter inputs
       let s := s.each (List.range 4) fun s p => s.pairCycle c p
       let s := s.demandCycle c
       let s := s.put Obj.StoResponseMax (max (s.get Obj.StoResponseMax) (response % 4294967296 : Nat))
       s.safetyGroups)

/-- SAFETY_ACKNOWLEDGE (R424, R427): `SafetyCommand` 1, refused while a demand or latch persists. -/
def execSafetyAcknowledge (s : State) : Host.Outcome State Fault Refusal :=
  .next
    (if s.safety.demand ≠ 0 then (s.count Obj.StickyClearRefused 32 1).reply 0x0702
    else
      let s := { s with safety := { s.safety with acked := 15 } }
      s.safetyGroups.done)

/-! ### The request path (R423) -/

/-- REQUEST_FRAME (R423): the frame names the local axes in Disabled and Faulted. -/
def execRequestFrame (s : State) : Host.Outcome State Fault Refusal :=
  let mask := (List.range 16).foldl (fun m n =>
    if s.get (Obj.AxisState n) = axDisabled ∨ s.get (Obj.AxisState n) = axFaulted then setBitN m n else m) 0
  .next ({ s with safety := { s.safety with named := mask, path := true } }).safetyLines

/-- REQUEST_PATH_LOST (R423): no valid frame for 1 ms. -/
def execRequestPathLost (s : State) : Host.Outcome State Fault Refusal :=
  let s := { s with safety := { s.safety with path := false } }
  .next (s.setBit Obj.SafetyStatus 5).safetyLines

/-! ### Unlock, start-up and off-pulses (R418, R420, R425, R428) -/

/-- SAFETY_UNLOCK (R420): a write of the serial number in state Safe unlocks the session. -/
def execSafetyUnlock (session value : Nat) (s : State) : Host.Outcome State Fault Refusal :=
  .next
    (if !s.sessions.any fun x => x.num == session then s.reply 0x0104
    else if value ≠ s.nat Obj.SerialNumber then s.reply 0x0301
    else if s.get Obj.DeviceState ≠ devSafe then s.reply 0x0701
    else
      let l := s.sessions.map fun (x : Session) => if x.num = session then { x with unlocked := true, unlockAt := s.now } else x
      ({ s with sessions := l }).done)

/-- SAFETY_UNLOCK_EXPIRY (R420): 600 s after the write. -/
def execSafetyUnlockExpiry (session : Nat) (s : State) : Host.Outcome State Fault Refusal :=
  .next { s with sessions := s.sessions.map fun (x : Session) =>
    if x.num = session ∧ x.unlockAt + 600000000000 ≤ s.now then { x with unlocked := false } else x }

/-- SEAL_READ (R418, R420): both cores have read the same code for 100 ms. -/
def execSealRead (code : Nat) (s : State) : Host.Outcome State Fault Refusal :=
  .next
    (if s.safety.sealed then s
    else
      let s := s.put Obj.SealCode (code % 256 : Nat)
      let s := { s with safety := { s.safety with sealed := true } }
      s.putSource.safetyStateEdge)

/-- SELF_TEST_COMPLETE (R428): holding after a pass, a safety fault after a failure. -/
def execSelfTestComplete (ok : Bool) (s : State) : Host.Outcome State Fault Refusal :=
  .next
    (if s.get Obj.SafetyState ≠ 0 then s
    else if ok then (s.put Obj.SafetyState 1).safetyStateEdge
    else s.safetyFault)

/-- OFF_PULSE (R425): an SBC output is switched off for 250 µs; it must read back off. -/
def execOffPulse (o : Nat) (off : Bool) (s : State) : Host.Outcome State Fault Refusal :=
  .next (if s.sbcOutputs.testBit o && !off then (s.setBit Obj.SafetyStatus 1).safetyFault else s)

end Sys2Proof.Machine
end

