-- ==== Sys2Proof/Machine/Nv.lean ====
section
/-! DEFINITION. The non-volatile store (R468–R474): records, transactions, flash operations, saves and reclaim. -/

namespace Sys2Proof.Machine

/-! ### Records (R470, R471) -/

/-- R470: the bytes of a record in flash. -/
def NvRec.size (r : NvRec) : Nat := 32 + r.payload.length

/-- R470: a record of the small-record region. -/
def NvRec.small (r : NvRec) : Bool := decide (r.sector < 4)

/-- R471: the newest committed record of a kind. -/
def newestRec (l : List NvRec) (kind : Nat) : Option NvRec :=
  l.foldl (fun m r =>
    if r.kind = kind ∧ r.committed = true then
      match m with
      | some x => if x.seq < r.seq then some r else m
      | none => some r
    else m) none

/-- The payload of the newest committed record of a kind as a number, or a default. -/
def State.nvField (s : State) (kind offset n default_ : Nat) : Nat :=
  match newestRec s.nv.records kind with
  | some r => leNat ((r.payload.drop offset).take n)
  | none => default_

/-- R474: the epoch reservation C. -/
def State.nvReserve (s : State) : Nat := s.nvField 3 0 4 0

/-- R479: the bank that the selector names (0 A, 1 B). -/
def State.selBank (s : State) : Nat := s.nvField 4 0 1 0

/-- R479: the selector's trial mark. -/
def State.selTrial (s : State) : Bool := s.nvField 4 1 1 0 == 1

/-- R479: the selector's trial count. -/
def State.selCount (s : State) : Nat := s.nvField 4 2 1 0

/-- R479: the previous bank of the selector. -/
def State.selPrev (s : State) : Nat := s.nvField 4 3 1 1

/-- R471: the records of a transaction of a kind, committed, in order of their sequence. -/
def txnRecs (l : List NvRec) (txn kind : Nat) : List NvRec :=
  (l.filter fun r => r.txn == txn && r.kind == kind && r.committed).mergeSort fun a b => decide (a.seq ≤ b.seq)

/-- R471: a complete transaction: its trailer is committed and agrees with its data records. -/
def txnComplete (l : List NvRec) (txn : Nat) : Bool :=
  match txnRecs l txn 2 with
  | [] => false
  | t :: _ =>
    let d := txnRecs l txn 1
    d.length == leNat (t.payload.take 4) && crc32 (d.map fun r => r.payload).flatten == leNat ((t.payload.drop 4).take 4)

/-- R471: the newest complete transaction of a format. -/
def newestTxn (l : List NvRec) (format : Nat) : Option Nat :=
  ((l.filter fun r => r.kind == 2 && r.committed && r.format == format && txnComplete l r.txn).map fun r => r.txn).max?

/-- R472: the entries of a transaction, as bytes. -/
def txnBytes (l : List NvRec) (txn : Nat) : List Byte := ((txnRecs l txn 1).map fun r => r.payload).flatten

/-- R473, R482: the formats whose newest complete transaction is kept: that of the running firmware, and every format
during a trial. -/
def State.keptTxns (s : State) : List Nat :=
  let l := s.nv.records
  let formats := ((l.filter fun r => r.kind == 2).map fun r => r.format).dedup
  ((formats.filter fun f => s.selTrial || f == s.nat Obj.StoreFormat).map fun f => (newestTxn l f).toList).flatten

/-- R473: a live record; the records of the transaction that is being written are live too. -/
def State.nvLive (s : State) (r : NvRec) : Bool :=
  r.committed &&
    (if r.kind ≤ 2 then s.keptTxns.contains r.txn || s.nv.queue.any fun x => x.txn == r.txn && decide (x.txn ≠ 0)
     else newestRec s.nv.records r.kind == some r)

/-- The next record sequence (R470). -/
def State.nvNextSeq (s : State) : Nat := (s.nv.records.foldl (fun m r => max m r.seq) (s.nat Obj.StoreSequence)) + 1

/-- `StoreUsed`: the journal bytes in live records. -/
def State.storeUsed (s : State) : State :=
  s.put Obj.StoreUsed (((s.nv.records.filter fun r => !r.small && s.nvLive r).map NvRec.size).sum : Nat)

/-- R473: a sector holds no record and needs no further erase. -/
def State.sectorFree (s : State) (n : Nat) : Bool :=
  !s.nv.dirty.contains n && !s.nv.records.any fun r => r.sector == n

/-- The sector after one, in ring order within its region (R469). -/
def nextSector (n : Nat) : Nat := if n < 4 then (n + 1) % 4 else if n = 63 then 4 else n + 1

/-- R470: a record is placed after the last one, or at the start of the next sector when it does not fit; none when that
sector is not erased. -/
def State.nvPlace (s : State) (r : NvRec) : Option State :=
  let small := decide (3 ≤ r.kind)
  let h := if small then s.nv.smallAt else s.nv.journalAt
  let put := fun (p : Nat × Nat) =>
    let next := (p.1, p.2 + r.size)
    let nv := { s.nv with records := s.nv.records ++ [{ r with sector := p.1, offset := p.2 }],
                          smallAt := if small then next else s.nv.smallAt,
                          journalAt := if small then s.nv.journalAt else next }
    { s with nv := nv }
  if h.2 + r.size ≤ 65536 then some (put h)
  else if s.sectorFree (nextSector h.1) then some (put (nextSector h.1, 0))
  else none

/-- R473: live records of a sector are copied forward and the sector's records are gone; none without room.
(DESIGN CHOICE, unsafe: log entry 125.) -/
def State.nvReclaim (s : State) (sector : Nat) : Option State :=
  let live := s.nv.records.filter fun r => r.sector == sector && s.nvLive r
  let s0 := { s with nv := { s.nv with records := s.nv.records.filter fun r => r.sector != sector,
                                       dirty := if s.nv.dirty.contains sector then s.nv.dirty else sector :: s.nv.dirty } }
  live.foldl (fun o r => match o with | some t => t.nvPlace r | none => none) (some s0)

/-- A small record (kinds 3–6) is written and committed; when it opened a sector, the one after it is reclaimed.
(DESIGN CHOICE, unsafe: log entry 125.) -/
def State.nvSmall (s : State) (kind : Nat) (payload : List Byte) : State :=
  let q := s.nvNextSeq
  let before := s.nv.smallAt.1
  match s.nvPlace ⟨0, 0, q, kind, s.nat Obj.StoreFormat, q, payload, true⟩ with
  | none => s
  | some t =>
    let t := t.put Obj.StoreSequence q
    if t.nv.smallAt.1 = before then t
    else
      let n := nextSector t.nv.smallAt.1
      match t.nvReclaim n with
      | some u => { u with nv := { u.nv with dirty := u.nv.dirty.filter fun x => x != n } }
      | none => t

/-- R474: an epoch reservation is committed.
(DESIGN CHOICE, unsafe: log entry 123.) -/
def State.reserveEpochs (s : State) (c : Nat) : State := s.nvSmall 3 (natLE 4 c)

/-- R479, R481: a bank selector is committed. -/
def State.select (s : State) (bank : Nat) (trial : Bool) (count prev : Nat) : State :=
  s.nvSmall 4 [BitVec.ofNat 8 bank, if trial then 1 else 0, BitVec.ofNat 8 count, BitVec.ofNat 8 prev]

/-- R9, R474: `ResetEpoch` increments; when it comes within 16 of the reservation, a new one is committed. -/
def State.bumpEpoch (s : State) : State :=
  let e := s.nat Obj.ResetEpoch + 1
  let s := s.put Obj.ResetEpoch (e % 4294967296 : Nat)
  let c := s.nvReserve
  if c ≤ e + 16 then s.reserveEpochs (c + 256) else s

/-! ### Flash operations (R469) -/

/-- R444: a zone is at or above the shutdown threshold: no new flash operation starts. -/
def State.flashStopped (s : State) : Bool := (List.range 7).any fun z => s.faultActive fkShutdown z

/-- The pages of a record: its header and payload, then its commit flag (R470). -/
def NvRec.pages (r : NvRec) : Nat := (r.size + 255) / 256 + 1

/-- R469: the next operation starts: journal before banks. A record that finds no erased sector waits for a reclaim. -/
def State.flashStart (s : State) : State :=
  if s.nv.op.isSome || s.flashStopped then s
  else
    let bank := if s.nv.bankPages = 0 then s else { s with nv := { s.nv with op := some .bank, retried := false } }
    match s.nv.queue with
    | [] => bank
    | r :: rest =>
      let q := s.nvNextSeq
      let txn := if r.txn = 0 then q else r.txn
      let r := { r with seq := q, txn := txn }
      match s.nvPlace r with
      | none => bank
      | some t =>
        let queue := r :: (rest.map fun x => { x with txn := txn })
        { t with nv := { t.nv with queue := queue, pages := r.pages, op := some .record, retried := false } }

/-- Continue the record in progress, or start the next operation.
(DESIGN CHOICE, unsafe: log entry 126.) -/
def State.flashNext (s : State) : State :=
  if s.nv.op.isSome ∨ s.nv.pages = 0 then s.flashStart
  else if s.flashStopped then s
  else { s with nv := { s.nv with op := some .record, retried := false } }

/-- R470: the commit flag of the record in progress is programmed. -/
def State.nvCommitted (s : State) : State :=
  match s.nv.queue with
  | [] => s
  | r :: rest =>
    let records := s.nv.records.map fun x => if x.seq = r.seq then { x with committed := true } else x
    let s := ({ s with nv := { s.nv with records := records, queue := rest } }).put Obj.StoreSequence r.seq
    if rest.isEmpty then ((s.put Obj.StoreState 0).storeUsed).answerLate 2 0 else s

/-- R478: an update is rejected with a cause. -/
def State.updateReject (s : State) (cause : Nat) : State :=
  let s := (s.put Obj.UpdateState 5).put Obj.UpdateRejectCause cause
  ({ s with nv := { s.nv with bankPages := 0 } }).setBit Obj.UpdateStatus 2

/-- The bank that is not running; in recovery service the one the selector does not name (R478, R480). -/
def State.inactiveBank (s : State) : Nat :=
  if s.power.recovery then 1 - s.selBank else 2 - s.nat Obj.BootBank

/-- R475, R476: an unsigned field of the inactive bank's package. -/
def State.pkg (s : State) (offset n : Nat) : Nat := s.uint (bankKey s.inactiveBank) offset n

/-- R478: package length reached with every check passed and every page programmed. -/
def State.updateVerified (s : State) : State :=
  if s.get Obj.UpdateState = 2 ∧ s.nv.bankPages = 0 ∧ 256 ≤ s.nat Obj.UpdateReceived ∧ s.nat Obj.UpdateReceived = s.pkg 16 4 then
    let b := s.inactiveBank
    let s := (s.put Obj.UpdateState 3).put (Obj.BankState b) 1
    let s := s.put (Obj.BankVersion b) (s.pkg 36 4)
    { s with nv := { s.nv with packages := s.nv.packages.set b s.nv.nextPackage, nextPackage := s.nv.nextPackage + 1 } }
  else s

/-- R469: a page failed its verification a second time: the operation ends. -/
def State.flashFailed (s : State) : State :=
  let s := s.setBit Obj.UpdateStatus 0
  match s.nv.op with
  | some .bank => ({ s with nv := { s.nv with op := none } }).updateReject 10
  | some .record => ({ s with nv := { s.nv with op := none, queue := [], pages := 0 } }).put Obj.StoreState 0
  | _ => { s with nv := { s.nv with op := none } }

/-- A page is programmed, or an erase ends.
(DESIGN CHOICE, unsafe: log entry 126.) -/
def State.flashDone (s : State) : State :=
  match s.nv.op with
  | none => s
  | some .bank => ({ s with nv := { s.nv with op := none, bankPages := s.nv.bankPages - 1 } }).updateVerified
  | some (.erase n) =>
    ({ s with nv := { s.nv with op := none, dirty := s.nv.dirty.filter fun x => x != n } }).put Obj.StoreState
      (if s.nv.queue.isEmpty then 0 else 1)
  | some .record =>
    let p := s.nv.pages - 1
    let s := { s with nv := { s.nv with op := none, pages := p } }
    if s.nv.queue.isEmpty then ({ s with nv := { s.nv with pages := 0 } }).put Obj.StoreState 0
    else if p = 0 then s.nvCommitted else s

/-- FLASH_OPERATION_COMPLETE (R469, R470, R472, R477): a page is programmed and verified, fails and is retried once, or an
erase ends. -/
def execFlashOperationComplete (ok : Bool) (s : State) : Host.Outcome State Fault Refusal :=
  .next
    (if s.nv.op.isNone then s
     else if ok then s.flashDone.flashNext
     else if s.nv.retried then s.flashFailed.flashNext
     else { s with nv := { s.nv with retried := true } })

/-- R444, R483: thermal shutdown: an erase in progress is aborted, the page in progress may finish, and a save ends without
its trailer.
(DESIGN CHOICE, unsafe: log entry 121.) -/
def State.flashShutdown (s : State) : State :=
  let op := match s.nv.op with | some (.erase _) => none | x => x
  let s := { s with nv := { s.nv with op := op, queue := [], saveDue := false, pages := if op.isSome then 1 else 0 } }
  if s.get Obj.StoreState = 0 then s else s.put Obj.StoreState 0

/-! ### Save and clear (R472) -/

/-- R472: the measured maxima, whose only accepted write is 0. -/
def measuredMax (r : Dict.Row) : Bool := r.acc == .rw && decide (r.range = .oneOf [0])

/-- R472: whether a subentry belongs to a capture. -/
def captured (key : Nat) : Bool :=
  match Dict.row key with
  | none => false
  | some r =>
    (r.acc == .rw || r.acc == .rws) && !measuredMax r && !(key == Obj.CommitEdge || key == Obj.CommitTime) &&
      (match r.range with | .sticky _ => false | _ => true)

/-- The key of a memory cell. -/
def cellKey (a : Nat) : Nat := a / 4294967296

/-- R472: an entry of a capture: index, subindex, reserved, length and value, padded to a multiple of 8. -/
def entryOf (key : Nat) (v : List Byte) : List Byte :=
  let l := natLE 2 (key / 256) ++ natLE 1 (key % 256) ++ natLE 1 0 ++ natLE 4 v.length ++ v
  l ++ List.replicate ((8 - l.length % 8) % 8) 0

/-- The bytes of a DOMAIN object up to its last byte that is not 0. -/
def State.domBytes (s : State) (key : Nat) : List Byte :=
  let n := s.mem.foldl (fun m c => if cellKey c.1 = key then max m (c.1 % 4294967296 + 1) else m) 0
  s.bytes key 0 n

/-- R472: the capture: every RW and RW-S subentry that differs from its default, but for the six groups.
(DESIGN CHOICE, unsafe: log entry 125.) -/
def State.capture (s : State) : List Byte :=
  let regs := s.regs.filter fun p => captured p.1
  let keys := ((s.mem.map fun c => cellKey c.1).dedup).filter captured
  ((regs.map fun p => entryOf p.1 (intLE (match Dict.row p.1 with | some r => Dict.size r.typ | none => 0) p.2)) ++
    keys.map fun k => entryOf k (s.domBytes k)).flatten

/-- R470: a payload cut into records of at most 65,504 bytes. -/
def chunks (n : Nat) : Nat → List Byte → List (List Byte)
  | 0, _ => []
  | f + 1, l => if l.isEmpty then [] else l.take n :: chunks n f (l.drop n)

/-- R470, R472: a transaction with a payload waits to be written. -/
def State.queueTxn (s : State) (format : Nat) (payload : List Byte) : State :=
  let d := chunks 65504 19 payload
  let mk := fun kind p => (⟨0, 0, 0, kind, format, 0, p, false⟩ : NvRec)
  let l := (d.map (mk 1)) ++ [mk 2 (natLE 4 d.length ++ natLE 4 (crc32 payload))]
  (({ s with nv := { s.nv with queue := s.nv.queue ++ l } }).put Obj.StoreState 1).flashStart

/-- R472: a save, clear or activation runs. -/
def State.storeBusy (s : State) : Bool := s.nv.saveDue || !s.nv.queue.isEmpty

/-- SAVE (R472): `StoreCommand` 1 is accepted; the capture follows at the next edge. -/
def execSave (s : State) : Host.Outcome State Fault Refusal :=
  .next
    (if s.power.recovery then s.reply 0x0701
     else if s.storeBusy then s.reply 0x0501
     else { s with nv := { s.nv with saveDue := true } })

/-- R472: the capture at the edge. -/
def State.saveEdge (s : State) : State :=
  if !s.nv.saveDue then s
  else
    let s := { s with nv := { s.nv with saveDue := false } }
    let c := s.capture
    if 1179072 < c.length then s.answerLate 2 0x0503
    else (s.put Obj.StoreLastSize c.length).queueTxn (s.nat Obj.StoreFormat) c

/-- CLEAR (R472): `StoreCommand` 2 writes a transaction with no entries. -/
def execClear (s : State) : Host.Outcome State Fault Refusal :=
  .next
    (if s.power.recovery then s.reply 0x0701
     else if s.storeBusy then s.reply 0x0501
     else s.queueTxn (s.nat Obj.StoreFormat) [])

/-- JOURNAL_RECLAIM (R473): live records of a sector are copied forward and its erase starts. -/
def execJournalReclaim (sector : Nat) (s : State) : Host.Outcome State Fault Refusal :=
  .next
    (if s.nv.op.isSome || s.flashStopped || decide (64 ≤ sector ∨ sector = s.nv.journalAt.1 ∨ sector = s.nv.smallAt.1) ||
        s.sectorFree sector then s
     else match s.nvReclaim sector with
       | none => s
       | some t => ({ t with nv := { t.nv with op := some (.erase sector) } }).put Obj.StoreState 2)

/-- MEASURED_MAXIMUM_RESET (R472): a write of 0 restarts a measurement. -/
def execMeasuredMaximumReset (key : Nat) (s : State) : Host.Outcome State Fault Refusal :=
  .next
    (match Dict.row key with
     | some r => if measuredMax r then (s.put key 0).done else s.reply 0x0101
     | none => s.reply 0x0101)

end Sys2Proof.Machine
end

