-- ==== Sys2Proof/Machine/Resets.lean ====
section
/-! DEFINITION. Resets (R9, R42, R432, R456–R458): what a reset of the parts keeps, the block reset, and `NERR` (R434). -/

namespace Sys2Proof.Machine

/-- R434, R438: `NERR` goes high when nothing holds it low: the device is past the start of the fault collector, every
sticky bit of a kind that reacted with N is clear, the pulse has passed and the fatal record was cleared. -/
def State.nerrUpdate (s : State) : State :=
  let f := s.faults
  let clear := f.nKinds.all fun k => s.nat (Obj.FaultSticky k) == 0 && !(Dict.wideKind k && s.nat (Obj.FaultStickyHigh k) != 0)
  if f.running && clear && !f.pulse && !f.fatalHold && !s.power.inReset && !s.power.recovery then
    { s.put Obj.NerrState 0 with faults := { f with nKinds := [] } }
  else s

/-- NERR_MIN_PULSE_EXPIRY (R434): `NerrMinPulse` (ms) has passed since the latest raise with N. -/
def execNerrMinPulseExpiry (s : State) : Host.Outcome State Fault Refusal :=
  .next
    (if s.faults.pulseAt + s.natInUse Obj.NerrMinPulse * 1000000 ≤ s.now then
      ({ s with faults := { s.faults with pulse := false } }).nerrUpdate
    else s)

/-- What the always-on supervisor and the flash keep of the registers over a reset of the parts (R438, R456, R459, R468).
(DESIGN CHOICE, unsafe: log entry 122.) -/
def keptKey (k : Nat) : Bool :=
  k ∈ [Obj.ResetEpoch, Obj.LastResetCause, Obj.ResetStatus, Obj.NrstState, Obj.SensorBroken, Obj.FaultLogHead,
       Obj.FaultLogCount, Obj.SafetyParamCrc, Obj.BankState 0, Obj.BankState 1, Obj.BankVersion 0, Obj.BankVersion 1,
       Obj.MinSecurityVersion, Obj.StoreUsed, Obj.StoreLastSize, Obj.StoreSequence, Obj.SupplyVoltage 0, Obj.SupplyVoltage 1,
       Obj.SupplyVoltage 2, Obj.SupplyVoltage 3]

/-- What the flash keeps of the memory: the fault log, the safety set and the banks.
(DESIGN CHOICE, unsafe: log entry 122.) -/
def keptCell (a : Nat) : Bool := cellKey a ∈ [Obj.FaultLog, Obj.SafetyParamSet, bankKey 0, bankKey 1]

/-- R445, R462, R471: a flash operation in progress is aborted: a record in progress keeps no commit flag, an erase is to be
done again, and what waits is lost. -/
def State.flashAbort (s : State) : State :=
  let dirty := match s.nv.op with | some (.erase n) => n :: s.nv.dirty.filter (fun x => x != n) | _ => s.nv.dirty
  { s with nv := { s.nv with op := none, queue := [], pages := 0, bankPages := 0, saveDue := false, retried := false,
                             dirty := dirty } }

/-- R456: the motion die, the DRAM and the field-and-safety die go into reset: everything but the always-on supervisor and
the flash returns to its reset value, and every ledger is zero.
(DESIGN CHOICE, unsafe: log entry 8; DESIGN CHOICE, unsafe: log entry 121.) -/
def State.partsReset (s : State) : State :=
  let s := s.flashAbort
  { State.reset with
    regs := s.regs.filter fun p => keptKey p.1
    mem := s.mem.filter fun c => keptCell c.1
    pending := s.pending
    resp := s.resp
    sent := s.sent
    free := s.free
    faults := { fatal := s.faults.fatal, copied := s.faults.copied, fatalHold := s.faults.fatalHold }
    thermal := { s.thermal with history := [], seven := [], limited := [] }
    power := { s.power with inReset := true, booting := false, recovery := false }
    nv := s.nv }

/-- R456, R457: a reset with a cause. A reset that is in progress is not restarted; a watchdog during a trial makes the next
boot fall back (R481).
(DESIGN CHOICE, unsafe: log entry 8.) -/
def State.chipReset (s : State) (cause : Nat) : State :=
  if s.power.inReset then s
  else
    let s := { s with nv := { s.nv with fallback := s.nv.fallback || (cause == 6 && s.selTrial) } }
    let s := s.partsReset.put Obj.LastResetCause cause
    if cause = 1 then s.put Obj.ResetEpoch 0 else s.bumpEpoch

/-- CHIP_RESET (R432): reaction C after the S frame and the fatal record. -/
def execChipReset (s : State) : Host.Outcome State Fault Refusal :=
  .next
    (match s.faults.chipReset with
     | some c => s.chipReset c
     | none => s)

/-! ### Block reset (R432, K) -/

/-- Whether a block reset returns a register to its default: those the configuration does not set.
(DESIGN CHOICE, unsafe: log entry 122.) -/
def blockKey (k : Nat) : Bool :=
  match Dict.row k with
  | some r => (match r.range with | .sticky _ => true | _ => !(r.acc == .rw || r.acc == .rws || r.acc == .sl))
  | none => false

/-- The registers of a range of indexes return to their reset values, but for the committed configuration. -/
def State.resetIndexes (s : State) (lo hi : Nat) : State :=
  { s with regs := s.regs.filter fun p => !(decide (lo ≤ p.1 / 256 ∧ p.1 / 256 < hi) && blockKey p.1) }

/-- The registers of a Jorzer port (R374, table of port objects). -/
def State.resetPort (s : State) (p : Nat) : State :=
  let s := s.linkDown p 0
  let s := if p = 0 then { s with jz := { s.jz with port0 := {} } } else { s with jz := { s.jz with port1 := {} } }
  let s := s.resetIndexes (0x2302 + p) (0x2303 + p)
  s.each [2, 3, 4] fun s cls =>
    let c := creditClass p cls
    s.putAll ([Obj.CrGranted c, Obj.CrUsed c, Obj.CrHeld c, Obj.CrConsumed c, Obj.CrOccupancy c, Obj.CrLate c, Obj.CrCorrupt c].map fun k => (k, 0))

/-- R432: the block of an instance returns to its reset state and takes up its committed configuration again. -/
def State.blockReset (s : State) (k i : Nat) : State :=
  if k = fkEmulation then ({ s with emus := Sparse.put (fun _ => {}) s.emus i {} }).resetIndexes (0x4280 + 16 * i) (0x4290 + 16 * i)
  else if k = fkJorzer then s.resetPort i
  else if k = fkBusOff then
    ((s.setCan i {}).resetIndexes (0x2400 + 128 * i) (0x2480 + 128 * i)).canModeWritten i
  else if k = fkDramCapture ∧ i = 0 then ({ s with acq := {} }).resetIndexes 0x2900 0x2A00
  else s

/-- BLOCK_RESET (R9, R42, R432): `ResetEpoch` increments, the cause reads 5, and only that block's ledger terms go to zero. In the
new epoch session numbers begin anew (R67) and no snapshot has completed (R52).
(DESIGN CHOICE, unsafe: log entry 148.) -/
def execBlockReset (source : Nat) (s : State) : Host.Outcome State Fault Refusal :=
  .next
    (if s.faults.blockResets.contains source then
      let s := { s with faults := { s.faults with blockResets := s.faults.blockResets.filter fun x => x != source } }
      let s := s.blockReset (source / 256) (source % 256)
      let s := { s with lastSession := 0, snap := { s.snap with last := none } }
      ((s.bumpEpoch).put Obj.LastResetCause 5).put Obj.LastBlockReset source
    else s)

end Sys2Proof.Machine
end

