-- ==== Sys2Proof/Machine/Faults.lean ====
section
/-! DEFINITION. Requests to the fault collector (R431, R435, R438), the fault log (R437), reaction T and forced raises. -/

namespace Sys2Proof.Machine

/-! ### Reactions (R431) -/

/-- R431: the status of a write of `FaultReaction`. -/
def reactionStatus (k v : Nat) : Nat :=
  if k = fkSafetyFault then 0x0204
  else if fixedKind k then 0x0201
  else if 128 ≤ v then 0x0301
  else if v.testBit 5 ∧ acceptsK k = false then 0x0301
  else if v &&& fixedBits k ≠ fixedBits k then 0x0301
  else 0

/-- FAULT_REACTION_WRITE (R431): a new reaction applies from the next raise. -/
def execFaultReactionWrite (k v : Nat) (s : State) : Host.Outcome State Fault Refusal :=
  .next
    (if k = 0 ∨ 0x33 < k then s.reply 0x0101
     else if reactionStatus k v ≠ 0 then s.reply (reactionStatus k v)
     else (s.put (Obj.FaultReaction k) v).done)

/-! ### Force bits (R435) -/

/-- The bits of a 64-bit mask, in rising order. -/
def maskBits (v : Nat) : List Nat := (List.range 64).filter fun i => v.testBit i

/-- R435: the status of a write of `FaultForce`. -/
def State.forceStatus (s : State) (k : Nat) (l : List Nat) : Nat :=
  if 0x26 ≤ k ∧ k ≤ 0x28 then 0x0204
  else if l.any fun i => !instanceExists k i then 0x0301
  else if faultClass k = 3 ∧ s.get Obj.DeviceState ≠ devSafe then 0x0701
  else 0

/-- R35, R435: one instance is forced: a core overruns in the next tick, or the source is raised for one tick.
(DESIGN CHOICE, unsafe: log entry 131.) -/
def State.forceOne (s : State) (k i : Nat) : State :=
  if s.faultActive k i then s
  else if k = fkRowOverrun then { s with row := { s.row with forced := setBitN s.row.forced i } }
  else
    let s := s.raiseWith k i 0 true true
    { s with faults := { s.faults with forced := (k * 256 + i) :: s.faults.forced } }

/-- FAULT_FORCE (R435): a write of 1 raises an instance for one tick.
(DESIGN CHOICE, unsafe: log entry 119.) -/
def execFaultForce (k : Nat) (high : Bool) (v : Nat) (s : State) : Host.Outcome State Fault Refusal :=
  let l := (maskBits v).map fun i => if high then i + 64 else i
  .next
    (if k = 0 ∨ 0x33 < k then s.reply 0x0101
     else if high && !Dict.wideKind k then s.reply 0x0102
     else if s.forceStatus k l ≠ 0 then s.reply (s.forceStatus k l)
     else (s.each l fun s i => s.forceOne k i).done)

/-- R435: the forced raises end with the tick.
(DESIGN CHOICE, unsafe: log entry 131.) -/
def State.forcedEnd (s : State) : State :=
  let l := s.faults.forced
  let s := { s with faults := { s.faults with forced := [] } }
  s.each l fun s x => s.setActive (x / 256) (x % 256) false

/-- R432: reaction T: outstanding host tags complete with outcome unknown. -/
def State.trapRun (s : State) : State :=
  if s.faults.trap then
    let s := { s with faults := { s.faults with trap := false } }
    (s.host.reqs.filter fun r => r.path == 0).foldl (fun s r => s.complete r (s.nat Obj.JzPosition) ⟨0x0601, [], true⟩) s
  else s

/-! ### The log (R437, R438) -/

/-- R437, R469: one entry goes into the flash ring; entering a sector erases its oldest entries first.
(DESIGN CHOICE, unsafe: log entry 116.) -/
def State.logWrite (s : State) (e : LogEntry) : State :=
  let h := s.nat Obj.FaultLogHead
  let s :=
    if h % 2048 = 0 then
      let n := s.nat Obj.FaultLogCount
      let lo := domAddr Obj.FaultLog (h * 32)
      let s := if 129024 < n then s.put Obj.FaultLogCount 129024 else s
      { s with mem := s.mem.filter fun c => !(decide (lo ≤ c.1 ∧ c.1 < lo + 65536)) }
    else s
  let s := s.store Obj.FaultLog (h * 32) e.bytes
  let s := s.put Obj.FaultLogHead ((h + 1) % 131072 : Nat)
  s.put Obj.FaultLogCount (min 131072 (s.nat Obj.FaultLogCount + 1) : Nat)

/-- FAULT_LOG_COPY (R437, R442, R444): the queue goes into the log. Nothing is copied after a thermal shutdown or while throttling
holds the copy. -/
def execFaultLogCopy (s : State) : Host.Outcome State Fault Refusal :=
  .next
    (if s.flashStopped || s.workHeld then s
     else
       let l := s.faults.queue
       let s := { s with faults := { s.faults with
                                       queue := [], recent := s.faults.recent.filter fun p => decide (s.now - p.2.time < 10000000) } }
       l.foldl (fun s e =>
         let h := s.nat Obj.FaultLogHead
         ({ s with faults := { s.faults with recent := (h, e) :: s.faults.recent } }).logWrite e) s)

/-- CLEAR_FATAL_RECORD (R434, R438): `FaultCommand` 1. -/
def execClearFatalRecord (s : State) : Host.Outcome State Fault Refusal :=
  .next ({ s with faults := { s.faults with fatal := [], copied := 0, fatalHold := false } }).nerrUpdate.done

/-- ERASE_LOG (R438): `FaultCommand` 2, refused outside state Safe.
(DESIGN CHOICE, unsafe: log entry 116.) -/
def execEraseLog (s : State) : Host.Outcome State Fault Refusal :=
  .next
    (if s.get Obj.DeviceState ≠ devSafe then s.reply 0x0701
     else
       let s := { s with mem := s.mem.filter fun c => cellKey c.1 != Obj.FaultLog, faults := { s.faults with recent := [] } }
       ((s.put Obj.FaultLogHead 0).put Obj.FaultLogCount 0).done)

/-- R438: the bytes of `FatalRecord`. -/
def State.fatalBytes (s : State) : List Byte :=
  let l := (s.faults.fatal.map LogEntry.bytes).flatten
  l ++ List.replicate (256 - l.length) 0

/-- R438: at boot the entries of the fatal record that the log does not hold go into it, with flag bit 2 set. -/
def State.fatalToLog (s : State) : State :=
  let l := s.faults.fatal.drop s.faults.copied
  let s := { s with faults := { s.faults with copied := s.faults.fatal.length } }
  (l.map fun e => { e with flags := setBitN e.flags 2 }).foldl State.logWrite s

/-! ### Watchdog (R430, R432) -/

/-- SUPERVISOR_WATCHDOG (R432): kind 0x31 is raised and the chip resets with cause 6. -/
def execSupervisorWatchdog (core : Nat) (s : State) : Host.Outcome State Fault Refusal :=
  .next (if s.power.inReset then s else (s.raise fkWatchdog core).chipReset 6)

end Sys2Proof.Machine
end

