-- ==== Sys2Proof/Machine/Thermal.lean ====
section
/-! DEFINITION. The thermal manager (R439–R445) and the device states that a shutdown changes (R460, R461). -/

namespace Sys2Proof.Machine

/-! ### Halt and Safe (R461) -/

/-- R461: entry into Halt: every bind-off group with a local member is requested. -/
def State.enterHalt (s : State) : State :=
  (s.put Obj.DeviceState devHalt).each ((List.range 16).filter fun b => s.nat (Obj.BindOffMembers b) != 0) State.askBindOff

/-! ### Sensors and zones (R439, R440) -/

/-- `ThermalThrottleThreshold` in 0.1 °C, and the other two. -/
def State.throttleAt (s : State) : Int := 10 * s.get Obj.ThermalThrottleThreshold
def State.criticalAt (s : State) : Int := 10 * s.get Obj.ThermalCriticalThreshold
def State.shutdownAt (s : State) : Int := 10 * s.get Obj.ThermalShutdownThreshold

/-- The reading of a sensor as used. -/
def State.sensor (s : State) (i : Nat) : Int := s.get (Obj.SensorTemperature i)

/-- The temperature of a zone. -/
def State.zone (s : State) (z : Nat) : Int := s.get (Obj.ZoneTemperature z)

/-- R440: a sensor is measured: outside −55 to +175 °C or more than 10 °C from the previous reading it is broken; a broken
sensor is valid again after 1,000 plausible readings, and reads as the throttle threshold until then. -/
def State.sensorRead (s : State) (i : Nat) (freq : Nat) (t : Int) : State :=
  let r := s.thermal
  let far := match r.prev.lookup i with | some p => decide (100 < (t - p).natAbs) | none => false
  let plausible := decide (-550 ≤ t ∧ t ≤ 1750) && !far
  let was := s.bit Obj.SensorBroken i
  let run := if plausible then (r.good.lookup i).getD 0 + 1 else 0
  let broken := if was then !plausible || decide (run < 1000) else !plausible
  let s := { s with thermal := { r with prev := Sparse.insert i t r.prev, good := Sparse.insert i (if was then run else 0) r.good } }
  let s := s.putBit Obj.SensorBroken i broken
  let s := (s.put (Obj.SensorFrequency i) freq).put (Obj.SensorTemperature i) (if broken then s.throttleAt else t)
  if s.power.inReset then s
  else if broken && !was then (s.setBit Obj.ThermalStatus 3).raiseWith fkSensor i t false true
  else if was && !broken then s.setActive fkSensor i false else s

/-- R440: the temperature of a zone, the larger of its two readings, or the shutdown threshold with both broken. -/
def State.zoneRead (s : State) (z : Nat) : State :=
  let a := s.bit Obj.SensorBroken (2 * z)
  let b := s.bit Obj.SensorBroken (2 * z + 1)
  let t := if a && b then s.shutdownAt else max (s.sensor (2 * z)) (s.sensor (2 * z + 1))
  let apart := !a && !b && decide (100 < (s.sensor (2 * z) - s.sensor (2 * z + 1)).natAbs)
  let run := if apart then (s.thermal.disagree.lookup z).getD 0 + 1 else 0
  let s := { s with thermal := { s.thermal with disagree := Sparse.insert z run s.thermal.disagree } }
  let s := s.put (Obj.ZoneTemperature z) t
  (s.setBitIf (a && b) Obj.ThermalStatus 4).setBitIf (decide (1000 ≤ run)) Obj.ThermalStatus 5

/-- The hottest zone: the lowest numbered of those with the highest temperature.
(DESIGN CHOICE, unsafe: log entry 120.) -/
def State.hottest (s : State) : Nat := (List.range 7).foldl (fun m z => if s.zone m < s.zone z then z else m) 0

/-! ### Throttling (R441) -/

/-- R441: a zone near the threshold rises faster than the limit, over the last second.
(DESIGN CHOICE, unsafe: log entry 120.) -/
def State.rateHigh (s : State) : Bool :=
  s.inUse Obj.ThermalRateLimit != 0 &&
    match s.thermal.history[1000]? with
    | none => false
    | some old => (List.range 7).any fun z =>
        decide (s.throttleAt - 150 < s.zone z ∧ s.inUse Obj.ThermalRateLimit < s.zone z - old.getD z 0)

/-- THROTTLE_UP (R441): every 10 ms. -/
def execThrottleUp (s : State) : Host.Outcome State Fault Refusal :=
  let l := s.get Obj.ThrottleLevel
  .next
    (if (decide (s.throttleAt < s.zone s.hottest) || s.rateHigh) = true ∧ l < 7 then
      let s := (s.put Obj.ThrottleLevel (l + 1)).setBit Obj.ThermalStatus 0
      if l = 0 then s.raiseWith fkThrottle s.hottest (s.zone s.hottest) false true else s
    else s)

/-- THROTTLE_DOWN (R441): every 100 ms. -/
def execThrottleDown (s : State) : Host.Outcome State Fault Refusal :=
  let l := s.get Obj.ThrottleLevel
  let limit := s.throttleAt - 10 * s.inUse Obj.ThermalHysteresis
  .next
    (if 0 < l ∧ (List.range 7).all (fun z => decide (s.zone z < limit)) = true ∧ s.rateHigh = false then
      let s := s.put Obj.ThrottleLevel (l - 1)
      if l = 1 then s.each (List.range 7) fun s z => s.setActive fkThrottle z false else s
    else s)

/-! ### Escalation (R443–R445) -/

/-- R443: "thermal limit" of a zone, at most once until the zone has cooled.
(DESIGN CHOICE, unsafe: log entry 120.) -/
def State.thermalLimit (s : State) (z : Nat) : State :=
  if s.thermal.limited.contains z then s
  else
    let s := { s with thermal := { s.thermal with limited := z :: s.thermal.limited } }
    (s.setBit Obj.ThermalStatus 1).raiseWith fkThermal z (s.zone z) false (decide (s.criticalAt ≤ s.zone z))

/-- THERMAL_ESCALATION (R443): level 7 has lasted `ThermalEscalateTime`; 0 is no timeout. -/
def execThermalEscalation (s : State) : Host.Outcome State Fault Refusal :=
  let t := s.natInUse Obj.ThermalEscalateTime
  let z := s.hottest
  .next (if t ≠ 0 ∧ s.get Obj.ThrottleLevel = 7 ∧ t * 1000 ≤ (s.thermal.seven.lookup z).getD 0 then s.thermalLimit z else s)

/-- R443: the runs and marks of the zones after a measurement. -/
def State.zoneRuns (s : State) : State :=
  let seven := (List.range 7).map fun z =>
    (z, if s.get Obj.ThrottleLevel = 7 ∧ s.throttleAt < s.zone z then (s.thermal.seven.lookup z).getD 0 + 1 else 0)
  let limited := s.thermal.limited.filter fun z => decide (s.throttleAt ≤ s.zone z)
  let history := ((List.range 7).map s.zone :: s.thermal.history).take 1001
  { s with thermal := { s.thermal with seven := seven, limited := limited, history := history } }

/-- R443: critical zones.
(DESIGN CHOICE, unsafe: log entry 120.) -/
def State.criticalCheck (s : State) : State :=
  let s := s.each (List.range 7) fun s z => if s.zone z < s.criticalAt then s.setActive fkThermal z false else s
  if s.criticalAt ≤ s.zone s.hottest then s.thermalLimit s.hottest else s

/-- R444: a zone at the shutdown threshold: kind 0x2B, Halt, and no new flash operation. -/
def State.shutdownCheck (s : State) : State :=
  s.each (List.range 7) fun s z =>
    if s.zone z < s.shutdownAt then s.setActive fkShutdown z false
    else if s.faultActive fkShutdown z then s
    else
      let s := (s.setBit Obj.ThermalStatus 2).raiseWith fkShutdown z (s.zone z) false true
      let s := s.flashShutdown
      if s.get Obj.DeviceState = devRun then s.enterHalt else s

/-- R445: 5 °C above the shutdown threshold the parts are held in reset; a hold decides the cause of a reset (R458). -/
def State.thermalHold (s : State) : State :=
  if s.shutdownAt + 50 ≤ s.zone s.hottest then
    let limit := s.shutdownAt
    let program := match s.nv.op with | some .record => true | some .bank => true | _ => false
    let s := { s with power := { s.power with held := true, aborted := s.power.aborted || program } }
    let s := (s.chipReset 4).put Obj.LastResetCause 4
    { s with thermal := { s.thermal with hold := some limit, coolRun := 0 } }
  else s

/-- R445: while the parts are held, the run of measurements in which every valid sensor is cool. -/
def State.coolRun (s : State) (readings : List (Nat × Int)) : State :=
  match s.thermal.hold with
  | none => s
  | some limit =>
    let cool := (List.range readings.length).all fun i =>
      s.bit Obj.SensorBroken i || decide ((readings.getD i (0, 0)).2 < limit - 150)
    { s with thermal := { s.thermal with coolRun := if cool then s.thermal.coolRun + 1 else 0 } }

/-- TEMPERATURE_MEASUREMENT (R439, R440, R443–R445): every sensor is measured. -/
def execTemperatureMeasurement (readings : List (Nat × Int)) (s : State) : Host.Outcome State Fault Refusal :=
  let s := s.each ((List.range readings.length).filter fun i => decide (i < 14)) fun s i =>
    s.sensorRead i (readings.getD i (0, 0)).1 (readings.getD i (0, 0)).2
  .next
    (if s.power.inReset then s.coolRun readings
    else
      let s := s.each (List.range 7) State.zoneRead
      let s := (s.put Obj.HottestZone s.hottest).put Obj.FieldDieTemperature (s.zone 6)
      s.zoneRuns.criticalCheck.shutdownCheck.thermalHold)

/-- THERMAL_HOLD_RELEASE (R445): every valid sensor has been cool for 1 s. -/
def execThermalHoldRelease (s : State) : Host.Outcome State Fault Refusal :=
  .next
    (if s.thermal.hold.isSome ∧ 1000 ≤ s.thermal.coolRun then { s with thermal := { s.thermal with hold := none, coolRun := 0 } }
     else s)

end Sys2Proof.Machine
end

