-- ==== Sys2Proof/Machine/Power.lean ====
section
/-! DEFINITION. Supplies, clocks and the reset pin (R450–R459), and the device states (R460–R462, R467). -/

namespace Sys2Proof.Machine

/-! ### Supplies and clocks (R450–R455) -/

/-- R450: the power-good window of a supply in mV. -/
def supplyWindow (i : Nat) : Nat × Nat :=
  if i = 0 then (776, 824) else if i = 1 then (1067, 1133) else if i = 2 then (1710, 1890) else (3135, 3465)

/-- A voltage within its window. -/
def supplyOk (i mv : Nat) : Bool := decide ((supplyWindow i).1 ≤ mv ∧ mv ≤ (supplyWindow i).2)

/-- R452, R455: a power-on reset: `ResetStatus` keeps only the bit of its own cause. -/
def State.powerReset (s : State) (status : Nat) : State :=
  if s.power.inReset then s.put Obj.ResetStatus (s.nat Obj.ResetStatus ||| status : Nat)
  else (s.chipReset 1).put Obj.ResetStatus status

/-- R452: `VIO18` below 1.50 V: the always-on supervisor itself resets: the fatal record, `NrstState` and `ResetStatus` are
lost. -/
def State.supervisorReset (s : State) : State :=
  let s := (({ s with power := { s.power with inReset := false } }).chipReset 1).put Obj.ResetStatus 0
  let s := (s.put Obj.NrstState 0).put Obj.SensorBroken 0
  { s with faults := {}, thermal := {}, power := {} }

/-- SUPPLY_FAULT (R452): a supply has left its window for its time. -/
def execSupplyFault (supply mv : Nat) (s : State) : Host.Outcome State Fault Refusal :=
  .next
    (if supplyOk supply mv ∨ 3 < supply then s
     else if supply = 2 ∧ mv < 1500 then s.supervisorReset
     else
       let s := s.powerReset 4
       ({ s with power := { s.power with good := false } }).put (Obj.SupplyVoltage supply) (mv * 65536 / 1000 : Nat))

/-- CLOCK_FAULT (R455): the crystal or a PLL fails. -/
def execClockFault (s : State) : Host.Outcome State Fault Refusal := .next (s.powerReset 8)

/-- POWER_GOOD (R451): every supply has stayed within its window for 10 ms. -/
def execPowerGood (voltages : List Nat) (s : State) : Host.Outcome State Fault Refusal :=
  .next
    (if (List.range 4).all fun i => supplyOk i (voltages.getD i 0) then
      (({ s with power := { s.power with good := true } }) : State).each (List.range 4) fun s i =>
        s.put (Obj.SupplyVoltage i) (voltages.getD i 0 * 65536 / 1000 : Nat)
    else s)

/-! ### The reset pin (R457, R459) -/

/-- NRST_QUALIFIED (R457): the pin has been low for 20 µs; an ignored pin does nothing. -/
def execNrstQualified (s : State) : Host.Outcome State Fault Refusal :=
  .next
    (if s.get Obj.NrstState = 2 then s
     else
       let s := { s with power := { s.power with nrstLow := true } }
       (s.chipReset 2).put Obj.NrstState 1)

/-- NRST_RELEASE (R457): the pin rises. -/
def execNrstRelease (s : State) : Host.Outcome State Fault Refusal :=
  let s := { s with power := { s.power with nrstLow := false } }
  .next (if s.get Obj.NrstState = 1 then s.put Obj.NrstState 0 else s)

/-- NRST_FAILED_CLOSED (R459): 8 s after qualification the pin is declared failed closed and is ignored. -/
def execNrstFailedClosed (s : State) : Host.Outcome State Fault Refusal :=
  .next
    (if s.get Obj.NrstState = 1 then
      let s := { s with power := { s.power with failedStart := true } }
      (s.put Obj.NrstState 2).setBit Obj.ResetStatus 0
    else s)

/-- NRST_IGNORE_END (R459): the pin has stayed high for 100 ms. -/
def execNrstIgnoreEnd (s : State) : Host.Outcome State Fault Refusal :=
  .next
    (if s.get Obj.NrstState = 2 then
      ({ s with power := { s.power with nrstLow := false } }).put Obj.NrstState 0
    else s)

/-! ### Device states (R460, R461) -/

/-- R461: entry into Safe: every enable is withdrawn. -/
def State.enterSafe (s : State) : State := (s.put Obj.DeviceState devSafe).safetyStateEdge.safetyGroups

/-- R460: entry into Ready. -/
def State.enterReady (s : State) : State :=
  let s := { s with power := { s.power with failedStart := false } }
  (s.put Obj.DeviceState devReady).safetyStateEdge.safetyGroups

/-- R460, R461: Safe may become Ready. -/
def State.readyOk (s : State) : Bool :=
  s.get Obj.DeviceState == devSafe && s.get Obj.SafetyConfigSource != 0 && !s.bit Obj.SafetyStatus 4 && s.get Obj.SafetyState == 1

/-- DEVICE_READY (R460, R461, R467): `DeviceCommand` 1. -/
def execDeviceReady (s : State) : Host.Outcome State Fault Refusal :=
  .next (if s.readyOk then s.enterReady.done else s.reply 0x0701)

/-- DEVICE_RUN (R460, R462): `DeviceCommand` 2, from Halt only with no "thermal shutdown" present. -/
def execDeviceRun (s : State) : Host.Outcome State Fault Refusal :=
  .next
    (if s.get Obj.DeviceState = devReady ∨ (s.get Obj.DeviceState = devHalt ∧ s.flashStopped = false) then
      (s.put Obj.DeviceState devRun).done
    else s.reply 0x0701)

/-- DEVICE_HALT (R460, R461): `DeviceCommand` 3. -/
def execDeviceHalt (s : State) : Host.Outcome State Fault Refusal :=
  .next (if s.get Obj.DeviceState = devRun then s.enterHalt.done else s.reply 0x0701)

/-- DEVICE_SAFE (R460, R461): `DeviceCommand` 4, with every axis Disabled. -/
def execDeviceSafe (s : State) : Host.Outcome State Fault Refusal :=
  .next
    (if s.get Obj.DeviceState = devBoot ∨ s.get Obj.DeviceState = devSafe then s.reply 0x0701
     else if allAxes.any fun a => s.get (Obj.AxisState a) != axDisabled then s.reply 0x0703
     else s.enterSafe.done)

/-- DEVICE_RESET (R460): `DeviceCommand` 5, accepted in every state; the reset follows as the command completes. -/
def execDeviceReset (s : State) : Host.Outcome State Fault Refusal := .next (s.done.chipReset 3)

end Sys2Proof.Machine
end

