-- ==== Sys2Proof/Machine/Update.lean ====
section
/-! DEFINITION. Firmware update (R475–R483): packages, their checks, update states, activation, confirmation and revert. -/

namespace Sys2Proof.Machine

/-! ### Package checks (R475, R476) -/

/-- R475: the cause for which a header is refused, 0 for none; `u` reads a field.
(DESIGN CHOICE, unsafe: log entry 127.) -/
def State.headerCause (s : State) (l : List Byte) : Nat :=
  let u := fun o n => leNat ((l.drop o).take n)
  if u 0 4 ≠ 0x4B524E31 ∨ u 4 2 ≠ 1 ∨ u 6 2 ≠ 0 then 1
  else if u 8 4 ≠ s.nat Obj.ProductCode then 2
  else if s.nat Obj.RevisionNumber < u 12 4 then 3
  else if 12582912 < u 16 4 ∨ u 16 4 < 256 + u 24 4 ∨ u 20 4 ≠ 256 ∨ u 24 4 < 80 ∨ (u 24 4 - 80) % 48 ≠ 0 then 4
  else if 3 < u 28 1 then 5
  else if u 29 1 ≠ 0 ∨ u 30 2 = 0 then 1
  else if u 32 4 < s.nat Obj.MinSecurityVersion then 6
  else if ((l.drop 40).take 216).any fun b => b != 0 then 1
  else 0

/-- R476: the parts of a manifest: kind, offset, length. -/
def State.parts (s : State) : List (Nat × Nat × Nat) :=
  (List.range (s.pkg 256 1)).map fun i => (s.pkg (272 + 48 * i) 1, s.pkg (276 + 48 * i) 4, s.pkg (280 + 48 * i) 4)

/-- Two parts do not overlap. -/
def apart (a b : Nat × Nat × Nat) : Bool := decide (a.2.1 + a.2.2 ≤ b.2.1 ∨ b.2.1 + b.2.2 ≤ a.2.1)

/-- R476: the cause for which a complete manifest is refused. -/
def State.manifestCause (s : State) : Nat :=
  let n := s.pkg 24 4
  let p := s.parts
  if n ≠ 16 + 48 * s.pkg 256 1 + 64 then 4
  else if !Config.signatureValid (s.bytes (bankKey s.inactiveBank) 0 (256 + n)) then 7
  else if !([1, 2, 3, 4].all fun k => (p.filter fun x => x.1 == k).length == 1) then 9
  else if p.any fun x => decide (s.pkg 16 4 < x.2.1 + x.2.2) then 9
  else if !decide (p.Pairwise fun a b => apart a b = true) then 9
  else 0

/-- R476: the digest of a part whose last byte came with this write. -/
def State.digestsOk (s : State) (old new : Nat) : Bool :=
  let b := bankKey s.inactiveBank
  (List.range (s.pkg 256 1)).all fun i =>
    let x := s.parts.getD i (0, 0, 0)
    let last := x.2.1 + x.2.2
    !decide (old < last ∧ last ≤ new) || Config.digest (s.bytes b x.2.1 x.2.2) == s.bytes b (288 + 48 * i) 32

/-- R475–R477: the checks of a write that brought the package from `old` to `new` bytes.
(DESIGN CHOICE, unsafe: log entry 127.) -/
def State.updateChecks (s : State) (old new : Nat) : State :=
  let m := 256 + s.pkg 24 4
  let hc := if old < 256 then s.headerCause (s.bytes (bankKey s.inactiveBank) 0 256) else 0
  if hc ≠ 0 then s.updateReject hc
  else
    let mc := if old < m ∧ m ≤ new then s.manifestCause else 0
    if mc ≠ 0 then s.updateReject mc
    else if m ≤ new ∧ s.digestsOk (if old < m then 0 else old) new = false then s.updateReject 8
    else s.updateVerified

/-- R477: the offset and length rules of a write of `UpdateData`; the first write brings the header. -/
def State.updateFits (s : State) (offset : Nat) (data : List Byte) : Bool :=
  let u := fun o n => leNat ((data.drop o).take n)
  let total := if offset = 0 then u 16 4 else s.pkg 16 4
  let good := offset != 0 || s.headerCause data == 0
  offset == s.nat Obj.UpdateReceived && !data.isEmpty && (offset != 0 || decide (256 ≤ data.length)) &&
    (!good || decide (offset + data.length ≤ total)) &&
    (decide (data.length % 256 = 0) || (good && decide (offset + data.length = total)))

/-- UPDATE_DATA (R475–R477): package bytes are added and checked. -/
def execUpdateData (offset : Nat) (data : List Byte) (s : State) : Host.Outcome State Fault Refusal :=
  .next
    (if s.get Obj.UpdateState ≠ 2 then s.reply 0x0701
     else if !s.updateFits offset data then s.reply 0x0301
     else
       let new := offset + data.length
       let s := (s.store (bankKey s.inactiveBank) offset data).put Obj.UpdateReceived new
       let s := { s with nv := { s.nv with bankPages := s.nv.bankPages + (data.length + 255) / 256 } }
       ((s.updateChecks offset new).flashStart).done)

/-! ### Update states (R478–R481) -/

/-- UPDATE_BEGIN (R478, R483): `UpdateCommand` 1: the inactive bank becomes invalid and is erased; refused while a trial stands,
whose other bank is the fallback. -/
def execUpdateBegin (s : State) : Host.Outcome State Fault Refusal :=
  let u := s.get Obj.UpdateState
  .next
    (if (u = 0 ∨ u = 5) ∧ (s.selTrial = false ∨ s.power.recovery = true) then
      let b := s.inactiveBank
      let s := (s.put (Obj.BankState b) 0).put Obj.UpdateState 1
      let s := { s with nv := { s.nv with packages := s.nv.packages.set b 0 } }
      ((s.put Obj.UpdateReceived 0).put Obj.UpdateRejectCause 0).done
    else s.reply 0x0701)

/-- BANK_ERASED (R478, R444): the inactive bank is erased. -/
def execBankErased (s : State) : Host.Outcome State Fault Refusal :=
  let b := bankKey s.inactiveBank
  .next
    (if s.get Obj.UpdateState = 1 ∧ s.flashStopped = false then
      ({ s with mem := s.mem.filter fun c => cellKey c.1 != b }).put Obj.UpdateState 2
    else s)

/-- UPDATE_ABORT (R478): `UpdateCommand` 5 in states 1 to 3. -/
def execUpdateAbort (s : State) : Host.Outcome State Fault Refusal :=
  let u := s.get Obj.UpdateState
  .next
    (if 1 ≤ u ∧ u ≤ 3 then
      let b := s.inactiveBank
      let s := { s with nv := { s.nv with bankPages := 0, packages := s.nv.packages.set b 0 } }
      ((s.put (Obj.BankState b) 0).put Obj.UpdateState 0).done
    else s.reply 0x0701)

/-- UPDATE_ACTIVATE (R479, R480, R483): `UpdateCommand` 2: the field die's slot is programmed and read back, the selector is
committed, and the device resets with cause 7. Without the read-back, or in a thermal shutdown, the old bank stays.
(DESIGN CHOICE, unsafe: log entry 128.) -/
def execUpdateActivate (verified : Bool) (s : State) : Host.Outcome State Fault Refusal :=
  .next
    (if s.get Obj.UpdateState ≠ 3 ∨ (s.get Obj.DeviceState ≠ devSafe ∧ s.power.recovery = false) then s.reply 0x0701
     else if s.storeBusy then s.reply 0x0501
     else if !verified || s.flashStopped then s.done
     else
       let b := s.inactiveBank
       let nv := s.nv
       let s := { s with nv := { nv with slots := nv.slots.set (1 - nv.slot) (nv.packages.getD b 0), fallback := false } }
       let s := s.select b true 0 (1 - b)
       s.done.chipReset 7)

/-- UPDATE_CONFIRM (R481): `UpdateCommand` 3 in state 4, in Safe or any later state. -/
def execUpdateConfirm (s : State) : Host.Outcome State Fault Refusal :=
  .next
    (if s.get Obj.UpdateState ≠ 4 ∨ s.get Obj.DeviceState = devBoot then s.reply 0x0701
     else
       let b := s.selBank
       let v := s.uint (bankKey b) 32 4
       let s := s.select b false 0 s.selPrev
       let s := if s.nat Obj.MinSecurityVersion < v then (s.put Obj.MinSecurityVersion v).nvSmall 6 (natLE 4 v) else s
       let s := { s with nv := { s.nv with fallback := false } }
       ((s.put Obj.UpdateState 0).put Obj.UpdateTrialCount 0).done)

/-- UPDATE_REVERT (R478, R481): `UpdateCommand` 4 in state 4: the next boot falls back to the previous bank. -/
def execUpdateRevert (s : State) : Host.Outcome State Fault Refusal :=
  .next
    (if s.get Obj.UpdateState ≠ 4 then s.reply 0x0701
     else (({ s with nv := { s.nv with fallback := true } }).put Obj.UpdateState 0).done)

end Sys2Proof.Machine
end

