-- ==== Sys2Proof/Machine/Snapshot.lean ====
section
/-! DEFINITION. Ledgers and scheduled snapshots (R41, R44, R106–R108). -/

namespace Sys2Proof.Machine

/-! ### The ledgers (R41, R44) -/

/-- A sum of a register over instances.
(DESIGN CHOICE, safe: log entry 50.) -/
def State.sumOf (s : State) (l : List Nat) (f : Nat → Nat) : Int := (l.map fun i => s.get (f i)).sum

/-- The PWM phases, as stage·3 + phase. -/
def phases : List Nat := List.range 48

/-- R41: the values of the summaries (0x2051–0x205E): the sums of their instances' terms.
(DESIGN CHOICE, safe: log entry 50.) -/
def State.ledgers (s : State) : List (Nat × Int) :=
  let r := fun n => List.range n
  let w := fun k v => (k, wrapU 64 v)
  let z := fun k v => (k, wrapS 64 v)
  [Obj.SumTickStarted, Obj.SumTickCompleted, Obj.SumTickOverrun, Obj.SumInputFrameReceived, Obj.SumInputFrameAccepted,
    Obj.SumInputFrameDuplicate, Obj.SumInputFrameLate, Obj.SumInputFrameRejected].map (fun k => (k, s.get k)) ++
  [w Obj.SumSetpointWritten (s.sumOf allAxes Obj.SetpointWritten), w Obj.SumSetpointConsumed (s.sumOf allAxes Obj.SetpointConsumed),
    w Obj.SumSetpointOccupancy (s.sumOf allAxes Obj.SetpointQueueOccupancy),
    w Obj.SumSetpointFlushed (s.sumOf allAxes Obj.SetpointFlushed),
    w Obj.SumCreditGranted (s.sumOf (r 9) Obj.CrGranted), w Obj.SumCreditUsed (s.sumOf (r 9) Obj.CrUsed),
    w Obj.SumCreditHeld (s.sumOf (r 9) Obj.CrHeld), w Obj.SumCreditConsumed (s.sumOf (r 9) Obj.CrConsumed),
    w Obj.SumCreditOccupancy (s.sumOf (r 9) Obj.CrOccupancy), w Obj.SumCreditLate (s.sumOf (r 9) Obj.CrLate),
    w Obj.SumCreditCorrupt (s.sumOf (r 9) Obj.CrCorrupt),
    w Obj.SumHostTagSubmitted (s.get Obj.HostSubmitted), w Obj.SumHostTagCompleted (s.get Obj.HostCompleted),
    w Obj.SumHostTagOutstanding (s.get Obj.HostOutstanding)] ++
  [w Obj.SumEncoderEdges (s.sumOf (r 16) Obj.FbEdges), w Obj.SumEncoderUp (s.sumOf (r 16) Obj.FbUp),
    w Obj.SumEncoderDown (s.sumOf (r 16) Obj.FbDown), w Obj.SumEncoderRejected (s.sumOf (r 16) Obj.FbRejected),
    z Obj.SumEncoderIndexAdjust (s.sumOf (r 16) Obj.FbIndexAdjust), z Obj.SumEncoderPosition (s.sumOf (r 16) Obj.FbCount),
    z Obj.SumEncoderStartPosition (s.sumOf (r 16) Obj.FbStartCount),
    w Obj.SumCompareArmed (s.sumOf (r 8) Obj.CmpArmed), w Obj.SumCompareFired (s.sumOf (r 8) Obj.CmpFired),
    w Obj.SumCompareFiredLate (s.sumOf (r 8) Obj.CmpFiredLate), w Obj.SumCompareMissed (s.sumOf (r 8) Obj.CmpMissed),
    w Obj.SumCompareCancelled (s.sumOf (r 8) Obj.CmpCancelled), w Obj.SumComparePending (s.sumOf (r 8) Obj.CmpOccupancy),
    z Obj.SumEmulationInput (s.sumOf (r 4) Obj.EmuInput), z Obj.SumEmulationEmitted (s.sumOf (r 4) Obj.EmuEmitted),
    z Obj.SumEmulationDelayed (s.sumOf (r 4) Obj.EmuDelayed), z Obj.SumEmulationRemainder (s.sumOf (r 4) Obj.EmuRemainder)] ++
  [w Obj.SumCaptureAcquired (s.get Obj.AcqAcquired), w Obj.SumCaptureStored (s.get Obj.AcqStored),
    w Obj.SumCaptureStreamed (s.get Obj.AcqStreamed), w Obj.SumCaptureOverflowed (s.get Obj.AcqOverflowed),
    w Obj.SumMarkEdges (s.sumOf (r 16) Obj.MarkEdges), w Obj.SumMarkLatched (s.sumOf (r 16) Obj.MarkLatched),
    w Obj.SumMarkFiltered (s.sumOf (r 16) Obj.MarkFiltered), w Obj.SumMarkDropped (s.sumOf (r 16) Obj.MarkDropped),
    w Obj.SumCanMessageQueued (s.sumOf (r 2) Obj.CanQueued), w Obj.SumCanMessageTransmitted (s.sumOf (r 2) Obj.CanTransmitted),
    w Obj.SumCanMessageCancelled (s.sumOf (r 2) Obj.CanCancelled),
    w Obj.SumCanMessagePending (((r 2).map fun c => ((s.can c).reqs.length : Int)).sum),
    w Obj.SumCanMessageReceived (s.sumOf (r 2) Obj.CanReceived), w Obj.SumCanMessageAccepted (s.sumOf (r 2) Obj.CanAccepted),
    w Obj.SumCanMessageFiltered (s.sumOf (r 2) Obj.CanFiltered), w Obj.SumCanMessageOverrun (s.sumOf (r 2) Obj.CanOverrun),
    z Obj.SumMoveCommanded (s.sumOf allAxes Obj.MoveCommanded), z Obj.SumMoveExecuted (s.sumOf allAxes Obj.MoveExecuted),
    z Obj.SumMoveRemaining (s.sumOf allAxes Obj.MoveRemaining), z Obj.SumMoveAbandoned (s.sumOf allAxes Obj.MoveAbandoned)]

/-- R41: an equation holds in 64-bit modular arithmetic. -/
def balanced (x y : Int) : Bool := decide (wrapU 64 x = wrapU 64 y)

/-- R41: the balance equations by the bit of R44: the ledger at 0x2051 + i, 14 PWM, 15 gear. A suspended credit ledger is not
checked (R43). -/
def State.ledgerHolds (s : State) (i : Nat) : Bool :=
  let g := s.get
  if i = 0 then balanced (g Obj.SumTickStarted) (g Obj.SumTickCompleted + g Obj.SumTickOverrun)
  else if i = 1 then allAxes.all fun a =>
    balanced (g (Obj.SetpointWritten a)) (g (Obj.SetpointConsumed a) + g (Obj.SetpointQueueOccupancy a) + g (Obj.SetpointFlushed a))
  else if i = 2 then (List.range 9).all fun c => s.bit Obj.Reconciling c ||
    (balanced (g (Obj.CrGranted c)) (g (Obj.CrUsed c) + g (Obj.CrHeld c)) &&
     balanced (g (Obj.CrUsed c)) (g (Obj.CrConsumed c) + g (Obj.CrOccupancy c) + g (Obj.CrLate c) + g (Obj.CrCorrupt c)))
  else if i = 3 then balanced (g Obj.HostSubmitted) (g Obj.HostCompleted + g Obj.HostOutstanding) && decide (g Obj.HostOutstanding ≤ 512)
  else if i = 4 then balanced (g Obj.SumInputFrameReceived)
    (g Obj.SumInputFrameAccepted + g Obj.SumInputFrameDuplicate + g Obj.SumInputFrameLate + g Obj.SumInputFrameRejected)
  else if i = 5 then (List.range 16).all fun c =>
    balanced (g (Obj.FbEdges c)) (g (Obj.FbUp c) + g (Obj.FbDown c) + g (Obj.FbRejected c)) &&
    balanced (g (Obj.FbUp c) - g (Obj.FbDown c) + g (Obj.FbIndexAdjust c)) (g (Obj.FbCount c) - g (Obj.FbStartCount c))
  else if i = 6 then (List.range 8).all fun u =>
    balanced (g (Obj.CmpArmed u)) (g (Obj.CmpFired u) + g (Obj.CmpFiredLate u) + g (Obj.CmpMissed u) + g (Obj.CmpCancelled u) + g (Obj.CmpOccupancy u))
  else if i = 7 then (List.range 4).all fun e =>
    balanced (g (Obj.EmuP e) * g (Obj.EmuInput e)) (g (Obj.EmuQ e) * (g (Obj.EmuEmitted e) + g (Obj.EmuDelayed e)) + g (Obj.EmuRemainder e)) &&
    decide ((g (Obj.EmuRemainder e)).natAbs < (g (Obj.EmuQ e)).natAbs)
  else if i = 8 then balanced (g Obj.AcqAcquired) (g Obj.AcqStored + g Obj.AcqStreamed + g Obj.AcqOverflowed)
  else if i = 9 then (List.range 16).all fun m =>
    balanced (g (Obj.MarkEdges m)) (g (Obj.MarkLatched m) + g (Obj.MarkFiltered m) + g (Obj.MarkDropped m))
  else if i = 10 then (List.range 2).all fun c =>
    balanced (g (Obj.CanQueued c)) (g (Obj.CanTransmitted c) + g (Obj.CanCancelled c) + (s.can c).reqs.length) &&
    balanced (g (Obj.CanReceived c)) (g (Obj.CanAccepted c) + g (Obj.CanFiltered c) + g (Obj.CanOverrun c))
  else if i = 13 then allAxes.all fun a =>
    balanced (g (Obj.MoveCommanded a)) (g (Obj.MoveExecuted a) + g (Obj.MoveRemaining a) + g (Obj.MoveAbandoned a))
  else if i = 14 then phases.all fun x =>
    balanced (g (Obj.VsRequested (x / 3) (x % 3))) (g (Obj.VsIssued (x / 3) (x % 3)) + g (Obj.VsCarry (x / 3) (x % 3)) +
      g (Obj.VsClamped (x / 3) (x % 3)) + g (Obj.VsTripped (x / 3) (x % 3)))
  else if i = 15 then (List.range 128).all fun k =>
    balanced (g (Obj.GearMasterTerm k)) (g (Obj.GearFollowerTerm k) + g (Obj.GearRemainder k)) &&
    (g (Obj.GearRemainder k) == 0 || decide ((g (Obj.GearRemainder k)).natAbs < (g (Obj.GearDenominator k)).natAbs))
  else true

/-! ### Scheduling (R106) -/

/-- R106: the status of a schedule.
(DESIGN CHOICE, unsafe: log entry 155.) -/
def State.scheduleStatus (s : State) (time : Nat) : Nat :=
  if time % 1000000 ≠ 0 then 0x0301
  else if s.snap.pending.contains time then 0
  else if time ≤ s.now + 2 * s.tNs then 0x0601
  else if 4 ≤ s.snap.pending.length then 0x0501
  else 0

/-- The pending snapshots. -/
def State.setSnapPending (s : State) (l : List Nat) : State :=
  ({ s with snap := { s.snap with pending := l } }).put Obj.SnapshotPending l.length

/-- R106: a schedule that is accepted. -/
def State.schedule (s : State) (time : Nat) : State :=
  if s.snap.pending.contains time then s else s.setSnapPending (s.snap.pending ++ [time])

/-- SNAPSHOT_SCHEDULE_TIME (R106): a write of `SnapshotScheduleTime`. -/
def execSnapshotScheduleTime (time : Nat) (s : State) : Host.Outcome State Fault Refusal :=
  .next (if s.scheduleStatus time ≠ 0 then s.reply (s.scheduleStatus time) else (s.schedule time).done)

/-- SNAPSHOT_SCHEDULE_FRAME (R106): a type-7 frame; a time that has passed is counted as Late. -/
def State.scheduleFrame (s : State) (time : Nat) : State :=
  let st := s.scheduleStatus time
  if st = 0 then (s.inputCount Obj.SumInputFrameAccepted).schedule time
  else s.inputCount (if st = 0x0601 then Obj.SumInputFrameLate else Obj.SumInputFrameRejected)

def execSnapshotScheduleFrame (time : Nat) (s : State) : Host.Outcome State Fault Refusal := .next (s.scheduleFrame time)

/-! ### Taking and completing (R44, R107, R108) -/

/-- R107, R108: the snapshot of the latest edge with its own time and flags. -/
def State.takeSnap (s : State) (time : Nat) (stepped : Bool) : State :=
  let flags := (if s.get Obj.TrellisState = 2 then 0 else 1) + (if stepped then 2 else 0) + (if s.nat Obj.Reconciling = 0 then 0 else 4)
  let bad := (List.range 16).foldl (fun m i => if s.ledgerHolds i then m else setBitN m i) 0
  let s := if s.snap.current.isSome then s.count Obj.SnapshotMissed 32 1 else s
  { s with snap := { s.snap with current := some { time := time, flags := flags, vals := s.ledgers, bad := bad } } }

/-- SNAPSHOT_TAKE (R81, R107): at an edge whose time is a pending snapshot's, a multiple of `SnapshotPeriod`, or the first
after a step that passed one. -/
def execSnapshotTake (s : State) : Host.Outcome State Fault Refusal :=
  let t := s.nat Obj.TickEdgeTime
  let period := s.natInUse Obj.SnapshotPeriod * 1000000
  .next
    (match s.snap.passed with
     | some p => ({ s with snap := { s.snap with passed := none } }).takeSnap p true
     | none =>
       if s.snap.pending.contains t then (s.setSnapPending (s.snap.pending.filter fun x => x != t)).takeSnap t false
       else if period ≠ 0 ∧ t % period = 0 then s.takeSnap t false
       else s)

/-- SNAPSHOT_COMPLETE (R44, R107): the copy and the ledger checks have finished. -/
def execSnapshotComplete (s : State) : Host.Outcome State Fault Refusal :=
  .next
    (match s.snap.current with
     | none => s
     | some c =>
       let s := { s with snap := { s.snap with current := none, last := some c } }
       let s := (s.put Obj.SnapshotLastTime c.time).put Obj.SnapshotLastNumber (c.time / 1000000 % 4294967296 : Nat)
       let s := s.put Obj.SnapshotFlags c.flags
       let s := s.put Obj.LedgerImbalance (s.nat Obj.LedgerImbalance ||| c.bad : Nat)
       s.each ((List.range 16).filter fun i => c.bad.testBit i) fun s i => s.raise fkLedger i)

end Sys2Proof.Machine
end

