-- ==== Sys2Proof/Machine/Trellis.lean ====
section
/-! DEFINITION. The Trellis time base (R73–R91): measurements, states, rate changes, steps, holdover, PPS and transmit time
stamps. -/

namespace Sys2Proof.Machine

/-! ### Rate and state (R75, R78, R79) -/

/-- R75: a rate change at the present counter value: time is continuous across it. -/
def State.setRate (s : State) (rate : Int) : State :=
  let t := s.now
  ((s.put Obj.TrellisOffset t).put Obj.TrellisBaseCounter (s.get Obj.TrellisCounter)).put Obj.TrellisRate rate

/-- R79: the largest departure from the nominal rate in 2^-40 ns.
(DESIGN CHOICE, unsafe: log entry 43.) -/
def State.slewLimit (s : State) : Int := (s.natInUse Obj.TrellisSlewLimit * 2 ^ 40 / 10000000 : Nat)

/-- R79: the servo's correction by rate. The spec states no law for it: the wanted rate is a free value, held at the limit. A
limit of 0 freezes the rate.
(DESIGN CHOICE, unsafe: log entry 43.) -/
def State.slew (s : State) : State :=
  let f := s.fresh
  let limit := s.slewLimit
  if limit = 0 then s
  else
    let want := f.1 - 2 ^ 40
    let s := f.2.setRate (2 ^ 40 + clampI want (-limit) limit)
    s.setBitIf (decide (limit < want ∨ want < -limit)) Obj.TrellisStatus 3

/-- R78: a transition of `TrellisState`. -/
def State.trellisTo (s : State) (st : Int) : State :=
  let old := s.get Obj.TrellisState
  let s := s.put Obj.TrellisState st
  let s := { s with trellis := { s.trellis with goodRun := 0 } }
  let s := s.setBitIf (decide (old = 2 ∧ st ≠ 2)) Obj.TrellisStatus 0
  if old = 3 ∧ st ≠ 3 ∧ s.faultActive fkTimeLost 0 = true then s.setActive fkTimeLost 0 false else s

/-! ### gPTP (R83, R84) -/

/-- R83: the order of two candidates for grandmaster: priority1, clock quality, priority2, identity, then the steps removed.
(PRESUMED, unsafe: log entry 140.) -/
def ptpBetter (x y : List Nat) : Bool :=
  match x, y with
  | a :: t, b :: u => decide (a < b) || (a == b && ptpBetter t u)
  | _, _ => false

/-- The vector of an announce. -/
def ptpVector (x : PtpAnnounce) : List Nat := [x.priority1, x.quality, x.priority2, x.identity, x.steps]

/-- R83: the best announce of a list. -/
def ptpBest : List PtpAnnounce → Option PtpAnnounce
  | [] => none
  | x :: t => match ptpBest t with
    | some y => some (if ptpBetter (ptpVector y) (ptpVector x) then y else x)
    | none => some x

/-- R83: the device's own vector; with a `PtpPriority1` of 255 it is never grandmaster. -/
def State.ptpOwn (s : State) : List Nat :=
  [s.nat Obj.PtpPriority1, Config.clockQuality.toNat, s.nat Obj.PtpPriority2, Config.clockIdentity.toNat, 0]

/-- R83: the best master clock algorithm over the announces in force: the role of each port, the grandmaster and the steps to it.
Announces of another domain and ports that take no part are left out.
(PRESUMED, unsafe: log entry 140.) -/
def State.bmca (s : State) (l : List PtpAnnounce) : State :=
  let on := fun p => s.flag (Obj.PortPtpEnable p)
  let l := l.filter fun x => on x.port && x.domain == s.nat Obj.PtpDomain
  let own := s.ptpOwn
  let best := match ptpBest l with
    | some x => if s.get Obj.PtpPriority1 = 255 ∨ ptpBetter (ptpVector x) own = true then some x else none
    | none => none
  let role := fun (p : Nat) => if !on p then 0
    else match best with
      | none => if s.get Obj.PtpPriority1 = 255 then 3 else 1
      | some b =>
        if b.port = p then 2
        else match ptpBest (l.filter fun x => x.port == p) with
          | some x => if ptpBetter (ptpVector x) ((ptpVector b).take 4 ++ [b.steps + 1]) then 3 else 1
          | none => 1
  let s := s.each [0, 1, 2] fun s p => s.put (Obj.PortPtpRole p) (role p : Nat)
  match best with
  | some b => (s.put Obj.GrandmasterIdentity b.identity).put Obj.StepsRemoved ((b.steps + 1) % 65536 : Nat)
  | none => if s.get Obj.PtpPriority1 = 255 then s
    else (s.put Obj.GrandmasterIdentity Config.clockIdentity.toNat).put Obj.StepsRemoved 0

/-- R84: the mean link delay of a port from the four times of its delay exchange, with the latencies of the port. -/
def State.linkDelay (s : State) (x : PtpSync) : Int :=
  qdiv (((x.t4 + s.nat (Obj.PortIngressLatency x.port)) - (x.t1 + s.nat (Obj.PortEgressLatency x.port))) - (x.t3 - x.t2)) 2

/-- R84: the offset of a sync message: its receipt with the ingress latency, less its origin, the link delay and the asymmetry. -/
def State.syncOffset (s : State) (x : PtpSync) : Int :=
  (x.received + s.nat (Obj.PortIngressLatency x.port)) - x.origin - (s.linkDelay x + s.get (Obj.PortAsymmetry x.port))

/-- R77, R361: the source that the servo follows: on the head of the chain source 3 acts as source 4. -/
def State.timeSource (s : State) : Int :=
  if s.get Obj.TrellisSource = 3 ∧ s.get Obj.JzPosition = 0 then 4 else s.get Obj.TrellisSource

/-- R77, R83, R84: the offset error that a measurement of the selected source gives, after what it says of gPTP; none when it is
not of that source.
(PRESUMED, unsafe: log entry 140.) -/
def State.timeOffset (s : State) (x : TimeSample) : State × Option Int :=
  let s := s.bmca x.announces
  let s := match x.sync with
    | some y => s.put (Obj.PortMeanLinkDelay y.port) (clampI (s.linkDelay y) 0 (2 ^ 32 - 1))
    | none => s
  let src := s.timeSource
  (s, if src = 4 then none
    else if src = 1 then (match x.sync with
      | some y => if s.get (Obj.PortPtpRole y.port) = 2 then some (s.syncOffset y) else none
      | none => none)
    else some x.offset)

/-- R78: what a valid measurement does to the state. -/
def State.trellisMeasured (s : State) (err : Int) (settled : Bool) : State :=
  let st := s.get Obj.TrellisState
  if st = 0 ∨ st = 3 then s.trellisTo 1
  else if st = 1 then
    let run := if err.natAbs ≤ 100 * 65536 ∧ settled = true then s.trellis.goodRun + 1 else 0
    if 16 ≤ run then s.trellisTo 2 else { s with trellis := { s.trellis with goodRun := run } }
  else s

/-- R91: the error estimate against its limit. -/
def State.tolerance (s : State) (estimate : Nat) : State :=
  let s := s.put Obj.TrellisErrorEstimate (estimate % 4294967296 : Nat)
  if s.natInUse Obj.TrellisErrorLimit < estimate then
    (if s.faultActive fkSyncTolerance 0 then s else (s.setBit Obj.TrellisStatus 5).raiseLasting fkSyncTolerance 0)
  else if s.faultActive fkSyncTolerance 0 then s.setActive fkSyncTolerance 0 false else s

/-! ### Steps (R80, R81) -/

/-- R80: the device and axis states allow a step. -/
def State.stepAllowed (s : State) : Bool :=
  decide (s.get Obj.DeviceState = devSafe ∨ s.get Obj.DeviceState = devReady) &&
    allAxes.all fun a => decide (s.get (Obj.AxisState a) = axDisabled ∨ s.get (Obj.AxisState a) = axStandby)

/-- R80: a step waits for its tick boundary. A step of the servo replaces the one it decided before and leaves the field to a step
that the host asked for.
(DEDUCED, unsafe: log entry 44.) -/
def State.askStep (s : State) (host : Bool) (by_ : Int) : State :=
  let l := s.trellis.steps.filter fun x => x.1
  { s with trellis := { s.trellis with steps := if host || l.isEmpty then l ++ [(host, by_)] else l } }

/-- R78–R80, R91: a valid measurement of the selected source acts. -/
def State.measured (s : State) (err : Int) (settled : Bool) (estimate : Nat) : State :=
  let s := ((s.put Obj.TrellisOffsetError (wrapS 64 err)).trellisMeasured err settled).tolerance estimate
  let th := s.natInUse Obj.TrellisStepThreshold
  if s.stepAllowed ∧ th ≠ 0 ∧ th * 65536 < err.natAbs then s.askStep false (-(qdiv err 65536)) else s.slew

/-- TRELLIS_MEASUREMENT (R77–R80, R83, R84, R91): a measurement of the selected source. -/
def execTrellisMeasurement (x : TimeSample) (settled : Bool) (estimate : Nat) (s : State) : Host.Outcome State Fault Refusal :=
  let r := s.timeOffset x
  .next (match r.2 with
    | some err => r.1.measured err settled estimate
    | none => r.1)

/-- TRELLIS_SET_TIME (R80): refused with 0x0701 unless the states allow a step; else it completes at the tick boundary. -/
def execTrellisSetTime (time : Nat) (s : State) : Host.Outcome State Fault Refusal :=
  .next (if s.stepAllowed then s.askStep true ((time : Int) - s.now) else s.reply 0x0701)

/-- R81: every pending commit is cancelled. -/
def State.cancelCommits (s : State) : State :=
  let owners := s.commits.map fun c => c.session
  let n := s.commits.length
  let sessions := s.sessions.map fun (x : Session) => if owners.contains x.num then { x with status := 0x0601 } else x
  (({ s with commits := [], sessions := sessions }).count Obj.ConfigGeneration 32 n).put Obj.PendingCommits 0

/-- R81: of the scheduled snapshots that a forward step passes, the latest is taken at the first edge after it.
(DESIGN CHOICE, unsafe: log entry 150.) -/
def State.passSnapshots (s : State) (time : Nat) : State :=
  let gone := s.snap.pending.filter fun x => decide (x ≤ time)
  match gone.max? with
  | none => s
  | some t =>
    let s := s.setSnapPending (s.snap.pending.filter fun x => decide (time < x))
    ({ s with snap := { s.snap with passed := some t } }).count Obj.SnapshotMissed 32 (gone.length - 1)

/-- R81: time is stepped by an amount.
(DEDUCED, unsafe: log entry 44.) -/
def State.makeStep (s : State) (by_ : Int) : State :=
  let time := (wrapU 64 ((s.now : Int) + by_)).toNat
  let s := (s.put Obj.TrellisOffset time).put Obj.TrellisBaseCounter (s.get Obj.TrellisCounter)
  let n := time / s.tNs
  let s := (s.put Obj.TickNumber n).put Obj.TickEdgeTime (n * s.tNs : Nat)
  let s := s.cancelCommits
  let s := s.passSnapshots time
  (s.acqStop 4).setBit Obj.TrellisStatus 4

/-- R80, R81: the steps that wait, in order, each made if the conditions still hold; `moved` is what earlier ones added.
(DEDUCED, unsafe: log entry 44.) -/
def State.makeSteps (s : State) (moved : Int) : List (Bool × Int) → State
  | [] => s
  | (host, by_) :: t =>
    let ok := s.stepAllowed
    let s := if ok then s.makeStep (by_ - moved) else s
    let s := if host then s.answerLate 1 (if ok then 0 else 0x0701) else s
    s.makeSteps (if ok then by_ else moved) t

/-- TIME_STEP (R80, R81): the tick boundary at which decided steps are made, if the conditions still hold.
(DEDUCED, unsafe: log entry 44.) -/
def execTimeStep (s : State) : Host.Outcome State Fault Refusal :=
  .next (({ s with trellis := { s.trellis with steps := [] } } : State).makeSteps 0 s.trellis.steps)

/-! ### Holdover (R78, R82) -/

/-- HOLDOVER_ENTRY (R78): no valid measurement for 3 intervals.
(DESIGN CHOICE, unsafe: log entry 151.) -/
def execHoldoverEntry (s : State) : Host.Outcome State Fault Refusal :=
  let st := s.get Obj.TrellisState
  .next (if st = 1 ∨ st = 2 then (s.trellisTo 3).setBit Obj.TrellisStatus 1 else s)

/-- HOLDOVER_LIMIT_EXPIRY (R82): holdover has lasted longer than `HoldoverLimit`; 0 is no limit.
(DESIGN CHOICE, unsafe: log entry 1.) -/
def execHoldoverLimitExpiry (s : State) : Host.Outcome State Fault Refusal :=
  .next
    (if s.get Obj.TrellisState = 3 ∧ s.inUse Obj.HoldoverLimit ≠ 0 then (s.setBit Obj.TrellisStatus 2).raiseOnce fkTimeLost 0
     else s)

/-! ### PPS (R87, R88) -/

/-- PPS_IN_EDGE (R87): an edge at a deviation in ns from the expected second.
(DEDUCED, unsafe: log entry 45.) -/
def execPpsInEdge (rising : Bool) (deviation : Int) (s : State) : Host.Outcome State Fault Refusal :=
  let chosen := (s.get Obj.PpsInEdge == 1) == rising
  let w := s.natInUse Obj.PpsInWindow
  .next
    (if s.get Obj.TrellisSource ≠ 2 ∨ chosen = false then s
     else if s.get Obj.TrellisState = 2 ∧ w ≠ 0 ∧ w < deviation.natAbs then s.setBit Obj.TrellisStatus 6
     else s.put Obj.TrellisOffsetError (wrapS 64 (deviation * 65536)))

/-- R88: the instant in the tick after the latest edge at which Trellis time is a whole second plus `add` ns. -/
def State.secondIn (s : State) (add : Int) : Option Int :=
  let last := ((s.tick + 1) * s.tNs : Nat) - 1 - add
  let t := last - last % 1000000000 + add
  if ((s.tick * s.tNs : Nat) : Int) ≤ t then some t else none

/-- PPS_OUT_PULSE (R88): the pin rises at a whole second plus `PpsOutOffset` and falls `PpsOutWidth` later, in the tick that holds
that instant; a width of 0 keeps it low.
(DESIGN CHOICE, unsafe: log entry 133.) -/
def execPpsOutPulse (rise : Bool) (s : State) : Host.Outcome State Fault Refusal :=
  let w := s.inUse Obj.PpsOutWidth
  .next
    (match s.secondIn (s.inUse Obj.PpsOutOffset + if rise then 0 else w) with
     | some t =>
       if rise == s.trellis.ppsOut || (rise && w == 0) then s
       else ({ s with trellis := { s.trellis with ppsOut := rise } }).send sentPpsOut [b2i rise, t]
     | none => s)

/-! ### Transmit time stamps (R84–R86) -/

/-- The time-stamp queue of a port: identifier, time and fraction, oldest first. -/
def State.tsQueue (s : State) (p : Nat) : List (Nat × Nat × Nat) := (s.plant.tsQueues.lookup p).getD []

/-- Replace a time-stamp queue. -/
def State.setTsQueue (s : State) (p : Nat) (l : List (Nat × Nat × Nat)) : State :=
  ({ s with plant := { s.plant with tsQueues := Sparse.insert p l s.plant.tsQueues } }).put (Obj.TsQueueOccupancy p) l.length

/-- TS_FRAME_SENT (R84–R86): the first bit of a frame with the time-stamp request leaves a port. -/
def execTsFrameSent (p id : Nat) (s : State) : Host.Outcome State Fault Refusal :=
  let t := s.now16 + s.nat (Obj.PortEgressLatency p)
  .next
    (if 3 ≤ p then s
     else
       let s := s.count (Obj.TsRequested p) 64 1
       if (s.tsQueue p).length < 64 then s.setTsQueue p (s.tsQueue p ++ [(id % 4096, t / 65536, t % 65536)])
       else (s.count (Obj.TsOverflowed p) 64 1).setBit Obj.TrellisStatus 7)

/-- R85: the 16 bytes of a time-stamp entry. -/
def tsBytes (p : Nat) (e : Nat × Nat × Nat) : List Byte :=
  natLE 4 (2 ^ 31 + p * 4096 + e.1) ++ natLE 2 0 ++ natLE 2 e.2.2 ++ natLE 8 e.2.1

/-- TS_QUEUE_ENTRY_READ (R85): the oldest entry is returned and removed; an empty queue gives an entry that is not valid.
(DEDUCED, unsafe: log entry 46.) -/
def execTsQueueEntryRead (p : Nat) (s : State) : Host.Outcome State Fault Refusal :=
  .next
    (if 3 ≤ p then s.reply 0x0101
     else match s.tsQueue p with
       | [] => s.answer (List.replicate 16 0)
       | e :: l => ((s.setTsQueue p l).count (Obj.TsDelivered p) 64 1).answer (tsBytes p e))

/-- The block idles: the local counter counts one period (R73).
(DESIGN CHOICE, safe: log entry 2.) -/
def State.idle (s : State) : State := s.count Obj.TrellisCounter 64 1

end Sys2Proof.Machine
end

