-- ==== Sys2Proof/Machine/Plant.lean ====
section
/-! DEFINITION. The plant network (R92–R105): frames, partners, gate lists, replication, masters. -/

namespace Sys2Proof.Machine

/-! ### Discovery (R94–R96) -/

/-- ANNOUNCE_SEND (R94).
(DESIGN CHOICE, unsafe: log entry 152.) -/
def execAnnounceSend (s : State) : Host.Outcome State Fault Refusal :=
  .next
    (if s.inUse Obj.AnnounceInterval = 0 then s
     else s.sendFrame sentAnnounce true 0 s.now 1 10 [s.get Obj.PlantAddress, s.get Obj.SerialNumber, s.get Obj.TickPeriod,
       s.get Obj.NetworkCycleTicks, s.get Obj.DeviceState])

/-- R95: a graft or network axis names an address on the plant network.
(DESIGN CHOICE, unsafe: log entry 153.) -/
def State.namesPartner (s : State) (address : Nat) : Bool :=
  ((List.range 128).any fun k => s.get (Obj.GraftKind k) != 0 && s.get (Obj.GraftMasterSource k) == 4 &&
      s.nat (Obj.GraftMasterAddress k) == address) ||
  (allAxes.any fun a => !isLocal a && s.flag (Obj.NetAxisKind a) && s.get (Obj.NetAxisPath a) == 2 &&
      s.nat (Obj.NetAxisAddress a) == address)

/-- R95: the bytes of a partner entry.
(DEDUCED, unsafe: log entry 134.) -/
def Partner.bytes (p : Partner) : List Byte :=
  natLE 2 p.addr ++ natLE 1 (if p.lost then 2 else 1) ++ natLE 1 ((if p.configured then 1 else 0) + (if p.notLocked then 2 else 0)) ++
    natLE 4 p.serial ++ natLE 8 p.time

/-- The partner table with its count and its bytes. -/
def State.setPartners (s : State) (l : List Partner) : State :=
  let s := { s with plant := { s.plant with partners := l } }
  (s.put Obj.PartnerCount l.length).store Obj.PartnerTable 0 (l.map Partner.bytes).flatten

/-- ANNOUNCE_RECEIVE (R95, R96): a partner is listed, refreshed or present again, or an address conflict is found. -/
def execAnnounceReceive (address serial : Nat) (notLocked : Bool) (s : State) : Host.Outcome State Fault Refusal :=
  .next
    (if address = s.nat Obj.PlantAddress then
      (if serial = s.nat Obj.SerialNumber ∨ s.plant.conflict = true then s
       else (({ s with plant := { s.plant with conflict := true } }).setBit Obj.PlantStatus 0).raiseOnce fkAddress 0)
     else
       let conf := s.namesPartner address
       let e : Partner := { addr := address, lost := false, configured := conf, notLocked := notLocked, serial := serial, time := s.now }
       if s.plant.partners.any fun p => p.addr == address then
         s.setPartners (s.plant.partners.map fun p => if p.addr = address then e else p)
       else if s.plant.partners.length < 256 then s.setPartners (s.plant.partners ++ [e])
       else s.setBitIf conf Obj.PlantStatus 4)

/-- PARTNER_LOST (R95): an announce has been missing for a number of consecutive intervals; with a count of 0 the first
missed interval acts. -/
def execPartnerLost (address missed : Nat) (s : State) : Host.Outcome State Fault Refusal :=
  .next
    (if max 1 (s.natInUse Obj.PartnerLossCount) ≤ missed ∧ s.plant.partners.any (fun p => p.addr == address && !p.lost) = true then
      (s.setPartners (s.plant.partners.map fun p => if p.addr = address then { p with lost := true } else p)).setBit Obj.PlantStatus 1
    else s)

/-! ### Gate lists and ring (R99, R100–R102) -/

/-- The committed gate list of a port: gate mask and interval of each entry. -/
def State.gateEntries (s : State) (p : Nat) : List (Nat × Nat) :=
  (List.range (s.nat (Obj.GateListLength p))).map fun i => (s.uint (Obj.GateList p) (8 * i) 1, s.uint (Obj.GateList p) (8 * i + 4) 4)

/-- R99: the first cycle start of the committed list of a port at or after a time. -/
def State.gateStart (s : State) (p since : Nat) : Nat :=
  let base := s.nat (Obj.GateBaseTime p)
  base + (since - base + s.nat (Obj.GateCycleTime p) - 1) / s.nat (Obj.GateCycleTime p) * s.nat (Obj.GateCycleTime p)

/-- R98, R99: the gates of a port that are open at a time, as a mask of classes. -/
def State.gatesOpen (s : State) (p time : Nat) : Nat :=
  match s.plant.gates.lookup p with
  | some g =>
    if g.enable && g.cycle != 0 then
      let at_ := ((((time : Int) - g.base) % (g.cycle : Int))).toNat
      (g.entries.foldl (fun (r : Nat × Nat) e => if r.1 ≤ at_ then (r.1 + e.2, e.1) else r) (0, 0)).2
    else 255
  | none => 255

/-- GATE_LIST_SWITCH (R99): the committed list takes effect at its first cycle start at or after the apply edge, in the tick that
holds that instant or later.
(DESIGN CHOICE, unsafe: log entry 133.) -/
def execGateListSwitch (p : Nat) (s : State) : Host.Outcome State Fault Refusal :=
  .next
    (match s.plant.gates.lookup p with
     | some g =>
       if g.pending ∧ s.gateStart p g.since < (s.tick + 1) * s.tNs then
         let n : GateRt := { enable := s.flag (Obj.GateEnable p), cycle := s.nat (Obj.GateCycleTime p),
                             base := s.nat (Obj.GateBaseTime p), entries := s.gateEntries p }
         { s with plant := { s.plant with gates := Sparse.insert p n s.plant.gates } }
       else s
     | none => s)

/-- RING_PATH_LOST (R4, R102): a stream yields no frame on a port for `FrerLatentPeriod`; 0 turns the check off. The condition
lasts until frames come on that port again.
(DEDUCED, unsafe: log entry 141.) -/
def execRingPathLost (port : Nat) (s : State) : Host.Outcome State Fault Refusal :=
  .next
    (if s.flag Obj.FrerEnable ∧ s.inUse Obj.FrerLatentPeriod ≠ 0 ∧ port < 2 then (s.setBit Obj.PlantStatus 2).raiseOnce fkRingLost port
     else s)

/-- R102: a replicated frame comes on a port again.
(DEDUCED, unsafe: log entry 141.) -/
def State.ringAgain (s : State) (port : Nat) : State :=
  if s.faultActive fkRingLost port then s.setActive fkRingLost port false else s

/-- R100: a stream: source address and frame type. -/
def streamOf (source kind : Nat) : Nat := source * 16 + kind

/-- FRER_RESET_TIME_EXPIRY (R100): a stream has yielded no frame for `FrerResetTime`; 0 is no timeout. -/
def execFrerResetTimeExpiry (stream : Nat) (s : State) : Host.Outcome State Fault Refusal :=
  .next
    (if s.inUse Obj.FrerResetTime = 0 then s
     else { s with plant := { s.plant with streams := s.plant.streams.filter fun x => x.1 != stream } })

/-- What the vector recovery makes of a frame. -/
inductive Frer
  | passed | duplicate | rogue
  deriving DecidableEq, Repr

/-- R100: the history after `d` newer sequence numbers, and how many of those shifted out had not come. -/
def frerShift (len : Nat) : Nat → Nat → Nat × Nat
  | 0, h => (h, 0)
  | d + 1, h =>
    let x := frerShift len d (h * 2 % 2 ^ len)
    (x.1, x.2 + (if h.testBit (len - 1) then 0 else 1))

/-- R100: the vector recovery algorithm on one sequence number.
(PRESUMED, unsafe: log entry 48.) -/
def State.frer (s : State) (stream seq : Nat) : State × Frer :=
  let len := s.nat Obj.FrerHistoryLength
  let set := fun (s : State) (r : FrerRt) => ({ s with plant := { s.plant with streams := Sparse.insert stream r s.plant.streams } } : State)
  let pass := fun (s : State) => s.count Obj.FrerPassed 64 1
  match s.plant.streams.lookup stream with
  | none => (pass (set s { valid := true, newest := seq, history := 2 ^ len - 1 }), .passed)
  | some r =>
    let d := wrapS 16 ((seq : Int) - r.newest)
    if len ≤ d.natAbs then (s.count Obj.FrerRogue 64 1, .rogue)
    else if d ≤ 0 then
      if r.history.testBit d.natAbs then (s.count Obj.FrerDiscarded 64 1, .duplicate)
      else (pass (set s { r with history := setBitN r.history d.natAbs }), .passed)
    else
      let x := frerShift len d.toNat r.history
      (pass ((set s { r with newest := seq, history := setBitN x.1 0 }).count Obj.FrerLost 64 x.2), .passed)

/-! ### Master samples (R104, R105) -/

/-- R105: a sample is late at or after its time plus C. -/
def State.sampleLate (s : State) (x : MasterSample) : Bool := decide (x.time + s.nat Obj.NetworkCycleTicks * s.tNs ≤ s.now)

/-- R105: the number under which the newest sample of a remote master is kept. -/
def masterKey (plant : Bool) (source master : Nat) : Nat := (if plant then 16777216 else 0) + source * 256 + master

/-- R105: an accepted sample of the master is newer. -/
def State.sampleOld (s : State) (plant : Bool) (source : Nat) (x : MasterSample) : Bool :=
  match s.plant.newest.lookup (masterKey plant source x.master) with
  | some t => decide (x.time < t)
  | none => false

/-- MASTER_SAMPLE_RECEIVE (R105, R159): a sample of a remote master. -/
def State.sampleTake (s : State) (plant : Bool) (source : Nat) (x : MasterSample) : State :=
  if s.sampleLate x then s.inputCount Obj.SumInputFrameLate
  else if s.sampleOld plant source x then s.inputCount Obj.SumInputFrameRejected
  else
    let s := { s with plant := { s.plant with newest := Sparse.insert (masterKey plant source x.master) x.time s.plant.newest } }
    (s.inputCount Obj.SumInputFrameAccepted).each (s.readersOf plant source x.master) fun s k => s.masterSample x k

def execMasterSampleReceive (plant : Bool) (source : Nat) (x : MasterSample) (s : State) : Host.Outcome State Fault Refusal :=
  .next (s.sampleTake plant source x)

/-- R104: the published slots of an entry, newest values; an unused velocity or acceleration is 0. -/
def State.masterValues (s : State) (j : Nat) : Int × Int × Int :=
  let v := fun k => if s.nat k = 0xFFFF then 0 else s.slotNewest (s.nat k)
  (v (Obj.MasterPublishPosition j), v (Obj.MasterPublishVelocity j), v (Obj.MasterPublishAcceleration j))

/-- A published master is measured: its position slot is a latch slot (R104). -/
def State.masterMeasured (s : State) (j : Nat) : Bool := s.get (Obj.SlotProducer (s.nat (Obj.MasterPublishPosition j))) == 0xFFFE

/-- R104: the flags of a record: valid, stopping (the axis whose profile step produces it is in Stopping), not locked.
(DESIGN CHOICE, unsafe: log entry 49.) -/
def State.masterFlags (s : State) (j : Nat) : Nat :=
  let stopping := match s.producerOf (s.nat (Obj.MasterPublishPosition j)) with
    | some d => d.kind == kindProfile && s.get (Obj.AxisState (s.recU d 0 1)) == axStopping
    | none => false
  1 + (if stopping then 2 else 0) + (if s.get Obj.TrellisState = 2 then 0 else 4)

/-- The entries of `MasterPublish` in use. -/
def State.masterEntries (s : State) : List Nat := (List.range 32).filter fun j => s.nat (Obj.MasterPublishPosition j) != 0xFFFF

/-- R104, R159: the record of a master for an edge: on the plant network a broadcast frame, on the chain an exchange value. -/
def State.sendMaster (s : State) (plant : Bool) (j edge cycle : Nat) : State :=
  let v := s.masterValues j
  let l : List Int := [j, s.masterFlags j, (cycle % 4294967296 : Nat), (edge * s.tNs : Nat), v.1, v.2.1, v.2.2]
  if plant then s.sendFrame sentMaster true 0 (edge * s.tNs) 1 32 l
  else s.exPost none 1 0 (natLE 1 j ++ natLE 1 (s.masterFlags j) ++ natLE 2 0 ++ natLE 4 cycle ++ natLE 8 (edge * s.tNs) ++
    intLE 8 v.1 ++ intLE 4 v.2.1 ++ intLE 4 v.2.2)

/-- MASTER_PUBLISH (R104): in the tick before a cycle edge for commanded masters, in the tick after it for measured ones. -/
def execMasterPublish (s : State) : Host.Outcome State Fault Refusal :=
  let c := s.nat Obj.NetworkCycleTicks
  let n := s.tick
  .next (s.each s.masterEntries fun s j =>
    if s.masterMeasured j then (if n % c = 0 then s.sendMaster true j n (n / c) else s)
    else if (n + 1) % c = 0 then s.sendMaster true j (n + 1) ((n + 1) / c) else s)

/-! ### Frames (R92, R93) -/

/-- The record length of a frame type, where the spec states one (R92, R104, R198, R199, R338). -/
def plantRecord (kind : Nat) : Option Nat :=
  if kind = 1 then some 32 else if kind = 2 then some 16 else if kind = 3 then some 24 else if kind = 8 then some 24 else none

/-- R367: the bytes that follow a submission entry: written or staged data beyond 32 bytes, padded to a multiple of 8. -/
def entryFollow (l : List Byte) : Nat :=
  if (fieldU l 0 1 = 2 ∨ fieldU l 0 1 = 3) ∧ 32 < fieldU l 12 4 then (fieldU l 12 4 + 7) / 8 * 8 else 0

/-- R367: the bytes that follow a completion entry. -/
def responseFollow (l : List Byte) : Nat :=
  if bitAt (fieldU l 5 1) 1 ∨ fieldU l 8 4 ≤ 32 then 0 else (fieldU l 8 4 + 7) / 8 * 8

/-- R367: the entries of a frame of type 4 or 5 with what follows each; none when the lengths do not match. -/
def splitEntries (follow : List Byte → Nat) : Nat → List Byte → Option (List (List Byte × List Byte))
  | 0, l => if l.isEmpty then some [] else none
  | n + 1, l =>
    if l.length < 64 + follow l then none
    else match splitEntries follow n (l.drop (64 + follow l)) with
      | some t => some ((l.take 64, (l.drop 64).take (follow l)) :: t)
      | none => none

/-- The records of a frame. -/
def recordsOf (f : PlantFrame) (z : Nat) : List (List Byte) := (List.range f.count).map fun i => (f.payload.drop (z * i)).take z

/-- R93, R104, R198, R199, R338: a record of a frame type has a reserved bit set. -/
def recordBad (kind : Nat) (l : List Byte) : Bool :=
  if kind = 1 then decide (8 ≤ fieldU l 1 1 ∨ fieldU l 2 2 ≠ 0)
  else if kind = 2 then decide (4 ≤ fieldU l 2 1 ∨ fieldU l 3 1 ≠ 0)
  else if kind = 3 then decide (32 ≤ fieldU l 2 1 ∨ fieldU l 3 1 ≠ 0 ∨ fieldU l 20 4 ≠ 0)
  else if kind = 8 then decide (fieldU l 6 2 ≠ 0 ∨ fieldU l 20 4 ≠ 0)
  else false

/-- R93: a frame that is rejected. The records of types 6 and 7 have no stated layout: their count divides the payload.
(DESIGN CHOICE, unsafe: log entry 47.) -/
def frameBad (f : PlantFrame) : Bool :=
  decide (f.version ≠ 1 ∨ f.kind = 0 ∨ 8 < f.kind ∨ 8 ≤ f.flags ∨ f.reserved ≠ 0 ∨ f.length ≠ f.payload.length) ||
    (match plantRecord f.kind with
      | some z => f.length != z * f.count || (recordsOf f z).any (recordBad f.kind)
      | none => false) ||
    (f.kind == 4 && (splitEntries entryFollow f.count f.payload).isNone) ||
    (f.kind == 5 && (splitEntries responseFollow f.count f.payload).isNone) ||
    ((f.kind == 6 || f.kind == 7) && (if f.count = 0 then f.length != 0 else f.length % f.count != 0))

/-- R199: a status record of the plant network for the axes it names.
(DESIGN CHOICE, unsafe: log entry 47.) -/
def State.plantStatus (s : State) (source : Nat) (now : Bool) (l : List Byte) : State :=
  let axes := allAxes.filter fun a => !isLocal a && s.flag (Obj.NetAxisKind a) && s.get (Obj.NetAxisPath a) == 2 &&
    s.nat (Obj.NetAxisAddress a) == source && s.nat (Obj.NetAxisRemoteIndex a) == fieldU l 0 1
  s.each axes fun s a =>
    let s := s.netStatus a (fieldU l 1 1) (fieldU l 2 1) (fieldI l 4 8) (fieldI l 12 4) (fieldI l 16 4)
    if now then s.netEdge a else s

/-- R199, R20: a status frame stamped with its latch edge. "Input late" has an instance for each chain position only (R436).
(DESIGN CHOICE, unsafe: log entry 71.) -/
def State.statusFrame (s : State) (f : PlantFrame) : State :=
  let edge := f.stamp / s.tNs
  if edge = s.tick ∨ (edge + 1 = s.tick ∧ s.row.window = true) then
    (recordsOf f 24).foldl (fun s l => s.plantStatus f.source (decide (edge ≠ s.tick)) l) (s.inputCount Obj.SumInputFrameAccepted)
  else (s.inputCount Obj.SumInputFrameLate).setBit Obj.RowStatus 7

/-- R367, R369: one request entry of a source address: at most 64 are outstanding. -/
def State.plantRequest (s : State) (source : Nat) (e : List Byte × List Byte) : State :=
  let fail := fun (s : State) (st : Nat) =>
    s.sendFrame sentResponse false source 0 1 64
      ((entryBytes (fieldU e.1 2 2) st 0 0 (s.nat Obj.JzPosition) 0 0 s.now 0 []).map fun b => (b.toNat : Int))
  if !entryClean e.1 then fail s 0x0301
  else if 64 ≤ (s.host.reqs.filter fun r => r.path == 3 && r.source == source).length then fail s 0x0501
  else { s with host := { s.host with reqs := s.host.reqs ++ [reqOf 3 source s.now e.1 e.2] } }

/-- R369: the entries of a dictionary request frame. -/
def State.plantRequests (s : State) (f : PlantFrame) : State :=
  ((splitEntries entryFollow f.count f.payload).getD []).foldl (fun s e => s.plantRequest f.source e)
    (s.inputCount Obj.SumInputFrameAccepted)

/-- A frame for this device, by its type. A setpoint frame and a response have no effect here; an announce comes as a command
of its own.
(DESIGN CHOICE, unsafe: log entry 47.) -/
def State.frameTake (s : State) (f : PlantFrame) : State :=
  if f.count = 0 then s.inputCount Obj.SumInputFrameAccepted
  else if f.kind = 7 then s.scheduleFrame f.stamp
  else if f.kind = 1 then (recordsOf f 32).foldl (fun s l => s.sampleTake true f.source (masterOfBytes l)) s
  else if f.kind = 3 then s.statusFrame f
  else if f.kind = 4 then s.plantRequests f
  else if f.kind = 8 then (recordsOf f 24).foldl (fun s l => s.trigRecord (trigOfBytes l true f.stamp)) s
  else s.inputCount Obj.SumInputFrameAccepted

/-- R97, R101: a frame is sent on toward the other port: cut-through (1) when the speeds are equal and the port is idle with the
gate of the frame's class open, else store-and-forward (2).
(DESIGN CHOICE, unsafe: log entry 133.) -/
def State.relay (s : State) (f : PlantFrame) : State :=
  let out := if f.port = 0 then 1 else 0
  let cut := f.equalSpeed && f.idle && (s.gatesOpen out s.now).testBit (s.nat Obj.PlantPcp)
  s.send sentForward [f.port, f.source, f.kind, f.sequence, if cut then 1 else 2]

/-- PLANT_FRAME_RECEIVE (R92, R93, R100, R101): own frames are dropped, duplicates eliminated, frames for others forwarded;
a frame for this device is rejected or taken whole. -/
def execPlantFrameReceive (f : PlantFrame) (s : State) : Host.Outcome State Fault Refusal :=
  let own := decide (f.dest = s.nat Obj.PlantAddress) || bitAt f.flags 0
  .next
    (if f.source = s.nat Obj.PlantAddress then s
     else
       let s := if f.redundancy.isSome then s.ringAgain f.port else s
       let x := match f.redundancy with
         | some q => if s.flag Obj.FrerEnable then s.frer (streamOf f.source f.kind) q else (s, .passed)
         | none => (s, .passed)
       let s := x.1
       if x.2 = .duplicate then (if own then s.inputCount Obj.SumInputFrameDuplicate else s)
       else if x.2 = .rogue then (if own then s.inputCount Obj.SumInputFrameRejected else s)
       else
         let s := if !own || bitAt f.flags 0 then s.relay f else s
         if !own then s
         else if frameBad f then (s.inputCount Obj.SumInputFrameRejected).setBit Obj.PlantStatus 3
         else s.frameTake f)

end Sys2Proof.Machine
end

