-- ==== Sys2Proof/Machine/Sticky.lean ====
section
/-! DEFINITION. Sticky bits (R65, R66): which bits have a condition that lasts, and the clear. -/

namespace Sys2Proof.Machine

/-- The bits of the axis objects at an offset of the instance. -/
def State.axisHeld (s : State) (a off bit : Nat) : Bool :=
  if off = 0x00 then
    (if bit = 2 then (s.axis a).limNeg || (s.axis a).limPos else bit == 0 && (s.axis a).overridden)
  else if off = 0x18 then
    (if bit = 7 then s.faultActive fkFollowing a
     else if bit = 1 then (s.axis a).netDegraded
     else bit == 0 && s.get (Obj.NetAxisDriveState a) == 3)
  else if off = 0x26 then
    (if bit = 8 then !(s.focAngle a (s.foc a).time).2.2
     else if bit = 7 then s.senseLost a
     else bit == 5 && s.faultActive fkDcLink a)
  else if off = 0x2E then (if bit = 7 then (s.sl a).riding else bit == 4 && (s.sl a).lost)
  else false

/-- The bits of the other blocks with instances. -/
def State.blockHeld (s : State) (i bit : Nat) : Bool :=
  if 0x4000 ≤ i ∧ i < 0x4200 then
    (let c := (i - 0x4000) / 0x20
     if bit = 4 then (s.fb c).lost
     else if bit = 2 then (s.fb c).fault
     else bit == 0 && (s.fb c).uncertain)
  else if 0x4280 ≤ i ∧ i < 0x42C0 then bit == 0 && s.faultActive fkEmulation ((i - 0x4280) / 0x10)
  else if 0x4300 ≤ i ∧ i < 0x4400 then bit == 0 && decide (16 ≤ (s.mark ((i - 0x4300) / 0x10)).queue.length)
  else if 0x4400 ≤ i ∧ i < 0x4600 then
    (let n := (i - 0x4400) / 0x20
     if bit = 5 then !((s.pwm n).gen && (s.pwm n).dse) else decide (bit < 3) && s.tripCondition n bit)
  else if 0x4800 ≤ i ∧ i < 0x4900 then
    (let g := (i - 0x4800) / 0x20
     if bit = 8 then s.spanMismatch g
     else if bit = 4 then s.faultActive fkSpanRange g
     else bit == 1 && s.get (Obj.SpanState g) != 0 && !s.spanMembersRun g)
  else if 0x4A00 ≤ i ∧ i < 0x4C00 then
    (let k := (i - 0x4A00) / 4
     if bit = 4 then (s.graft k).held else bit == 2 && s.get (Obj.RemoteMasterState k) == 3)
  else false

/-- The bits of the device-wide blocks.
(DEDUCED, unsafe: log entry 11.) -/
def State.rootHeld (s : State) (i sub bit : Nat) : Bool :=
  if 0x2701 ≤ i ∧ i ≤ 0x2733 then
    (let n := if sub = 4 then bit + 64 else bit
     s.faultActive (i - 0x2700) n || s.faults.forced.contains ((i - 0x2700) * 256 + n) ||
       (i == 0x2700 + fkUpdateFallback && s.power.fellBack) || (i == 0x2700 + fkResetPin && s.get Obj.NrstState == 2))
  else if 0x2A10 ≤ i ∧ i < 0x2A18 then bit == 6 && (s.core (i - 0x2A10)).err.isSome
  else if i = 0x2101 then
    (if bit = 2 then s.faultActive fkTimeLost 0 else bit == 5 && s.faultActive fkSyncTolerance 0)
  else if i = 0x2200 then
    (if bit = 0 then s.plant.conflict
     else if bit = 1 then s.plant.partners.any fun p => p.lost
     else bit == 2 && (List.range 2).any fun p => s.faultActive fkRingLost p)
  else if i = 0x2300 then
    (if bit = 2 then s.get Obj.JzPosition == 63 && s.portUp 1
     else if bit = 1 then s.faultActive fkChain 0
     else bit == 0 && (List.range 2).any fun j => s.faultActive fkJorzer j)
  else if i = 0x2350 then bit == 3 && s.host.lost
  else if 0x2400 ≤ i ∧ i < 0x2500 then
    (let c := (i - 0x2400) / 0x80
     let m := max (s.get (Obj.CanTec c)) (s.get (Obj.CanRec c))
     if bit = 2 then (s.can c).busOff else if bit = 1 then decide (128 ≤ m) else bit == 0 && decide (96 ≤ m))
  else if i = 0x2500 then (if bit = 2 then !s.field.link else decide (bit < 2) && !s.field.supply)
  else if 0x2510 ≤ i ∧ i < 0x2520 then bit == 0 && (s.fin (i - 0x2510)).broken
  else if 0x2530 ≤ i ∧ i < 0x2538 then
    (let o := i - 0x2530
     if bit = 0 then s.foutCause o
     else if bit = 1 then decide (s.now < (s.fout o).overUntil)
     else if bit = 2 then (s.fout o).hot
     else bit == 3 && (s.fout o).opened)
  else if i = 0x2600 then
    (if bit = 5 then !s.safety.path
     else if bit = 4 then s.safetyCfg.isNone
     else if bit = 0 then (List.range 4).any fun p => s.faultActive fkDiscrepancy p
     else true)
  else if i = 0x2782 then
    (if bit = 5 then s.thermal.disagree.any fun x => decide (1000 ≤ x.2)
     else if bit = 4 then (List.range 7).any fun z => s.bit Obj.SensorBroken (2 * z) && s.bit Obj.SensorBroken (2 * z + 1)
     else if bit = 3 then s.nat Obj.SensorBroken != 0
     else if bit = 2 then s.flashStopped
     else if bit = 1 then (List.range 7).any fun z => decide (s.criticalAt ≤ s.zone z)
     else decide (0 < s.get Obj.ThrottleLevel))
  else if i = 0x2020 then (if bit = 1 then s.power.fellBack else bit == 0 && s.get Obj.NrstState == 2)
  else if i = 0x2800 then bit == 2 && s.get Obj.UpdateState == 5
  else false

/-- R65: the condition of a sticky bit is present.
(DEDUCED, unsafe: log entry 11.) -/
def State.stickyHeld (s : State) (key bit : Nat) : Bool :=
  let i := key / 256
  if 0x3000 ≤ i ∧ i < 0x4000 then s.axisHeld ((i - 0x3000) / 0x40) ((i - 0x3000) % 0x40) bit
  else if 0x4000 ≤ i ∧ i < 0x5000 then s.blockHeld i bit
  else s.rootHeld i (key % 256) bit

/-- The mask of a sticky object's bits, none for any other object. -/
def stickyMask (key : Nat) : Option Nat :=
  match Dict.row key with
  | some r => (match r.range with | .sticky m => some m | _ => none)
  | none => none

/-- What follows a clear: trip latches of a stage (R303), `FaultHighestClass` and `NERR` (R434, R436). -/
def State.stickyAfter (s : State) (key : Nat) : State :=
  let i := key / 256
  if 0x4400 ≤ i ∧ i < 0x4600 then s.tripCleared ((i - 0x4400) / 0x20)
  else if 0x2701 ≤ i ∧ i ≤ 0x2733 then (s.put Obj.FaultHighestClass s.highestClass).nerrUpdate
  else s

/-- R65, R66: a write of ones to sticky bits; `recurring` are the bits whose conditions occur in the same clock cycle.
(DEDUCED, unsafe: log entry 11.) -/
def State.clearSticky (s : State) (key ones recurring : Nat) : State :=
  let now := s.nat key
  let asked := (List.range 64).filter fun b => ones.testBit b && now.testBit b
  let stay := asked.filter fun b => s.stickyHeld key b || recurring.testBit b
  let gone := asked.filter fun b => !stay.contains b
  let s := s.put key (gone.foldl clrBitN now : Nat)
  let s := if gone.isEmpty then s else s.stickyAfter key
  if stay.isEmpty then s.done
  else ((s.count Obj.StickyClearRefused 32 1).put Obj.StickyClearRefusedLast key).reply 0x0702

end Sys2Proof.Machine
end

