-- ==== Sys2Proof/Machine/Access.lean ====
section
/-! DEFINITION. Addressing and reading objects (R46–R52, R70–R72), the CiA 402 view, and the checks that a written or staged
value passes by itself (R10, R49, R54, R64). -/

namespace Sys2Proof.Machine

/-! ### Sessions and addressing (R46, R47, R67) -/

/-- R67: a request may name an open session, or none (0). -/
def State.sessionOk (s : State) (n : Nat) : Bool := n == 0 || s.sessions.any fun x => x.num == n

/-- An open session. -/
def State.session (s : State) (n : Nat) : Session := (s.sessions.find? fun x => x.num == n).getD { num := n }

/-- Replace an open session. -/
def State.setSession (s : State) (x : Session) : State :=
  { s with sessions := s.sessions.map fun (y : Session) => if y.num = x.num then x else y }

/-- R464: what recovery service serves. -/
def State.served (s : State) (i sub : Nat) : Bool :=
  !s.power.recovery || decide (0x1000 ≤ i ∧ i < 0x1100) || (i == 0x2020 && (sub == 1 || sub == 2)) || decide (0x2800 ≤ i ∧ i < 0x2900)

/-- Fault kinds 0x0A and 0x0B alone have the high words of instances 64–127 (table of fault objects). -/
def highWordAbsent (i sub : Nat) : Bool :=
  decide (0x2701 ≤ i ∧ i ≤ 0x2733) && (sub == 4 || sub == 6 || sub == 8) && !Dict.wideKind (i - 0x2700)

/-- R47, R234: the status of an address, 0 when it names a subentry that exists. -/
def addrStatus (i sub : Nat) : Nat :=
  if !Dict.known i ∨ (0x4400 ≤ i ∧ i < 0x4600 ∧ (i - 0x4400) % 0x40 = 0x38) then 0x0101
  else if !(Dict.rowsAt i).any fun r => Dict.present i r then 0x0103
  else match Dict.rowOf i sub with
    | none => if sub = 0 then 0 else 0x0102
    | some r => if highWordAbsent i sub then 0x0102 else if Dict.present i r then 0 else 0x0103

/-! ### Session-relative objects (R56, R67, R71) -/

/-- The number of subentries in a staged set. -/
def Session.count (x : Session) : Nat := ((x.staged.map fun e => e.key).dedup).length

/-- R56, R71: the value a session reads of its own objects; the registers hold those of session 0. -/
def State.ownValue (s : State) (n key : Nat) : Option Int :=
  let x := s.session n
  if key = Obj.SessionOwnNumber then some n
  else if n = 0 then none
  else if key = Obj.CommitEdge then some x.edge
  else if key = Obj.CommitTime then some x.time
  else if key = Obj.CommitStatus then some x.status
  else if key = Obj.CommitFailObject then some x.failObj
  else if key = Obj.CommitFailPeer then some x.failPeer
  else if key = Obj.StagedCount then some x.count
  else if key = Obj.Cia402WindowAxis then some x.win0
  else if key = Obj.Cia402WindowAxis1 then some x.win1
  else none

/-- R50: objects that are session-relative and written directly only. -/
def sessionRelative (key : Nat) : Bool :=
  (0x201001 ≤ key && key ≤ 0x201006) || key == 0x201008 || key == Obj.Cia402WindowAxis || key == Obj.Cia402WindowAxis1

/-! ### Values -/

/-- What an integer subentry reads as in a session. -/
def State.readInt (s : State) (n key : Nat) : Int :=
  match s.ownValue n key with
  | some v => v
  | none =>
    if key = Obj.TrellisTime then s.now
    else if key = Obj.TrellisTimeFraction then s.nowFrac
    else if key = Obj.SessionCount then s.sessions.length
    else if key = Obj.PendingCommits then s.commits.length
    else if 0x5000 ≤ key / 256 ∧ key / 256 < 0x6000 ∧ key % 256 = 1 then
      (slotEncode (s.slotType (key / 256 - 0x5000)) (s.slotPrev (key / 256 - 0x5000)) : Nat)
    else s.get key

/-- R70: the identity strings.
(DESIGN CHOICE, safe: log entry 6.) -/
def State.readString (s : State) (key : Nat) : List Byte :=
  if key = Obj.DeviceName then [0x53, 0x4B, 0x51, 0x2D, 0x36, 0x34, 0x31, 0x36]
  else if key = Obj.HardwareVersion then Config.hardwareVersion
  else Config.softwareVersion (s.nat Obj.BootBank)

/-- R309: `RowParameters` as it reads: the records of user kernels come from data memory. -/
def State.rowParameters (s : State) (off len : Nat) : List Byte :=
  let kernels := s.rowTable.filter fun d => d.kind == kindKernel
  (List.range len).map fun i =>
    match kernels.find? fun d => decide (d.recOff ≤ off + i ∧ off + i < d.recOff + d.recLen) with
    | some d => Memory.read s.mem (domAddr (kernelKey d.order) (off + i - d.recOff))
    | none => Memory.read s.mem (domAddr Obj.RowParameters (off + i))

/-- The bytes of an access to a DOMAIN object. -/
def State.readDomain (s : State) (key off len : Nat) : List Byte :=
  if key = Obj.FatalRecord then (s.fatalBytes.drop off).take len
  else if key = Obj.RowParameters then s.rowParameters off len
  else s.bytes key off len

/-- R49: the most a DOMAIN access transfers. -/
def domMax : Nat := 4194304

/-- R221: a read of a latch of a feedback channel: the next event overwrites nothing unread. -/
def State.latchRead (s : State) (i sub : Nat) : State :=
  if 0x4000 ≤ i ∧ i < 0x4200 then
    let c := (i - 0x4000) / 0x20
    let off := (i - 0x4000) % 0x20
    if off = 1 ∧ (sub = 3 ∨ sub = 4) then s.setFb c { s.fb c with indexUnread := false }
    else if off = 4 ∧ 2 ≤ sub ∧ sub ≤ 4 then s.setFb c { s.fb c with eventUnread := false }
    else s
  else s

/-- R52: a read of an RO-snap object. -/
def State.snapRead (s : State) (key size : Nat) : State :=
  match s.snap.last with
  | none => s.reply 0x0602
  | some c =>
    { s with resp := { status := 0, data := intLE size ((c.vals.lookup key).getD 0), time := c.time,
                       number := c.time / 1000000 % 4294967296 } }

/-- A read of a subentry that exists, by its row. -/
def State.readRow (s : State) (n i sub off len : Nat) (r : Dict.Row) : State :=
  let key := i * 256 + sub
  if r.acc = .wo then s.reply 0x0202
  else if r.typ = .dom then
    (if domMax < len ∨ Dict.domSize key < off + len then s.reply 0x0303 else s.answer (s.readDomain key off len))
  else if off ≠ 0 then s.reply 0x0301
  else if r.typ = .str then s.answer ((s.readString key).take len)
  else if len ≠ Dict.size r.typ then s.reply 0x0205
  else if r.acc = .snap then s.snapRead key (Dict.size r.typ)
  else if r.typ = .record then
    (match execTsQueueEntryRead (i - 0x2110) s with | .next t => t | _ => s)
  else (s.latchRead i sub).answer (intLE (Dict.size r.typ) (s.readInt n key))

/-! ### The CiA 402 view (R71, R72) -/

/-- R71: the axis that a session sees in a window; no session sees the default axes (R67).
(DEDUCED, safe: log entry 13.) -/
def State.viewAxis (s : State) (n i : Nat) : Nat :=
  if n = 0 then (if i < 0x6800 then 0 else 1)
  else (if i < 0x6800 then (s.session n).win0 else (s.session n).win1) % 64

/-- The model's own register of the mode of operation of an axis, which maps no object.
(DESIGN CHOICE, unsafe: log entry 12.) -/
def viewModeKey (a : Nat) : Nat := (0x7000 + a) * 256 + 1

/-- The model's own register of the target torque of an axis in the view, which maps no object.
(DESIGN CHOICE, unsafe: log entry 12.) -/
def viewTorqueKey (a : Nat) : Nat := (0x7000 + a) * 256 + 2

/-- R72: the CiA 402 status word of an axis state: Switch on disabled, Switched on, Operation enabled, Quick stop active
or Fault.
(DESIGN CHOICE, unsafe: log entry 12.) -/
def State.statusWord (s : State) (a : Nat) : Nat :=
  let st := s.get (Obj.AxisState a)
  if st = axDisabled then 0x0040
  else if st = axStandby then 0x0023
  else if st = axFaulted then 0x0008
  else if st = axStopping ∧ (s.axis a).quick = true then 0x0007
  else 0x0027

/-- R71: a torque in Q16.16 N·m in thousandths of rated torque, saturated. -/
def State.perMille (s : State) (a : Nat) (t : Int) : Int := satS 16 (qdiv (t * 1000) (s.get (Obj.RatedTorque a)))

/-- R71: the value of a view object for an axis by its index in window 0, with its size in bytes. -/
def State.viewRead (s : State) (a w : Nat) : Option (Nat × Int) :=
  if w = 0x6041 then some (2, s.statusWord a)
  else if w = 0x6060 ∨ w = 0x6061 then some (1, s.get (viewModeKey a))
  else if w = 0x6064 then some (4, sat32 (s.slotPrev (axisSlot a + 3) / 65536))
  else if w = 0x606C then some (4, s.slotPrev (axisSlot a + 4))
  else if w = 0x6071 then some (2, s.perMille a (s.get (viewTorqueKey a)))
  else if w = 0x6077 then some (2, s.perMille a (s.slotPrev (axisSlot a + 5)))
  else if w = 0x6076 then some (4, qdiv (s.get (Obj.RatedTorque a) * 1000) 65536)
  else if w = 0x607A then some (4, sat32 (s.get (Obj.AxisTargetPosition a) / 65536))
  else if w = 0x6081 then some (4, s.get (Obj.ProfileVelocity a))
  else if w = 0x6083 then some (4, s.get (Obj.ProfileAcceleration a))
  else if w = 0x6084 then some (4, s.get (Obj.ProfileDeceleration a))
  else if w = 0x60FF then some (4, s.get (Obj.AxisTargetVelocity a))
  else none

/-- The index in window 0 of a view index. -/
def viewIndex (i : Nat) : Nat := if i < 0x6800 then i else i - 0x800

/-- An index of the CiA 402 view. -/
def inView (i : Nat) : Bool := decide (0x6000 ≤ i ∧ i < 0x7000)

/-- A read of the view. -/
def State.viewReply (s : State) (n i sub off len : Nat) : State :=
  let w := viewIndex i
  if w = 0x6040 then s.reply (if sub = 0 then 0x0202 else 0x0102)
  else match s.viewRead (s.viewAxis n i) w with
    | none => s.reply 0x0101
    | some v =>
      if sub ≠ 0 then s.reply 0x0102
      else if off ≠ 0 then s.reply 0x0301
      else if len ≠ v.1 then s.reply 0x0205
      else s.answer (intLE v.1 v.2)

/-- Where a written view value goes: the native subentry, its bytes and a status. -/
structure ViewWrite where
  status : Nat
  key : Nat
  data : List Byte
  deriving DecidableEq, Repr

/-- R71: a written view value as the value of its native object. -/
def State.viewWrite (s : State) (n i sub : Nat) (data : List Byte) : ViewWrite :=
  let w := viewIndex i
  let a := s.viewAxis n i
  let bad := fun st => (⟨st, 0, []⟩ : ViewWrite)
  let v := leInt data.length data
  let u := leNat data
  match s.viewRead a w with
  | none => bad 0x0101
  | some x =>
    if sub ≠ 0 then bad 0x0102
    else if w = 0x6041 ∨ w = 0x6061 ∨ w = 0x6064 ∨ w = 0x606C ∨ w = 0x6077 then bad 0x0201
    else if data.length ≠ x.1 then bad 0x0205
    else if w = 0x6060 then
      (if v ∈ [1, 3, 6, 8, 9, 10] then ⟨0, viewModeKey a, data⟩ else bad 0x0301)
    else if w = 0x6071 then ⟨0, viewTorqueKey a, intLE 4 (sat32 (qdiv (v * s.get (Obj.RatedTorque a)) 1000))⟩
    else if w = 0x6076 then
      (if u = 0 then bad 0x0302
       else if qdiv ((u : Int) * 65536) 1000 < 1 ∨ 2147483647 < qdiv ((u : Int) * 65536) 1000 then bad 0x0301
       else ⟨0, Obj.RatedTorque a, intLE 4 (qdiv ((u : Int) * 65536) 1000)⟩)
    else if w = 0x607A then ⟨0, Obj.AxisTargetPosition a, intLE 8 (v * 65536)⟩
    else if w = 0x6081 then ⟨0, Obj.ProfileVelocity a, data⟩
    else if w = 0x6083 then ⟨0, Obj.ProfileAcceleration a, data⟩
    else if w = 0x6084 then ⟨0, Obj.ProfileDeceleration a, data⟩
    else ⟨0, Obj.AxisTargetVelocity a, data⟩

/-! ### Reading (R50, R52) -/

/-- A read request of a session.
(DEDUCED, safe: log entry 10.) -/
def State.readObject (s : State) (n i sub off len : Nat) : State :=
  if !s.sessionOk n then s.reply 0x0104
  else if !s.served i sub then s.reply 0x0701
  else if inView i then s.viewReply n i sub off len
  else if addrStatus i sub ≠ 0 then s.reply (addrStatus i sub)
  else match Dict.rowOf i sub with
    | some r => s.readRow n i sub off len r
    | none =>
      if off ≠ 0 then s.reply 0x0301 else if len ≠ 1 then s.reply 0x0205 else s.answer [BitVec.ofNat 8 (Dict.highestSub i)]

/-! ### Checks of a value by itself (R10, R49, R54, R64) -/

/-- The signed types. -/
def signedTyp (t : Dict.Typ) : Bool := t == .i8 || t == .i16 || t == .i32 || t == .i64

/-- The number that the bytes of a written value stand for. -/
def valueOf (t : Dict.Typ) (data : List Byte) : Int := if signedTyp t then leInt data.length data else leNat data

/-- R329: the codes of a digital source. -/
def digCode (v : Nat) : Bool :=
  let x := v % 256
  match v / 256 with
  | 0 => x == 0
  | 1 => x < 16
  | 2 => x < 16
  | 3 => x < 128 && x % 8 < 3
  | 4 => x < 8
  | 5 => x < 96
  | 6 => x < 32
  | 7 => x < 48
  | 8 => x < 64
  | _ => false

/-- Values that an object accepts. -/
def inRange (r : Dict.Range) (v : Int) : Bool :=
  match r with
  | .full => true
  | .between lo hi => decide (lo ≤ v ∧ v ≤ hi)
  | .digSource => digCode v.toNat
  | .betweenOr lo hi x => decide ((lo ≤ v ∧ v ≤ hi) ∨ v = x)
  | .oneOf l => l.contains v
  | .sticky m => v.toNat ||| m == m
  | .aligned n => v.toNat % n == 0
  | .etherType => decide (0x0600 ≤ v) && !(v == 0x8100 || v == 0x88F7 || v == 0xF1C1)
  | .spanMember => decide ((v % 256 < 64 ∧ v / 256 < 64) ∨ v = 0xFFFF)

/-- R49, R54: the status of a value by its type, zero rule and range. -/
def valueStatus (key off : Nat) (data : List Byte) (r : Dict.Row) : Nat :=
  if r.typ = .dom then (if domMax < data.length ∨ Dict.domSize key < off + data.length then 0x0303 else 0)
  else if off ≠ 0 then 0x0301
  else if r.typ = .str then (if data.isEmpty then 0x0205 else if 64 < data.length then 0x0303 else 0)
  else if data.length ≠ Dict.size r.typ then 0x0205
  else
    let v := valueOf r.typ data
    if r.typ = .bool ∧ ¬(v = 0 ∨ v = 1) then 0x0301
    else if r.zero ∧ v = 0 then 0x0302
    else if !inRange r.range v then 0x0301
    else 0

/-- R50: the status of a direct write by access class. -/
def directStatus (a : Dict.Acc) : Nat :=
  match a with
  | .ro | .snap => 0x0201
  | .rws => 0x0203
  | .sl => 0x0204
  | .rw | .wo => 0

/-- R50: the status of a stage request by access class. -/
def stageStatus (a : Dict.Acc) : Nat :=
  match a with
  | .ro | .snap | .wo => 0x0201
  | .sl => 0x0204
  | .rw | .rws => 0

end Sys2Proof.Machine
end

