-- ==== Sys2Proof/Machine/Loader.lean ====
section
/-! DEFINITION. The loader of user kernels (R310–R321): the fields of an instruction word, the checks of R319 and the
pipeline model of R320 and R321. -/

namespace Sys2Proof.Machine

/-! ### Instruction words (R310, R311) -/

/-- Bits `lo` up, `n` of them. -/
def bitsOf (w lo n : Nat) : Nat := w / 2 ^ lo % 2 ^ n

def opOf (w : Nat) : Nat := bitsOf w 26 6
def satOf (w : Nat) : Nat := bitsOf w 25 1
def rdOf (w : Nat) : Nat := bitsOf w 19 6
def raOf (w : Nat) : Nat := bitsOf w 13 6
def rbOf (w : Nat) : Nat := bitsOf w 7 6
def fnOf (w : Nat) : Nat := bitsOf w 0 7
def immOf (w : Nat) : Nat := bitsOf w 0 13

/-- A bundle: the instruction words of slots 0 and 1. -/
structure Bundle where
  w0 : Nat
  w1 : Nat
  deriving DecidableEq, Repr

/-- The image of a kernel (R310). -/
def State.kernelImage (s : State) (k : Nat) : List Bundle :=
  (List.range (s.nat (Obj.KernelLength k))).map fun i =>
    let x := s.uint (Obj.KernelImage k) (8 * i) 8
    ⟨x % 4294967296, x / 4294967296⟩

def isBranch (w : Nat) : Bool := decide (0x20 ≤ opOf w ∧ opOf w ≤ 0x24)
def isRep (w : Nat) : Bool := opOf w == 0x28
def isRet (w : Nat) : Bool := opOf w == 0x2F
def isFtap (w : Nat) : Bool := opOf w == 0x15

/-- The offset of a branch, signed. -/
def offsetOf (w : Nat) : Int := wrapS 13 (immOf w)

/-- The branch from bundle `b`: its target. -/
def targetOf (b w : Nat) : Nat := ((b : Int) + offsetOf w).toNat

/-! ### Checks 2 to 4 of R319, a bundle at a time -/

/-- Check 2: the opcode is in R312; unused fields, unnamed fn bits and bit 25 follow R311 and R312. -/
def wordClean (w : Nat) : Bool :=
  match opOf w with
  | 0x00 => w == 0
  | 0x01 | 0x02 | 0x07 | 0x10 | 0x16 => fnOf w == 0
  | 0x03 => true
  | 0x04 | 0x05 | 0x06 | 0x0B => satOf w == 0 && fnOf w == 0
  | 0x08 | 0x0C => satOf w == 0 && decide (fnOf w < 2)
  | 0x0D => satOf w == 0 && decide (fnOf w < 2) && rbOf w == 0
  | 0x09 | 0x18 | 0x19 | 0x1A | 0x1B => satOf w == 0
  | 0x11 => rdOf w == 0 && decide (fnOf w < 4)
  | 0x12 => rdOf w == 0 && decide (fnOf w < 2)
  | 0x13 => raOf w == 0 && rbOf w == 0
  | 0x14 => satOf w == 0 && rdOf w == 0 && rbOf w == 0 && decide (fnOf w < 4)
  | 0x15 => decide (fnOf w < 4)
  | 0x17 => satOf w == 0 && rbOf w == 0 && fnOf w == 0
  | 0x20 | 0x21 | 0x22 | 0x23 => satOf w == 0
  | 0x24 => satOf w == 0 && rdOf w == 0 && raOf w == 0
  | 0x28 => true
  | 0x2F => w == 0x2F * 67108864
  | _ => false

/-- Check 3: the slots that R312 permits, FTAP beside a NOP, and the destination of MAXI and MINI (R317). -/
def slotsOk (x : Bundle) : Bool :=
  !decide (0x18 ≤ opOf x.w0 ∧ opOf x.w0 ≤ 0x1B) &&
  (decide (opOf x.w1 ≤ 0x0B) || decide (0x18 ≤ opOf x.w1 ∧ opOf x.w1 ≤ 0x1B)) &&
  (!isFtap x.w0 || x.w1 == 0) &&
  (opOf x.w0 != 0x0D || (rdOf x.w0 % 2 == 0 && decide (2 ≤ rdOf x.w0 ∧ rdOf x.w0 ≤ 30)))

/-- The registers an instruction writes, 64 and 65 being acc0 and acc1. -/
def writesOf (w : Nat) : List Nat :=
  match opOf w with
  | 0x01 | 0x02 | 0x03 | 0x04 | 0x05 | 0x06 | 0x07 | 0x08 | 0x09 | 0x0B | 0x0C | 0x10 | 0x13 | 0x16 | 0x17 | 0x18 => [rdOf w]
  | 0x0D => [rdOf w, rdOf w + 1]
  | 0x11 | 0x14 => [64 + fnOf w % 2]
  | 0x12 => [64, 65]
  | 0x15 => [64 + fnOf w % 2, rdOf w]
  | 0x1A => [rdOf w, raOf w]
  | 0x1B => [raOf w]
  | _ => []

/-- Check 4: no register or accumulator twice.
(DESIGN CHOICE, unsafe: log entry 95.) -/
def writesOnce (x : Bundle) : Bool := decide ((writesOf x.w0 ++ writesOf x.w1).Nodup)

/-! ### Checks 5 to 7 -/

/-- Check 5: a branch goes forward by at least 3 and its target lies inside the image (R315). -/
def branchOk (len b : Nat) (x : Bundle) : Bool := !isBranch x.w0 || (decide (3 ≤ offsetOf x.w0) && decide (targetOf b x.w0 < len))

/-- Check 6: no branch, REP or RET in a delay slot. -/
def delayOk (l : List Bundle) (b : Nat) (x : Bundle) : Bool :=
  let flow := fun i => match l[i]? with | some y => isBranch y.w0 || isRep y.w0 || isRet y.w0 | none => false
  !isBranch x.w0 || (!flow (b + 1) && !flow (b + 2))

/-- The bodies of an image: REP bundle, first and last bundle. -/
def bodies (l : List Bundle) : List (Nat × Nat × Nat) :=
  l.zipIdx.filterMap fun p => if isRep p.1.w0 then some (p.2, p.2 + 1, p.2 + raOf p.1.w0) else none

/-- A bundle lies in a body. -/
def inBody (b : Nat) (y : Nat × Nat × Nat) : Bool := decide (y.2.1 ≤ b ∧ b ≤ y.2.2)

/-- Check 7: repeats lie inside the image and nest as R314 says; no branch or delay slot crosses a body boundary. -/
def repeatOk (l : List Bundle) (b : Nat) (x : Bundle) : Bool :=
  let outer := (bodies l).filter (inBody b)
  let rep := !isRep x.w0 ||
    (decide (1 ≤ raOf x.w0 ∧ b + raOf x.w0 < l.length ∧ outer.length ≤ 1) && outer.all fun y => decide (b + raOf x.w0 < y.2.2))
  let branch := !isBranch x.w0 ||
    (bodies l).all fun y => inBody b y == inBody (targetOf b x.w0) y && inBody b y == inBody (b + 2) y
  rep && branch

/-! ### The pipeline model (R320, R321) -/

/-- A point of a path: the cycle in which the next bundle issues at the earliest, when each register (physical number) and
each accumulator (64, 65 toward MAC, FTAP and CMAC; 66, 67 toward ACCR) is ready, when DIV and SQRT are free, and rof. -/
structure Pipe where
  time : Nat := 0
  ready : List (Nat × Nat) := []
  divFree : Nat := 0
  sqrtFree : Nat := 0
  rof : Nat := 0
  deriving DecidableEq, Repr

/-- R313: the physical register of a name. -/
def physOf (rof r : Nat) : Nat := if r < 32 ∨ 64 ≤ r then r else 32 + (r - 32 + rof) % 32

/-- What an instruction must wait for: registers, and accumulators as of `Pipe.ready`. -/
def readsOf (w : Nat) : List Nat :=
  match opOf w with
  | 0x01 | 0x02 | 0x04 | 0x05 | 0x06 | 0x07 | 0x08 | 0x0C | 0x10 | 0x16 => [raOf w, rbOf w]
  | 0x03 | 0x17 | 0x18 | 0x1A => [raOf w]
  | 0x0B => [rdOf w, raOf w, rbOf w]
  | 0x0D | 0x19 | 0x1B => [rdOf w, raOf w]
  | 0x11 | 0x15 => [64 + fnOf w % 2, raOf w, rbOf w]
  | 0x12 => [64, 65, raOf w, rbOf w]
  | 0x13 => [66 + bitsOf w 6 1]
  | 0x14 => if bitsOf w 1 1 = 1 then [raOf w] else []
  | 0x20 | 0x21 | 0x22 | 0x23 => [rdOf w, raOf w]
  | 0x28 => [rdOf w]
  | _ => []

/-- When the results of an instruction are ready, in cycles from its issue (R312). -/
def latencies (w : Nat) : List (Nat × Nat) :=
  match opOf w with
  | 0x01 | 0x02 | 0x03 | 0x04 | 0x05 | 0x06 | 0x07 | 0x08 | 0x09 | 0x0B | 0x0C | 0x13 => [(rdOf w, 1)]
  | 0x0D => [(rdOf w, 1), (rdOf w + 1, 1)]
  | 0x10 => [(rdOf w, 3)]
  | 0x11 => [(64 + fnOf w % 2, 1), (66 + fnOf w % 2, 3)]
  | 0x12 => [(64, 1), (65, 1), (66, 3), (67, 3)]
  | 0x14 => [(64 + fnOf w % 2, 1), (66 + fnOf w % 2, 1)]
  | 0x15 => [(64 + fnOf w % 2, 1), (66 + fnOf w % 2, 3), (rdOf w, 1)]
  | 0x16 => [(rdOf w, 34)]
  | 0x17 => [(rdOf w, 20)]
  | 0x18 => [(rdOf w, 2)]
  | 0x1A => [(rdOf w, 2), (raOf w, 1)]
  | 0x1B => [(raOf w, 1)]
  | _ => []

/-- When a register is ready. -/
def Pipe.at_ (p : Pipe) (r : Nat) : Nat := Sparse.get (fun _ => 0) p.ready (physOf p.rof r)

/-- The cycle in which a bundle issues. -/
def Pipe.issueAt (p : Pipe) (x : Bundle) : Nat :=
  let t := (readsOf x.w0 ++ readsOf x.w1).foldl (fun t r => if r = 0 then t else Nat.max t (p.at_ r)) p.time
  let t := if opOf x.w0 = 0x16 then Nat.max t p.divFree else t
  if opOf x.w0 = 0x17 then Nat.max t p.sqrtFree else t

/-- A bundle issues. -/
def Pipe.issue (p : Pipe) (x : Bundle) : Pipe :=
  let t := p.issueAt x
  { p with
    time := t + 1,
    ready := (latencies x.w0 ++ latencies x.w1).foldl (fun l y => Sparse.insert (physOf p.rof y.1) (t + y.2) l) p.ready,
    divFree := if opOf x.w0 = 0x16 then t + 34 else p.divFree,
    sqrtFree := if opOf x.w0 = 0x17 then t + 20 else p.sqrtFree }

/-- Where paths join, the latest of each time is carried forward.
(DESIGN CHOICE, unsafe: log entry 95.) -/
def Pipe.join (p q : Pipe) : Pipe :=
  { time := Nat.max p.time q.time,
    ready := q.ready.foldl (fun l y => Sparse.insert y.1 (Nat.max y.2 (Sparse.get (fun _ => 0) l y.1)) l) p.ready,
    divFree := Nat.max p.divFree q.divFree, sqrtFree := Nat.max p.sqrtFree q.sqrtFree, rof := p.rof }

/-- The walk over an image: the point reached in order, the branches that wait for their target, a branch whose delay slots
issue (target, whether always taken, slots left), the longest path to a RET, the spans of outermost repeats (REP bundle,
cycles), and the first bundle from which a path leaves the image. -/
structure Walk where
  cur : Option Pipe := some {}
  targets : List (Nat × Pipe) := []
  br : Option (Nat × Bool × Nat) := none
  bound : Nat := 0
  spans : List (Nat × Nat) := []
  deriving DecidableEq, Repr

/-- The paths that meet before bundle `b`. -/
def Walk.enter (w : Walk) (b : Nat) : Walk :=
  let here := (w.targets.filter fun y => y.1 == b).map fun y => y.2
  { w with
    cur := here.foldl (fun (c : Option Pipe) p => some (match c with | none => p | some q => q.join p)) w.cur,
    targets := w.targets.filter fun y => y.1 != b }

/-- Bundle `b` on every path through it, but for what a REP does. -/
def Walk.bundle (w : Walk) (b : Nat) (x : Bundle) : Walk :=
  let w := w.enter b
  match w.cur with
  | none => { w with br := none }
  | some p =>
    let q := p.issue x
    let w := { w with cur := some q }
    let w := match w.br with
      | some (target, always, left) =>
        if left ≤ 1 then { w with br := none, targets := (target, q) :: w.targets, cur := if always then none else some q }
        else { w with br := some (target, always, left - 1) }
      | none => w
    if isBranch x.w0 then { w with br := some (targetOf b x.w0, opOf x.w0 == 0x24, 2) }
    else if isRet x.w0 then { w with cur := none, bound := Nat.max w.bound q.time }
    else w

/-- R313: the end of an iteration of a body with the rot bit. -/
def Walk.rotate (w : Walk) (rot : Bool) : Walk :=
  if rot then { w with cur := w.cur.map fun p => { p with rof := (p.rof + 1) % 32 } } else w

/-- Walk the bundles `b` to `last` of an image, a repeat's body through `body` at its maximum count. -/
def walkWith (l : List Bundle) (outermost : Bool) (body : Nat → Nat → Walk → Walk) (last : Nat) : Nat → Nat → Walk → Walk
  | 0, _, w => w
  | fuel + 1, b, w =>
    if last < b then w
    else match l[b]? with
      | none => w
      | some x =>
        let w := w.bundle b x
        if isRep x.w0 then
          let len := raOf x.w0
          let start := match w.cur, l[b + 1]? with | some p, some y => p.issueAt y | _, _ => 0
          let w' := (List.range (if w.cur.isSome then immOf x.w0 else 0)).foldl
            (fun w _ => (body (b + 1) (b + len) w).rotate (satOf x.w0 == 1)) w
          let fin := match w'.cur with | some p => p.time | none => w'.bound
          let w' := if outermost && decide (0 < immOf x.w0) then { w' with spans := w'.spans ++ [(b, fin - start)] } else w'
          walkWith l outermost body last fuel (b + len + 1) w'
        else walkWith l outermost body last fuel (b + 1) w

/-- R314: repeats nest to two levels.
(DESIGN CHOICE, unsafe: log entry 95.) -/
def walkImage (l : List Bundle) : Walk :=
  let plain := fun first last w => walkWith l false (fun _ _ w => w) last (last + 1 - first) first w
  let inner := fun first last w => walkWith l false plain last (last + 1 - first) first w
  walkWith l true inner (l.length - 1) l.length 0 {}

/-! ### The verdict (R319) -/

/-- The cause and the first failing bundle of an image of `n` bundles (0, 0 when it passes), with its bound and span. -/
structure Verdict where
  cause : Nat
  bundle : Nat
  bound : Nat := 0
  span : Nat := 0
  deriving DecidableEq, Repr

/-- The first bundle that fails a check.
(DESIGN CHOICE, unsafe: log entry 95.) -/
def failsAt (l : List Bundle) (ok : Nat → Bundle → Bool) : Option Nat := (l.zipIdx.find? fun p => !ok p.2 p.1).map fun p => p.2

/-- R319: the checks in the order listed. -/
def verdict (l : List Bundle) : Verdict :=
  if l.isEmpty ∨ 2048 < l.length then ⟨1, 0, 0, 0⟩
  else match failsAt l fun _ x => wordClean x.w0 && wordClean x.w1 with
  | some b => ⟨2, b, 0, 0⟩
  | none => match failsAt l fun _ x => slotsOk x with
  | some b => ⟨3, b, 0, 0⟩
  | none => match failsAt l fun _ x => writesOnce x with
  | some b => ⟨4, b, 0, 0⟩
  | none => match failsAt l (branchOk l.length) with
  | some b => ⟨5, b, 0, 0⟩
  | none => match failsAt l (delayOk l) with
  | some b => ⟨6, b, 0, 0⟩
  | none => match failsAt l (repeatOk l) with
  | some b => ⟨7, b, 0, 0⟩
  | none =>
    let w := walkImage l
    let span := (w.spans.map fun y => y.2).foldl Nat.max 0
    if w.cur.isSome then ⟨8, l.length - 1, 0, 0⟩
    else match w.spans.find? fun y => 1024 < y.2 with
      | some y => ⟨9, y.1, 0, span⟩
      | none => ⟨0, 0, w.bound, span⟩

/-- The verdict on a kernel. -/
def State.kernelVerdict (s : State) (k : Nat) : Verdict := verdict (s.kernelImage k)

/-- R326: a kernel that uses DIV or SQRT. -/
def State.kernelDivides (s : State) (k : Nat) : Bool := (s.kernelImage k).any fun x => opOf x.w0 == 0x16 || opOf x.w0 == 0x17

end Sys2Proof.Machine
end

