-- ==== Sys2Proof/Machine/CommitRow.lean ====
section
/-! DEFINITION. What a commit check says of the row that would result (R19, R23–R33, R146, R183–R198, R203, R307,
R319, R326, R327, R495–R504) and its admission (R29, R30). -/

namespace Sys2Proof.Machine

/-- A failed commit check (R57): the status and what `CommitFailObject` and `CommitFailPeer` name. -/
structure Fail where
  status : Nat
  obj : Nat := 0
  peer : Nat := 0
  deriving DecidableEq, Repr

/-- A condition that a commit must meet. -/
def want (ok : Bool) (status : Nat) (obj : Nat := 0) (peer : Nat := 0) : Option Fail :=
  if ok then none else some ⟨status, obj, peer⟩

/-- The first failure of a list of checks. -/
def firstFail (l : List (Option Fail)) : Option Fail := l.findSome? id

/-- What a commit check sees (R494): the device now, the configuration with every pending commit applied, the one that
would result, and the objects that change. -/
structure Ctx where
  now : State
  old : State
  new : State
  changed : List Nat

/-- R494: an object changes. -/
def Ctx.has (c : Ctx) (k : Nat) : Bool := c.changed.contains k

/-- R494: an object of a list of objects changes. -/
def Ctx.hasAny (c : Ctx) (l : List Nat) : Bool := l.any c.has

/-! ### Entries and records -/

/-- The types of a loop value (R186, R191, R501). -/
def loopTypes : List Nat := [2, 6, 9, 10, 11, 12, 14]

/-- R23: a kind code of the table. -/
def kindListed (k : Nat) : Bool := decide (k ≤ 0x0D) || k == 0x10 || k == 0x11 || k == 0x80

/-- R24: kinds placed on sentry cores only, and on general cores only. -/
def sentryKind (k : Nat) : Bool := k == 0x10 || k == 0x11
def generalKind (k : Nat) : Bool := decide (4 ≤ k ∧ k ≤ 9)

/-- R495–R504: the record length of a primitive kind. -/
def recordLength (k : Nat) : Nat :=
  if k = 0 then 0 else if k = kindPI ∨ k = kindPID ∨ k = kindGainSum then 48
  else if k = kindBiquad ∨ k = kindLimiter then 24
  else if k = kindReaction ∨ k = kindSupervision then 16 else 8

/-- R23, R24, R327: an entry by itself.
(DESIGN CHOICE, unsafe: log entry 15.) -/
def State.entryFail (n : State) (d : Stitch) : Option Fail :=
  let ob := Obj.RowStitchTable
  firstFail
    [want (kindListed d.kind) 0x0301 ob, want (decide (d.core < 8 ∧ d.order < 1024)) 0x0301 ob,
     want (!(sentryKind d.kind && decide (d.core < 6)) && !(generalKind d.kind && decide (6 ≤ d.core))) 0x0402 ob,
     want (if d.kind = kindKernel then decide (d.kernel < 64) else d.kernel == 0xFF) 0x0402 ob,
     want (d.recOff % 8 == 0) 0x0402 ob,
     want (d.recLen == 0 || decide (d.recOff + d.recLen ≤ n.nat Obj.RowParamLength)) 0x0402 ob Obj.RowParamLength]

/-- Whether bytes `lo` to `hi` of a record are 0. -/
def State.recZero (n : State) (d : Stitch) (lo hi : Nat) : Bool :=
  (n.bytes Obj.RowParameters (d.recOff + lo) (hi + 1 - lo)).all fun b => b == 0

/-- An axis named by a source: 0–63 with a source, 0xFF inline. -/
def axisField (src a : Nat) : Bool := if src = 0 then a == 0xFF else decide (a < 64)

/-- R497: the record of a PI or PID stitch; R188 names the statuses of alpha. -/
def State.pidRecord (n : State) (d : Stitch) : Option Fail :=
  let u := n.recU d
  let pa := Obj.RowParameters
  let bad := fun ok => want ok 0x0402 pa
  let src := u 0 1
  firstFail
    ([bad (decide (src ≤ 2)), bad (axisField src (u 1 1)), bad (loopTypes.contains (u 2 1)), bad (decide (u 3 1 ≤ 3)),
      bad (src == 0 || u 2 1 == (if src = 1 then 9 else 14))] ++
     (if src = 0 then
       [bad (d.kind == kindPID || u 12 4 == 0), want (u 20 4 != 0) 0x0302 pa, want (decide (u 20 4 ≤ 1073741824)) 0x0301 pa,
        bad (decide (u 28 1 ≤ 62 ∧ u 29 1 ≤ 62 ∧ u 30 1 ≤ 62 ∧ u 31 1 ≤ 62))]
      else [bad (n.recZero d 4 47)]))

/-- R192: a filter whose coefficients of type 1 are stable. -/
def stable (a1 a2 : Int) : Bool := decide (a2.natAbs < 1073741824 ∧ (a1.natAbs : Int) < 1073741824 + a2)

/-- R498, R192: the record of a biquad. -/
def State.biquadRecord (n : State) (d : Stitch) : Option Fail :=
  let u := n.recU d
  let bad := fun ok => want ok 0x0402 Obj.RowParameters
  let src := u 0 1
  firstFail
    [bad (decide (src ≤ 2)), bad (loopTypes.contains (u 1 1)), bad (axisField src (u 2 1)), bad (decide (u 3 1 ≤ 1)),
     bad (src == 0 || n.recZero d 3 23),
     bad (!(src == 0 && u 3 1 == 1) || stable (n.recI d 16 4) (n.recI d 20 4))]

/-- R499: the record of a limiter. -/
def State.limiterRecord (n : State) (d : Stitch) : Option Fail :=
  let u := n.recU d
  let bad := fun ok => want ok 0x0402 Obj.RowParameters
  firstFail
    [bad (decide (u 0 1 ≤ 2)), bad (loopTypes.contains (u 1 1)), bad (axisField (u 0 1) (u 2 1)), bad (n.recZero d 3 7),
     bad (u 0 1 == 0 || n.recZero d 8 23)]

/-- R144, R496: the stitch kind that runs a graft of a kind: 5 for gear and phase trim, 6 for cam and clutch. -/
def graftStitch (gk : Nat) : Nat := if gk = 1 ∨ gk = 3 then kindGraftGear else if gk = 2 ∨ gk = 4 then kindGraftCam else 0

/-- R496: the instance that kinds 4 to 9 name. -/
def State.instanceRecord (n : State) (d : Stitch) : Option Fail :=
  let b := n.recU d 0 1
  let ok :=
    if d.kind = kindProfile then decide (b < 64)
    else if d.kind = kindGraftGear ∨ d.kind = kindGraftCam then decide (b < 128) && graftStitch (n.nat (Obj.GraftKind b)) == d.kind
    else if d.kind = kindSpan then decide (b < 8 ∧ n.nat (Obj.SpanHome b) ≠ 0xFF) && n.nat (Obj.SpanHome b) == n.nat Obj.JzPosition
    else if d.kind = kindFieldSetpoint then decide (b < 16)
    else decide (16 ≤ b ∧ b < 64)
  firstFail [want ok 0x0402 Obj.RowParameters, want (n.recZero d 1 7) 0x0402 Obj.RowParameters]

/-- R495–R504: the record of a stitch. -/
def State.recordFail (n : State) (d : Stitch) : Option Fail :=
  let u := n.recU d
  let bad := fun ok => want ok 0x0402 Obj.RowParameters
  if d.kind = kindKernel then none
  else if d.recLen ≠ recordLength d.kind then some ⟨0x0402, Obj.RowParameters, 0⟩
  else if d.kind = kindPI ∨ d.kind = kindPID then n.pidRecord d
  else if d.kind = kindBiquad then n.biquadRecord d
  else if d.kind = kindLimiter then n.limiterRecord d
  else if generalKind d.kind then n.instanceRecord d
  else if d.kind = kindSelector then firstFail [bad (decide (1 ≤ u 0 1 ∧ u 0 1 ≤ 14)), bad (n.recZero d 1 7)]
  else if d.kind = kindGainSum then
    firstFail
      [bad (loopTypes.contains (u 0 1)), bad (n.recZero d 1 7),
       bad ((List.range 8).all fun j =>
         decide (u (40 + j) 1 ≤ 62) && (d.wired j || (u (8 + 4 * j) 4 == 0 && u (40 + j) 1 == 0)))]
  else if d.kind = kindGlue then
    firstFail
      [bad (decide (u 0 1 < 8 ∧ 1 ≤ u 1 1 ∧ u 1 1 ≤ 4 ∧ 1 ≤ u 2 1 ∧ u 2 1 ≤ 3)), bad (n.recZero d 3 3),
       bad ((u 1 1 == 4) == (u 4 2 != 0)), bad (n.recZero d 6 7)]
  else if d.kind = kindReaction then
    firstFail [bad (u 0 1 ∈ [8, 16, 24]), bad (n.recZero d 1 7), bad (u 8 8 != 0)]
  else if d.kind = kindSupervision then
    firstFail [bad (decide (u 0 1 < 16)), bad (n.recZero d 1 3), bad (n.recZero d 10 15)]
  else none

/-! ### Ports (R25, R185, R186) -/

/-- A port of a stitch: its slot, the types it takes and whether it must be wired. -/
structure Port where
  slot : Nat
  types : List Nat
  must : Bool
  deriving DecidableEq, Repr

/-- The ports of a PI or PID stitch (R185, R186). -/
def State.pidPorts (n : State) (d : Stitch) : List Port :=
  let t0 := n.slotType (d.input 0)
  let o := n.recU d 2 1
  [⟨d.input 0, 8 :: loopTypes, true⟩, ⟨d.input 1, [t0], true⟩, ⟨d.input 2, if t0 = 8 then [9] else [], false⟩,
   ⟨d.input 3, 8 :: loopTypes, false⟩, ⟨d.input 4, [o], false⟩, ⟨d.input 5, [1], false⟩, ⟨d.input 6, [o], false⟩,
   ⟨d.input 7, [o], false⟩, ⟨d.output 0, [o], false⟩, ⟨d.output 1, [t0], false⟩, ⟨d.output 2, [1], false⟩, ⟨d.output 3, [o], false⟩]

/-- The ports of a stitch by its kind; a user kernel takes any type. -/
def State.portsOf (n : State) (d : Stitch) : List Port :=
  let k := d.kind
  let u := n.recU d
  let pos := [⟨d.output 0, [8], false⟩, ⟨d.output 1, [9], false⟩, ⟨d.output 2, [10], false⟩]
  if k = kindPI ∨ k = kindPID then n.pidPorts d
  else if k = kindBiquad then [⟨d.input 0, [u 1 1], false⟩, ⟨d.output 0, [u 1 1], false⟩]
  else if k = kindProfile ∨ k = kindGraftGear ∨ k = kindGraftCam then pos
  else if k = kindFieldSetpoint then [⟨d.input 0, [11, 14], false⟩, ⟨d.input 1, [11], false⟩, ⟨d.input 2, [1], false⟩]
  else if k = kindNetSetpoint then
    [⟨d.input 0, if n.nat (Obj.NetAxisKind (u 0 1)) = 3 then [9] else [14], false⟩, ⟨d.input 1, [10], false⟩,
     ⟨d.input 2, [1], false⟩]
  else if k = kindGlue then [⟨d.input 0, [1], false⟩, ⟨d.input 1, [4], false⟩, ⟨d.output 0, [1], false⟩, ⟨d.output 1, [13], false⟩]
  else if k = kindLimiter then
    [⟨d.input 0, [u 1 1], false⟩, ⟨d.input 1, [u 1 1], false⟩, ⟨d.input 2, [u 1 1], false⟩, ⟨d.output 0, [u 1 1], false⟩,
     ⟨d.output 1, [1], false⟩]
  else if k = kindSelector then
    [⟨d.input 0, [1, 3], false⟩, ⟨d.input 1, [u 0 1], true⟩] ++
      ((List.range 6).map fun j => ⟨d.input (2 + j), [u 0 1], false⟩) ++ [⟨d.output 0, [u 0 1], false⟩, ⟨d.output 1, [1], false⟩]
  else if k = kindGainSum then
    ((List.range 8).map fun j => ⟨d.input j, [2, 6, 8, 9, 10, 11, 12, 14], false⟩) ++
      [⟨d.output 0, [u 0 1], false⟩, ⟨d.output 1, [1], false⟩]
  else if k = kindReaction then [⟨d.input 0, [1], false⟩, ⟨d.output 0, [1], false⟩]
  else if k = kindSupervision then [⟨d.input 0, [8], false⟩, ⟨d.output 0, [1], false⟩, ⟨d.output 1, [3], false⟩]
  else []

/-- R25: a slot that exists and is used. -/
def State.slotUsed (n : State) (slot : Nat) : Bool := decide (slot < 4096) && n.slotType slot != 0

/-- The `SlotType` object a failure names. -/
def slotPeer (slot : Nat) : Nat := if slot < 4096 then Obj.SlotType slot else 0

/-- R25, R185, R186, R198: the wiring of a stitch.
(DESIGN CHOICE, unsafe: log entry 23.) -/
def State.wiringFail (n : State) (d : Stitch) : Option Fail :=
  let ob := Obj.RowStitchTable
  firstFail
    ([(d.inputs ++ d.outputs).findSome? fun w => want (w == unwired || n.slotUsed w) 0x0402 ob (slotPeer w),
      (n.portsOf d).findSome? fun p =>
        want (if p.slot = unwired then !p.must else p.types.contains (n.slotType p.slot)) 0x0402 ob (slotPeer p.slot)] ++
     (if d.kind = kindPI ∨ d.kind = kindPID then
       [want (n.recU d 3 1 == 0 || (n.slotType (d.input 0) == 8 && d.wired 2)) 0x0402 ob Obj.RowParameters] else []) ++
     (if d.kind = kindNetSetpoint then
       [want (n.nat (Obj.NetAxisKind (n.recU d 0 1)) != 0) 0x0402 ob (Obj.NetAxisKind (n.recU d 0 1))] else []))

/-! ### Writers of slots (R25, R183, R203) -/

/-- R203: the slot type of a trace node. -/
def traceType (node : Nat) : Nat := if node = 8 then 8 else if 5 ≤ node then 14 else 9

/-- The slots of a list that occur twice. -/
def firstTwice : List Nat → Option Nat
  | [] => none
  | x :: t => if t.contains x then some x else firstTwice t

/-- R25: two writers of a slot; R183: a latch slot of an axis has no other writer and keeps its type. -/
def State.writersFail (n : State) : Option Fail :=
  let ob := Obj.RowStitchTable
  let w := n.writers
  firstFail
    [(firstTwice w).map fun x => ⟨0x0402, ob, slotPeer x⟩,
     (w.find? Dict.isLatchSlot).map fun x => ⟨0x0402, ob, slotPeer x⟩,
     (w.find? fun x => !n.slotUsed x).map fun x => ⟨0x0402, ob, slotPeer x⟩,
     ((List.range 1024).find? fun i => Dict.isLatchSlot (0x400 + i) && n.get (Obj.SlotType (0x400 + i)) != Dict.latchType (0x400 + i)).map
       fun i => ⟨0x0402, Obj.SlotType (0x400 + i), 0⟩]

/-- R203: a trace. -/
def State.traceFail (n : State) : Option Fail :=
  n.traces.findSome? fun x =>
    want (n.slotType x.2.2 == traceType x.2.1 && (n.traceOwner x.1 x.2.1).isSome) 0x0402 (Obj.LoopTraceSlot x.1 0)
      (slotPeer x.2.2)

/-! ### Rules over the whole row -/

/-- R327: records that overlap. -/
def recordsOverlap : List (Nat × Nat) → Bool
  | [] => false
  | x :: t => t.any (fun y => decide (x.1 < y.2 ∧ y.1 < x.2)) || recordsOverlap t

/-- R327, R496: no order and no instance twice, no records that overlap. -/
def State.tableFail (n : State) : Option Fail :=
  let l := n.rowTable
  let named := (l.filter fun d => generalKind d.kind).map fun d => d.kind * 256 + n.recU d 0 1
  let recs := (l.filter fun d => d.recLen != 0).map fun d => (d.recOff, d.recOff + d.recLen)
  firstFail
    [want (firstTwice (l.map fun d => d.order)).isNone 0x0402 Obj.RowStitchTable,
     want (!recordsOverlap recs) 0x0402 Obj.RowStitchTable Obj.RowParameters,
     want (firstTwice named).isNone 0x0402 Obj.RowStitchTable Obj.RowParameters]

/-- The kernels that a list of stitches names, each once. -/
def kernelsOf (l : List Stitch) : List Nat := ((l.filter fun d => d.kind == kindKernel).map fun d => d.kernel).dedup

/-- R307: what a core holds: its kernels' bundles and its records' bytes. -/
def State.instrUsed (n : State) (c : Nat) : Nat :=
  ((kernelsOf (n.rowTable.filter fun d => d.core == c)).map fun k => n.nat (Obj.KernelLength k)).sum

def State.dataUsed (n : State) (c : Nat) : Nat :=
  ((n.rowTable.filter fun d => d.core == c).map fun d => d.recLen).sum

/-- R326: the used vectors of a sentry core: the kernels that answer. -/
def State.vectorKernels (n : State) (s : Nat) : List Nat :=
  (List.range 8).filterMap fun v =>
    if n.nat (Obj.SentryVectorSource s v) ≠ 0xFFFF ∧ n.nat (Obj.SentryVectorKernel s v) ≠ 0xFF then
      some (n.nat (Obj.SentryVectorKernel s v)) else none

/-- R326: a vector names a source and a kernel, or neither; the kernel is not empty.
(DESIGN CHOICE, unsafe: log entry 23.) -/
def State.vectorFail (n : State) : Option Fail :=
  (List.range 16).findSome? fun x =>
    let s := x / 8
    let v := x % 8
    let src := n.nat (Obj.SentryVectorSource s v) != 0xFFFF
    let k := n.nat (Obj.SentryVectorKernel s v)
    firstFail
      [want (src == (k != 0xFF)) 0x0402 (Obj.SentryVectorSource s v) (Obj.SentryVectorKernel s v),
       want (k == 0xFF || n.nat (Obj.KernelLength k) != 0) 0x0402 (Obj.SentryVectorKernel s v) (Obj.KernelLength k)]

/-- The kernels that the row or a vector names. -/
def State.namedKernels (n : State) : List Nat := (kernelsOf n.rowTable ++ n.vectorKernels 0 ++ n.vectorKernels 1).dedup

/-- R319: the verdicts of the loader. -/
def State.kernelFail (n : State) : Option Fail :=
  n.namedKernels.findSome? fun k => want ((n.kernelVerdict k).cause == 0) 0x0402 (Obj.KernelImage k)

/-- R307: the capacity of a core.
(DEDUCED, unsafe: log entry 25.) -/
def State.capacityFail (n : State) : Option Fail :=
  (List.range 8).findSome? fun c =>
    want (decide (n.instrUsed c ≤ 3072 ∧ n.dataUsed c ≤ 57344)) 0x0402 Obj.RowStitchTable

/-- R146: the order of a graft's stitch is above that of its master's producer. -/
def State.graftOrderFail (n : State) : Option Fail :=
  let l := n.rowTable
  let run := fun k => l.find? fun d => (d.kind == kindGraftGear || d.kind == kindGraftCam) && n.recU d 0 1 == k
  let profile := fun a => l.find? fun d => d.kind == kindProfile && n.recU d 0 1 == a
  (List.range 128).findSome? fun k =>
    match run k with
    | none => none
    | some d =>
      let src := n.nat (Obj.GraftMasterSource k)
      let m := n.nat (Obj.GraftMasterNumber k)
      let p := if src = 1 then profile m else if src = 3 then run m else if src = 6 then n.producerOf m else none
      want (match p with | some x => decide (x.order < d.order) | none => true) 0x0402 Obj.RowStitchTable (Obj.GraftMasterNumber k)

/-- R33: an empty row while an axis is not Disabled, judged when the row changes.
(DESIGN CHOICE, unsafe: log entry 24.) -/
def Ctx.emptyRowFail (c : Ctx) : Option Fail :=
  let row := [Obj.RowStitchTableLength, Obj.RowStitchTable, Obj.RowParamLength, Obj.RowParameters]
  want (!c.hasAny row || c.new.rowTable.any (fun d => d.kind != 0) || allAxes.all fun a => c.now.get (Obj.AxisState a) == axDisabled)
    0x0402 Obj.RowStitchTable

/-- R19: `TickInputWindow` is at most T/4. -/
def State.windowFail (n : State) : Option Fail :=
  want (decide (n.nat Obj.TickInputWindow * 4 ≤ n.tNs)) 0x0402 Obj.TickInputWindow Obj.TickPeriod

/-- The rules of step 6 that the row's objects meet. -/
def Ctx.rowFail (c : Ctx) : Option Fail :=
  let n := c.new
  let l := n.rowTable
  firstFail
    [n.windowFail, c.emptyRowFail, l.findSome? n.entryFail, n.tableFail, l.findSome? n.recordFail,
     l.findSome? n.wiringFail, n.traceFail, n.writersFail, n.graftOrderFail, n.capacityFail, n.vectorFail, n.kernelFail]

/-! ### Structure (R31) -/

/-- The structure of an entry: kind, core, order, wiring and kernel. -/
def Stitch.structure_ (d : Stitch) : Stitch := { d with recLen := 0, recOff := 0 }

/-- R31: a kernel's image or length changes. -/
def Ctx.kernelChanged (c : Ctx) (d : Stitch) : Bool :=
  d.kind == kindKernel && (c.has (Obj.KernelLength d.kernel) || c.has (Obj.KernelImage d.kernel))

/-- R31: the stitches that are changed, added or removed, as they stand in a row. -/
def Ctx.changedStitches (c : Ctx) (mine other : List Stitch) : List Stitch :=
  (mine.zipIdx.filter fun p =>
    c.kernelChanged p.1 || (match other[p.2]? with | some e => decide (p.1.structure_ ≠ e.structure_) | none => true)).map
    fun p => p.1

/-- The stitches that read a slot which a stitch of the list writes, directly or through others. -/
def State.reach (n : State) (row : List Stitch) : Nat → List Stitch → List Stitch
  | 0, l => l
  | fuel + 1, l =>
    let outs := l.flatMap n.writesOf
    let reads := fun (d : Stitch) => d.inputs ++ n.objectSlots d
    let more := row.filter fun d => !l.contains d && (reads d).any fun w => outs.contains w
    if more.isEmpty then l else n.reach row fuel (l ++ more)

/-- R31: the axes concerned in a row by stitches of it. -/
def State.concerned (n : State) (l : List Stitch) : List Nat :=
  ((n.reach n.rowTable n.rowTable.length l).flatMap n.stitchAxes).dedup

/-- R31: the structural change of a row in Run and Halt. -/
def Ctx.structureFail (c : Ctx) : Option Fail :=
  if c.now.get Obj.DeviceState = devRun ∨ c.now.get Obj.DeviceState = devHalt then
    let o := c.old.rowTable
    let n := c.new.rowTable
    let axes := c.old.concerned (c.changedStitches o n) ++ c.new.concerned (c.changedStitches n o)
    want (axes.all fun a => decide (c.now.get (Obj.AxisState a) = axDisabled ∨ c.now.get (Obj.AxisState a) = axStandby))
      0x0701 Obj.RowStitchTable
  else none

/-! ### Admission (R29, R30) -/

/-- R23: the worst-case cost of a stitch in cycles. -/
def State.costOf (n : State) (d : Stitch) : Nat :=
  let k := d.kind
  if k = 0 then 0 else if k = 1 then 56 else if k = 2 then 68 else if k = 3 then 40 else if k = 4 then 104
  else if k = 5 then 96 else if k = 6 then 144
  else if k = 7 then 200 + 4 * n.nat (Obj.SpanStateCount (n.recU d 0 1)) ^ 2
  else if k = 8 then 48 else if k = 9 then 56 else if k = 0x0A then 32 else if k = 0x0B then 24 else if k = 0x0C then 20
  else if k = 0x0D then 16 + 4 * ((List.range 8).filter d.wired).length
  else if k = 0x10 then 64 else if k = 0x11 then 80 else (n.kernelVerdict d.kernel).bound + 12

/-- R326: `SentryReserve` of sentry core `s`. -/
def State.reserveOf (n : State) (s : Nat) : Nat :=
  ((n.vectorKernels s).map fun k => (n.kernelVerdict k).bound + 4 + (if n.kernelDivides k then 34 else 0)).sum

/-- Cycles from row start (250 ns after the edge) to a time after the edge, rounded up. -/
def cyclesAt (ns : Nat) : Nat := ceilDiv ((ns - 250) * 4) 5

/-- Put a stitch in its place by order. -/
def byOrder (d : Stitch) : List Stitch → List Stitch
  | [] => [d]
  | x :: t => if d.order < x.order then d :: x :: t else x :: byOrder d t

/-- R29: the slots that network or Jorzer frames feed: the torque slot of a network axis, its position and velocity slots when
they are latched from its status record, and the host slots of the write image.
(DEDUCED, unsafe: log entry 29.) -/
def State.networkSlot (n : State) (w : Nat) : Bool :=
  let a := (w - 0x400) / 16
  (decide (0x500 ≤ w) && Dict.isLatchSlot w && (w % 16 == 5 || (decide (w % 16 = 3 ∨ w % 16 = 4) && n.get (Obj.FbSource a) == 2))) ||
    ((List.range (n.nat Obj.PiMapLength)).any fun i => n.uint Obj.PiMap (8 * i) 2 == w && n.uint Obj.PiMap (8 * i + 2) 1 == 1)

/-- R29: a stitch whose object reads a network or Jorzer input: a graft with a remote master, a span group with members on
other devices. -/
def State.networkStitch (n : State) (d : Stitch) : Bool :=
  let b := n.recU d 0 1
  ((d.kind == kindGraftGear || d.kind == kindGraftCam) && (n.get (Obj.GraftMasterSource b) == 4 || n.get (Obj.GraftMasterSource b) == 5)) ||
    (d.kind == kindSpan && (List.range (n.nat (Obj.SpanMemberCount b))).any fun i => n.nat (Obj.SpanMember b i) / 256 != n.nat Obj.JzPosition)

/-- R29: the latch slots that a stitch's object reads: the measured master of a graft and the load cells and members of a span. -/
def State.objectLatches (n : State) (d : Stitch) : List Nat :=
  let b := n.recU d 0 1
  if (d.kind = kindGraftGear ∨ d.kind = kindGraftCam) ∧ n.get (Obj.GraftMasterSource b) = 2 then
    [axisSlot (n.nat (Obj.GraftMasterNumber b)) + 3, axisSlot (n.nat (Obj.GraftMasterNumber b)) + 4]
  else n.objectSlots d

/-- R212, R29: the ready time in ns of the SSI channel that feeds a slot.
(DEDUCED, unsafe: log entry 29.) -/
def State.slotReady (n : State) (w : Nat) : Nat :=
  if Dict.isLatchSlot w && decide (w % 16 = 3 ∨ w % 16 = 4) then
    let a := (w - 0x400) / 16
    let c := n.nat (Obj.FbChannelNumber a)
    if n.get (Obj.FbSource a) = 1 ∧ 5 ≤ n.get (Obj.FbType c) then n.ssiReady c (n.nat (Obj.SsiLineDelay c)) else 0
  else 0

/-- R29: a row's schedule: the finish of each core so far and of each stitch (order, cycles from row start). -/
structure Sched where
  cores : List Nat := List.replicate 8 0
  fins : List (Nat × Nat) := []
  deriving DecidableEq, Repr

/-- R29: one stitch in order. -/
def State.place (n : State) (row : List Stitch) (p : Sched) (d : Stitch) : Sched :=
  if d.kind = 0 then p
  else
    let cut := cyclesAt (n.nat Obj.TickInputWindow)
    let waits := (n.producersOf row d).filterMap fun x => p.fins.lookup x.order
    let inputs := ((d.inputs.filter fun w => w != unwired) ++ n.objectLatches d).map fun w =>
      Nat.max (if n.networkSlot w then cut else 0) (cyclesAt (n.slotReady w))
    let t := (waits ++ inputs).foldl Nat.max (Nat.max (p.cores.getD d.core 0) (if n.networkStitch d then cut else 0))
    let f := t + n.costOf d
    { cores := p.cores.set d.core f, fins := (d.order, f) :: p.fins }

/-- R29: the schedule of the row. -/
def State.rowSchedule (n : State) : Sched :=
  let row := n.rowTable
  (row.foldr byOrder []).foldl (n.place row) {}

/-- R29, R326: the finish of a core. -/
def State.coreLoad (n : State) (p : Sched) (c : Nat) : Nat :=
  p.cores.getD c 0 + 160 + (if 6 ≤ c then n.reserveOf (c - 6) else 0)

/-- R30: 0.9·T in cycles. -/
def State.budget (n : State) : Nat := cyclesPerTick (n.nat Obj.TickPeriod) * 9 / 10

/-- R104, R159: the masters that this device publishes: the position slots of the used entries. -/
def State.masterSlots (n : State) : List Nat :=
  ((List.range 32).map fun j => n.nat (Obj.MasterPublishPosition j)).filter fun w => w != unwired

/-- R379, R380: the slots of a process-image direction among map entries (slot, direction, offset), 8 bytes each. -/
def imageBytes (l : List (Nat × Nat × Nat)) (dir : Nat) : Nat := 8 * (l.filter fun e => e.2.1 == dir).length

/-- R379: this device's process-image map: slot, direction, offset. -/
def State.piMap (n : State) : List (Nat × Nat × Nat) :=
  (List.range (n.nat Obj.PiMapLength)).map fun i => (n.uint Obj.PiMap (8 * i) 2, n.uint Obj.PiMap (8 * i + 2) 1, n.uint Obj.PiMap (8 * i + 4) 4)

/-- R357: the exchange records that the row's objects make this device send to a position on the chain each tick, in bytes
with their group headers: network-axis setpoints, span trims or span w and y with the tag, and process-image slots (R380). -/
def State.chainBytes (n : State) (p : Nat) : Nat :=
  let own := n.nat Obj.JzPosition
  let axes := (n.rowTable.filter fun d => d.kind == kindNetSetpoint && n.nat (Obj.NetAxisPath (n.recU d 0 1)) == 1 &&
    n.nat (Obj.NetAxisAddress (n.recU d 0 1)) == p).length
  let spans := (List.range 8).map fun g =>
    let on := fun q => ((List.range (n.nat (Obj.SpanMemberCount g))).filter fun i => n.nat (Obj.SpanMember g i) / 256 == q).length
    if p = own then 0
    else if n.nat (Obj.SpanHome g) = own ∧ on p ≠ 0 then 4 + 8 * on p
    else if n.nat (Obj.SpanHome g) = p ∧ on own ≠ 0 then 16 + 8 * on own
    else 0
  let image := if p = own ∨ 64 ≤ own then 0 else if p = 0 then imageBytes n.piMap 2
    else if own = 0 then imageBytes ((n.jz.images.lookup p).getD []) 1 else 0
  (if axes = 0 then 0 else 4 + 16 * axes) + spans.sum + image

/-- R359: the worst-case transit of a cyclic frame of this device to a position: every cyclic frame that it sends in that direction,
its own length among them (a broadcast frame of masters goes both ways), and the hops; the frames of other devices are
`Config.chainLoad`.
(DESIGN CHOICE, safe: log entry 27.) -/
def State.chainTransit (n : State) (p : Nat) : Nat :=
  let own := n.nat Obj.JzPosition
  let frames := (List.range 64).filter fun q => decide (own < q) == decide (own < p) && n.chainBytes q != 0
  let masters := if n.masterSlots.isEmpty then 0 else 2 * (4 + 32 * n.masterSlots.length + 24)
  let hops := if own < p then p - own else own - p
  ((frames.map fun q => 2 * (n.chainBytes q + 24)).sum) + masters + hops * 340 + Config.chainLoad p

/-- R92, R97: the worst-case transit of a plant frame whose records hold a number of bytes to a plant address: its transmission and a
store-and-forward at every relay on the way.
(DESIGN CHOICE, safe: log entry 27.) -/
def State.plantTransit (n : State) (records addr : Nat) : Nat :=
  let l := (46 + (if n.flag Obj.FrerEnable then 6 else 0) + records) * (if Config.plantSlow then 80 else 8)
  l + Config.plantHops addr * (l + 300)

/-- R30: the frames that a stitch feeds: whether each needs the chain, and its worst-case transit. `joined` says that this device is
on the chain. -/
def State.frameTransits (n : State) (joined : Bool) (d : Stitch) : List (Bool × Nat) :=
  let own := n.nat Obj.JzPosition
  let ax := n.recU d 0 1
  let addr := n.nat (Obj.NetAxisAddress ax)
  let mates := (n.rowTable.filter fun e => e.kind == kindNetSetpoint && n.nat (Obj.NetAxisPath (n.recU e 0 1)) != 1 &&
    n.nat (Obj.NetAxisAddress (n.recU e 0 1)) == addr).length
  let master := n.masterSlots.any fun w => (n.writesOf d).contains w
  (if d.kind = kindNetSetpoint then
     [if n.nat (Obj.NetAxisPath ax) = 1 then (true, n.chainTransit addr) else (false, n.plantTransit (16 * mates) addr)]
   else if d.kind = kindSpan then
     (((List.range (n.nat (Obj.SpanMemberCount ax))).map fun i => n.nat (Obj.SpanMember ax i) / 256).filter fun p => p != own).map
       fun p => (true, n.chainTransit p)
   else []) ++
  (if master then
     (false, n.plantTransit (32 * n.masterSlots.length) 65536) ::
       (if joined then ((List.range (n.nat Obj.JzChainLength)).filter fun p => p != own).map fun p => (true, n.chainTransit p) else [])
   else [])

/-- R30: every frame leaves in time. A row that needs the chain is refused while this device is not in `JzState` 2 (R359).
(DESIGN CHOICE, safe: log entry 27.) -/
def Ctx.transportOk (c : Ctx) (p : Sched) : Bool :=
  let n := c.new
  let joined := c.now.get Obj.JzState == 2
  n.rowTable.all fun d => (n.frameTransits joined d).all fun f =>
    let fin := 250 + ceilDiv ((p.fins.lookup d.order).getD 0 * 5) 4
    (!f.1 || joined) && decide (fin + f.2 + 250 ≤ n.tNs)

/-- R30: the first core that fails admission; 8 for transport. -/
def Ctx.admissionCore (c : Ctx) : Option Nat :=
  let p := c.new.rowSchedule
  match (List.range 8).find? fun k => decide (c.new.budget < c.new.coreLoad p k) with
  | some k => some k
  | none => if c.transportOk p then none else some 8

/-- R57 step 7. -/
def Ctx.admissionFail (c : Ctx) : Option Fail := c.admissionCore.map fun _ => ⟨0x0401, 0, 0⟩

end Sys2Proof.Machine
end

