-- ==== Sys2Proof/Machine/CommitField.lean ====
section
/-! DEFINITION. What a commit check says of the power stages, current sensing, feedback, compare, emulation and sensorless
configuration that would result (spec/08–11, R16). -/

namespace Sys2Proof.Machine

/-! ### Carriers (R16, R242–R244, R288) -/

/-- R288: the largest stretch of a half-period. -/
def State.maxStretch (n : State) (k : Nat) : Nat := ceilDiv (2 * k - 1 + ceilDiv n.tickClocks 2500 + 1) k

/-- R242: L_w in 2.5 ns counts. -/
def State.windowLength (n : State) (st : Nat) : Nat :=
  n.nat (Obj.CurSincOrder st) * n.nat (Obj.CurOsr st) * n.nat (Obj.DsClockDivider (2 * (st / 2)))

/-- R242: S is at least one half. -/
def State.spanEnough (n : State) (st : Nat) : Bool :=
  n.nat (Obj.CurSampleMode st) == 2 ||
    decide (2 * n.nat (Obj.FocUpdatesPerPeriod st) * n.windowCounts st * n.nat (Obj.PwmRatio st) ≤ n.tickClocks)

/-- R244: in mode 1 the words stand in time for the boundary after the sample. -/
def State.latencyOk (n : State) (st : Nat) : Bool :=
  n.nat (Obj.CurSampleMode st) == 2 || decide (n.nat (Obj.PwmRatio st) * (n.windowLength st + 720) ≤ n.tickClocks)

/-- The rules of one power stage. -/
def State.stageFail (n : State) (st : Nat) : Option Fail :=
  let k := n.nat (Obj.PwmRatio st)
  let u := n.nat (Obj.FocUpdatesPerPeriod st)
  firstFail
    [want (decide (n.tNs ≤ k * 250000 ∧ k * 5000 ≤ n.tNs)) 0x0402 (Obj.PwmRatio st) Obj.TickPeriod,
     want (decide (n.nat (Obj.PwmDeadTime st) + n.nat (Obj.PwmMinPulse st) + n.maxStretch k < n.halfPeriod st)) 0x0402
       (Obj.PwmDeadTime st) (Obj.PwmMinPulse st),
     want (n.spanEnough st) 0x0402 (Obj.CurSampleMode st) (Obj.CurOsr st),
     want (decide (u * k * 5000 ≤ n.tNs)) 0x0402 (Obj.FocUpdatesPerPeriod st) (Obj.PwmRatio st),
     want (n.latencyOk st) 0x0402 (Obj.CurSampleMode st) (Obj.CurOsr st)]

/-! ### Modulator inputs (R234, R235, R238) -/

/-- R234: the clock group of an input. -/
def inputGroup (i : Nat) : Nat := if i ≤ 47 then i / 6 else (i - 48) / 2

/-- The inputs that a stage names for U, V and W. -/
def State.stageInputs_ (n : State) (st : Nat) : List Nat :=
  [n.nat (Obj.CurInputU st), n.nat (Obj.CurInputV st), n.nat (Obj.CurInputW st)].filter fun i => i != 0xFF

/-- The enabled general inputs. -/
def State.generals (n : State) : List Nat := (List.range 16).filter fun g => n.flag (Obj.GenInputEnable g)

/-- A stage is used by the row: a field-pipeline setpoint stitch names its axis.
(DESIGN CHOICE, unsafe: log entry 30.) -/
def State.stageUsed (n : State) (st : Nat) : Bool := n.rowTable.any fun d => d.kind == kindFieldSetpoint && n.recU d 0 1 == st

/-- R235, R238: the rules of the modulator inputs. -/
def State.inputFail (n : State) : Option Fail :=
  let stages := List.range 16
  let named := (stages.flatMap n.stageInputs_) ++ n.generals.map fun g => 48 + g
  let used := ((stages.filter n.stageUsed).flatMap n.stageInputs_) ++ n.generals.map fun g => 48 + g
  firstFail
    [stages.findSome? fun st =>
       let d := (n.stageInputs_ st).map fun i => n.nat (Obj.DsClockDivider (2 * inputGroup i))
       want (d.all fun x => x == d.headD 0) 0x0402 (Obj.CurInputU st) (Obj.CurInputV st),
     used.findSome? fun i => want (n.flag (Obj.DsClockEnable (2 * inputGroup i))) 0x0402 (Obj.DsClockEnable (2 * inputGroup i)),
     (firstTwice named).map fun i => ⟨0x0402, Obj.CurInputU (i % 48 / 3), 0⟩,
     n.generals.findSome? fun g =>
       let w := n.nat (Obj.GenInputSlot g)
       want (w == unwired || n.slotType w == 11 || n.slotType w == 12) 0x0402 (Obj.GenInputSlot g) (slotPeer w)]

/-! ### Feedback, compare, emulation (R62, R212, R226) -/

/-- R212: t_r with d = 5,000 ns is at most T/4; s + w ≤ b. -/
def State.channelFail (n : State) (c : Nat) : Option Fail :=
  let b := n.nat (Obj.SsiBits c)
  let f := n.nat (Obj.SsiClock c)
  let ssi := decide (5 ≤ n.get (Obj.FbType c))
  firstFail
    [want (!ssi || decide (4 * (b + 1) * 1000000000 + 10200 * f ≤ n.tNs * f)) 0x0402 (Obj.SsiBits c) (Obj.SsiClock c),
     want (decide (n.nat (Obj.SsiPositionShift c) + n.nat (Obj.SsiPositionBits c) ≤ b)) 0x0402 (Obj.SsiPositionShift c) (Obj.SsiBits c)]

/-- R226: a compare unit's channel is of type 1 to 3. -/
def State.compareFail (n : State) (u : Nat) : Option Fail :=
  let c := n.nat (Obj.CmpChannel u)
  want (c == 0xFF || decide (1 ≤ n.get (Obj.FbType c) ∧ n.get (Obj.FbType c) ≤ 3)) 0x0402 (Obj.CmpChannel u) (Obj.FbType c)

/-- R62: q is not 0 and p ≤ q. -/
def State.emulationFail (n : State) (e : Nat) : Option Fail :=
  want (n.nat (Obj.EmuQ e) != 0 && decide (n.nat (Obj.EmuP e) ≤ n.nat (Obj.EmuQ e))) 0x0402 (Obj.EmuP e) (Obj.EmuQ e)

/-! ### Sensorless operation (R263) -/

/-- R263.
(DESIGN CHOICE, unsafe: log entry 30.) -/
def State.sensorlessFail (n : State) (a : Nat) : Option Fail :=
  let sl := n.get (Obj.FbSource a) == 3
  let needs := sl || n.flag (Obj.RideThroughEnable a) || n.flag (Obj.CastOnAlign a)
  firstFail
    [want (!sl || n.get (Obj.FocAngleSource a) == 2) 0x0402 (Obj.FbSource a) (Obj.FocAngleSource a),
     want (!needs || n.flag (Obj.HfiEnable a)) 0x0402 (Obj.FbSource a) (Obj.HfiEnable a),
     want (!needs || n.flag (Obj.PvsScan a)) 0x0402 (Obj.FbSource a) (Obj.PvsScan a),
     want (n.get (Obj.SlMethod a) != 1 || n.get (Obj.PvsCompMode a) == 2) 0x0402 (Obj.SlMethod a) (Obj.PvsCompMode a),
     want (decide (n.get (Obj.SlHandoverHysteresis a) < n.get (Obj.SlHandoverSpeed a))) 0x0402 (Obj.SlHandoverHysteresis a)
       (Obj.SlHandoverSpeed a)]

/-- The rules of step 6 of these chapters. -/
def State.fieldFail (n : State) : Option Fail :=
  firstFail
    [(List.range 16).findSome? n.stageFail, n.inputFail, (List.range 16).findSome? n.channelFail,
     (List.range 8).findSome? n.compareFail, (List.range 4).findSome? n.emulationFail, (List.range 16).findSome? n.sensorlessFail]

/-! ### States (R204, R296) -/

/-- R204: a change of a channel's type while something uses it. -/
def Ctx.typeFail (c : Ctx) (ch : Nat) : Option Fail :=
  let axis := fun a =>
    c.now.get (Obj.FbSource a) == 1 && c.now.nat (Obj.FbChannelNumber a) == ch && c.now.get (Obj.AxisState a) != axDisabled
  let cmp := fun u => c.now.nat (Obj.CmpChannel u) == ch && c.now.flag (Obj.CmpEnable u)
  let emu := fun e => c.now.get (Obj.EmuSource e) == 1 && c.now.nat (Obj.EmuSourceNumber e) == ch
  want (!c.has (Obj.FbType ch) || !(allAxes.any axis || (List.range 8).any cmp || (List.range 4).any emu)) 0x0703 (Obj.FbType ch)

/-- R296: a change of polarity outside Safe. -/
def Ctx.polarityFail (c : Ctx) : Option Fail :=
  (List.range 16).findSome? fun st =>
    want (!c.has (Obj.PwmPolarity st) || c.now.get Obj.DeviceState == devSafe) 0x0701 (Obj.PwmPolarity st)

end Sys2Proof.Machine
end

