-- ==== Sys2Proof/Machine/CommitIo.lean ====
section
/-! DEFINITION. What a commit check says of the configuration of slots written by the host, acquisition, marks, Jorzer, the
host interface, CAN, field inputs and outputs, safety and thermal management that would result (R28, spec/13–18). -/

namespace Sys2Proof.Machine

/-! ### Slots written by the host (R28) -/

/-- R28: the raw bits are a value of the type: sign- or zero-extended above the type's width. -/
def slotForm (t raw : Nat) : Bool := slotEncode t (slotDecode t raw) == raw % 2 ^ 64

/-- R28: the status of a host write to a slot under a configuration. -/
def State.slotStatus (n : State) (slot raw : Nat) : Nat :=
  if n.slotType slot = 0 then 0x0101
  else if n.writers.contains slot || Dict.isLatchSlot slot || (n.canTail.any fun x => x.2 == slot) then 0x0201
  else if !slotForm (n.slotType slot) raw then 0x0301
  else 0

/-- R57 step 6: the staged `SlotValue`s. -/
def State.slotValueFail (n : State) (staged : List Staged) : Option Fail :=
  staged.findSome? fun e =>
    let i := e.key / 256
    if decide (0x5000 ≤ i ∧ i < 0x6000) && e.key % 256 == 1 then
      let st := n.slotStatus (i - 0x5000) (leNat e.data)
      want (st == 0) st e.key
    else none

/-- A slot object that names no slot or a slot of one of the types. -/
def State.slotOk (n : State) (key : Nat) (types : List Nat) : Option Fail :=
  want (n.nat key == unwired || (n.slotUsed (n.nat key) && types.contains (n.slotType (n.nat key)))) 0x0402 key (slotPeer (n.nat key))

/-! ### Acquisition and marks (R328, R332, R336, R349) -/

/-- R39, R332, R336: a stream goes to a completion queue and a stream buffer of a capacity. -/
def State.acqFail (n : State) : Option Fail :=
  let q := n.nat Obj.AcqStreamQueue
  firstFail
    [want (decide (((List.range 4).map fun i => n.nat (Obj.SkeinSize i)).sum ≤ 192)) 0x0402 (Obj.SkeinSize 0),
     want (n.get Obj.TrigSource != 1 || n.nat Obj.TrigMask != 0) 0x0402 Obj.TrigSource Obj.TrigMask,
     want (q == 0xFF || (n.nat (Obj.HcqSize q) != 0 && n.nat (Obj.HcqStreamSize q) != 0)) 0x0402 Obj.AcqStreamQueue
       (if n.nat (Obj.HcqSize q) = 0 then Obj.HcqSize q else Obj.HcqStreamSize q)]

/-- R349. -/
def State.markFail (n : State) (m : Nat) : Option Fail :=
  firstFail ([n.slotOk (Obj.MarkTimeSlot m) [13], n.slotOk (Obj.MarkSeqSlot m) [3]] ++
    (List.range 4).map fun i => n.slotOk (Obj.MarkPosSlot m i) [8])

/-- R328: the RW-S objects of the engine lie at 0x2900 to 0x297F. -/
def Ctx.acqBusy (c : Ctx) : Option Fail :=
  if 1 ≤ c.now.get Obj.AcqState ∧ c.now.get Obj.AcqState ≤ 3 then
    (c.changed.find? fun k => decide (0x290000 ≤ k ∧ k < 0x298000)).map fun k => ⟨0x0501, k, 0⟩
  else none

/-! ### Host queues and process images (R366, R379) -/

/-- R366. -/
def State.queueFail (n : State) : Option Fail :=
  firstFail
    [(List.range 32).findSome? fun q =>
       want (n.nat (Obj.HsqSize q) == 0 || n.nat (Obj.HcqSize (n.nat (Obj.HsqCompletionQueue q))) != 0) 0x0402
         (Obj.HsqCompletionQueue q) (Obj.HcqSize (n.nat (Obj.HsqCompletionQueue q))),
     want (decide (((List.range 32).map fun q => n.nat (Obj.HcqSize q)).sum ≤ 16384)) 0x0402 (Obj.HcqSize 0),
     (List.range 32).findSome? fun q =>
       want (decide (n.nat (Obj.HcqIrqCount q) ≤ 1) || n.nat (Obj.HcqIrqTime q) != 0) 0x0402 (Obj.HcqIrqCount q) (Obj.HcqIrqTime q)]

/-- An entry of `PiMap`: slot, direction, reserved byte, offset. -/
def State.piEntry (n : State) (i : Nat) : Nat × Nat × Nat × Nat :=
  let u := fun o k => n.uint Obj.PiMap (8 * i + o) k
  (u 0 2, u 2 1, u 3 1, u 4 4)

/-- R379.
(DESIGN CHOICE, unsafe: log entry 15.) -/
def State.piFail (n : State) : Option Fail :=
  let ob := Obj.PiMap
  let l := (List.range (n.nat Obj.PiMapLength)).map n.piEntry
  let offsets := fun d => (l.filter fun e => e.2.1 == d).map fun e => e.2.2.2
  firstFail
    [want (l.all fun e => e.2.1 == 1 || e.2.1 == 2) 0x0402 ob,
     want (l.all fun e => decide (e.1 < 4096) && (e.2.1 != 1 ||
       (n.slotUsed e.1 && !n.writers.contains e.1 && !Dict.isLatchSlot e.1))) 0x0402 ob,
     want (l.all fun e => e.2.2.2 % 8 == 0 && decide (e.2.2.2 ≤ if e.2.1 = 1 then 32760 else 32744)) 0x0402 ob,
     want ((firstTwice (offsets 1)).isNone && (firstTwice (offsets 2)).isNone) 0x0402 ob]

/-- R366: a queue with outstanding tags does not change. -/
def Ctx.queueBusy (c : Ctx) : Option Fail :=
  let reqs := c.now.host.reqs.filter fun (r : HostReq) => r.path == 0
  c.changed.findSome? fun k =>
    let i := k / 256
    if decide (0x2310 ≤ i ∧ i < 0x2330) then want (!reqs.any fun (r : HostReq) => r.source == i - 0x2310) 0x0501 k
    else if decide (0x2330 ≤ i ∧ i < 0x2350) then
      want (!reqs.any fun (r : HostReq) => c.now.nat (Obj.HsqCompletionQueue r.source) == i - 0x2330) 0x0501 k
    else none

/-! ### CAN (R382, R391, R394) -/

/-- R382: the bit timing of a controller. -/
def State.canTiming (n : State) (c : Nat) : Option Fail :=
  let nq := 1 + n.nat (Obj.CanNomSeg1 c) + n.nat (Obj.CanNomSeg2 c)
  let dq := 1 + n.nat (Obj.CanDataSeg1 c) + n.nat (Obj.CanDataSeg2 c)
  let nb := n.nat (Obj.CanNomPrescaler c) * nq
  let db := n.nat (Obj.CanDataPrescaler c) * dq
  firstFail
    [want (decide (n.nat (Obj.CanNomSjw c) ≤ n.nat (Obj.CanNomSeg2 c))) 0x0402 (Obj.CanNomSjw c) (Obj.CanNomSeg2 c),
     want (decide (n.nat (Obj.CanDataSjw c) ≤ n.nat (Obj.CanDataSeg2 c))) 0x0402 (Obj.CanDataSjw c) (Obj.CanDataSeg2 c),
     want (decide (80 ≤ nb)) 0x0402 (Obj.CanNomPrescaler c) (Obj.CanNomSeg1 c),
     want (decide (10 ≤ db ∧ db ≤ nb)) 0x0402 (Obj.CanDataPrescaler c) (Obj.CanNomPrescaler c),
     want (decide (8 ≤ dq)) 0x0402 (Obj.CanDataSeg1 c) (Obj.CanDataSeg2 c)]

/-- R391: an enabled filter targets a receive buffer. -/
def State.canFilters (n : State) (c : Nat) : Option Fail :=
  (List.range 32).findSome? fun f =>
    let b := n.nat (Obj.CanFltBuffer c f)
    want (!n.flag (Obj.CanFltEnable c f) || n.get (Obj.CanBufRole c b) == 2) 0x0402 (Obj.CanFltBuffer c f) (Obj.CanBufRole c b)

/-- R394: the schedule matrix. -/
def State.canSchedule (n : State) (c : Nat) : Option Fail :=
  let ob := Obj.TtSlotTable c
  let used := (List.range 16).filter fun j => n.uint ob (24 * j + 8) 8 != 0
  let at_ := fun j => n.uint ob (24 * j) 4
  let cycles := n.nat (Obj.TtMatrixCycles c)
  firstFail
    [want (used.all fun j => decide (n.uint ob (24 * j + 16) 1 < 64) && n.get (Obj.CanBufRole c (n.uint ob (24 * j + 16) 1)) == 1)
       0x0402 ob,
     want (used.all fun j => decide (at_ j < n.nat (Obj.TtCycleLength c))) 0x0402 ob (Obj.TtCycleLength c),
     want (firstTwice (used.map at_)).isNone 0x0402 ob,
     want (used.all fun j => n.uint ob (24 * j + 8) 8 / 2 ^ cycles == 0) 0x0402 ob (Obj.TtMatrixCycles c)]

/-! ### Field inputs and outputs, safety, thermal (R400, R402, R406, R419, R420, R425, R446) -/

/-- R400, R402. -/
def State.finFail (n : State) (i : Nat) : Option Fail :=
  let on := n.nat (Obj.FinThresholdOn i)
  let off := n.nat (Obj.FinThresholdOff i)
  firstFail
    [want (n.get (Obj.FinType i) != 4 || decide (30 ≤ off ∧ on ≤ 270 ∧ off + 10 ≤ on)) 0x0402 (Obj.FinThresholdOn i)
       (Obj.FinThresholdOff i),
     want (!n.flag (Obj.FinWireBreakEnable i) || decide (n.nat (Obj.FinWireBreakLevel i) * 100 < (n.finThresholds i).2)) 0x0402
       (Obj.FinWireBreakLevel i) (Obj.FinThresholdOff i),
     n.slotOk (Obj.FinSlot i) [1]]

/-- R425: the groups with safe brake control under the configuration that would result. -/
def State.sbcAfter (n : State) : Nat :=
  match (n.put Obj.SafetyConfigSource (n.configSource : Nat)).safetyCfg with
  | some x => x.sbc
  | none => 0

/-- R406, R425. -/
def State.foutFail (n : State) : Option Fail :=
  let sbc := n.sbcAfter
  let brakes := (allAxes.map fun a => n.nat (Obj.BrakeOutput a)).filter fun o => o < 8
  firstFail
    [(List.range 8).findSome? fun o =>
       let src := n.get (Obj.FoutSource o)
       firstFail
         [want (!brakes.contains o || src == 2) 0x0402 (Obj.FoutSource o),
          want (src != 2 || brakes.contains o) 0x0402 (Obj.FoutSource o),
          if src = 1 then want (n.slotUsed (n.nat (Obj.FoutSlot o)) && n.slotType (n.nat (Obj.FoutSlot o)) == 1) 0x0402
            (Obj.FoutSlot o) (slotPeer (n.nat (Obj.FoutSlot o))) else none],
     want (firstTwice brakes).isNone 0x0402 (Obj.BrakeOutput 0),
     allAxes.findSome? fun a =>
       let o := n.nat (Obj.BrakeOutput a)
       firstFail
         [want (o != 0x10 || (isLocal a && sbc.testBit (a / 4))) 0x0402 (Obj.BrakeOutput a) Obj.SafetyParamSet,
          want (!(decide (o < 8) && sbcOutput sbc o)) 0x0402 (Obj.BrakeOutput a) Obj.SafetyParamSet]]

/-- R419, R420: a staged parameter set.
(DESIGN CHOICE, unsafe: log entry 33.) -/
def Ctx.safetyFail (c : Ctx) (staged : List Nat) (unlocked : Bool) : Option Fail :=
  if !(staged.contains Obj.SafetyParamSet || staged.contains Obj.SafetyParamCrc) then none
  else
    let cfg := paramCfg c.new.paramSet
    firstFail
      [want unlocked 0x0204 Obj.SafetyParamSet Obj.SafetyParamCrc,
       want (crc32 c.new.paramSet == c.new.nat Obj.SafetyParamCrc) 0x0204 Obj.SafetyParamSet Obj.SafetyParamCrc,
       want ((List.range 4).all fun p => !cfg.pairs.testBit p || cfg.masks.getD p 0 != 0) 0x0402 Obj.SafetyParamSet]

/-- R446. -/
def State.thermalFail (n : State) : Option Fail :=
  let t := n.get Obj.ThermalThrottleThreshold
  let k := n.get Obj.ThermalCriticalThreshold
  let h := n.get Obj.ThermalShutdownThreshold
  firstFail
    [want (decide (t < k)) 0x0402 Obj.ThermalThrottleThreshold Obj.ThermalCriticalThreshold,
     want (decide (k < h)) 0x0402 Obj.ThermalCriticalThreshold Obj.ThermalShutdownThreshold]

/-- The rules of step 6 of these chapters. -/
def Ctx.ioFail (c : Ctx) (staged : List Staged) (unlocked : Bool) : Option Fail :=
  let n := c.new
  firstFail
    [n.slotValueFail staged, n.acqFail, (List.range 16).findSome? n.markFail, n.queueFail, n.piFail,
     (List.range 2).findSome? n.canTiming, (List.range 2).findSome? n.canFilters, (List.range 2).findSome? n.canSchedule,
     (List.range 16).findSome? n.finFail, n.foutFail, c.safetyFail (staged.map fun e => e.key) unlocked, n.thermalFail]

end Sys2Proof.Machine
end

