-- ==== Sys2Proof/Machine/CommitMotion.lean ====
section
/-! DEFINITION. What a commit check says of the configuration of the plant network, the axes, gangs, groups, grafts, span
groups and loops that would result (spec/01 and 03–07). -/

namespace Sys2Proof.Machine

/-! ### Plant network (R98, R100, R103) -/

/-- R98: the gate list of an egress port.
(DESIGN CHOICE, unsafe: log entry 15; DESIGN CHOICE, unsafe: log entry 33.) -/
def State.gateFail (n : State) (p : Nat) : Option Fail :=
  let ob := Obj.GateList p
  let len := n.nat (Obj.GateListLength p)
  let es := (List.range len).map fun i => n.uint ob (8 * i) 8
  let cycle := n.nat (Obj.GateCycleTime p)
  if len = 0 then want (!n.flag (Obj.GateEnable p)) 0x0402 (Obj.GateEnable p) (Obj.GateListLength p)
  else
    firstFail
      [want (es.all fun e => bitsOf e 32 32 != 0) 0x0402 ob,
       want ((es.map fun e => bitsOf e 32 32).sum == cycle) 0x0402 ob (Obj.GateCycleTime p),
       want (n.nat Obj.NetworkCycleTicks * n.tNs % cycle == 0) 0x0402 (Obj.GateCycleTime p) Obj.NetworkCycleTicks,
       want (es.all fun e => e.testBit 7) 0x0402 ob]

/-- R100, R103, R98.
(DESIGN CHOICE, unsafe: log entry 154.) -/
def State.plantFail (n : State) : Option Fail :=
  let c := n.nat Obj.NetworkCycleTicks * n.tNs
  firstFail
    ([want (decide (250000 ≤ c ∧ c ≤ 4000000)) 0x0402 Obj.NetworkCycleTicks Obj.TickPeriod,
      want (!n.flag Obj.FrerEnable || n.nat Obj.FrerHistoryLength != 0) 0x0402 Obj.FrerEnable Obj.FrerHistoryLength] ++
      (List.range 3).map n.gateFail)

/-! ### Axes (R39, R62, R111, R112, R148) -/

/-- R111, R112: the segment table of an axis.
(DESIGN CHOICE, unsafe: log entry 156.) -/
def State.tableOk (n : State) (a : Nat) : Option Fail :=
  let ob := Obj.ProfileTable a
  let len := n.nat (Obj.ProfileTableLength a)
  if len = 0 then none
  else
    firstFail
      [want (decide (len ≤ 4096)) 0x0402 (Obj.ProfileTableLength a) ob,
       (List.range len).findSome? fun i =>
         firstFail [want (n.uint ob (24 * i) 4 != 0) 0x0302 ob,
                    want (decide (n.uint ob (24 * i + 4) 4 ≤ 1) && n.uint ob (24 * i + 20) 4 == 0) 0x0301 ob],
       want (n.uint ob (24 * (len - 1) + 16) 4 == 0) 0x0402 ob]

/-- R62: the software limits of an axis. -/
def State.softFail (n : State) (a : Nat) : Option Fail :=
  let lo := n.get (Obj.SoftLimitLower a)
  let hi := n.get (Obj.SoftLimitUpper a)
  let cycle := !n.flag (Obj.AxisModulo a) || decide (0 ≤ lo ∧ hi < 4294967296)
  want (!n.flag (Obj.SoftLimitEnable a) || (decide (lo < hi) && cycle)) 0x0402 (Obj.SoftLimitLower a) (Obj.SoftLimitUpper a)

/-- The rules of one axis (R39, R111, R112, R148, R189, R192).
(DESIGN CHOICE, unsafe: log entry 31.) -/
def State.axisFail (n : State) (a : Nat) : Option Fail :=
  let set := fun k => let g := n.nat k; g == 0xFF || n.flag (Obj.GainSetEnable a g)
  firstFail
    [n.tableOk a, n.softFail a,
     want (n.nat (Obj.ProfileRunAhead a) != 0) 0x0402 (Obj.ProfileRunAhead a),
     want (!n.flag (Obj.AxisVirtual a) || n.nat (Obj.BrakeOutput a) == 0xFF) 0x0402 (Obj.AxisVirtual a) (Obj.BrakeOutput a),
     want (!n.flag (Obj.AxisVirtual a) || n.get (Obj.StandstillMode a) != 3) 0x0301 (Obj.StandstillMode a) (Obj.AxisVirtual a),
     want (set (Obj.LoopGainSelect a)) 0x0402 (Obj.LoopGainSelect a) (Obj.GainSetEnable a (n.nat (Obj.LoopGainSelect a))),
     want (set (Obj.LoopRideThroughGainSet a)) 0x0402 (Obj.LoopRideThroughGainSet a)
       (Obj.GainSetEnable a (n.nat (Obj.LoopRideThroughGainSet a))),
     want (n.nat (Obj.FilterVelocityType a) == 0 || stable (n.get (Obj.FilterVelocityA1 a)) (n.get (Obj.FilterVelocityA2 a)))
       0x0402 (Obj.FilterVelocityA1 a) (Obj.FilterVelocityA2 a),
     want (n.nat (Obj.FilterTorqueType a) == 0 || stable (n.get (Obj.FilterTorqueA1 a)) (n.get (Obj.FilterTorqueA2 a)))
       0x0402 (Obj.FilterTorqueA1 a) (Obj.FilterTorqueA2 a)]

/-! ### Gangs, paths, bind-off groups (R37, R132, R137) -/

/-- A graft that names an axis as follower. -/
def State.graftOf (n : State) (a : Nat) : Option Nat :=
  (List.range 128).find? fun k => n.get (Obj.GraftKind k) != 0 && n.nat (Obj.GraftFollower k) == a

/-- A gang member that is not its leader. -/
def State.ganged (n : State) (a : Nat) : Bool := n.leaderOf a != a

/-- The members of a path group, each entry. -/
def State.pathAxes (n : State) (p : Nat) : List Nat :=
  ((List.range 6).map fun i => n.nat (Obj.PathAxis p i)).filter fun a => a < 64

/-- R37. -/
def State.gangFail (n : State) (g : Nat) : Option Fail :=
  let m := n.gangMembers g
  let lead := n.nat (Obj.GangLeader g)
  if m.isEmpty then none
  else
    firstFail
      [want (m.all fun a => (List.range 16).all fun h => h == g || !n.bit (Obj.GangMembers h) a) 0x0402 (Obj.GangMembers g),
       want (m.contains lead) 0x0402 (Obj.GangLeader g) (Obj.GangMembers g),
       want (m.all fun a => a == lead || (n.graftOf a).isNone) 0x0402 (Obj.GangMembers g)]

/-- R137. -/
def State.pathFail (n : State) : Option Fail :=
  let all := (List.range 8).flatMap n.pathAxes
  firstFail
    [(firstTwice all).map fun _ => ⟨0x0402, Obj.PathAxis 0 0, 0⟩,
     (List.range 8).findSome? fun p =>
       want ((n.pathAxes p).all fun a => (n.graftOf a).isNone && !n.ganged a) 0x0402 (Obj.PathAxis p 0)]

/-- R132. -/
def State.bindFail (n : State) (b : Nat) : Option Fail :=
  let m := n.bindMembers b
  want (m.all fun a => !n.ganged a &&
      (List.range 8).all fun p => !(n.pathAxes p).contains a || (n.pathAxes p).all fun x => m.contains x)
    0x0402 (Obj.BindOffMembers b)

/-! ### Grafts (R62, R145, R151) -/

/-- A graft and the grafts that feed it, up to the whole set. -/
def State.graftChain (n : State) : Nat → Nat → List Nat
  | 0, _ => []
  | fuel + 1, k =>
    k :: (if n.get (Obj.GraftMasterSource k) = 3 then n.graftChain fuel (n.nat (Obj.GraftMasterNumber k)) else [])

/-- R145: the masters of a chain that are axes of this device. -/
def State.chainAxes (n : State) (k : Nat) : List Nat :=
  (n.graftChain 129 k).filterMap fun j =>
    if n.get (Obj.GraftMasterSource j) = 1 ∨ n.get (Obj.GraftMasterSource j) = 2 then some (n.nat (Obj.GraftMasterNumber j)) else none

/-- R145, R147: the number of a master by its source.
(DESIGN CHOICE, unsafe: log entry 31.) -/
def State.masterInRange (n : State) (k : Nat) : Bool :=
  let src := n.nat (Obj.GraftMasterSource k)
  let m := n.nat (Obj.GraftMasterNumber k)
  if src = 0 then true
  else if src ≤ 2 then decide (m < 64)
  else if src = 3 then decide (m < 128)
  else if src ≤ 5 then decide (m < 32)
  else decide (m < 4096)

/-- R145, R151: the rules of one graft. -/
def State.graftFail (n : State) (k : Nat) : Option Fail :=
  let kind := n.nat (Obj.GraftKind k)
  let f := n.nat (Obj.GraftFollower k)
  let ob := Obj.GraftKind k
  let takers := (List.range 128).filter fun j =>
    n.get (Obj.GraftKind j) != 0 && n.get (Obj.GraftMasterSource j) == 3 && n.nat (Obj.GraftMasterNumber j) == k
  if kind = 0 then none
  else
    firstFail
      [want (n.nat (Obj.GraftMasterSource k) != 0) 0x0402 ob (Obj.GraftMasterSource k),
       want (n.masterInRange k) 0x0402 (Obj.GraftMasterNumber k) (Obj.GraftMasterSource k),
       want (f == 0xFF || n.graftOf f == some k) 0x0402 (Obj.GraftFollower k),
       want (f == 0xFF || ((List.range 128).all fun j =>
         j == k || n.get (Obj.GraftKind j) == 0 || n.nat (Obj.GraftFollower j) != f)) 0x0402 (Obj.GraftFollower k),
       want (decide (takers.length ≤ 1) && (f == 0xFF || takers.isEmpty)) 0x0402 (Obj.GraftFollower k) (Obj.GraftMasterNumber k),
       want (kind != 4 || f != 0xFF) 0x0402 ob (Obj.GraftFollower k),
       want (decide ((n.graftChain 129 k).length ≤ 128)) 0x0402 (Obj.GraftMasterNumber k),
       want (!(n.chainAxes k).contains f) 0x0402 (Obj.GraftFollower k) (Obj.GraftMasterNumber k),
       want (f == 0xFF || (!n.ganged f && (List.range 8).all fun p => !(n.pathAxes p).contains f)) 0x0402 (Obj.GraftFollower k),
       want (kind != 2 || n.nat (Obj.CamLength k) != 0) 0x0402 (Obj.CamLength k) (Obj.CamTable k)]

/-- R62: both terms of a gear are set in one set. -/
def gearFail (staged : List Nat) : Option Fail :=
  (List.range 128).findSome? fun k =>
    let a := Obj.GearNumerator k
    let b := Obj.GearDenominator k
    want (staged.contains a == staged.contains b) 0x0402 (if staged.contains a then a else b)
      (if staged.contains a then b else a)

/-- R151: written ranges cover the bytes below a length. -/
def covers (l : List (Nat × Nat)) (n : Nat) : Bool := n == 0 || l.any fun x => x.1 == 0 && decide (n ≤ x.2)

/-- R151: the cam points of all grafts, and the tables that cover theirs. -/
def State.camFail (n : State) : Option Fail :=
  firstFail [(List.range 128).findSome? fun k =>
    want (covers (n.graft k).table (16 * n.nat (Obj.CamLength k))) 0x0402 (Obj.CamLength k) (Obj.CamTable k),
  want (decide (((List.range 128).map fun k => n.nat (Obj.CamLength k)).sum ≤ 524288)) 0x0402 (Obj.CamLength 0)]

/-! ### Span groups (R166, R175) -/

/-- R166: a local member follows a chain that holds the phase trim which reads its trim slot. -/
def State.trimGraft (n : State) (g i a : Nat) : Option Nat :=
  match n.graftOf a with
  | none => none
  | some k => (n.graftChain 129 k).find? fun j =>
      n.nat (Obj.GraftKind j) == 3 && n.nat (Obj.PhaseTrimSource j) == n.nat (Obj.SpanTrimSlot g i)

/-- R166: the stitch that runs a trim has a higher order than the group's, where both are in the row. -/
def State.trimOrder (n : State) (g k : Nat) : Bool :=
  match n.rowTable.find? fun d => d.kind == kindSpan && n.recU d 0 1 == g,
        n.rowTable.find? fun d => d.kind == kindGraftGear && n.recU d 0 1 == k with
  | some x, some y => decide (x.order < y.order)
  | _, _ => true

/-- R166: an axis belongs to a bind-off group, itself or as a follower of a member.
(DESIGN CHOICE, unsafe: log entry 32.) -/
def State.inBind (n : State) (b a : Nat) : Bool :=
  n.bit (Obj.BindOffMembers b) a ||
    (match n.graftOf a with | some k => (n.chainAxes k).any fun m => n.bit (Obj.BindOffMembers b) m | none => false)

/-- R166, R175: the rules of a span group.
(DESIGN CHOICE, unsafe: log entry 32.) -/
def State.spanFail (n : State) (g : Nat) : Option Fail :=
  let m := n.nat (Obj.SpanMemberCount g)
  let st := n.nat (Obj.SpanStateCount g)
  let cells := n.nat (Obj.SpanLoadCellCount g)
  let members := (List.range m).map fun i => n.nat (Obj.SpanMember g i)
  let own := n.nat Obj.JzPosition
  let mine := (List.range m).filter fun i => n.nat (Obj.SpanMember g i) / 256 == own
  let slot := fun k ts => n.nat k == unwired || (n.slotUsed (n.nat k) && ts.contains (n.slotType (n.nat k)))
  let others := (List.range 8).filter fun h => h != g && n.nat (Obj.SpanHome h) != 0xFF
  if n.nat (Obj.SpanHome g) = 0xFF then none
  else
    firstFail
      [want (m == 0 || decide (m ≤ st)) 0x0402 (Obj.SpanMemberCount g) (Obj.SpanStateCount g),
       want (decide (m + cells ≤ 16)) 0x0402 (Obj.SpanMemberCount g) (Obj.SpanLoadCellCount g),
       want (members.all fun x => x != 0xFFFF) 0x0402 (Obj.SpanMember g 0) (Obj.SpanMemberCount g),
       want (firstTwice members).isNone 0x0402 (Obj.SpanMember g 0),
       want (others.all fun h => (List.range (n.nat (Obj.SpanMemberCount h))).all fun i =>
         !members.contains (n.nat (Obj.SpanMember h i))) 0x0402 (Obj.SpanMember g 0),
       want (members.all fun x => x / 256 == own || decide (x / 256 < n.nat Obj.JzChainLength)) 0x0402 (Obj.SpanMember g 0)
         (Obj.SpanHome g),
       want (mine.all fun i => slot (Obj.SpanTrimSlot g i) [8] && n.nat (Obj.SpanTrimSlot g i) != unwired &&
         (match n.trimGraft g i (n.nat (Obj.SpanMember g i) % 256) with | some k => n.trimOrder g k | none => false))
         0x0402 (Obj.SpanTrimSlot g 0) Obj.RowStitchTable,
       want ((List.range st).all fun i => slot (Obj.SpanRefSlot g i) [2, 9]) 0x0402 (Obj.SpanRefSlot g 0),
       want ((List.range cells).all fun i => slot (Obj.SpanLoadCellSlot g i) [12]) 0x0402 (Obj.SpanLoadCellSlot g 0),
       want (slot (Obj.SpanBankSource g) [1]) 0x0402 (Obj.SpanBankSource g),
       want ((List.range (n.nat (Obj.SpanIntegratorCount g))).all fun i => decide (n.nat (Obj.SpanIntegratorState g i) < st)) 0x0402
         (Obj.SpanIntegratorState g 0) (Obj.SpanStateCount g),
       want ((List.range 7).all fun i => n.nat (Obj.SpanTensionMap g i) == 0xFF || decide (n.nat (Obj.SpanTensionMap g i) < st)) 0x0402
         (Obj.SpanTensionMap g 0) (Obj.SpanStateCount g),
       want (members.isEmpty || (List.range 16).any fun b => members.all fun x =>
         if x / 256 == own then n.inBind b (x % 256) else Config.memberBound x b) 0x0402
         (Obj.SpanMember g 0),
       want ((List.range 7).all fun i => n.nat (Obj.SpanTensionMap g i) == 0xFF ||
         decide (n.get (Obj.SpanTensionMin g i) < n.get (Obj.SpanTensionMax g i))) 0x0402 (Obj.SpanTensionMin g 0) (Obj.SpanTensionMax g 0)]

/-- The rules of step 6 of these chapters. -/
def Ctx.motionFail (c : Ctx) (staged : List Nat) : Option Fail :=
  let n := c.new
  firstFail
    [n.plantFail, allAxes.findSome? n.axisFail, (List.range 16).findSome? n.gangFail, n.pathFail,
     (List.range 16).findSome? n.bindFail, (List.range 128).findSome? n.graftFail, gearFail staged, n.camFail,
     (List.range 8).findSome? n.spanFail]

end Sys2Proof.Machine
end

