-- ==== Sys2Proof/Machine/Sessions.lean ====
section
/-! DEFINITION. Sessions (R67, R68), the clear of sticky bits as a request (R65, R66) and the controlword of the CiA 402 view
(R71, R72). -/

namespace Sys2Proof.Machine

/-- The state that a command of the device leaves. -/
def after (o : Host.Outcome State Fault Refusal) (s : State) : State := match o with | .next t => t | _ => s

/-- STICKY_CLEAR (R65, R66): a write to the sticky bits of an object; `recurring` are the bits whose conditions occur in the
same clock cycle. -/
def execStickyClear (session i sub ones recurring : Nat) (s : State) : Host.Outcome State Fault Refusal :=
  .next
    (if !s.sessionOk session then s.reply 0x0104
    else if !s.served i sub then s.reply 0x0701
    else if addrStatus i sub ≠ 0 then s.reply (addrStatus i sub)
    else match stickyMask (i * 256 + sub) with
      | none => s.reply 0x0301
      | some m => if ones ||| m ≠ m then s.reply 0x0301 else s.clearSticky (i * 256 + sub) ones recurring)

/-! ### Opening and closing -/

/-- R69: an own request that the device accepted earlier in the same session has not taken effect. Requests without a session are
ordered only by R48 and R59.
(DESIGN CHOICE, unsafe: log entry 146.) -/
def State.behind (s : State) (r : HostReq) : Bool :=
  r.session != 0 && ((s.host.reqs.takeWhile fun x => x != r).any fun x => x.session == r.session && x.waits == 0 && s.ownReq x)

/-- R67: the next number: ascending, wrapping to 1, past the numbers of open sessions. -/
def State.nextSession (s : State) : Nat → Nat → Nat
  | 0, n => n
  | fuel + 1, n =>
    let m := if 65535 ≤ n then 1 else n + 1
    if s.sessions.any fun x => x.num == m then s.nextSession fuel m else m

/-- OPEN_SESSION (R67): a session opens; the first outstanding entry of opcode 4 completes with its number. -/
def execOpenSession (s : State) : Host.Outcome State Fault Refusal :=
  let n := s.nextSession 257 s.lastSession
  let t := if 256 ≤ s.sessions.length then s.reply 0x0502
    else ({ s with sessions := s.sessions ++ [({ num := n } : Session)], lastSession := n }).answer (natLE 2 n)
  .next
    (match s.host.reqs.find? fun r => s.ownReq r && r.opcode == 4 with
     | none => t
     | some r => t.complete r (s.nat Obj.JzPosition) ⟨t.resp.status, t.resp.data, false⟩)

/-- R61: a closed session discards its staged set; its pending commit still applies. -/
def State.endSession (s : State) (n : Nat) : State :=
  { s with sessions := s.sessions.filter fun (x : Session) => x.num != n }

/-- CLOSE_SESSION (R61, R67): the first outstanding entry of opcode 5 for the session completes. -/
def execCloseSession (n : Nat) (s : State) : Host.Outcome State Fault Refusal :=
  let t := if n = 0 ∨ !s.sessionOk n then s.reply 0x0104 else (s.endSession n).done
  .next
    (match s.host.reqs.find? fun r => s.ownReq r && r.opcode == 5 && r.session == n && !s.behind r with
     | none => t
     | some r => t.complete r (s.nat Obj.JzPosition) ⟨t.resp.status, [], false⟩)

/-- SESSION_IDLE_TIMEOUT (R68): a session that received no request for the timeout is closed; a timeout of 0 is none. -/
def execSessionIdleTimeout (n : Nat) (s : State) : Host.Outcome State Fault Refusal :=
  .next (if s.natInUse Obj.SessionIdleTimeout = 0 then s else s.endSession n)

/-! ### The controlword (R71, R72) -/

/-- The command that bits 3–0 of a controlword give an axis whose CiA 402 state is Operation enabled. -/
def State.viewMotion (s : State) (a v : Nat) : State :=
  let mode := s.get (viewModeKey a)
  if bitAt v 8 then after (execStop a s) s
  else if mode = 1 ∧ bitAt v 4 = true then (if bitAt v 6 then after (execMoveRelative a s) s else after (execMoveAbsolute a s) s)
  else if mode = 3 then after (execVelocityMove a s) s
  else if mode = 6 ∧ bitAt v 4 = true then after (execHome a s) s
  else s.done

/-- R72: a controlword acts as the native command of the transition it asks for; one that CiA 402 gives no transition in
the present state does nothing.
(DESIGN CHOICE, unsafe: log entry 12.) -/
def State.controlword (s : State) (a v : Nat) : State :=
  let st := s.get (Obj.AxisState a)
  let quick := decide (st = axStopping) && (s.axis a).quick
  if st = axFaulted then (if bitAt v 7 then after (execFaultReset a s) s else s.done)
  else if !bitAt v 1 then (if st = axDisabled then s.done else after (execDisable a s) s)
  else if !bitAt v 2 then
    (if st = axDisabled then s.done
     else if st = axStandby then after (execDisable a s) s
     else if quick then s.done
     else after (execQuickStop a s) s)
  else if !bitAt v 0 then (if st = axDisabled ∨ quick = true then s.done else after (execDisable a s) s)
  else if st = axDisabled then after (execEnable a s) s
  else if !bitAt v 3 then (if st = axStandby ∨ quick = true then s.done else after (execCoilsOff a s) s)
  else if st = axStandby then after (execPowerOn a s) s
  else if quick then after (execResume a s) s
  else s.viewMotion a v

/-- CIA402_CONTROLWORD (R72): a write of the controlword in a window of a session. -/
def execCia402Controlword (session window value : Nat) (s : State) : Host.Outcome State Fault Refusal :=
  .next
    (if !s.sessionOk session then s.reply 0x0104
    else if s.power.recovery then s.reply 0x0701
    else s.controlword (s.viewAxis session (if window = 0 then 0x6040 else 0x6840)) value)

end Sys2Proof.Machine
end

