-- ==== Sys2Proof/Machine/Effects.lean ====
section
/-! DEFINITION. What a written value does beside being stored, and what the apply edge of a commit does (R32, R54, R58, R59, R96,
R99, R125, R128, R150, R163, R170, R209, R296, R309, R352, R366, R374, R384, R420). -/

namespace Sys2Proof.Machine

/-! ### Checks of one value (R10, R54, R216, R305, R386, R405, R419, R425, R431) -/

/-- The axis of a key of the axis objects, and the offset within the instance. -/
def axisOf (key : Nat) : Option (Nat × Nat) :=
  let i := key / 256
  if 0x3000 ≤ i ∧ i < 0x4000 then some ((i - 0x3000) / 0x40, (i - 0x3000) % 0x40) else none

/-- R405: the safety configuration in force names an input of the field die. -/
def State.safetyInput (s : State) (i : Nat) : Bool :=
  match s.safetyCfg with
  | some c => decide (8 ≤ i ∧ i < 16) && c.pairs.testBit ((i - 8) / 2)
  | none => false

/-- R405, R425: the subentry is SL by the safety configuration in force: type, thresholds, filter, inversion and wire-break
objects of a named input; source, slot and value of an output that safe brake control switches. -/
def State.safetyLocked (s : State) (key : Nat) : Bool :=
  let i := key / 256
  if 0x2510 ≤ i ∧ i < 0x2520 then
    (let n := i - 0x2510
     s.safetyInput n && decide (key ∈ [Obj.FinType n, Obj.FinThresholdOn n, Obj.FinThresholdOff n, Obj.FinFilterCount n, Obj.FinInvert n,
       Obj.FinWireBreakEnable n, Obj.FinWireBreakLevel n, Obj.FinWireBreakTime n]))
  else if 0x2530 ≤ i ∧ i < 0x2538 then
    (let o := i - 0x2530
     s.sbcOutputs.testBit o && decide (key ∈ [Obj.FoutSource o, Obj.FoutSlot o, Obj.FoutValue o]))
  else false

/-- R130, R216: the values that only some axes take. -/
def axisValueOk (key : Nat) (v : Int) : Bool :=
  match axisOf key with
  | none => true
  | some (a, _) =>
    if key = Obj.FbSource a then !(v == 2 && decide (a < 16)) && !(v == 3 && decide (16 ≤ a))
    else if key = Obj.StandstillMode a then !(v == 3 && decide (16 ≤ a))
    else true

/-- R148: a direct write of a mode that a virtual axis refuses. -/
def State.virtualOk (s : State) (key : Nat) (v : Int) : Bool :=
  match axisOf key with
  | none => true
  | some (a, _) => !(key == Obj.StandstillMode a && v == 3 && s.flag (Obj.AxisVirtual a))

/-- R10: a byte of a DOMAIN object that is reserved: in the entries of the stitch table, gate lists, process-image map, schedule and
detection tables and path elements, and in the header of a span bank. -/
def reservedByte (key off : Nat) : Bool :=
  let i := key / 256
  if key = Obj.RowStitchTable then off % 64 == 29 || decide (36 ≤ off % 64)
  else if 0x2230 ≤ i ∧ i < 0x2233 then decide (1 ≤ off % 8 ∧ off % 8 ≤ 3)
  else if key = Obj.PiMap then off % 8 == 3
  else if key = Obj.TtSlotTable 0 ∨ key = Obj.TtSlotTable 1 then decide (17 ≤ off % 24)
  else if key = Obj.CanDetectTable 0 ∨ key = Obj.CanDetectTable 1 then decide (13 ≤ off % 16)
  else if 0x4C00 ≤ i ∧ i < 0x4D00 then decide (2 ≤ off % 72 ∧ off % 72 ≤ 3)
  else if 0x4800 ≤ i ∧ i < 0x4900 then decide (4 ≤ off ∧ off < 16)
  else false

/-- R10: bytes written to a DOMAIN object hold 0 in its reserved fields. -/
def reservedZero (key off : Nat) (data : List Byte) : Bool :=
  (data.mapIdx fun i b => !(reservedByte key (off + i) && b != 0)).all id

/-- The status of a value by the rules of its own object, beside type, zero rule and range. -/
def ownStatus (key : Nat) (v : Int) : Nat :=
  if decide (0x2701 ≤ key / 256 ∧ key / 256 ≤ 0x2733) && key % 256 == 1 then reactionStatus (key / 256 - 0x2700) v.toNat
  else if !axisValueOk key v then 0x0301
  else 0

/-- Bytes laid over others from an offset up. -/
def overlay (base : List Byte) (off : Nat) (data : List Byte) : List Byte :=
  base.mapIdx fun i b => if off ≤ i ∧ i < off + data.length then data.getD (i - off) b else b

/-- R419: one field of the parameter set: its place, its size and the values it takes. -/
def paramFields : List (Nat × Nat × (Nat → Bool)) :=
  [(0, 1, fun v => v == 1), (1, 1, fun v => decide (v < 16)), (2, 1, fun v => decide (v < 16)), (3, 1, fun v => v == 1 || v == 2),
   (4, 1, fun v => decide (v < 16)), (5, 1, fun v => decide (v < 16)), (6, 1, fun v => decide (v < 16)), (7, 1, fun v => decide (v < 16)),
   (8, 2, fun v => decide (v ≤ 10000)), (10, 2, fun v => decide (v ≤ 10000)), (12, 2, fun v => decide (v ≤ 10000)),
   (14, 2, fun v => decide (v ≤ 10000)), (16, 2, fun v => decide (v ≤ 1000)), (18, 1, fun v => decide (v ≤ 100)),
   (19, 1, fun v => decide (v < 16)), (20, 2, fun v => v == 0 || decide (50 ≤ v ∧ v ≤ 1000)), (22, 42, fun v => v == 0)]

/-- R419: the status of bytes staged at an offset of the parameter set: the fields they touch, as they would then stand.
(DESIGN CHOICE, unsafe: log entry 34.) -/
def paramStatus (base : List Byte) (off : Nat) (data : List Byte) : Nat :=
  let l := overlay base off data
  let u := fun o n => leNat ((l.drop o).take n)
  let touched := fun o n => decide (o < off + data.length ∧ off < o + n)
  if (touched 19 1 || touched 20 2) && u 19 1 % 16 != 0 && u 20 2 == 0 then 0x0302
  else if paramFields.any fun f => touched f.1 f.2.1 && !f.2.2 (u f.1 f.2.1) then 0x0301
  else 0

/-- R386: the lengths of a classical frame and of a CAN FD frame.
(DEDUCED, unsafe: log entry 35.) -/
def canLengthOk (flags len : Nat) : Bool := decide (len ≤ 8) || (bitAt flags 1 && [12, 16, 20, 24, 32, 48, 64].contains len)

/-- The buffer whose content a key is: controller, buffer, subindex 2 to 5. -/
def canContent (key : Nat) : Option (Nat × Nat × Nat) :=
  let i := key / 256
  let c := (i - 0x2400) / 0x80
  let o := (i - 0x2400) % 0x80
  if decide (0x2400 ≤ i ∧ i < 0x2500 ∧ 0x10 ≤ o ∧ o < 0x50) && decide (2 ≤ key % 256 ∧ key % 256 ≤ 5) then some (c, o - 0x10, key % 256) else none

/-- R386: the content of a buffer whose request is pending.
(DEDUCED, unsafe: log entry 35.) -/
def State.canHeld (s : State) (key : Nat) : Bool :=
  match canContent key with | some (c, b, _) => s.canPending c b | none => false

/-- R386: the length of a buffer agrees with its frame format. -/
def State.canFits (s : State) (key : Nat) : Bool :=
  match canContent key with
  | some (c, b, j) => !(j == 3 || j == 4) || canLengthOk (s.nat (Obj.CanBufFlags c b)) (s.nat (Obj.CanBufLength c b))
  | none => true

/-- R305: the compare value of an auxiliary channel lies within its counter. -/
def State.auxFits (s : State) (key : Nat) : Bool :=
  (List.range 16).all fun n => [0, 1].all fun j => key != Obj.AuxCompare n j || decide (s.nat (Obj.AuxCompare n j) ≤ s.halfPeriod n)

/-- The bank of a span group that a key is. -/
def bankOf (key : Nat) : Option (Nat × Nat) :=
  ((List.range 8).findSome? fun g => if key = Obj.SpanBank0 g then some (g, 0) else if key = Obj.SpanBank1 g then some (g, 1) else none)

/-- R170: the key of a bank that is active.
(DEDUCED, unsafe: log entry 35.) -/
def State.bankHeld (s : State) (key : Nat) : Bool := match bankOf key with | some (g, b) => s.nat (Obj.SpanActiveBank g) == b | none => false

/-! ### The effect of a stored value -/

/-- R128, R134, R139: the profile of an axis runs in a ramp of its group or on a path, whose geometry a limit does not change. -/
def State.geometryRuns (s : State) (a : Nat) : Bool :=
  ((s.groupsOf a).any fun b => (s.bind b).phase == 2) ||
  (match s.pathOf a with
   | some p => s.get (Obj.PathState p) != 0 && s.get (Obj.PathState p) != 4
   | none => false)

/-- R125, R128, R38: a new dynamic limit of an axis re-plans what runs from the next edge: a stop ramp of its leader when it is the
deceleration that the ramp uses, else a move.
(DEDUCED, safe: log entry 41.) -/
def State.limitWritten (s : State) (a key : Nat) : State :=
  let l := s.leaderOf a
  let r := s.axis l
  let st := s.get (Obj.AxisState l)
  let due := if r.stopKey ≠ 0 then r.stopKey - Obj.AxisCommand l + Obj.AxisCommand a == key else l == a && !s.geometryRuns a
  if (st = axMoving ∨ st = axStopping) ∧ r.req = none ∧ due then s.setAxis l { r with req := some .replan, byCommand := false } else s

/-- What follows a change of a stored value: R125, R128, R384. -/
def State.wrote (s : State) (key : Nat) : State :=
  match axisOf key with
  | some (a, off) => if off = 0x08 ∧ 2 ≤ key % 256 ∧ key % 256 ≤ 6 then s.limitWritten a key else s
  | none => if key = Obj.CanMode 0 then s.canModeWritten 0 else if key = Obj.CanMode 1 then s.canModeWritten 1 else s

/-! ### Values of a set of changes (R59, R494) -/

/-- A key of `SlotValue`. -/
def slotValueKey (key : Nat) : Bool := decide (0x5000 ≤ key / 256 ∧ key / 256 < 0x6000) && key % 256 == 1

/-- The number that the bytes of a change stand for. -/
def Staged.value (e : Staged) : Int :=
  match Dict.row e.key with
  | some r => valueOf r.typ e.data
  | none => leInt e.data.length e.data

/-- A change of bytes of a DOMAIN object. -/
def Staged.domain (e : Staged) : Bool := match Dict.row e.key with | some r => r.typ == .dom | none => false

/-- A change that stores no value: a clear of sticky bits, a host slot. -/
def Staged.event (e : Staged) : Bool := (stickyMask e.key).isSome || slotValueKey e.key

/-- R151: the bytes of a cam table that were written. -/
def State.camWritten (s : State) (key off n : Nat) : State :=
  let k := (key / 256 - 0x4A00) / 4
  if n = 0 ∨ k ≥ 128 ∨ key ≠ Obj.CamTable k then s
  else s.setGraft k { s.graft k with table := Sparse.cover off (off + n) (s.graft k).table }

/-- One change as it stands in the registers and memories. -/
def State.applyValue (s : State) (e : Staged) : State :=
  if e.domain then (s.store e.key e.offset e.data).camWritten e.key e.offset e.data.length else if e.event then s else s.put e.key e.value

/-- The values of a set. -/
def State.applyValues (s : State) (l : List Staged) : State := l.foldl State.applyValue s

/-- R494: the configuration with every pending commit applied. -/
def State.pendingConfig (s : State) : State := s.commits.foldl (fun s (c : PCommit) => s.applyValues c.changes) s

/-- R494: a change differs from what the object would hold without it, over the bytes staged. -/
def Staged.differs (old new : State) (e : Staged) : Bool :=
  if e.domain then old.bytes e.key e.offset e.data.length != new.bytes e.key e.offset e.data.length
  else !e.event && old.get e.key != new.get e.key

/-- R494: the objects that a set changes. -/
def changedKeys (old new : State) (l : List Staged) : List Nat := ((l.filter fun e => e.differs old new).map fun e => e.key).dedup

/-! ### Registers that report the configuration -/

/-- The power stages: R242, R244, R284. -/
def State.deriveStage (s : State) (n : Nat) : State :=
  ((s.put (Obj.PwmHalfPeriod n) (s.halfPeriod n)).put (Obj.FocModSpan n) (s.modSpan n)).put (Obj.FocLatency n) (s.focLatencyNs n)

/-- R307, R326: what the cores hold. -/
def State.deriveCores (s : State) : State :=
  let s := s.each (List.range 8) fun s c => (s.put (Obj.CoreInstrUsed c) (s.instrUsed c)).put (Obj.CoreDataUsed c) (s.dataUsed c)
  s.each [0, 1] fun s k => s.put (Obj.SentryReserve k) (s.reserveOf k)

/-- R319–R321: what the loader found of the named kernels. -/
def State.deriveKernels (s : State) : State :=
  s.each s.namedKernels fun s k =>
    let v := s.kernelVerdict k
    (((s.put (Obj.KernelBound k) v.bound).put (Obj.KernelStatus k) v.cause).put (Obj.KernelFailBundle k) v.bundle).put
      (Obj.KernelRepeatSpan k) v.span

/-- R29, R30: the admitted load. -/
def State.deriveLoad (s : State) : State :=
  let p := s.rowSchedule
  let s := s.put Obj.RowBudgetCycles s.budget
  s.each (List.range 8) fun s c => s.put (Obj.RowCoreLoad c) (s.coreLoad p c)

/-- R145, R176, R185: what the axes and groups report; an axis without a position PID reports a lead of 0.
(DESIGN CHOICE, unsafe: log entry 38.) -/
def State.deriveMotion (s : State) : State :=
  let pids := s.rowTable.filter fun d => (d.kind == kindPI || d.kind == kindPID) && s.recU d 0 1 == 1
  let s := s.each allAxes fun s a =>
    (s.put (Obj.AxisGraft a) ((s.graftOf a).getD 0xFF)).put (Obj.LoopFeedbackLead a)
      (match pids.find? fun d => s.recU d 1 1 == a with | some d => s.recU d 3 1 | none => 0)
  let s := s.each (List.range 8) fun s g =>
    let remote := (List.range (s.nat (Obj.SpanMemberCount g))).any fun i => s.nat (Obj.SpanMember g i) / 256 != s.nat (Obj.SpanHome g)
    s.put (Obj.SpanLoopDelay g) (if remote then 3 else 1)
  s.each (List.range 16) fun s g =>
    if (s.gangMembers g).isEmpty then s.put (Obj.GangState g) 0
    else if s.get (Obj.GangState g) = 0 then s.put (Obj.GangState g) 1 else s

/-- R25: the producer of a slot: the number of its stitch, 0xFFFE for a latch source, 0xFFFF for none.
(DESIGN CHOICE, unsafe: log entry 26.) -/
def State.producerNo (s : State) (w : Nat) : Nat :=
  let row := s.rowTable.zipIdx
  let number := fun (p : Stitch → Bool) => ((row.find? fun x => p x.1).map fun x => x.2)
  match number fun d => (s.writesOf d).contains w with
  | some i => i
  | none => if s.trimSlots.contains w || s.latchSlots.contains w || Dict.isLatchSlot w || (s.canTail.any fun x => x.2 == w) then 0xFFFE else 0xFFFF

/-- The slots whose producer a configuration names or whose register differs from its default. -/
def State.namedSlots (s : State) : List Nat :=
  (s.writers ++ (s.canTail.map fun x => x.2) ++ (s.regs.filter fun (p : Nat × Int) => decide (0x500000 ≤ p.1 ∧ p.1 < 0x600000)).map fun (p : Nat × Int) => p.1 / 256 - 0x5000).dedup

/-- The producers of all slots. -/
def State.deriveProducers (s : State) : State :=
  s.namedSlots.foldl (fun t w => if w < 4096 then t.put (Obj.SlotProducer w) (s.producerNo w) else t) s

/-- Every register that reports the configuration. -/
def State.derive (s : State) : State :=
  let s := s.each (List.range 16) State.deriveStage
  let s := s.put Obj.RowStitchCount (s.nat Obj.RowStitchTableLength)
  let s := s.each allChannels fun s c =>
    s.put (Obj.SsiReadyTime c) (if 5 ≤ s.get (Obj.FbType c) then (s.ssiReady c (s.nat (Obj.SsiLineDelay c)) : Nat) else 0)
  s.deriveMotion.deriveCores.deriveKernels.deriveLoad.deriveProducers

/-! ### The apply edge (R59) -/

/-- R31, R32: which stitch or latch source writes a slot: the number and the kind of the stitch, or the place of the latch source
among those of the configuration. -/
def State.writerOf (s : State) (w : Nat) : Nat × Nat :=
  match s.rowTable.zipIdx.find? fun x => (s.writesOf x.1).contains w with
  | some x => (x.2, x.1.kind)
  | none => match (s.latchSources ++ s.canTail).find? fun x => x.2 == w with
    | some x => (0x10000, x.1)
    | none => (0x20000, 0)

/-- R32: a slot whose type or producer changes starts at 0, and a host write that waits for it is void. -/
def State.restartSlots (s old : State) : State :=
  ((old.namedSlots ++ s.namedSlots).dedup).foldl (fun t w =>
    if w < 4096 ∧ (old.slotType w ≠ s.slotType w ∨ old.writerOf w ≠ s.writerOf w) then
      { t.put (Obj.SlotValue w) 0 with slotNow := Sparse.erase w t.slotNow, hostWrites := Sparse.erase w t.hostWrites }
    else t) s

/-- R31, R495: an entry that keeps its kind and kernel keeps its state under its order; any other starts anew. -/
def State.keepStitches (s old : State) : State :=
  let before := old.rowTable
  let kept := s.rowTable.zipIdx.filterMap fun p =>
    match before[p.2]? with
    | some e => if e.kind = p.1.kind ∧ e.kernel = p.1.kernel ∧ p.1.kind ≠ 0 then some (p.1.order, old.stitch e.order) else none
    | none => none
  { s with stitches := kept.foldl (fun l p => Sparse.put (fun _ => {}) l p.1 p.2) [] }

/-- R309: the record of a kernel stitch that is new, or whose bytes changed, is installed.
(DEDUCED, unsafe: log entry 25.) -/
def State.installRecords (s old : State) : State :=
  let before := old.rowTable
  (s.rowTable.zipIdx.filter fun p =>
    p.1.kind == kindKernel &&
      !(match before[p.2]? with
        | some e => e.kind == kindKernel && e.order == p.1.order && e.kernel == p.1.kernel && e.recLen == p.1.recLen &&
            old.bytes Obj.RowParameters e.recOff e.recLen == s.bytes Obj.RowParameters p.1.recOff p.1.recLen
        | none => false)).foldl (fun t p => t.installRecord p.1) s

/-- R14, R15: a new tick length renumbers the edges; a later pending commit keeps its time.
(DESIGN CHOICE, unsafe: log entry 17.) -/
def State.renumber (s old : State) : State :=
  if s.nat Obj.TickPeriod = old.nat Obj.TickPeriod then s
  else
    let n := s.nat Obj.TickEdgeTime / s.tNs
    let commits := s.commits.map fun (c : PCommit) => { c with edge := ceilDiv (c.edge * old.tNs) s.tNs }
    { s.put Obj.TickNumber n with commits := commits }

/-- R150: the carried remainder of a gear whose denominator changed.
(DESIGN CHOICE, unsafe: log entry 17.) -/
def State.rescale (s old : State) (k : Nat) : State :=
  let d0 := old.get (Obj.GearDenominator k)
  let d1 := s.get (Obj.GearDenominator k)
  if d0 = d1 then s
  else
    let r0 := s.get (Obj.GearRemainder k)
    let r1 := qdiv (r0 * d1) d0
    ((s.addI64 (Obj.GearFollowerTerm k) r0).addI64 (Obj.GearMasterTerm k) r1).put (Obj.GearRemainder k) r1

/-- R163: a graft that is given another remote master awaits it.
(DESIGN CHOICE, unsafe: log entry 38.) -/
def State.awaitMaster (s old : State) (k : Nat) : State :=
  let l := [Obj.GraftKind k, Obj.GraftMasterSource k, Obj.GraftMasterNumber k, Obj.GraftMasterAddress k]
  let remote := s.get (Obj.GraftKind k) ≠ 0 ∧ (s.get (Obj.GraftMasterSource k) = 4 ∨ s.get (Obj.GraftMasterSource k) = 5)
  if l.all fun x => s.get x == old.get x then s
  else
    let s := if s.get (Obj.RemoteMasterState k) = 3 then s.setActive fkMasterLost k false else s
    (s.put (Obj.RemoteMasterState k) (if remote then 1 else 0)).setGraft k { s.graft k with remote := none, earlier := none, next := none, nextEarlier := none }

/-- R170: new dimensions of a span group make both banks invalid. -/
def State.newDimensions (s old : State) (g : Nat) : State :=
  let l := [Obj.SpanMemberCount g, Obj.SpanStateCount g, Obj.SpanLoadCellCount g]
  if l.all fun x => s.get x == old.get x then s else s.setSpan g { s.span g with written0 := 0, written1 := 0 }

/-- R170: the bytes of a bank that a set writes. -/
def State.bankWritten (s : State) (e : Staged) : State :=
  match bankOf e.key with
  | none => s
  | some (g, b) =>
    let mask := (2 ^ e.data.length - 1) * 2 ^ e.offset
    let r := s.span g
    s.setSpan g (if b = 0 then { r with written0 := r.written0 ||| mask } else { r with written1 := r.written1 ||| mask })

/-- R366, R374: a host queue that changed begins anew, and the consumer grants its capacity.
(DESIGN CHOICE, unsafe: log entry 37.) -/
def State.newQueue (s old : State) (q : Nat) : State :=
  let grant := fun (s : State) (c : Nat) (k : Nat) =>
    let d := s.get k - old.get k
    (s.count (Obj.CrGranted c) 64 d).count (Obj.CrHeld c) 64 d
  let s := grant (grant (grant s 0 (Obj.HsqSize q)) 1 (Obj.HcqSize q)) 2 (Obj.HcqStreamSize q)
  let s := if s.get (Obj.HsqSize q) = old.get (Obj.HsqSize q) ∧ s.get (Obj.HsqBase q) = old.get (Obj.HsqBase q) then s
    else { s.put (Obj.HsqHead q) 0 with host := { s.host with tails := Sparse.erase q s.host.tails } }
  if s.get (Obj.HcqSize q) = old.get (Obj.HcqSize q) ∧ s.get (Obj.HcqBase q) = old.get (Obj.HcqBase q) then s
  else (s.put (Obj.HcqTail q) 0).setCq q {}

/-- R99: a changed gate list waits for its cycle start. -/
def State.newGates (s old : State) (p : Nat) : State :=
  let l := [Obj.GateEnable p, Obj.GateListLength p, Obj.GateCycleTime p, Obj.GateBaseTime p]
  if l.all (fun x => s.get x == old.get x) && s.bytes (Obj.GateList p) 0 512 == old.bytes (Obj.GateList p) 0 512 then s
  else { s with plant := { s.plant with gates := Sparse.insert p { (s.plant.gates.lookup p).getD {} with pending := true, since := s.nat Obj.TickEdgeTime } s.plant.gates } }

/-- R209: a channel that a commit changes measures its line delay anew.
(DESIGN CHOICE, unsafe: log entry 37.) -/
def State.newChannel (s : State) (changed : List Nat) (c : Nat) : State :=
  if changed.any fun k => decide (0x4000 + 0x20 * c ≤ k / 256 ∧ k / 256 < 0x4020 + 0x20 * c) then s.setFb c { s.fb c with ssiDelays := [] } else s

/-- R230: an emulation output with a new source starts from its next value.
(DESIGN CHOICE, unsafe: log entry 37; DEDUCED, unsafe: log entry 135.) -/
def State.newSource (s old : State) (e : Nat) : State :=
  if s.get (Obj.EmuSource e) = old.get (Obj.EmuSource e) ∧ s.get (Obj.EmuSourceNumber e) = old.get (Obj.EmuSourceNumber e) then s
  else s.setEmu e { s.emu e with prev := none }

/-- R390: a buffer that is no transmit buffer any more holds no request.
(DESIGN CHOICE, unsafe: log entry 37.) -/
def State.newRoles (s : State) (c : Nat) : State :=
  (((s.can c).reqs.map fun r => r.1).filter fun b => s.get (Obj.CanBufRole c b) != 1).foldl
    (fun s b => s.canEnd c b (Obj.CanCancelled c) 0) s

/-- R296: a stage that a set names has been committed. -/
def State.stageCommitted (s : State) (staged : List Nat) (n : Nat) : State :=
  if staged.any fun k => decide (0x4400 + 0x20 * n ≤ k / 256 ∧ k / 256 < 0x4420 + 0x20 * n) then s.setPwm n { s.pwm n with committed := true } else s

/-- R96: a changed plant address ends the conflict. -/
def State.newAddress (s old : State) : State :=
  if s.get Obj.PlantAddress = old.get Obj.PlantAddress then s
  else
    let s := { s with plant := { s.plant with conflict := false } }
    if s.faultActive fkAddress 0 then s.setActive fkAddress 0 false else s

/-- R78: the selection of the free-running source is a transition to state 0. -/
def State.newTimeSource (s old : State) : State :=
  if s.get Obj.TrellisSource ≠ old.get Obj.TrellisSource ∧ s.timeSource = 4 ∧ s.get Obj.TrellisState ≠ 0 then s.trellisTo 0 else s

/-- R420: an accepted parameter set goes into the store and into force. -/
def State.newParams (s : State) (staged : List Nat) : State :=
  if staged.contains Obj.SafetyParamSet || staged.contains Obj.SafetyParamCrc then
    (s.nvSmall 5 (s.paramSet ++ natLE 4 (s.nat Obj.SafetyParamCrc))).putSource.safetyStateEdge
  else s

/-- The events of a set: sticky bits it clears and host slots it writes; the answer of the latest request stays.
(DESIGN CHOICE, unsafe: log entry 40.) -/
def State.applyEvent (s : State) (e : Staged) : State :=
  if slotValueKey e.key then
    { s.put (Obj.SlotValue (e.key / 256 - 0x5000)) (leNat e.data : Nat) with
      hostWrites := Sparse.erase (e.key / 256 - 0x5000) s.hostWrites }
  else if (stickyMask e.key).isSome then { s.clearSticky e.key (leNat e.data) 0 with resp := s.resp }
  else s

/-- The row of the configuration differs.
(DESIGN CHOICE, unsafe: log entry 38.) -/
def rowDiffers (changed : List Nat) : Bool :=
  changed.any fun k => k ∈ [Obj.RowStitchTableLength, Obj.RowStitchTable, Obj.RowParamLength, Obj.RowParameters]

/-- R59: a set of changes takes effect at an edge: its values, what they change in the blocks, and the reports. -/
def State.applySet (s : State) (edge : Nat) (l : List Staged) : State :=
  let old := s
  let s := s.applyValues l
  let staged := (l.map fun e => e.key).dedup
  let changed := changedKeys old s l
  let s := { s with oldVals := s.oldVals.filter fun (p : Nat × Int) => !staged.contains p.1 }
  let s := s.renumber old
  let s := s.derive
  let s := s.each (List.range 128) fun s k => (s.rescale old k).awaitMaster old k
  let s := s.each (List.range 8) fun s g => s.newDimensions old g
  let s := l.foldl State.bankWritten s
  let s := if rowDiffers changed then s.put Obj.RowCommitEdge edge else s
  let s := ((s.keepStitches old).restartSlots old).installRecords old
  let s := s.each (List.range 16) fun s n => s.stageCommitted staged n
  let s := s.each (List.range 32) fun s q => s.newQueue old q
  let s := s.each (List.range 3) fun s p => s.newGates old p
  let s := s.each allChannels fun s c => s.newChannel changed c
  let s := s.each (List.range 4) fun s e => s.newSource old e
  let s := s.each [0, 1] State.newRoles
  let s := ((s.newAddress old).newTimeSource old).newParams staged
  let s := if staged.contains Obj.JzCommand && s.get Obj.JzCommand == 1 then s.acceptMap.put Obj.JzCommand 0 else s
  let s := changed.foldl State.wrote s
  l.foldl State.applyEvent s

/-- R59: every pending commit whose edge has come applies, in the order of acceptance.
(DEDUCED, safe: log entry 19.) -/
def State.applyDue (s : State) (edge : Nat) : Nat → State
  | 0 => s
  | fuel + 1 =>
    match s.commits.find? fun (c : PCommit) => decide (c.edge ≤ edge) with
    | none => s
    | some c =>
      let s := { s with commits := s.commits.erase c }
      let s := s.applySet c.edge c.changes
      (s.put Obj.PendingCommits s.commits.length).applyDue edge fuel

end Sys2Proof.Machine
end

