-- ==== Sys2Proof/Machine/Commit.lean ====
section
/-! DEFINITION. Staging and commit (R54–R61, R494): stage requests, the checks of a commit in their order, its apply edge,
cancelling, discarding, and the apply edge as a row of its own. -/

namespace Sys2Proof.Machine

/-! ### Addressing a written value (R46, R47, R67, R71) -/

/-- A written or staged value: a status, or the native subentry with its bytes. -/
def State.resolve (s : State) (n i sub off : Nat) (data : List Byte) : ViewWrite :=
  let bad := fun st => (⟨st, 0, []⟩ : ViewWrite)
  if !s.sessionOk n then bad 0x0104
  else if !s.served i sub then bad 0x0701
  else if inView i then
    (let w := s.viewWrite n i sub data
     if w.status = 0 ∧ off ≠ 0 then bad 0x0301 else w)
  else if addrStatus i sub ≠ 0 then bad (addrStatus i sub)
  else if (Dict.rowOf i sub).isNone then bad 0x0201
  else ⟨0, i * 256 + sub, data⟩

/-! ### Staging (R54, R55, R56) -/

/-- R50, R54: whether the class of a subentry lets it be staged. -/
def State.stageClass (s : State) (n key : Nat) (r : Dict.Row) : Nat :=
  if sessionRelative key then 0x0201
  else if slotValueKey key then 0
  else if s.safetyLocked key then 0x0204
  else if r.acc = .sl ∧ (s.session n).unlocked = true then 0
  else stageStatus r.acc

/-- The bytes of the parameter set with what a session has staged. -/
def State.stagedParams (s : State) (n : Nat) : List Byte :=
  ((s.session n).staged.filter fun e => e.key == Obj.SafetyParamSet).foldl (fun l e => overlay l e.offset e.data) s.paramSet

/-- R10, R49, R54: the status of a value at its stage request. -/
def State.stageValue (s : State) (n : Nat) (w : ViewWrite) (off : Nat) : Nat :=
  match Dict.row w.key with
  | none => 0
  | some r =>
    if s.stageClass n w.key r ≠ 0 then s.stageClass n w.key r
    else if valueStatus w.key off w.data r ≠ 0 then valueStatus w.key off w.data r
    else if w.key = Obj.SafetyParamSet then paramStatus (s.stagedParams n) off w.data
    else if r.typ = .dom then (if reservedZero w.key off w.data then 0 else 0x0301)
    else ownStatus w.key (valueOf r.typ w.data)

/-- R54: an earlier value of the same subentry, or of bytes that a new one covers, is replaced. -/
def Session.stage (x : Session) (e : Staged) (gen : Nat) : Session :=
  let gone := fun (y : Staged) => y.key == e.key && (!e.domain || (y.offset == e.offset && decide (y.data.length ≤ e.data.length)))
  { x with staged := (x.staged.filter fun y => !gone y) ++ [e], gen := if x.staged.isEmpty then some gen else x.gen }

/-- R55: a set, and all sets together, hold a limited number of subentries. -/
def State.stageRoom (s : State) (n key : Nat) : Bool :=
  let x := s.session n
  (x.staged.any fun e => e.key == key) || (decide (x.count < 4096) && decide ((s.sessions.map Session.count).sum < 16384))

/-- A value that passed goes into the set. -/
def State.stagePut (s : State) (n : Nat) (e : Staged) : State :=
  if !s.stageRoom n e.key then s.reply 0x0503
  else
    let s := s.setSession ((s.session n).stage e (s.nat Obj.ConfigGeneration))
    let s := if e.key = Obj.SafetyParamSet then s.put Obj.SafetyParamCrcComputed (crc32 (s.stagedParams n) : Nat) else s
    s.done

/-- A stage request as the host interface and the row make it.
(DEDUCED, unsafe: log entry 16; DESIGN CHOICE, safe: log entry 36.) -/
def State.stageObject (s : State) (n i sub off : Nat) (data : List Byte) : State :=
  if n = 0 then s.reply 0x0104
  else if s.sessionOk n && s.served i sub && inView i && viewIndex i == 0x6040 then s.reply (if sub = 0 then 0x0201 else 0x0102)
  else
    let w := s.resolve n i sub off data
    if w.status ≠ 0 then s.reply w.status
    else if s.stageValue n w off ≠ 0 then s.reply (s.stageValue n w off)
    else
      let e : Staged := ⟨w.key, off, w.data⟩
      if e.domain && e.data.isEmpty then s.done else s.stagePut n e

/-- STAGE_REQUEST (R54, R55, R56). -/
def execStageRequest (n i sub off : Nat) (data : List Byte) (s : State) : Host.Outcome State Fault Refusal :=
  .next (s.stageObject n i sub off data)

/-! ### The checks of a commit (R57) -/

/-- R167: an object of a span group that is marked RW-S. -/
def spanObject (key : Nat) : Option Nat :=
  let i := key / 256
  match Dict.row key with
  | some r => if 0x4800 ≤ i ∧ i < 0x4900 ∧ r.acc = .rws then some ((i - 0x4800) / 0x20) else none
  | none => none

/-- Step 4: device, axis and block states (R15, R31, R148, R167, R170, R204, R296, R328, R352, R366, R386).
(DESIGN CHOICE, unsafe: log entry 40.) -/
def Ctx.stateFail (c : Ctx) : Option Fail :=
  let now := c.now
  let off := fun g => now.get (Obj.SpanState g) == 0 && (now.spanHome g || !Config.groupRuns g now.tick)
  firstFail
    [want (!c.has Obj.TickPeriod || now.get Obj.DeviceState == devSafe) 0x0701 Obj.TickPeriod,
     want (!c.has Obj.JzCommand || decide (now.get Obj.DeviceState ≤ devReady)) 0x0701 Obj.JzCommand,
     c.polarityFail, c.structureFail,
     allAxes.findSome? fun a => want (!c.has (Obj.AxisVirtual a) || now.get (Obj.AxisState a) == axDisabled) 0x0703 (Obj.AxisVirtual a),
     c.changed.findSome? fun k => match spanObject k with | some g => want (off g) 0x0703 k | none => none,
     allChannels.findSome? c.typeFail,
     c.acqBusy, c.queueBusy,
     c.changed.findSome? fun k => want (!now.bankHeld k && !now.canHeld k) 0x0501 k]

/-- Step 5. -/
def edgeOrTime (x : Session) : Option Fail := want (x.edge == 0 || x.time == 0) 0x0402 Obj.CommitEdge Obj.CommitTime

/-- The group whose bank selection a key is. -/
def selectOf (key : Nat) : Option Nat := (List.range 8).find? fun g => key == Obj.SpanBankSelect g

/-- R169–R171: the configuration that would result with its banks as they would then be written. -/
def Ctx.withBanks (c : Ctx) (staged : List Staged) : State :=
  staged.foldl State.bankWritten ((List.range 8).foldl (fun s g => s.newDimensions c.old g) c.new.deriveMotion)

/-- R171: a staged selection names a valid bank; R10, R169: a staged bank holds no reserved shift. -/
def Ctx.bankFail (c : Ctx) (staged : List Staged) : Option Fail :=
  staged.findSome? fun e => match selectOf e.key, bankOf e.key with
    | some g, _ => want ((c.withBanks staged).spanBankValid g (c.new.nat e.key)) 0x0301 e.key
    | none, some (g, _) => want (c.new.spanBytesOk g e.offset e.data) 0x0301 e.key
    | none, none => none

/-- Step 6: the pairs and whole-set rules on the configuration that would result.
(DESIGN CHOICE, unsafe: log entry 14.) -/
def Ctx.wholeFail (c : Ctx) (x : Session) : Option Fail :=
  let keys := x.staged.map fun e => e.key
  firstFail
    [c.rowFail, c.motionFail keys, c.new.fieldFail, c.ioFail x.staged x.unlocked, c.bankFail x.staged,
     keys.findSome? fun k => want (c.new.auxFits k && c.new.canFits k) 0x0301 k]

/-- What a commit of a session's set sees. -/
def State.commitCtx (s : State) (x : Session) : Ctx :=
  let old := s.pendingConfig
  let new := old.applyValues x.staged
  { now := s, old := old, new := new, changed := changedKeys old new x.staged }

/-- Steps 1 to 7 in their order; steps 2 and 3 for command 2 only. -/
def State.commitFail (s : State) (x : Session) (take : Bool) : Option Fail :=
  let c := s.commitCtx x
  firstFail
    [want (x.gen == some (s.nat Obj.ConfigGeneration)) 0x0403,
     if take then want (!s.commits.any fun y => y.session == x.num) 0x0405 else none,
     if take then want (decide (s.commits.length < 8)) 0x0404 else none,
     c.stateFail, edgeOrTime x, c.wholeFail x, c.admissionFail]

/-- R58: the apply edge that a session's commit gets. -/
def State.applyEdge (s : State) (x : Session) : Nat :=
  let last := s.commits.foldl (fun m (c : PCommit) => max m c.edge) 0
  if x.edge ≠ 0 then x.edge else if x.time ≠ 0 then ceilDiv x.time s.tNs else max (s.tick + 2) last

/-- Step 8 (R58): the checks finish before edge e−1, and no pending commit applies later. -/
def State.timingFail (s : State) (e : Nat) : Option Fail :=
  firstFail [want (decide (s.tick + 1 < e)) 0x0601, want (s.commits.all fun c => decide (c.edge ≤ e)) 0x0405]

/-- R57: a command's outcome, which `CommitStatus` holds too. -/
def State.outcome (s : State) (n status : Nat) : State := (s.setSession { s.session n with status := status }).reply status

/-- R30, R319: what a refused commit reports of its row.
(DEDUCED, unsafe: log entry 39.) -/
def State.reportFail (s : State) (x : Session) (f : Fail) : State :=
  let c := s.commitCtx x
  if f.status = 0x0401 then s.put Obj.RowAdmissionFailCore ((c.admissionCore).getD 0xFF)
  else match c.new.namedKernels.find? fun k => f.obj == Obj.KernelImage k && (c.new.kernelVerdict k).cause != 0 with
    | some k => (s.put (Obj.KernelStatus k) (c.new.kernelVerdict k).cause).put (Obj.KernelFailBundle k) (c.new.kernelVerdict k).bundle
    | none => s

/-- A failed check: nothing applies, the set is kept, and the cause is named. -/
def State.commitRefused (s : State) (x : Session) (f : Fail) : State :=
  let s := s.reportFail x f
  (s.setSession { x with failObj := f.obj, failPeer := f.peer }).outcome x.num f.status

/-- A commit that passed becomes pending; the unlock of R420 ends. -/
def State.commitAccepted (s : State) (x : Session) (e : Nat) : State :=
  let s : State := { s with commits := s.commits ++ [(⟨x.num, e, x.staged⟩ : PCommit)] }
  let s := (s.count Obj.ConfigGeneration 32 1).put Obj.PendingCommits s.commits.length
  (s.setSession { x with staged := [], gen := none, edge := e, failObj := 0, failPeer := 0, unlocked := false }).outcome x.num 0

/-! ### The commands -/

/-- Whether a commit command is taken up: a session, and not recovery service (R67, R464).
(DEDUCED, unsafe: log entry 16.) -/
def State.commitStatus (s : State) (n : Nat) : Nat :=
  if n = 0 ∨ s.sessionOk n = false then 0x0104 else if !s.served 0x2010 1 then 0x0701 else 0

/-- COMMIT_CHECK_ONLY (R57, R61): `CommitCommand` 1. -/
def execCommitCheckOnly (n : Nat) (s : State) : Host.Outcome State Fault Refusal :=
  let x := s.session n
  .next
    (if s.commitStatus n ≠ 0 then s.reply (s.commitStatus n)
     else if x.staged.isEmpty then s.outcome n 0
     else match s.commitFail x false with
       | some f => s.commitRefused x f
       | none => (s.setSession { x with failObj := 0, failPeer := 0 }).outcome n 0)

/-- COMMIT (R57, R58, R61): `CommitCommand` 2.
(DESIGN CHOICE, unsafe: log entry 149.) -/
def execCommit (n : Nat) (s : State) : Host.Outcome State Fault Refusal :=
  let x := s.session n
  let e := s.applyEdge x
  .next
    (if s.commitStatus n ≠ 0 then s.reply (s.commitStatus n)
     else if x.staged.isEmpty then (s.setSession { x with unlocked := false }).outcome n 0
     else match firstFail [s.commitFail x true, s.timingFail e] with
       | some f => s.commitRefused x f
       | none => s.commitAccepted x e)

/-- COMMIT_CANCEL (R56, R60): `CommitCommand` 3. -/
def execCommitCancel (n : Nat) (s : State) : Host.Outcome State Fault Refusal :=
  .next
    (if s.commitStatus n ≠ 0 then s.reply (s.commitStatus n)
     else match s.commits.find? fun (c : PCommit) => c.session == n with
       | none => s.outcome n 0x0601
       | some c =>
         if c.edge ≤ s.tick + 1 then s.outcome n 0x0601
         else if s.commits.getLast? ≠ some c then s.outcome n 0x0405
         else
           let s : State := { s with commits := s.commits.dropLast }
           ((s.count Obj.ConfigGeneration 32 1).put Obj.PendingCommits s.commits.length).outcome n 0)

/-- STAGED_SET_DISCARD (R61): `CommitCommand` 4. -/
def execStagedSetDiscard (n : Nat) (s : State) : Host.Outcome State Fault Refusal :=
  .next
    (if s.commitStatus n ≠ 0 then s.reply (s.commitStatus n)
     else (s.setSession { s.session n with staged := [], gen := none }).outcome n 0)

/-- COMMIT_APPLY (R32, R59): the edge of pending commits.
(DEDUCED, safe: log entry 19.) -/
def execCommitApply (s : State) : Host.Outcome State Fault Refusal := .next (s.applyDue s.tick s.commits.length)

end Sys2Proof.Machine
end

