-- ==== Sys2Proof/Machine/Boot.lean ====
section
/-! DEFINITION. Start-up (R456–R459, R463–R467, R471, R474, R479, R481, R482): the release of the reset, the choice of the boot
bank, and the end of start-up with the stored configuration. -/

namespace Sys2Proof.Machine

/-! ### Release (R458, R464, R474, R479, R481) -/

/-- R458: the parts in reset may be released. -/
def State.releaseOk (s : State) (locked : Bool) : Bool :=
  s.power.inReset && s.power.good && locked && (!s.power.nrstLow || s.get Obj.NrstState == 2) && s.thermal.hold.isNone

/-- R474: at power-on the epoch goes on after the reservation, and a new reservation is committed.
(DESIGN CHOICE, unsafe: log entry 123.) -/
def State.powerOnEpoch (s : State) : State :=
  if s.get Obj.LastResetCause ≠ 1 then s
  else
    let c := s.nvReserve
    (s.put Obj.ResetEpoch ((c + 1) % 4294967296 : Nat)).reserveEpochs (c + 256)

/-- The entries of a configuration payload (R470): index, subindex, length and value, padded to a multiple of 8. -/
def parseEntries : Nat → List Byte → List Staged
  | 0, _ => []
  | fuel + 1, l =>
    if l.length < 8 then []
    else
      let u := fun o n => leNat ((l.drop o).take n)
      let len := u 4 4
      ⟨u 0 2 * 256 + u 2 1, 0, (l.drop 8).take len⟩ :: parseEntries fuel (l.drop (8 + (len + 7) / 8 * 8))

/-- R471, R482: the stored configuration that a boot applies: the newest complete transaction of the running format; during a
trial without one, that of another format, converted.
(DESIGN CHOICE, unsafe: log entry 127.) -/
def State.storedPayload (s : State) : Option (List Byte × Bool) :=
  let l := s.nv.records
  let f := s.nat Obj.StoreFormat
  match newestTxn l f with
  | some t => some (txnBytes l t, false)
  | none =>
    if !s.selTrial then none
    else
      let others := ((l.filter fun (r : NvRec) => r.kind == 2 && r.committed && txnComplete l r.txn).map fun r => (r.txn, r.format))
      match others.foldl (fun (m : Option (Nat × Nat)) x => match m with | some y => if y.1 < x.1 then some x else m | none => some x) none with
      | some x => some (Config.convert x.2 f (txnBytes l x.1), true)
      | none => none

/-- R481: `UpdateTrialBoots` as the stored configuration gives it, else its default.
(DEDUCED, unsafe: log entry 129.) -/
def State.trialBoots (s : State) : Nat :=
  match s.storedPayload with
  | some p => match (parseEntries p.1.length p.1).find? fun e => e.key == Obj.UpdateTrialBoots with
    | some e => leNat e.data
    | none => s.nat Obj.UpdateTrialBoots
  | none => s.nat Obj.UpdateTrialBoots

/-- R479, R481: the trial as this boot finds it: it falls back, or counts.
(DEDUCED, unsafe: log entry 129.) -/
def State.trialBoot (s : State) : State :=
  if !s.selTrial then s
  else
    let failed := s.selBank
    if s.nv.fallback || decide (s.trialBoots < s.selCount) then
      let s := s.select s.selPrev false 0 failed
      let s := { s with nv := { s.nv with fallback := false }, power := { s.power with fellBack := true } }
      (((s.setBit Obj.UpdateStatus 3).setBit Obj.ResetStatus 1).raise fkUpdateFallback failed)
    else s.select failed true (s.selCount + 1) s.selPrev

/-- R464, R479: a bank passes its check: its content, and a program slot of the field die that holds its package. -/
def State.bankGood (s : State) (bad b : Nat) : Bool :=
  !bad.testBit b && s.flag (Obj.BankState b) && s.nv.slots.contains (s.nv.packages.getD b 0)

/-- A bank is started: its settings format, and the field die's slot with the same package. -/
def State.startBank (s : State) (b : Nat) : State :=
  let k := bankKey b
  let s := s.put Obj.BootBank (b + 1 : Nat)
  let s := if s.uint k 16 4 = 0 then s else s.put Obj.StoreFormat (s.uint k 30 2 : Nat)
  let slot := if s.nv.slots.getD s.nv.slot 0 = s.nv.packages.getD b 0 then s.nv.slot else 1 - s.nv.slot
  { s with nv := { s.nv with slot := slot } }

/-- R464: the bank that the selector names, else the other one, else recovery service.
(DESIGN CHOICE, unsafe: log entry 124; DEDUCED, unsafe: log entry 129.) -/
def State.chooseBank (s : State) (bad : Nat) : State :=
  let b := s.selBank
  if s.bankGood bad b then s.startBank b
  else if s.bankGood bad (1 - b) then
    let s := (s.startBank (1 - b)).setBit Obj.ResetStatus 1
    ({ s with power := { s.power with fellBack := true } }).raise fkUpdateFallback b
  else { s with power := { s.power with recovery := true, booting := false } }

/-- R471: records that are not in force are rolled back: ignored and counted.
(DESIGN CHOICE, unsafe: log entry 125.) -/
def State.rollBack (s : State) : State :=
  let l := s.nv.records
  let n := (l.filter fun (r : NvRec) => !r.committed || (decide (r.kind ≤ 2) && !txnComplete l r.txn)).length
  ((s.put Obj.StoreRolledBack n).setBitIf (n != 0) Obj.UpdateStatus 1).storeUsed

/-- R445: a boot after a thermal hold says so. -/
def State.holdReport (s : State) : State :=
  let p := s.power
  let s := (s.setBitIf p.held Obj.ThermalStatus 6).setBitIf p.aborted Obj.ThermalStatus 7
  { s with power := { s.power with held := false, aborted := false } }

/-- RESET_RELEASE (R434, R438, R445, R458, R459, R464, R471, R474, R478, R481): the parts are released and start-up begins;
`bad` marks banks whose content fails a check in flash. -/
def execResetRelease (locked : Bool) (bad : Nat) (s : State) : Host.Outcome State Fault Refusal :=
  .next
    (if !s.releaseOk locked then s
     else
       let s := { s with power := { s.power with inReset := false, booting := true, fellBack := false },
                         faults := { s.faults with running := true } }
       let s := s.powerOnEpoch.trialBoot
       let s := (s.chooseBank bad).rollBack.holdReport.fatalToLog
       let s := (s.put Obj.UpdateState (if s.selTrial then 4 else 0)).put Obj.UpdateTrialCount s.selCount
       let s := if s.power.failedStart then s.raise fkResetPin 0 else s
       s.nerrUpdate)

/-! ### The end of start-up (R463, R465, R467, R482) -/

/-- R54: an entry of the stored configuration fails a check of its own. -/
def State.storedBad (s : State) (e : Staged) : Option Fail :=
  let st := addrStatus (e.key / 256) (e.key % 256)
  let own := s.stageValue 0 ⟨0, e.key, e.data⟩ 0
  if st ≠ 0 then some ⟨st, e.key, 0⟩ else if own ≠ 0 then some ⟨own, e.key, 0⟩ else none

/-- R463, R465: the stored configuration is checked as one commit, judged as in Safe with every axis Disabled.
(DEDUCED, unsafe: log entry 130.) -/
def State.storedFail (s : State) (l : List Staged) : Option Fail :=
  let s := s.put Obj.DeviceState devSafe
  let x : Session := { num := 0, staged := l, gen := some (s.nat Obj.ConfigGeneration) }
  firstFail [l.findSome? s.storedBad, s.commitFail x false]

/-- R463, R465: the stored configuration applies as a whole, or nothing of it does.
(DEDUCED, unsafe: log entry 130.) -/
def State.applyStored (s : State) (payload : List Byte) : State :=
  let l := parseEntries payload.length payload
  match s.storedFail l with
  | some f => (((s.derive).setBit Obj.ResetStatus 4).put Obj.CommitFailObject f.obj).put Obj.CommitFailPeer f.peer
  | none => (s.applySet s.tick l).count Obj.ConfigGeneration 32 1

/-- R467: the device goes on by itself; a start after a failed-closed pin does not. -/
def State.startupTarget (s : State) : State :=
  let t := s.get Obj.StartupTarget
  if t = 0 ∨ s.power.failedStart = true ∨ s.readyOk = false then s
  else if t = 1 then s.enterReady else s.enterReady.put Obj.DeviceState devRun

/-- STARTUP_COMPLETE (R463, R465, R467, R471, R482): the stored configuration was applied or refused and the enumeration has
finished: Boot becomes Safe. A configuration that a trial converted is written in the new format. -/
def execStartupComplete (bootMs : Nat) (s : State) : Host.Outcome State Fault Refusal :=
  .next
    (if !s.power.booting then s
     else
       let stored := s.storedPayload
       let s := match stored with
         | some p => if p.1.isEmpty then s.derive else s.applyStored p.1
         | none => s.derive
       let s := { s with power := { s.power with booting := false } }
       let s := (s.enterSafe.put Obj.BootTime bootMs).startupTarget
       match stored with
       | some (p, true) => s.queueTxn (s.nat Obj.StoreFormat) p
       | _ => s)

end Sys2Proof.Machine
end

