-- ==== Sys2Proof/Machine/Direct.lean ====
section
/-! DEFINITION. Direct writes (R28, R50, R51): a host slot, a value, the commands that WO objects are, sticky bits, and the
objects with rules of their own. -/

namespace Sys2Proof.Machine

/-! ### Host slots (R28) -/

/-- R28: a write of `SlotValue`: 8 bytes, judged by the committed row, latched at the next edge. -/
def State.slotWritten (s : State) (slot : Nat) (data : List Byte) : State :=
  let raw := leNat data
  if data.length ≠ 8 then s.reply 0x0205
  else if s.slotStatus slot raw ≠ 0 then s.reply (s.slotStatus slot raw)
  else { s with hostWrites := Sparse.insert slot raw s.hostWrites }.done

/-- SLOT_VALUE_WRITE (R28). -/
def execSlotValueWrite (n slot : Nat) (data : List Byte) (s : State) : Host.Outcome State Fault Refusal :=
  .next
    (if !s.sessionOk n then s.reply 0x0104
     else if s.power.recovery then s.reply 0x0701
     else if 4096 ≤ slot then s.reply 0x0101
     else s.slotWritten slot data)

/-! ### Commands (R50: WO) -/

/-- The command of a code from a list, counted from 1; other codes are refused with 0x0301. -/
def State.pick (s : State) (v : Nat) (l : List (State → Host.Outcome State Fault Refusal)) : State :=
  if v = 0 then s.reply 0x0301
  else match l[v - 1]? with
    | some f => after (f s) s
    | none => s.reply 0x0301

/-- R110: `AxisCommand`. -/
def State.axisCommand (s : State) (a v : Nat) : State :=
  s.pick v [execEnable a, execDisable a, execPowerOn a, execMoveAbsolute a, execMoveRelative a, execVelocityMove a, execStop a,
    execResume a, execQuickStop a, execAbandon a, execHome a, execFaultReset a, execCoilsOff a]

/-- R57: `CommitCommand`. -/
def State.commitCommand (s : State) (n v : Nat) : State :=
  s.pick v [execCommitCheckOnly n, execCommit n, execCommitCancel n, execStagedSetDiscard n]

/-- Commands of the blocks with instances of their own. Whether the controller is sending a frame at a cancel, and since when, is a
free value (R390).
(DESIGN CHOICE, unsafe: log entry 42; DESIGN CHOICE, unsafe: log entry 111.) -/
def State.blockCommand (s : State) (i sub v : Nat) : State :=
  if 0x3000 ≤ i ∧ i < 0x4000 then
    (let a := (i - 0x3000) / 0x40
     if (i - 0x3000) % 0x40 = 0 then s.axisCommand a v else s.pick v [execAngleTest a, execReturnFromRideThrough a])
  else if 0x4000 ≤ i ∧ i < 0x4200 then
    (let c := (i - 0x4000) / 0x20
     s.pick v [execArmIndex c, execDisarmIndex c, execPreset c])
  else if 0x4200 ≤ i ∧ i < 0x4280 then s.pick v [execCmpCancelAll ((i - 0x4200) / 0x10)]
  else if 0x4800 ≤ i ∧ i < 0x4900 then
    (let g := (i - 0x4800) / 0x20
     s.pick v [execSpanStart g, execSpanRelease g])
  else if 0x4A00 ≤ i ∧ i < 0x4C00 then
    (let k := (i - 0x4A00) / 4
     s.pick v [execGraftEngage k, execGraftDisengage k])
  else if 0x4C00 ≤ i ∧ i < 0x4D00 then
    (let p := (i - 0x4C00) / 0x20
     s.pick v [execPathStart p, execPathStop p, execPathResume p, execPathAbandon p])
  else if 0x2400 ≤ i ∧ i < 0x2500 then
    (let c := (i - 0x2400) / 0x80
     let b := (i - 0x2400) % 0x80 - 0x10
     let f := s.fresh
     if sub = 3 then s.pick v [execCanRecover c]
     else if v = 2 then after (execCanBufCancel c b (f.1.toNat % (s.now + 1)) f.2) s
     else s.pick v [execCanBufRequest c b, execCanBufRelease c b, execCanBufRelease c b])
  else s.reply 0x0101

/-- A write of a WO object. -/
def State.command (s : State) (n i sub v : Nat) : State :=
  if i = 0x2010 then s.commitCommand n v
  else if i = 0x2100 then after (execTrellisSetTime v s) s
  else if i = 0x2120 then after (execSnapshotScheduleTime v s) s
  else if 0x2040 ≤ i ∧ i < 0x2050 then after (execBindOffRequest (i - 0x2040) v s) s
  else if i = 0x2900 then s.pick v [execArm, execDisarm, execForceTrigger]
  else if i = 0x2600 then (if sub = 5 then after (execSafetyUnlock n v s) s else s.pick v [execSafetyAcknowledge])
  else if i = 0x2700 then s.pick v [execClearFatalRecord, execEraseLog]
  else if 0x2701 ≤ i ∧ i ≤ 0x2733 then after (execFaultForce (i - 0x2700) (sub == 8) v s) s
  else if i = 0x2020 then s.pick v [execDeviceReady, execDeviceRun, execDeviceHalt, execDeviceSafe, execDeviceReset]
  else if i = 0x2800 then s.pick v [execUpdateBegin, execUpdateActivate true, execUpdateConfirm, execUpdateRevert, execUpdateAbort]
  else if i = 0x2810 then s.pick v [execSave, execClear]
  else s.blockCommand i sub v

/-- R464: the requests that recovery service carries out of the objects it serves. -/
def State.recoveryAllows (s : State) (i v : Nat) : Bool := !s.power.recovery || i != 0x2020 || v == 5

/-! ### Values -/

/-- R51: a value is stored; until the next edge the blocks use the one it replaces. -/
def State.writeValue (s : State) (key : Nat) (v : Int) : State :=
  let immediate := key ∈ [Obj.CanMode 0, Obj.CanMode 1] ∨ (Dict.row key).isNone
  let old := s.get key
  let s := if immediate ∨ (s.oldVals.any fun p => p.1 == key) then s else { s with oldVals := Sparse.insert key old s.oldVals }
  ((s.put key v).wrote key).done

/-- R56, R67, R71: a write of a session's own object; those of session 0 stay in the registers. -/
def State.writeOwn (s : State) (n key : Nat) (v : Nat) : State :=
  let x := s.session n
  if n = 0 then (s.put key v).done
  else
    (s.setSession
      (if key = Obj.CommitEdge then { x with edge := v }
       else if key = Obj.CommitTime then { x with time := v }
       else if key = Obj.Cia402WindowAxis then { x with win0 := v }
       else { x with win1 := v })).done

/-- A write of an RW object by its row, after the checks of type and range. -/
def State.writeRw (s : State) (n key off : Nat) (data : List Byte) (r : Dict.Row) : State :=
  let v := valueOf r.typ data
  let i := key / 256
  if sessionRelative key then s.writeOwn n key v.toNat
  else if (stickyMask key).isSome then s.clearSticky key v.toNat 0
  else if measuredMax r then after (execMeasuredMaximumReset key s) s
  else if 0x2701 ≤ i ∧ i ≤ 0x2733 then after (execFaultReactionWrite (i - 0x2700) v.toNat s) s
  else if s.canHeld key then s.reply 0x0501
  else match bankOf key with
    | some (g, b) => after (execSpanBankWrite g b off data s) s
    | none =>
      if r.typ = .dom then (s.storeDirect key off data).done
      else if 0x4800 ≤ i ∧ i < 0x4900 ∧ key = Obj.SpanBankSelect ((i - 0x4800) / 0x20) then
        after (execSpanBankSelect ((i - 0x4800) / 0x20) v.toNat s) s
      else if !(s.put key v).auxFits key ∨ !(s.put key v).canFits key then s.reply 0x0301
      else s.writeValue key v

/-- A direct write of a subentry that exists, by its row. -/
def State.writeRow (s : State) (n key off : Nat) (data : List Byte) (r : Dict.Row) : State :=
  let i := key / 256
  if slotValueKey key then (if off ≠ 0 then s.reply 0x0301 else s.slotWritten (i - 0x5000) data)
  else if s.safetyLocked key then s.reply 0x0204
  else if directStatus r.acc ≠ 0 then s.reply (directStatus r.acc)
  else if key = Obj.UpdateData then
    (if domMax < data.length ∨ Dict.domSize key < off + data.length then s.reply 0x0303 else after (execUpdateData off data s) s)
  else if r.typ = .record then
    (if off ≠ 0 then s.reply 0x0301 else if data.length ≠ Dict.size r.typ then s.reply 0x0205
     else after (execCmpAppend ((i - 0x4200) / 0x10) data s) s)
  else if valueStatus key off data r ≠ 0 then s.reply (valueStatus key off data r)
  else if r.acc = .wo then
    (if s.recoveryAllows i (leNat data) then s.command n i (key % 256) (leNat data) else s.reply 0x0701)
  else if ownStatus key (valueOf r.typ data) ≠ 0 then s.reply (ownStatus key (valueOf r.typ data))
  else if !s.virtualOk key (valueOf r.typ data) then s.reply 0x0301
  else s.writeRw n key off data r

/-- A direct write as the host interface and the row make it. -/
def State.writeObject (s : State) (n i sub off : Nat) (data : List Byte) : State :=
  if s.sessionOk n && s.served i sub && inView i && viewIndex i == 0x6040 then
    (if sub ≠ 0 then s.reply 0x0102 else if off ≠ 0 then s.reply 0x0301 else if data.length ≠ 2 then s.reply 0x0205
     else after (execCia402Controlword n (if i < 0x6800 then 0 else 1) (leNat data) s) s)
  else
    let w := s.resolve n i sub off data
    if w.status ≠ 0 then s.reply w.status
    else match Dict.row w.key with
      | some r => s.writeRow n w.key off w.data r
      | none => s.writeValue w.key (leInt w.data.length w.data)

/-- DICTIONARY_WRITE (R51). -/
def execDictionaryWrite (n i sub off : Nat) (data : List Byte) (s : State) : Host.Outcome State Fault Refusal :=
  .next (s.writeObject n i sub off data)

end Sys2Proof.Machine
end

