-- ==== Sys2Proof/Machine/HostQ.lean ====
section
/-! DEFINITION. The host interface (R364–R371, R376): the mailbox, submission queues and their fetch, the requests by their
opcode, and the loss and reconciliation of the host link. -/

namespace Sys2Proof.Machine

/-! ### Taking up an entry (R365, R367, R369) -/

/-- An entry in order becomes outstanding; one for another position goes down the chain as a request frame (R355), a fenced
one when every earlier entry of its queue has completed (R370). -/
def State.acceptEntry (s : State) (r : HostReq) : State :=
  let hold := !s.ownReq r && s.fenced r
  let s := { s with host := { s.host with reqs := s.host.reqs ++ [if hold then { r with waits := 3 } else r] } }
  if s.ownReq r || hold then s else s.sendRequest r

/-- MAILBOX_DOORBELL (R365): a write of 1 runs the mailbox entry; one while busy is ignored. -/
def execMailboxDoorbell (value : Nat) (entry data : List Byte) (s : State) : Host.Outcome State Fault Refusal :=
  let r := reqOf 1 0 s.now entry data
  .next
    (if s.host.busy then s.setBit Obj.HostStatus 0
     else if value ≠ 1 then s
     else if !entryClean entry then
       { s with host := { s.host with mailbox := s.doneEntry r (s.nat Obj.JzPosition) ⟨0x0301, [], false⟩ } }
     else ({ s with host := { s.host with busy := true } }).acceptEntry r)

/-! ### Submission queues (R366, R369, R370, R371) -/

/-- The tail of a submission queue. -/
def State.sqTail (s : State) (q : Nat) : Nat := (s.host.tails.lookup q).getD 0

/-- A submission queue that holds entries. -/
def State.sqReady (s : State) (q : Nat) : Bool := s.nat (Obj.HsqSize q) != 0 && s.nat (Obj.HsqHead q) != s.sqTail q

/-- SUBMISSION_TAIL_DOORBELL (R366, R374): a value at or above the queue size is ignored. -/
def execSubmissionTailDoorbell (q value : Nat) (s : State) : Host.Outcome State Fault Refusal :=
  let size := s.nat (Obj.HsqSize q)
  .next
    (if size ≤ value then s.setBit Obj.HostStatus 0
     else
       let n := (value + size - s.sqTail q) % size
       ({ s with host := { s.host with tails := Sparse.insert q value s.host.tails } }).creditUse 0 n)

/-- The queues of a class that hold entries, from a queue on, in turn. -/
def State.sqOf (s : State) (cls : Nat) : List Nat :=
  let first := s.host.nextQueue.getD cls 0
  ((List.range 32).map fun i => (first + i) % 32).filter fun q => s.nat (Obj.HsqClass q) == cls && s.sqReady q

/-- R371: the class that the next grant goes to: the aged class with the longest wait, else the highest in priority. -/
def State.fetchClass (s : State) : Option Nat :=
  let l := (List.range 4).filter fun c => !(s.sqOf c).isEmpty
  let wait := fun c => s.host.waits.getD c 0
  let aged := l.filter fun c => decide (5 ≤ wait c)
  match aged with
  | [] => l.head?
  | c :: t => some (t.foldl (fun m x => if wait m < wait x then x else m) c)

/-- R371: the waits and the turn after a grant to queue `q` of a class. -/
def State.granted (s : State) (cls q : Nat) : State :=
  let waits := (List.range 4).map fun c => if c = cls ∨ (s.sqOf c).isEmpty = true then 0 else s.host.waits.getD c 0 + 1
  { s with host := { s.host with waits := waits, nextQueue := s.host.nextQueue.set cls ((q + 1) % 32) } }

/-- R369: an entry that does not become outstanding completes at once; it counts as Submitted and as Completed. -/
def State.turnAway (s : State) (r : HostReq) (status flags : Nat) : State :=
  let s := (s.count Obj.HostSubmitted 64 1).count Obj.HostCompleted 64 1
  s.cqPost (s.nat (Obj.HsqCompletionQueue r.source))
    (entryBytes r.tag status r.source flags (s.nat Obj.JzPosition) 0 (s.nat (Obj.HsqHead r.source)) s.now 0 []) (bitAt r.flags 1)

/-- A fetched entry of a queue. -/
def State.fetched (s : State) (r : HostReq) (entry : List Byte) : State :=
  if !entryClean entry then s.turnAway r 0x0301 0
  else if s.host.reqs.any fun x => x.path == 0 && x.tag == r.tag then (s.turnAway r 0x0501 8).setBit Obj.HostStatus 1
  else ((s.count Obj.HostSubmitted 64 1).count Obj.HostOutstanding 64 1).acceptEntry r

/-- SUBMISSION_FETCH (R369–R371): the device fetches the entry at the head of the next queue. While the link is lost nothing is
fetched (R376). -/
def execSubmissionFetch (entry data : List Byte) (s : State) : Host.Outcome State Fault Refusal :=
  .next
    (match s.fetchClass with
     | none => s
     | some c =>
       match s.sqOf c with
       | [] => s
       | q :: _ =>
         let r := reqOf 0 q s.now entry data
         if s.host.lost then s
         else
           let s := s.granted c q
           let s := s.put (Obj.HsqHead q) ((s.nat (Obj.HsqHead q) + 1) % s.nat (Obj.HsqSize q) : Nat)
           (s.creditReturn 0 1).fetched r entry)

/-! ### Requests (R367) -/

/-- The outstanding entry of a path, source and tag that this device executes and that may start (R69, R370). -/
def State.findReq (s : State) (path source tag : Nat) : Option HostReq :=
  s.host.reqs.find? fun r => r.path == path && r.source == source && r.tag == tag && r.waits == 0 && s.ownReq r && !s.fenced r &&
    !s.behind r

/-- What a request waits for whose command answers later (R80, R390, R472).
(DEDUCED, unsafe: log entry 110.) -/
def waitsFor (r : HostReq) : Nat :=
  if r.index = 0x2100 then 1 else if r.index = 0x2810 then 2
  else canWaits ((r.index - 0x2400) / 0x80) ((r.index - 0x2400) % 0x80 - 0x10)

/-- The status that stands for "not answered yet" while a request runs. -/
def unanswered : Nat := 0x10000

/-- A request runs; it completes with the answer, or waits for it. A length of 0 is a no-op. -/
def State.runReq (s : State) (r : HostReq) (f : State → State) : State :=
  let own := s.nat Obj.JzPosition
  if r.length = 0 then s.complete r own ⟨0, [], false⟩
  else
    let t := f { s with resp := { status := unanswered } }
    if t.resp.status = unanswered then
      { t with resp := s.resp, host := { t.host with reqs := t.host.reqs.map fun x => if x = r then { x with waits := waitsFor r } else x } }
    else if t.host.reqs.contains r then t.complete r own ⟨t.resp.status, t.resp.data, false⟩
    else t

/-- HOST_READ (R367): opcode 1. -/
def execHostRead (path source tag : Nat) (s : State) : Host.Outcome State Fault Refusal :=
  .next
    (match s.findReq path source tag with
     | some r => if r.opcode = 1 then s.runReq r fun s => s.readObject r.session r.index r.sub r.offset r.length else s
     | none => s)

/-- HOST_WRITE (R367): opcode 2. -/
def execHostWrite (path source tag : Nat) (s : State) : Host.Outcome State Fault Refusal :=
  .next
    (match s.findReq path source tag with
     | some r => if r.opcode = 2 then s.runReq r fun s => s.writeObject r.session r.index r.sub r.offset r.data else s
     | none => s)

/-- HOST_STAGE (R367): opcode 3. -/
def execHostStage (path source tag : Nat) (s : State) : Host.Outcome State Fault Refusal :=
  .next
    (match s.findReq path source tag with
     | some r => if r.opcode = 3 then s.runReq r fun s => s.stageObject r.session r.index r.sub r.offset r.data else s
     | none => s)

/-- HOST_NO_OP (R367): opcode 6; an opcode that the table does not list completes with 0x0301.
(DESIGN CHOICE, unsafe: log entry 109.) -/
def execHostNoOp (path source tag : Nat) (s : State) : Host.Outcome State Fault Refusal :=
  .next
    (match s.findReq path source tag with
     | some r =>
       if 1 ≤ r.opcode ∧ r.opcode ≤ 5 then s
       else s.complete r (s.nat Obj.JzPosition) ⟨if r.opcode = 6 then 0 else 0x0301, [], false⟩
     | none => s)

/-! ### The host link (R376) -/

/-- HOST_LINK_LOST (R376): fetching stops and the host credit ledgers are suspended. -/
def execHostLinkLost (s : State) : Host.Outcome State Fault Refusal :=
  let s := { s with host := { s.host with lost := true } }
  .next ((s.put Obj.Reconciling (s.nat Obj.Reconciling ||| 7 : Nat)).setBit Obj.HostStatus 3)

/-- R376: the entries of a completion queue from its head to its tail are written again with unchanged phase bits. -/
def State.cqRewrite (s : State) (q : Nat) : State :=
  let r := s.cq q
  let size := s.nat (Obj.HcqSize q)
  ((List.range r.occ).map fun i => (r.head + i) % size).foldl (fun s i =>
    match r.ring.lookup i with
    | some e => s.send sentCompletion ([(q : Int), i] ++ e.map fun b => (b.toNat : Int))
    | none => s) s

/-- HOST_RECONCILE (R376): the head index of each completion queue, and then 1. -/
def execHostReconcile (heads : List (Nat × Nat)) (s : State) : Host.Outcome State Fault Refusal :=
  .next
    (if !s.host.lost then s
     else
       let s := { s with host := { s.host with lost := false } }
       let s := s.put Obj.Reconciling (s.nat Obj.Reconciling &&& 0xFFF8 : Nat)
       let s := heads.foldl (fun s h => if h.2 < s.nat (Obj.HcqSize h.1) ∧ h.2 ≠ (s.cq h.1).head then s.cqFree h.1 h.2 else s) s
       let s := s.each (List.range 32) State.cqRewrite
       s.each (List.range 32) fun s q => if 0 < (s.cq q).irq ∧ s.natInUse (Obj.HcqIrqCount q) ≤ (s.cq q).irq then s.cqSignal q else s)

end Sys2Proof.Machine
end

