-- ==== Sys2Proof/Machine/Tick.lean ====
section
/-! DEFINITION. The tick edge (R14, R18, R21, R28, R59): what the device latches and what takes effect in that instant. The
parts are the edge functions of the blocks; this file says in which order they meet. -/

namespace Sys2Proof.Machine

/-! ### The instant of the edge (R14, R74) -/

/-- R74: the first counter value, from the present one on, at which Trellis time has reached `time`. -/
def State.counterFor (s : State) (time : Nat) : Nat :=
  let c := s.nat Obj.TrellisCounter
  let rate := s.nat Obj.TrellisRate
  let need := (time - s.nat Obj.TrellisOffset) * 2 ^ 40
  if rate = 0 ∨ need ≤ s.timeProduct c then c else c + (need - s.timeProduct c + rate - 1) / rate

/-- R14, R103: time reaches edge `n`: the counter, the edge's number and time, and the number of the latest cycle edge. -/
def State.edgeTime (s : State) (n : Nat) : State :=
  let c := s.nat Obj.NetworkCycleTicks
  (((s.put Obj.TrellisCounter (wrapU 64 (s.counterFor (n * s.tNs)))).put Obj.TickNumber n).put Obj.TickEdgeTime (n * s.tNs : Nat)).put
    Obj.NetworkCycleNumber (n / c : Nat)

/-! ### Latches (R18) -/

/-- R18, R21: the outputs that the stitches of the tick wrote become the pool's values. -/
def State.publish (s : State) : State :=
  let s := s.slotNow.foldl (fun s (x : Nat × Nat) => s.put (Obj.SlotValue x.1) (x.2 : Int)) s
  { s with slotNow := [] }

/-- R28: the host slots take the values written last. -/
def State.latchHost (s : State) : State :=
  let s := s.hostWrites.foldl (fun s (x : Nat × Nat) => s.put (Obj.SlotValue x.1) (x.2 : Int)) s
  { s with hostWrites := [] }

/-- R18: feedback, pipelines, estimators, network axes and general inputs are latched. -/
def State.latchAll (s : State) (n : Nat) (general : List (Nat × Int)) : State :=
  let s := s.each allChannels fun s c => s.fbEdgeLatch (n * s.tNs) c
  let s := s.each (List.range 8) State.cmpLatch
  let s := s.each (List.range 16) State.focEdge
  let s := s.each (List.range 16) State.slEdge
  let s := s.exEdge n
  let s := s.each allAxes State.netEdge
  general.foldl State.genEdge s

/-- R227: the compare units whose `CmpEnable` differs from the value before. -/
def State.compareEnables (s old : State) : State :=
  s.each (List.range 8) fun s u => if s.get (Obj.CmpEnable u) = old.get (Obj.CmpEnable u) then s else s.cmpEnabled u

/-! ### Motion at an edge -/

/-- The closure edge of R196 is over for axes that closed at the edge before. -/
def State.closureOver (s : State) : State :=
  s.each (allAxes.filter fun a => (s.axis a).closing) fun s a => s.setAxis a { s.axis a with closing := false }

/-- R147: the measured position of a virtual axis is its setpoint for the edge. -/
def State.virtualLatch (s : State) (a : Nat) : State :=
  if s.flag (Obj.AxisVirtual a) then
    let x := (s.axis a).last
    (s.slotLatch (axisSlot a + 3) x.1).slotLatch (axisSlot a + 4) x.2.1
  else s

/-- Setpoint queues, grafts, limits, homing, loop closure, plans, standstill, marks and gain sets, in this order.
(DESIGN CHOICE, unsafe: log entry 18.) -/
def State.motionEdge (s : State) (n : Nat) : State :=
  let s := s.each allAxes fun s a => s.setAxis a { s.axis a with vPrev := s.cmdVel a }
  let s := s.each allAxes fun s a => (s.consumeEdge n a).virtualLatch a
  let s := s.each (List.range 128) State.graftEdge
  let s := s.each allAxes State.limitEdge
  let s := s.each allAxes State.homeEdge
  let s := s.each allAxes State.castEdge
  let s := s.each allAxes State.graftCastEdge
  let s := s.each (List.range 16) State.gangEdge
  let s := s.each allAxes State.planEdge
  let s := s.each allAxes State.standEdge
  let s := s.each (List.range 8) State.pathEdge
  let s := s.histEdge.each (List.range 16) State.markPublish
  let s := s.each allAxes State.gainEdge
  s.each allAxes State.loopOpenEdge

/-! ### What the device sends at an edge -/

/-- R159: the Jorzer records of the commanded masters for the edge that ends the tick, as the row computed them.
(DESIGN CHOICE, unsafe: log entry 132.) -/
def State.sendCommanded (s : State) (n : Nat) : State :=
  s.each s.masterEntries fun s j => if s.masterMeasured j then s else s.sendMaster false j n (n / s.nat Obj.NetworkCycleTicks)

/-- R159: the Jorzer records of the measured masters, latched at the edge. -/
def State.sendMeasured (s : State) (n : Nat) : State :=
  s.each s.masterEntries fun s j => if s.masterMeasured j then s.sendMaster false j n (n / s.nat Obj.NetworkCycleTicks) else s

/-- R379, R380: process images at an edge: the head puts its latched values into its own read image and sends each other
position its write image; another device sends its latched values to the head. -/
def State.imageEdge (s : State) (n : Nat) : State :=
  let vals := (imageEntries s.ownImages 2).map fun x => (x.2, natLE 8 (s.nat (Obj.SlotValue x.1)))
  if s.get Obj.JzPosition = 0 then
    let s := if vals.isEmpty then s else s.putImage 0 n vals
    (s.jz.images.filter fun x => x.1 != 0).foldl (fun s x =>
      (imageEntries x.2 1).foldl (fun s e => s.exPost (some x.1) 9 1 (s.bytes bar2Key (x.1 * 65536 + e.2) 8)) s) s
  else vals.foldl (fun s x => s.exPost (some 0) 9 2 x.2) s

/-! ### TICK_EDGE -/

/-- The PWM clock (400 MHz) at a value of the 1 GHz counter. -/
def pwmClock (c : Nat) : Nat := (2 * c + 4) / 5

/-- R287: every generator meets the edge and learns when the next is predicted. -/
def State.carrierEdge (s : State) (n : Nat) : State :=
  let now := pwmClock (s.nat Obj.TrellisCounter)
  let next := pwmClock (s.counterFor ((n + 1) * s.tNs))
  s.each (List.range 16) fun s g => s.pwmEdge now next g

/-- The edge before the latches: the tick that ends is accounted, time reaches the edge, and due commits apply.
(DESIGN CHOICE, unsafe: log entry 18.) -/
def State.edgeBegin (s : State) (n : Nat) : State :=
  let s := if s.row.window then s.cutoff else s
  let s := { s with sent := [] }.overrunEnd.reactEnd
  let s := ((s.sendSetpoints n).sendCommanded n).exFlush n
  let s := { s with oldVals := [], oldBytes := [] }
  let s := ((s.edgeTime n).rowEdge).weightEdge
  let s := s.each (List.range 8) State.cmpRowEdge
  (s.applyDue n s.commits.length).closureOver

/-- Field inputs and outputs and CAN at an edge. -/
def State.fieldEdge (s : State) (currents : List (Nat × Nat)) : State :=
  let s := s.finEdge
  let s := s.each [0, 1] State.canEdge
  (s.foutEdge s.sbcOutputs currents).overloadEdge

/-- Span groups and what acts on channels and outputs at an edge. -/
def State.spanCountEdge (s : State) : State :=
  let s := s.each (List.range 8) fun s g => (s.spanEdge g).spanClear g
  let s := s.each allChannels fun s c => (s.presetApply c).fbApplyShifts c
  s.each (List.range 4) State.emuSlotEdge

/-- The edge after everything has moved: acquisition, marks, storage, reactions that waited, and what is sent.
(DESIGN CHOICE, unsafe: log entry 18; DESIGN CHOICE, unsafe: log entry 132.) -/
def State.edgeFinish (s : State) (n : Nat) : State :=
  let s := s.each [6, 7] State.sentryEdge
  let s := s.acqEdge
  let s := s.saveEdge.trapRun.forcedEnd
  let s := s.each (List.range 16) State.bindRepeat
  let s := (s.sendMeasured n).imageEdge n
  if s.nat Obj.TickInputWindow = 0 then s.cutoff else { s with row := { s.row with window := true } }

/-- TICK_EDGE (R14, R18, R21, R28, R59): edge `TickNumber` + 1. `general` holds the raw outputs of the general inputs' filters
(R238) and `currents` the currents of field outputs in mA (R408) at the edge.
(DESIGN CHOICE, unsafe: log entry 1.) -/
def execTickEdge (general : List (Nat × Int)) (currents : List (Nat × Nat)) (s : State) : Host.Outcome State Fault Refusal :=
  let n := s.tick + 1
  let old := s.inForce
  let s := s.edgeBegin n
  let s := (s.latchAll n general).publish.latchHost.stageInputs n
  let s := (s.compareEnables old).fieldEdge currents
  let s := s.motionEdge n
  let s := s.spanCountEdge
  let s := s.carrierEdge n
  .next (s.edgeFinish n)

end Sys2Proof.Machine
end

