-- ==== Sys2Proof/Machine/Dispatch.lean ====
section
/-! DEFINITION. The meaning of every command: one arm per constructor of Instr, each one call of its meaning. -/

namespace Sys2Proof.Machine

/-- The effect of a command on everything but the queue of waiting commands. -/
def exec (i : Instr) (s : State) : Host.Outcome State Fault Refusal :=
  match i with
  | .tickEdge general currents => Sys2Proof.Machine.execTickEdge general currents s
  | .inputFrameArrival origin stamp duplicate feeds => Sys2Proof.Machine.execInputFrameArrival origin stamp duplicate feeds s
  | .inputCutoff => Sys2Proof.Machine.execInputCutoff s
  | .stitchStart order => Sys2Proof.Machine.execStitchStart order s
  | .rowOverrun cores => Sys2Proof.Machine.execRowOverrun cores s
  | .slotValueWrite session slot data => Sys2Proof.Machine.execSlotValueWrite session slot data s
  | .dictionaryWrite session index sub offset data => Sys2Proof.Machine.execDictionaryWrite session index sub offset data s
  | .stageRequest session index sub offset data => Sys2Proof.Machine.execStageRequest session index sub offset data s
  | .commitCheckOnly session => Sys2Proof.Machine.execCommitCheckOnly session s
  | .commit session => Sys2Proof.Machine.execCommit session s
  | .commitCancel session => Sys2Proof.Machine.execCommitCancel session s
  | .stagedSetDiscard session => Sys2Proof.Machine.execStagedSetDiscard session s
  | .commitApply => Sys2Proof.Machine.execCommitApply s
  | .stickyClear session index sub ones recurring => Sys2Proof.Machine.execStickyClear session index sub ones recurring s
  | .openSession => Sys2Proof.Machine.execOpenSession s
  | .closeSession session => Sys2Proof.Machine.execCloseSession session s
  | .sessionIdleTimeout session => Sys2Proof.Machine.execSessionIdleTimeout session s
  | .cia402Controlword session window value => Sys2Proof.Machine.execCia402Controlword session window value s
  | .trellisMeasurement sample settled errorEstimate => Sys2Proof.Machine.execTrellisMeasurement sample settled errorEstimate s
  | .holdoverEntry => Sys2Proof.Machine.execHoldoverEntry s
  | .holdoverLimitExpiry => Sys2Proof.Machine.execHoldoverLimitExpiry s
  | .trellisSetTime time => Sys2Proof.Machine.execTrellisSetTime time s
  | .timeStep => Sys2Proof.Machine.execTimeStep s
  | .ppsInEdge rising deviation => Sys2Proof.Machine.execPpsInEdge rising deviation s
  | .ppsOutPulse rise => Sys2Proof.Machine.execPpsOutPulse rise s
  | .tsFrameSent port identifier => Sys2Proof.Machine.execTsFrameSent port identifier s
  | .tsQueueEntryRead port => Sys2Proof.Machine.execTsQueueEntryRead port s
  | .plantFrameReceive frame => Sys2Proof.Machine.execPlantFrameReceive frame s
  | .announceSend => Sys2Proof.Machine.execAnnounceSend s
  | .announceReceive address serial notLocked => Sys2Proof.Machine.execAnnounceReceive address serial notLocked s
  | .partnerLost address missed => Sys2Proof.Machine.execPartnerLost address missed s
  | .gateListSwitch port => Sys2Proof.Machine.execGateListSwitch port s
  | .ringPathLost port => Sys2Proof.Machine.execRingPathLost port s
  | .masterPublish => Sys2Proof.Machine.execMasterPublish s
  | .masterSampleReceive plant source sample => Sys2Proof.Machine.execMasterSampleReceive plant source sample s
  | .snapshotScheduleTime time => Sys2Proof.Machine.execSnapshotScheduleTime time s
  | .snapshotScheduleFrame time => Sys2Proof.Machine.execSnapshotScheduleFrame time s
  | .snapshotTake => Sys2Proof.Machine.execSnapshotTake s
  | .snapshotComplete => Sys2Proof.Machine.execSnapshotComplete s
  | .enable axis => Sys2Proof.Machine.execEnable axis s
  | .disable axis => Sys2Proof.Machine.execDisable axis s
  | .powerOn axis => Sys2Proof.Machine.execPowerOn axis s
  | .moveAbsolute axis => Sys2Proof.Machine.execMoveAbsolute axis s
  | .moveRelative axis => Sys2Proof.Machine.execMoveRelative axis s
  | .velocityMove axis => Sys2Proof.Machine.execVelocityMove axis s
  | .stop axis => Sys2Proof.Machine.execStop axis s
  | .resume axis => Sys2Proof.Machine.execResume axis s
  | .quickStop axis => Sys2Proof.Machine.execQuickStop axis s
  | .abandon axis => Sys2Proof.Machine.execAbandon axis s
  | .home axis => Sys2Proof.Machine.execHome axis s
  | .faultReset axis => Sys2Proof.Machine.execFaultReset axis s
  | .coilsOff axis => Sys2Proof.Machine.execCoilsOff axis s
  | .planStart axis => Sys2Proof.Machine.execPlanStart axis s
  | .standstill axis => Sys2Proof.Machine.execStandstill axis s
  | .brakeEngageDelayExpiry axis => Sys2Proof.Machine.execBrakeEngageDelayExpiry axis s
  | .brakeReleaseDelayExpiry axis => Sys2Proof.Machine.execBrakeReleaseDelayExpiry axis s
  | .homingTimeout axis => Sys2Proof.Machine.execHomingTimeout axis s
  | .bindOffRequest group value => Sys2Proof.Machine.execBindOffRequest group value s
  | .bindOffRampStart group published => Sys2Proof.Machine.execBindOffRampStart group published s
  | .bindOffEnd group => Sys2Proof.Machine.execBindOffEnd group s
  | .bindOffJoinLate group startEdge r q => Sys2Proof.Machine.execBindOffJoinLate group startEdge r q s
  | .pathStart path => Sys2Proof.Machine.execPathStart path s
  | .pathStop path => Sys2Proof.Machine.execPathStop path s
  | .pathResume path => Sys2Proof.Machine.execPathResume path s
  | .pathAbandon path => Sys2Proof.Machine.execPathAbandon path s
  | .graftEngage graft => Sys2Proof.Machine.execGraftEngage graft s
  | .graftDisengage graft => Sys2Proof.Machine.execGraftDisengage graft s
  | .remoteMasterLost graft => Sys2Proof.Machine.execRemoteMasterLost graft s
  | .spanStart group => Sys2Proof.Machine.execSpanStart group s
  | .spanRelease group => Sys2Proof.Machine.execSpanRelease group s
  | .spanSettled group => Sys2Proof.Machine.execSpanSettled group s
  | .spanObserverDiverged group => Sys2Proof.Machine.execSpanObserverDiverged group s
  | .spanTensionOutOfRange group span => Sys2Proof.Machine.execSpanTensionOutOfRange group span s
  | .spanDataStale group => Sys2Proof.Machine.execSpanDataStale group s
  | .spanBankWrite group bank offset data => Sys2Proof.Machine.execSpanBankWrite group bank offset data s
  | .spanBankSelect group value => Sys2Proof.Machine.execSpanBankSelect group value s
  | .followingError axis => Sys2Proof.Machine.execFollowingError axis s
  | .netStatusRecord axis stamp drive flags position velocity torque => Sys2Proof.Machine.execNetStatusRecord axis stamp drive flags position velocity torque s
  | .netAxisLost axis => Sys2Proof.Machine.execNetAxisLost axis s
  | .encoderEdge channel counter lines => Sys2Proof.Machine.execEncoderEdge channel counter lines s
  | .comparePulseEnd unit => Sys2Proof.Machine.execComparePulseEnd unit s
  | .indexPulse channel counter alone => Sys2Proof.Machine.execIndexPulse channel counter alone s
  | .ssiFrameComplete channel word delay answered low => Sys2Proof.Machine.execSsiFrameComplete channel word delay answered low s
  | .armIndex channel => Sys2Proof.Machine.execArmIndex channel s
  | .disarmIndex channel => Sys2Proof.Machine.execDisarmIndex channel s
  | .preset channel => Sys2Proof.Machine.execPreset channel s
  | .presetApply channel => Sys2Proof.Machine.execPresetApply channel s
  | .lineFault channel present => Sys2Proof.Machine.execLineFault channel present s
  | .cmpAppend unit data => Sys2Proof.Machine.execCmpAppend unit data s
  | .cmpCancelAll unit => Sys2Proof.Machine.execCmpCancelAll unit s
  | .emulationStep output => Sys2Proof.Machine.execEmulationStep output s
  | .focComputation axis time raw dcLink est => Sys2Proof.Machine.execFocComputation axis time raw dcLink est s
  | .modulatorInputLost input lost => Sys2Proof.Machine.execModulatorInputLost input lost s
  | .fastComparatorTrip stage phase outputs issued => Sys2Proof.Machine.execFastComparatorTrip stage phase outputs issued s
  | .generalInputLimit input raw issued => Sys2Proof.Machine.execGeneralInputLimit input raw issued s
  | .pvsConversionComplete code => Sys2Proof.Machine.execPvsConversionComplete code s
  | .pvsComparatorChange stage phase time value sinceEdge => Sys2Proof.Machine.execPvsComparatorChange stage phase time value sinceEdge s
  | .sixStepCommutation axis time => Sys2Proof.Machine.execSixStepCommutation axis time s
  | .hfiLocked axis => Sys2Proof.Machine.execHfiLocked axis s
  | .hfiFailed axis => Sys2Proof.Machine.execHfiFailed axis s
  | .dibberPulseEnd axis raw => Sys2Proof.Machine.execDibberPulseEnd axis raw s
  | .castOnMeasureTimeout axis => Sys2Proof.Machine.execCastOnMeasureTimeout axis s
  | .castOnTimeout axis noAgreement => Sys2Proof.Machine.execCastOnTimeout axis noAgreement s
  | .lockLost axis time => Sys2Proof.Machine.execLockLost axis time s
  | .ascOrFreewheel axis => Sys2Proof.Machine.execAscOrFreewheel axis s
  | .reacquisitionEstimate axis time phasor speed => Sys2Proof.Machine.execReacquisitionEstimate axis time phasor speed s
  | .lockRecovery axis => Sys2Proof.Machine.execLockRecovery axis s
  | .lockRecoveryFailed axis => Sys2Proof.Machine.execLockRecoveryFailed axis s
  | .rideThroughReturn axis => Sys2Proof.Machine.execRideThroughReturn axis s
  | .angleTest axis => Sys2Proof.Machine.execAngleTest axis s
  | .returnFromRideThrough axis => Sys2Proof.Machine.execReturnFromRideThrough axis s
  | .halfPeriodStart stage => Sys2Proof.Machine.execHalfPeriodStart stage s
  | .tripAssert stage input high run issued => Sys2Proof.Machine.execTripAssert stage input high run issued s
  | .blankingClose stage input issued => Sys2Proof.Machine.execBlankingClose stage input issued s
  | .gateEnableWithdrawn stage driver issued => Sys2Proof.Machine.execGateEnableWithdrawn stage driver issued s
  | .switchingResume stage => Sys2Proof.Machine.execSwitchingResume stage s
  | .auxChannelEvent stage channel valley => Sys2Proof.Machine.execAuxChannelEvent stage channel valley s
  | .nop at_ => Sys2Proof.Machine.execNop at_ s
  | .add at_ sat rd ra rb => Sys2Proof.Machine.execAdd at_ sat rd ra rb s
  | .sub at_ sat rd ra rb => Sys2Proof.Machine.execSub at_ sat rd ra rb s
  | .addi at_ sat rd ra imm => Sys2Proof.Machine.execAddi at_ sat rd ra imm s
  | .and at_ rd ra rb => Sys2Proof.Machine.execAnd at_ rd ra rb s
  | .or at_ rd ra rb => Sys2Proof.Machine.execOr at_ rd ra rb s
  | .xor at_ rd ra rb => Sys2Proof.Machine.execXor at_ rd ra rb s
  | .shl at_ sat rd ra rb => Sys2Proof.Machine.execShl at_ sat rd ra rb s
  | .shr at_ rounded rd ra rb => Sys2Proof.Machine.execShr at_ rounded rd ra rb s
  | .movi at_ rd imm => Sys2Proof.Machine.execMovi at_ rd imm s
  | .clamp at_ rd ra rb => Sys2Proof.Machine.execClamp at_ rd ra rb s
  | .min at_ rd ra rb => Sys2Proof.Machine.execMin at_ rd ra rb s
  | .max at_ rd ra rb => Sys2Proof.Machine.execMax at_ rd ra rb s
  | .maxi at_ rd ra => Sys2Proof.Machine.execMaxi at_ rd ra s
  | .mini at_ rd ra => Sys2Proof.Machine.execMini at_ rd ra s
  | .mul at_ sat rd ra rb => Sys2Proof.Machine.execMul at_ sat rd ra rb s
  | .mac at_ sat acc subtract ra rb => Sys2Proof.Machine.execMac at_ sat acc subtract ra rb s
  | .cmac at_ sat conj ra rb => Sys2Proof.Machine.execCmac at_ sat conj ra rb s
  | .accr at_ sat acc shift rd => Sys2Proof.Machine.execAccr at_ sat acc shift rd s
  | .accz at_ acc load ra => Sys2Proof.Machine.execAccz at_ acc load ra s
  | .ftap at_ sat acc subtract rc ra rb => Sys2Proof.Machine.execFtap at_ sat acc subtract rc ra rb s
  | .div at_ sat rd ra rb => Sys2Proof.Machine.execDiv at_ sat rd ra rb s
  | .divComplete core => Sys2Proof.Machine.execDivComplete core s
  | .sqrt at_ rd ra => Sys2Proof.Machine.execSqrt at_ rd ra s
  | .sqrtComplete core => Sys2Proof.Machine.execSqrtComplete core s
  | .ld at_ rd ra imm ecc => Sys2Proof.Machine.execLd at_ rd ra imm ecc s
  | .st at_ rd ra imm => Sys2Proof.Machine.execSt at_ rd ra imm s
  | .ldi at_ rd ra imm ecc => Sys2Proof.Machine.execLdi at_ rd ra imm ecc s
  | .sti at_ rd ra imm => Sys2Proof.Machine.execSti at_ rd ra imm s
  | .beq at_ ra rb offset => Sys2Proof.Machine.execBeq at_ ra rb offset s
  | .bne at_ ra rb offset => Sys2Proof.Machine.execBne at_ ra rb offset s
  | .blt at_ ra rb offset => Sys2Proof.Machine.execBlt at_ ra rb offset s
  | .bge at_ ra rb offset => Sys2Proof.Machine.execBge at_ ra rb offset s
  | .j at_ offset => Sys2Proof.Machine.execJ at_ offset s
  | .rep at_ rot ra body count => Sys2Proof.Machine.execRep at_ rot ra body count s
  | .ret at_ => Sys2Proof.Machine.execRet at_ s
  | .coreInterruptTaken core kind retSameCycle holdoff => Sys2Proof.Machine.execCoreInterruptTaken core kind retSameCycle holdoff s
  | .debugHalt core => Sys2Proof.Machine.execDebugHalt core s
  | .loopCoreMemoryError core data address => Sys2Proof.Machine.execLoopCoreMemoryError core data address s
  | .memoryRestored core => Sys2Proof.Machine.execMemoryRestored core s
  | .sentryEvent core vector => Sys2Proof.Machine.execSentryEvent core vector s
  | .arm => Sys2Proof.Machine.execArm s
  | .disarm => Sys2Proof.Machine.execDisarm s
  | .forceTrigger => Sys2Proof.Machine.execForceTrigger s
  | .armingEdge => Sys2Proof.Machine.execArmingEdge s
  | .triggerFire time => Sys2Proof.Machine.execTriggerFire time s
  | .fireRecordSend => Sys2Proof.Machine.execFireRecordSend s
  | .triggerRecord r => Sys2Proof.Machine.execTriggerRecord r s
  | .settleWindowClose => Sys2Proof.Machine.execSettleWindowClose s
  | .acqSampleStored group channel time raw => Sys2Proof.Machine.execAcqSampleStored group channel time raw s
  | .writeBackDrain bytes => Sys2Proof.Machine.execWriteBackDrain bytes s
  | .streamBlockWrite => Sys2Proof.Machine.execStreamBlockWrite s
  | .markEdge input counter rising width => Sys2Proof.Machine.execMarkEdge input counter rising width s
  | .headDetection => Sys2Proof.Machine.execHeadDetection s
  | .enumerate position serials => Sys2Proof.Machine.execEnumerate position serials s
  | .map serials resets images => Sys2Proof.Machine.execMap serials resets images s
  | .acceptMap => Sys2Proof.Machine.execAcceptMap s
  | .linkLoss port cause groups => Sys2Proof.Machine.execLinkLoss port cause groups s
  | .linkUp port => Sys2Proof.Machine.execLinkUp port s
  | .jorzerFrameReceive port crcOk frame => Sys2Proof.Machine.execJorzerFrameReceive port crcOk frame s
  | .exchangeFrame origin edge payload => Sys2Proof.Machine.execExchangeFrame origin edge payload s
  | .creditAndAcknowledge port acked credits replay => Sys2Proof.Machine.execCreditAndAcknowledge port acked credits replay s
  | .delayMeasurement port t1 t2 t3 t4 => Sys2Proof.Machine.execDelayMeasurement port t1 t2 t3 t4 s
  | .sync stamp fraction correction residence arrival => Sys2Proof.Machine.execSync stamp fraction correction residence arrival s
  | .reconcile port epoch consumed received => Sys2Proof.Machine.execReconcile port epoch consumed received s
  | .mailboxDoorbell value entry data => Sys2Proof.Machine.execMailboxDoorbell value entry data s
  | .submissionTailDoorbell queue value => Sys2Proof.Machine.execSubmissionTailDoorbell queue value s
  | .completionHeadDoorbell queue value => Sys2Proof.Machine.execCompletionHeadDoorbell queue value s
  | .submissionFetch entry data => Sys2Proof.Machine.execSubmissionFetch entry data s
  | .hostRead path source tag => Sys2Proof.Machine.execHostRead path source tag s
  | .hostWrite path source tag => Sys2Proof.Machine.execHostWrite path source tag s
  | .hostStage path source tag => Sys2Proof.Machine.execHostStage path source tag s
  | .hostNoOp path source tag => Sys2Proof.Machine.execHostNoOp path source tag s
  | .completionIrqTimeout queue => Sys2Proof.Machine.execCompletionIrqTimeout queue s
  | .hostLinkLost => Sys2Proof.Machine.execHostLinkLost s
  | .hostReconcile heads => Sys2Proof.Machine.execHostReconcile heads s
  | .tagTimeout tag => Sys2Proof.Machine.execTagTimeout tag s
  | .canModeChange controller => Sys2Proof.Machine.execCanModeChange controller s
  | .rateDetectionDwell controller => Sys2Proof.Machine.execRateDetectionDwell controller s
  | .rateDetectionTimeout controller => Sys2Proof.Machine.execRateDetectionTimeout controller s
  | .canBufRequest controller buffer => Sys2Proof.Machine.execCanBufRequest controller buffer s
  | .canBufCancel controller buffer sof => Sys2Proof.Machine.execCanBufCancel controller buffer sof s
  | .canBufRelease controller buffer => Sys2Proof.Machine.execCanBufRelease controller buffer s
  | .canFrameTransmitted controller frame tec rec_ => Sys2Proof.Machine.execCanFrameTransmitted controller frame tec rec_ s
  | .canFrameReceived controller sof tec rec_ id flags data => Sys2Proof.Machine.execCanFrameReceived controller sof tec rec_ id flags data s
  | .canError controller tec rec_ transmitting sof => Sys2Proof.Machine.execCanError controller tec rec_ transmitting sof s
  | .canRecover controller => Sys2Proof.Machine.execCanRecover controller s
  | .busOffRecovery controller => Sys2Proof.Machine.execBusOffRecovery controller s
  | .ttSlotFire controller slot => Sys2Proof.Machine.execTtSlotFire controller slot s
  | .ttWindowExpiry controller slot sof => Sys2Proof.Machine.execTtWindowExpiry controller slot sof s
  | .fieldInputChange input samples => Sys2Proof.Machine.execFieldInputChange input samples s
  | .wireBreak low => Sys2Proof.Machine.execWireBreak low s
  | .fieldOutputOverload held => Sys2Proof.Machine.execFieldOutputOverload held s
  | .fieldOutputOverTemperature output temperature => Sys2Proof.Machine.execFieldOutputOverTemperature output temperature s
  | .openWire output current => Sys2Proof.Machine.execOpenWire output current s
  | .fieldSupplyInvalid voltage => Sys2Proof.Machine.execFieldSupplyInvalid voltage s
  | .fieldOutputShed output => Sys2Proof.Machine.execFieldOutputShed output s
  | .fieldSupplyValid voltage inputs => Sys2Proof.Machine.execFieldSupplyValid voltage inputs s
  | .fieldOutputAutoRestore output => Sys2Proof.Machine.execFieldOutputAutoRestore output s
  | .dieLinkLost => Sys2Proof.Machine.execDieLinkLost s
  | .dieLinkRestored inputs => Sys2Proof.Machine.execDieLinkRestored inputs s
  | .safetyCycle inputs code response crossFail differ readback => Sys2Proof.Machine.execSafetyCycle inputs code response crossFail differ readback s
  | .discrepancyLatch pair => Sys2Proof.Machine.execDiscrepancyLatch pair s
  | .ss1TimerExpiry group => Sys2Proof.Machine.execSs1TimerExpiry group s
  | .requestFrame => Sys2Proof.Machine.execRequestFrame s
  | .requestPathLost => Sys2Proof.Machine.execRequestPathLost s
  | .safetyAcknowledge => Sys2Proof.Machine.execSafetyAcknowledge s
  | .safetyUnlock session value => Sys2Proof.Machine.execSafetyUnlock session value s
  | .safetyUnlockExpiry session => Sys2Proof.Machine.execSafetyUnlockExpiry session s
  | .sealRead code => Sys2Proof.Machine.execSealRead code s
  | .offPulse output off => Sys2Proof.Machine.execOffPulse output off s
  | .selfTestComplete ok => Sys2Proof.Machine.execSelfTestComplete ok s
  | .blockReset source => Sys2Proof.Machine.execBlockReset source s
  | .chipReset => Sys2Proof.Machine.execChipReset s
  | .faultForce kind high value => Sys2Proof.Machine.execFaultForce kind high value s
  | .faultReactionWrite kind value => Sys2Proof.Machine.execFaultReactionWrite kind value s
  | .clearFatalRecord => Sys2Proof.Machine.execClearFatalRecord s
  | .eraseLog => Sys2Proof.Machine.execEraseLog s
  | .faultLogCopy => Sys2Proof.Machine.execFaultLogCopy s
  | .temperatureMeasurement readings => Sys2Proof.Machine.execTemperatureMeasurement readings s
  | .throttleUp => Sys2Proof.Machine.execThrottleUp s
  | .throttleDown => Sys2Proof.Machine.execThrottleDown s
  | .thermalEscalation => Sys2Proof.Machine.execThermalEscalation s
  | .thermalHoldRelease => Sys2Proof.Machine.execThermalHoldRelease s
  | .supplyFault supply voltage => Sys2Proof.Machine.execSupplyFault supply voltage s
  | .clockFault => Sys2Proof.Machine.execClockFault s
  | .powerGood voltages => Sys2Proof.Machine.execPowerGood voltages s
  | .nrstQualified => Sys2Proof.Machine.execNrstQualified s
  | .nrstRelease => Sys2Proof.Machine.execNrstRelease s
  | .nrstFailedClosed => Sys2Proof.Machine.execNrstFailedClosed s
  | .nrstIgnoreEnd => Sys2Proof.Machine.execNrstIgnoreEnd s
  | .resetRelease locked bad => Sys2Proof.Machine.execResetRelease locked bad s
  | .startupComplete bootMs => Sys2Proof.Machine.execStartupComplete bootMs s
  | .supervisorWatchdog core => Sys2Proof.Machine.execSupervisorWatchdog core s
  | .deviceReady => Sys2Proof.Machine.execDeviceReady s
  | .deviceRun => Sys2Proof.Machine.execDeviceRun s
  | .deviceHalt => Sys2Proof.Machine.execDeviceHalt s
  | .deviceSafe => Sys2Proof.Machine.execDeviceSafe s
  | .deviceReset => Sys2Proof.Machine.execDeviceReset s
  | .updateBegin => Sys2Proof.Machine.execUpdateBegin s
  | .updateActivate verified => Sys2Proof.Machine.execUpdateActivate verified s
  | .updateConfirm => Sys2Proof.Machine.execUpdateConfirm s
  | .updateRevert => Sys2Proof.Machine.execUpdateRevert s
  | .updateAbort => Sys2Proof.Machine.execUpdateAbort s
  | .updateData offset data => Sys2Proof.Machine.execUpdateData offset data s
  | .bankErased => Sys2Proof.Machine.execBankErased s
  | .flashOperationComplete ok => Sys2Proof.Machine.execFlashOperationComplete ok s
  | .save => Sys2Proof.Machine.execSave s
  | .clear => Sys2Proof.Machine.execClear s
  | .journalReclaim sector => Sys2Proof.Machine.execJournalReclaim sector s
  | .measuredMaximumReset key => Sys2Proof.Machine.execMeasuredMaximumReset key s
  | .canArbitrationLost controller sof => Sys2Proof.Machine.execCanArbitrationLost controller sof s
  | .creditFrameTimeout port => Sys2Proof.Machine.execCreditFrameTimeout port s
  | .nerrMinPulseExpiry => Sys2Proof.Machine.execNerrMinPulseExpiry s
  | .dibberGapExpiry axis => Sys2Proof.Machine.execDibberGapExpiry axis s
  | .frerResetTimeExpiry stream => Sys2Proof.Machine.execFrerResetTimeExpiry stream s
  | .fieldInputValidAgain input voltage => Sys2Proof.Machine.execFieldInputValidAgain input voltage s

end Sys2Proof.Machine
end

