-- ==== Sys2Proof/WellFormed.lean ====
section
/-! DEFINITION. Well-formed commands: every operand within the range that its command gives it: an instance number that
exists (spec/22_object_index.md), a field that fits its width, a Midopin register and immediate that its format holds
(R310). The machine runs on well-formed commands; a command outside these ranges names nothing the block has. -/

namespace Sys2Proof

/-! ### Ranges -/

/-- An unsigned field of `w` bits. -/
def isU (w x : Nat) : Bool := x < 2 ^ w
/-- A signed field of `w` bits. -/
def isI (w : Nat) (x : Int) : Bool := -(2 ^ (w - 1) : Int) ≤ x && x < 2 ^ (w - 1)
/-- An axis number; the first sixteen are local. -/
def isAxis (x : Nat) : Bool := x < 64
def isLocalAxis (x : Nat) : Bool := x < 16
/-- A loop core. -/
def isCore (x : Nat) : Bool := x < 8
/-- A general register of Midopin. -/
def isReg (x : Nat) : Bool := x < 64
/-- An index and a subindex of the dictionary, and an offset into an object. -/
def isEntry (index sub offset : Nat) : Bool := isU 16 index && isU 8 sub && isU 32 offset
/-- Filter outputs of a phase triple. -/
def isPhases {α : Type} (l : List α) : Bool := l.length ≤ 3
/-- A Jorzer position. -/
def isPosition (x : Nat) : Bool := x < 64

/-- A measurement of the time source whose fields fit their widths (R83). -/
def TimeSample.wf (x : TimeSample) : Bool :=
  isI 80 x.offset &&
    (match x.sync with | some y => y.port < 3 && isI 96 y.received && isI 96 y.origin | none => true) &&
    x.announces.all fun y => y.port < 3 && isU 8 y.domain && isU 8 y.priority1 && isU 32 y.quality && isU 8 y.priority2 &&
      isU 64 y.identity && isU 16 y.steps

/-- A plant frame whose fields fit their widths (R92). -/
def PlantFrame.wf (f : PlantFrame) : Bool :=
  f.port < 3 && isU 8 f.version && isU 8 f.kind && isU 8 f.flags && isU 16 f.dest && isU 16 f.source && isU 16 f.sequence &&
    isU 64 f.stamp && isU 16 f.count && isU 16 f.length && isU 32 f.reserved &&
    (match f.redundancy with | some q => isU 16 q | none => true)

/-- A trigger record whose fields fit their widths (R338). -/
def TrigRecord.wf (r : TrigRecord) : Bool :=
  isU 8 r.kind && isU 8 r.group && isU 16 r.fraction && isU 32 r.source && isU 64 r.stamp && isU 32 r.arming && isU 64 r.header

/-- A Jorzer frame whose fields fit their widths (R355). -/
def JzFrame.wf (f : JzFrame) : Bool :=
  isU 8 f.kind && isU 8 f.flags && isU 8 f.origin && isU 8 f.dest && isU 8 f.cls && isU 8 f.reserved && isU 16 f.seq &&
    isU 64 f.edge && isU 16 f.length && isU 16 f.reserved2

/-- The well-formed commands. -/
def Instr.wf : Instr → Bool
  -- the tick, the row and the pool
  | .tickEdge general currents => general.all (fun p => p.1 < 16) && currents.all fun p => p.1 < 8
  | .inputFrameArrival origin stamp _ feeds => isU 16 origin && isU 64 stamp && feeds.all fun p => p.1 < 4096 && isU 64 p.2
  | .inputCutoff => true
  | .stitchStart order => isU 16 order
  | .rowOverrun cores => isU 8 cores
  | .slotValueWrite session slot data => isU 16 session && slot < 4096 && data.length ≤ 8
  -- the dictionary
  | .dictionaryWrite session index subindex offset _ => isU 16 session && isEntry index subindex offset
  | .stageRequest session index subindex offset _ => isU 16 session && isEntry index subindex offset
  | .commitCheckOnly session => isU 16 session
  | .commit session => isU 16 session
  | .commitCancel session => isU 16 session
  | .stagedSetDiscard session => isU 16 session
  | .commitApply => true
  | .stickyClear session index subindex ones recurring => isU 16 session && isEntry index subindex 0 && isU 64 ones && isU 64 recurring
  | .openSession => true
  | .closeSession session => isU 16 session
  | .sessionIdleTimeout session => isU 16 session
  | .cia402Controlword session window value => isU 16 session && window < 2 && isU 16 value
  -- Trellis and the plant network
  | .trellisMeasurement sample _ errorEstimate => sample.wf && isU 32 errorEstimate
  | .holdoverEntry => true
  | .holdoverLimitExpiry => true
  | .trellisSetTime time => isU 64 time
  | .timeStep => true
  | .ppsInEdge _ deviation => isI 64 deviation
  | .ppsOutPulse _ => true
  | .tsFrameSent port identifier => port < 3 && isU 32 identifier
  | .tsQueueEntryRead port => port < 3
  | .plantFrameReceive frame => frame.wf
  | .announceSend => true
  | .announceReceive address serial _ => isU 16 address && isU 32 serial
  | .partnerLost address missed => isU 16 address && isU 8 missed
  | .gateListSwitch port => port < 3
  | .ringPathLost port => port < 3
  | .masterPublish => true
  | .masterSampleReceive _ source sample => isU 16 source && isU 16 sample.master && isU 64 sample.cycle && isU 64 sample.time
  | .snapshotScheduleTime time => isU 64 time
  | .snapshotScheduleFrame time => isU 64 time
  | .snapshotTake => true
  | .snapshotComplete => true
  -- axes and profiles
  | .enable axis => isAxis axis
  | .disable axis => isAxis axis
  | .powerOn axis => isAxis axis
  | .moveAbsolute axis => isAxis axis
  | .moveRelative axis => isAxis axis
  | .velocityMove axis => isAxis axis
  | .stop axis => isAxis axis
  | .resume axis => isAxis axis
  | .quickStop axis => isAxis axis
  | .abandon axis => isAxis axis
  | .home axis => isAxis axis
  | .faultReset axis => isAxis axis
  | .coilsOff axis => isAxis axis
  | .planStart axis => isAxis axis
  | .standstill axis => isAxis axis
  | .brakeEngageDelayExpiry axis => isAxis axis
  | .brakeReleaseDelayExpiry axis => isAxis axis
  | .homingTimeout axis => isAxis axis
  | .bindOffRequest group value => group < 16 && isU 8 value
  | .bindOffRampStart group published => group < 16 && published.all fun p => isU 32 p.1 && isU 32 p.2
  | .bindOffEnd group => group < 16
  | .bindOffJoinLate group startEdge r q => group < 16 && isU 64 startEdge && isU 32 r && isU 32 q
  | .pathStart path => path < 8
  | .pathStop path => path < 8
  | .pathResume path => path < 8
  | .pathAbandon path => path < 8
  -- grafts and spans
  | .graftEngage graft => graft < 128
  | .graftDisengage graft => graft < 128
  | .remoteMasterLost graft => graft < 128
  | .spanStart group => group < 8
  | .spanRelease group => group < 8
  | .spanSettled group => group < 8
  | .spanObserverDiverged group => group < 8
  | .spanTensionOutOfRange group span => group < 8 && span < 16
  | .spanDataStale group => group < 8
  | .spanBankWrite group bank offset _ => group < 8 && bank < 2 && isU 32 offset
  | .spanBankSelect group value => group < 8 && isU 8 value
  -- loops and network axes
  | .followingError axis => isAxis axis
  | .netStatusRecord axis stamp drive flags position velocity torque =>
    isAxis axis && isU 64 stamp && isU 8 drive && isU 8 flags && isI 64 position && isI 32 velocity && isI 32 torque
  | .netAxisLost axis => isAxis axis
  -- feedback, compare, emulation
  | .encoderEdge channel _ lines => channel < 16 && isU 3 lines
  | .comparePulseEnd unit => unit < 8
  | .indexPulse channel _ _ => channel < 16
  | .ssiFrameComplete channel word delay _ _ => channel < 16 && isU 64 word && isU 32 delay
  | .armIndex channel => channel < 16
  | .disarmIndex channel => channel < 16
  | .preset channel => channel < 16
  | .presetApply channel => channel < 16
  | .lineFault channel _ => channel < 16
  | .cmpAppend unit _ => unit < 8
  | .cmpCancelAll unit => unit < 8
  | .emulationStep output => output < 4
  -- current sensing and field control
  | .focComputation axis _ raw _ est => isLocalAxis axis && isPhases raw && isU 32 est.obsAngle && isU 32 est.hfiAngle
  | .modulatorInputLost input _ => input < 64
  | .fastComparatorTrip stage phase _ issued => stage < 16 && phase < 3 && isPhases issued
  | .generalInputLimit input _ issued => input < 16 && isPhases issued
  | .pvsConversionComplete code => isU 16 code
  | .pvsComparatorChange stage phase _ _ _ => stage < 16 && phase < 3
  -- sensorless operation
  | .sixStepCommutation axis _ => isLocalAxis axis
  | .hfiLocked axis => isLocalAxis axis
  | .hfiFailed axis => isLocalAxis axis
  | .dibberPulseEnd axis raw => isLocalAxis axis && isPhases raw
  | .castOnMeasureTimeout axis => isLocalAxis axis
  | .castOnTimeout axis _ => isLocalAxis axis
  | .lockLost axis _ => isLocalAxis axis
  | .ascOrFreewheel axis => isLocalAxis axis
  | .reacquisitionEstimate axis _ phasor _ => isLocalAxis axis && isU 32 phasor
  | .lockRecovery axis => isLocalAxis axis
  | .lockRecoveryFailed axis => isLocalAxis axis
  | .rideThroughReturn axis => isLocalAxis axis
  | .angleTest axis => isLocalAxis axis
  | .returnFromRideThrough axis => isLocalAxis axis
  -- PWM generators
  | .halfPeriodStart stage => stage < 16
  | .tripAssert stage input _ _ issued => stage < 16 && input < 3 && isPhases issued
  | .blankingClose stage input issued => stage < 16 && input < 3 && isPhases issued
  | .gateEnableWithdrawn stage _ issued => stage < 16 && isPhases issued
  | .switchingResume stage => stage < 16
  | .auxChannelEvent stage channel _ => stage < 16 && channel < 2
  -- Midopin
  | .nop at_ => isCore at_.core
  | .add at_ _ rd ra rb => isCore at_.core && isReg rd && isReg ra && isReg rb
  | .sub at_ _ rd ra rb => isCore at_.core && isReg rd && isReg ra && isReg rb
  | .addi at_ _ rd ra imm => isCore at_.core && isReg rd && isReg ra && isI 13 imm
  | .and at_ rd ra rb => isCore at_.core && isReg rd && isReg ra && isReg rb
  | .or at_ rd ra rb => isCore at_.core && isReg rd && isReg ra && isReg rb
  | .xor at_ rd ra rb => isCore at_.core && isReg rd && isReg ra && isReg rb
  | .shl at_ _ rd ra rb => isCore at_.core && isReg rd && isReg ra && isReg rb
  | .shr at_ _ rd ra rb => isCore at_.core && isReg rd && isReg ra && isReg rb
  | .movi at_ rd imm => isCore at_.core && isReg rd && isI 19 imm
  | .clamp at_ rd ra rb => isCore at_.core && isReg rd && isReg ra && isReg rb
  | .min at_ rd ra rb => isCore at_.core && isReg rd && isReg ra && isReg rb
  | .max at_ rd ra rb => isCore at_.core && isReg rd && isReg ra && isReg rb
  -- R317: rd is even, from x2 to x30
  | .maxi at_ rd ra => isCore at_.core && rd % 2 == 0 && 2 ≤ rd && rd ≤ 30 && isReg ra
  | .mini at_ rd ra => isCore at_.core && rd % 2 == 0 && 2 ≤ rd && rd ≤ 30 && isReg ra
  | .mul at_ _ rd ra rb => isCore at_.core && isReg rd && isReg ra && isReg rb
  | .mac at_ _ acc _ ra rb => isCore at_.core && acc < 2 && isReg ra && isReg rb
  | .cmac at_ _ _ ra rb => isCore at_.core && isReg ra && isReg rb
  | .accr at_ _ acc shift rd => isCore at_.core && acc < 2 && shift < 64 && isReg rd
  | .accz at_ acc _ ra => isCore at_.core && acc < 2 && isReg ra
  | .ftap at_ _ acc _ rc ra rb => isCore at_.core && acc < 2 && isReg rc && isReg ra && isReg rb
  | .div at_ _ rd ra rb => isCore at_.core && isReg rd && isReg ra && isReg rb
  | .divComplete core => isCore core
  | .sqrt at_ rd ra => isCore at_.core && isReg rd && isReg ra
  | .sqrtComplete core => isCore core
  | .ld at_ rd ra imm _ => isCore at_.core && isReg rd && isReg ra && isI 13 imm
  | .st at_ rd ra imm => isCore at_.core && isReg rd && isReg ra && isI 13 imm
  | .ldi at_ rd ra imm _ => isCore at_.core && isReg rd && isReg ra && isI 13 imm
  | .sti at_ rd ra imm => isCore at_.core && isReg rd && isReg ra && isI 13 imm
  | .beq at_ ra rb offset => isCore at_.core && isReg ra && isReg rb && isI 13 offset
  | .bne at_ ra rb offset => isCore at_.core && isReg ra && isReg rb && isI 13 offset
  | .blt at_ ra rb offset => isCore at_.core && isReg ra && isReg rb && isI 13 offset
  | .bge at_ ra rb offset => isCore at_.core && isReg ra && isReg rb && isI 13 offset
  | .j at_ offset => isCore at_.core && isI 19 offset
  | .rep at_ _ ra body count => isCore at_.core && isReg ra && isU 8 body && isU 16 count
  | .ret at_ => isCore at_.core
  | .coreInterruptTaken core kind _ _ => isCore core && kind < 3
  | .debugHalt core => isCore core
  | .loopCoreMemoryError core _ address => isCore core && isU 32 address
  | .memoryRestored core => isCore core
  | .sentryEvent core vector => isCore core && vector < 8
  -- acquisition and marks
  | .arm => true
  | .disarm => true
  | .forceTrigger => true
  | .armingEdge => true
  | .triggerFire _ => true
  | .fireRecordSend => true
  | .triggerRecord r => r.wf
  | .settleWindowClose => true
  | .acqSampleStored group channel _ _ => group < 8 && channel < 64
  | .writeBackDrain bytes => isU 32 bytes
  | .streamBlockWrite => true
  | .markEdge input _ _ _ => input < 16
  -- Jorzer and the host interface
  | .headDetection => true
  | .enumerate position serials => isPosition position && serials.all fun x => isU 32 x
  | .map serials resets _ => serials.length ≤ 64 && resets.all fun x => isU 32 x
  | .acceptMap => true
  | .linkLoss port _ groups => port < 2 && groups.all fun g => g < 16
  | .linkUp port => port < 2
  | .jorzerFrameReceive port _ frame => port < 2 && frame.wf
  | .exchangeFrame origin edge _ => isPosition origin && isU 64 edge
  | .creditAndAcknowledge port acked credits _ => port < 2 && isU 64 acked && credits.length ≤ 9
  | .delayMeasurement port _ _ _ _ => port < 2
  | .sync stamp fraction _ _ _ => isU 64 stamp && isU 16 fraction
  | .reconcile port epoch consumed received => port < 2 && isU 32 epoch && consumed.length ≤ 9 && received.length ≤ 9
  | .mailboxDoorbell value entry _ => isU 32 value && entry.length ≤ 64
  | .submissionTailDoorbell queue value => isU 8 queue && isU 32 value
  | .completionHeadDoorbell queue value => isU 8 queue && isU 32 value
  | .submissionFetch entry _ => entry.length ≤ 64
  | .hostRead path source tag => path < 4 && isU 16 source && isU 16 tag
  | .hostWrite path source tag => path < 4 && isU 16 source && isU 16 tag
  | .hostStage path source tag => path < 4 && isU 16 source && isU 16 tag
  | .hostNoOp path source tag => path < 4 && isU 16 source && isU 16 tag
  | .completionIrqTimeout queue => isU 8 queue
  | .hostLinkLost => true
  | .hostReconcile heads => heads.all fun p => isU 8 p.1
  | .tagTimeout tag => isU 16 tag
  -- CAN FD
  | .canModeChange controller => controller < 2
  | .rateDetectionDwell controller => controller < 2
  | .rateDetectionTimeout controller => controller < 2
  | .canBufRequest controller buffer => controller < 2 && buffer < 64
  | .canBufCancel controller buffer _ => controller < 2 && buffer < 64
  | .canBufRelease controller buffer => controller < 2 && buffer < 64
  | .canFrameTransmitted controller _ _ _ => controller < 2
  | .canFrameReceived controller _ _ _ id flags data => controller < 2 && isU 29 id && isU 8 flags && data.length ≤ 64
  | .canError controller _ _ _ _ => controller < 2
  | .canRecover controller => controller < 2
  | .busOffRecovery controller => controller < 2
  | .ttSlotFire controller slot => controller < 2 && slot < 64
  | .ttWindowExpiry controller slot _ => controller < 2 && slot < 64
  -- field I/O
  | .fieldInputChange input _ => input < 16
  | .wireBreak low => low.input < 16
  | .fieldOutputOverload held => held.output < 8
  | .fieldOutputOverTemperature output _ => output < 8
  | .openWire output _ => output < 8
  | .fieldSupplyInvalid _ => true
  | .fieldOutputShed output => output < 8
  | .fieldSupplyValid _ inputs => inputs.length ≤ 16
  | .fieldOutputAutoRestore output => output < 8
  | .dieLinkLost => true
  | .dieLinkRestored inputs => inputs.length ≤ 16
  -- safety functions
  | .safetyCycle inputs code _ _ _ _ => isU 8 inputs && isU 8 code
  | .discrepancyLatch pair => pair < 4
  | .ss1TimerExpiry group => group < 4
  | .requestFrame => true
  | .requestPathLost => true
  | .safetyAcknowledge => true
  | .safetyUnlock session value => isU 16 session && isU 32 value
  | .safetyUnlockExpiry session => isU 16 session
  | .sealRead code => isU 8 code
  | .offPulse output _ => output < 8
  | .selfTestComplete _ => true
  -- faults and thermal management
  | .blockReset source => isU 16 source
  | .chipReset => true
  | .faultForce kind _ value => 1 ≤ kind && kind ≤ 0x33 && isU 64 value
  | .faultReactionWrite kind value => 1 ≤ kind && kind ≤ 0x33 && isU 8 value
  | .clearFatalRecord => true
  | .eraseLog => true
  | .faultLogCopy => true
  | .temperatureMeasurement readings => readings.length ≤ 16
  | .throttleUp => true
  | .throttleDown => true
  | .thermalEscalation => true
  | .thermalHoldRelease => true
  -- supplies, clocks, resets and device states
  | .supplyFault supply _ => supply < 4
  | .clockFault => true
  | .powerGood voltages => voltages.length ≤ 4
  | .nrstQualified => true
  | .nrstRelease => true
  | .nrstFailedClosed => true
  | .nrstIgnoreEnd => true
  | .resetRelease _ bad => isU 2 bad
  | .startupComplete bootMs => isU 32 bootMs
  | .supervisorWatchdog core => core < 2
  | .deviceReady => true
  | .deviceRun => true
  | .deviceHalt => true
  | .deviceSafe => true
  | .deviceReset => true
  -- non-volatile store and update
  | .updateBegin => true
  | .updateActivate _ => true
  | .updateConfirm => true
  | .updateRevert => true
  | .updateAbort => true
  | .updateData offset _ => isU 32 offset
  | .bankErased => true
  | .flashOperationComplete _ => true
  | .save => true
  | .clear => true
  | .journalReclaim sector => isU 16 sector
  | .measuredMaximumReset key => isU 24 key
  -- rows that the table lists last
  | .canArbitrationLost controller _ => controller < 2
  | .creditFrameTimeout port => port < 2
  | .nerrMinPulseExpiry => true
  | .dibberGapExpiry axis => isLocalAxis axis
  | .frerResetTimeExpiry stream => isU 20 stream
  | .fieldInputValidAgain input _ => input < 16

end Sys2Proof
end

