-- ==== Sys2Proof/Safety.lean ====
section
/-! DEFINITION. What holds of the block between any two commands, in the terms the claims use. -/

namespace Sys2Proof.Machine

/-- The canonical form: the dictionary registers and the memory list no entry at its default, keys strictly rising. Equal
contents are then equal data. -/
def State.Canonical (s : State) : Prop := Sparse.wf Dict.dflt s.regs = true ∧ Memory.wf s.mem = true

/-- A command answers a next state. -/
def Completes (c : Instr) (s : State) : Prop := ∃ t, exec c s = .next t

/-- Every command that waits is well-formed. -/
def State.QueueWf (s : State) : Prop := s.pending.all Instr.wf = true

/-- A loop core between two bundles of its main bank: nothing of a begun bundle waits, no branch and no repeat is under way, neither
unit works, and no handler waits (R310, R314, R315, R322, R325). -/
def CoreRt.Plain (c : CoreRt) : Prop :=
  (c.buf = [] ∧ c.bufStore = [] ∧ c.bufFlow = .next ∧ c.bufDiv = none ∧ c.bufSqrt = none ∧ c.mid = false) ∧
    c.div = none ∧ c.sqrt = none ∧ c.main.branch = none ∧ c.main.reps = [] ∧ c.pendVec = 0 ∧ c.inShadow = false

/-- What a bundle leaves unchanged but registers: the dictionary, the memory, the other cores, the accumulators. -/
def State.KeepsBut (s t : State) (core : Nat) : Prop :=
  t.regs = s.regs ∧ t.mem = s.mem ∧ (∀ c, c ≠ core → t.core c = s.core c) ∧
    ∀ a, (t.core core).acc a = (s.core core).acc a

/-- A bundle of one instruction that writes the value `v` to the register `rd` of the main bank, or nothing where `rd` is
x0, and goes on with the next bundle. -/
def State.Wrote (s t : State) (core rd : Nat) (v : Int) : Prop :=
  s.KeepsBut t core ∧ (t.core core).main.pc = (s.core core).main.pc + 1 ∧
    (∀ k, k < 64 → (t.core core).reg k = if k = rd ∧ rd ≠ 0 then v else (s.core core).reg k)

/-- A bundle of one instruction that writes the value `v` to the accumulator `a` and goes on with the next bundle. -/
def State.Accumulated (s t : State) (core a : Nat) (v : Int) : Prop :=
  t.regs = s.regs ∧ t.mem = s.mem ∧ (∀ c, c ≠ core → t.core c = s.core c) ∧
    (t.core core).main.pc = (s.core core).main.pc + 1 ∧ (t.core core).acc a = v ∧
    (t.core core).acc (a + 1) = (s.core core).acc (a + 1) ∧ ∀ k, k < 64 → (t.core core).reg k = (s.core core).reg k

end Sys2Proof.Machine
end

