-- ==== Sys2Proof/Certificates/Slice0/Obligations.lean ====
section
/-! DEFINITION. The statements about this model, one definition each. Where the spec gives an effect by a formula, a
statement gives the same formula; what a statement says nothing about is unchanged only where it says so. -/

open Sys2Proof Sys2Proof.Machine

/-- For every command c, queue q and state s: a step of s with c in front of q is exec of c on s with the queue q. On an empty
queue a step answers a next state that differs only in TrellisCounter, one count on modulo 2^64 (the idle step is the
model's choice: log entry 2). (R73, R69) -/
def Obligations.StepRunsTheFrontCommand : Prop :=
  (∀ (c : Instr) (q : List Instr) (s : State), step { s with pending := c :: q } = exec c { s with pending := q }) ∧
  (∀ s : State, s.pending = [] →
    step s = .next (s.put Obj.TrellisCounter ((s.get Obj.TrellisCounter + 1) % 18446744073709551616)))

/-- After reset no command waits, memory lists nothing, no session is open and no commit is pending. DeviceState is 0 (Boot),
TrellisState 0, JzPosition 0xFF, LastResetCause 1, ConfigGeneration 0, TickPeriod code 3, every axis Disabled, every graft
and span group in state 0, and no sticky fault bit is set. Values for which the tables state no default (DeviceState,
TrellisState, LastResetCause among them) are the model's: log entries 3 and 4. (R456, R460, R13, R56, R351, R436) -/
def Obligations.ResetLeavesTheStatedValues : Prop :=
  State.reset.pending = [] ∧ State.reset.mem = [] ∧ State.reset.sessions = [] ∧ State.reset.commits = [] ∧
  State.reset.get Obj.DeviceState = 0 ∧ State.reset.get Obj.TrellisState = 0 ∧ State.reset.get Obj.JzPosition = 0xFF ∧
  State.reset.get Obj.LastResetCause = 1 ∧ State.reset.get Obj.ConfigGeneration = 0 ∧ State.reset.get Obj.TickPeriod = 3 ∧
  (∀ a < 64, State.reset.get (Obj.AxisState a) = 0) ∧ (∀ k < 128, State.reset.get (Obj.GraftState k) = 0) ∧
  (∀ g < 8, State.reset.get (Obj.SpanState g) = 0) ∧ (∀ k < 0x34, 0 < k → State.reset.get (Obj.FaultSticky k) = 0)

/-- TICK_EDGE always answers a next state: it starts the next tick (number and time of the edge, every SlotFlags cleared, the
row not yet checked), then applies due commits, latches, publishes, takes host slots and staged inputs and does the rest of
the edge in the model's order (log entry 18). An input frame stamped for a later edge is staged and counted as accepted.
INPUT_CUTOFF closes an open window and does nothing where none is open; an origin on time whose fault is not active starts
its late run anew. A primitive stitch whose core is neither stopped nor forced and that waits for no producer runs and is
finished; one that waits for a producer stays as it is. A row end that finds nothing unfinished counts a started and a
completed tick; after it a row end does nothing. An accepted SLOT_VALUE_WRITE waits for the next edge. (R14, R18, R19, R20,
R21, R26, R28, R34, R41, R59) -/
def Obligations.TickEdgeAndRow : Prop :=
  (∀ (g : List (Nat × Int)) (c : List (Nat × Nat)) (s : State), ∃ b t : State, exec (.tickEdge g c) s = .next t ∧
    b.get Obj.TickNumber = (s.tick + 1 : Nat) ∧ b.get Obj.TickEdgeTime = ((s.tick + 1) * b.tNs : Nat) ∧
    (∀ i < 4096, b.get (Obj.SlotFlags i) = 0) ∧ b.row.checked = false ∧ b.row.stopped = 0 ∧
    t = ((((((((((((b.weightEdge.each (List.range 8) State.cmpRowEdge).applyDue (s.tick + 1)
      (b.weightEdge.each (List.range 8) State.cmpRowEdge).commits.length).closureOver).latchAll (s.tick + 1) g).publish).latchHost).stageInputs
      (s.tick + 1)).compareEnables s.inForce).fieldEdge c |>.motionEdge (s.tick + 1)).spanCountEdge).carrierEdge
      (s.tick + 1)).edgeFinish (s.tick + 1))) ∧
  (∀ (o stamp : Nat) (feeds : List (Nat × Nat)) (s : State), s.tick < stamp →
    exec (.inputFrameArrival o stamp false feeds) s = .next
      (({ (s.count Obj.SumInputFrameReceived 64 1).count Obj.SumInputFrameAccepted 64 1 with
          row := { s.row with inputs := s.row.inputs ++ feeds.map fun f => (stamp, f.1, f.2) } } : State).originOnTime o stamp
        (feeds.map fun f => f.1))) ∧
  (∀ s : State, s.row.window = true → exec .inputCutoff s = .next s.cutoff) ∧
  (∀ s : State, s.row.window = false → exec .inputCutoff s = .next s) ∧
  (∀ (o : Nat) (s : State), (s.origin o).onTime.contains s.tick = true → s.faultActive fkInputLate o = false →
    (s.originCutoff o).origin o = { s.origin o with
      lateRun := 0
      lateEdge := 0
      onTime := (s.origin o).onTime.filter fun e => decide (s.tick < e) }) ∧
  (∀ (o : Nat) (d : Stitch) (s : State), s.oldVals = [] → s.stitchByOrder o = some d → d.kind ≠ kindKernel →
    (s.core d.core).halted = false → s.row.stopped.testBit d.core = false → s.row.forcedNow.testBit d.core = false →
    (s.stitch o).finished = false → s.heldBack d = false →
    exec (.stitchStart o) s = .next ((s.runPrimitive d).setStitch o { (s.runPrimitive d).stitch o with
      finished := true
      stale := (s.runPrimitive d).anyStale d })) ∧
  (∀ (o : Nat) (d : Stitch) (s : State), s.oldVals = [] → s.stitchByOrder o = some d → s.heldBack d = true →
    exec (.stitchStart o) s = .next s) ∧
  (∀ s : State, s.row.checked = false → s.row.forcedNow = 0 → s.row.stopped = 0 →
    exec (.rowOverrun 0) s = .next { (s.measureFinish.count Obj.SumTickStarted 64 1).count Obj.SumTickCompleted 64 1 with
      row := { s.row with checked := true } }) ∧
  (∀ (cores : Nat) (s : State), s.row.checked = true → exec (.rowOverrun cores) s = .next s) ∧
  (∀ (n slot : Nat) (data : List Byte) (s : State), s.sessionOk n = true → s.power.recovery = false → slot < 4096 →
    data.length = 8 → s.slotStatus slot (leNat data) = 0 →
    exec (.slotValueWrite n slot data) s = .next { s with hostWrites := Sparse.insert slot (leNat data) s.hostWrites
                                                          resp := { status := 0 } })

/-- On an open session outside recovery service, a 4-byte write of TrellisErrorLimit stores the little-endian value, keeps the
value of the latest edge until the next one and answers status 0, with nothing else changed. A session that is not open
answers 0x0104, a length other than 4 bytes 0x0205, a staged object (TickPeriod) 0x0203 and a read-only one (TickNumber)
0x0201; each of these changes the answer only. (R47, R49, R50, R51, R63, R11, R12) -/
def Obligations.DirectWriteStoresOrChangesNothing : Prop :=
  (∀ (n : Nat) (data : List Byte) (s : State), s.sessionOk n = true → s.power.recovery = false → data.length = 4 →
    s.oldVals = [] →
    exec (.dictionaryWrite n 0x2101 7 0 data) s = .next
      { s.put Obj.TrellisErrorLimit (leNat data) with
        oldVals := [(Obj.TrellisErrorLimit, s.get Obj.TrellisErrorLimit)], resp := { status := 0 } }) ∧
  (∀ (n i sub off : Nat) (data : List Byte) (s : State), s.sessionOk n = false →
    exec (.dictionaryWrite n i sub off data) s = .next (s.reply 0x0104)) ∧
  (∀ (n : Nat) (data : List Byte) (s : State), s.sessionOk n = true → s.power.recovery = false → data.length ≠ 4 →
    exec (.dictionaryWrite n 0x2101 7 0 data) s = .next (s.reply 0x0205)) ∧
  (∀ (n : Nat) (data : List Byte) (s : State), s.sessionOk n = true → s.power.recovery = false →
    exec (.dictionaryWrite n 0x2000 1 0 data) s = .next (s.reply 0x0203)) ∧
  (∀ (n : Nat) (data : List Byte) (s : State), s.sessionOk n = true → s.power.recovery = false →
    exec (.dictionaryWrite n 0x2000 4 0 data) s = .next (s.reply 0x0201))

/-- For a TickPeriod code of 1 to 6 with room in the sets, a stage request on an open named session puts the value into that
session's staged set, records the ConfigGeneration it began at and answers 0, with nothing else changed. Without room it
answers 0x0503, for a code of 7 or more 0x0301, for 0 0x0302, and in session 0 0x0104; each of these changes the answer
only. (R54, R55, R56, R63, R13) -/
def Obligations.StageRequestFillsTheSet : Prop :=
  (∀ (n : Nat) (b : Byte) (s : State), n ≠ 0 → s.sessionOk n = true → s.power.recovery = false →
    1 ≤ b.toNat → b.toNat ≤ 6 → s.stageRoom n Obj.TickPeriod = true →
    exec (.stageRequest n 0x2000 1 0 [b]) s = .next
      { s.setSession ((s.session n).stage ⟨Obj.TickPeriod, 0, [b]⟩ (s.nat Obj.ConfigGeneration)) with
        resp := { status := 0 } }) ∧
  (∀ (n : Nat) (b : Byte) (s : State), n ≠ 0 → s.sessionOk n = true → s.power.recovery = false →
    1 ≤ b.toNat → b.toNat ≤ 6 → s.stageRoom n Obj.TickPeriod = false →
    exec (.stageRequest n 0x2000 1 0 [b]) s = .next (s.reply 0x0503)) ∧
  (∀ (n : Nat) (b : Byte) (s : State), n ≠ 0 → s.sessionOk n = true → s.power.recovery = false → 7 ≤ b.toNat →
    exec (.stageRequest n 0x2000 1 0 [b]) s = .next (s.reply 0x0301)) ∧
  (∀ (n : Nat) (s : State), n ≠ 0 → s.sessionOk n = true → s.power.recovery = false →
    exec (.stageRequest n 0x2000 1 0 [0]) s = .next (s.reply 0x0302)) ∧
  (∀ (i sub off : Nat) (data : List Byte) (s : State),
    exec (.stageRequest 0 i sub off data) s = .next (s.reply 0x0104))

/-- A check of a set that fails no step answers 0 and leaves registers, memory, pending commits and the set as they are. A
commit that fails no step adds a pending commit with the set and its apply edge, empties the set, counts ConfigGeneration
and PendingCommits on, and leaves every other register and memory. A cancel of the session's pending commit more than one
tick ahead removes it. A discard empties the set. COMMIT_APPLY with a due commit in front applies it, sets PendingCommits to
what is left and goes on with the due commits behind it; with none due it does nothing. (R56, R57, R58, R59, R60, R61) -/
def Obligations.CommitCommands : Prop :=
  (∀ (n : Nat) (s : State), s.commitStatus n = 0 → (s.session n).staged ≠ [] → s.commitFail (s.session n) false = none →
    ∃ t, exec (.commitCheckOnly n) s = .next t ∧ t.resp = { status := 0 } ∧ t.regs = s.regs ∧ t.commits = s.commits ∧
      t.mem = s.mem ∧ (t.session n).staged = (s.session n).staged ∧ (t.session n).status = 0) ∧
  (∀ (n : Nat) (s : State), s.commitStatus n = 0 → (s.session n).staged ≠ [] → s.commitFail (s.session n) true = none →
    s.timingFail (s.applyEdge (s.session n)) = none →
    ∃ t, exec (.commit n) s = .next t ∧ t.resp = { status := 0 } ∧
      t.commits = s.commits ++ [⟨n, s.applyEdge (s.session n), (s.session n).staged⟩] ∧
      t.get Obj.ConfigGeneration = (s.get Obj.ConfigGeneration + 1) % 4294967296 ∧
      t.get Obj.PendingCommits = (s.commits.length + 1 : Nat) ∧ (t.session n).staged = [] ∧
      (t.session n).edge = s.applyEdge (s.session n) ∧ t.mem = s.mem ∧
      (∀ k, k ≠ Obj.ConfigGeneration → k ≠ Obj.PendingCommits → t.get k = s.get k)) ∧
  (∀ (n : Nat) (c : PCommit) (s : State), s.commitStatus n = 0 → c.session = n → (∀ x ∈ s.commits, x.session ≠ n) →
    s.tick + 1 < c.edge →
    ∃ t, exec (.commitCancel n) { s with commits := s.commits ++ [c] } = .next t ∧ t.resp = { status := 0 } ∧
      t.commits = s.commits ∧ t.get Obj.ConfigGeneration = (s.get Obj.ConfigGeneration + 1) % 4294967296 ∧
      t.get Obj.PendingCommits = s.commits.length ∧
      (∀ k, k ≠ Obj.ConfigGeneration → k ≠ Obj.PendingCommits → t.get k = s.get k)) ∧
  (∀ (n : Nat) (s : State), s.commitStatus n = 0 →
    exec (.stagedSetDiscard n) s = .next
      { s.setSession { s.session n with staged := [], gen := none, status := 0 } with resp := { status := 0 } }) ∧
  (∀ (c : PCommit) (s : State), s.commits = [c] → c.edge ≤ s.tick →
    exec .commitApply s = .next
      (((({ s with commits := [] } : State).applySet c.edge c.changes).put Obj.PendingCommits
        (({ s with commits := [] } : State).applySet c.edge c.changes).commits.length))) ∧
  (∀ s : State, (∀ c ∈ s.commits, s.tick < c.edge) → exec .commitApply s = .next s) ∧
  (∀ (c : PCommit) (rest : List PCommit) (s : State), s.commits = c :: rest → c.edge ≤ s.tick →
    exec .commitApply s = .next
      (((({ s with commits := rest } : State).applySet c.edge c.changes).put Obj.PendingCommits
        (({ s with commits := rest } : State).applySet c.edge c.changes).commits.length).applyDue s.tick rest.length))

/-- For a sticky object and one of its set bits below 64: a write of 1 clears the bit where the condition does not hold and does
not recur; where it holds, or recurs in the tick, the write answers 0x0702, counts StickyClearRefused and names the object
in StickyClearRefusedLast. A write of 0 leaves the value as it is. A write of several bits none of which is held clears
exactly those and answers 0. A write with a 1 in a reserved bit answers 0x0301 and changes the answer only. Which conditions
last is the model's reading where the rule does not say (log entry 11). (R65, R66) -/
def Obligations.StickyBitsClearOrStay : Prop :=
  (∀ (n i sub b m : Nat) (s : State), s.sessionOk n = true → s.power.recovery = false → addrStatus i sub = 0 →
    stickyMask (i * 256 + sub) = some m → 2 ^ b ||| m = m → b < 64 → (s.nat (i * 256 + sub)).testBit b = true →
    s.stickyHeld (i * 256 + sub) b = false →
    exec (.stickyClear n i sub (2 ^ b) 0) s = .next
      (((s.put (i * 256 + sub) (clrBitN (s.nat (i * 256 + sub)) b : Nat)).stickyAfter (i * 256 + sub)).done)) ∧
  (∀ (n i sub b m r : Nat) (s : State), s.sessionOk n = true → s.power.recovery = false → addrStatus i sub = 0 →
    stickyMask (i * 256 + sub) = some m → 2 ^ b ||| m = m → b < 64 → (s.nat (i * 256 + sub)).testBit b = true →
    (s.stickyHeld (i * 256 + sub) b = true ∨ r.testBit b = true) →
    ∃ t, exec (.stickyClear n i sub (2 ^ b) r) s = .next t ∧ t.resp = { status := 0x0702 } ∧
      t.get Obj.StickyClearRefused = (s.get Obj.StickyClearRefused + 1) % 4294967296 ∧
      t.get Obj.StickyClearRefusedLast = (i * 256 + sub : Nat)) ∧
  (∀ (n i sub m r : Nat) (s : State), s.sessionOk n = true → s.power.recovery = false → addrStatus i sub = 0 →
    stickyMask (i * 256 + sub) = some m →
    exec (.stickyClear n i sub 0 r) s = .next ((s.put (i * 256 + sub) (s.nat (i * 256 + sub))).done)) ∧
  (∀ (n i sub ones m r : Nat) (s : State), s.sessionOk n = true → s.power.recovery = false → addrStatus i sub = 0 →
    stickyMask (i * 256 + sub) = some m → ones ||| m = m →
    (∀ b, b < 64 → ones.testBit b = true → (s.nat (i * 256 + sub)).testBit b = true →
      s.stickyHeld (i * 256 + sub) b = false ∧ r.testBit b = false) →
    ∃ t, exec (.stickyClear n i sub ones r) s = .next t ∧ t.resp = { status := 0 } ∧
      (∀ b, b < 64 → (t.nat (i * 256 + sub)).testBit b = ((s.nat (i * 256 + sub)).testBit b && !ones.testBit b))) ∧
  (∀ (n i sub ones m r : Nat) (s : State), s.sessionOk n = true → s.power.recovery = false → addrStatus i sub = 0 →
    stickyMask (i * 256 + sub) = some m → ones ||| m ≠ m →
    exec (.stickyClear n i sub ones r) s = .next (s.reply 0x0301))

/-- An open request below 256 sessions appends a session under the next number and answers it; at 256 it answers 0x0502. A close
of an open session removes it, and where a host asked for it and nothing of the session waits before that request, its
request is completed with status 0. A controlword acts on the window's axis, and one whose low three bits are 7 brings a
disabled axis to Standby. (Log entry 12 on the view.) (R67, R61, R71, R72) -/
def Obligations.SessionsOpenAndClose : Prop :=
  (∀ s : State, s.sessions.length < 256 → (s.host.reqs.find? fun r => s.ownReq r && r.opcode == 4) = none →
    exec .openSession s = .next
      { s with sessions := s.sessions ++ [{ num := s.nextSession 257 s.lastSession }]
               lastSession := s.nextSession 257 s.lastSession
               resp := { status := 0, data := natLE 2 (s.nextSession 257 s.lastSession) } }) ∧
  (∀ s : State, 256 ≤ s.sessions.length → (s.host.reqs.find? fun r => s.ownReq r && r.opcode == 4) = none →
    exec .openSession s = .next (s.reply 0x0502)) ∧
  (∀ (n : Nat) (s : State), n ≠ 0 → s.sessionOk n = true →
    (s.host.reqs.find? fun r => s.ownReq r && r.opcode == 5 && r.session == n) = none →
    exec (.closeSession n) s = .next
      { s with sessions := s.sessions.filter fun x => x.num != n, resp := { status := 0 } }) ∧
  (∀ (r : HostReq) (n : Nat) (s : State), n ≠ 0 → s.sessionOk n = true →
    (s.host.reqs.find? fun r => s.ownReq r && r.opcode == 5 && r.session == n && !s.behind r) = some r →
    exec (.closeSession n) s = .next ((s.endSession n).done.complete r (s.nat Obj.JzPosition) ⟨0, [], false⟩)) ∧
  (∀ (n w v : Nat) (s : State), s.sessionOk n = true → s.power.recovery = false →
    exec (.cia402Controlword n w v) s = .next (s.controlword (s.viewAxis n (if w = 0 then 0x6040 else 0x6840)) v)) ∧
  (∀ (n w v : Nat) (s : State), s.sessionOk n = true → s.power.recovery = false → v % 8 = 7 →
    s.get (Obj.AxisState (s.viewAxis n (if w = 0 then 0x6040 else 0x6840))) = axDisabled →
    s.cmdStatus (s.viewAxis n (if w = 0 then 0x6040 else 0x6840)) 1 = 0 →
    exec (.cia402Controlword n w v) s = .next
      ((s.put (Obj.AxisState (s.viewAxis n (if w = 0 then 0x6040 else 0x6840))) axStandby).done))

/-- With a nonzero SessionIdleTimeout, SESSION_IDLE_TIMEOUT of a named session removes the session and its staged set and
nothing else; afterwards a write, a read, a close, a stage request, a slot write, a sticky clear, a controlword and the four
commit commands that name it each answer 0x0104 and change nothing else. (R68) -/
def Obligations.IdleSessionIsClosed : Prop :=
  ∀ (n : Nat) (s : State), n ≠ 0 → s.natInUse Obj.SessionIdleTimeout ≠ 0 →
    ∃ t, exec (.sessionIdleTimeout n) s = .next t ∧ t = { s with sessions := s.sessions.filter fun x => x.num != n } ∧
      (∀ i sub off data, exec (.dictionaryWrite n i sub off data) t = .next (t.reply 0x0104)) ∧
      (∀ i sub off len, t.readObject n i sub off len = t.reply 0x0104) ∧
      ((s.host.reqs.find? fun r => s.ownReq r && r.opcode == 5 && r.session == n) = none →
        exec (.closeSession n) t = .next (t.reply 0x0104)) ∧
      (∀ i sub off data, exec (.stageRequest n i sub off data) t = .next (t.reply 0x0104)) ∧
      (∀ slot data, exec (.slotValueWrite n slot data) t = .next (t.reply 0x0104)) ∧
      (∀ i sub ones r, exec (.stickyClear n i sub ones r) t = .next (t.reply 0x0104)) ∧
      (∀ w v, exec (.cia402Controlword n w v) t = .next (t.reply 0x0104)) ∧
      exec (.commitCheckOnly n) t = .next (t.reply 0x0104) ∧
      exec (.commit n) t = .next (t.reply 0x0104) ∧
      exec (.commitCancel n) t = .next (t.reply 0x0104) ∧
      exec (.stagedSetDiscard n) t = .next (t.reply 0x0104)

/-- A measurement goes through the offset of the source, which no sample that the source does not take passes; a first
measurement in state 0 puts the offset into TrellisOffsetError, brings state 1, and either slews or asks a step. The offset
of a PTP sync takes the ingress and egress latencies and the asymmetry of the port (log entry 140 on the formula).
HOLDOVER_ENTRY in state 2 brings state 3 with its two status bits. A nonzero holdover limit that expires in state 3 sets its
bit and raises "time lost" once; a limit of 0 has no effect. A written time waits as a step where the conditions of a step
hold (as an offset: log entry 44) and answers 0x0701 where they do not. TIME_STEP makes the waiting steps in order: a step
the servo planned is made where the conditions hold, and a written one that no longer meets them is answered 0x0701. The
slew is a free rate (log entry 43). (R77, R78, R79, R80, R81, R82, R84) -/
def Obligations.TrellisStates : Prop :=
  (∀ (x : TimeSample) (settled : Bool) (est : Nat) (err : Int) (s : State), (s.timeOffset x).2 = some err →
    exec (.trellisMeasurement x settled est) s = .next ((s.timeOffset x).1.measured err settled est)) ∧
  (∀ (x : TimeSample) (settled : Bool) (est : Nat) (s : State), (s.timeOffset x).2 = none →
    exec (.trellisMeasurement x settled est) s = .next (s.timeOffset x).1) ∧
  (∀ (err : Int) (settled : Bool) (est : Nat) (s : State), s.get Obj.TrellisState = 0 →
    ∃ u : State, u = ((s.put Obj.TrellisOffsetError (wrapS 64 err)).trellisTo 1).tolerance est ∧
      (s.measured err settled est = u.slew ∨ s.measured err settled est = u.askStep false (-(qdiv err 65536)))) ∧
  (∀ (y : PtpSync) (s : State), s.syncOffset y = (y.received + s.nat (Obj.PortIngressLatency y.port)) - y.origin -
    (qdiv (((y.t4 + s.nat (Obj.PortIngressLatency y.port)) - (y.t1 + s.nat (Obj.PortEgressLatency y.port))) - (y.t3 - y.t2)) 2 +
      s.get (Obj.PortAsymmetry y.port))) ∧
  (∀ s : State, s.get Obj.TrellisState = 2 →
    exec .holdoverEntry s = .next (({ (s.put Obj.TrellisState 3) with trellis := { s.trellis with goodRun := 0 } } : State).setBit
      Obj.TrellisStatus 0 |>.setBit Obj.TrellisStatus 1)) ∧
  (∀ s : State, s.get Obj.TrellisState = 3 → s.inUse Obj.HoldoverLimit ≠ 0 →
    exec .holdoverLimitExpiry s = .next ((s.setBit Obj.TrellisStatus 2).raiseOnce fkTimeLost 0)) ∧
  (∀ s : State, s.inUse Obj.HoldoverLimit = 0 → exec .holdoverLimitExpiry s = .next s) ∧
  (∀ (time : Nat) (s : State), s.stepAllowed = true →
    exec (.trellisSetTime time) s = .next
      { s with trellis := { s.trellis with steps := (s.trellis.steps.filter fun x => x.1) ++ [(true, (time : Int) - s.now)] } }) ∧
  (∀ (time : Nat) (s : State), s.stepAllowed = false →
    exec (.trellisSetTime time) s = .next (s.reply 0x0701)) ∧
  (∀ (by_ : Int) (s : State), s.trellis.steps = [(false, by_)] → s.stepAllowed = true →
    exec .timeStep s = .next (({ s with trellis := { s.trellis with steps := [] } } : State).makeStep by_)) ∧
  (∀ (by_ : Int) (s : State), s.trellis.steps = [(true, by_)] → s.stepAllowed = false →
    exec .timeStep s = .next (({ s with trellis := { s.trellis with steps := [] } } : State).answerLate 1 0x0701)) ∧
  (∀ s : State, exec .timeStep s = .next (({ s with trellis := { s.trellis with steps := [] } } : State).makeSteps 0 s.trellis.steps))

/-- Where no recording runs, a step by a number of ns cancels every pending commit (PendingCommits 0), makes the time the old
time plus the step at the present counter value, sets its status bit, and leaves only snapshots that lie after the new time.
(R81, R74) -/
def Obligations.ATimeStep : Prop :=
  ∀ (by_ : Int) (s : State), s.get Obj.AcqState < 1 ∨ 3 < s.get Obj.AcqState →
    (s.makeStep by_).commits = [] ∧ (s.makeStep by_).get Obj.PendingCommits = 0 ∧
    (s.makeStep by_).get Obj.TrellisOffset = ((wrapU 64 ((s.now : Int) + by_)).toNat : Nat) ∧
    (s.makeStep by_).get Obj.TrellisBaseCounter = s.get Obj.TrellisCounter ∧
    (s.makeStep by_).bit Obj.TrellisStatus 4 = true ∧
    ∀ x ∈ (s.makeStep by_).snap.pending, (wrapU 64 ((s.now : Int) + by_)).toNat < x

/-- With PPS_IN as source and its rising edge selected, an edge puts the deviation into TrellisOffsetError outside state 2 (the
servo answers at its own row: log entry 45); in state 2 an edge beyond a nonzero window sets its status bit only. PPS_OUT
rises at the Trellis second plus PpsOutOffset and falls PpsOutWidth later, where that moment lies in this tick, and the pin
edge is noted with its time; with a width of 0 a low pin stays low. (R87, R88) -/
def Obligations.PulsesAndTimeStamps : Prop :=
  (∀ (d : Int) (s : State), s.get Obj.TrellisSource = 2 → s.get Obj.PpsInEdge = 1 → s.get Obj.TrellisState ≠ 2 →
    exec (.ppsInEdge true d) s = .next (s.put Obj.TrellisOffsetError (wrapS 64 (d * 65536)))) ∧
  (∀ (d : Int) (s : State), s.get Obj.TrellisSource = 2 → s.get Obj.PpsInEdge = 1 → s.get Obj.TrellisState = 2 →
    s.natInUse Obj.PpsInWindow ≠ 0 → s.natInUse Obj.PpsInWindow < d.natAbs →
    exec (.ppsInEdge true d) s = .next (s.setBit Obj.TrellisStatus 6)) ∧
  (∀ (time : Int) (s : State), s.inUse Obj.PpsOutWidth ≠ 0 → s.trellis.ppsOut = false →
    s.secondIn (s.inUse Obj.PpsOutOffset) = some time →
    exec (.ppsOutPulse true) s = .next
      { s with trellis := { s.trellis with ppsOut := true }, sent := s.sent ++ [⟨sentPpsOut, [1, time]⟩] }) ∧
  (∀ (time : Int) (s : State), s.trellis.ppsOut = true →
    s.secondIn (s.inUse Obj.PpsOutOffset + s.inUse Obj.PpsOutWidth) = some time →
    exec (.ppsOutPulse false) s = .next
      { s with trellis := { s.trellis with ppsOut := false }, sent := s.sent ++ [⟨sentPpsOut, [0, time]⟩] }) ∧
  (∀ (add time : Int) (s : State), s.secondIn add = some time →
    (time - add) % 1000000000 = 0 ∧ (s.tick * s.tNs : Nat) ≤ time ∧ time < ((s.tick + 1) * s.tNs : Nat)) ∧
  (∀ (rise : Bool) (s : State), s.inUse Obj.PpsOutWidth = 0 → s.trellis.ppsOut = false →
    exec (.ppsOutPulse rise) s = .next s)

/-- On ports 0 to 2, a frame sent with an identifier while the queue of 64 has room appends an entry with that identifier and
the time at the pin (the present time plus the egress latency); only TsRequested and TsQueueOccupancy may change beside it,
and memory does not. A read of a queue with entries answers the oldest one as a valid 16-byte record and removes it. A read
of an empty queue answers 16 zero bytes (Valid 0) and removes nothing. (R85) -/
def Obligations.TimeStampQueue : Prop :=
  (∀ (p id : Nat) (s : State), p < 3 → id < 4096 → (s.tsQueue p).length < 64 →
    ∃ t, exec (.tsFrameSent p id) s = .next t ∧
      t.tsQueue p = s.tsQueue p ++ [(id, (s.now16 + s.nat (Obj.PortEgressLatency p)) / 65536,
        (s.now16 + s.nat (Obj.PortEgressLatency p)) % 65536)] ∧
      t.mem = s.mem ∧ (∀ k, k ≠ Obj.TsRequested p → k ≠ Obj.TsQueueOccupancy p → t.get k = s.get k)) ∧
  (∀ (p id time frac : Nat) (l : List (Nat × Nat × Nat)) (s : State), p < 3 → s.tsQueue p = (id, time, frac) :: l →
    ∃ t, exec (.tsQueueEntryRead p) s = .next t ∧ t.tsQueue p = l ∧
      t.resp = { status := 0, data := natLE 4 (2 ^ 31 + p * 4096 + id) ++ natLE 2 0 ++ natLE 2 frac ++ natLE 8 time }) ∧
  (∀ (p : Nat) (s : State), p < 3 → s.tsQueue p = [] →
    exec (.tsQueueEntryRead p) s = .next { s with resp := { status := 0, data := List.replicate 16 0 } })

/-- An announce is sent where AnnounceInterval is nonzero, with the frame header and the sequence of its type (one on per
frame); in an address conflict no frame but the announce is sent. One received from an unknown other address joins the table
while it holds fewer than 256 partners; one with the own address and another serial number sets the conflict, its bit and
its fault once. A partner missing for PartnerLossCount announces is lost. A gate list that waits becomes the list in force
where its start time lies before the next tick edge. A ring path without frames for a nonzero FrerLatentPeriod is lost while
FrerEnable is set; with 0 nothing happens. A stream that receives nothing for a nonzero FrerResetTime is forgotten. The
address and message choices are log entries 46 and 48. (R94, R95, R96, R98, R99, R102) -/
def Obligations.PlantDiscovery : Prop :=
  (∀ s : State, s.inUse Obj.AnnounceInterval ≠ 0 →
    exec .announceSend s = .next (s.sendFrame sentAnnounce true 0 s.now 1 10 [s.get Obj.PlantAddress, s.get Obj.SerialNumber,
      s.get Obj.TickPeriod, s.get Obj.NetworkCycleTicks, s.get Obj.DeviceState])) ∧
  (∀ (kind dest stamp count length seq : Nat) (b : Bool) (records : List Int) (s : State),
    (s.plant.conflict = false ∨ kind = 6) → s.flag Obj.FrerEnable = false → seq = (s.plant.seqs.lookup kind).getD 0 →
    s.sendFrame kind b dest stamp count length records = { s with
      plant := { s.plant with seqs := Sparse.insert kind ((seq + 1) % 65536) s.plant.seqs }
      sent := s.sent ++ [⟨kind, [3, s.get Obj.PlantVlanId, s.get Obj.PlantPcp, -1, s.get Obj.PlantEtherType,
        ((if b then 1 else 0) + (if s.get Obj.TrellisState = 2 then 0 else 4) : Nat), dest, s.get Obj.PlantAddress, seq, stamp, count,
        length] ++ records⟩] }) ∧
  (∀ (kind dest stamp count length : Nat) (b : Bool) (records : List Int) (s : State), s.plant.conflict = true → kind ≠ 6 →
    s.sendFrame kind b dest stamp count length records = s) ∧
  (∀ s : State, s.inUse Obj.AnnounceInterval = 0 → exec .announceSend s = .next s) ∧
  (∀ (addr serial : Nat) (nl : Bool) (s : State), addr ≠ s.nat Obj.PlantAddress →
    s.plant.partners.any (fun p => p.addr == addr) = false → s.plant.partners.length < 256 →
    exec (.announceReceive addr serial nl) s = .next (s.setPartners (s.plant.partners ++
      [{ addr := addr, lost := false, configured := s.namesPartner addr, notLocked := nl, serial := serial, time := s.now }]))) ∧
  (∀ (serial : Nat) (nl : Bool) (s : State), serial ≠ s.nat Obj.SerialNumber → s.plant.conflict = false →
    exec (.announceReceive (s.nat Obj.PlantAddress) serial nl) s = .next
      ((({ s with plant := { s.plant with conflict := true } } : State).setBit Obj.PlantStatus 0).raiseOnce fkAddress 0)) ∧
  (∀ (addr missed : Nat) (s : State), 1 ≤ missed → s.natInUse Obj.PartnerLossCount ≤ missed →
    s.plant.partners.any (fun p => p.addr == addr && !p.lost) = true →
    exec (.partnerLost addr missed) s = .next
      ((s.setPartners (s.plant.partners.map fun p => if p.addr = addr then { p with lost := true } else p)).setBit
        Obj.PlantStatus 1)) ∧
  (∀ (p : Nat) (g n : GateRt) (s : State), s.plant.gates.lookup p = some g → g.pending = true →
    s.gateStart p g.since < (s.tick + 1) * s.tNs →
    n = { enable := s.flag (Obj.GateEnable p), cycle := s.nat (Obj.GateCycleTime p), base := s.nat (Obj.GateBaseTime p),
          entries := s.gateEntries p } →
    exec (.gateListSwitch p) s = .next { s with plant := { s.plant with gates := Sparse.insert p n s.plant.gates } }) ∧
  (∀ (p : Nat) (s : State), p < 2 → s.flag Obj.FrerEnable = true → s.inUse Obj.FrerLatentPeriod ≠ 0 →
    exec (.ringPathLost p) s = .next ((s.setBit Obj.PlantStatus 2).raiseOnce fkRingLost p)) ∧
  (∀ (p : Nat) (s : State), s.inUse Obj.FrerLatentPeriod = 0 → exec (.ringPathLost p) s = .next s) ∧
  (∀ (x : Nat) (s : State), s.inUse Obj.FrerResetTime ≠ 0 →
    exec (.frerResetTimeExpiry x) s = .next
      { s with plant := { s.plant with streams := s.plant.streams.filter fun y => y.1 != x } })

/-- A frame of the own address does nothing. An unreplicated unicast frame for another device is forwarded, cut through where
both sides have one speed, the other port is idle and its gate is open, else stored first; for this device it counts as
received, and a malformed one counts as rejected and sets its bit, a type-2 frame counts as accepted, and a type-7 frame
that has records and an acceptable time counts as accepted and schedules the snapshot. Counting of types 2 and 7 is the
model's: log entry 47. (R92, R93, R97, R100, R106) -/
def Obligations.PlantFrames : Prop :=
  (∀ (f : PlantFrame) (s : State), f.source = s.nat Obj.PlantAddress →
    exec (.plantFrameReceive f) s = .next s) ∧
  (∀ (f : PlantFrame) (s : State), f.source ≠ s.nat Obj.PlantAddress → f.redundancy = none → f.dest ≠ s.nat Obj.PlantAddress →
    f.flags % 2 = 0 →
    exec (.plantFrameReceive f) s = .next
      { s with sent := s.sent ++ [⟨sentForward, [f.port, f.source, f.kind, f.sequence,
        if f.equalSpeed && f.idle && (s.gatesOpen (if f.port = 0 then 1 else 0) s.now).testBit (s.nat Obj.PlantPcp) then 1 else 2]⟩] }) ∧
  (∀ (f : PlantFrame) (s : State), f.source ≠ s.nat Obj.PlantAddress → f.redundancy = none → f.dest = s.nat Obj.PlantAddress →
    f.flags % 2 = 0 → frameBad f = true →
    exec (.plantFrameReceive f) s = .next
      (((s.count Obj.SumInputFrameReceived 64 1).count Obj.SumInputFrameRejected 64 1).setBit Obj.PlantStatus 3)) ∧
  (∀ (f : PlantFrame) (s : State), f.source ≠ s.nat Obj.PlantAddress → f.redundancy = none → f.dest = s.nat Obj.PlantAddress →
    f.flags % 2 = 0 → frameBad f = false → f.kind = 2 →
    exec (.plantFrameReceive f) s = .next
      ((s.count Obj.SumInputFrameReceived 64 1).count Obj.SumInputFrameAccepted 64 1)) ∧
  (∀ (f : PlantFrame) (s : State), f.source ≠ s.nat Obj.PlantAddress → f.redundancy = none → f.dest = s.nat Obj.PlantAddress →
    f.flags % 2 = 0 → frameBad f = false → f.kind = 7 → f.count ≠ 0 → s.scheduleStatus f.stamp = 0 →
    exec (.plantFrameReceive f) s = .next
      (((s.count Obj.SumInputFrameReceived 64 1).count Obj.SumInputFrameAccepted 64 1).schedule f.stamp))

/-- At a row of MASTER_PUBLISH every published entry is sent: a measured one at the edge that starts a network cycle, a
commanded one for the next edge where that edge starts one; with no entry nothing is sent. A sample in time and not older
than the newest of its master is accepted, becomes the newest and reaches every graft that reads the master: its waiting
sample, the one before kept, RemoteMasterState 2. A sample in time but older counts as rejected. A sample that comes at or
after its time plus the network cycle counts as late. (R103, R104, R105, R159, R163) -/
def Obligations.MasterSamples : Prop :=
  (∀ (c : Nat) (s : State), c = s.nat Obj.NetworkCycleTicks →
    exec .masterPublish s = .next (s.each s.masterEntries fun t j =>
      if s.masterMeasured j then (if s.tick % c = 0 then t.sendMaster true j s.tick (s.tick / c) else t)
      else if (s.tick + 1) % c = 0 then t.sendMaster true j (s.tick + 1) ((s.tick + 1) / c) else t)) ∧
  (∀ s : State, s.masterEntries = [] → exec .masterPublish s = .next s) ∧
  (∀ (plant : Bool) (src : Nat) (x : MasterSample) (s : State), s.now < x.time + s.nat Obj.NetworkCycleTicks * s.tNs →
    s.sampleOld plant src x = false →
    exec (.masterSampleReceive plant src x) s = .next
      ((({ s with plant := { s.plant with newest := Sparse.insert (masterKey plant src x.master) x.time s.plant.newest } } : State).inputCount
        Obj.SumInputFrameAccepted).each (s.readersOf plant src x.master) fun t k => t.masterSample x k)) ∧
  (∀ (k : Nat) (x : MasterSample) (s : State), k < 128 →
    ((s.masterSample x k).graft k).next = some x ∧ ((s.masterSample x k).graft k).nextEarlier = (s.graft k).next ∧
      (s.masterSample x k).get (Obj.RemoteMasterState k) = 2 ∧ ∀ j, j ≠ k → (s.masterSample x k).graft j = s.graft j) ∧
  (∀ (plant : Bool) (src : Nat) (x : MasterSample) (s : State), s.now < x.time + s.nat Obj.NetworkCycleTicks * s.tNs →
    s.sampleOld plant src x = true →
    exec (.masterSampleReceive plant src x) s = .next
      ((s.count Obj.SumInputFrameReceived 64 1).count Obj.SumInputFrameRejected 64 1)) ∧
  (∀ (plant : Bool) (src : Nat) (x : MasterSample) (s : State), x.time + s.nat Obj.NetworkCycleTicks * s.tNs ≤ s.now →
    exec (.masterSampleReceive plant src x) s = .next
      ((s.count Obj.SumInputFrameReceived 64 1).count Obj.SumInputFrameLate 64 1))

/-- A time that is a multiple of 1 ms, not pending and later than now plus two ticks is scheduled while fewer than four wait;
another multiple answers 0x0301 or, too early, 0x0601. A type-7 record schedules an acceptable time and counts it. The edge
at a pending time takes the snapshot and removes the time; an edge at a multiple of a nonzero SnapshotPeriod takes one. A
snapshot completes with its time, number and flags, and each equation that fails in it sets its LedgerImbalance bit and
raises its fault; where all hold nothing is raised. (R106, R107, R108, R44) -/
def Obligations.ScheduledSnapshots : Prop :=
  (∀ (time : Nat) (s : State), time % 1000000 = 0 → s.snap.pending.contains time = false → s.now + 2 * s.tNs < time →
    s.snap.pending.length < 4 →
    exec (.snapshotScheduleTime time) s = .next
      { (s.put Obj.SnapshotPending (s.snap.pending.length + 1 : Nat)) with
        snap := { s.snap with pending := s.snap.pending ++ [time] }, resp := { status := 0 } }) ∧
  (∀ (time : Nat) (s : State), time % 1000000 ≠ 0 →
    exec (.snapshotScheduleTime time) s = .next (s.reply 0x0301)) ∧
  (∀ (time : Nat) (s : State), time % 1000000 = 0 → s.snap.pending.contains time = false → time ≤ s.now + 2 * s.tNs →
    exec (.snapshotScheduleTime time) s = .next (s.reply 0x0601)) ∧
  (∀ (time : Nat) (s : State), s.scheduleStatus time = 0 →
    exec (.snapshotScheduleFrame time) s = .next
      (((s.count Obj.SumInputFrameReceived 64 1).count Obj.SumInputFrameAccepted 64 1).schedule time)) ∧
  (∀ s : State, s.snap.passed = none → s.snap.pending.contains (s.nat Obj.TickEdgeTime) = true → s.snap.current = none →
    ∃ t x, exec .snapshotTake s = .next t ∧ t.snap.current = some x ∧ x.time = s.nat Obj.TickEdgeTime ∧
      t.snap.pending = (s.snap.pending.filter fun y => y != s.nat Obj.TickEdgeTime)) ∧
  (∀ (period : Nat) (s : State), s.snap.passed = none → s.snap.pending.contains (s.nat Obj.TickEdgeTime) = false →
    period = s.natInUse Obj.SnapshotPeriod * 1000000 → period ≠ 0 → s.nat Obj.TickEdgeTime % period = 0 →
    exec .snapshotTake s = .next (s.takeSnap (s.nat Obj.TickEdgeTime) false)) ∧
  (∀ (x u : State) (c : Snap), x.snap.current = some c →
    u = (((({ x with snap := { x.snap with current := none, last := some c } } : State).put Obj.SnapshotLastTime c.time).put
        Obj.SnapshotLastNumber (c.time / 1000000 % 4294967296 : Nat)).put Obj.SnapshotFlags c.flags |>.put
        Obj.LedgerImbalance (x.nat Obj.LedgerImbalance ||| c.bad : Nat)) →
    exec .snapshotComplete x = .next (u.each ((List.range 16).filter fun i => c.bad.testBit i) fun s i => s.raise fkLedger i)) ∧
  (∀ (x : Snap) (s : State), s.snap.current = some x → x.bad = 0 →
    exec .snapshotComplete s = .next
      (((({ s with snap := { s.snap with current := none, last := some x } } : State).put Obj.SnapshotLastTime x.time).put
        Obj.SnapshotLastNumber (x.time / 1000000 % 4294967296 : Nat)).put Obj.SnapshotFlags x.flags |>.put
        Obj.LedgerImbalance (s.nat Obj.LedgerImbalance : Nat)))

/-- For every axis in Run that is in no gang and whose bind-off groups do not ramp: enable outside Disabled, disable outside
Standby and Holding, power on outside Standby, the moves outside Standby to Stopping, stop and quick stop outside Moving and
Stopping, resume outside Holding and Stopping, abandon outside Holding to Stopping, home outside Standby and Holding, fault
reset outside Faulted and coils off outside Holding answer 0x0703 and change the answer only. (R110, R109, R12) -/
def Obligations.AxisCommandsAreRefusedOutsideTheirStates : Prop :=
  ∀ (a : Nat) (s : State), a < 64 → s.get Obj.DeviceState = devRun → s.gangOf a = none →
    (∀ b ∈ s.groupsOf a, (s.bind b).phase ≠ 2) →
    (s.get (Obj.AxisState a) ≠ 0 → exec (.enable a) s = .next (s.reply 0x0703)) ∧
    (s.get (Obj.AxisState a) ∉ [1, 2] → exec (.disable a) s = .next (s.reply 0x0703)) ∧
    (s.get (Obj.AxisState a) ≠ 1 → exec (.powerOn a) s = .next (s.reply 0x0703)) ∧
    (s.get (Obj.AxisState a) ∉ [1, 2, 3, 4] → exec (.moveAbsolute a) s = .next (s.reply 0x0703)) ∧
    (s.get (Obj.AxisState a) ∉ [1, 2, 3, 4] → exec (.moveRelative a) s = .next (s.reply 0x0703)) ∧
    (s.get (Obj.AxisState a) ∉ [1, 2, 3, 4] → exec (.velocityMove a) s = .next (s.reply 0x0703)) ∧
    (s.get (Obj.AxisState a) ∉ [3, 4] → exec (.stop a) s = .next (s.reply 0x0703)) ∧
    (s.get (Obj.AxisState a) ∉ [2, 4] → exec (.resume a) s = .next (s.reply 0x0703)) ∧
    (s.get (Obj.AxisState a) ∉ [3, 4] → exec (.quickStop a) s = .next (s.reply 0x0703)) ∧
    (s.get (Obj.AxisState a) ∉ [2, 3, 4] → exec (.abandon a) s = .next (s.reply 0x0703)) ∧
    (s.get (Obj.AxisState a) ∉ [1, 2] → exec (.home a) s = .next (s.reply 0x0703)) ∧
    (s.get (Obj.AxisState a) ≠ 6 → exec (.faultReset a) s = .next (s.reply 0x0703)) ∧
    (s.get (Obj.AxisState a) ≠ 2 → exec (.coilsOff a) s = .next (s.reply 0x0703))

/-- Where its command is allowed: enable brings Standby; disable of a Standby axis brings Disabled with the loop open, the brake
engaged and no move; disable of a Holding axis with a delayed brake engages the brake first; power on of an axis that need
not acquire and whose trip is not latched brings Casting-on and counts CastOnCount, and no other axis changes state; coils
off without a brake output brings Standby; fault reset brings Disabled. (R109, R110, R129, R131, R270, R271) -/
def Obligations.AxisComesOnAndRests : Prop :=
  (∀ (a : Nat) (s : State), s.cmdStatus a 1 = 0 → exec (.enable a) s = .next ((s.put (Obj.AxisState a) axStandby).done)) ∧
  (∀ (a : Nat) (s : State), s.cmdStatus a 2 = 0 → s.get (Obj.AxisState a) = axStandby →
    ∃ t, exec (.disable a) s = .next t ∧ t = (s.enterRest a 2).done ∧ t.get (Obj.AxisState a) = axDisabled ∧
      (t.axis a).closed = false ∧ (t.axis a).brakeEngaged = true ∧ (t.axis a).move = .none) ∧
  (∀ (a : Nat) (s : State), s.cmdStatus a 2 = 0 → s.get (Obj.AxisState a) = axHolding → s.get (Obj.BrakeOutput a) ≠ 0xFF →
    s.get (Obj.BrakeEngageDelay a) ≠ 0 →
    exec (.disable a) s = .next ((s.setAxis a { s.axis a with engageTo := 2, brakeEngaged := true }).done)) ∧
  (∀ (a : Nat) (s : State), s.cmdStatus a 3 = 0 → s.gangOf a = none → s.flag (Obj.AxisVirtual a) = false →
    s.castAcquires a = false → (isLocal a && s.tripLatched a) = false →
    ∃ t, exec (.powerOn a) s = .next t ∧ t.resp = { status := 0 } ∧ t.get (Obj.AxisState a) = axCasting ∧
      t.get (Obj.CastOnCount a) = (s.get (Obj.CastOnCount a) + 1) % 4294967296 ∧ (t.axis a).afterCast = none ∧
      (∀ b, b < 64 → b ≠ a → t.get (Obj.AxisState b) = s.get (Obj.AxisState b))) ∧
  (∀ (a : Nat) (s : State), s.cmdStatus a 13 = 0 → s.get (Obj.BrakeOutput a) = 0xFF →
    ∃ t, exec (.coilsOff a) s = .next t ∧ t = (s.enterRest a 1).done ∧ t.get (Obj.AxisState a) = axStandby ∧
      (t.axis a).closed = false ∧ (t.axis a).brakeEngaged = true) ∧
  (∀ (a : Nat) (s : State), s.cmdStatus a 12 = 0 → s.gangOf a = none →
    exec (.faultReset a) s = .next (((s.put (Obj.AxisState a) axDisabled).setAxis a
      { s.axis a with overrunS := false }).done))

/-- Where its command and target are allowed and the axis is powered: an absolute move requests its target and the remaining
distance becomes target minus setpoint; a relative move requests the setpoint plus the distance; a velocity move makes the
axis Moving with its speed as request; stop and quick stop of a Moving axis that follows no graft and leads no gang make it
Stopping with the deceleration each has and keep the target. (R110, R120, R123, R125, R126, R127) -/
def Obligations.MoveAndStopCommands : Prop :=
  (∀ (a : Nat) (s : State), s.cmdStatus a 4 = 0 → s.moveStatus a true = 0 → s.get (Obj.AxisMoveMode a) ≠ 3 →
    s.get (Obj.AxisState a) ≠ axStandby →
    ∃ t, exec (.moveAbsolute a) s = .next t ∧ t.resp = { status := 0 } ∧
      (t.axis a).req = some (.move (s.targetFrom a (s.axis a).sp true (s.get (Obj.AxisTargetPosition a)))) ∧
      (t.axis a).move = .target ∧ (t.axis a).byCommand = true ∧
      t.get (Obj.MoveRemaining a) =
        wrapS 64 (s.targetFrom a (s.axis a).sp true (s.get (Obj.AxisTargetPosition a)) - (s.axis a).sp)) ∧
  (∀ (a : Nat) (s : State), s.cmdStatus a 5 = 0 → s.moveStatus a false = 0 → s.get (Obj.AxisMoveMode a) ≠ 3 →
    s.get (Obj.AxisState a) ≠ axStandby →
    ∃ t, exec (.moveRelative a) s = .next t ∧ t.resp = { status := 0 } ∧
      (t.axis a).req = some (.move ((s.axis a).sp + s.get (Obj.AxisTargetPosition a))) ∧
      (t.axis a).move = .target ∧ t.get (Obj.MoveRemaining a) = wrapS 64 (s.get (Obj.AxisTargetPosition a))) ∧
  (∀ (a : Nat) (s : State), s.cmdStatus a 6 = 0 → s.latchedToward a (s.get (Obj.AxisTargetVelocity a)) = false →
    s.get (Obj.AxisState a) ≠ axStandby →
    ∃ t, exec (.velocityMove a) s = .next t ∧ t.resp = { status := 0 } ∧ t.get (Obj.AxisState a) = axMoving ∧
      (t.axis a).move = .velocity ∧ (t.axis a).req = some (.velocity (s.get (Obj.AxisTargetVelocity a)))) ∧
  (∀ (a : Nat) (s : State), s.cmdStatus a 7 = 0 → s.get (Obj.AxisState a) = axMoving → s.gangOf a = none →
    s.flag (Obj.AxisGraftEngaged a) = false →
    ∃ t, exec (.stop a) s = .next t ∧ t.resp = { status := 0 } ∧
      t.regs = (s.put (Obj.AxisState a) axStopping).regs ∧ (t.axis a).quick = false ∧
      (t.axis a).req = some (.stop (Obj.StopDeceleration a) true) ∧ (t.axis a).target = (s.axis a).target) ∧
  (∀ (a : Nat) (s : State), s.cmdStatus a 9 = 0 → s.get (Obj.AxisState a) = axMoving → s.gangOf a = none →
    s.flag (Obj.AxisGraftEngaged a) = false →
    ∃ t, exec (.quickStop a) s = .next t ∧ t.resp = { status := 0 } ∧
      t.regs = (s.put (Obj.AxisState a) axStopping).regs ∧ (t.axis a).quick = true ∧
      (t.axis a).req = some (.stop (Obj.QuickStopDeceleration a) true) ∧ (t.axis a).target = (s.axis a).target)

/-- Resume makes the axis Moving toward its kept target. Abandon of a Holding axis adds the remaining distance to MoveAbandoned
and clears it. Home answers 0x0402 where the method's input is missing, else makes a Holding axis Moving in the homing
procedure. A homing timeout records result 3, sets its bit and quick-stops the axis. (R110, R126, R127, R142, R143) -/
def Obligations.ResumeAbandonAndHome : Prop :=
  (∀ (a : Nat) (s : State), s.cmdStatus a 8 = 0 → s.latchedToward a ((s.axis a).target - (s.axis a).sp) = false →
    s.gangOf a = none →
    ∃ t, exec (.resume a) s = .next t ∧ t.resp = { status := 0 } ∧ t.regs = (s.put (Obj.AxisState a) axMoving).regs ∧
      (t.axis a).req = some .resume ∧ (t.axis a).target = (s.axis a).target ∧ (t.axis a).byCommand = true) ∧
  (∀ (a : Nat) (s : State), s.cmdStatus a 10 = 0 → s.get (Obj.AxisState a) = axHolding →
    exec (.abandon a) s = .next ((((s.addI64 (Obj.MoveAbandoned a) (s.get (Obj.MoveRemaining a))).put (Obj.MoveRemaining a) 0).setAxis a
      { s.axis a with move := .none }).done)) ∧
  (∀ (a : Nat) (s : State), s.cmdStatus a 11 = 0 → s.homeInputMissing a = true →
    exec (.home a) s = .next (s.reply 0x0402)) ∧
  (∀ (a : Nat) (s : State), s.cmdStatus a 11 = 0 → s.homeInputMissing a = false → s.get (Obj.AxisState a) = axHolding →
    s.latchedToward a (if (homeDirs (s.nat (Obj.HomingMethod a))).1 = 0 then (homeDirs (s.nat (Obj.HomingMethod a))).2.2
      else (homeDirs (s.nat (Obj.HomingMethod a))).1) = false →
    ∃ t, exec (.home a) s = .next t ∧ t.resp = { status := 0 } ∧ t.get (Obj.AxisState a) = axMoving ∧
      (t.axis a).home = { phase := 6 }) ∧
  (∀ (a : Nat) (s : State), (s.axis a).home.phase ≠ 0 → s.flagInUse (Obj.HomingTimeout a) = true →
    s.gangOf a = none → s.get (Obj.AxisState a) = axMoving →
    ∃ t, exec (.homingTimeout a) s = .next t ∧ t.get (Obj.HomingStatus a) = 3 ∧ t.bit (Obj.AxisStatus a) 1 = true ∧
      t.get (Obj.AxisState a) = axStopping ∧ (t.axis a).home = {} ∧
      (t.axis a).req = some (.stop (Obj.QuickStopDeceleration a) false))

/-- A velocity command's plan flushes the queued entries beyond the present edge, starts at the next edge and plans to the
speed. Standstill in mode 2 without a brake output brings Standby; in mode 1 nothing. The engage delay's end brings the rest
state that waited, Disabled or Standby. The release delay's end ends its wait. (R123, R129, R131) -/
def Obligations.PlansBrakesAndStandstill : Prop :=
  (∀ (a : Nat) (v : Int) (s : State), (s.axis a).byCommand = true → (s.axis a).closed = true → (s.axis a).closing = false →
    (s.axis a).req = some (.velocity v) →
    exec (.planStart a) s = .next ((((s.flushBeyond a s.tick).setAxis a
      { (s.flushBeyond a s.tick).axis a with req := none, byCommand := false }).put (Obj.MoveStartEdge a)
        (((s.flushBeyond a s.tick).setAxis a
          { (s.flushBeyond a s.tick).axis a with req := none, byCommand := false }).tick + 1 : Nat)).planVel a v)) ∧
  (∀ (a : Nat) (s : State), s.atStandstill a = true → (s.axis a).engageTo = 0 → s.natInUse (Obj.StandstillMode a) = 2 →
    s.get (Obj.BrakeOutput a) = 0xFF →
    ∃ t, exec (.standstill a) s = .next t ∧ t = s.enterRest a 1 ∧ t.get (Obj.AxisState a) = axStandby) ∧
  (∀ (a : Nat) (s : State), s.atStandstill a = true → s.natInUse (Obj.StandstillMode a) = 1 →
    exec (.standstill a) s = .next s) ∧
  (∀ (a : Nat) (s : State), (s.axis a).engageTo = 2 →
    ∃ t, exec (.brakeEngageDelayExpiry a) s = .next t ∧ t = s.enterRest a 2 ∧ t.get (Obj.AxisState a) = axDisabled) ∧
  (∀ (a : Nat) (s : State), (s.axis a).engageTo = 1 →
    ∃ t, exec (.brakeEngageDelayExpiry a) s = .next t ∧ t = s.enterRest a 1 ∧ t.get (Obj.AxisState a) = axStandby) ∧
  (∀ (a : Nat) (s : State), exec (.brakeReleaseDelayExpiry a) s = .next (s.setAxis a { s.axis a with releaseWait := false }))

/-- A request of value 1 counts and, where the group is idle, starts a ramp two edges ahead; in a ramp it only counts; another
value answers 0x0301. The start edge takes the least limits of the own and the published ones, brings state 1 with its start
edge and duration by R134; BIND_OFF_END ends the ramp from its last edge on and does nothing before. A device that joins
late takes the group's start edge, from the next edge on; one whose ramp runs ignores the join. (R132, R133, R134, R135,
R136) -/
def Obligations.BindOffGroups : Prop :=
  (∀ (b : Nat) (s : State), b < 16 → (s.bind b).phase ≠ 0 →
    exec (.bindOffRequest b 1) s = .next ((s.count (Obj.BindOffRequests b) 32 1).done)) ∧
  (∀ (b : Nat) (s : State), b < 16 → (s.bind b).phase = 0 →
    ∃ t, exec (.bindOffRequest b 1) s = .next t ∧ t.resp = { status := 0 } ∧ (t.bind b).phase = 1 ∧
      (t.bind b).start = s.tick + 2 ∧ t.get (Obj.BindOffRequests b) = (s.get (Obj.BindOffRequests b) + 1) % 4294967296) ∧
  (∀ (b value : Nat) (s : State), b < 16 → value ≠ 1 → exec (.bindOffRequest b value) s = .next (s.reply 0x0301)) ∧
  (∀ (b r q : Nat) (published : List (Nat × Nat)) (s : State), b < 16 → (s.bind b).phase = 1 → (s.bind b).start ≤ s.tick →
    r = published.foldl (fun m p => min m p.1) (s.bind b).r → q = published.foldl (fun m p => min m p.2) (s.bind b).q →
    r ≠ none32 →
    ∃ t, exec (.bindOffRampStart b published) s = .next t ∧ (t.bind b).phase = 2 ∧ t.get (Obj.BindOffState b) = 1 ∧
      (t.bind b).r = r ∧ (t.bind b).q = q ∧ t.get (Obj.BindOffStartEdge b) = (s.bind b).start ∧
      t.get (Obj.BindOffDuration b) = curveTicks s.tNs r q) ∧
  (∀ (b : Nat) (s : State), (s.bind b).phase = 2 → (s.bind b).start + (s.bind b).tb ≤ s.tick →
    ∃ t, exec (.bindOffEnd b) s = .next t ∧ (t.bind b).phase = 0 ∧ t.get (Obj.BindOffState b) = 0) ∧
  (∀ (b : Nat) (s : State), (s.bind b).phase = 2 → s.tick < (s.bind b).start + (s.bind b).tb →
    exec (.bindOffEnd b) s = .next s) ∧
  (∀ (b start r q : Nat) (s : State), b < 16 → (s.bind b).phase ≠ 2 →
    ∃ t, exec (.bindOffJoinLate b start r q) s = .next t ∧ (t.bind b).phase = 2 ∧ (t.bind b).joined = s.tick + 1 ∧
      (t.bind b).start = start ∧ t.get (Obj.BindOffStartEdge b) = start) ∧
  (∀ (b start r q : Nat) (s : State), (s.bind b).phase = 2 → exec (.bindOffJoinLate b start r q) s = .next s)

/-- Outside Run a start answers 0x0701; with elements whose arcs are sound, Holding members and a plan that fits, it brings
state 1 at scale 1. Stop of a running path lowers the scale from the next edge (state 2) and answers 0x0703 otherwise;
resume of a stopped one raises it again; abandon of a path that runs or is stopped returns it to its start values at scale
1, and of an idle one changes nothing. The plan itself is the model's (log entry 58), and a stopped path keeps its members
Moving (log entry 59). (R137, R138, R139, R115) -/
def Obligations.PathCommands : Prop :=
  (∀ (p : Nat) (s : State), p < 8 → s.get Obj.DeviceState ≠ devRun → exec (.pathStart p) s = .next (s.reply 0x0701)) ∧
  (∀ (p : Nat) (s : State), p < 8 → s.get Obj.DeviceState = devRun → s.nat (Obj.PathElementCount p) ≠ 0 →
    (s.pathMembers p) ≠ [] → (∀ x ∈ s.pathMembers p, s.get (Obj.AxisState x.2) = axHolding) →
    (let elems := (List.range (s.nat (Obj.PathElementCount p))).map (s.pathElem p)
     let start : List ℚ := (List.range 6).map fun i => match (s.pathMembers p).lookup i with
       | some a => ((s.axis a).sp : ℚ)
       | none => 0
     anyArcBad (s.nat (Obj.PathArcTolerance p)) elems start = false ∧
     ∀ x ∈ s.pathMembers p, ((s.pathRuns p (s.pathMembers p) 1025
       (pathPieces (s.nat (Obj.PathArcTolerance p)) elems start [] 0)).map (memberSegs s.tNs x.1)).flatten.length ≤ 4096) →
    ∃ t, exec (.pathStart p) s = .next t ∧ t.resp = { status := 0 } ∧ t.get (Obj.PathState p) = 1 ∧
      t.get (Obj.PathScale p) = 1073741824 ∧ t.path p = {}) ∧
  (∀ (p : Nat) (s : State), p < 8 → s.get (Obj.PathState p) = 1 →
    ∃ t, exec (.pathStop p) s = .next t ∧ t.resp = { status := 0 } ∧ t.get (Obj.PathState p) = 2 ∧
      (t.path p).falling = true ∧ (t.path p).ramping = true ∧ (t.path p).start = s.tick + 1) ∧
  (∀ (p : Nat) (s : State), p < 8 → s.get (Obj.PathState p) ≠ 1 → exec (.pathStop p) s = .next (s.reply 0x0703)) ∧
  (∀ (p : Nat) (s : State), p < 8 → s.get (Obj.PathState p) = 3 → s.get Obj.DeviceState = devRun →
    ∃ t, exec (.pathResume p) s = .next t ∧ t.resp = { status := 0 } ∧ t.get (Obj.PathState p) = 1 ∧
      (t.path p).falling = false ∧ (t.path p).ramping = true ∧ (t.path p).start = s.tick + 1) ∧
  (∀ (p : Nat) (s : State), p < 8 → (s.get (Obj.PathState p) = 1 ∨ s.get (Obj.PathState p) = 2 ∨ s.get (Obj.PathState p) = 3) →
    s.pathMembers p = [] →
    exec (.pathAbandon p) s = .next ((((s.put (Obj.PathState p) 0).setPath p {}).put (Obj.PathScale p) 1073741824).done)) ∧
  (∀ (p : Nat) (s : State), p < 8 → (s.get (Obj.PathState p) = 1 ∨ s.get (Obj.PathState p) = 2 ∨ s.get (Obj.PathState p) = 3) →
    ∃ t, exec (.pathAbandon p) s = .next t ∧ t.resp = { status := 0 } ∧ t.path p = {} ∧ t.get (Obj.PathScale p) = 1073741824) ∧
  (∀ (p : Nat) (s : State), p < 8 → s.get (Obj.PathState p) = 0 → exec (.pathAbandon p) s = .next s.done)

/-- Losses of remote masters come first (R158). Then engage of a disabled follower answers 0x0703; a Holding follower of a
kind-4 graft with a clutch in mode 1 starts engaging at once (state 2, Moving, output from its own state); engaged or
engaging it answers 0. Disengage of an engaged clutch runs it back (state 4), without a clutch distance it detaches at once
(log entry 64), and in state 0 it answers 0. A remote master whose samples stay away longer than RemoteLossCycles allows
becomes state 3, detaches its followers, sets the bit and raises the fault; one that is not late stays as it is. (R154,
R155, R156, R157, R158, R163) -/
def Obligations.GraftsEngageAndDisengage : Prop :=
  (∀ (k : Nat) (s u : State), u = s.lossesFirst k → k < 128 → u.nat (Obj.GraftFollower k) < 64 → u.get (Obj.GraftState k) = 0 →
    u.get Obj.DeviceState = devRun → u.get (Obj.AxisState (u.nat (Obj.GraftFollower k))) = axDisabled →
    exec (.graftEngage k) s = .next (u.reply 0x0703)) ∧
  (∀ (k a : Nat) (s u : State), u = s.lossesFirst k → k < 128 → u.nat (Obj.GraftFollower k) = a → a < 64 →
    u.get (Obj.GraftState k) = 0 → u.get Obj.DeviceState = devRun → u.get (Obj.AxisState a) = axHolding →
    u.chainAbsent k = false → u.get (Obj.GraftKind k) = 4 → u.get (Obj.ClutchDistance k) ≠ 0 →
    u.get (Obj.ClutchEngageMode k) = 1 → (∀ g ∈ u.chainOf 128 k, g < 128) →
    ∃ t, exec (.graftEngage k) s = .next t ∧ t.resp = { status := 0 } ∧ t.get (Obj.GraftState k) = 2 ∧
      t.get (Obj.AxisState a) = axMoving ∧ t.get (Obj.AxisGraftEngaged a) = 1 ∧ (t.graft k).u = 0 ∧
      (t.graft k).po = (u.ownState a).1) ∧
  (∀ (k : Nat) (s u : State), u = s.lossesFirst k → k < 128 → u.nat (Obj.GraftFollower k) < 64 → u.get (Obj.GraftState k) ≠ 0 →
    exec (.graftEngage k) s = .next u.done) ∧
  (∀ (k a : Nat) (s u : State), u = s.lossesFirst k → k < 128 → u.nat (Obj.GraftFollower k) = a → a < 64 →
    u.get (Obj.GraftState k) = 3 → u.get (Obj.ClutchDistance k) ≠ 0 →
    exec (.graftDisengage k) s = .next
      ((((u.setGraft k { u.graft k with u := 0, w0 := 1073741824, own := (u.graft k).po, raw := (u.graft k).po }).put
        (Obj.GraftState k) 4).ownFromChain a).done)) ∧
  (∀ (k a : Nat) (s u : State), u = s.lossesFirst k → k < 128 → u.nat (Obj.GraftFollower k) = a → a < 64 →
    u.get (Obj.GraftState k) = 3 → u.get (Obj.ClutchDistance k) = 0 →
    exec (.graftDisengage k) s = .next (u.graftDetach a).done) ∧
  (∀ (k : Nat) (s u : State), u = s.lossesFirst k → k < 128 → u.nat (Obj.GraftFollower k) < 64 → u.get (Obj.GraftState k) = 0 →
    exec (.graftDisengage k) s = .next u.done) ∧
  (∀ (k : Nat) (s : State), s.masterLate k = true →
    exec (.remoteMasterLost k) s = .next
      ((((s.put (Obj.RemoteMasterState k) 3).each ((s.put (Obj.RemoteMasterState k) 3).followersOf k) State.graftDetach).setBit
        (Obj.GraftStatus k) 2).raiseOnce fkMasterLost k)) ∧
  (∀ (k : Nat) (s : State), s.masterLate k = false → exec (.remoteMasterLost k) s = .next s)

/-- A start away from the home device answers 0x0701. Transitions that are due come before a command (R179): then converging or
regulating it answers 0; from suspended with its conditions met it goes to converging with its run counts at 0; from off
with its conditions met it goes to converging with trims, integrals and the state estimate at 0. A release from converging,
regulating or suspended goes to releasing. Runs of settled, diverged, stale and out-of-range ticks beyond their limits bring
regulating, suspended with its bit, suspended with its fault, and the range fault with its bit. (R172, R175, R177, R179,
R181) -/
def Obligations.SpanGroupsChangeState : Prop :=
  (∀ (g : Nat) (s : State), g < 8 → s.spanHome g = false → exec (.spanStart g) s = .next (s.reply 0x0701)) ∧
  (∀ (g : Nat) (s u : State), u = s.spanDue g → g < 8 → s.spanHome g = true →
    (u.get (Obj.SpanState g) = 1 ∨ u.get (Obj.SpanState g) = 2) →
    exec (.spanStart g) s = .next u.done) ∧
  (∀ (g : Nat) (s u : State), u = s.spanDue g → g < 8 → s.spanHome g = true → u.get (Obj.SpanState g) = 3 →
    u.spanStartStatus g = 0 →
    exec (.spanStart g) s = .next
      (((u.setSpan g { u.span g with settleRun := 0, divergeRun := 0, staleRun := 0, rangeRun := [] }).put
        (Obj.SpanState g) 1).done)) ∧
  (∀ (g : Nat) (s u : State), u = s.spanDue g → g < 8 → s.spanHome g = true → u.get (Obj.SpanState g) = 0 →
    u.spanStartStatus g = 0 →
    ∃ t, exec (.spanStart g) s = .next t ∧ t.resp = { status := 0 } ∧ t.get (Obj.SpanState g) = 1 ∧
      (∀ i, i < 8 → t.get (Obj.SpanTrimPosition g i) = 0 ∧ t.get (Obj.SpanTrimVelocity g i) = 0 ∧
        t.get (Obj.SpanIntegral g i) = 0) ∧ (∀ k, k < 16 → t.get (Obj.SpanStateEstimate g k) = 0) ∧ (t.span g).carry = []) ∧
  (∀ (g : Nat) (s u : State), u = s.spanDue g → g < 8 → s.spanHome g = true →
    (u.get (Obj.SpanState g) = 1 ∨ u.get (Obj.SpanState g) = 2 ∨ u.get (Obj.SpanState g) = 3) →
    exec (.spanRelease g) s = .next ((u.put (Obj.SpanState g) 4).done)) ∧
  (∀ (g : Nat) (s : State), s.get (Obj.SpanState g) = 1 → s.natInUse (Obj.SpanSettleTicks g) < (s.span g).settleRun →
    exec (.spanSettled g) s = .next (s.put (Obj.SpanState g) 2)) ∧
  (∀ (g : Nat) (s : State), s.get (Obj.SpanState g) = 2 → s.natInUse (Obj.SpanSettleTicks g) < (s.span g).divergeRun →
    exec (.spanObserverDiverged g) s = .next ((s.put (Obj.SpanState g) 3).setBit (Obj.SpanStatus g) 2)) ∧
  (∀ (g j n : Nat) (s : State), (s.span g).rangeRun.lookup j = some n → s.natInUse (Obj.SpanRangeTicks g) < n →
    exec (.spanTensionOutOfRange g j) s = .next ((s.setBit (Obj.SpanStatus g) 4).raiseOnce fkSpanRange g)) ∧
  (∀ (g : Nat) (s : State), s.natInUse (Obj.SpanStaleLimit g) < (s.span g).staleRun →
    (s.get (Obj.SpanState g) = 1 ∨ s.get (Obj.SpanState g) = 2) →
    exec (.spanDataStale g) s = .next ((s.put (Obj.SpanState g) 3).raiseOnce fkSpanStale g))

/-- A write inside the bank in use answers 0x0501. A write into the other bank of bytes whose reserved bytes are 0 and whose
shifts are in range stores exactly them and leaves every other byte of memory and all registers; other bytes answer 0x0301
(log entry 137). A selection of a valid bank is taken; an unknown or invalid one answers 0x0301. (R169, R170, R171) -/
def Obligations.SpanBanks : Prop :=
  (∀ (g b off : Nat) (data : List Byte) (s : State), g < 8 → b < 2 → off + data.length ≤ 4408 →
    s.get (Obj.SpanActiveBank g) = b →
    exec (.spanBankWrite g b off data) s = .next (s.reply 0x0501)) ∧
  (∀ (g b off : Nat) (data : List Byte) (s : State), g < 8 → b < 2 → off + data.length ≤ 4408 →
    s.nat (Obj.SpanActiveBank g) ≠ b → s.spanBytesOk g off data = true →
    ∃ t, exec (.spanBankWrite g b off data) s = .next t ∧ t.resp = { status := 0 } ∧ t.regs = s.regs ∧
      (∀ x, x < domAddr (spanBankKey g b) off ∨ domAddr (spanBankKey g b) off + data.length ≤ x →
        Memory.read t.mem x = Memory.read s.mem x) ∧
      (∀ i v, data[i]? = some v → Memory.read t.mem (domAddr (spanBankKey g b) off + i) = v)) ∧
  (∀ (g b off : Nat) (data : List Byte) (s : State), g < 8 → b < 2 → off + data.length ≤ 4408 →
    s.nat (Obj.SpanActiveBank g) ≠ b → s.spanBytesOk g off data = false →
    exec (.spanBankWrite g b off data) s = .next (s.reply 0x0301)) ∧
  (∀ (g value : Nat) (s : State), g < 8 → value < 2 → s.spanBankValid g value = true →
    exec (.spanBankSelect g value) s = .next ((s.put (Obj.SpanBankSelect g) value).done)) ∧
  (∀ (g value : Nat) (s : State), g < 8 → (2 ≤ value ∨ s.spanBankValid g value = false) →
    exec (.spanBankSelect g value) s = .next (s.reply 0x0301))

/-- A run of ticks beyond FollowingErrorTicks sets the bit and raises the fault once; a shorter run does nothing. A status
record of a network axis for the present tick is taken with its drive state, position, velocity, torque and degraded mark,
and counts as accepted; a plant record for another tick (but the last one's in an open window) counts as late and sets
RowStatus bit 7. A record for an axis that is not a network axis does nothing. A run of missing records beyond
NetAxisStatusLossCount raises its fault once, a shorter run nothing. (R194, R198, R199, R200) -/
def Obligations.FollowingAndNetworkAxes : Prop :=
  (∀ (a : Nat) (s : State), s.natInUse (Obj.FollowingErrorTicks a) < (s.axis a).followRun →
    exec (.followingError a) s = .next ((s.setBit (Obj.LoopStatus a) 7).raiseOnce fkFollowing a)) ∧
  (∀ (a : Nat) (s : State), (s.axis a).followRun ≤ s.natInUse (Obj.FollowingErrorTicks a) →
    exec (.followingError a) s = .next s) ∧
  (∀ (a drive flags : Nat) (p v t : Int) (s : State), 16 ≤ a → a < 64 → s.flag (Obj.NetAxisKind a) = true → drive ≤ 2 →
    bitAt flags 0 = false → bitAt flags 2 = false → bitAt flags 4 = false →
    s.faultActive fkNetDrive a = false → s.faultActive fkNetFeedback a = false →
    exec (.netStatusRecord a s.tick drive flags p v t) s = .next
      ((((s.inputCount Obj.SumInputFrameAccepted).put (Obj.NetAxisDriveState a) drive).setBitIf (bitAt flags 1)
        (Obj.LoopStatus a) 1).setAxis a { s.axis a with netRec := some (some (p, v), t), netDegraded := bitAt flags 1 })) ∧
  (∀ (a drive flags : Nat) (p v t : Int) (s : State), 16 ≤ a → a < 64 → s.flag (Obj.NetAxisKind a) = true →
    ∃ u, exec (.netStatusRecord a s.tick drive flags p v t) s = .next u ∧ (u.axis a).netDegraded = bitAt flags 1 ∧
      (u.axis a).netRec = some (if bitAt flags 2 then none else some (p, v), t)) ∧
  (∀ (a stamp drive flags : Nat) (p v t : Int) (s : State), 16 ≤ a → a < 64 → s.flag (Obj.NetAxisKind a) = true →
    stamp ≠ s.tick → (stamp + 1 ≠ s.tick ∨ s.row.window = false) → s.get (Obj.NetAxisPath a) ≠ 1 →
    exec (.netStatusRecord a stamp drive flags p v t) s = .next ((s.inputCount Obj.SumInputFrameLate).setBit Obj.RowStatus 7)) ∧
  (∀ (a stamp drive flags : Nat) (p v t : Int) (s : State), s.flag (Obj.NetAxisKind a) = false →
    exec (.netStatusRecord a stamp drive flags p v t) s = .next s) ∧
  (∀ (a : Nat) (s : State), s.natInUse (Obj.NetAxisStatusLossCount a) < (s.axis a).netLateRun →
    exec (.netAxisLost a) s = .next (s.raiseOnce fkNetLost a)) ∧
  (∀ (a : Nat) (s : State), (s.axis a).netLateRun ≤ s.natInUse (Obj.NetAxisStatusLossCount a) →
    exec (.netAxisLost a) s = .next s)

/-- On a type-1 channel without an interval filter, an edge of A counts one up and its ledger terms; edges of A and B at once
count nothing, mark the position uncertain, count as rejected and set their bits. With an interval filter a changed line
waits as a pending edge with its sample and time, and no register changes. An edge that reaches an armed compare entry with
its direction fires it at the edge's time. An index pulse in mode 0 latches count and time (and marks an overwritten one);
in mode 1 it also sets the count to FbIndexValue and clears the uncertainty. (Index with no pending edge, no gate and no
homing that waits.) (R205, R206, R207, R213, R215, R221, R226, R227) -/
def Obligations.EncoderEdgesCount : Prop :=
  (∀ (c at8 : Nat) (s : State), c < 16 → s.oldVals = [] → s.get (Obj.FbType c) = 1 → s.get (Obj.FbMinEdgeInterval c) = 0 →
    (s.fb c).pend = none → (s.fb c).lines = 0 → s.emuOutputs c = [] →
    ∃ t, exec (.encoderEdge c at8 1) s = .next t ∧ (t.fb c).lines = 1 ∧
      (t.fb c).count = wrapS 64 ((s.fb c).count + 1) ∧
      t.get (Obj.FbEdges c) = wrapU 64 (s.get (Obj.FbEdges c) + 1) ∧ t.get (Obj.FbUp c) = wrapU 64 (s.get (Obj.FbUp c) + 1) ∧
      t.get (Obj.FbDown c) = s.get (Obj.FbDown c) ∧ t.get (Obj.FbRejected c) = s.get (Obj.FbRejected c)) ∧
  (∀ (c at8 : Nat) (s : State), c < 16 → s.oldVals = [] → s.get (Obj.FbType c) = 1 → s.get (Obj.FbMinEdgeInterval c) = 0 →
    (s.fb c).pend = none → (s.fb c).lines = 0 →
    ∃ t, exec (.encoderEdge c at8 3) s = .next t ∧ (t.fb c).lines = 3 ∧ (t.fb c).count = (s.fb c).count ∧
      (t.fb c).uncertain = true ∧ t.get (Obj.FbEdges c) = wrapU 64 (s.get (Obj.FbEdges c) + 1) ∧
      t.get (Obj.FbRejected c) = wrapU 64 (s.get (Obj.FbRejected c) + 1) ∧ t.bit (Obj.FbStatus c) 1 = true ∧
      t.bit (Obj.FbStatus c) 0 = true) ∧
  (∀ (c at8 lines : Nat) (s : State), c < 16 → s.oldVals = [] → s.get (Obj.FbType c) = 1 → 0 < s.get (Obj.FbMinEdgeInterval c) →
    (s.fb c).pend = none → (s.fb c).dirTime = none → (s.fb c).lines % 4 ≠ lines % 4 →
    ∃ t, exec (.encoderEdge c at8 lines) s = .next t ∧ t.regs = s.regs ∧ (t.fb c).count = (s.fb c).count ∧
      (t.fb c).pend = some { sample := at8, time := s.time16 at8, old := (s.fb c).lines, new := lines, lines := lines,
                             bad := false, tooSoon := false }) ∧
  (∀ (c u at8 : Nat) (e : CmpEntry) (s : State), c < 16 → u < 8 → s.oldVals = [] → s.get (Obj.FbType c) = 1 →
    s.get (Obj.FbMinEdgeInterval c) = 0 → (s.fb c).pend = none → (s.fb c).lines = 0 → s.cmpUnits c = [u] →
    s.emuOutputs c = [] → s.get (Obj.CmpEnable u) = 1 → s.get (Obj.CmpCycleLength u) = 0 → (s.cmp u).armed = true →
    (s.cmp u).list = [e] → e.pos = wrapS 64 ((s.fb c).count + 1) → e.dir = 1 → e.action = 1 →
    ∃ t, exec (.encoderEdge c at8 1) s = .next t ∧ (t.cmp u).level = true ∧ (t.cmp u).list = [] ∧
      t.get (Obj.CmpFired u) = wrapU 64 (s.get (Obj.CmpFired u) + 1) ∧
      t.get (Obj.CmpLastFireTime u) = (s.time16 at8 / 65536 : Nat) ∧ t.get (Obj.CmpOccupancy u) = 0) ∧
  (∀ (c at8 : Nat) (s : State), c < 16 → s.oldVals = [] → (s.fb c).pend = none → s.homeWaits c = [] →
    1 ≤ s.get (Obj.FbType c) → s.get (Obj.FbType c) ≤ 3 → s.get (Obj.FbIndexMode c) = 0 → s.get (Obj.FbIndexGate c) = 0xFF →
    exec (.indexPulse c at8 true) s = .next
      ((((s.setBitIf (s.fb c).indexUnread (Obj.FbStatus c) 5).put (Obj.FbIndexLatchCount c) (s.fb c).count).put
        (Obj.FbIndexLatchTime c) (s.time16 at8 / 65536 : Nat)).setFb c { s.fb c with indexUnread := true })) ∧
  (∀ (c at8 : Nat) (s : State), c < 16 → s.oldVals = [] → (s.fb c).pend = none → s.homeWaits c = [] →
    1 ≤ s.get (Obj.FbType c) → s.get (Obj.FbType c) ≤ 3 → s.get (Obj.FbIndexMode c) = 1 → s.get (Obj.FbIndexGate c) = 0xFF →
    ∃ t, exec (.indexPulse c at8 true) s = .next t ∧ (t.fb c).count = s.get (Obj.FbIndexValue c) ∧
      t.get (Obj.FbIndexLatchCount c) = (s.fb c).count ∧ t.get (Obj.FbIndexLatchTime c) = (s.time16 at8 / 65536 : Nat) ∧
      (t.fb c).uncertain = false)

/-- A frame with an error sets its bit, counts an edge and a rejection and keeps the count. The first good frame of a type-5
channel of any position width takes its word as the count; a later one adds the signed difference of the words modulo 2 to
the width and counts its magnitude (line delay up to 5,000 ns, 2,000 units of 2.5 ns). A line fault sets its state and its
bit and starts the loss of feedback (at once: log entry 76); its end clears the state only. (R208, R210, R211, R222, R223,
R225) -/
def Obligations.SsiFramesAndLines : Prop :=
  (∀ (c word delay : Nat) (low : Bool) (s : State), c < 16 → s.oldVals = [] →
    exec (.ssiFrameComplete c word delay false low) s = .next
      (((((s.setBit (Obj.FbStatus c) 3).count (Obj.FbEdges c) 64 1).count (Obj.FbRejected c) 64 1).setFb c
        { s.fb c with ssiErrors := (s.fb c).ssiErrors + 1
                      ssiCounts := ((s.fb c).count :: (s.fb c).ssiCounts).take 65 }).ssiStale c)) ∧
  (∀ (c word delay w : Nat) (s : State), c < 16 → s.oldVals = [] → s.get (Obj.FbType c) = 5 →
    s.get (Obj.SsiPositionShift c) = 0 → s.nat (Obj.SsiPositionBits c) = w → word < 2 ^ w → delay ≤ 2000 →
    (s.fb c).ssiPrev = none →
    ∃ t, exec (.ssiFrameComplete c word delay true false) s = .next t ∧ (t.fb c).count = word ∧
      t.get (Obj.FbCount c) = word ∧ t.get (Obj.FbStartCount c) = word ∧ (t.fb c).ssiPrev = some word ∧
      (t.fb c).ssiErrors = 0) ∧
  (∀ (c word delay w p : Nat) (s : State), c < 16 → s.oldVals = [] → s.get (Obj.FbType c) = 5 →
    s.get (Obj.SsiPositionShift c) = 0 → s.nat (Obj.SsiPositionBits c) = w → word < 2 ^ w → delay ≤ 2000 →
    (s.fb c).ssiPrev = some p → s.get (Obj.SsiMaxStep c) = 0 →
    ∃ t, exec (.ssiFrameComplete c word delay true false) s = .next t ∧
      (t.fb c).count = wrapS 64 ((s.fb c).count + wrapS w ((word : Int) - p)) ∧ (t.fb c).ssiPrev = some word ∧
      t.get (Obj.FbEdges c) = wrapU 64 (s.get (Obj.FbEdges c) + (wrapS w ((word : Int) - p)).natAbs)) ∧
  (∀ (c : Nat) (s : State),
    exec (.lineFault c false) s = .next ((s.setFb c { s.fb c with fault := false }).clrBit (Obj.FbState c) 2)) ∧
  (∀ (c : Nat) (s : State), exec (.lineFault c true) s = .next
    ((((s.setFb c { s.fb c with fault := true }).setBit (Obj.FbState c) 2).setBit (Obj.FbStatus c) 2).fbLoss c))

/-- Arming in index mode 2 sets the state bit and answers 0, and in modes 0 and 1 answers 0x0703; disarming clears it; a preset
waits for its edge, and there the channel takes FbCountPreset as count; without one waiting PRESET_APPLY does nothing. A
write of 1, 2 or 3 to FbCommand does what the three commands do; 0 and values above 3 answer 0x0301. (R214, R215) -/
def Obligations.FeedbackCommands : Prop :=
  (∀ (c : Nat) (s : State), s.get (Obj.FbIndexMode c) = 2 →
    exec (.armIndex c) s = .next ((s.setBit (Obj.FbState c) 1).done)) ∧
  (∀ (c : Nat) (s : State), s.get (Obj.FbIndexMode c) = 0 ∨ s.get (Obj.FbIndexMode c) = 1 →
    exec (.armIndex c) s = .next (s.reply 0x0703)) ∧
  (∀ (c : Nat) (s : State), exec (.disarmIndex c) s = .next ((s.clrBit (Obj.FbState c) 1).done)) ∧
  (∀ (c : Nat) (s : State), exec (.preset c) s = .next ((s.setFb c { s.fb c with presetDue := true }).done)) ∧
  (∀ (c : Nat) (s : State), c < 16 → (s.fb c).presetDue = true →
    ∃ t, exec (.presetApply c) s = .next t ∧ (t.fb c).presetDue = false ∧ t.get (Obj.FbCount c) = s.get (Obj.FbCountPreset c) ∧
      (t.fb c).count = s.get (Obj.FbCountPreset c)) ∧
  (∀ (c : Nat) (s : State), (s.fb c).presetDue = false → exec (.presetApply c) s = .next s) ∧
  (∀ (n c : Nat) (s : State), s.sessionOk n = true → s.power.recovery = false → c < 16 →
    exec (.dictionaryWrite n (0x4000 + c * 0x20) 7 0 [1]) s = exec (.armIndex c) s ∧
    exec (.dictionaryWrite n (0x4000 + c * 0x20) 7 0 [2]) s = exec (.disarmIndex c) s ∧
    exec (.dictionaryWrite n (0x4000 + c * 0x20) 7 0 [3]) s = exec (.preset c) s) ∧
  (∀ (n c b : Nat) (s : State), s.sessionOk n = true → s.power.recovery = false → c < 16 → b < 256 → (b = 0 ∨ 3 < b) →
    exec (.dictionaryWrite n (0x4000 + c * 0x20) 7 0 [(b : Byte)]) s = .next (s.reply 0x0301))

/-- The end of a pulse lowers an enabled unit's output; without a pulse nothing happens. An append first delivers the channel's
edges that are due; then a good entry with room is added and counted armed, with 4,096 entries it answers 0x0501, and a bad
entry its own status. A cancel of all empties the list and counts the entries. An emulation first delivers what is due to
it; then one that owes steps and has a rate makes one, with A by the two low bits of the emitted count; else nothing more
happens. (R226, R229, R230, R231, R233) -/
def Obligations.CompareAndEmulation : Prop :=
  (∀ (u : Nat) (s : State), s.oldVals = [] → (s.cmp u).pulses ≠ 0 →
    exec (.comparePulseEnd u) s = .next
      (s.setCmp u { s.cmp u with pulses := (s.cmp u).pulses - 1
                                 level := !s.flag (Obj.CmpEnable u) && s.flag (Obj.CmpIdleLevel u) })) ∧
  (∀ (u : Nat) (s : State), s.oldVals = [] → (s.cmp u).pulses = 0 → exec (.comparePulseEnd u) s = .next s) ∧
  (∀ (u : Nat) (data : List Byte) (s w : State), u < 8 → s.oldVals = [] → w = s.fbFlushNow (s.nat (Obj.CmpChannel u)) →
    cmpEntryStatus data = 0 → (w.cmp u).list.length < 4096 → w.get (Obj.CmpEnable u) = 0 →
    exec (.cmpAppend u data) s = .next
      (((w.setCmp u { w.cmp u with list := (w.cmp u).list ++ [cmpEntryOf data] }).count (Obj.CmpArmed u) 64 1 |>.put
        (Obj.CmpOccupancy u) ((w.cmp u).list.length + 1 : Nat)).done)) ∧
  (∀ (u : Nat) (data : List Byte) (s w : State), u < 8 → s.oldVals = [] → w = s.fbFlushNow (s.nat (Obj.CmpChannel u)) →
    cmpEntryStatus data = 0 → 4096 ≤ (w.cmp u).list.length → exec (.cmpAppend u data) s = .next (w.reply 0x0501)) ∧
  (∀ (u : Nat) (data : List Byte) (s : State), u < 8 → s.oldVals = [] → cmpEntryStatus data ≠ 0 →
    exec (.cmpAppend u data) s = .next ((s.fbFlushNow (s.nat (Obj.CmpChannel u))).reply (cmpEntryStatus data))) ∧
  (∀ (u : Nat) (s : State),
    exec (.cmpCancelAll u) s = .next ((((s.setCmp u { s.cmp u with list := [], armed := false }).count (Obj.CmpCancelled u) 64
      ((s.cmp u).list.length : Nat)).put (Obj.CmpOccupancy u) 0).done)) ∧
  (∀ (e : Nat) (s w : State), e < 4 → s.oldVals = [] → w = s.emuDeliver (s.emuDue e) e → 0 < w.get (Obj.EmuDelayed e) →
    w.get (Obj.EmuMaxEdgeRate e) ≠ 0 →
    ∃ t, exec (.emulationStep e) s = .next t ∧ t.get (Obj.EmuDelayed e) = w.get (Obj.EmuDelayed e) - 1 ∧
      t.get (Obj.EmuEmitted e) = wrapS 64 (w.get (Obj.EmuEmitted e) + 1) ∧
      (t.emu e).a = decide ((wrapS 64 (w.get (Obj.EmuEmitted e) + 1)) % 4 = 1 ∨ (wrapS 64 (w.get (Obj.EmuEmitted e) + 1)) % 4 = 2)) ∧
  (∀ (e : Nat) (s w : State), s.oldVals = [] → w = s.emuDeliver (s.emuDue e) e →
    (w.get (Obj.EmuDelayed e) = 0 ∨ w.get (Obj.EmuMaxEdgeRate e) = 0) →
    exec (.emulationStep e) s = .next w)

/-- With the stage off and its sources constant, the computation answers zero voltages and integrators, the nominal link voltage
and the next number; on every stage without an estimator it takes its time, number, link voltage and the Park currents of
its inputs. A lost modulator input is recorded, sets the bit of the stage that uses it and raises its fault once; its return
forgets it. A fast comparator counts its run of values beyond the limits, acts as its trip input beyond FastCount, does
nothing at or below it and counts 0 while disabled. A general input beyond its limit with action 2 raises its fault, with
action 1 acts as trip input 2, and within it clears the fault's activity. A finished conversion stores the scaled voltage.
Comparator changes inside the blanking are counted, equal levels do nothing, others are recorded with the last eight of
their phase, and outside six-step also as crossings. (R236, R237, R239, R240, R248, R256, R258, R260, R261, R262) -/
def Obligations.CurrentSensingAndTheFieldPipeline : Prop :=
  (∀ (a time : Nat) (raw : List Int) (dc : Int) (est : EstSample) (s : State), a < 16 → s.oldVals = [] →
    s.estimates a = false → (s.pwm a).off = true → s.get (Obj.DcLinkSource a) = 0xFF → s.get (Obj.CurSumLimit a) = 0 →
    s.get (Obj.CastOnState a) ≠ 4 → s.get (Obj.PvsScan a) = 0 → s.dcOutside a (s.get (Obj.DcLinkNominal a)) = false →
    ∃ t, exec (.focComputation a time raw dc est) s = .next t ∧ (t.foc a).vd = 0 ∧ (t.foc a).vq = 0 ∧ (t.foc a).ad = 0 ∧
      (t.foc a).aq = 0 ∧ (t.foc a).idFw = 0 ∧ (t.foc a).applied = (0, 0, 0) ∧ (t.foc a).active = false ∧
      (t.foc a).time = time ∧ (t.foc a).vdc = s.get (Obj.DcLinkNominal a) ∧ (t.foc a).j = (s.foc a).j + 1) ∧
  (∀ (a time : Nat) (raw : List Int) (dc : Int) (est : EstSample) (i3 : Int × Int × Int) (ab : Int × Int) (s : State), a < 16 →
    s.oldVals = [] → s.estimates a = false → i3 = s.phaseCurrents a raw → ab = clarke i3.1 i3.2.1 i3.2.2 →
    ∃ t, exec (.focComputation a time raw dc est) s = .next t ∧ (t.foc a).time = time ∧ (t.foc a).j = (s.foc a).j + 1 ∧
      (t.foc a).vdc = s.focVdc a dc ∧ (t.foc a).id = (park ab.1 ab.2 (t.foc a).theta).1 ∧
      (t.foc a).iq = (park ab.1 ab.2 (t.foc a).theta).2) ∧
  (∀ (i : Nat) (s : State), s.inputPhases i = [] → s.inputDcLink i = [] → i ∉ s.lostInputs →
    exec (.modulatorInputLost i true) s = .next { s with lostInputs := i :: s.lostInputs }) ∧
  (∀ (i a : Nat) (s : State), s.inputPhases i = [a] → s.inputDcLink i = [] → i ∉ s.lostInputs →
    exec (.modulatorInputLost i true) s = .next
      ((({ s with lostInputs := i :: s.lostInputs } : State).setBit (Obj.FocStatus a) 7).raiseOnce fkSense a)) ∧
  (∀ (i : Nat) (s : State), s.inputPhases i = [] →
    exec (.modulatorInputLost i false) s = .next { s with lostInputs := s.lostInputs.filter fun x => x != i }) ∧
  (∀ (n f run sinceEdge : Nat) (outputs : List Int) (issued : List Nat) (s w : State), f < 3 → s.oldVals = [] →
    s.get (Obj.FastEnable n) = 1 → (s.pwm n).comp = 0 → s.get (Obj.TripFilter n 2) = 0 →
    run = beyondRun (s.get (Obj.FastHigh n)) (s.get (Obj.FastLow n)) ((s.foc n).fastRuns.getD f 0) (outputs.map fun x =>
      sincScale (s.curCal n f).1 (s.curCal n f).2 (sincFraction (s.nat (Obj.FastOrder n)) (s.nat (Obj.FastOsr n)) x)) →
    s.nat (Obj.FastCount n) < run → w = s.setFoc n { s.foc n with fastRuns := (s.foc n).fastRuns.set f run } →
    exec (.fastComparatorTrip n f ⟨outputs, sinceEdge⟩ issued) s =
      .next ((w.setPwm n { w.pwm n with comp := setBitN 0 f }).tripInput n 2 true sinceEdge issued)) ∧
  (∀ (n f run sinceEdge : Nat) (outputs : List Int) (issued : List Nat) (s : State), f < 3 → s.oldVals = [] →
    s.get (Obj.FastEnable n) = 1 → (s.pwm n).comp = 0 →
    run = beyondRun (s.get (Obj.FastHigh n)) (s.get (Obj.FastLow n)) ((s.foc n).fastRuns.getD f 0) (outputs.map fun x =>
      sincScale (s.curCal n f).1 (s.curCal n f).2 (sincFraction (s.nat (Obj.FastOrder n)) (s.nat (Obj.FastOsr n)) x)) →
    run ≤ s.nat (Obj.FastCount n) →
    ∃ t, exec (.fastComparatorTrip n f ⟨outputs, sinceEdge⟩ issued) s = .next t ∧ t.regs = s.regs ∧ (t.pwm n).comp = 0 ∧
      (t.foc n).fastRuns = (s.foc n).fastRuns.set f run) ∧
  (∀ (n f sinceEdge : Nat) (outputs : List Int) (issued : List Nat) (s : State), f < 3 → s.oldVals = [] →
    s.get (Obj.FastEnable n) = 0 → (s.pwm n).comp = 0 →
    ∃ t, exec (.fastComparatorTrip n f ⟨outputs, sinceEdge⟩ issued) s = .next t ∧ t.regs = s.regs ∧ (t.pwm n).comp = 0 ∧
      (t.foc n).fastRuns = (s.foc n).fastRuns.set f 0) ∧
  (∀ (g sinceEdge : Nat) (raw : Int) (issued : List Nat) (s : State), s.oldVals = [] → s.get (Obj.GenInputEnable g) = 1 →
    s.get (Obj.GenCompAction g) = 2 → (s.pwm g).comp = 0 →
    s.generalLimit g (sincScale (s.get (Obj.GenOffset g)) (s.get (Obj.GenGain g))
      (sincFraction (s.nat (Obj.FastOrder g)) (s.nat (Obj.FastOsr g)) raw)) = true →
    exec (.generalInputLimit g ⟨raw, sinceEdge⟩ issued) s =
      .next ((s.setPwm g { s.pwm g with comp := 0 }).raiseOnce fkGeneral g)) ∧
  (∀ (g sinceEdge : Nat) (raw : Int) (issued : List Nat) (s : State), s.oldVals = [] → s.get (Obj.GenInputEnable g) = 1 →
    s.get (Obj.GenCompAction g) = 1 → (s.pwm g).comp = 0 → s.get (Obj.TripFilter g 2) = 0 →
    s.generalLimit g (sincScale (s.get (Obj.GenOffset g)) (s.get (Obj.GenGain g))
      (sincFraction (s.nat (Obj.FastOrder g)) (s.nat (Obj.FastOsr g)) raw)) = true →
    exec (.generalInputLimit g ⟨raw, sinceEdge⟩ issued) s =
      .next (((s.setPwm g { s.pwm g with comp := 8 }).tripInput g 2 true sinceEdge issued).setActive fkGeneral g false)) ∧
  (∀ (g sinceEdge : Nat) (raw : Int) (issued : List Nat) (s : State), s.oldVals = [] → (s.pwm g).comp = 0 →
    s.generalLimit g (sincScale (s.get (Obj.GenOffset g)) (s.get (Obj.GenGain g))
      (sincFraction (s.nat (Obj.FastOrder g)) (s.nat (Obj.FastOsr g)) raw)) = false →
    exec (.generalInputLimit g ⟨raw, sinceEdge⟩ issued) s =
      .next ((s.setPwm g { s.pwm g with comp := 0 }).setActive fkGeneral g false)) ∧
  (∀ (code n f : Nat) (l : List (Nat × Nat)) (s : State), s.oldVals = [] → s.pvs = (n, f) :: l →
    exec (.pvsConversionComplete code) s = .next
      { s.put (if f = 0 then Obj.PvsVoltageU n else if f = 1 then Obj.PvsVoltageV n else Obj.PvsVoltageW n) (s.pvsScale n code) with
        pvs := l }) ∧
  (∀ (n f time sinceEdge : Nat) (value : Int) (old : Option Bool) (s : State), s.oldVals = [] →
    old = ((s.foc n).changes.find? fun c => c.1 == f).map (fun c => c.2.2) → old ≠ some (s.pvsLevel n value (old.getD false)) →
    sinceEdge < s.nat (Obj.PvsBlanking n) →
    exec (.pvsComparatorChange n f time value sinceEdge) s = .next (s.count (Obj.PvsBlanked n) 32 1)) ∧
  (∀ (n f time sinceEdge : Nat) (value : Int) (old : Option Bool) (s : State), s.oldVals = [] →
    old = ((s.foc n).changes.find? fun c => c.1 == f).map (fun c => c.2.2) → old = some (s.pvsLevel n value (old.getD false)) →
    exec (.pvsComparatorChange n f time value sinceEdge) s = .next s) ∧
  (∀ (n f time sinceEdge : Nat) (value : Int) (old : Option Bool) (high : Bool) (s : State), n < 16 → s.oldVals = [] →
    old = ((s.foc n).changes.find? fun c => c.1 == f).map (fun c => c.2.2) → high = s.pvsLevel n value (old.getD false) →
    old ≠ some high → s.nat (Obj.PvsBlanking n) ≤ sinceEdge → s.get (Obj.SlEstimator n) = 2 →
    time < (s.sl n).commAt + s.nat (Obj.SlDemagTime n) * 5 / 2 →
    exec (.pvsComparatorChange n f time value sinceEdge) s = .next (s.setFoc n { s.foc n with
      changes := (f, time, high) :: (((s.foc n).changes.filter fun c => c.1 == f).take 7 ++
        ((s.foc n).changes.filter fun c => c.1 != f)) })) ∧
  (∀ (n f time sinceEdge : Nat) (value : Int) (old : Option Bool) (high : Bool) (s : State), n < 16 → s.oldVals = [] →
    old = ((s.foc n).changes.find? fun c => c.1 == f).map (fun c => c.2.2) → high = s.pvsLevel n value (old.getD false) →
    old ≠ some high → s.nat (Obj.PvsBlanking n) ≤ sinceEdge → s.get (Obj.SlEstimator n) ≠ 2 → s.get (Obj.CastOnState n) ≠ 1 →
    (s.sl n).lost = false →
    ∃ t, exec (.pvsComparatorChange n f time value sinceEdge) s = .next t ∧ t.regs = s.regs ∧
      (t.sl n).cross = (time :: (s.sl n).cross).take 13 ∧ (t.sl n).zAngle = crossAngle f high ∧
      (t.foc n).changes = (f, time, high) :: (((s.foc n).changes.filter fun c => c.1 == f).take 7 ++
        ((s.foc n).changes.filter fun c => c.1 != f)))

/-- In six-step a commutation that is due advances the sector by one forward for a q current in use of 0 or more, else back;
otherwise it does nothing. 64 agreeing HFI computations lock and start the dibber; fewer change nothing; without amplitude
256 computations set the failure bit outside cast-on. A dibber pulse whose time is over and whose current is within its
limit records the current and opens its gap; one above a limit of 0 fails the scan with cause 6; a gap's end drives the next
pulse. A measuring timeout starts HFI; a cast-on timeout fails with cause 3, in acquisition with cause 7, and a timeout of 0
does nothing. (R265, R267, R268, R269, R271, R273) -/
def Obligations.EstimatorsAndPulses : Prop :=
  (∀ (a time : Nat) (s : State), s.sixStep a = true → s.commutes a time = true → 0 ≤ (s.foc a).used.2 →
    exec (.sixStepCommutation a time) s = .next
      ((s.setSl a { s.sl a with sector := ((s.sl a).sector + 1) % 6, commAt := time }).sectorLegs a (((s.sl a).sector + 1) % 6))) ∧
  (∀ (a time : Nat) (s : State), s.sixStep a = true → s.commutes a time = true → (s.foc a).used.2 < 0 →
    exec (.sixStepCommutation a time) s = .next
      ((s.setSl a { s.sl a with sector := ((s.sl a).sector + 5) % 6, commAt := time }).sectorLegs a (((s.sl a).sector + 5) % 6))) ∧
  (∀ (a time : Nat) (s : State), s.sixStep a = false ∨ s.commutes a time = false →
    exec (.sixStepCommutation a time) s = .next s) ∧
  (∀ (a : Nat) (s : State), 64 ≤ (s.sl a).lockRun → (s.sl a).locked = false → s.get (Obj.CastOnState a) = 3 → s.casts a = true →
    exec (.hfiLocked a) s = .next ((s.put (Obj.CastOnState a) 2).startDibber a
      (decide (s.natInUse (Obj.CastOnRestSpeed a) < (s.sl a).speed.natAbs)))) ∧
  (∀ (a : Nat) (s : State), (s.sl a).lockRun < 64 → exec (.hfiLocked a) s = .next s) ∧
  (∀ (a : Nat) (s : State), 256 ≤ (s.sl a).hfiCount → (s.sl a).locked = false → s.get (Obj.HfiAmplitude a) = 0 →
    s.get (Obj.CastOnState a) ≠ 3 →
    exec (.hfiFailed a) s = .next (s.setBit (Obj.SlStatus a) 1)) ∧
  (∀ (a : Nat) (raw : List Int) (d : DibberRt) (i3 : Int × Int × Int) (i : Int) (s : State), a < 16 →
    (s.sl a).dibber = some d → d.gap = false → d.since + s.natInUse (Obj.DibberPulseTime a) * 163840 ≤ s.now16 →
    i3 = s.phaseCurrents a raw →
    i = (park (clarke i3.1 i3.2.1 i3.2.2).1 (clarke i3.1 i3.2.1 i3.2.2).2 d.direction).1 →
    s.inUse (Obj.DibberCurrentLimit a) ≠ 0 → i.natAbs ≤ s.inUse (Obj.DibberCurrentLimit a) →
    d.done.length + 1 < (if d.polarity then 2 else 12) →
    ∃ t, exec (.dibberPulseEnd a raw) s = .next t ∧ t.regs = s.regs ∧
      (t.sl a).dibber = some { d with done := i :: d.done, gap := s.flagInUse (Obj.DibberGap a), since := s.now16 }) ∧
  (∀ (a : Nat) (raw : List Int) (d : DibberRt) (s : State), (s.sl a).dibber = some d → d.gap = false →
    d.since + s.natInUse (Obj.DibberPulseTime a) * 163840 ≤ s.now16 → s.inUse (Obj.DibberCurrentLimit a) = 0 →
    exec (.dibberPulseEnd a raw) s = .next ((s.wantLegs a 0).dibberFail a 6)) ∧
  (∀ (a : Nat) (d : DibberRt) (s : State), (s.sl a).dibber = some d → d.gap = true →
    d.since + s.natInUse (Obj.DibberGap a) * 163840 ≤ s.now16 →
    exec (.dibberGapExpiry a) s = .next ((s.setSl a { s.sl a with
      dibber := some { d with gap := false, since := s.now16 } }).wantLegs a 1)) ∧
  (∀ (a : Nat) (s : State), s.get (Obj.CastOnState a) = 1 →
    exec (.castOnMeasureTimeout a) s = .next ((s.put (Obj.CastOnState a) 3).startHfi a)) ∧
  (∀ (a : Nat) (s : State), s.get (Obj.AxisState a) = axCasting → s.flagInUse (Obj.CastOnTimeout a) = true →
    exec (.castOnTimeout a false) s = .next (s.castFail a 3)) ∧
  (∀ (a : Nat) (s : State), s.get (Obj.AxisState a) = axCasting → s.get (Obj.CastOnState a) = 4 →
    exec (.castOnTimeout a true) s = .next (s.castFail a 7)) ∧
  (∀ (a : Nat) (s : State), s.get (Obj.AxisState a) = axCasting → s.flagInUse (Obj.CastOnTimeout a) = false →
    exec (.castOnTimeout a false) s = .next s)

/-- A lost lock of a sensorless Holding axis with recovery enabled acts once; without a cause nothing happens. With E above the
ASC level the stage shorts, else it freewheels; without a loss nothing happens. A first estimate in ASC is kept with the
angle of the shorted winding taken off; one during a hold only gives E. A successful recovery restores the lock, closes the
loop and counts; one that failed takes the failure's course. A ride-through whose feedback returned long enough ends, and
the source changes at the next edge. The angle test runs in Standby in Run, and answers 0x0701 outside Run and 0x0703
outside Standby. A commanded return from ride-through answers 0x0702 while feedback is lost, ends a ride-through in mode 2
and is 0 without effect otherwise. (R274, R275, R276, R278, R279, R280, R282, R283) -/
def Obligations.LockLossAndRecovery : Prop :=
  (∀ (a time : Nat) (s : State), a < 16 → s.get (Obj.FbSource a) = 3 → s.lockCause a time = true → (s.axis a).closed = true →
    s.get (Obj.AxisState a) = axHolding → (s.sl a).lost = false → (s.sl a).riding = false →
    s.get (Obj.LockRecoveryEnable a) = 1 →
    exec (.lockLost a time) s = .next (s.loseLock a time)) ∧
  (∀ (a time : Nat) (s : State), s.lockCause a time = false → exec (.lockLost a time) s = .next s) ∧
  (∀ (a : Nat) (s : State), a < 16 → (s.sl a).lost = true → s.ascLevel a < (s.sl a).lastE →
    ∃ t, exec (.ascOrFreewheel a) s = .next t ∧ (t.sl a).asc = true ∧ t.get (Obj.SlEstimator a) = 5) ∧
  (∀ (a : Nat) (s : State), a < 16 → (s.sl a).lost = true → (s.sl a).lastE ≤ s.ascLevel a →
    s.inUse (Obj.CastOnBemfThreshold a) ≤ (s.sl a).lastE →
    exec (.ascOrFreewheel a) s = .next ((((s.put (Obj.BemfEstimate a) (s.sl a).lastE).setSl a { s.sl a with asc := false }).wantLegs
      a 0).put (Obj.SlEstimator a) 4)) ∧
  (∀ (a : Nat) (s : State), (s.sl a).lost = false → exec (.ascOrFreewheel a) s = .next s) ∧
  (∀ (a time phasor : Nat) (speed : Int) (s : State), (s.sl a).hold = false → (s.sl a).asc = true → (s.sl a).estimate = none →
    exec (.reacquisitionEstimate a time phasor speed) s = .next (s.setSl a { s.sl a with
      estimate := some (time, (((phasor : Int) - s.shortAngle a speed) % 4294967296).toNat, speed) })) ∧
  (∀ (a time phasor : Nat) (speed : Int) (s : State), (s.sl a).hold = true →
    exec (.reacquisitionEstimate a time phasor speed) s = .next
      ((s.setSl a { s.sl a with lastE := s.bemf a speed }).put (Obj.BemfEstimate a) (s.bemf a speed))) ∧
  (∀ (a : Nat) (s : State), a < 16 → (s.sl a).lost = true → (s.sl a).reacq = true →
    ∃ t, exec (.lockRecovery a) s = .next t ∧ (t.sl a).lost = false ∧ (t.sl a).reacq = false ∧ (t.sl a).locked = true ∧
      (t.axis a).closed = true ∧ (t.axis a).closing = true ∧
      t.get (Obj.LockRecoveries a) = wrapU 32 (s.get (Obj.LockRecoveries a) + 1)) ∧
  (∀ (a : Nat) (s : State), (s.sl a).lost = true → (s.sl a).reacq = false →
    exec (.lockRecoveryFailed a) s = .next (s.recoveryFail a)) ∧
  (∀ (a : Nat) (s : State), (s.sl a).riding = true → s.inUse (Obj.RideThroughReturn a) = 1 →
    s.natInUse (Obj.RideThroughReturnTicks a) < (s.sl a).absent →
    ∃ t, exec (.rideThroughReturn a) s = .next t ∧ (t.sl a).riding = false ∧ (t.axis a).sourceDue = true) ∧
  (∀ (a : Nat) (s : State), s.get Obj.DeviceState ≠ devRun → exec (.angleTest a) s = .next (s.reply 0x0701)) ∧
  (∀ (a : Nat) (s : State), s.get Obj.DeviceState = devRun → s.get (Obj.AxisState a) ≠ axStandby →
    exec (.angleTest a) s = .next (s.reply 0x0703)) ∧
  (∀ (a : Nat) (s : State), a < 16 → s.get Obj.DeviceState = devRun → s.get (Obj.AxisState a) = axStandby →
    ∃ t, exec (.angleTest a) s = .next t ∧ t.resp = { status := 0 } ∧ (t.sl a).test = true ∧
      t.get (Obj.AxisState a) = axStandby) ∧
  (∀ (a : Nat) (s : State), s.faultActive fkFeedbackLost a = true →
    exec (.returnFromRideThrough a) s = .next (s.reply 0x0702)) ∧
  (∀ (a : Nat) (s : State), s.faultActive fkFeedbackLost a = false → (s.sl a).riding = true →
    s.get (Obj.RideThroughReturn a) = 2 → exec (.returnFromRideThrough a) s = .next ((s.rideEnd a).done)) ∧
  (∀ (a : Nat) (s : State), s.faultActive fkFeedbackLost a = false →
    ((s.sl a).riding = false ∨ s.get (Obj.RideThroughReturn a) ≠ 2) → exec (.returnFromRideThrough a) s = .next s.done)

/-- A half-period beyond those of a tick does nothing; one within counts on and keeps the trip bits, and with all legs off it
reports mode 0 and issues no volt-seconds. A trip input whose level does not change does nothing; an asserted one in mode 0
only records the level; inside the blanking it waits; outside it, in mode 1, it latches, turns the stage off, counts and
raises the fault; its withdrawal clears the level and opens the tail of a blanking. A closed blanking acts where the input
still asserts and no auxiliary channel blanks it, waits on where one does, and else only ends. A withdrawn gate enable turns
the stage off and brings the axis to Faulted. Switching resumes where both enables are present and no trip is latched, else
nothing happens. Auxiliary channels follow their level. (R291, R294, R295, R297, R298, R299, R300, R301, R302, R303, R305,
R306) -/
def Obligations.PowerStages : Prop :=
  (∀ (n : Nat) (s : State), s.oldVals = [] → 2 * s.nat (Obj.PwmRatio n) ≤ (s.pwm n).half →
    exec (.halfPeriodStart n) s = .next s) ∧
  (∀ (n : Nat) (s : State), n < 16 → s.oldVals = [] → (s.pwm n).half < 2 * s.nat (Obj.PwmRatio n) → (s.pwm n).half % 2 = 1 →
    s.get (Obj.FocUpdatesPerPeriod n) = 1 → (∀ x ∈ (s.pwm n).phases, x.mode = 0) → (s.pwm n).phases.length = 3 →
    ∃ t, exec (.halfPeriodStart n) s = .next t ∧ (t.pwm n).half = (s.pwm n).half + 1 ∧ t.get (Obj.PwmLegMode n) = 0 ∧
      (∀ f, f < 3 → t.get (Obj.VsIssued n f) = s.get (Obj.VsIssued n f))) ∧
  (∀ (n : Nat) (s : State), n < 16 → s.oldVals = [] → (s.pwm n).half < 2 * s.nat (Obj.PwmRatio n) → (s.pwm n).half % 2 = 1 →
    ∃ t, exec (.halfPeriodStart n) s = .next t ∧ (t.pwm n).half = (s.pwm n).half + 1 ∧
      (∀ i, i < 6 → t.bit (Obj.PwmTripStatus n) i = s.bit (Obj.PwmTripStatus n) i)) ∧
  (∀ (n i run sinceEdge : Nat) (high : Bool) (issued : List Nat) (s : State), s.oldVals = [] →
    s.tripPasses n i high run = (s.pwm n).asserted.testBit i → exec (.tripAssert n i high ⟨run, sinceEdge⟩ issued) s = .next s) ∧
  (∀ (n i run sinceEdge : Nat) (high : Bool) (issued : List Nat) (s w : State), n < 16 → i < 3 → s.oldVals = [] →
    s.tripPasses n i high run = true → (s.pwm n).asserted.testBit i = false → s.get (Obj.TripMode n i) = 0 →
    w = s.setPwm n { s.pwm n with asserted := setBitN (s.pwm n).asserted i, tail := clrBitN (s.pwm n).tail i } →
    exec (.tripAssert n i high ⟨run, sinceEdge⟩ issued) s = .next (w.acqEvent 2 5 n (n * 256 + i) w.now16)) ∧
  (∀ (n i run sinceEdge : Nat) (high : Bool) (issued : List Nat) (s w v : State), n < 16 → i < 3 → s.oldVals = [] →
    s.tripPasses n i high run = true → (s.pwm n).asserted.testBit i = false →
    w = s.setPwm n { s.pwm n with asserted := setBitN (s.pwm n).asserted i, tail := clrBitN (s.pwm n).tail i } →
    v = w.acqEvent 2 5 n (n * 256 + i) w.now16 → s.get (Obj.TripMode n i) ≠ 0 → sinceEdge < s.nat (Obj.TripBlanking n i) →
    exec (.tripAssert n i high ⟨run, sinceEdge⟩ issued) s = .next
      (v.setPwm n { v.pwm n with waiting := setBitN (s.pwm n).waiting i })) ∧
  (∀ (n i run sinceEdge : Nat) (high : Bool) (issued : List Nat) (s w v x u : State), n < 16 → i < 3 → s.oldVals = [] →
    s.tripPasses n i high run = true → (s.pwm n).asserted.testBit i = false →
    w = s.setPwm n { s.pwm n with asserted := setBitN (s.pwm n).asserted i, tail := clrBitN (s.pwm n).tail i } →
    v = w.acqEvent 2 5 n (n * 256 + i) w.now16 → s.get (Obj.TripMode n i) = 1 → s.nat (Obj.TripBlanking n i) ≤ sinceEdge →
    s.auxBlanks n i = false → x = (v.count (tripCount n i) 32 1).cutHalf n issued →
    u = (x.put (Obj.PwmTripStatus n) (x.nat (Obj.PwmTripStatus n) ||| 2 ^ i : Nat)).setPwm n { x.pwm n with off := true } →
    ((u.raiseLasting fkTrip n).sl n).lost = false → (u.raiseLasting fkTrip n).casts n = false →
    exec (.tripAssert n i high ⟨run, sinceEdge⟩ issued) s = .next (u.raiseLasting fkTrip n) ∧ (u.pwm n).off = true ∧
      u.bit (Obj.PwmTripStatus n) i = true ∧ u.get (tripCount n i) = wrapU 32 (s.get (tripCount n i) + 1)) ∧
  (∀ (n i run sinceEdge : Nat) (high : Bool) (issued : List Nat) (s : State), n < 16 → i < 3 → s.oldVals = [] →
    s.tripPasses n i high run = false → (s.pwm n).asserted.testBit i = true →
    exec (.tripAssert n i high ⟨run, sinceEdge⟩ issued) s = .next
      (s.setPwm n { s.pwm n with asserted := clrBitN (s.pwm n).asserted i, waiting := clrBitN (s.pwm n).waiting i,
                                 tail := if s.flag (Obj.TripBlanking n i) then setBitN (s.pwm n).tail i else (s.pwm n).tail })) ∧
  (∀ (n i : Nat) (issued : List Nat) (s : State), s.oldVals = [] → (s.pwm n).waiting.testBit i = false →
    exec (.blankingClose n i issued) s = .next
      (s.setPwm n { s.pwm n with waiting := clrBitN (s.pwm n).waiting i, tail := clrBitN (s.pwm n).tail i })) ∧
  (∀ (n i : Nat) (issued : List Nat) (s : State), s.oldVals = [] → (s.pwm n).waiting.testBit i = true →
    (s.pwm n).asserted.testBit i = true → s.auxBlanks n i = false →
    exec (.blankingClose n i issued) s = .next
      ((s.setPwm n { s.pwm n with waiting := clrBitN (s.pwm n).waiting i, tail := clrBitN (s.pwm n).tail i }).tripAct n i issued)) ∧
  (∀ (n i : Nat) (issued : List Nat) (s : State), s.oldVals = [] → (s.pwm n).waiting.testBit i = true →
    (s.pwm n).asserted.testBit i = true → s.auxBlanks n i = true → exec (.blankingClose n i issued) s = .next s) ∧
  (∀ (n : Nat) (issued : List Nat) (s : State), n < 16 → s.casts n = false →
    ∃ u : State, exec (.gateEnableWithdrawn n true issued) s = .next (u.axisToFaulted n) ∧ (u.pwm n).off = true ∧ (u.pwm n).dse = false ∧
      u.bit (Obj.PwmTripStatus n) 5 = true ∧ (∀ f, f < 3 → u.get (Obj.VsCarry n f) = 0 ∨ (s.phase n f).mode ≠ 1)) ∧
  (∀ (n : Nat) (s : State), (s.pwm n).off = true → (s.pwm n).gen = true → (s.pwm n).dse = true → s.tripLatched n = false →
    exec (.switchingResume n) s = .next ((s.setPwm n { s.pwm n with off := false }).restartPhases n)) ∧
  (∀ (n : Nat) (s : State), (s.pwm n).gen = false ∨ (s.pwm n).dse = false ∨ s.tripLatched n = true →
    exec (.switchingResume n) s = .next s) ∧
  (∀ (n : Nat) (valley : Bool) (s : State), s.oldVals = [] → s.get (Obj.AuxAction n 0) ≠ 2 → s.get (Obj.AuxAction n 0) ≠ 3 →
    exec (.auxChannelEvent n 0 valley) s = .next
      (s.setPwm n { s.pwm n with aux0 := valley == (s.get (Obj.AuxRegion n 0) == 1) })) ∧
  (∀ (n : Nat) (valley : Bool) (s : State), s.oldVals = [] → s.get (Obj.AuxAction n 1) ≠ 2 → s.get (Obj.AuxAction n 1) ≠ 3 →
    exec (.auxChannelEvent n 1 valley) s = .next
      (s.setPwm n { s.pwm n with aux1 := valley == (s.get (Obj.AuxRegion n 1) == 1) }))

/-- On a core between two bundles of its main bank, NOP, ADD, SUB, ADDI, MOVI, MUL, SHL, SHR, AND, OR and XOR as single-slot
bundles write their result (64 bits, wrapped; MUL of the low 32 bits; shifts by the low six bits of the second operand) to
their register and nothing to x0, advance to the next bundle and leave every other register, the accumulators, the
dictionary, memory and the other cores. A saturating ADD writes the saturated sum and, outside a stitch, sets the core's
saturation bit when it saturates. (R310, R311, R312) -/
def Obligations.MidopinArithmetic : Prop :=
  (∀ (core : Nat) (s : State), (s.core core).Plain →
    ∃ t, exec (.nop ⟨core, false⟩) s = .next t ∧ s.Wrote t core 0 0) ∧
  (∀ (core rd ra rb : Nat) (s : State), (s.core core).Plain → rd < 64 →
    ∃ t, exec (.add ⟨core, false⟩ false rd ra rb) s = .next t ∧
      s.Wrote t core rd (wrapS 64 ((s.core core).reg ra + (s.core core).reg rb))) ∧
  (∀ (core rd ra rb : Nat) (s : State), (s.core core).Plain → 0 < rd → rd < 64 →
    ∃ t, exec (.add ⟨core, false⟩ true rd ra rb) s = .next t ∧
      (t.core core).reg rd = satS 64 ((s.core core).reg ra + (s.core core).reg rb) ∧
      (satS 64 ((s.core core).reg ra + (s.core core).reg rb) ≠ (s.core core).reg ra + (s.core core).reg rb →
        (s.core core).stitch = none → t.bit (Obj.CoreStatus core) 3 = true)) ∧
  (∀ (core rd ra rb : Nat) (s : State), (s.core core).Plain → rd < 64 →
    ∃ t, exec (.sub ⟨core, false⟩ false rd ra rb) s = .next t ∧
      s.Wrote t core rd (wrapS 64 ((s.core core).reg ra - (s.core core).reg rb))) ∧
  (∀ (core rd ra : Nat) (imm : Int) (s : State), (s.core core).Plain → rd < 64 →
    ∃ t, exec (.addi ⟨core, false⟩ false rd ra imm) s = .next t ∧
      s.Wrote t core rd (wrapS 64 ((s.core core).reg ra + imm))) ∧
  (∀ (core rd : Nat) (imm : Int) (s : State), (s.core core).Plain → rd < 64 →
    ∃ t, exec (.movi ⟨core, false⟩ rd imm) s = .next t ∧ s.Wrote t core rd imm) ∧
  (∀ (core rd ra rb : Nat) (s : State), (s.core core).Plain → rd < 64 →
    ∃ t, exec (.mul ⟨core, false⟩ false rd ra rb) s = .next t ∧
      s.Wrote t core rd (wrapS 64 (wrapS 32 ((s.core core).reg ra) * wrapS 32 ((s.core core).reg rb)))) ∧
  (∀ (core rd ra rb : Nat) (s : State), (s.core core).Plain → rd < 64 →
    ∃ t, exec (.shl ⟨core, false⟩ false rd ra rb) s = .next t ∧
      s.Wrote t core rd (wrapS 64 ((s.core core).reg ra * 2 ^ ((s.core core).reg rb % 64).toNat))) ∧
  (∀ (core rd ra rb : Nat) (s : State), (s.core core).Plain → rd < 64 →
    ∃ t, exec (.shr ⟨core, false⟩ false rd ra rb) s = .next t ∧
      s.Wrote t core rd ((s.core core).reg ra / 2 ^ ((s.core core).reg rb % 64).toNat)) ∧
  (∀ (core rd ra rb : Nat) (s : State), (s.core core).Plain → rd < 64 →
    ∃ t, exec (.and ⟨core, false⟩ rd ra rb) s = .next t ∧
      s.Wrote t core rd (wrapS 64 (((wrapU 64 ((s.core core).reg ra)).toNat &&& (wrapU 64 ((s.core core).reg rb)).toNat : Nat)))) ∧
  (∀ (core rd ra rb : Nat) (s : State), (s.core core).Plain → rd < 64 →
    ∃ t, exec (.or ⟨core, false⟩ rd ra rb) s = .next t ∧
      s.Wrote t core rd (wrapS 64 (((wrapU 64 ((s.core core).reg ra)).toNat ||| (wrapU 64 ((s.core core).reg rb)).toNat : Nat)))) ∧
  (∀ (core rd ra rb : Nat) (s : State), (s.core core).Plain → rd < 64 →
    ∃ t, exec (.xor ⟨core, false⟩ rd ra rb) s = .next t ∧
      s.Wrote t core rd (wrapS 64 (((wrapU 64 ((s.core core).reg ra)).toNat ^^^ (wrapU 64 ((s.core core).reg rb)).toNat : Nat))))

/-- On a core between two bundles: CLAMP, MIN and MAX write their result; MAXI and MINI replace the running extreme and its
index only where the operand is beyond it; MAC and its subtracting form add the 32-bit product to the accumulator; CMAC adds
the complex product to both; ACCR writes the rounded and shifted accumulator; ACCZ loads or clears it. (R311, R312, R317) -/
def Obligations.MidopinComparesAndAccumulates : Prop :=
  (∀ (core rd ra rb : Nat) (s : State), (s.core core).Plain → rd < 64 → (s.core core).reg ra ≤ (s.core core).reg rb →
    ∃ t, exec (.clamp ⟨core, false⟩ rd ra rb) s = .next t ∧
      s.Wrote t core rd (max ((s.core core).reg ra) (min ((s.core core).reg rd) ((s.core core).reg rb)))) ∧
  (∀ (core rd ra rb : Nat) (s : State), (s.core core).Plain → rd < 64 →
    ∃ t, exec (.min ⟨core, false⟩ rd ra rb) s = .next t ∧ s.Wrote t core rd (min ((s.core core).reg ra) ((s.core core).reg rb))) ∧
  (∀ (core rd ra rb : Nat) (s : State), (s.core core).Plain → rd < 64 →
    ∃ t, exec (.max ⟨core, false⟩ rd ra rb) s = .next t ∧ s.Wrote t core rd (max ((s.core core).reg ra) ((s.core core).reg rb))) ∧
  (∀ (core rd ra : Nat) (s : State), (s.core core).Plain → 2 ≤ rd → rd ≤ 30 → rd % 2 = 0 →
    (s.core core).reg rd < (s.core core).reg ra →
    ∃ t, exec (.maxi ⟨core, false⟩ rd ra) s = .next t ∧ (t.core core).reg rd = (s.core core).reg ra ∧
      (t.core core).reg (rd + 1) = 0 ∧ s.KeepsBut t core) ∧
  (∀ (core rd ra : Nat) (s : State), (s.core core).Plain → (s.core core).reg ra ≤ (s.core core).reg rd →
    ∃ t, exec (.maxi ⟨core, false⟩ rd ra) s = .next t ∧ s.Wrote t core 0 0) ∧
  (∀ (core rd ra : Nat) (s : State), (s.core core).Plain → 2 ≤ rd → rd ≤ 30 → rd % 2 = 0 →
    (s.core core).reg ra < (s.core core).reg rd →
    ∃ t, exec (.mini ⟨core, false⟩ rd ra) s = .next t ∧ (t.core core).reg rd = (s.core core).reg ra ∧
      (t.core core).reg (rd + 1) = 0 ∧ s.KeepsBut t core) ∧
  (∀ (core a ra rb : Nat) (s : State), (s.core core).Plain →
    ∃ t, exec (.mac ⟨core, false⟩ false a false ra rb) s = .next t ∧ s.Accumulated t core a
      (wrapS 128 ((s.core core).acc a + wrapS 32 ((s.core core).reg ra) * wrapS 32 ((s.core core).reg rb)))) ∧
  (∀ (core a ra rb : Nat) (s : State), (s.core core).Plain →
    ∃ t, exec (.mac ⟨core, false⟩ false a true ra rb) s = .next t ∧ s.Accumulated t core a
      (wrapS 128 ((s.core core).acc a - wrapS 32 ((s.core core).reg ra) * wrapS 32 ((s.core core).reg rb)))) ∧
  (∀ (core ra rb : Nat) (s : State), (s.core core).Plain →
    ∃ t, exec (.cmac ⟨core, false⟩ false false ra rb) s = .next t ∧
      (t.core core).acc 0 = wrapS 128 ((s.core core).acc 0 + (half ((s.core core).reg ra) false * half ((s.core core).reg rb) false -
        half ((s.core core).reg ra) true * half ((s.core core).reg rb) true)) ∧
      (t.core core).acc 1 = wrapS 128 ((s.core core).acc 1 + (half ((s.core core).reg ra) false * half ((s.core core).reg rb) true +
        half ((s.core core).reg ra) true * half ((s.core core).reg rb) false))) ∧
  (∀ (core a shift rd : Nat) (s : State), (s.core core).Plain → rd < 64 →
    ∃ t, exec (.accr ⟨core, false⟩ false a shift rd) s = .next t ∧
      s.Wrote t core rd (wrapS 64 (rsh ((s.core core).acc a) shift))) ∧
  (∀ (core a ra : Nat) (s : State), (s.core core).Plain →
    ∃ t, exec (.accz ⟨core, false⟩ a true ra) s = .next t ∧ s.Accumulated t core a ((s.core core).reg ra)) ∧
  (∀ (core a ra : Nat) (s : State), (s.core core).Plain →
    ∃ t, exec (.accz ⟨core, false⟩ a false ra) s = .next t ∧ s.Accumulated t core a 0)

/-- On a core between two bundles, for every saturation bit and sign: FTAP leaves accumulators, registers of the device, memory
and the bundle counter as MAC does, and the core's registers as before except that rc (not x0) takes the value rb had.
(R318) -/
def Obligations.FtapIsMacWithAMove : Prop :=
  ∀ (core a rc ra rb : Nat) (sat subtract : Bool) (s : State), (s.core core).Plain → rc < 64 →
    ∃ t u, exec (.ftap ⟨core, false⟩ sat a subtract rc ra rb) s = .next t ∧
      exec (.mac ⟨core, false⟩ sat a subtract ra rb) s = .next u ∧
      (∀ b, (t.core core).acc b = (u.core core).acc b) ∧ t.regs = u.regs ∧ t.mem = u.mem ∧
      (t.core core).main.pc = (u.core core).main.pc ∧
      (∀ k, k < 64 → (t.core core).reg k = if k = rc ∧ rc ≠ 0 then (s.core core).reg rb else (s.core core).reg k)

/-- On a core between two bundles: DIV by a nonzero divisor gives the quotient truncated toward zero, by 0 gives 0 and sets its
bit; SQRT gives the rounded-down root; a unit's completion writes its result. LD, ST, LDI and STI move eight bytes between a
register and the stitch's record and, in the indexed forms, advance the address register; an address outside the record is
an access violation, a load giving 0. Where the record lies is open (log entry 93), and a read takes a result under way (log
entry 91). (R307, R308, R309, R312) -/
def Obligations.MidopinDivisionAndMemory : Prop :=
  (∀ (core rd ra rb : Nat) (s : State), (s.core core).Plain → 0 < rd → rd < 64 → wrapS 32 ((s.core core).reg rb) ≠ 0 →
    ∃ t, exec (.div ⟨core, false⟩ false rd ra rb) s = .next t ∧
      (t.core core).reg rd = wrapS 64 (((s.core core).reg ra).tdiv (wrapS 32 ((s.core core).reg rb))) ∧ t.regs = s.regs ∧
      t.mem = s.mem ∧ (t.core core).main.pc = (s.core core).main.pc + 1) ∧
  (∀ (core rd ra rb : Nat) (s : State), (s.core core).Plain → 0 < rd → rd < 64 → wrapS 32 ((s.core core).reg rb) = 0 →
    ∃ t, exec (.div ⟨core, false⟩ false rd ra rb) s = .next t ∧ (t.core core).reg rd = 0 ∧
      t.bit (Obj.CoreStatus core) 4 = true ∧ t.mem = s.mem) ∧
  (∀ (core k : Nat) (v : Int) (s : State), (s.core core).div = some (false, k, v) → 0 < k → k < 64 →
    ∃ t, exec (.divComplete core) s = .next t ∧ (t.core core).div = none ∧ (t.core core).main.phys k = v ∧ t.regs = s.regs) ∧
  (∀ (core rd ra : Nat) (s : State), (s.core core).Plain → 0 < rd → rd < 64 →
    ∃ t, exec (.sqrt ⟨core, false⟩ rd ra) s = .next t ∧
      (t.core core).reg rd = (Nat.sqrt (wrapU 64 ((s.core core).reg ra)).toNat : Nat) ∧ t.regs = s.regs ∧ t.mem = s.mem) ∧
  (∀ (core k : Nat) (v : Int) (s : State), (s.core core).sqrt = some (false, k, v) → 0 < k → k < 64 →
    ∃ t, exec (.sqrtComplete core) s = .next t ∧ (t.core core).sqrt = none ∧ (t.core core).main.phys k = v ∧ t.regs = s.regs) ∧
  (∀ (core rd ra order off : Nat) (imm : Int) (s : State), (s.core core).Plain → rd < 64 →
    s.recordAt core (wrapS 64 ((s.core core).reg ra + 8 * imm)) = some (order, off) →
    ∃ t, exec (.ld ⟨core, false⟩ rd ra imm false) s = .next t ∧ s.Wrote t core rd (s.sint (kernelKey order) off 8)) ∧
  (∀ (core rd ra : Nat) (imm : Int) (s : State), s.recordAt core (wrapS 64 ((s.core core).reg ra + 8 * imm)) = none →
    exec (.ld ⟨core, false⟩ rd ra imm false) s = .next ((s.accessViolation core).issue ⟨core, false⟩ fun c => { regs := c.wr rd 0 })) ∧
  (∀ (core rd ra order off : Nat) (imm : Int) (s : State), (s.core core).Plain →
    s.recordAt core (wrapS 64 ((s.core core).reg ra + 8 * imm)) = some (order, off) →
    ∃ t, exec (.st ⟨core, false⟩ rd ra imm) s = .next t ∧ t.regs = s.regs ∧
      t.mem = Memory.writeN s.mem (domAddr (kernelKey order) off) (intLE 8 ((s.core core).reg rd)) ∧
      (∀ k, k < 64 → (t.core core).reg k = (s.core core).reg k)) ∧
  (∀ (core rd ra : Nat) (imm : Int) (s : State), s.recordAt core (wrapS 64 ((s.core core).reg ra + 8 * imm)) = none →
    exec (.st ⟨core, false⟩ rd ra imm) s = .next ((s.accessViolation core).issue ⟨core, false⟩ fun _ => {})) ∧
  (∀ (core rd ra order off : Nat) (imm : Int) (s : State), (s.core core).Plain → 0 < ra → ra < 64 → 0 < rd → rd < 64 → rd ≠ ra →
    s.recordAt core ((s.core core).reg ra) = some (order, off) →
    ∃ t, exec (.ldi ⟨core, false⟩ rd ra imm false) s = .next t ∧ t.regs = s.regs ∧ t.mem = s.mem ∧
      (t.core core).reg rd = s.sint (kernelKey order) off 8 ∧ (t.core core).reg ra = wrapS 64 ((s.core core).reg ra + 8 * imm)) ∧
  (∀ (core rd ra order off : Nat) (imm : Int) (s : State), (s.core core).Plain → 0 < ra → ra < 64 →
    s.recordAt core ((s.core core).reg ra) = some (order, off) →
    ∃ t, exec (.sti ⟨core, false⟩ rd ra imm) s = .next t ∧ t.regs = s.regs ∧
      t.mem = Memory.writeN s.mem (domAddr (kernelKey order) off) (intLE 8 ((s.core core).reg rd)) ∧
      (t.core core).reg ra = wrapS 64 ((s.core core).reg ra + 8 * imm))

/-- A taken BEQ, BNE, BLT, BGE or J sets the target two bundles ahead and goes on; an untaken one only goes on; the second
bundle after a taken branch leads to the target. REP with a count repeats its body, with a register of 0 or less skips it,
and beyond its maximum sets the bit and repeats the maximum. RET ends the stitch. (R308, R312, R314, R315, R316) -/
def Obligations.MidopinFlow : Prop :=
  (∀ (core ra rb : Nat) (offset : Int) (s : State), (s.core core).Plain → (s.core core).reg ra = (s.core core).reg rb →
    ∃ t, exec (.beq ⟨core, false⟩ ra rb offset) s = .next t ∧
      (t.core core).main = { (s.core core).main with
        pc := (s.core core).main.pc + 1, branch := some ((((s.core core).main.pc : Int) + offset).toNat, 2) }) ∧
  (∀ (core ra rb : Nat) (offset : Int) (s : State), (s.core core).Plain → (s.core core).reg ra ≠ (s.core core).reg rb →
    ∃ t, exec (.beq ⟨core, false⟩ ra rb offset) s = .next t ∧ s.Wrote t core 0 0) ∧
  (∀ (core ra rb : Nat) (offset : Int) (s : State), (s.core core).Plain → (s.core core).reg ra ≠ (s.core core).reg rb →
    ∃ t, exec (.bne ⟨core, false⟩ ra rb offset) s = .next t ∧
      (t.core core).main.branch = some ((((s.core core).main.pc : Int) + offset).toNat, 2)) ∧
  (∀ (core ra rb : Nat) (offset : Int) (s : State), (s.core core).Plain → (s.core core).reg ra < (s.core core).reg rb →
    ∃ t, exec (.blt ⟨core, false⟩ ra rb offset) s = .next t ∧
      (t.core core).main.branch = some ((((s.core core).main.pc : Int) + offset).toNat, 2)) ∧
  (∀ (core ra rb : Nat) (offset : Int) (s : State), (s.core core).Plain → (s.core core).reg rb ≤ (s.core core).reg ra →
    ∃ t, exec (.bge ⟨core, false⟩ ra rb offset) s = .next t ∧
      (t.core core).main.branch = some ((((s.core core).main.pc : Int) + offset).toNat, 2)) ∧
  (∀ (core : Nat) (offset : Int) (s : State), (s.core core).Plain →
    ∃ t, exec (.j ⟨core, false⟩ offset) s = .next t ∧
      (t.core core).main.branch = some ((((s.core core).main.pc : Int) + offset).toNat, 2)) ∧
  (∀ (core target n : Nat) (s : State), (s.core core).buf = [] → (s.core core).bufStore = [] → (s.core core).bufFlow = .next →
    (s.core core).inShadow = false → (s.core core).main.reps = [] → (s.core core).main.branch = some (target, n) → n = 1 ∨ n = 2 →
    ∃ t, exec (.nop ⟨core, false⟩) s = .next t ∧
      (t.core core).main.branch = (if n = 1 then none else some (target, 1)) ∧
      (t.core core).main.pc = (if n = 1 then target else (s.core core).main.pc + 1)) ∧
  (∀ (core body count : Nat) (rot : Bool) (s : State), (s.core core).Plain → 0 < count →
    ∃ t, exec (.rep ⟨core, false⟩ rot 0 body count) s = .next t ∧ (t.core core).main.pc = (s.core core).main.pc + 1 ∧
      (t.core core).main.reps = [⟨(s.core core).main.pc + 1, (s.core core).main.pc + body, count, 0, rot⟩]) ∧
  (∀ (core ra body count : Nat) (rot : Bool) (s : State), (s.core core).Plain → 0 < ra → (s.core core).reg ra ≤ 0 →
    ∃ t, exec (.rep ⟨core, false⟩ rot ra body count) s = .next t ∧ (t.core core).main.reps = [] ∧
      (t.core core).main.pc = (s.core core).main.pc + 1 + body) ∧
  (∀ (core ra body count : Nat) (rot : Bool) (s : State), (s.core core).Plain → 0 < ra → 0 < count →
    (count : Int) < (s.core core).reg ra →
    ∃ t, exec (.rep ⟨core, false⟩ rot ra body count) s = .next t ∧ t.bit (Obj.CoreStatus core) 2 = true ∧
      (t.core core).main.reps = [⟨(s.core core).main.pc + 1, (s.core core).main.pc + body, count, 0, rot⟩]) ∧
  (∀ (core : Nat) (s : State), (s.core core).Plain → (s.core core).stitch = none →
    ∃ t, exec (.ret ⟨core, false⟩) s = .next t ∧ (t.core core).stitch = none ∧ (t.core core).main = (s.core core).main) ∧
  (∀ (core o : Nat) (s : State), (s.core core).Plain → (s.core core).stitch = some o → s.stitchByOrder o = none →
    ∃ t, exec (.ret ⟨core, false⟩) s = .next t ∧ (t.core core).stitch = none ∧ (t.stitch o).finished = true)

/-- An interrupt is taken at a boundary only where it is asked for, ends the stitch and raises the hold-off maximum; else
nothing happens. A debug halt is remembered. A memory error of a core that is already stopped is recorded with its address
and raises its fault, and the restored memory ends it. A sentry event of a vector in use that has not run in this tick
starts its handler, waits while a handler runs or the core is inside an instruction, and is deferred and counted where its
handler has run; other vectors do nothing. (R322, R323, R324, R325, R326) -/
def Obligations.LoopCoreEvents : Prop :=
  (∀ (core kind holdoff : Nat) (s : State), (s.core core).irq.testBit kind = true → (s.core core).boundary = true →
    exec (.coreInterruptTaken core kind false holdoff) s = .next
      ((s.put (Obj.CoreIrqHoldoffMax core) (max (s.get (Obj.CoreIrqHoldoffMax core)) (min holdoff 4294967295 : Nat))).setCore core
        { s.core core with irq := clrBitN (s.core core).irq kind, stitch := none, halted := (s.core core).halted || kind == 1 })) ∧
  (∀ (core kind holdoff : Nat) (r : Bool) (s : State), (s.core core).boundary = false ∨ (s.core core).irq.testBit kind = false →
    exec (.coreInterruptTaken core kind r holdoff) s = .next s) ∧
  (∀ (core : Nat) (s : State),
    exec (.debugHalt core) s = .next (s.setCore core { s.core core with irq := setBitN (s.core core).irq 1 })) ∧
  (∀ (core address : Nat) (data : Bool) (s : State), core < 8 → s.row.stopped.testBit core = true →
    exec (.loopCoreMemoryError core data address) s = .next
      (((s.setCore core { s.core core with err := some (data, address), irq := setBitN (s.core core).irq 2 }).setBit
        (Obj.CoreStatus core) 6).raiseValue fkCoreMemory core address)) ∧
  (∀ (core address : Nat) (s : State), (s.core core).err = some (false, address) →
    exec (.memoryRestored core) s = .next ((s.setCore core { s.core core with err := none }).setActive fkCoreMemory core false)) ∧
  (∀ (core : Nat) (s : State), (s.core core).err = none → exec (.memoryRestored core) s = .next s) ∧
  (∀ (core v : Nat) (s : State), s.vectorUsed core v = true → (s.core core).ranVec.testBit v = false →
    (s.core core).pendVec.testBit v = false → (s.core core).inShadow = false → (s.core core).mid = false →
    exec (.sentryEvent core v) s = .next (s.startHandler core v)) ∧
  (∀ (core v : Nat) (s : State), s.vectorUsed core v = true → (s.core core).ranVec.testBit v = false →
    (s.core core).pendVec.testBit v = false → ((s.core core).inShadow = true ∨ (s.core core).mid = true) →
    exec (.sentryEvent core v) s = .next (s.setCore core { s.core core with pendVec := setBitN (s.core core).pendVec v })) ∧
  (∀ (core v : Nat) (s : State), s.vectorUsed core v = true → (s.core core).ranVec.testBit v = true →
    exec (.sentryEvent core v) s = .next ((s.setCore core { s.core core with deferVec := setBitN (s.core core).deferVec v }).count
      (Obj.SentryDeferred (core - 6)) 32 1)) ∧
  (∀ (core v : Nat) (s : State), s.vectorUsed core v = false → exec (.sentryEvent core v) s = .next s)

/-- Arm in state 0 or 4 without a group arms at its time or answers the arming check's status; in states 1 to 3 it answers
0x0501; in a group it answers 0x0302 without a time, 0x0601 for a time too early, and else sends an arm record to the group
and arms at the time. Disarm withdraws a waiting arm time in state 0 and ends a recording in states 1 and 3 with cause 3. A
forced trigger triggers in state 1, is noted in state 2 and answers 0 in states 0 and 4. An arming edge at or after the arm
time, in a later tick than the command, brings state 1 with the counts in use and an empty ring; an earlier one waits. A
local trigger in state 2 fires by its source: the pattern at its sample time, the slot at the edge where it crossed, the
event at its time; source 5 and a slot that did not cross do nothing. (Where a force in state 1 goes is log entry 98.)
(R331, R332, R335, R337, R339, R342) -/
def Obligations.AcquisitionCommands : Prop :=
  (∀ s : State, s.get Obj.AcqState = 0 ∨ s.get Obj.AcqState = 4 → s.nat Obj.AcqGroup = 0 → s.armStatus (s.nat Obj.AcqArmSlot) = 0 →
    exec .arm s = .next ((s.acqArm (s.nat Obj.AcqArmTime)).done)) ∧
  (∀ s : State, 1 ≤ s.get Obj.AcqState → s.get Obj.AcqState ≤ 3 → exec .arm s = .next (s.reply 0x0501)) ∧
  (∀ s : State, s.get Obj.AcqState = 0 ∨ s.get Obj.AcqState = 4 → s.nat Obj.AcqGroup ≠ 0 → s.nat Obj.AcqArmTime ≠ 0 →
    s.nat Obj.AcqArmTime ≤ s.now + 2 * s.tNs → exec .arm s = .next (s.reply 0x0601)) ∧
  (∀ s : State, s.get Obj.AcqState = 0 ∨ s.get Obj.AcqState = 4 → s.nat Obj.AcqGroup ≠ 0 → s.nat Obj.AcqArmTime = 0 →
    exec .arm s = .next (s.reply 0x0302)) ∧
  (∀ (t : Nat) (s : State), s.get Obj.AcqState = 0 ∨ s.get Obj.AcqState = 4 → s.nat Obj.AcqGroup ≠ 0 → s.nat Obj.AcqArmTime = t →
    s.now + 2 * s.tNs < t → s.armStatus (s.nat Obj.AcqArmSlot) = 0 →
    exec .arm s = .next
      (((s.sendTrigger t [1, (s.nat Obj.AcqGroup : Nat), 0, s.get Obj.PlantAddress, t, (t % 4294967296 : Nat)]).acqArm t).done)) ∧
  (∀ s : State, s.get Obj.AcqState = 0 ∨ s.get Obj.AcqState = 4 → s.nat Obj.AcqGroup = 0 → s.armStatus (s.nat Obj.AcqArmSlot) ≠ 0 →
    exec .arm s = .next (s.reply (s.armStatus (s.nat Obj.AcqArmSlot)))) ∧
  (∀ s : State, s.get Obj.AcqState = 0 →
    exec .disarm s = .next { s with acq := { s.acq with armAt := none }, resp := { status := 0 } }) ∧
  (∀ s : State, s.get Obj.AcqState = 1 ∨ s.get Obj.AcqState = 3 → s.get Obj.AcqGroup = 0 →
    ∃ t, exec .disarm s = .next t ∧ t.resp = { status := 0 } ∧ t.get Obj.AcqState = 4 ∧ t.acq.cause = 3 ∧ t.acq.armAt = none) ∧
  (∀ s : State, s.get Obj.AcqState = 0 ∨ s.get Obj.AcqState = 4 → exec .forceTrigger s = .next s.done) ∧
  (∀ (r : AcqRt) (s : State), s.acq = r → s.get Obj.AcqState = 1 → s.get Obj.AcqGroup = 0 → r.trig = none →
    exec .forceTrigger s = .next
      (({ s with acq := { r with trig := some (s.now16, s.nat Obj.PlantAddress) } } : State).acqTrigger).done) ∧
  (∀ (r : AcqRt) (s : State), s.acq = r → s.get Obj.AcqState = 2 → r.trig = none →
    exec .forceTrigger s = .next ({ s with acq := { r with trig := some (s.now16, s.nat Obj.PlantAddress) } } : State).done) ∧
  (∀ s : State, s.acq.armAt = none → exec .armingEdge s = .next s) ∧
  (∀ (time field : Nat) (s : State), s.acq.armAt = some (time, field) → s.get Obj.AcqState = 0 ∨ s.get Obj.AcqState = 4 → time ≤ s.nat Obj.TickEdgeTime →
    s.tick ≠ s.acq.armAfter →
    ∃ t, exec .armingEdge s = .next t ∧ t.get Obj.AcqState = 1 ∧ t.acq.armAt = none ∧ t.acq.edge = s.nat Obj.TickEdgeTime ∧
      t.acq.pre = s.natInUse Obj.AcqPreCount ∧ t.acq.post = s.natInUse Obj.AcqPostCount ∧ t.acq.slot = s.natInUse Obj.AcqArmSlot ∧
      t.acq.ring = [] ∧ t.acq.trig = none ∧ t.acq.marks = 0) ∧
  (∀ (time field : Nat) (s : State), s.acq.armAt = some (time, field) → s.nat Obj.TickEdgeTime < time ∨ s.tick = s.acq.armAfter →
    exec .armingEdge s = .next s) ∧
  (∀ (time : Nat) (s : State), s.get Obj.TrigSource = 5 → exec (.triggerFire time) s = .next s) ∧
  (∀ (r : AcqRt) (time sample : Nat) (source : Option Nat) (s : State), s.acq = r → s.get Obj.TrigSource = 1 →
    s.get Obj.AcqState = 2 → r.patDue = some (sample, source) → r.trig = none →
    exec (.triggerFire time) s = .next { s with acq := { r with
      patDue := none, cond := none, trig := some (s.patternTime sample source time, s.nat Obj.PlantAddress) } }) ∧
  (∀ (r : AcqRt) (time : Nat) (s : State), s.acq = r → s.get Obj.TrigSource = 2 → s.get Obj.AcqState = 2 → s.trigCrossed = true →
    r.trig = none →
    exec (.triggerFire time) s = .next { s with acq := { r with
      patDue := none, cond := none, trig := some (s.nat Obj.TickEdgeTime * 65536, s.nat Obj.PlantAddress) } }) ∧
  (∀ (time : Nat) (s : State), s.get Obj.TrigSource = 2 → s.trigCrossed = false → exec (.triggerFire time) s = .next s) ∧
  (∀ (r : AcqRt) (time at_ : Nat) (s : State), s.acq = r → s.get Obj.TrigSource = 3 ∨ s.get Obj.TrigSource = 4 →
    s.get Obj.AcqState = 2 → r.cond = some at_ → r.trig = none →
    exec (.triggerFire time) s = .next { s with acq := { r with
      patDue := none, cond := none, trig := some (at_, s.nat Obj.PlantAddress) } })

/-- A fire that is due is sent to the group once, with its time split into ns and fraction and with the arming it belongs to. A
record of another group or of group 0 does nothing. An arm record of the own group arms an idle device, and in state 2
counts as rejected and sets its bit (log entry 99). The settle window triggers in state 2 once AcqGroupSettle has passed
since it opened, and does nothing before or in another state. (R338, R339, R340, R341) -/
def Obligations.GroupTriggers : Prop :=
  (∀ (time : Nat) (w s : State), s.acq.fireDue = some time →
    w = s.sendTrigger (time / 65536)
      [2, s.get Obj.AcqGroup, (time % 65536 : Nat), s.get Obj.PlantAddress, (time / 65536 : Nat), s.acq.fireArming] →
    exec .fireRecordSend s = .next { w with acq := { w.acq with fireDue := none } }) ∧
  (∀ s : State, s.acq.fireDue = none → exec .fireRecordSend s = .next s) ∧
  (∀ (r : TrigRecord) (s : State), r.group ≠ s.nat Obj.AcqGroup ∨ r.group = 0 →
    exec (.triggerRecord r) s = .next s) ∧
  (∀ (r : TrigRecord) (s : State), r.group = s.nat Obj.AcqGroup → r.group ≠ 0 → r.kind = 1 → r.plant = false →
    s.get Obj.AcqState = 0 ∨ s.get Obj.AcqState = 4 → s.armStatus (s.nat Obj.AcqArmSlot) = 0 →
    exec (.triggerRecord r) s = .next
      (((s.count Obj.SumInputFrameReceived 64 1).count Obj.SumInputFrameAccepted 64 1).acqArm r.stamp)) ∧
  (∀ (r : TrigRecord) (s : State), r.group = s.nat Obj.AcqGroup → r.group ≠ 0 → r.kind = 1 → r.plant = false →
    s.get Obj.AcqState = 2 →
    exec (.triggerRecord r) s = .next
      (((s.count Obj.SumInputFrameReceived 64 1).count Obj.SumInputFrameRejected 64 1).setBit Obj.AcqStatus 3)) ∧
  (∀ s : State, s.get Obj.AcqState = 2 → s.acq.opened + s.nat Obj.AcqGroupSettle * 65536 ≤ s.now16 →
    exec .settleWindowClose s = .next s.acqTrigger) ∧
  (∀ s : State, s.get Obj.AcqState ≠ 2 ∨ s.now16 < s.acq.opened + s.nat Obj.AcqGroupSettle * 65536 → exec .settleWindowClose s = .next s)

/-- A sample that no group stores changes nothing; a digital sample that is not due by DigDivider changes nothing; one that is
due is compared with the pattern, and with a width of 32 in state 1 it also joins the ring, cut to the pre-trigger length. A
drain empties the ring's part of the write-back queue first and then stores the bytes of the recording in the slot, where no
stream is set; it does nothing while throttling holds the work, and with a stream only the ring's part goes. A full stream
block is written with its credit and moves the buffer on; without a stream or without room nothing is. A mark edge of the
wrong direction only records its time; a filtered one is counted; a latched one joins its queue of 16 and counts; a full
queue counts it dropped and sets its bit. (R328, R334, R343, R347, R373) -/
def Obligations.SamplesAndMarks : Prop :=
  (∀ (group channel time : Nat) (raw : List Int) (s : State), s.oldVals = [] → s.acqStores group channel = false → group ≠ 0 →
    exec (.acqSampleStored group channel time raw) s = .next s) ∧
  (∀ (channel time : Nat) (raw : List Int) (s : State), s.oldVals = [] → s.nat Obj.DigWidth = 0 → s.digDue time = true →
    s.get Obj.AcqState = 1 ∨ s.get Obj.AcqState = 2 →
    exec (.acqSampleStored 0 channel time raw) s = .next (s.patternSample time (s.digWord (raw.getLastD 0)).toNat)) ∧
  (∀ (channel time : Nat) (raw : List Int) (s : State), s.oldVals = [] → s.digDue time = false →
    exec (.acqSampleStored 0 channel time raw) s = .next s) ∧
  (∀ (channel time : Nat) (raw : List Int) (w s : State), s.oldVals = [] → s.get Obj.DigWidth = 32 → s.digDue time = true →
    s.get Obj.AcqState = 1 → w = s.patternSample time (s.digWord (raw.getLastD 0)).toNat → w.acqRoom 4 = true →
    exec (.acqSampleStored 0 channel time raw) s = .next { w with acq := { w.acq with
      ring := keepBase (w.acq.pre + w.acq.settle + 1) (w.acq.ring ++
        [⟨0, time, w.acqBase.1 == 0 && w.acqBase.2.1 == channel, natLE 4 (wrapU 64 (w.digWord (raw.getLastD 0))).toNat⟩]),
      ringWb := w.acq.ringWb + 4 } }) ∧
  (∀ (n k : Nat) (s : State), s.nat Obj.AcqStreamQueue = 0xFF → s.workHeld = false → k = min n s.acq.ringWb →
    exec (.writeBackDrain n) s = .next
      { s.store (Obj.SkeinData s.acq.slot) (s.dataOffset s.acq.slot + s.acq.drained) (s.acq.wb.take (n - k)) with
        acq := { s.acq with ringWb := s.acq.ringWb - k, wb := s.acq.wb.drop (n - k),
                            drained := s.acq.drained + min (n - k) s.acq.wb.length } }) ∧
  (∀ (n : Nat) (s : State), s.workHeld = true → exec (.writeBackDrain n) s = .next s) ∧
  (∀ (n : Nat) (s : State), s.nat Obj.AcqStreamQueue ≠ 0xFF → s.workHeld = false →
    exec (.writeBackDrain n) s = .next { s with acq := { s.acq with ringWb := s.acq.ringWb - n } }) ∧
  (∀ s : State, s.nat Obj.AcqStreamQueue = 0xFF → exec .streamBlockWrite s = .next s) ∧
  (∀ (q : Nat) (s : State), s.get Obj.AcqStreamQueue = q → s.cqRoom q = false →
    exec .streamBlockWrite s = .next s) ∧
  (∀ (q : Nat) (s : State), q < 32 → s.get Obj.AcqStreamQueue = q → 65536 ≤ s.acq.wb.length → s.cqRoom q = true →
    ((s.cq q).blocks.filter id).length < s.nat (Obj.HcqStreamSize q) →
    ∃ t, exec .streamBlockWrite s = .next t ∧ t.acq.wb = s.acq.wb.drop 65536 ∧ t.acq.drained = s.acq.drained + 65536 ∧
      (t.cq q).block = ((s.cq q).block + 1) % s.nat (Obj.HcqStreamSize q) ∧ (t.cq q).occ = (s.cq q).occ + 1 ∧
      (t.cq q).blocks = (s.cq q).blocks ++ [true]) ∧
  (∀ (m at8 width : Nat) (rising : Bool) (s : State), s.oldVals = [] → s.markActive m rising = false →
    exec (.markEdge m at8 rising width) s = .next (s.setMark m { s.mark m with lastEdge := some at8 })) ∧
  (∀ (m at8 width : Nat) (rising : Bool) (s : State), s.oldVals = [] → s.markActive m rising = true →
    s.markFiltered m at8 (s.time16 at8 / 8192 * 8192) width = true →
    exec (.markEdge m at8 rising width) s = .next
      (((s.setMark m { s.mark m with lastEdge := some at8 }).count (Obj.MarkEdges m) 64 1).count (Obj.MarkFiltered m) 64 1)) ∧
  (∀ (m at8 time width : Nat) (rising : Bool) (s : State), m < 16 → s.oldVals = [] → s.markActive m rising = true →
    time = s.time16 at8 / 8192 * 8192 → s.markFiltered m at8 time width = false → (s.mark m).queue.length < 16 →
    ∃ t, exec (.markEdge m at8 rising width) s = .next t ∧ (t.mark m).queue = (s.mark m).queue ++ [time] ∧
      (t.mark m).lastEdge = some at8 ∧
      t.get (Obj.MarkLatched m) = wrapU 64 (s.get (Obj.MarkLatched m) + 1) ∧
      t.get (Obj.MarkPending m) = ((s.mark m).queue.length + 1 : Nat) ∧
      t.get (Obj.MarkEdges m) = wrapU 64 (s.get (Obj.MarkEdges m) + 1)) ∧
  (∀ (m at8 width : Nat) (rising : Bool) (s : State), s.oldVals = [] → s.markActive m rising = true →
    s.markFiltered m at8 (s.time16 at8 / 8192 * 8192) width = false → 16 ≤ (s.mark m).queue.length →
    exec (.markEdge m at8 rising width) s = .next
      ((((s.setMark m { s.mark m with lastEdge := some at8 }).count (Obj.MarkEdges m) 64 1).count (Obj.MarkDropped m) 64 1).setBit
        (Obj.MarkStatus m) 0))

/-- A device out of reset without a signal on port 0 becomes the head and starts enumeration; else nothing happens. An
enumeration frame gives the next position and is passed on; at the end of the chain the map goes back, and from position 63
on a device stays outside. A map is stored with its length and images and is passed on. Accepting the map is refused with
0x0701 outside Ready and Safe. A lost link changes its port and requests the bind-off of the groups that cross it. A link
that comes up first grants classes 2 and 4 their blocks; a later one reconciles. A reconciliation with nothing outstanding
records the partner's epoch and ends the suspension; with another epoch it starts afresh, with the same it takes the counts
up (log entry 104). (R351, R352, R353, R354, R375) -/
def Obligations.TheChainEnumeratesAndJoins : Prop :=
  (∀ s : State, s.get (Obj.JzPortState 0) = 0 → s.get Obj.JzPosition = 0xFF → s.power.inReset = false →
    exec .headDetection s = .next ((s.put Obj.JzPosition 0).startEnumeration)) ∧
  (∀ s : State, s.get Obj.JzPosition ≠ 0xFF ∨ s.get (Obj.JzPortState 0) ≠ 0 ∨ s.power.inReset = true →
    exec .headDetection s = .next s) ∧
  (∀ (position : Nat) (serials : List Nat) (s : State), 63 ≤ position →
    exec (.enumerate position serials) s = .next
      (({ s.put Obj.JzPosition 0xFF with jz := { s.jz with outside := true } } : State).jzUpdate)) ∧
  (∀ (position : Nat) (serials : List Nat) (u s : State), position < 62 → s.get (Obj.JzPortState 1) = 2 →
    u = ({ s.put Obj.JzPosition (position + 1 : Nat) with jz := { s.jz with mapped := false, outside := false } } : State).jzUpdate →
    exec (.enumerate position serials) s = .next
      (u.jzControl 1 5 0 (natLE 1 (position + 1) ++ serialBytes (serials ++ [s.nat Obj.SerialNumber])))) ∧
  (∀ (position : Nat) (serials : List Nat) (u s : State), position < 63 → s.get (Obj.JzPortState 1) ≠ 2 →
    u = ({ s.put Obj.JzPosition (position + 1 : Nat) with jz := { s.jz with mapped := false, outside := false } } : State).jzUpdate →
    exec (.enumerate position serials) s = .next
      ((u.jzControl 0 6 1 (serialBytes (serials ++ [s.nat Obj.SerialNumber]))).storeMap (serials ++ [s.nat Obj.SerialNumber]))) ∧
  (∀ (serials resets : List Nat) (images : List (Nat × List (Nat × Nat × Nat))) (u s : State),
    u = s.jzControl 0 6 1 (serialBytes serials) →
    exec (.map serials resets images) s = .next
      ((s.resetPositions serials ++ resets).dedup.foldl State.destinationLost
        (({ u with jz := { u.jz with images := images } } : State).storeMap serials))) ∧
  (∀ (serials : List Nat) (s : State), s.get (Obj.JzPortState 0) = 0 → serials.length ≤ 64 → s.get Obj.JzChainLength = 0 →
    s.jz.accepted = 0 →
    ∃ t, exec (.map serials [] []) s = .next t ∧ t.get Obj.JzChainLength = serials.length ∧ t.jz.mapped = true ∧
      t.jz.images = []) ∧
  (∀ s : State, s.get Obj.DeviceState = devReady ∨ s.get Obj.DeviceState = devSafe →
    exec .acceptMap s = .next (s.acceptMap.done)) ∧
  (∀ s : State, s.get Obj.DeviceState ≠ devReady → s.get Obj.DeviceState ≠ devSafe → exec .acceptMap s = .next (s.reply 0x0701)) ∧
  (∀ (port cause : Nat) (s : State), exec (.linkLoss port cause []) s = .next (s.linkDown port cause)) ∧
  (∀ (port cause : Nat) (groups : List Nat) (w s : State), w = s.linkDown port cause →
    exec (.linkLoss port cause groups) s = .next (w.each
      (groups.filter fun b => decide (b < 16) && w.get (Obj.BindOffMembers b) != 0 && (w.bind b).phase != 2) State.askBindOff)) ∧
  (∀ (port : Nat) (s : State), port < 2 → (s.port port).wasUp = false → s.get Obj.JzPosition = 0xFF →
    (s.port port).own = [] → (s.port port).relayed = [] →
    ∃ t, exec (.linkUp port) s = .next t ∧ t.get (Obj.JzPortState port) = 2 ∧ (t.port port).wasUp = true ∧
      t.get (Obj.CrHeld (creditClass port 2)) = wrapU 64 (s.get (Obj.CrHeld (creditClass port 2)) + 256) ∧
      t.get (Obj.CrHeld (creditClass port 4)) = wrapU 64 (s.get (Obj.CrHeld (creditClass port 4)) + 512)) ∧
  (∀ (port : Nat) (u s : State), (s.port port).wasUp = true → s.get Obj.JzPosition ≠ 0 →
    u = ((s.put (Obj.JzPortState port) 2).setActive fkJorzer port false).sendReconcile port → port < 2 →
    exec (.linkUp port) s = .next (({ u with jz := { u.jz with mapped := false } } : State).jzUpdate)) ∧
  (∀ (port epoch : Nat) (consumed received : List Nat) (s : State), port < 2 → (s.port port).unacked = [] →
    (s.port port).own = [] → (s.port port).relayed = [] → (s.port port).epoch = none ∨ (s.port port).epoch = some epoch →
    ∃ t, exec (.reconcile port epoch consumed received) s = .next t ∧ (t.port port).epoch = some epoch ∧
      t.bit Obj.Reconciling (creditClass port 2) = false ∧ t.bit Obj.Reconciling (creditClass port 3) = false ∧
      t.bit Obj.Reconciling (creditClass port 4) = false) ∧
  (∀ (port epoch old : Nat) (consumed received : List Nat) (u w s : State), (s.port port).epoch = some old → old ≠ epoch →
    u = ([2, 3, 4].foldl (fun x cls => x.clrBit Obj.Reconciling (creditClass port cls)) s).setPort port
      { s.port port with epoch := some epoch } →
    w = u.reconcileFresh port →
    exec (.reconcile port epoch consumed received) s = .next
      (w.serve port ((w.port port).own.length + (w.port port).relayed.length)).jzUpdate) ∧
  (∀ (port epoch : Nat) (consumed received : List Nat) (u w s : State), (s.port port).epoch = some epoch →
    s.suspended (creditClass port 2) = true ∨ s.suspended (creditClass port 3) = true ∨ s.suspended (creditClass port 4) = true →
    u = ([2, 3, 4].foldl (fun x cls => x.clrBit Obj.Reconciling (creditClass port cls)) s).setPort port
      { s.port port with epoch := some epoch } →
    w = u.reconcileSame port consumed received →
    exec (.reconcile port epoch consumed received) s = .next
      (w.serve port ((w.port port).own.length + (w.port port).relayed.length)).jzUpdate)

/-- A frame with a bad CRC counts and sets the bit, up to the limit in 1 ms without a port change and beyond it with the link
lost. In classes 2 to 4 a frame out of order only answers credits, and one in order is taken and its credit becomes due;
other classes are taken at once. Exchange frames act by their edge. An acknowledge removes the frames up to it and takes the
credits. A delay measurement, at most one per JzDelayInterval, stores the mean of the last 16 delays by the stated formula,
and one above 100 ns loses the link. A sync away from the head sets the head's time and is passed on; at the head it is sent
at its interval only. A credit timeout answers credits that have been due for 2 us. (R355, R356, R357, R358, R360, R361,
R374) -/
def Obligations.JorzerFrames : Prop :=
  (∀ (port : Nat) (f : JzFrame) (s : State), port < 2 → f.cls ≤ 1 →
    (s.port port).crcTimes.length < s.natInUse (Obj.JzCrcLimit) →
    ∃ t, exec (.jorzerFrameReceive port false f) s = .next t ∧
      t.get (Obj.JzCrcErrors port) = wrapU 64 (s.get (Obj.JzCrcErrors port) + 1) ∧ t.bit Obj.JzStatus 3 = true ∧
      t.get (Obj.JzPortState port) = s.get (Obj.JzPortState port)) ∧
  (∀ (port : Nat) (f : JzFrame) (u s : State),
    u = (s.count (Obj.JzCrcErrors port) 64 1).setBit Obj.JzStatus 3 →
    u.natInUse Obj.JzCrcLimit < (s.now :: (s.port port).crcTimes.filter fun t => decide (s.now < t + 1000000)).length →
    exec (.jorzerFrameReceive port false f) s = .next
      ((u.setPort port { s.port port with
        crcTimes := s.now :: (s.port port).crcTimes.filter fun t => decide (s.now < t + 1000000) }).linkDown port 2)) ∧
  (∀ (port : Nat) (f : JzFrame) (s : State), 2 ≤ f.cls → f.cls ≤ 4 → f.seq ≠ ((s.port port).rxSeq + 1) % 65536 →
    exec (.jorzerFrameReceive port true f) s = .next (s.creditFrame port)) ∧
  (∀ (port : Nat) (f : JzFrame) (s : State), 2 ≤ f.cls → f.cls ≤ 4 → f.seq = ((s.port port).rxSeq + 1) % 65536 →
    exec (.jorzerFrameReceive port true f) s = .next
      (((s.setPort port { s.port port with rxSeq := f.seq }).jzTake port f).creditDue port f.cls (blocksOf f.payload))) ∧
  (∀ (port : Nat) (f : JzFrame) (s : State), f.cls ≤ 1 ∨ 5 ≤ f.cls →
    exec (.jorzerFrameReceive port true f) s = .next (s.jzTake port f)) ∧
  (∀ (origin edge : Nat) (payload : List Byte) (s : State),
    exec (.exchangeFrame origin edge payload) s = .next (s.exchange origin edge payload)) ∧
  (∀ (port acked : Nat) (credits : List Nat) (s : State), port < 2 → (s.port port).own = [] → (s.port port).relayed = [] →
    ∃ t, exec (.creditAndAcknowledge port acked credits false) s = .next t ∧
      (t.port port).unacked = afterAck acked (s.port port).unacked ∧
      t.get (Obj.CrConsumed (creditClass port 3)) = wrapU 64 (s.get (Obj.CrConsumed (creditClass port 3)) +
        (min (credits.getD 1 0) (s.nat (Obj.CrOccupancy (creditClass port 3))) : Nat))) ∧
  (∀ (port t1 t2 t3 t4 : Nat) (d : Int) (s : State), port < 2 →
    (s.port port).delays = [] ∨ (s.port port).delayAt + s.natInUse Obj.JzDelayInterval * 1000000 ≤ s.now →
    d = qdiv (((t4 : Int) - t1) - ((t3 : Int) - t2)) 2 + s.get (Obj.JzAsymmetry port) → d ≤ 6553600 →
    ∃ t, exec (.delayMeasurement port t1 t2 t3 t4) s = .next t ∧
      (t.port port).delays = (d :: (s.port port).delays).take 16 ∧ (t.port port).delayAt = s.now ∧
      t.get (Obj.JzLinkDelay port) = wrapU 32 (qdiv ((d :: (s.port port).delays).take 16).sum ((d :: (s.port port).delays).take 16).length) ∧
      t.get (Obj.JzPortState port) = s.get (Obj.JzPortState port)) ∧
  (∀ (port t1 t2 t3 t4 : Nat) (s : State), (s.port port).delays ≠ [] →
    s.now < (s.port port).delayAt + s.natInUse Obj.JzDelayInterval * 1000000 →
    exec (.delayMeasurement port t1 t2 t3 t4) s = .next s) ∧
  (∀ (port t1 t2 t3 t4 : Nat) (s : State), port < 2 →
    (s.port port).delays = [] ∨ (s.port port).delayAt + s.natInUse Obj.JzDelayInterval * 1000000 ≤ s.now →
    6553600 < qdiv (((t4 : Int) - t1) - ((t3 : Int) - t2)) 2 + s.get (Obj.JzAsymmetry port) →
    ∃ u : State, (u.port port).delayAt = s.now ∧ exec (.delayMeasurement port t1 t2 t3 t4) s = .next (u.linkDown port 4)) ∧
  (∀ (stamp fraction arrival : Nat) (correction residence : Int) (s : State), s.get Obj.JzPosition ≠ 0 →
    ∃ t, exec (.sync stamp fraction correction residence arrival) s = .next t ∧
      t.jz.headTime = (stamp : Int) * 65536 + fraction + correction + s.get (Obj.JzLinkDelay 0) ∧ t.jz.headAt = arrival ∧
      t.regs = s.regs ∧
      t = ({ s with jz := t.jz } : State).jzControl 1 9 0
        (natLE 8 stamp ++ natLE 2 fraction ++ intLE 8 (correction + residence))) ∧
  (∀ (stamp fraction arrival : Nat) (correction residence : Int) (s : State), s.get Obj.JzPosition = 0 →
    s.tick % s.nat Obj.JzSyncInterval ≠ 0 → exec (.sync stamp fraction correction residence arrival) s = .next s) ∧
  (∀ (stamp fraction arrival : Nat) (correction residence : Int) (s : State), s.get Obj.JzPosition = 0 →
    s.tick % s.nat Obj.JzSyncInterval = 0 →
    exec (.sync stamp fraction correction residence arrival) s = .next
      (s.jzControl 1 9 0 (natLE 8 s.now ++ natLE 2 s.nowFrac ++ natLE 8 0))) ∧
  (∀ (port : Nat) (s : State), (s.port port).due.sum = 0 ∨ s.now < (s.port port).creditAt + 2000 →
    exec (.creditFrameTimeout port) s = .next s) ∧
  (∀ (port : Nat) (s : State), 0 < (s.port port).due.sum → (s.port port).creditAt + 2000 ≤ s.now →
    exec (.creditFrameTimeout port) s = .next (s.creditFrame port))

/-- A mailbox write while busy sets the bit, and one of a value other than 1 does nothing; otherwise a sound own entry is
accepted and one with a reserved bit set is answered 0x0301 in the mailbox. A tail or head beyond its ring sets the bit; a
legal one is taken and uses or frees entries. A fetch in the class whose turn it is takes the next entry, moves the head and
counts; without a class whose turn it is or without a link nothing is fetched. An interrupt by time signals where its time
is nonzero and entries waited that long, else nothing. A lost link sets the reconciling bits; its reconciliation clears
them, takes the heads, writes entries again and signals. (R364, R365, R366, R369, R370, R371, R372, R375, R376) -/
def Obligations.HostQueuesAndTheMailbox : Prop :=
  (∀ (value : Nat) (entry data : List Byte) (s : State), s.host.busy = true →
    exec (.mailboxDoorbell value entry data) s = .next (s.setBit Obj.HostStatus 0)) ∧
  (∀ (value : Nat) (entry data : List Byte) (s : State), s.host.busy = false → value ≠ 1 →
    exec (.mailboxDoorbell value entry data) s = .next s) ∧
  (∀ (entry data : List Byte) (s : State), s.host.busy = false → entryClean entry = true →
    exec (.mailboxDoorbell 1 entry data) s = .next
      (({ s with host := { s.host with busy := true } } : State).acceptEntry (reqOf 1 0 s.now entry data))) ∧
  (∀ (entry data : List Byte) (s : State), s.host.busy = false → entryClean entry = true →
    s.ownReq (reqOf 1 0 s.now entry data) = true →
    ∃ t, exec (.mailboxDoorbell 1 entry data) s = .next t ∧ t.host.busy = true ∧
      t.host.reqs = s.host.reqs ++ [reqOf 1 0 s.now entry data] ∧ t.regs = s.regs) ∧
  (∀ (entry data : List Byte) (s : State), s.host.busy = false → entryClean entry = false →
    ∃ t, exec (.mailboxDoorbell 1 entry data) s = .next t ∧ t.host.busy = false ∧ t.host.reqs = s.host.reqs ∧
      t.host.mailbox = s.doneEntry (reqOf 1 0 s.now entry data) (s.nat Obj.JzPosition) ⟨0x0301, [], false⟩ ∧ t.regs = s.regs) ∧
  (∀ (q value : Nat) (s : State), s.nat (Obj.HsqSize q) ≤ value →
    exec (.submissionTailDoorbell q value) s = .next (s.setBit Obj.HostStatus 0)) ∧
  (∀ (q value : Nat) (s : State), value < s.nat (Obj.HsqSize q) →
    exec (.submissionTailDoorbell q value) s = .next
      (({ s with host := { s.host with tails := Sparse.insert q value s.host.tails } } : State).creditUse 0
        ((value + s.nat (Obj.HsqSize q) - s.sqTail q) % s.nat (Obj.HsqSize q)))) ∧
  (∀ (q value : Nat) (s : State), s.nat (Obj.HcqSize q) ≤ value →
    exec (.completionHeadDoorbell q value) s = .next (s.setBit Obj.HostStatus 0)) ∧
  (∀ (q value : Nat) (s : State), value < s.nat (Obj.HcqSize q) →
    exec (.completionHeadDoorbell q value) s = .next (s.cqFree q value)) ∧
  (∀ (entry data : List Byte) (s : State), s.fetchClass = none → exec (.submissionFetch entry data) s = .next s) ∧
  (∀ (entry data : List Byte) (s : State), s.host.lost = true → exec (.submissionFetch entry data) s = .next s) ∧
  (∀ (c q : Nat) (l : List Nat) (entry data : List Byte) (w s : State), s.fetchClass = some c → s.sqOf c = q :: l →
    s.host.lost = false → w = s.granted c q →
    exec (.submissionFetch entry data) s = .next
      (((w.put (Obj.HsqHead q) ((w.nat (Obj.HsqHead q) + 1) % w.nat (Obj.HsqSize q) : Nat)).creditReturn 0 1).fetched
        (reqOf 0 q s.now entry data) entry)) ∧
  (∀ (c q : Nat) (l : List Nat) (entry data : List Byte) (s : State), s.fetchClass = some c → s.sqOf c = q :: l →
    s.host.lost = false → s.ownReq (reqOf 0 q s.now entry data) = true → entryClean entry = true →
    (s.host.reqs.any fun x => x.path == 0 && x.tag == (reqOf 0 q s.now entry data).tag) = false → q < 32 →
    ∃ t, exec (.submissionFetch entry data) s = .next t ∧ t.host.reqs = s.host.reqs ++ [reqOf 0 q s.now entry data] ∧
      t.get (Obj.HsqHead q) = ((s.nat (Obj.HsqHead q) + 1) % s.nat (Obj.HsqSize q) : Nat) ∧
      t.get Obj.HostOutstanding = wrapU 64 (s.get Obj.HostOutstanding + 1) ∧
      t.get Obj.HostSubmitted = wrapU 64 (s.get Obj.HostSubmitted + 1)) ∧
  (∀ (q : Nat) (s : State), s.natInUse (Obj.HcqIrqTime q) = 0 ∨ (s.cq q).irq = 0 ∨
    s.now < (s.cq q).oldest + s.natInUse (Obj.HcqIrqTime q) * 1000 → exec (.completionIrqTimeout q) s = .next s) ∧
  (∀ (q : Nat) (s : State), s.natInUse (Obj.HcqIrqTime q) ≠ 0 → 0 < (s.cq q).irq →
    (s.cq q).oldest + s.natInUse (Obj.HcqIrqTime q) * 1000 ≤ s.now →
    exec (.completionIrqTimeout q) s = .next (s.cqSignal q)) ∧
  (∀ s : State, exec .hostLinkLost s = .next ((({ s with host := { s.host with lost := true } } : State).put Obj.Reconciling
    (s.nat Obj.Reconciling ||| 7 : Nat)).setBit Obj.HostStatus 3)) ∧
  (∀ (heads : List (Nat × Nat)) (s : State), s.host.lost = false → exec (.hostReconcile heads) s = .next s) ∧
  (∀ (heads : List (Nat × Nat)) (w x s : State), s.host.lost = true →
    w = heads.foldl (fun y h => if h.2 < y.nat (Obj.HcqSize h.1) ∧ h.2 ≠ (y.cq h.1).head then y.cqFree h.1 h.2 else y)
      (({ s with host := { s.host with lost := false } } : State).put Obj.Reconciling (s.nat Obj.Reconciling &&& 0xFFF8 : Nat)) →
    x = w.each (List.range 32) State.cqRewrite →
    exec (.hostReconcile heads) s = .next (x.each (List.range 32) fun y q =>
      if 0 < (y.cq q).irq ∧ y.natInUse (Obj.HcqIrqCount q) ≤ (y.cq q).irq then y.cqSignal q else y)) ∧
  (∀ s : State, s.host.lost = true → s.host.cqs = [] →
    exec (.hostReconcile []) s = .next (({ s with host := { s.host with lost := false } } : State).put Obj.Reconciling
      (s.nat Obj.Reconciling &&& 0xFFF8 : Nat)))

/-- A read, write or stage request of an outstanding entry runs that access and completes the entry; a no-op completes with
status 0, an unknown opcode with 0x0301, and a length of 0 with status 0. Read through the mailbox, TickPeriod completes
with its byte, the mailbox free and the registers untouched. Without the entry nothing happens. A tag that is outstanding as
long as a nonzero HostTagTimeout completes with 0x0601 and sets its bit; an earlier one, or without the timeout or the tag,
nothing happens. (R365, R367, R368, R369, R370, R378, R50) -/
def Obligations.HostRequests : Prop :=
  (∀ (path source tag : Nat) (r : HostReq) (s : State), s.findReq path source tag = some r → r.opcode = 1 →
    exec (.hostRead path source tag) s = .next
      (s.runReq r fun s => s.readObject r.session r.index r.sub r.offset r.length)) ∧
  (∀ (path source tag : Nat) (r : HostReq) (s : State), s.findReq path source tag = some r → r.opcode = 2 →
    exec (.hostWrite path source tag) s = .next
      (s.runReq r fun s => s.writeObject r.session r.index r.sub r.offset r.data)) ∧
  (∀ (path source tag : Nat) (r : HostReq) (s : State), s.findReq path source tag = some r → r.opcode = 3 →
    exec (.hostStage path source tag) s = .next
      (s.runReq r fun s => s.stageObject r.session r.index r.sub r.offset r.data)) ∧
  (∀ (path source tag : Nat) (r : HostReq) (s : State), s.findReq path source tag = some r → r.opcode = 6 →
    exec (.hostNoOp path source tag) s = .next (s.complete r (s.nat Obj.JzPosition) ⟨0, [], false⟩)) ∧
  (∀ (path source tag : Nat) (r : HostReq) (s : State), s.findReq path source tag = some r → r.opcode = 0 ∨ 7 ≤ r.opcode →
    exec (.hostNoOp path source tag) s = .next (s.complete r (s.nat Obj.JzPosition) ⟨0x0301, [], false⟩)) ∧
  (∀ (path source tag : Nat) (r : HostReq) (s : State), s.findReq path source tag = some r → r.length = 0 → r.opcode = 1 →
    exec (.hostRead path source tag) s = .next (s.complete r (s.nat Obj.JzPosition) ⟨0, [], false⟩)) ∧
  (∀ (source tag : Nat) (r : HostReq) (s : State), s.findReq 1 source tag = some r → r.path = 1 → r.opcode = 1 →
    r.index = 0x2000 → r.sub = 1 → r.offset = 0 → r.length = 1 → r.session = 0 → s.power.recovery = false →
    (s.host.reqs.any fun x => x.waits == 3) = false →
    ∃ t, exec (.hostRead 1 source tag) s = .next t ∧ t.regs = s.regs ∧ t.host.busy = false ∧
      t.host.reqs = s.host.reqs.erase r ∧ t.resp.data = [BitVec.ofInt 8 (s.get Obj.TickPeriod)]) ∧
  (∀ (path source tag : Nat) (s : State), s.findReq path source tag = none →
    exec (.hostRead path source tag) s = .next s ∧ exec (.hostWrite path source tag) s = .next s ∧
    exec (.hostStage path source tag) s = .next s ∧ exec (.hostNoOp path source tag) s = .next s) ∧
  (∀ (tag : Nat) (s : State), s.natInUse Obj.HostTagTimeout = 0 → exec (.tagTimeout tag) s = .next s) ∧
  (∀ (tag : Nat) (s : State), (s.host.reqs.any fun r => r.path == 0 && r.tag == tag) = false → exec (.tagTimeout tag) s = .next s) ∧
  (∀ (tag : Nat) (r : HostReq) (s : State), (s.host.reqs.find? fun r => r.path == 0 && r.tag == tag) = some r →
    s.now < r.time + s.natInUse Obj.HostTagTimeout * 1000000 → exec (.tagTimeout tag) s = .next s) ∧
  (∀ (tag : Nat) (r : HostReq) (s : State), (s.host.reqs.find? fun r => r.path == 0 && r.tag == tag) = some r →
    s.natInUse Obj.HostTagTimeout ≠ 0 → r.time + s.natInUse Obj.HostTagTimeout * 1000000 ≤ s.now →
    exec (.tagTimeout tag) s = .next ((s.setBit Obj.HostStatus 2).complete r r.dest ⟨0x0601, [], true⟩))

/-- A request of a free transmit buffer queues it and counts; of a pending one answers 0x0501. A cancel of a buffer without a
request answers 0x0601; of a waiting one ends the request, of one being sent waits. Release empties a full buffer and leaves
another as it is. A sent frame stamps its buffer, ends the request and counts, and one whose delay and offset leave the
compensation range is a bit error (log entry 111); a lost arbitration ends a one-shot request or leaves it pending; with no
frame on the bus neither does anything. A received frame that no filter takes counts as filtered, one that a filter takes
fills its buffer, and a full buffer counts an overrun and keeps its content. (R386, R387, R388, R389, R390, R391, R392,
R393, R383) -/
def Obligations.CanRequestsAndFrames : Prop :=
  (∀ (c b : Nat) (s : State), c < 2 → b < 64 → s.get (Obj.CanBufRole c b) = 1 → s.canPending c b = false →
    s.get (Obj.CanBufTxSlot c b) = 0xFFFF →
    exec (.canBufRequest c b) s = .next ((((s.setCan c { s.can c with reqs := (s.can c).reqs ++ [(b, s.now)] }).count
      (Obj.CanQueued c) 64 1).put (Obj.CanBufState c b) 1).done)) ∧
  (∀ (c b : Nat) (s : State), c < 2 → b < 64 → s.get (Obj.CanBufRole c b) = 1 → s.canPending c b = true →
    exec (.canBufRequest c b) s = .next (s.reply 0x0501)) ∧
  (∀ (c b sof : Nat) (s : State), c < 2 → b < 64 → s.canPending c b = false →
    exec (.canBufCancel c b sof) s = .next (s.reply 0x0601)) ∧
  (∀ (c b sof : Nat) (s : State), c < 2 → b < 64 → s.canPending c b = true → s.canSending c sof ≠ some b →
    b ∉ (s.can c).cancels →
    exec (.canBufCancel c b sof) s = .next ((((s.setCan c { s.can c with
      reqs := (s.can c).reqs.filter (fun x => x.1 != b), cancels := (s.can c).cancels.erase b,
      tt := (s.can c).tt.filter fun x => x.2 != b }).count (Obj.CanCancelled c) 64 1).put (Obj.CanBufState c b) 0).done)) ∧
  (∀ (c b sof : Nat) (s : State), c < 2 → b < 64 → s.canPending c b = true → s.canSending c sof = some b →
    b ∉ (s.can c).cancels →
    exec (.canBufCancel c b sof) s = .next ((s.setCan c { s.can c with cancels := (s.can c).cancels ++ [b] }).put
      (Obj.CanBufState c b) 2)) ∧
  (∀ (c b : Nat) (s : State), c < 2 → b < 64 → s.get (Obj.CanBufState c b) = 3 →
    exec (.canBufRelease c b) s = .next ((s.put (Obj.CanBufState c b) 0).done)) ∧
  (∀ (c b : Nat) (s : State), c < 2 → b < 64 → s.get (Obj.CanBufState c b) ≠ 3 →
    exec (.canBufRelease c b) s = .next s.done) ∧
  (∀ (c b sof tec rec_ delay : Nat) (s : State), c < 2 → b < 64 → s.canSending c sof = some b → b ∉ (s.can c).cancels →
    s.canTdcFails c b delay = false → tec < 96 → rec_ < 96 → s.canPending c b = true →
    ∃ t, exec (.canFrameTransmitted c ⟨sof, delay⟩ tec rec_) s = .next t ∧ t.get (Obj.CanBufTime c b) = sof ∧
      t.get (Obj.CanBufState c b) = 0 ∧ t.get (Obj.CanTransmitted c) = wrapU 64 (s.get (Obj.CanTransmitted c) + 1) ∧
      t.canPending c b = false ∧ t.get (Obj.CanTec c) = tec ∧ t.get (Obj.CanRec c) = rec_) ∧
  (∀ (c b sof tec rec_ delay : Nat) (s : State), s.canSending c sof = some b →
    s.get (Obj.CanTdcEnable c) = 1 → bitAt (s.natInUse (Obj.CanBufFlags c b)) 1 = true →
    bitAt (s.natInUse (Obj.CanBufFlags c b)) 2 = true → 127 < delay + s.nat (Obj.CanTdcOffset c) →
    exec (.canFrameTransmitted c ⟨sof, delay⟩ tec rec_) s = .next ((s.canFailed c sof).canCounters c tec rec_)) ∧
  (∀ (c sof tec rec_ delay : Nat) (s : State), s.canSending c sof = none →
    exec (.canFrameTransmitted c ⟨sof, delay⟩ tec rec_) s = .next s) ∧
  (∀ (c b sof : Nat) (s : State), c < 2 → b < 64 → s.canSending c sof = some b → s.canPending c b = true →
    s.get (Obj.CanBufOneShot c b) = 1 → b ∉ (s.can c).cancels →
    exec (.canArbitrationLost c sof) s = .next (((s.setCan c { s.can c with
      reqs := (s.can c).reqs.filter (fun x => x.1 != b), cancels := (s.can c).cancels.erase b,
      tt := (s.can c).tt.filter fun x => x.2 != b }).count (Obj.CanCancelled c) 64 1).put (Obj.CanBufState c b) 0)) ∧
  (∀ (c b sof : Nat) (s : State), s.canSending c sof = some b → s.get (Obj.CanBufOneShot c b) = 0 → b ∉ (s.can c).cancels →
    exec (.canArbitrationLost c sof) s = .next
      ((s.setCan c { s.can c with tt := (s.can c).tt.filter fun x => x.2 != b }).put (Obj.CanBufState c b) 1)) ∧
  (∀ (c sof : Nat) (s : State), s.canSending c sof = none → exec (.canArbitrationLost c sof) s = .next s) ∧
  (∀ (c sof tec rec_ id flags : Nat) (data : List Byte) (s : State), c < 2 → (s.can c).mode = 1 → tec < 96 → rec_ < 96 →
    (∀ f, f < 32 → s.canMatches c id (bitAt flags 0) f = false) →
    ∃ t, exec (.canFrameReceived c sof tec rec_ id flags data) s = .next t ∧
      t.get (Obj.CanReceived c) = wrapU 64 (s.get (Obj.CanReceived c) + 1) ∧
      t.get (Obj.CanFiltered c) = wrapU 64 (s.get (Obj.CanFiltered c) + 1) ∧
      t.get (Obj.CanAccepted c) = s.get (Obj.CanAccepted c) ∧ t.mem = s.mem) ∧
  (∀ (c sof tec rec_ id flags f b : Nat) (data : List Byte) (s : State), c < 2 → b < 64 → (s.can c).mode = 1 → tec < 96 →
    rec_ < 96 → f < 32 → s.canMatches c id (bitAt flags 0) f = true →
    (∀ g, g < f → s.canMatches c id (bitAt flags 0) g = false) → s.get (Obj.CanFltBuffer c f) = b →
    s.get (Obj.CanBufRole c b) = 2 → s.get (Obj.CanBufState c b) ≠ 3 →
    ∃ t, exec (.canFrameReceived c sof tec rec_ id flags data) s = .next t ∧ t.get (Obj.CanBufState c b) = 3 ∧
      t.get (Obj.CanBufId c b) = id ∧ t.get (Obj.CanBufLength c b) = data.length ∧ t.get (Obj.CanBufTime c b) = sof ∧
      t.get (Obj.CanAccepted c) = wrapU 64 (s.get (Obj.CanAccepted c) + 1) ∧
      t.get (Obj.CanOverrun c) = s.get (Obj.CanOverrun c)) ∧
  (∀ (c sof tec rec_ id flags f b : Nat) (data : List Byte) (s : State), c < 2 → b < 64 → (s.can c).mode = 1 → tec < 96 →
    rec_ < 96 → f < 32 → s.canMatches c id (bitAt flags 0) f = true →
    (∀ g, g < f → s.canMatches c id (bitAt flags 0) g = false) → s.get (Obj.CanFltBuffer c f) = b →
    s.get (Obj.CanBufRole c b) = 2 → s.get (Obj.CanBufState c b) = 3 →
    ∃ t, exec (.canFrameReceived c sof tec rec_ id flags data) s = .next t ∧ t.get (Obj.CanBufState c b) = 3 ∧
      t.get (Obj.CanOverrun c) = wrapU 64 (s.get (Obj.CanOverrun c) + 1) ∧ t.bit (Obj.CanStatus c) 4 = true ∧ t.mem = s.mem)

/-- An error outside mode 1 changes nothing; one in mode 1 stores the counters; one of an own frame fails that frame first; one
above 255 brings bus-off with its bits and fault. Recovery by the host is remembered in bus-off, and recovery, automatic or
confirmed, clears the counters and the fault. A mode change empties the counters; with the mode in force it does nothing.
Rate detection takes the next entry of its table in turn when its dwell is over and ends with result 0xFF at its timeout. A
slot of the schedule that is due requests its buffer and skips a pending one; its window's end cancels what was not sent,
leaves what is on the bus, and does nothing before the deadline (times by the reference and the cycle: log entry 136).
(R384, R385, R394, R395, R396, R397, R398) -/
def Obligations.CanStatesAndTheSchedule : Prop :=
  (∀ (c tec rec_ sof : Nat) (s : State), (s.can c).mode ≠ 1 →
    exec (.canError c tec rec_ false sof) s = .next s) ∧
  (∀ (c tec rec_ sof : Nat) (s : State), (s.can c).mode = 1 → tec < 96 → rec_ < 96 →
    exec (.canError c tec rec_ false sof) s = .next ((s.put (Obj.CanTec c) tec).put (Obj.CanRec c) rec_)) ∧
  (∀ (c tec rec_ sof : Nat) (s : State),
    exec (.canError c tec rec_ true sof) s = .next ((s.canFailed c sof).canCounters c tec rec_)) ∧
  (∀ (c tec rec_ sof : Nat) (s : State), c < 2 → (s.can c).mode = 1 → 255 < tec → (s.can c).busOff = false →
    ∃ u : State, exec (.canError c tec rec_ false sof) s = .next (u.raiseOnce fkBusOff c) ∧ (u.can c).busOff = true ∧
      (u.can c).confirmed = false ∧ u.bit (Obj.CanStatus c) 0 = true ∧ u.bit (Obj.CanStatus c) 1 = true ∧
      u.bit (Obj.CanStatus c) 2 = true ∧ u.get (Obj.CanTec c) = tec ∧ u.get (Obj.CanRec c) = rec_) ∧
  (∀ (c : Nat) (s : State), c < 2 → (s.can c).busOff = true →
    exec (.canRecover c) s = .next ((s.setCan c { s.can c with confirmed := true }).done)) ∧
  (∀ (c : Nat) (s : State), c < 2 → (s.can c).busOff = false → exec (.canRecover c) s = .next s.done) ∧
  (∀ (c : Nat) (s : State), (s.can c).busOff = true → s.inUse (Obj.CanRecovery c) = 1 ∨ (s.can c).confirmed = true →
    exec (.busOffRecovery c) s = .next ((((s.setCan c { s.can c with busOff := false, confirmed := false }).put
      (Obj.CanTec c) 0).put (Obj.CanRec c) 0).setActive fkBusOff c false)) ∧
  (∀ (c : Nat) (s : State), (s.can c).busOff = false ∨ (s.inUse (Obj.CanRecovery c) ≠ 1 ∧ (s.can c).confirmed = false) →
    exec (.busOffRecovery c) s = .next s) ∧
  (∀ (c : Nat) (s : State), s.nat (Obj.CanMode c) = (s.can c).mode → exec (.canModeChange c) s = .next s) ∧
  (∀ (c : Nat) (s : State), c < 2 → s.nat (Obj.CanMode c) = 0 → (s.can c).mode ≠ 0 → (s.can c).reqs = [] →
    s.faultActive fkBusOff c = false →
    ∃ t, exec (.canModeChange c) s = .next t ∧ (t.can c).mode = 0 ∧ (t.can c).busOff = false ∧ t.get (Obj.CanTec c) = 0 ∧
      t.get (Obj.CanRec c) = 0) ∧
  (∀ (c : Nat) (s : State), (s.can c).mode = 4 → s.inUse (Obj.CanDetectTimeout c) ≠ 0 →
    (s.can c).detectAt + s.natInUse (Obj.CanDetectTimeout c) * 1000000 ≤ s.now →
    exec (.rateDetectionTimeout c) s = .next ((((s.setCan c { s.can c with mode := 2 }).put (Obj.CanMode c) 2).put
      (Obj.CanDetectResult c) 0xFF).setBit (Obj.CanStatus c) 5)) ∧
  (∀ (c : Nat) (s : State), (s.can c).mode ≠ 4 ∨ s.inUse (Obj.CanDetectTimeout c) = 0 ∨
    s.now < (s.can c).detectAt + s.natInUse (Obj.CanDetectTimeout c) * 1000000 →
    exec (.rateDetectionTimeout c) s = .next s) ∧
  (∀ (c : Nat) (s : State), (s.can c).mode = 4 → (s.can c).entryAt + s.natInUse (Obj.CanDetectDwell c) * 1000000 ≤ s.now →
    exec (.rateDetectionDwell c) s = .next (s.setCan c { s.can c with
      entry := ((s.canEntries c).find? fun i => decide ((s.can c).entry < i)).getD ((s.canEntries c).headD (s.can c).entry),
      entryAt := s.now })) ∧
  (∀ (c d e : Nat) (s : State), (s.can c).mode = 4 → s.canEntries c = [d, e] → (s.can c).entry = e → d < e →
    (s.can c).entryAt + s.natInUse (Obj.CanDetectDwell c) * 1000000 ≤ s.now →
    exec (.rateDetectionDwell c) s = .next (s.setCan c { s.can c with entry := d, entryAt := s.now })) ∧
  (∀ (c : Nat) (s : State), (s.can c).mode ≠ 4 ∨ s.now < (s.can c).entryAt + s.natInUse (Obj.CanDetectDwell c) * 1000000 →
    exec (.rateDetectionDwell c) s = .next s) ∧
  (∀ (c j : Nat) (s : State), s.ttDue c j = true → s.canPending c (s.ttField c j 3) = true →
    exec (.ttSlotFire c j) s = .next
      ((s.setCan c { s.can c with fired := Sparse.insert j (s.ttCycle c) (s.can c).fired }).count (Obj.CanTxSkipped c) 32 1)) ∧
  (∀ (c j b : Nat) (s : State), c < 2 → s.ttDue c j = true → s.ttField c j 3 = b → b < 64 →
    s.canPending c b = false → s.ttField c j 1 ≠ 0 →
    ∃ t, exec (.ttSlotFire c j) s = .next t ∧ (t.can c).reqs = (s.can c).reqs ++ [(b, s.now)] ∧
      (t.can c).tt = (s.can c).tt ++ [(j, b)] ∧ t.get (Obj.CanBufState c b) = 1 ∧
      t.get (Obj.CanQueued c) = wrapU 64 (s.get (Obj.CanQueued c) + 1)) ∧
  (∀ (c j : Nat) (s : State), s.ttDue c j = false → exec (.ttSlotFire c j) s = .next s) ∧
  (∀ (c j b sof : Nat) (s : State), ((s.can c).tt.find? fun x => x.1 == j) = some (j, b) → s.canSending c sof = some b →
    s.ttDeadline c j ≤ s.now →
    exec (.ttWindowExpiry c j sof) s = .next (s.setCan c { s.can c with tt := (s.can c).tt.filter fun y => y.1 != j })) ∧
  (∀ (c j sof : Nat) (s : State), s.now < s.ttDeadline c j → exec (.ttWindowExpiry c j sof) s = .next s) ∧
  (∀ (c j b sof : Nat) (s : State), c < 2 → b < 64 → ((s.can c).tt.find? fun x => x.1 == j) = some (j, b) →
    s.canSending c sof ≠ some b → s.ttDeadline c j ≤ s.now → s.canPending c b = true → b ∉ (s.can c).cancels →
    ∃ t, exec (.ttWindowExpiry c j sof) s = .next t ∧ t.canPending c b = false ∧ t.get (Obj.CanBufState c b) = 0 ∧
      t.get (Obj.TtWindowMissed c) = wrapU 32 (s.get (Obj.TtWindowMissed c) + 1) ∧ t.bit (Obj.CanStatus c) 3 = true ∧
      t.get (Obj.CanCancelled c) = wrapU 64 (s.get (Obj.CanCancelled c) + 1))

/-- A valid input whose voltage stays above its threshold for its filter count turns on and counts. A wire break and its end
follow the level and the time. An overload above its limit and time holds the output off for 10 ms, over-temperature above
150 °C sets and below 130 °C ends its state, and between them nothing changes; an open wire is recorded while the output is
on. Outputs are shed one after another without supply and restore in order every 1 ms, one whose cause lasts staying off.
The supply is invalid below 18 V and above 31 V and valid between 19.2 and 30 V, else only measured; the die link and the
supply together make the inputs valid. (R399, R401, R403, R404, R407, R408, R409, R410, R411) -/
def Obligations.FieldInputsAndOutputs : Prop :=
  (∀ (i mv k : Nat) (s : State), i < 16 → s.finValid i = true → 0 < k → s.nat (Obj.FinFilterCount i) ≤ k →
    s.get (Obj.FinInvert i) = 0 → (s.finThresholds i).1 < mv → (s.fin i).f = false →
    ∃ t, exec (.fieldInputChange i [(mv, k)]) s = .next t ∧ (t.fin i).f = true ∧ (t.fin i).voltage = mv ∧
      t.get (Obj.FinTransitions i) = wrapU 32 (s.get (Obj.FinTransitions i) + 1)) ∧
  (∀ (i time : Nat) (s : State), s.get (Obj.FinWireBreakEnable i) = 1 →
    (s.fin i).voltage < s.nat (Obj.FinWireBreakLevel i) * 100 →
    s.natInUse (Obj.FinWireBreakTime i) = 0 ∨ s.natInUse (Obj.FinWireBreakTime i) * 1000 < time →
    exec (.wireBreak ⟨i, time⟩) s = .next (((s.setFin i { s.fin i with broken := true }).setBit (Obj.FinStatus i) 0).raiseOnce
      fkWireBreak i)) ∧
  (∀ (i time : Nat) (s : State), s.get (Obj.FinWireBreakEnable i) = 0 ∨
    s.nat (Obj.FinWireBreakLevel i) * 100 ≤ (s.fin i).voltage ∨
    (s.natInUse (Obj.FinWireBreakTime i) ≠ 0 ∧ time ≤ s.natInUse (Obj.FinWireBreakTime i) * 1000) →
    exec (.wireBreak ⟨i, time⟩) s = .next s) ∧
  (∀ (i mv : Nat) (s : State), (s.fin i).broken = true → s.nat (Obj.FinWireBreakLevel i) * 100 < mv →
    exec (.fieldInputValidAgain i mv) s = .next (((s.setFin i { s.fin i with broken := false }).setActive fkWireBreak i
      false).finFirst i mv)) ∧
  (∀ (o current time : Nat) (s : State), s.foutOn o = true → s.natInUse (Obj.FoutOverloadLimit o) < current →
    s.natInUse (Obj.FoutOverloadTime o) = 0 ∨ s.natInUse (Obj.FoutOverloadTime o) < time →
    exec (.fieldOutputOverload ⟨o, current, time⟩) s = .next (((((s.setFout o { s.fout o with overUntil := s.now + 10000000 }).setBit
      (Obj.FoutStatus o) 0).setBit (Obj.FoutStatus o) 1).raiseOnce fkOverload o))) ∧
  (∀ (o current time : Nat) (s : State), s.foutOn o = false ∨ current ≤ s.natInUse (Obj.FoutOverloadLimit o) ∨
    (s.natInUse (Obj.FoutOverloadTime o) ≠ 0 ∧ time ≤ s.natInUse (Obj.FoutOverloadTime o)) →
    exec (.fieldOutputOverload ⟨o, current, time⟩) s = .next s) ∧
  (∀ (o : Nat) (t : Int) (s : State), 150 < t →
    exec (.fieldOutputOverTemperature o t) s = .next ((((s.setFout o { s.fout o with hot := true }).setBit
      (Obj.FoutStatus o) 0).setBit (Obj.FoutStatus o) 2).raiseOnce fkOverTemp o)) ∧
  (∀ (o : Nat) (t : Int) (s : State), t < 130 → (s.fout o).hot = true →
    exec (.fieldOutputOverTemperature o t) s = .next ((s.setFout o { s.fout o with hot := false }).setActive fkOverTemp o
      false)) ∧
  (∀ (o : Nat) (t : Int) (s : State), 130 ≤ t → t ≤ 150 → exec (.fieldOutputOverTemperature o t) s = .next s) ∧
  (∀ (o current : Nat) (s : State), s.foutOn o = true → current < s.natInUse (Obj.FoutOpenCurrent o) →
    exec (.openWire o current) s = .next ((s.setFout o { s.fout o with opened := true }).setBit (Obj.FoutStatus o) 3)) ∧
  (∀ (o current : Nat) (s : State), s.foutOn o = false ∨ s.natInUse (Obj.FoutOpenCurrent o) ≤ current →
    exec (.openWire o current) s = .next (s.setFout o { s.fout o with opened := false })) ∧
  (∀ (o : Nat) (s : State), s.field.supply = false → s.field.at_ + 12500 * o ≤ s.now → exec (.fieldOutputShed o) s = .next
    ((s.setBit (Obj.FoutStatus o) 0).setBit (Obj.FoutStatus o) 4)) ∧
  (∀ (o : Nat) (s : State), s.field.supply = true ∨ s.now < s.field.at_ + 12500 * o →
    exec (.fieldOutputShed o) s = .next s) ∧
  (∀ (o : Nat) (l : List Nat) (s : State), s.field.restore = o :: l → s.foutCause o = false → s.field.at_ ≤ s.now →
    exec (.fieldOutputAutoRestore o) s = .next
      (({ s with field := { s.field with restore := l, at_ := s.field.at_ + 1000000 } } : State).clrBit (Obj.FoutStatus o) 0)) ∧
  (∀ (o : Nat) (l : List Nat) (s : State), s.field.restore = o :: l → s.foutCause o = true → s.field.at_ ≤ s.now →
    exec (.fieldOutputAutoRestore o) s = .next { s with field := { s.field with restore := l, at_ := s.field.at_ + 1000000 } }) ∧
  (∀ (o : Nat) (s : State), s.field.restore.head? ≠ some o ∨ s.now < s.field.at_ →
    exec (.fieldOutputAutoRestore o) s = .next s) ∧
  (∀ (mv : Nat) (s : State), s.field.supply = true → mv < 18000 ∨ 31000 < mv →
    ∃ t, exec (.fieldSupplyInvalid mv) s = .next t ∧ t.field.supply = false ∧ t.field.restore = [] ∧
      t.get Obj.FieldInputsValid = 0) ∧
  (∀ (mv : Nat) (s : State), s.field.supply = true → 18000 ≤ mv → mv ≤ 31000 →
    exec (.fieldSupplyInvalid mv) s = .next (s.put Obj.FieldSupplyVoltage (mv * 65536 / 1000 : Nat))) ∧
  (∀ (mv : Nat) (inputs : List Nat) (s : State), s.field.supply = false → mv < 19200 ∨ 30000 < mv →
    exec (.fieldSupplyValid mv inputs) s = .next (s.put Obj.FieldSupplyVoltage (mv * 65536 / 1000 : Nat))) ∧
  (∀ (mv : Nat) (inputs : List Nat) (s : State), s.field.supply = false → s.field.link = true → 19200 ≤ mv → mv ≤ 30000 →
    ∃ t, exec (.fieldSupplyValid mv inputs) s = .next t ∧ t.field.supply = true ∧ t.get Obj.FieldInputsValid = 1) ∧
  (∀ s : State, ∃ t, exec .dieLinkLost s = .next t ∧ t.field.link = false ∧ t.get Obj.FieldInputsValid = 0) ∧
  (∀ (inputs : List Nat) (s : State), s.field.link = true → exec (.dieLinkRestored inputs) s = .next s) ∧
  (∀ (inputs : List Nat) (s : State), s.field.link = false → s.field.supply = true →
    ∃ t, exec (.dieLinkRestored inputs) s = .next t ∧ t.field.link = true ∧ t.get Obj.FieldInputsValid = 1)

/-- With no configuration in force a safety cycle leaves every gate-enable and supply-enable off; a cycle checks, then with a
configuration filters, judges pairs and demands and forms groups. A pair in discrepancy longer than its time latches it. A
timer whose delay is over withdraws its group. A request frame names the axes that are disabled or faulted; one that names
all, and a lost request path, leave the enables off. A missed pulse sets its bit and is a safety fault; a failing self-test
is one, a passing one ends in state 2 or, without a configuration or in Boot and Safe, in 1. An acknowledge in demand
answers 0x0702. Unlocking needs the session, the serial number and Safe, and expires 600 s after it. The seal code is read
once. (R412, R414, R416, R418, R419, R420, R422, R423, R424, R425, R428) -/
def Obligations.SafetyFunctions : Prop :=
  (∀ (inputs code response : Nat) (s : State), s.get Obj.SafetyConfigSource = 0 → s.get Obj.SafetyState = 3 →
    s.safety.sealed = false → (∀ g, g < 4 → s.get (Obj.StoGroupState g) = 1) →
    ∃ t, exec (.safetyCycle inputs code response false false false) s = .next t ∧ t.get Obj.SafetyState = 3 ∧
      t.get Obj.GateEnableImage = 0 ∧ t.get Obj.SupplyEnableImage = 0 ∧ (∀ g, g < 4 → t.get (Obj.StoGroupState g) = 1)) ∧
  (∀ (p : Nat) (c : SafetyCfg) (s : State), p < 4 → s.safetyCfg = some c → c.pairs.testBit p = true → s.get (Obj.PairState p) = 2 →
    c.disc * 10 < s.safety.disc.getD p 0 →
    ∃ u : State, exec (.discrepancyLatch p) s = .next (u.raiseOnce fkDiscrepancy p) ∧ u.get (Obj.PairState p) = 3 ∧
      u.bit Obj.SafetyStatus 0 = true ∧ u.safety.passed.testBit p = false) ∧
  (∀ (p : Nat) (s : State), s.get (Obj.PairState p) ≠ 2 → exec (.discrepancyLatch p) s = .next s) ∧
  (∀ (inputs code response : Nat) (crossFail differ readback : Bool) (w s : State),
    w = s.safetyStateEdge.safetyChecks code crossFail differ readback → w.safetyCfg = none →
    exec (.safetyCycle inputs code response crossFail differ readback) s = .next w.safetyGroups) ∧
  (∀ (inputs code response : Nat) (crossFail differ readback : Bool) (c : SafetyCfg) (w u s : State),
    w = s.safetyStateEdge.safetyChecks code crossFail differ readback → w.safetyCfg = some c →
    u = ((w.safetyInputs c.filter inputs).each (List.range 4) fun x p => x.pairCycle c p).demandCycle c →
    exec (.safetyCycle inputs code response crossFail differ readback) s = .next
      (u.put Obj.StoResponseMax (max (u.get Obj.StoResponseMax) (response % 4294967296 : Nat))).safetyGroups) ∧
  (∀ (g : Nat) (s : State), s.safety.timers.testBit g = true → s.safety.timerAt.getD g 0 + s.ss1Delay g ≤ s.now →
    exec (.ss1TimerExpiry g) s = .next (s.withdraw g).safetyLines) ∧
  (∀ (g : Nat) (s : State), s.safety.timers.testBit g = false ∨ s.now < s.safety.timerAt.getD g 0 + s.ss1Delay g →
    exec (.ss1TimerExpiry g) s = .next s) ∧
  (∀ (mask : Nat) (s : State), mask = (List.range 16).foldl (fun m n =>
      if s.get (Obj.AxisState n) = axDisabled ∨ s.get (Obj.AxisState n) = axFaulted then setBitN m n else m) 0 →
    exec .requestFrame s = .next
      ({ s with safety := { s.safety with named := mask, path := true } } : State).safetyLines) ∧
  (∀ s : State, s.sbcOutputs = 0 → (∀ n, n < 16 → s.get (Obj.AxisState n) = axDisabled) →
    ∃ t, exec .requestFrame s = .next t ∧ t.safety.path = true ∧ (∀ n, n < 16 → t.safety.named.testBit n = true) ∧
      t.get Obj.GateEnableImage = 0 ∧ t.get Obj.SupplyEnableImage = 0) ∧
  (∀ s : State, s.sbcOutputs = 0 →
    ∃ t, exec .requestPathLost s = .next t ∧ t.safety.path = false ∧ t.bit Obj.SafetyStatus 5 = true ∧
      t.get Obj.GateEnableImage = 0 ∧ t.get Obj.SupplyEnableImage = 0) ∧
  (∀ (o : Nat) (s : State), exec (.offPulse o true) s = .next s) ∧
  (∀ (o : Nat) (s : State), s.sbcOutputs.testBit o = true → s.get Obj.SafetyState = 3 →
    exec (.offPulse o false) s = .next (s.setBit Obj.SafetyStatus 1)) ∧
  (∀ (o : Nat) (s : State), s.sbcOutputs.testBit o = true →
    exec (.offPulse o false) s = .next (s.setBit Obj.SafetyStatus 1).safetyFault) ∧
  (∀ (o : Nat) (s : State), s.sbcOutputs.testBit o = false → exec (.offPulse o false) s = .next s) ∧
  (∀ s : State, s.get Obj.SafetyState = 0 → exec (.selfTestComplete false) s = .next s.safetyFault) ∧
  (∀ s : State, s.get Obj.SafetyState = 0 → s.get Obj.SafetyConfigSource ≠ 0 → s.get Obj.DeviceState ≠ devBoot →
    s.get Obj.DeviceState ≠ devSafe →
    ∃ t, exec (.selfTestComplete true) s = .next t ∧ t.get Obj.SafetyState = 2) ∧
  (∀ (ok : Bool) (s : State), s.get Obj.SafetyState ≠ 0 → exec (.selfTestComplete ok) s = .next s) ∧
  (∀ s : State, s.get Obj.SafetyState = 0 → s.get Obj.SafetyConfigSource = 0 ∨ s.get Obj.DeviceState = devBoot ∨
      s.get Obj.DeviceState = devSafe →
    ∃ t, exec (.selfTestComplete true) s = .next t ∧ t.get Obj.SafetyState = 1) ∧
  (∀ s : State, s.safety.demand ≠ 0 →
    exec .safetyAcknowledge s = .next ((s.count Obj.StickyClearRefused 32 1).reply 0x0702)) ∧
  (∀ s : State, s.safety.demand = 0 →
    exec .safetyAcknowledge s = .next
      (({ s with safety := { s.safety with acked := 15 } } : State).safetyGroups.done)) ∧
  (∀ (session value : Nat) (s : State), (∀ x ∈ s.sessions, x.num ≠ session) →
    exec (.safetyUnlock session value) s = .next (s.reply 0x0104)) ∧
  (∀ (session value : Nat) (x : Session) (s : State), x ∈ s.sessions → x.num = session → value ≠ s.nat Obj.SerialNumber →
    exec (.safetyUnlock session value) s = .next (s.reply 0x0301)) ∧
  (∀ (session value : Nat) (x : Session) (s : State), x ∈ s.sessions → x.num = session → value = s.nat Obj.SerialNumber →
    s.get Obj.DeviceState ≠ devSafe → exec (.safetyUnlock session value) s = .next (s.reply 0x0701)) ∧
  (∀ (session value : Nat) (x : Session) (s : State), x ∈ s.sessions → x.num = session → value = s.nat Obj.SerialNumber →
    s.get Obj.DeviceState = devSafe →
    exec (.safetyUnlock session value) s = .next (({ s with sessions := s.sessions.map fun y =>
      if y.num = session then { y with unlocked := true, unlockAt := s.now } else y } : State).done)) ∧
  (∀ (session : Nat) (s : State),
    exec (.safetyUnlockExpiry session) s = .next { s with sessions := s.sessions.map fun y =>
      if y.num = session ∧ y.unlockAt + 600000000000 ≤ s.now then { y with unlocked := false } else y }) ∧
  (∀ (session : Nat) (s : State), (∀ x ∈ s.sessions, x.num = session → s.now < x.unlockAt + 600000000000) →
    exec (.safetyUnlockExpiry session) s = .next s) ∧
  (∀ (code : Nat) (s : State), s.safety.sealed = true → exec (.sealRead code) s = .next s) ∧
  (∀ (code : Nat) (u s : State), s.safety.sealed = false → u = s.put Obj.SealCode (code % 256 : Nat) →
    exec (.sealRead code) s = .next
      (({ u with safety := { u.safety with sealed := true } } : State).putSource.safetyStateEdge)) ∧
  (∀ (code : Nat) (s : State), s.safety.sealed = false → code < 256 → code % 16 ≠ 0 →
    ∃ t, exec (.sealRead code) s = .next t ∧ t.get Obj.SealCode = code ∧ t.get Obj.SafetyConfigSource = 1 ∧
      t.safety.sealed = true)

/-- A block reset that is due names its source and cause 5; a chip reset that is due closes the sessions, counts the epoch and
keeps what was sent. A force names a kind and its instances, takes effect on each with its record, count and activity, and
is refused for kinds outside 1 to 0x33 and high words where there is none; a forced row overrun waits for the row. A
reaction of a legal set is stored, another answers its status. The log is erased in Safe only, and the queue is copied to it
in order except while throttling or a shutdown holds the flash. The fatal record and the NERR hold are cleared, and the
pulse of NERR ends after NerrMinPulse. (R431, R432, R434, R435, R436, R437, R438, R456) -/
def Obligations.ResetsAndFaultRecords : Prop :=
  (∀ (source : Nat) (s : State), source ∉ s.faults.blockResets → exec (.blockReset source) s = .next s) ∧
  (∀ (source : Nat) (s : State), source ∈ s.faults.blockResets →
    ∃ t, exec (.blockReset source) s = .next t ∧ t.get Obj.LastResetCause = 5 ∧ t.get Obj.LastBlockReset = source) ∧
  (∀ s : State, s.faults.chipReset = none → exec .chipReset s = .next s) ∧
  (∀ (cause : Nat) (s : State), s.faults.chipReset = some cause → cause ≠ 1 → s.power.inReset = false →
    ∃ t, exec .chipReset s = .next t ∧ t.power.inReset = true ∧ t.get Obj.LastResetCause = cause ∧
      t.get Obj.DeviceState = 0 ∧ t.sessions = [] ∧ t.sent = s.sent ∧
      t.get Obj.ResetEpoch = ((s.nat Obj.ResetEpoch + 1) % 4294967296 : Nat) ∧ t.get Obj.NrstState = s.get Obj.NrstState) ∧
  (∀ (k v : Nat) (high : Bool) (s : State), k = 0 ∨ 0x33 < k → exec (.faultForce k high v) s = .next (s.reply 0x0101)) ∧
  (∀ (k v : Nat) (high : Bool) (s : State), 0x26 ≤ k → k ≤ 0x28 → high = false →
    exec (.faultForce k high v) s = .next (s.reply 0x0204)) ∧
  (∀ s : State, exec (.faultForce fkRowOverrun false 0) s = .next s.done) ∧
  (∀ (i : Nat) (s : State), i < 2 → s.faultActive fkRowOverrun i = false →
    exec (.faultForce fkRowOverrun false (2 ^ i)) s = .next
      (({ s with row := { s.row with forced := setBitN s.row.forced i } } : State).done)) ∧
  (∀ (k i : Nat) (s : State), 0 < k → k ≤ 0x33 → i < 64 → instanceExists k i = true → s.forceStatus k [i] = 0 →
    k ≠ fkRowOverrun → s.get (Obj.FaultReaction k) = 0 → s.get Obj.EventMask = 0 → s.faultActive k i = false →
    ∃ t, exec (.faultForce k false (2 ^ i)) s = .next t ∧ t.resp = { status := 0 } ∧
      t.bit (Obj.FaultSticky k) i = true ∧ t.get (Obj.FaultCount k) = wrapU 32 (s.get (Obj.FaultCount k) + 1) ∧
      t.faultActive k i = true) ∧
  (∀ (k v : Nat) (high : Bool) (l : List Nat) (s : State), 0 < k → k ≤ 0x33 → high = false ∨ Dict.wideKind k = true →
    l = (maskBits v).map (fun i => if high then i + 64 else i) → s.forceStatus k l = 0 →
    exec (.faultForce k high v) s = .next ((s.each l fun s i => s.forceOne k i).done)) ∧
  (∀ (k v : Nat) (s : State), 0 < k → k ≤ 0x33 → reactionStatus k v ≠ 0 →
    exec (.faultReactionWrite k v) s = .next (s.reply (reactionStatus k v))) ∧
  (∀ (k v : Nat) (s : State), 0 < k → k ≤ 0x33 → reactionStatus k v = 0 →
    exec (.faultReactionWrite k v) s = .next ((s.put (Obj.FaultReaction k) v).done)) ∧
  (∀ (k v : Nat) (s : State), 0 < k → k ≤ 0x33 → k ≠ fkSafetyFault → fixedKind k = false → 128 ≤ v →
    exec (.faultReactionWrite k v) s = .next (s.reply 0x0301)) ∧
  (∀ s : State, ∃ t, exec .clearFatalRecord s = .next t ∧ t.resp = { status := 0 } ∧ t.faults.fatal = [] ∧
    t.faults.fatalHold = false ∧ (∀ k, k ≠ Obj.NerrState → t.get k = s.get k)) ∧
  (∀ s : State, s.get Obj.DeviceState ≠ devSafe → exec .eraseLog s = .next (s.reply 0x0701)) ∧
  (∀ s : State, s.get Obj.DeviceState = devSafe →
    ∃ t, exec .eraseLog s = .next t ∧ t.resp = { status := 0 } ∧ t.get Obj.FaultLogHead = 0 ∧ t.get Obj.FaultLogCount = 0 ∧
      (∀ c ∈ t.mem, cellKey c.1 ≠ Obj.FaultLog)) ∧
  (∀ s : State, s.flashStopped = true ∨ s.workHeld = true → exec .faultLogCopy s = .next s) ∧
  (∀ (w s : State), s.flashStopped = false → s.workHeld = false →
    w = { s with faults := { s.faults with
      queue := [], recent := s.faults.recent.filter fun p => decide (s.now - p.2.time < 10000000) } } →
    exec .faultLogCopy s = .next (s.faults.queue.foldl (fun t e =>
      ({ t with faults := { t.faults with recent := (t.nat Obj.FaultLogHead, e) :: t.faults.recent } } : State).logWrite e) w)) ∧
  (∀ s : State, s.flashStopped = false → s.workHeld = false → s.faults.queue = [] →
    ∃ t, exec .faultLogCopy s = .next t ∧ t.faults.queue = [] ∧ t.regs = s.regs ∧ t.mem = s.mem) ∧
  (∀ (e : LogEntry) (s : State), s.flashStopped = false → s.workHeld = false → s.faults.queue = [e] →
    ∃ t, exec .faultLogCopy s = .next t ∧ t.faults.queue = [] ∧
      t.get Obj.FaultLogHead = ((s.nat Obj.FaultLogHead + 1) % 131072 : Nat) ∧
      t.faults.recent.head? = some (s.nat Obj.FaultLogHead, e)) ∧
  (∀ s : State, s.faults.running = true → s.faults.fatalHold = false → s.power.inReset = false → s.power.recovery = false →
    (∀ k ∈ s.faults.nKinds, s.nat (Obj.FaultSticky k) = 0 ∧ s.nat (Obj.FaultStickyHigh k) = 0) →
    s.faults.pulseAt + s.natInUse Obj.NerrMinPulse * 1000000 ≤ s.now →
    ∃ t, exec .nerrMinPulseExpiry s = .next t ∧ t.get Obj.NerrState = 0 ∧ t.faults.pulse = false) ∧
  (∀ s : State, s.now < s.faults.pulseAt + s.natInUse Obj.NerrMinPulse * 1000000 → exec .nerrMinPulseExpiry s = .next s) ∧
  (∀ s : State, s.faults.fatalHold = true → s.faults.pulseAt + s.natInUse Obj.NerrMinPulse * 1000000 ≤ s.now →
    exec .nerrMinPulseExpiry s = .next { s with faults := { s.faults with pulse := false } })

/-- Fourteen plausible readings become the sensor registers, in a reset the cooling run follows and otherwise zones, hottest
zone, criticality, shutdown and hold. The throttle level moves one step up above and one step down below its hysteresis; the
first step raises the fault, and a level of 7 for the escalation time raises the thermal limit. A supply outside its window
and a clock fault reset the part with cause 1, in a reset only their bit is set; the VIO18 supervisor below 1.5 V resets
itself. NRST is qualified, released, failed closed and ignored as its rules say. A release of reset boots the selected bank,
and the end of start-up applies the stored configuration. The states Ready, Run, Halt and Safe follow their commands where
allowed, a watchdog resets with cause 6 and a device reset has cause 3. (R439, R441, R443, R444, R445, R450, R452, R457,
R458, R459, R460, R462) -/
def Obligations.TemperaturesSuppliesAndStates : Prop :=
  (∀ s : State, s.power.inReset = true → s.thermal.hold = none → exec (.temperatureMeasurement []) s = .next s) ∧
  (∀ (l : List (Nat × Int)) (s : State), s.power.inReset = true → s.thermal.hold = none → l.length = 14 →
    s.get Obj.SensorBroken = 0 → s.thermal.prev = [] → (∀ x ∈ l, -550 ≤ x.2 ∧ x.2 ≤ 1750) →
    ∃ t, exec (.temperatureMeasurement l) s = .next t ∧ t.get Obj.SensorBroken = 0 ∧
      (∀ i, i < 14 → t.get (Obj.SensorTemperature i) = (l.getD i (0, 0)).2 ∧
        t.get (Obj.SensorFrequency i) = (l.getD i (0, 0)).1)) ∧
  (∀ (l : List (Nat × Int)) (w s : State),
    w = s.each ((List.range l.length).filter fun i => decide (i < 14)) (fun y i =>
      y.sensorRead i (l.getD i (0, 0)).1 (l.getD i (0, 0)).2) → w.power.inReset = true →
    exec (.temperatureMeasurement l) s = .next (w.coolRun l)) ∧
  (∀ (l : List (Nat × Int)) (w x s : State),
    w = s.each ((List.range l.length).filter fun i => decide (i < 14)) (fun y i =>
      y.sensorRead i (l.getD i (0, 0)).1 (l.getD i (0, 0)).2) → w.power.inReset = false →
    x = w.each (List.range 7) State.zoneRead →
    exec (.temperatureMeasurement l) s = .next
      (((x.put Obj.HottestZone x.hottest).put Obj.FieldDieTemperature (x.zone 6)).zoneRuns.criticalCheck.shutdownCheck.thermalHold)) ∧
  (∀ s : State, 7 ≤ s.get Obj.ThrottleLevel ∨ (s.zone s.hottest ≤ s.throttleAt ∧ s.rateHigh = false) →
    exec .throttleUp s = .next s) ∧
  (∀ (u s : State), s.get Obj.ThrottleLevel = 0 → s.throttleAt < s.zone s.hottest ∨ s.rateHigh = true →
    u = (s.put Obj.ThrottleLevel 1).setBit Obj.ThermalStatus 0 →
    exec .throttleUp s = .next (u.raiseWith fkThrottle u.hottest (u.zone u.hottest) false true)) ∧
  (∀ s : State, 0 < s.get Obj.ThrottleLevel → s.get Obj.ThrottleLevel < 7 →
    s.throttleAt < s.zone s.hottest ∨ s.rateHigh = true →
    exec .throttleUp s = .next
      ((s.put Obj.ThrottleLevel (s.get Obj.ThrottleLevel + 1)).setBit Obj.ThermalStatus 0)) ∧
  (∀ s : State, s.get Obj.ThrottleLevel ≤ 0 ∨ s.rateHigh = true ∨
    (∃ z, z < 7 ∧ s.throttleAt - 10 * s.inUse Obj.ThermalHysteresis ≤ s.zone z) → exec .throttleDown s = .next s) ∧
  (∀ s : State, s.get Obj.ThrottleLevel = 1 → s.rateHigh = false →
    (∀ z, z < 7 → s.zone z < s.throttleAt - 10 * s.inUse Obj.ThermalHysteresis) →
    exec .throttleDown s = .next
      ((s.put Obj.ThrottleLevel 0).each (List.range 7) fun s z => s.setActive fkThrottle z false)) ∧
  (∀ s : State, 1 < s.get Obj.ThrottleLevel → s.rateHigh = false →
    (∀ z, z < 7 → s.zone z < s.throttleAt - 10 * s.inUse Obj.ThermalHysteresis) →
    exec .throttleDown s = .next (s.put Obj.ThrottleLevel (s.get Obj.ThrottleLevel - 1))) ∧
  (∀ s : State, s.get Obj.ThrottleLevel ≠ 7 ∨ s.natInUse Obj.ThermalEscalateTime = 0 ∨
    (s.thermal.seven.lookup s.hottest).getD 0 < s.natInUse Obj.ThermalEscalateTime * 1000 ∨ s.hottest ∈ s.thermal.limited →
    exec .thermalEscalation s = .next s) ∧
  (∀ s : State, s.get Obj.ThrottleLevel = 7 → s.natInUse Obj.ThermalEscalateTime ≠ 0 →
    s.natInUse Obj.ThermalEscalateTime * 1000 ≤ (s.thermal.seven.lookup s.hottest).getD 0 → s.hottest ∉ s.thermal.limited →
    ∃ u : State, exec .thermalEscalation s = .next (u.raiseWith fkThermal s.hottest (s.zone s.hottest) false
        (decide (s.criticalAt ≤ s.zone s.hottest))) ∧
      u = ({ s with thermal := { s.thermal with limited := s.hottest :: s.thermal.limited } } : State).setBit
        Obj.ThermalStatus 1) ∧
  (∀ (limit : Int) (s : State), s.thermal.hold = some limit → 1000 ≤ s.thermal.coolRun →
    exec .thermalHoldRelease s = .next { s with thermal := { s.thermal with hold := none, coolRun := 0 } }) ∧
  (∀ s : State, s.thermal.hold = none ∨ s.thermal.coolRun < 1000 → exec .thermalHoldRelease s = .next s) ∧
  (∀ (supply mv : Nat) (s : State), supplyOk supply mv = true ∨ 4 ≤ supply → exec (.supplyFault supply mv) s = .next s) ∧
  (∀ (supply mv : Nat) (s : State), supply < 4 → supplyOk supply mv = false → supply ≠ 2 ∨ 1500 ≤ mv →
    s.power.inReset = false →
    ∃ t, exec (.supplyFault supply mv) s = .next t ∧ t.power.inReset = true ∧ t.power.good = false ∧
      t.get Obj.LastResetCause = 1 ∧ t.get Obj.ResetEpoch = 0 ∧ t.get Obj.ResetStatus = 4 ∧
      t.get (Obj.SupplyVoltage supply) = (mv * 65536 / 1000 : Nat)) ∧
  (∀ (supply mv : Nat) (s : State), supply < 4 → supplyOk supply mv = false → supply ≠ 2 ∨ 1500 ≤ mv → s.power.inReset = true →
    exec (.supplyFault supply mv) s = .next
      (({ s.put Obj.ResetStatus (s.nat Obj.ResetStatus ||| 4 : Nat) with power := { s.power with good := false } } : State).put
        (Obj.SupplyVoltage supply) (mv * 65536 / 1000 : Nat))) ∧
  (∀ (mv : Nat) (s : State), mv < 1500 →
    ∃ t, exec (.supplyFault 2 mv) s = .next t ∧ t.faults = {} ∧ t.thermal = {} ∧ t.power = {} ∧
      t.get Obj.LastResetCause = 1 ∧ t.get Obj.NrstState = 0 ∧ t.get Obj.ResetStatus = 0) ∧
  (∀ s : State, s.power.inReset = false →
    ∃ t, exec .clockFault s = .next t ∧ t.power.inReset = true ∧ t.get Obj.LastResetCause = 1 ∧ t.get Obj.ResetEpoch = 0 ∧
      t.get Obj.ResetStatus = 8) ∧
  (∀ s : State, s.power.inReset = true →
    exec .clockFault s = .next (s.put Obj.ResetStatus (s.nat Obj.ResetStatus ||| 8 : Nat))) ∧
  (∀ (i : Nat) (l : List Nat) (s : State), i < 4 → supplyOk i (l.getD i 0) = false → exec (.powerGood l) s = .next s) ∧
  (∀ (v0 v1 v2 v3 : Nat) (s : State), supplyOk 0 v0 = true → supplyOk 1 v1 = true → supplyOk 2 v2 = true →
    supplyOk 3 v3 = true →
    ∃ t, exec (.powerGood [v0, v1, v2, v3]) s = .next t ∧ t.power.good = true ∧
      t.get (Obj.SupplyVoltage 0) = (v0 * 65536 / 1000 : Nat) ∧ t.get (Obj.SupplyVoltage 3) = (v3 * 65536 / 1000 : Nat)) ∧
  (∀ s : State, s.get Obj.NrstState = 2 → exec .nrstQualified s = .next s) ∧
  (∀ s : State, s.get Obj.NrstState ≠ 2 → s.power.inReset = false →
    ∃ t, exec .nrstQualified s = .next t ∧ t.power.inReset = true ∧ t.power.nrstLow = true ∧ t.get Obj.NrstState = 1 ∧
      t.get Obj.LastResetCause = 2) ∧
  (∀ s : State, s.get Obj.NrstState ≠ 2 → s.power.inReset = true →
    exec .nrstQualified s = .next (({ s with power := { s.power with nrstLow := true } } : State).put Obj.NrstState 1)) ∧
  (∀ s : State, s.get Obj.NrstState ≠ 1 → exec .nrstFailedClosed s = .next s) ∧
  (∀ s : State, s.get Obj.NrstState ≠ 2 → exec .nrstIgnoreEnd s = .next s) ∧
  (∀ s : State, s.get Obj.NrstState = 1 →
    exec .nrstRelease s = .next (({ s with power := { s.power with nrstLow := false } } : State).put Obj.NrstState 0)) ∧
  (∀ s : State, s.get Obj.NrstState ≠ 1 →
    exec .nrstRelease s = .next { s with power := { s.power with nrstLow := false } }) ∧
  (∀ s : State, s.get Obj.NrstState = 1 →
    exec .nrstFailedClosed s = .next ((({ s with power := { s.power with failedStart := true } } : State).put Obj.NrstState
      2).setBit Obj.ResetStatus 0)) ∧
  (∀ s : State, s.get Obj.NrstState = 2 →
    exec .nrstIgnoreEnd s = .next (({ s with power := { s.power with nrstLow := false } } : State).put Obj.NrstState 0)) ∧
  (∀ (locked : Bool) (bad : Nat) (s : State), s.releaseOk locked = false →
    exec (.resetRelease locked bad) s = .next s) ∧
  (∀ (bootMs : Nat) (s : State), s.power.booting = false → exec (.startupComplete bootMs) s = .next s) ∧
  (∀ (bad : Nat) (s : State), s.releaseOk true = true → s.get Obj.LastResetCause ≠ 1 → s.selTrial = false →
    s.selBank < 2 → s.bankGood bad s.selBank = true → s.power.failedStart = false → s.faults.fatal = [] →
    ∃ t, exec (.resetRelease true bad) s = .next t ∧ t.power.inReset = false ∧ t.power.booting = true ∧
      t.faults.running = true ∧ t.get Obj.BootBank = (s.selBank + 1 : Nat) ∧ t.get Obj.UpdateState = 0 ∧
      t.get Obj.ResetEpoch = s.get Obj.ResetEpoch) ∧
  (∀ (bootMs : Nat) (s : State), s.power.booting = true → s.storedPayload = none →
    exec (.startupComplete bootMs) s = .next
      (((({ s.derive with power := { s.derive.power with booting := false } } : State).enterSafe).put Obj.BootTime
        bootMs).startupTarget)) ∧
  (∀ (bootMs : Nat) (p : List Byte) (w s : State), s.power.booting = true → s.storedPayload = some (p, false) → p ≠ [] →
    w = s.applyStored p →
    exec (.startupComplete bootMs) s = .next
      ((({ w with power := { w.power with booting := false } } : State).enterSafe.put Obj.BootTime bootMs).startupTarget)) ∧
  (∀ (core : Nat) (s : State), s.power.inReset = false →
    exec (.supervisorWatchdog core) s = .next ((s.raise fkWatchdog core).chipReset 6)) ∧
  (∀ (core : Nat) (s : State), s.power.inReset = true → exec (.supervisorWatchdog core) s = .next s) ∧
  (∀ s : State, s.readyOk = false → exec .deviceReady s = .next (s.reply 0x0701)) ∧
  (∀ s : State, s.readyOk = true → exec .deviceReady s = .next s.enterReady.done) ∧
  (∀ s : State, s.get Obj.DeviceState = devReady → exec .deviceRun s = .next ((s.put Obj.DeviceState devRun).done)) ∧
  (∀ s : State, s.get Obj.DeviceState = devHalt → s.flashStopped = false →
    exec .deviceRun s = .next ((s.put Obj.DeviceState devRun).done)) ∧
  (∀ s : State, s.get Obj.DeviceState = devHalt → s.flashStopped = true → exec .deviceRun s = .next (s.reply 0x0701)) ∧
  (∀ s : State, s.get Obj.DeviceState ≠ devReady → s.get Obj.DeviceState ≠ devHalt → exec .deviceRun s = .next (s.reply 0x0701)) ∧
  (∀ s : State, s.get Obj.DeviceState = devRun → exec .deviceHalt s = .next s.enterHalt.done) ∧
  (∀ s : State, s.get Obj.DeviceState ≠ devRun → exec .deviceHalt s = .next (s.reply 0x0701)) ∧
  (∀ s : State, s.get Obj.DeviceState = devBoot ∨ s.get Obj.DeviceState = devSafe → exec .deviceSafe s = .next (s.reply 0x0701)) ∧
  (∀ (a : Nat) (s : State), s.get Obj.DeviceState ≠ devBoot → s.get Obj.DeviceState ≠ devSafe → a < 64 → s.get (Obj.AxisState a) ≠ axDisabled →
    exec .deviceSafe s = .next (s.reply 0x0703)) ∧
  (∀ s : State, s.get Obj.DeviceState ≠ devBoot → s.get Obj.DeviceState ≠ devSafe → (∀ a, a < 64 → s.get (Obj.AxisState a) = axDisabled) →
    exec .deviceSafe s = .next s.enterSafe.done) ∧
  (∀ s : State, s.power.inReset = false →
    ∃ t, exec .deviceReset s = .next t ∧ t.resp = { status := 0 } ∧ t.power.inReset = true ∧ t.get Obj.LastResetCause = 3)

/-- An update begins from states 0 and 5 outside a trial (or in recovery) and clears the inactive bank; activation from state 3
in Safe or recovery resets the part with cause 7, answers 0x0501 while the store is busy, and without a verified read-back
answers 0 and leaves state 3 (log entry 128). Data follow their offset or answer 0x0301. The bank's erase and the operations
of the flash complete; a page that fails is tried once more and then failed. Confirm, revert and abort act in their states.
Save and clear are taken, refused in recovery with 0x0701 and while busy with 0x0501, and a journal sector is reclaimed
where it can be and erased where no live record is in it. A measured maximum is cleared where the object is one. (R468,
R469, R472, R473, R477, R478, R479, R481, R483) -/
def Obligations.UpdateAndStore : Prop :=
  (∀ s : State, (s.get Obj.UpdateState ≠ 0 ∧ s.get Obj.UpdateState ≠ 5) ∨ (s.selTrial = true ∧ s.power.recovery = false) →
    exec .updateBegin s = .next (s.reply 0x0701)) ∧
  (∀ s : State, s.get Obj.UpdateState = 0 ∨ s.get Obj.UpdateState = 5 → s.selTrial = false ∨ s.power.recovery = true →
    s.inactiveBank < 2 →
    ∃ t, exec .updateBegin s = .next t ∧ t.resp = { status := 0 } ∧ t.get Obj.UpdateState = 1 ∧
      t.get (Obj.BankState s.inactiveBank) = 0 ∧ t.get Obj.UpdateReceived = 0 ∧ t.get Obj.UpdateRejectCause = 0) ∧
  (∀ (verified : Bool) (s : State), s.get Obj.UpdateState ≠ 3 ∨ (s.get Obj.DeviceState ≠ devSafe ∧ s.power.recovery = false) →
    exec (.updateActivate verified) s = .next (s.reply 0x0701)) ∧
  (∀ (verified : Bool) (s : State), s.get Obj.UpdateState = 3 → s.get Obj.DeviceState = devSafe ∨ s.power.recovery = true →
    s.storeBusy = true → exec (.updateActivate verified) s = .next (s.reply 0x0501)) ∧
  (∀ s : State, s.get Obj.UpdateState = 3 → s.get Obj.DeviceState = devSafe ∨ s.power.recovery = true → s.storeBusy = false →
    exec (.updateActivate false) s = .next s.done) ∧
  (∀ s : State, s.get Obj.UpdateState = 3 → s.get Obj.DeviceState = devSafe ∨ s.power.recovery = true → s.storeBusy = false →
    s.flashStopped = false → s.power.inReset = false →
    ∃ t, exec (.updateActivate true) s = .next t ∧ t.power.inReset = true ∧ t.get Obj.LastResetCause = 7 ∧
      t.resp = { status := 0 }) ∧
  (∀ s : State, s.get Obj.UpdateState ≠ 4 ∨ s.get Obj.DeviceState = devBoot → exec .updateConfirm s = .next (s.reply 0x0701)) ∧
  (∀ s : State, s.get Obj.UpdateState = 4 → s.get Obj.DeviceState ≠ devBoot →
    ∃ t, exec .updateConfirm s = .next t ∧ t.resp = { status := 0 } ∧ t.get Obj.UpdateState = 0 ∧
      t.get Obj.UpdateTrialCount = 0 ∧ t.nv.fallback = false) ∧
  (∀ s : State, s.get Obj.UpdateState = 4 →
    exec .updateRevert s = .next
      ((({ s with nv := { s.nv with fallback := true } } : State).put Obj.UpdateState 0).done)) ∧
  (∀ s : State, s.get Obj.UpdateState ≠ 4 → exec .updateRevert s = .next (s.reply 0x0701)) ∧
  (∀ s : State, 1 ≤ s.get Obj.UpdateState → s.get Obj.UpdateState ≤ 3 → s.inactiveBank < 2 →
    ∃ t, exec .updateAbort s = .next t ∧ t.resp = { status := 0 } ∧ t.get Obj.UpdateState = 0 ∧
      t.get (Obj.BankState s.inactiveBank) = 0 ∧ t.nv.bankPages = 0) ∧
  (∀ s : State, s.get Obj.UpdateState < 1 ∨ 3 < s.get Obj.UpdateState → exec .updateAbort s = .next (s.reply 0x0701)) ∧
  (∀ (offset : Nat) (data : List Byte) (s : State), s.get Obj.UpdateState ≠ 2 →
    exec (.updateData offset data) s = .next (s.reply 0x0701)) ∧
  (∀ (offset : Nat) (data : List Byte) (s : State), s.get Obj.UpdateState = 2 → (offset : Int) ≠ s.get Obj.UpdateReceived →
    0 ≤ s.get Obj.UpdateReceived →
    exec (.updateData offset data) s = .next (s.reply 0x0301)) ∧
  (∀ (offset : Nat) (data : List Byte) (s : State), s.get Obj.UpdateState = 2 → s.updateFits offset data = false →
    exec (.updateData offset data) s = .next (s.reply 0x0301)) ∧
  (∀ (offset : Nat) (data : List Byte) (s : State), s.get Obj.UpdateState = 2 → s.updateFits offset data = true →
    ∃ t, exec (.updateData offset data) s = .next t ∧ t.resp = { status := 0 } ∧
      t.get Obj.UpdateReceived = (offset + data.length : Nat)) ∧
  (∀ s : State, s.get Obj.UpdateState = 1 → s.flashStopped = false →
    ∃ t, exec .bankErased s = .next t ∧ t.get Obj.UpdateState = 2 ∧
      (∀ c ∈ t.mem, cellKey c.1 ≠ bankKey s.inactiveBank) ∧
      (∀ c ∈ s.mem, cellKey c.1 ≠ bankKey s.inactiveBank → c ∈ t.mem)) ∧
  (∀ s : State, s.get Obj.UpdateState ≠ 1 ∨ s.flashStopped = true → exec .bankErased s = .next s) ∧
  (∀ (ok : Bool) (s : State), s.nv.op = none → exec (.flashOperationComplete ok) s = .next s) ∧
  (∀ (o : FlashOp) (s : State), s.nv.op = some o → s.nv.retried = false →
    exec (.flashOperationComplete false) s = .next { s with nv := { s.nv with retried := true } }) ∧
  (∀ (o : FlashOp) (s : State), s.nv.op = some o → s.nv.retried = true →
    exec (.flashOperationComplete false) s = .next s.flashFailed.flashNext) ∧
  (∀ (o : FlashOp) (s : State), s.nv.op = some o → exec (.flashOperationComplete true) s = .next s.flashDone.flashNext) ∧
  (∀ s : State, s.power.recovery = true → exec .save s = .next (s.reply 0x0701) ∧ exec .clear s = .next (s.reply 0x0701)) ∧
  (∀ s : State, s.power.recovery = false → s.storeBusy = true →
    exec .save s = .next (s.reply 0x0501) ∧ exec .clear s = .next (s.reply 0x0501)) ∧
  (∀ s : State, s.power.recovery = false → s.storeBusy = false →
    exec .save s = .next { s with nv := { s.nv with saveDue := true } }) ∧
  (∀ s : State, s.power.recovery = false → s.storeBusy = false →
    exec .clear s = .next (s.queueTxn (s.nat Obj.StoreFormat) [])) ∧
  (∀ (sector : Nat) (s : State), s.nv.op.isSome = true ∨ s.flashStopped = true ∨ s.sectorFree sector = true ∨ 64 ≤ sector ∨
    sector = s.nv.journalAt.1 ∨ sector = s.nv.smallAt.1 → exec (.journalReclaim sector) s = .next s) ∧
  (∀ (sector : Nat) (t s : State), s.nv.op = none → s.flashStopped = false → sector < 64 → sector ≠ s.nv.journalAt.1 →
    sector ≠ s.nv.smallAt.1 → s.sectorFree sector = false → s.nvReclaim sector = some t →
    exec (.journalReclaim sector) s = .next
      (({ t with nv := { t.nv with op := some (.erase sector) } } : State).put Obj.StoreState 2)) ∧
  (∀ (sector : Nat) (s : State), s.nvReclaim sector = none → exec (.journalReclaim sector) s = .next s) ∧
  (∀ (sector : Nat) (s : State), s.nv.op = none → s.flashStopped = false → sector < 64 → sector ≠ s.nv.journalAt.1 →
    sector ≠ s.nv.smallAt.1 → s.sectorFree sector = false → (∀ r ∈ s.nv.records, r.sector = sector → s.nvLive r = false) →
    ∃ t, exec (.journalReclaim sector) s = .next t ∧ t.nv.op = some (.erase sector) ∧ t.get Obj.StoreState = 2 ∧
      (∀ r ∈ t.nv.records, r.sector ≠ sector)) ∧
  (∀ s : State, exec (.measuredMaximumReset Obj.StoResponseMax) s = .next ((s.put Obj.StoResponseMax 0).done)) ∧
  (∀ (key : Nat) (r : Dict.Row) (s : State), Dict.row key = some r → measuredMax r = true →
    exec (.measuredMaximumReset key) s = .next ((s.put key 0).done)) ∧
  (∀ (key : Nat) (r : Dict.Row) (s : State), Dict.row key = some r → measuredMax r = false →
    exec (.measuredMaximumReset key) s = .next (s.reply 0x0101)) ∧
  (∀ s : State, exec (.measuredMaximumReset Obj.DeviceState) s = .next (s.reply 0x0101))

/-- State.reset's registers and memory are in canonical form (keys strictly rising, no entry at its default), and every command
that waits (none) is well-formed (log entries 3 and 4). (R46, R49) -/
def Obligations.ResetIsCanonical : Prop :=
  State.reset.Canonical ∧ State.reset.QueueWf

/-- For every command and every state in canonical form, exec answers a next state, leaves the queue of waiting commands, and
the registers and memory of the next state are again in canonical form. A request the device refuses is such a next state,
with its status in the answer (log entries 3 and 4 on the form). (R11, R12, R63) -/
def Obligations.EveryCommandCompletes : Prop :=
  ∀ (c : Instr) (s : State), s.Canonical → ∃ t, exec c s = .next t ∧ t.pending = s.pending ∧ t.Canonical

/-- For every object, every offset and byte string that end within 2^32: after a store the bytes at that offset are the string,
the bytes of every other object are unchanged, and so are those of this object before and after the string. (R46, R48, R49) -/
def Obligations.BytesOfADomainReadBack : Prop :=
  ∀ (key offset : Nat) (l : List Byte) (s : State), offset + l.length ≤ 4294967296 →
    (s.store key offset l).bytes key offset l.length = l ∧
    (∀ k o n, k ≠ key → o + n ≤ 4294967296 → (s.store key offset l).bytes k o n = s.bytes k o n) ∧
    (∀ o n, (o + n ≤ offset ∨ offset + l.length ≤ o) →
      (s.store key offset l).bytes key o n = s.bytes key o n)

/-- For every state whose registers and memory are in canonical form and whose waiting commands are well-formed: if a step
answers a next state, the next state has both properties. The form is the model's (log entries 3 and 4). (R10, R46, R49) -/
def Obligations.EveryStepKeepsTheCanonicalForm : Prop :=
  ∀ s t : State, s.Canonical → s.QueueWf → step s = .next t → t.Canonical ∧ t.QueueWf
end

