-- ==== Sys2Proof/Laws/Sparse.lean ====
section
/-! SUPPORT. Laws of sparse tables: what a write leaves at its key and elsewhere, and that every operation keeps the
canonical form. -/

namespace Sys2Proof.Machine.Sparse

variable {α : Type}

theorem get_insert_same (d : Nat → α) (k : Nat) (v : α) (l : List (Nat × α)) : get d (insert k v l) k = v := by
  induction l with
  | nil => simp [insert, get]
  | cons p t ih =>
    unfold insert
    split
    · simp [get]
    · split
      · simp [get]
      · simp [get, *]

theorem get_insert_other (d : Nat → α) {k j : Nat} (v : α) (l : List (Nat × α)) (h : j ≠ k) :
    get d (insert k v l) j = get d l j := by
  have h' : ¬k = j := fun e => h e.symm
  induction l with
  | nil => simp [insert, get, h']
  | cons p t ih =>
    unfold insert
    split
    · simp [get, h']
    · split
      · next e =>
        have hp : ¬p.1 = j := by rw [e]; exact h'
        simp [get, h', hp]
      · simp [get, ih]

theorem get_erase_other (d : Nat → α) {k j : Nat} (l : List (Nat × α)) (h : j ≠ k) : get d (erase k l) j = get d l j := by
  induction l with
  | nil => rfl
  | cons p t ih =>
    simp only [erase, List.filter_cons, bne_iff_ne, ne_eq] at ih ⊢
    split
    · simp [get, ih]
    · next e =>
      have hp : ¬p.1 = j := by intro hj; exact e (by intro hk; exact h (hj.symm.trans hk))
      simp [get, hp, ih]

theorem get_erase_same (d : Nat → α) (k : Nat) (l : List (Nat × α)) : get d (erase k l) k = d k := by
  induction l with
  | nil => rfl
  | cons p t ih =>
    simp only [erase, List.filter_cons, bne_iff_ne, ne_eq] at ih ⊢
    split
    · next e => simp [get, e, ih]
    · exact ih

/-- A write is read back. -/
theorem get_put_same [DecidableEq α] (d : Nat → α) (l : List (Nat × α)) (k : Nat) (v : α) : get d (put d l k v) k = v := by
  unfold put
  split
  · next e => rw [get_erase_same, e]
  · exact get_insert_same d k v l

/-- A write leaves every other key. -/
theorem get_put_other [DecidableEq α] (d : Nat → α) (l : List (Nat × α)) {k j : Nat} (v : α) (h : j ≠ k) :
    get d (put d l k v) j = get d l j := by
  unfold put
  split
  · exact get_erase_other d l h
  · exact get_insert_other d v l h

theorem mem_insert {k : Nat} {v : α} {l : List (Nat × α)} {x : Nat × α} (h : x ∈ insert k v l) : x = (k, v) ∨ x ∈ l := by
  induction l with
  | nil => simpa [insert] using h
  | cons p t ih =>
    unfold insert at h
    split at h
    · simpa using h
    · split at h
      · rcases List.mem_cons.1 h with e | e
        · exact .inl e
        · exact .inr (List.mem_cons_of_mem _ e)
      · rcases List.mem_cons.1 h with e | e
        · exact .inr (by simp [e])
        · rcases ih e with e | e
          · exact .inl e
          · exact .inr (List.mem_cons_of_mem _ e)

theorem insert_rising {k : Nat} {v : α} {l : List (Nat × α)} (h : l.Pairwise fun p q => p.1 < q.1) :
    (insert k v l).Pairwise fun p q => p.1 < q.1 := by
  induction l with
  | nil => simp [insert]
  | cons p t ih =>
    rw [List.pairwise_cons] at h
    unfold insert
    split
    · next hk =>
      refine List.pairwise_cons.2 ⟨?_, List.pairwise_cons.2 h⟩
      intro x hx
      rcases List.mem_cons.1 hx with e | e
      · simpa [e] using hk
      · exact Nat.lt_trans hk (h.1 x e)
    · split
      · next e =>
        refine List.pairwise_cons.2 ⟨?_, h.2⟩
        intro x hx
        simpa [← e] using h.1 x hx
      · next h1 h2 =>
        refine List.pairwise_cons.2 ⟨?_, ih h.2⟩
        intro x hx
        rcases mem_insert hx with e | e
        · simp only [e]; omega
        · exact h.1 x e

/-- Any selection of the entries of a canonical table is canonical. -/
theorem wf_filter [DecidableEq α] {d : Nat → α} {l : List (Nat × α)} (f : Nat × α → Bool) (h : wf d l = true) :
    wf d (l.filter f) = true := by
  simp only [wf, Bool.and_eq_true, decide_eq_true_eq, List.all_eq_true] at h ⊢
  exact ⟨h.1.filter _, fun x hx => h.2 x (List.mem_filter.1 hx).1⟩

/-- A write keeps the canonical form. -/
theorem wf_put [DecidableEq α] {d : Nat → α} {l : List (Nat × α)} (k : Nat) (v : α) (h : wf d l = true) :
    wf d (put d l k v) = true := by
  unfold put
  split
  · exact wf_filter _ h
  · next hv =>
    simp only [wf, Bool.and_eq_true, decide_eq_true_eq, List.all_eq_true] at h ⊢
    refine ⟨insert_rising h.1, fun x hx => ?_⟩
    rcases mem_insert hx with e | e
    · simpa [e] using hv
    · exact h.2 x e

end Sys2Proof.Machine.Sparse
end

