-- ==== Sys2Proof/Laws/Ops.lean ====
section
/-! SUPPORT. Laws of the named operations: what reading answers after a write, what a write leaves alone, and that the
operations over memory keep its canonical form. -/

namespace Sys2Proof.Machine

/-! ### Registers -/

@[simp] theorem State.get_put_same (s : State) (k : Nat) (v : Int) : (s.put k v).get k = v := Sparse.get_put_same ..

theorem State.get_put_other (s : State) {k j : Nat} (v : Int) (h : j ≠ k) : (s.put k v).get j = s.get j :=
  Sparse.get_put_other _ _ _ h

@[simp] theorem State.reply_get (s : State) (n k : Nat) : (s.reply n).get k = s.get k := rfl
@[simp] theorem State.done_get (s : State) (k : Nat) : s.done.get k = s.get k := rfl
@[simp] theorem State.answer_get (s : State) (l : List Byte) (k : Nat) : (s.answer l).get k = s.get k := rfl
@[simp] theorem State.store_get (s : State) (key o : Nat) (l : List Byte) (k : Nat) : (s.store key o l).get k = s.get k := rfl
@[simp] theorem State.reply_resp (s : State) (n : Nat) : (s.reply n).resp = { status := n } := rfl
@[simp] theorem State.done_resp (s : State) : s.done.resp = { status := 0 } := rfl
@[simp] theorem State.put_resp (s : State) (k : Nat) (v : Int) : (s.put k v).resp = s.resp := rfl
@[simp] theorem State.put_mem (s : State) (k : Nat) (v : Int) : (s.put k v).mem = s.mem := rfl
@[simp] theorem State.put_pending (s : State) (k : Nat) (v : Int) : (s.put k v).pending = s.pending := rfl

/-! ### Memory -/

/-- A byte written is read back. -/
theorem Memory.read_write_same (m : List Host.Cell) (a : Nat) (b : Byte) : Memory.read (Memory.write m a b) a = b :=
  Sparse.get_put_same ..

/-- A write leaves every other byte. -/
theorem Memory.read_write_other (m : List Host.Cell) {a c : Nat} (b : Byte) (h : c ≠ a) :
    Memory.read (Memory.write m a b) c = Memory.read m c := Sparse.get_put_other _ _ _ h

/-- A write of one byte keeps the canonical form. -/
theorem Memory.write_wf {m : List Host.Cell} (a : Nat) (b : Byte) (h : Memory.wf m = true) :
    Memory.wf (Memory.write m a b) = true := Sparse.wf_put a b h

/-- A write of bytes keeps the canonical form. -/
theorem Memory.writeN_wf {m : List Host.Cell} (l : List Byte) (a : Nat) (h : Memory.wf m = true) :
    Memory.wf (Memory.writeN m a l) = true := by
  induction l generalizing m a with
  | nil => exact h
  | cons b t ih => exact ih (a + 1) (Memory.write_wf a b h)

/-- A write of bytes leaves every byte outside them. -/
theorem Memory.read_writeN_other (l : List Byte) (m : List Host.Cell) (a c : Nat) (h : c < a ∨ a + l.length ≤ c) :
    Memory.read (Memory.writeN m a l) c = Memory.read m c := by
  induction l generalizing m a with
  | nil => rfl
  | cons b t ih =>
    simp only [List.length_cons] at h
    simp only [Memory.writeN]
    rw [ih (Memory.write m a b) (a + 1) (by omega), Memory.read_write_other m b (by omega)]

end Sys2Proof.Machine
end

