-- ==== Sys2Proof/Laws/Keeps.lean ====
section
/-! SUPPORT. What every meaning keeps: the canonical form of registers and memory, and the queue of waiting commands. The
files beside this one carry one lemma for each operation and each meaning; their names end in _keeps. -/

namespace Sys2Proof.Machine

/-- The state is canonical and `q` waits in its queue. -/
structure Keeps (q : List Instr) (s : State) : Prop where
  canonical : s.Canonical
  queue : s.pending = q

/-- An outcome that goes on keeps them. -/
def OutKeeps (q : List Instr) (o : Host.Outcome State Fault Refusal) : Prop :=
  match o with
  | .next t => Keeps q t
  | _ => True

variable {q : List Instr}

theorem keeps_next {t : State} (h : Keeps q t) : OutKeeps q (.next t) := h

/-- An update of any field but the registers, the memory and the queue. -/
theorem keeps_upd {s : State} {a0 a1 a2 a3 a4 a5 a6 a7 a8 a9 a10 a11 a12 a13 a14 a15 a16 a17 a18 a19 a20 a21 a22 a23
    a24 a25 a26 a27 a28 a29 a30 a31 a32 a33 a34 a35 a36 a37 a38 a39 a40 a41} (h : Keeps q s) :
    Keeps q (State.mk s.regs s.mem s.pending a0 a1 a2 a3 a4 a5 a6 a7 a8 a9 a10 a11 a12 a13 a14 a15 a16 a17 a18 a19 a20 a21
    a22 a23 a24 a25 a26 a27 a28 a29 a30 a31 a32 a33 a34 a35 a36 a37 a38 a39 a40 a41) := ⟨⟨h.1.1, h.1.2⟩, h.2⟩

theorem keeps_ite {c : Prop} [Decidable c] {s t : State} (hs : Keeps q s) (ht : Keeps q t) : Keeps q (if c then s else t) := by
  split
  · exact hs
  · exact ht

theorem outKeeps_ite {c : Prop} [Decidable c] {s t : Host.Outcome State Fault Refusal} (hs : OutKeeps q s)
    (ht : OutKeeps q t) : OutKeeps q (if c then s else t) := by
  split
  · exact hs
  · exact ht

theorem keeps_foldl {α : Type} {f : State → α → State} {l : List α} {s : State} (hf : ∀ t x, Keeps q t → Keeps q (f t x))
    (h : Keeps q s) : Keeps q (l.foldl f s) := by
  induction l generalizing s with
  | nil => exact h
  | cons x l ih => exact ih (hf s x h)

theorem keeps_snd {α : Type} {p : α × State} {a : α} {t : State} (e : p = (a, t)) (h : Keeps q p.2) : Keeps q t := by
  rw [e] at h; exact h

theorem keeps_fst {α : Type} {p : State × α} {a : α} {t : State} (e : p = (t, a)) (h : Keeps q p.1) : Keeps q t := by
  rw [e] at h; exact h

theorem keeps_out {o : Host.Outcome State Fault Refusal} {t : State} (e : o = .next t) (h : OutKeeps q o) : Keeps q t := by
  rw [e] at h; exact h

theorem State.each_keeps {l : List Nat} {f : State → Nat → State} {s : State} (hf : ∀ t x, Keeps q t → Keeps q (f t x))
    (h : Keeps q s) : Keeps q (s.each l f) := keeps_foldl hf h

theorem State.put_keeps {s : State} {k : Nat} {v : Int} (h : Keeps q s) : Keeps q (s.put k v) :=
  ⟨⟨Sparse.wf_put k v h.1.1, h.1.2⟩, h.2⟩

theorem State.store_keeps {s : State} {k o : Nat} {l : List Byte} (h : Keeps q s) : Keeps q (s.store k o l) :=
  ⟨⟨h.1.1, Memory.writeN_wf _ _ h.1.2⟩, h.2⟩

/-- A selection of the memory's bytes. -/
theorem keeps_filterMem {s : State} {f : Host.Cell → Bool} {a0 a1 a2 a3 a4 a5 a6 a7 a8 a9 a10 a11 a12 a13 a14 a15 a16
    a17 a18 a19 a20 a21 a22 a23 a24 a25 a26 a27 a28 a29 a30 a31 a32 a33 a34 a35 a36 a37 a38 a39 a40 a41} (h : Keeps q s) :
    Keeps q (State.mk s.regs (s.mem.filter f) s.pending a0 a1 a2 a3 a4 a5 a6 a7 a8 a9 a10 a11 a12 a13 a14 a15 a16 a17 a18
    a19 a20 a21 a22 a23 a24 a25 a26 a27 a28 a29 a30 a31 a32 a33 a34 a35 a36 a37 a38 a39 a40 a41) := ⟨⟨h.1.1,
    Sparse.wf_filter f h.1.2⟩, h.2⟩

/-- A selection of the registers. -/
theorem keeps_filterRegs {s : State} {f : Nat × Int → Bool} {a0 a1 a2 a3 a4 a5 a6 a7 a8 a9 a10 a11 a12 a13 a14 a15 a16
    a17 a18 a19 a20 a21 a22 a23 a24 a25 a26 a27 a28 a29 a30 a31 a32 a33 a34 a35 a36 a37 a38 a39 a40 a41} (h : Keeps q s) :
    Keeps q (State.mk (s.regs.filter f) s.mem s.pending a0 a1 a2 a3 a4 a5 a6 a7 a8 a9 a10 a11 a12 a13 a14 a15 a16 a17 a18
    a19 a20 a21 a22 a23 a24 a25 a26 a27 a28 a29 a30 a31 a32 a33 a34 a35 a36 a37 a38 a39 a40 a41) := ⟨⟨Sparse.wf_filter f
    h.1.1, h.1.2⟩, h.2⟩

/-- A selection of both. -/
theorem keeps_filterBoth {s : State} {f : Nat × Int → Bool} {g : Host.Cell → Bool} {a0 a1 a2 a3 a4 a5 a6 a7 a8 a9 a10
    a11 a12 a13 a14 a15 a16 a17 a18 a19 a20 a21 a22 a23 a24 a25 a26 a27 a28 a29 a30 a31 a32 a33 a34 a35 a36 a37 a38 a39
    a40 a41} (h : Keeps q s) :
    Keeps q (State.mk (s.regs.filter f) (s.mem.filter g) s.pending a0 a1 a2 a3 a4 a5 a6 a7 a8 a9 a10 a11 a12 a13 a14 a15
    a16 a17 a18 a19 a20 a21 a22 a23 a24 a25 a26 a27 a28 a29 a30 a31 a32 a33 a34 a35 a36 a37 a38 a39 a40 a41) :=
    ⟨⟨Sparse.wf_filter f h.1.1, Sparse.wf_filter g h.1.2⟩, h.2⟩

theorem State.putAll_keeps {l : List (Nat × Int)} {s : State} (h : Keeps q s) : Keeps q (s.putAll l) := by
  induction l generalizing s with
  | nil => exact h
  | cons p t ih => exact ih (State.put_keeps h)

theorem State.inForce_keeps {s : State} (h : Keeps q s) : Keeps q s.inForce := State.putAll_keeps h

theorem State.rewritten_keeps {s t : State} (h : Keeps q t) : Keeps q (s.rewritten t) := State.putAll_keeps h

theorem State.atEdge_keeps {s : State} {f : State → State} (hf : ∀ t, Keeps q t → Keeps q (f t)) (h : Keeps q s) :
    Keeps q (s.atEdge f) := State.rewritten_keeps (hf _ (State.inForce_keeps h))

theorem viaEdge_keeps {f : State → Host.Outcome State Fault Refusal} {s : State} (hf : ∀ t, Keeps q t → OutKeeps q (f t))
    (h : Keeps q s) : OutKeeps q (viaEdge f s) := by
  have hf := hf _ (State.inForce_keeps h)
  unfold viaEdge
  split
  · next e => rw [e] at hf; exact State.rewritten_keeps hf
  · exact hf

theorem after_keeps {o : Host.Outcome State Fault Refusal} {s : State} (ho : OutKeeps q o) (h : Keeps q s) :
    Keeps q (after o s) := by
  unfold after
  split
  · exact ho
  · exact h

end Sys2Proof.Machine
end

