-- ==== Sys2Proof/Laws/KeepsLoops.lean ====
section
/-! SUPPORT. The operations and meanings of Machine/Ops.lean, Flags.lean, Feedback.lean, Pwm.lean, Foc.lean, Sensorless.lean keep the
canonical form and the queue. -/

namespace Sys2Proof.Machine

variable {q : List Instr}

/-! ### Machine/Ops.lean -/

theorem State.setBit_keeps {s0 : State} {x1} {x2} (h0 : Keeps q s0) :
    Keeps q (State.setBit s0 x1 x2) := by
  unfold State.setBit
  with_reducible repeat' first | assumption | apply State.put_keeps

theorem State.clrBit_keeps {s0 : State} {x1} {x2} (h0 : Keeps q s0) :
    Keeps q (State.clrBit s0 x1 x2) := by
  unfold State.clrBit
  with_reducible repeat' first | assumption | apply State.put_keeps

theorem State.setBitIf_keeps {s0 : State} {x1} {x2} {x3} (h0 : Keeps q s0) :
    Keeps q (State.setBitIf s0 x1 x2 x3) := by
  unfold State.setBitIf
  with_reducible repeat' first | assumption | apply State.setBit_keeps | apply keeps_ite

theorem State.putBit_keeps {s0 : State} {x1} {x2} {x3} (h0 : Keeps q s0) :
    Keeps q (State.putBit s0 x1 x2 x3) := by
  unfold State.putBit
  with_reducible repeat' first | assumption | apply State.setBit_keeps | apply State.clrBit_keeps | apply keeps_ite

theorem State.count_keeps {s0 : State} {x1} {x2} {x3} (h0 : Keeps q s0) :
    Keeps q (State.count s0 x1 x2 x3) := by
  unfold State.count
  with_reducible repeat' first | assumption | apply State.put_keeps

theorem State.addI64_keeps {s0 : State} {x1} {x2} (h0 : Keeps q s0) :
    Keeps q (State.addI64 s0 x1 x2) := by
  unfold State.addI64
  with_reducible repeat' first | assumption | apply State.put_keeps

theorem State.storeDirect_keeps {s0 : State} {x1} {x2} {x3} (h0 : Keeps q s0) :
    Keeps q (State.storeDirect s0 x1 x2 x3) := by
  unfold State.storeDirect
  with_reducible repeat' first | assumption | apply State.store_keeps | apply keeps_ite | (fail_if_no_progress apply keeps_upd)

theorem State.reply_keeps {s0 : State} {x1} (h0 : Keeps q s0) :
    Keeps q (State.reply s0 x1) := by
  unfold State.reply
  with_reducible repeat' first | assumption | apply keeps_ite | (fail_if_no_progress apply keeps_upd)

theorem State.done_keeps {s0 : State} (h0 : Keeps q s0) :
    Keeps q (State.done s0) := by
  unfold State.done
  with_reducible repeat' first | assumption | apply State.reply_keeps

theorem State.answer_keeps {s0 : State} {x1} (h0 : Keeps q s0) :
    Keeps q (State.answer s0 x1) := by
  unfold State.answer
  with_reducible repeat' first | assumption | apply keeps_ite | (fail_if_no_progress apply keeps_upd)

theorem State.send_keeps {s0 : State} {x1} {x2} (h0 : Keeps q s0) :
    Keeps q (State.send s0 x1 x2) := by
  unfold State.send
  with_reducible repeat' first | assumption | apply keeps_ite | (fail_if_no_progress apply keeps_upd)

theorem State.sendFrame_keeps {s0 : State} {x1} {x2} {x3} {x4} {x5} {x6} {x7} (h0 : Keeps q s0) :
    Keeps q (State.sendFrame s0 x1 x2 x3 x4 x5 x6 x7) := by
  unfold State.sendFrame
  with_reducible repeat' first | assumption | apply keeps_ite | (fail_if_no_progress apply keeps_upd)

theorem State.fresh_keeps {s0 : State} (h0 : Keeps q s0) :
    Keeps q (State.fresh s0).2 := by
  unfold State.fresh
  with_reducible repeat' first | assumption | apply keeps_ite | (fail_if_no_progress apply keeps_upd)

theorem State.exPost_keeps {s0 : State} {x1} {x2} {x3} {x4} (h0 : Keeps q s0) :
    Keeps q (State.exPost s0 x1 x2 x3 x4) := by
  unfold State.exPost
  with_reducible repeat' first | assumption | apply keeps_ite | (fail_if_no_progress apply keeps_upd)

theorem State.inputCount_keeps {s0 : State} {x1} (h0 : Keeps q s0) :
    Keeps q (State.inputCount s0 x1) := by
  unfold State.inputCount
  with_reducible repeat' first | assumption | apply State.count_keeps

theorem State.setAxis_keeps {s0 : State} {x1} {x2} (h0 : Keeps q s0) :
    Keeps q (State.setAxis s0 x1 x2) := by
  unfold State.setAxis
  with_reducible repeat' first | assumption | apply State.put_keeps | apply keeps_ite | (fail_if_no_progress apply keeps_upd)

theorem State.setBind_keeps {s0 : State} {x1} {x2} (h0 : Keeps q s0) :
    Keeps q (State.setBind s0 x1 x2) := by
  unfold State.setBind
  with_reducible repeat' first | assumption | apply State.put_keeps | apply keeps_ite | (fail_if_no_progress apply keeps_upd)

theorem State.setPath_keeps {s0 : State} {x1} {x2} (h0 : Keeps q s0) :
    Keeps q (State.setPath s0 x1 x2) := by
  unfold State.setPath
  with_reducible repeat' first | assumption | apply State.put_keeps | apply keeps_ite | (fail_if_no_progress apply keeps_upd)

theorem State.setGraft_keeps {s0 : State} {x1} {x2} (h0 : Keeps q s0) :
    Keeps q (State.setGraft s0 x1 x2) := by
  unfold State.setGraft
  with_reducible repeat' first | assumption | apply State.put_keeps | apply keeps_ite | (fail_if_no_progress apply keeps_upd)

theorem State.setSpan_keeps {s0 : State} {x1} {x2} (h0 : Keeps q s0) :
    Keeps q (State.setSpan s0 x1 x2) := by
  unfold State.setSpan
  with_reducible repeat' first | assumption | apply State.put_keeps | apply keeps_ite | (fail_if_no_progress apply keeps_upd)

theorem State.setStitch_keeps {s0 : State} {x1} {x2} (h0 : Keeps q s0) :
    Keeps q (State.setStitch s0 x1 x2) := by
  unfold State.setStitch
  with_reducible repeat' first | assumption | apply State.put_keeps | apply keeps_ite | (fail_if_no_progress apply keeps_upd)

theorem State.setOrigin_keeps {s0 : State} {x1} {x2} (h0 : Keeps q s0) :
    Keeps q (State.setOrigin s0 x1 x2) := by
  unfold State.setOrigin
  with_reducible repeat' first | assumption | apply State.put_keeps | apply keeps_ite | (fail_if_no_progress apply keeps_upd)

theorem State.slotWrite_keeps {s0 : State} {x1} {x2} (h0 : Keeps q s0) :
    Keeps q (State.slotWrite s0 x1 x2) := by
  unfold State.slotWrite
  with_reducible repeat' first | assumption | apply State.setBitIf_keeps | apply keeps_ite | (fail_if_no_progress apply keeps_upd)

theorem State.slotLatch_keeps {s0 : State} {x1} {x2} (h0 : Keeps q s0) :
    Keeps q (State.slotLatch s0 x1 x2) := by
  unfold State.slotLatch
  with_reducible repeat' first | assumption | apply State.put_keeps

theorem State.slotStale_keeps {s0 : State} {x1} (h0 : Keeps q s0) :
    Keeps q (State.slotStale s0 x1) := by
  unfold State.slotStale
  with_reducible repeat' first | assumption | apply State.setBit_keeps

/-! ### Machine/Flags.lean -/

theorem State.setActive_keeps {s0 : State} {x1} {x2} {x3} (h0 : Keeps q s0) :
    Keeps q (State.setActive s0 x1 x2 x3) := by
  unfold State.setActive
  with_reducible repeat' first | assumption | apply State.putBit_keeps

theorem State.askStop_keeps {s0 : State} {x1} {x2} {x3} (h0 : Keeps q s0) :
    Keeps q (State.askStop s0 x1 x2 x3) := by
  unfold State.askStop
  with_reducible repeat' first | assumption | apply State.setAxis_keeps | apply State.put_keeps | apply keeps_ite | (fail_if_no_progress apply keeps_upd) | (refine keeps_snd (by assumption) ?_) | (refine keeps_fst (by assumption) ?_) | (refine keeps_out (by assumption) ?_) | split | dsimp only

theorem State.abandonRemaining_keeps {s0 : State} {x1} (h0 : Keeps q s0) :
    Keeps q (State.abandonRemaining s0 x1) := by
  unfold State.abandonRemaining
  with_reducible repeat' first | assumption | apply State.addI64_keeps | apply State.put_keeps

theorem State.graftDrop_keeps {s0 : State} {x1} (h0 : Keeps q s0) :
    Keeps q (State.graftDrop s0 x1) := by
  unfold State.graftDrop
  with_reducible repeat' first | assumption | apply State.put_keeps | apply State.setBit_keeps | apply keeps_ite

theorem State.axisToFaulted_keeps {s0 : State} {x1} (h0 : Keeps q s0) :
    Keeps q (State.axisToFaulted s0 x1) := by
  unfold State.axisToFaulted
  with_reducible repeat' first | assumption | apply State.abandonRemaining_keeps | apply State.graftDrop_keeps | apply State.setAxis_keeps | apply State.put_keeps | apply State.askStop_keeps | apply keeps_ite | (fail_if_no_progress apply keeps_upd) | (refine keeps_snd (by assumption) ?_) | (refine keeps_fst (by assumption) ?_) | (refine keeps_out (by assumption) ?_) | split | dsimp only

theorem State.sendBindOff_keeps {s0 : State} {x1} {x2} {x3} {x4} {x5} (h0 : Keeps q s0) :
    Keeps q (State.sendBindOff s0 x1 x2 x3 x4 x5) := by
  unfold State.sendBindOff
  with_reducible repeat' first | assumption | apply State.exPost_keeps | apply keeps_ite

theorem State.bindRepeat_keeps {s0 : State} {x1} (h0 : Keeps q s0) :
    Keeps q (State.bindRepeat s0 x1) := by
  unfold State.bindRepeat
  with_reducible repeat' first | assumption | apply State.sendBindOff_keeps | apply State.setBind_keeps | apply keeps_ite

theorem State.bindAsked_keeps {s0 : State} {x1} {x2} {x3} {x4} {x5} (h0 : Keeps q s0) :
    Keeps q (State.bindAsked s0 x1 x2 x3 x4 x5) := by
  unfold State.bindAsked
  with_reducible repeat' first | assumption | apply State.setBind_keeps | apply State.sendBindOff_keeps

theorem State.askBindOff_keeps {s0 : State} {x1} (h0 : Keeps q s0) :
    Keeps q (State.askBindOff s0 x1) := by
  unfold State.askBindOff
  with_reducible repeat' first | assumption | apply State.count_keeps | apply State.bindAsked_keeps | apply keeps_ite

theorem State.bindOffNow_keeps {s0 : State} {x1} (h0 : Keeps q s0) :
    Keeps q (State.bindOffNow s0 x1) := by
  unfold State.bindOffNow
  with_reducible repeat' first | assumption | apply State.askBindOff_keeps | apply State.each_keeps | apply State.askStop_keeps | apply keeps_ite | (intro _ _ _)

theorem State.reactB_keeps {s0 : State} {x1} (h0 : Keeps q s0) :
    Keeps q (State.reactB s0 x1) := by
  unfold State.reactB
  with_reducible repeat' first | assumption | apply keeps_ite | (fail_if_no_progress apply keeps_upd)

theorem State.reactEnd_keeps {s0 : State} (h0 : Keeps q s0) :
    Keeps q (State.reactEnd s0) := by
  unfold State.reactEnd
  with_reducible repeat' first | assumption | apply State.askBindOff_keeps | apply State.each_keeps | apply State.bindOffNow_keeps | apply keeps_ite | (fail_if_no_progress apply keeps_upd)

theorem State.sendSetpoint_keeps {s0 : State} {x1} {x2} {x3} (h0 : Keeps q s0) :
    Keeps q (State.sendSetpoint s0 x1 x2 x3) := by
  unfold State.sendSetpoint
  with_reducible repeat' first | assumption | apply State.sendFrame_keeps | apply State.exPost_keeps | apply keeps_ite | (fail_if_no_progress apply keeps_upd)

theorem State.sendSetpoints_keeps {s0 : State} {x1} (h0 : Keeps q s0) :
    Keeps q (State.sendSetpoints s0 x1) := by
  unfold State.sendSetpoints
  with_reducible repeat' first | assumption | apply State.each_keeps | apply State.sendFrame_keeps | apply keeps_ite | (fail_if_no_progress apply keeps_upd) | (intro _ _ _)

theorem State.reactS_keeps {s0 : State} {x1} (h0 : Keeps q s0) :
    Keeps q (State.reactS s0 x1) := by
  unfold State.reactS
  with_reducible repeat' first | assumption | apply State.axisToFaulted_keeps | apply State.send_keeps | apply State.each_keeps | apply State.sendSetpoint_keeps | apply keeps_ite | apply keeps_foldl | (fail_if_no_progress apply keeps_upd) | (intro _ _ _)

theorem State.acqMark_keeps {s0 : State} {x1} {x2} {x3} {x4} (h0 : Keeps q s0) :
    Keeps q (State.acqMark s0 x1 x2 x3 x4) := by
  unfold State.acqMark
  with_reducible repeat' first | assumption | apply State.store_keeps | apply State.setBit_keeps | apply keeps_ite | (fail_if_no_progress apply keeps_upd)

theorem State.acqCondition_keeps {s0 : State} {x1} {x2} {x3} {x4} (h0 : Keeps q s0) :
    Keeps q (State.acqCondition s0 x1 x2 x3 x4) := by
  unfold State.acqCondition
  with_reducible repeat' first | assumption | apply keeps_ite | (fail_if_no_progress apply keeps_upd)

theorem State.acqEvent_keeps {s0 : State} {x1} {x2} {x3} {x4} {x5} (h0 : Keeps q s0) :
    Keeps q (State.acqEvent s0 x1 x2 x3 x4 x5) := by
  unfold State.acqEvent
  with_reducible repeat' first | assumption | apply State.acqCondition_keeps | apply State.acqMark_keeps | apply keeps_ite

theorem State.logAppend_keeps {s0 : State} {x1} (h0 : Keeps q s0) :
    Keeps q (State.logAppend s0 x1) := by
  unfold State.logAppend
  with_reducible repeat' first | assumption | apply State.count_keeps | apply keeps_ite | (fail_if_no_progress apply keeps_upd)

theorem State.logRaise_keeps {s0 : State} {x1} (h0 : Keeps q s0) :
    Keeps q (State.logRaise s0 x1) := by
  unfold State.logRaise
  with_reducible repeat' first | assumption | apply State.logAppend_keeps | apply State.store_keeps | apply keeps_ite | (fail_if_no_progress apply keeps_upd) | (intro _ _ _) | (intro _ _) | (refine keeps_snd (by assumption) ?_) | (refine keeps_fst (by assumption) ?_) | (refine keeps_out (by assumption) ?_) | split | dsimp only

theorem State.nerrLow_keeps {s0 : State} {x1} (h0 : Keeps q s0) :
    Keeps q (State.nerrLow s0 x1) := by
  unfold State.nerrLow
  with_reducible repeat' first | assumption | apply State.put_keeps | apply keeps_ite | (fail_if_no_progress apply keeps_upd)

theorem State.react_keeps {s0 : State} {x1} {x2} {x3} (h0 : Keeps q s0) :
    Keeps q (State.react s0 x1 x2 x3) := by
  unfold State.react
  with_reducible repeat' first | assumption | apply State.nerrLow_keeps | apply State.reactS_keeps | apply State.reactB_keeps | apply State.send_keeps | apply keeps_ite | (fail_if_no_progress apply keeps_upd)

theorem State.raiseRecord_keeps {s0 : State} {x1} {x2} {x3} {x4} {x5} (h0 : Keeps q s0) :
    Keeps q (State.raiseRecord s0 x1 x2 x3 x4 x5) := by
  unfold State.raiseRecord
  with_reducible repeat' first | assumption | apply State.setBit_keeps | apply State.count_keeps | apply State.setActive_keeps | apply State.logRaise_keeps | apply State.acqEvent_keeps | apply State.put_keeps | apply keeps_ite | (fail_if_no_progress apply keeps_upd)

theorem State.raiseWith_keeps {s0 : State} {x1} {x2} {x3} {x4} {x5} (h0 : Keeps q s0) :
    Keeps q (State.raiseWith s0 x1 x2 x3 x4 x5) := by
  unfold State.raiseWith
  with_reducible repeat' first | assumption | apply State.raiseRecord_keeps | apply State.react_keeps

theorem State.raiseMasked_keeps {s0 : State} {x1} {x2} (h0 : Keeps q s0) :
    Keeps q (State.raiseMasked s0 x1 x2) := by
  unfold State.raiseMasked
  with_reducible repeat' first | assumption | apply State.raiseRecord_keeps | apply keeps_ite

theorem State.raise_keeps {s0 : State} {x1} {x2} (h0 : Keeps q s0) :
    Keeps q (State.raise s0 x1 x2) := by
  unfold State.raise
  with_reducible repeat' first | assumption | apply State.raiseWith_keeps

theorem State.raiseLasting_keeps {s0 : State} {x1} {x2} (h0 : Keeps q s0) :
    Keeps q (State.raiseLasting s0 x1 x2) := by
  unfold State.raiseLasting
  with_reducible repeat' first | assumption | apply State.raiseWith_keeps

theorem State.raiseValue_keeps {s0 : State} {x1} {x2} {x3} (h0 : Keeps q s0) :
    Keeps q (State.raiseValue s0 x1 x2 x3) := by
  unfold State.raiseValue
  with_reducible repeat' first | assumption | apply State.raiseWith_keeps | apply keeps_ite

theorem State.raiseOnce_keeps {s0 : State} {x1} {x2} (h0 : Keeps q s0) :
    Keeps q (State.raiseOnce s0 x1 x2) := by
  unfold State.raiseOnce
  with_reducible repeat' first | assumption | apply State.raiseLasting_keeps | apply keeps_ite

/-! ### Machine/Feedback.lean -/

theorem State.setFb_keeps {s0 : State} {x1} {x2} (h0 : Keeps q s0) :
    Keeps q (State.setFb s0 x1 x2) := by
  unfold State.setFb
  with_reducible repeat' first | assumption | apply State.put_keeps | apply keeps_ite | (fail_if_no_progress apply keeps_upd)

theorem State.fbUncertain_keeps {s0 : State} {x1} {x2} (h0 : Keeps q s0) :
    Keeps q (State.fbUncertain s0 x1 x2) := by
  unfold State.fbUncertain
  with_reducible repeat' first | assumption | apply State.setFb_keeps | apply State.setBitIf_keeps

theorem State.setCmp_keeps {s0 : State} {x1} {x2} (h0 : Keeps q s0) :
    Keeps q (State.setCmp s0 x1 x2) := by
  unfold State.setCmp
  with_reducible repeat' first | assumption | apply State.put_keeps | apply keeps_ite | (fail_if_no_progress apply keeps_upd)

theorem State.setEmu_keeps {s0 : State} {x1} {x2} (h0 : Keeps q s0) :
    Keeps q (State.setEmu s0 x1 x2) := by
  unfold State.setEmu
  with_reducible repeat' first | assumption | apply State.put_keeps | apply keeps_ite | (fail_if_no_progress apply keeps_upd)

theorem State.shiftSetpoint_keeps {s0 : State} {x1} {x2} (h0 : Keeps q s0) :
    Keeps q (State.shiftSetpoint s0 x1 x2) := by
  unfold State.shiftSetpoint
  with_reducible repeat' first | assumption | apply State.setGraft_keeps | apply State.put_keeps | apply State.setAxis_keeps | apply keeps_ite

theorem State.showSpeed_keeps {s0 : State} {x1} {x2} (h0 : Keeps q s0) :
    Keeps q (State.showSpeed s0 x1 x2) := by
  unfold State.showSpeed
  with_reducible repeat' first | assumption | apply State.put_keeps | apply keeps_ite

theorem State.latchMeasured_keeps {s0 : State} {x1} {x2} {x3} (h0 : Keeps q s0) :
    Keeps q (State.latchMeasured s0 x1 x2 x3) := by
  unfold State.latchMeasured
  with_reducible repeat' first | assumption | apply State.slotLatch_keeps | apply State.showSpeed_keeps | apply State.put_keeps | apply State.setFb_keeps | apply keeps_ite | (fail_if_no_progress apply keeps_upd) | (refine keeps_snd (by assumption) ?_) | (refine keeps_fst (by assumption) ?_) | (refine keeps_out (by assumption) ?_) | split | dsimp only

theorem State.cmpPush_keeps {s0 : State} {x1} {x2} (h0 : Keeps q s0) :
    Keeps q (State.cmpPush s0 x1 x2) := by
  unfold State.cmpPush
  with_reducible repeat' first | assumption | apply State.setCmp_keeps | apply State.count_keeps | apply State.put_keeps

theorem State.cmpPop_keeps {s0 : State} {x1} (h0 : Keeps q s0) :
    Keeps q (State.cmpPop s0 x1) := by
  unfold State.cmpPop
  with_reducible repeat' first | assumption | apply State.setCmp_keeps | apply State.put_keeps | apply State.cmpPush_keeps | apply keeps_ite | (fail_if_no_progress apply keeps_upd) | (refine keeps_snd (by assumption) ?_) | (refine keeps_fst (by assumption) ?_) | (refine keeps_out (by assumption) ?_) | split | dsimp only

theorem State.cmpAct_keeps {s0 : State} {x1} {x2} (h0 : Keeps q s0) :
    Keeps q (State.cmpAct s0 x1 x2) := by
  unfold State.cmpAct
  with_reducible repeat' first | assumption | apply State.setCmp_keeps

theorem State.cmpArm_keeps {s0 : State} {x1} {x2 : Nat} (h0 : Keeps q s0) :
    Keeps q (State.cmpArm s0 x1 x2) := by
  induction x2 generalizing s0 with
  | zero => exact h0
  | succ n ih =>
    unfold State.cmpArm
    with_reducible repeat' first | assumption | apply ih | apply State.cmpPop_keeps | apply State.put_keeps | apply State.cmpAct_keeps | apply State.setBit_keeps | apply State.count_keeps | apply State.setCmp_keeps | apply keeps_ite | (fail_if_no_progress apply keeps_upd) | (refine keeps_snd (by assumption) ?_) | (refine keeps_fst (by assumption) ?_) | (refine keeps_out (by assumption) ?_) | split

theorem State.cmpFire_keeps {s0 : State} {x1} {x2} {x3} {x4 : Nat} (h0 : Keeps q s0) :
    Keeps q (State.cmpFire s0 x1 x2 x3 x4) := by
  induction x4 generalizing s0 with
  | zero => exact h0
  | succ n ih =>
    unfold State.cmpFire
    with_reducible repeat' first | assumption | apply ih | apply State.cmpPop_keeps | apply State.put_keeps | apply State.cmpAct_keeps | apply State.count_keeps | apply keeps_ite | (fail_if_no_progress apply keeps_upd) | (refine keeps_snd (by assumption) ?_) | (refine keeps_fst (by assumption) ?_) | (refine keeps_out (by assumption) ?_) | split

theorem State.cmpCount_keeps {s0 : State} {x1} {x2} {x3} {x4} (h0 : Keeps q s0) :
    Keeps q (State.cmpCount s0 x1 x2 x3 x4) := by
  unfold State.cmpCount
  with_reducible repeat' first | assumption | apply State.cmpFire_keeps | apply State.cmpArm_keeps | apply keeps_ite | (fail_if_no_progress apply keeps_upd) | (refine keeps_snd (by assumption) ?_) | (refine keeps_fst (by assumption) ?_) | (refine keeps_out (by assumption) ?_) | split

theorem State.cmpReevaluate_keeps {s0 : State} {x1} (h0 : Keeps q s0) :
    Keeps q (State.cmpReevaluate s0 x1) := by
  unfold State.cmpReevaluate
  with_reducible repeat' first | assumption | apply State.each_keeps | apply State.setCmp_keeps | apply State.cmpArm_keeps | apply keeps_ite | (fail_if_no_progress apply keeps_upd) | (intro _ _ _)

theorem State.cmpAppend_keeps {s0 : State} {x1} {x2} (h0 : Keeps q s0) :
    Keeps q (State.cmpAppend s0 x1 x2) := by
  unfold State.cmpAppend
  with_reducible repeat' first | assumption | apply State.reply_keeps | apply State.cmpPush_keeps | apply State.cmpArm_keeps | apply State.done_keeps | apply keeps_ite

theorem State.cmpRowEdge_keeps {s0 : State} {x1} (h0 : Keeps q s0) :
    Keeps q (State.cmpRowEdge s0 x1) := by
  unfold State.cmpRowEdge
  with_reducible repeat' first | assumption | apply State.setCmp_keeps | apply State.slotWrite_keeps | apply State.cmpPush_keeps | apply State.cmpArm_keeps | apply keeps_ite | apply keeps_foldl | (fail_if_no_progress apply keeps_upd) | (intro _ _ _)

theorem State.cmpLatch_keeps {s0 : State} {x1} (h0 : Keeps q s0) :
    Keeps q (State.cmpLatch s0 x1) := by
  unfold State.cmpLatch
  with_reducible repeat' first | assumption | apply State.setCmp_keeps

theorem State.cmpEnabled_keeps {s0 : State} {x1} (h0 : Keeps q s0) :
    Keeps q (State.cmpEnabled s0 x1) := by
  unfold State.cmpEnabled
  with_reducible repeat' first | assumption | apply State.cmpArm_keeps | apply State.setCmp_keeps | apply keeps_ite

theorem State.emuFeed_keeps {s0 : State} {x1} {x2} (h0 : Keeps q s0) :
    Keeps q (State.emuFeed s0 x1 x2) := by
  unfold State.emuFeed
  with_reducible repeat' first | assumption | apply State.addI64_keeps | apply State.put_keeps | apply State.setBitIf_keeps | apply State.setBit_keeps | apply State.raiseOnce_keeps | apply State.setActive_keeps | apply keeps_ite

theorem State.emuStep_keeps {s0 : State} {x1} (h0 : Keeps q s0) :
    Keeps q (State.emuStep s0 x1) := by
  unfold State.emuStep
  with_reducible repeat' first | assumption | apply State.put_keeps | apply State.addI64_keeps | apply State.setEmu_keeps | apply State.setActive_keeps | apply keeps_ite

theorem State.emuDeliver_keeps {s0 : State} {x1} {x2} (h0 : Keeps q s0) :
    Keeps q (State.emuDeliver s0 x1 x2) := by
  unfold State.emuDeliver
  with_reducible repeat' first | assumption | apply State.setEmu_keeps | apply State.emuFeed_keeps

theorem State.emuSlotEdge_keeps {s0 : State} {x1} (h0 : Keeps q s0) :
    Keeps q (State.emuSlotEdge s0 x1) := by
  unfold State.emuSlotEdge
  with_reducible repeat' first | assumption | apply State.emuDeliver_keeps | apply State.setEmu_keeps | apply keeps_ite

theorem State.fbReject_keeps {s0 : State} {x1} {x2} (h0 : Keeps q s0) :
    Keeps q (State.fbReject s0 x1 x2) := by
  unfold State.fbReject
  with_reducible repeat' first | assumption | apply State.setBit_keeps | apply State.fbUncertain_keeps | apply State.setFb_keeps | apply State.count_keeps

theorem State.fbStep_keeps {s0 : State} {x1} {x2} {x3} (h0 : Keeps q s0) :
    Keeps q (State.fbStep s0 x1 x2 x3) := by
  unfold State.fbStep
  with_reducible repeat' first | assumption | apply State.count_keeps | apply State.setFb_keeps | apply State.putBit_keeps | apply State.each_keeps | apply State.cmpCount_keeps | apply State.emuFeed_keeps | apply keeps_ite | (fail_if_no_progress apply keeps_upd) | (intro _ _ _)

theorem State.fbResolve_keeps {s0 : State} {x1} {x2} {x3} (h0 : Keeps q s0) :
    Keeps q (State.fbResolve s0 x1 x2 x3) := by
  unfold State.fbResolve
  with_reducible repeat' first | assumption | apply State.setFb_keeps | apply State.putBit_keeps | apply State.fbReject_keeps | apply State.fbStep_keeps | apply keeps_ite | (fail_if_no_progress apply keeps_upd) | (refine keeps_snd (by assumption) ?_) | (refine keeps_fst (by assumption) ?_) | (refine keeps_out (by assumption) ?_) | split

theorem State.fbFlush_keeps {s0 : State} {x1} {x2} (h0 : Keeps q s0) :
    Keeps q (State.fbFlush s0 x1 x2) := by
  unfold State.fbFlush
  with_reducible repeat' first | assumption | apply State.fbResolve_keeps | apply keeps_ite | (fail_if_no_progress apply keeps_upd) | (refine keeps_snd (by assumption) ?_) | (refine keeps_fst (by assumption) ?_) | (refine keeps_out (by assumption) ?_) | split

theorem State.fbFlushNow_keeps {s0 : State} {x1} (h0 : Keeps q s0) :
    Keeps q (State.fbFlushNow s0 x1) := by
  unfold State.fbFlushNow
  with_reducible repeat' first | assumption | apply State.fbFlush_keeps

theorem State.fbSettle_keeps {s0 : State} {x1} {x2} (h0 : Keeps q s0) :
    Keeps q (State.fbSettle s0 x1 x2) := by
  unfold State.fbSettle
  with_reducible repeat' first | assumption | apply State.fbResolve_keeps | apply keeps_ite | (fail_if_no_progress apply keeps_upd) | (refine keeps_snd (by assumption) ?_) | (refine keeps_fst (by assumption) ?_) | (refine keeps_out (by assumption) ?_) | split

theorem State.fbEdge_keeps {s0 : State} {x1} {x2} {x3} (h0 : Keeps q s0) :
    Keeps q (State.fbEdge s0 x1 x2 x3) := by
  unfold State.fbEdge
  with_reducible repeat' first | assumption | apply State.fbFlush_keeps | apply State.setFb_keeps | apply State.fbResolve_keeps | apply keeps_ite | (fail_if_no_progress apply keeps_upd) | (refine keeps_snd (by assumption) ?_) | (refine keeps_fst (by assumption) ?_) | (refine keeps_out (by assumption) ?_) | split

theorem State.fbSetCount_keeps {s0 : State} {x1} {x2} (h0 : Keeps q s0) :
    Keeps q (State.fbSetCount s0 x1 x2) := by
  unfold State.fbSetCount
  with_reducible repeat' first | assumption | apply State.addI64_keeps | apply State.count_keeps | apply State.put_keeps | apply State.setFb_keeps | apply State.cmpReevaluate_keeps

theorem State.fbApplyShifts_keeps {s0 : State} {x1} (h0 : Keeps q s0) :
    Keeps q (State.fbApplyShifts s0 x1) := by
  unfold State.fbApplyShifts
  with_reducible repeat' first | assumption | apply State.setFb_keeps | apply State.each_keeps | apply State.put_keeps | apply State.shiftSetpoint_keeps | apply keeps_ite | (fail_if_no_progress apply keeps_upd) | (intro _ _ _)

theorem State.fbIndexLatch_keeps {s0 : State} {x1} {x2} (h0 : Keeps q s0) :
    Keeps q (State.fbIndexLatch s0 x1 x2) := by
  unfold State.fbIndexLatch
  with_reducible repeat' first | assumption | apply State.setBitIf_keeps | apply State.put_keeps | apply State.count_keeps | apply State.setFb_keeps

theorem State.fbIndex_keeps {s0 : State} {x1} {x2} (h0 : Keeps q s0) :
    Keeps q (State.fbIndex s0 x1 x2) := by
  unfold State.fbIndex
  with_reducible repeat' first | assumption | apply State.count_keeps | apply State.fbIndexLatch_keeps | apply State.fbSetCount_keeps | apply State.fbUncertain_keeps | apply State.setFb_keeps | apply State.clrBit_keeps | apply keeps_ite

theorem State.fbEvent_keeps {s0 : State} {x1} {x2} {x3} (h0 : Keeps q s0) :
    Keeps q (State.fbEvent s0 x1 x2 x3) := by
  unfold State.fbEvent
  with_reducible repeat' first | assumption | apply State.setFb_keeps

theorem State.fbPublishEvent_keeps {s0 : State} {x1} {x2} {x3} (h0 : Keeps q s0) :
    Keeps q (State.fbPublishEvent s0 x1 x2 x3) := by
  unfold State.fbPublishEvent
  with_reducible repeat' first | assumption | apply State.setBitIf_keeps | apply State.put_keeps | apply State.putBit_keeps | apply State.setFb_keeps

theorem State.fbEventsEdge_keeps {s0 : State} {x1} {x2} (h0 : Keeps q s0) :
    Keeps q (State.fbEventsEdge s0 x1 x2) := by
  unfold State.fbEventsEdge
  with_reducible repeat' first | assumption | apply State.setFb_keeps | apply State.fbPublishEvent_keeps | apply keeps_ite | apply keeps_foldl | (fail_if_no_progress apply keeps_upd) | (intro _ _ _)

theorem State.fbLoss_keeps {s0 : State} {x1} (h0 : Keeps q s0) :
    Keeps q (State.fbLoss s0 x1) := by
  unfold State.fbLoss
  with_reducible repeat' first | assumption | apply State.setFb_keeps | apply State.setBit_keeps | apply State.each_keeps | apply State.raiseMasked_keeps | apply State.raiseOnce_keeps | apply State.setActive_keeps | apply keeps_ite | (fail_if_no_progress apply keeps_upd) | (intro _ _ _)

theorem State.fbEdgeLatch_keeps {s0 : State} {x1} {x2} (h0 : Keeps q s0) :
    Keeps q (State.fbEdgeLatch s0 x1 x2) := by
  unfold State.fbEdgeLatch
  with_reducible repeat' first | assumption | apply State.setFb_keeps | apply State.fbFlushNow_keeps | apply State.put_keeps | apply State.count_keeps | apply State.each_keeps | apply State.latchMeasured_keeps | apply State.fbApplyShifts_keeps | apply State.fbEventsEdge_keeps | apply State.fbLoss_keeps | apply keeps_ite | (fail_if_no_progress apply keeps_upd) | (intro _ _ _) | (intro _ _) | (refine keeps_snd (by assumption) ?_) | (refine keeps_fst (by assumption) ?_) | (refine keeps_out (by assumption) ?_) | split

theorem State.ssiStale_keeps {s0 : State} {x1} (h0 : Keeps q s0) :
    Keeps q (State.ssiStale s0 x1) := by
  unfold State.ssiStale
  with_reducible repeat' first | assumption | apply State.each_keeps | apply State.slotStale_keeps | apply keeps_ite | (intro _ _ _)

theorem State.ssiError_keeps {s0 : State} {x1} {x2} (h0 : Keeps q s0) :
    Keeps q (State.ssiError s0 x1 x2) := by
  unfold State.ssiError
  with_reducible repeat' first | assumption | apply State.setBit_keeps | apply State.fbUncertain_keeps | apply State.count_keeps | apply State.setFb_keeps | apply State.ssiStale_keeps | apply keeps_ite

theorem State.ssiAccept_keeps {s0 : State} {x1} {x2} (h0 : Keeps q s0) :
    Keeps q (State.ssiAccept s0 x1 x2) := by
  unfold State.ssiAccept
  with_reducible repeat' first | assumption | apply State.put_keeps | apply State.setFb_keeps | apply State.ssiError_keeps | apply State.count_keeps | apply keeps_ite | (fail_if_no_progress apply keeps_upd) | (refine keeps_snd (by assumption) ?_) | (refine keeps_fst (by assumption) ?_) | (refine keeps_out (by assumption) ?_) | split | dsimp only

theorem State.ssiFrame_keeps {s0 : State} {x1} {x2} {x3} {x4} {x5} (h0 : Keeps q s0) :
    Keeps q (State.ssiFrame s0 x1 x2 x3 x4 x5) := by
  unfold State.ssiFrame
  with_reducible repeat' first | assumption | apply State.ssiError_keeps | apply State.setFb_keeps | apply State.put_keeps | apply State.ssiAccept_keeps | apply State.count_keeps | apply State.each_keeps | apply State.latchMeasured_keeps | apply keeps_ite | (fail_if_no_progress apply keeps_upd) | (intro _ _ _)

theorem encoderEdgeNow_keeps {x0} {x1} {x2} {s3 : State} (h3 : Keeps q s3) :
    OutKeeps q (encoderEdgeNow x0 x1 x2 s3) := by
  unfold encoderEdgeNow
  with_reducible repeat' first | assumption | apply State.fbEdge_keeps | apply keeps_ite | apply keeps_next

theorem execEncoderEdge_keeps {x0} {x1} {x2} {s3 : State} (h3 : Keeps q s3) :
    OutKeeps q (execEncoderEdge x0 x1 x2 s3) := by
  unfold execEncoderEdge
  with_reducible repeat' first | assumption | apply viaEdge_keeps | apply encoderEdgeNow_keeps

theorem comparePulseEndNow_keeps {x0} {s1 : State} (h1 : Keeps q s1) :
    OutKeeps q (comparePulseEndNow x0 s1) := by
  unfold comparePulseEndNow
  with_reducible repeat' first | assumption | apply State.setCmp_keeps | apply keeps_ite | apply keeps_next

theorem execComparePulseEnd_keeps {x0} {s1 : State} (h1 : Keeps q s1) :
    OutKeeps q (execComparePulseEnd x0 s1) := by
  unfold execComparePulseEnd
  with_reducible repeat' first | assumption | apply viaEdge_keeps | apply comparePulseEndNow_keeps

theorem ssiFrameCompleteNow_keeps {x0} {x1} {x2} {x3} {x4} {s5 : State} (h5 : Keeps q s5) :
    OutKeeps q (ssiFrameCompleteNow x0 x1 x2 x3 x4 s5) := by
  unfold ssiFrameCompleteNow
  with_reducible repeat' first | assumption | apply State.ssiFrame_keeps | apply keeps_ite | apply keeps_next

theorem execSsiFrameComplete_keeps {x0} {x1} {x2} {x3} {x4} {s5 : State} (h5 : Keeps q s5) :
    OutKeeps q (execSsiFrameComplete x0 x1 x2 x3 x4 s5) := by
  unfold execSsiFrameComplete
  with_reducible repeat' first | assumption | apply viaEdge_keeps | apply ssiFrameCompleteNow_keeps

theorem execArmIndex_keeps {x0} {s1 : State} (h1 : Keeps q s1) :
    OutKeeps q (execArmIndex x0 s1) := by
  unfold execArmIndex
  with_reducible repeat' first | assumption | apply State.setBit_keeps | apply State.done_keeps | apply State.reply_keeps | apply keeps_ite | apply keeps_next

theorem execDisarmIndex_keeps {x0} {s1 : State} (h1 : Keeps q s1) :
    OutKeeps q (execDisarmIndex x0 s1) := by
  unfold execDisarmIndex
  with_reducible repeat' first | assumption | apply State.clrBit_keeps | apply State.done_keeps | apply keeps_ite | apply keeps_next

theorem execPreset_keeps {x0} {s1 : State} (h1 : Keeps q s1) :
    OutKeeps q (execPreset x0 s1) := by
  unfold execPreset
  with_reducible repeat' first | assumption | apply State.setFb_keeps | apply State.done_keeps | apply keeps_ite | apply keeps_next

theorem State.presetApply_keeps {s0 : State} {x1} (h0 : Keeps q s0) :
    Keeps q (State.presetApply s0 x1) := by
  unfold State.presetApply
  with_reducible repeat' first | assumption | apply State.count_keeps | apply State.fbSetCount_keeps | apply State.setFb_keeps | apply State.put_keeps | apply State.each_keeps | apply State.slotLatch_keeps | apply State.fbApplyShifts_keeps | apply State.fbUncertain_keeps | apply keeps_ite | (fail_if_no_progress apply keeps_upd) | (intro _ _ _)

theorem execPresetApply_keeps {x0} {s1 : State} (h1 : Keeps q s1) :
    OutKeeps q (execPresetApply x0 s1) := by
  unfold execPresetApply
  with_reducible repeat' first | assumption | apply State.presetApply_keeps | apply keeps_ite | apply keeps_next

theorem execLineFault_keeps {x0} {x1} {s2 : State} (h2 : Keeps q s2) :
    OutKeeps q (execLineFault x0 x1 s2) := by
  unfold execLineFault
  with_reducible repeat' first | assumption | apply State.setFb_keeps | apply State.putBit_keeps | apply State.setBitIf_keeps | apply State.fbLoss_keeps | apply keeps_ite | apply keeps_next

theorem cmpAppendNow_keeps {x0} {x1} {s2 : State} (h2 : Keeps q s2) :
    OutKeeps q (cmpAppendNow x0 x1 s2) := by
  unfold cmpAppendNow
  with_reducible repeat' first | assumption | apply State.reply_keeps | apply State.fbFlushNow_keeps | apply State.cmpAppend_keeps | apply keeps_ite | apply keeps_next

theorem execCmpAppend_keeps {x0} {x1} {s2 : State} (h2 : Keeps q s2) :
    OutKeeps q (execCmpAppend x0 x1 s2) := by
  unfold execCmpAppend
  with_reducible repeat' first | assumption | apply viaEdge_keeps | apply cmpAppendNow_keeps

theorem execCmpCancelAll_keeps {x0} {s1 : State} (h1 : Keeps q s1) :
    OutKeeps q (execCmpCancelAll x0 s1) := by
  unfold execCmpCancelAll
  with_reducible repeat' first | assumption | apply State.setCmp_keeps | apply State.count_keeps | apply State.put_keeps | apply State.done_keeps | apply keeps_ite | apply keeps_next

theorem emulationStepNow_keeps {x0} {s1 : State} (h1 : Keeps q s1) :
    OutKeeps q (emulationStepNow x0 s1) := by
  unfold emulationStepNow
  with_reducible repeat' first | assumption | apply State.emuDeliver_keeps | apply State.emuStep_keeps | apply keeps_ite | apply keeps_next

theorem execEmulationStep_keeps {x0} {s1 : State} (h1 : Keeps q s1) :
    OutKeeps q (execEmulationStep x0 s1) := by
  unfold execEmulationStep
  with_reducible repeat' first | assumption | apply viaEdge_keeps | apply emulationStepNow_keeps

/-! ### Machine/Pwm.lean -/

theorem State.setPwm_keeps {s0 : State} {x1} {x2} (h0 : Keeps q s0) :
    Keeps q (State.setPwm s0 x1 x2) := by
  unfold State.setPwm
  with_reducible repeat' first | assumption | apply State.put_keeps | apply keeps_ite | (fail_if_no_progress apply keeps_upd)

theorem State.setPhase_keeps {s0 : State} {x1} {x2} {x3} (h0 : Keeps q s0) :
    Keeps q (State.setPhase s0 x1 x2 x3) := by
  unfold State.setPhase
  with_reducible repeat' first | assumption | apply State.setPwm_keeps

theorem State.showLegs_keeps {s0 : State} {x1} (h0 : Keeps q s0) :
    Keeps q (State.showLegs s0 x1) := by
  unfold State.showLegs
  with_reducible repeat' first | assumption | apply State.put_keeps

theorem State.wantLegs_keeps {s0 : State} {x1} {x2} (h0 : Keeps q s0) :
    Keeps q (State.wantLegs s0 x1 x2) := by
  unfold State.wantLegs
  with_reducible repeat' first | assumption | apply State.setPwm_keeps

theorem State.writeWords_keeps {s0 : State} {x1} {x2} (h0 : Keeps q s0) :
    Keeps q (State.writeWords s0 x1 x2) := by
  unfold State.writeWords
  with_reducible repeat' first | assumption | apply State.setPwm_keeps

theorem State.loadMode_keeps {s0 : State} {x1} {x2} (h0 : Keeps q s0) :
    Keeps q (State.loadMode s0 x1 x2) := by
  unfold State.loadMode
  with_reducible repeat' first | assumption | apply State.addI64_keeps | apply State.put_keeps | apply State.setPhase_keeps | apply keeps_ite

theorem State.loadPhase_keeps {s0 : State} {x1} {x2} (h0 : Keeps q s0) :
    Keeps q (State.loadPhase s0 x1 x2) := by
  unfold State.loadPhase
  with_reducible repeat' first | assumption | apply State.fresh_keeps | apply State.setPhase_keeps | apply State.loadMode_keeps | apply keeps_ite

theorem State.halfPhase_keeps {s0 : State} {x1} {x2} {x3} {x4} {x5} (h0 : Keeps q s0) :
    Keeps q (State.halfPhase s0 x1 x2 x3 x4 x5) := by
  unfold State.halfPhase
  with_reducible repeat' first | assumption | apply State.setPhase_keeps | apply State.addI64_keeps | apply State.put_keeps | apply State.setBitIf_keeps | apply keeps_ite

theorem State.cutPhase_keeps {s0 : State} {x1} {x2} {x3} (h0 : Keeps q s0) :
    Keeps q (State.cutPhase s0 x1 x2 x3) := by
  unfold State.cutPhase
  with_reducible repeat' first | assumption | apply State.addI64_keeps | apply State.put_keeps | apply State.setPhase_keeps | apply keeps_ite

theorem State.cutHalf_keeps {s0 : State} {x1} {x2} (h0 : Keeps q s0) :
    Keeps q (State.cutHalf s0 x1 x2) := by
  unfold State.cutHalf
  with_reducible repeat' first | assumption | apply State.each_keeps | apply State.cutPhase_keeps | apply keeps_ite | (intro _ _ _)

theorem State.setSl_keeps {s0 : State} {x1} {x2} (h0 : Keeps q s0) :
    Keeps q (State.setSl s0 x1 x2) := by
  unfold State.setSl
  with_reducible repeat' first | assumption | apply State.put_keeps | apply keeps_ite | (fail_if_no_progress apply keeps_upd)

theorem State.castStop_keeps {s0 : State} {x1} {x2} (h0 : Keeps q s0) :
    Keeps q (State.castStop s0 x1 x2) := by
  unfold State.castStop
  with_reducible repeat' first | assumption | apply State.setSl_keeps | apply State.put_keeps | apply State.wantLegs_keeps

theorem State.castFail_keeps {s0 : State} {x1} {x2} (h0 : Keeps q s0) :
    Keeps q (State.castFail s0 x1 x2) := by
  unfold State.castFail
  with_reducible repeat' first | assumption | apply State.castStop_keeps | apply State.setBit_keeps | apply State.raise_keeps | apply State.axisToFaulted_keeps | apply keeps_ite

theorem State.tripLatch_keeps {s0 : State} {x1} {x2} (h0 : Keeps q s0) :
    Keeps q (State.tripLatch s0 x1 x2) := by
  unfold State.tripLatch
  with_reducible repeat' first | assumption | apply State.put_keeps | apply State.setPwm_keeps | apply State.raiseLasting_keeps | apply State.setSl_keeps | apply State.castFail_keeps | apply keeps_ite

theorem State.cbcCount_keeps {s0 : State} {x1} {x2} (h0 : Keeps q s0) :
    Keeps q (State.cbcCount s0 x1 x2) := by
  unfold State.cbcCount
  with_reducible repeat' first | assumption | apply State.put_keeps | apply State.setPwm_keeps | apply State.tripLatch_keeps | apply keeps_ite

theorem State.tripAct_keeps {s0 : State} {x1} {x2} {x3} (h0 : Keeps q s0) :
    Keeps q (State.tripAct s0 x1 x2 x3) := by
  unfold State.tripAct
  with_reducible repeat' first | assumption | apply State.count_keeps | apply State.cutHalf_keeps | apply State.tripLatch_keeps | apply State.setPwm_keeps | apply State.setBit_keeps | apply State.cbcCount_keeps | apply keeps_ite

theorem State.tripInput_keeps {s0 : State} {x1} {x2} {x3} {x4} {x5} (h0 : Keeps q s0) :
    Keeps q (State.tripInput s0 x1 x2 x3 x4 x5) := by
  unfold State.tripInput
  with_reducible repeat' first | assumption | apply State.setPwm_keeps | apply State.acqEvent_keeps | apply State.tripAct_keeps | apply keeps_ite

theorem State.compTrip_keeps {s0 : State} {x1} {x2} {x3} {x4} {x5} (h0 : Keeps q s0) :
    Keeps q (State.compTrip s0 x1 x2 x3 x4 x5) := by
  unfold State.compTrip
  with_reducible repeat' first | assumption | apply State.setPwm_keeps | apply State.tripInput_keeps | apply keeps_ite

theorem tripAssertNow_keeps {x0} {x1} {x2} {x3} {x4} {x5} {s6 : State} (h6 : Keeps q s6) :
    OutKeeps q (tripAssertNow x0 x1 x2 x3 x4 x5 s6) := by
  unfold tripAssertNow
  with_reducible repeat' first | assumption | apply State.tripInput_keeps | apply keeps_ite | apply keeps_next

theorem execTripAssert_keeps {x0} {x1} {x2} {x3} {x4} {s5 : State} (h5 : Keeps q s5) :
    OutKeeps q (execTripAssert x0 x1 x2 x3 x4 s5) := by
  unfold execTripAssert
  with_reducible repeat' first | assumption | apply viaEdge_keeps | apply tripAssertNow_keeps

theorem blankingCloseNow_keeps {x0} {x1} {x2} {s3 : State} (h3 : Keeps q s3) :
    OutKeeps q (blankingCloseNow x0 x1 x2 s3) := by
  unfold blankingCloseNow
  with_reducible repeat' first | assumption | apply State.setPwm_keeps | apply State.tripAct_keeps | apply keeps_ite | apply keeps_next

theorem execBlankingClose_keeps {x0} {x1} {x2} {s3 : State} (h3 : Keeps q s3) :
    OutKeeps q (execBlankingClose x0 x1 x2 s3) := by
  unfold execBlankingClose
  with_reducible repeat' first | assumption | apply viaEdge_keeps | apply blankingCloseNow_keeps

theorem State.tripCleared_keeps {s0 : State} {x1} (h0 : Keeps q s0) :
    Keeps q (State.tripCleared s0 x1) := by
  unfold State.tripCleared
  with_reducible repeat' first | assumption | apply State.put_keeps | apply State.setActive_keeps | apply keeps_ite

theorem State.gateOff_keeps {s0 : State} {x1} {x2} {x3} (h0 : Keeps q s0) :
    Keeps q (State.gateOff s0 x1 x2 x3) := by
  unfold State.gateOff
  with_reducible repeat' first | assumption | apply State.cutHalf_keeps | apply State.setPwm_keeps | apply State.setBit_keeps | apply State.castStop_keeps | apply State.axisToFaulted_keeps | apply keeps_ite

theorem execGateEnableWithdrawn_keeps {x0} {x1} {x2} {s3 : State} (h3 : Keeps q s3) :
    OutKeeps q (execGateEnableWithdrawn x0 x1 x2 s3) := by
  unfold execGateEnableWithdrawn
  with_reducible repeat' first | assumption | apply State.gateOff_keeps | apply keeps_ite | apply keeps_next

theorem State.restartPhases_keeps {s0 : State} {x1} (h0 : Keeps q s0) :
    Keeps q (State.restartPhases s0 x1) := by
  unfold State.restartPhases
  with_reducible repeat' first | assumption | apply State.setPwm_keeps

theorem execSwitchingResume_keeps {x0} {s1 : State} (h1 : Keeps q s1) :
    OutKeeps q (execSwitchingResume x0 s1) := by
  unfold execSwitchingResume
  with_reducible repeat' first | assumption | apply State.setPwm_keeps | apply State.restartPhases_keeps | apply keeps_ite | apply keeps_next

theorem State.cbcValley_keeps {s0 : State} {x1} (h0 : Keeps q s0) :
    Keeps q (State.cbcValley s0 x1) := by
  unfold State.cbcValley
  with_reducible repeat' first | assumption | apply State.put_keeps | apply State.setPwm_keeps | apply State.cbcCount_keeps | apply State.restartPhases_keeps | apply keeps_ite

theorem State.halfStart_keeps {s0 : State} {x1} (h0 : Keeps q s0) :
    Keeps q (State.halfStart s0 x1) := by
  unfold State.halfStart
  with_reducible repeat' first | assumption | apply State.cbcValley_keeps | apply State.each_keeps | apply State.loadPhase_keeps | apply State.halfPhase_keeps | apply State.setPwm_keeps | apply State.showLegs_keeps | apply keeps_ite | (fail_if_no_progress apply keeps_upd) | (intro _ _ _)

theorem execHalfPeriodStart_keeps {x0} {s1 : State} (h1 : Keeps q s1) :
    OutKeeps q (execHalfPeriodStart x0 s1) := by
  unfold execHalfPeriodStart
  with_reducible repeat' first | assumption | apply State.atEdge_keeps | apply State.halfStart_keeps | apply keeps_ite | apply keeps_next | apply outKeeps_ite | (intro _ _ _) | (intro _ _)

theorem State.absorbClock_keeps {s0 : State} {x1} {x2} {x3} (h0 : Keeps q s0) :
    Keeps q (State.absorbClock s0 x1 x2 x3) := by
  unfold State.absorbClock
  with_reducible repeat' first | assumption | apply State.addI64_keeps | apply keeps_ite

theorem State.pwmEdge_keeps {s0 : State} {x1} {x2} {x3} (h0 : Keeps q s0) :
    Keeps q (State.pwmEdge s0 x1 x2 x3) := by
  unfold State.pwmEdge
  with_reducible repeat' first | assumption | apply State.put_keeps | apply State.each_keeps | apply State.absorbClock_keeps | apply State.setPwm_keeps | apply keeps_ite | (fail_if_no_progress apply keeps_upd) | (intro _ _ _)

theorem State.pvsRequest_keeps {s0 : State} {x1} {x2} (h0 : Keeps q s0) :
    Keeps q (State.pvsRequest s0 x1 x2) := by
  unfold State.pvsRequest
  with_reducible repeat' first | assumption | apply State.count_keeps | apply keeps_ite | (fail_if_no_progress apply keeps_upd)

theorem pvsConversionCompleteNow_keeps {x0} {s1 : State} (h1 : Keeps q s1) :
    OutKeeps q (pvsConversionCompleteNow x0 s1) := by
  unfold pvsConversionCompleteNow
  with_reducible repeat' first | assumption | apply State.put_keeps | apply keeps_ite | apply keeps_next | apply outKeeps_ite | (fail_if_no_progress apply keeps_upd) | (refine keeps_snd (by assumption) ?_) | (refine keeps_fst (by assumption) ?_) | (refine keeps_out (by assumption) ?_) | split

theorem execPvsConversionComplete_keeps {x0} {s1 : State} (h1 : Keeps q s1) :
    OutKeeps q (execPvsConversionComplete x0 s1) := by
  unfold execPvsConversionComplete
  with_reducible repeat' first | assumption | apply viaEdge_keeps | apply pvsConversionCompleteNow_keeps

/-! ### Machine/Foc.lean -/

theorem State.setFoc_keeps {s0 : State} {x1} {x2} (h0 : Keeps q s0) :
    Keeps q (State.setFoc s0 x1 x2) := by
  unfold State.setFoc
  with_reducible repeat' first | assumption | apply State.put_keeps | apply keeps_ite | (fail_if_no_progress apply keeps_upd)

theorem State.focSumCheck_keeps {s0 : State} {x1} {x2} (h0 : Keeps q s0) :
    Keeps q (State.focSumCheck s0 x1 x2) := by
  unfold State.focSumCheck
  with_reducible repeat' first | assumption | apply State.setFoc_keeps | apply State.setBit_keeps | apply State.raiseOnce_keeps | apply State.setActive_keeps | apply keeps_ite

theorem State.focDcCheck_keeps {s0 : State} {x1} {x2} (h0 : Keeps q s0) :
    Keeps q (State.focDcCheck s0 x1 x2) := by
  unfold State.focDcCheck
  with_reducible repeat' first | assumption | apply State.setFoc_keeps | apply State.setBit_keeps | apply State.raiseOnce_keeps | apply State.setActive_keeps | apply keeps_ite

theorem execModulatorInputLost_keeps {x0} {x1} {s2 : State} (h2 : Keeps q s2) :
    OutKeeps q (execModulatorInputLost x0 x1 s2) := by
  unfold execModulatorInputLost
  with_reducible repeat' first | assumption | apply State.each_keeps | apply State.setBit_keeps | apply State.raiseOnce_keeps | apply State.setActive_keeps | apply keeps_ite | apply keeps_next | apply outKeeps_ite | (fail_if_no_progress apply keeps_upd) | (intro _ _ _)

theorem fastComparatorTripNow_keeps {x0} {x1} {x2} {x3} {x4} {s5 : State} (h5 : Keeps q s5) :
    OutKeeps q (fastComparatorTripNow x0 x1 x2 x3 x4 s5) := by
  unfold fastComparatorTripNow
  with_reducible repeat' first | assumption | apply State.setFoc_keeps | apply State.compTrip_keeps | apply keeps_ite | apply keeps_next

theorem execFastComparatorTrip_keeps {x0} {x1} {x2} {x3} {s4 : State} (h4 : Keeps q s4) :
    OutKeeps q (execFastComparatorTrip x0 x1 x2 x3 s4) := by
  unfold execFastComparatorTrip
  with_reducible repeat' first | assumption | apply viaEdge_keeps | apply fastComparatorTripNow_keeps

theorem generalInputLimitNow_keeps {x0} {x1} {x2} {x3} {s4 : State} (h4 : Keeps q s4) :
    OutKeeps q (generalInputLimitNow x0 x1 x2 x3 s4) := by
  unfold generalInputLimitNow
  with_reducible repeat' first | assumption | apply State.compTrip_keeps | apply State.raiseOnce_keeps | apply State.setActive_keeps | apply keeps_ite | apply keeps_next

theorem execGeneralInputLimit_keeps {x0} {x1} {x2} {s3 : State} (h3 : Keeps q s3) :
    OutKeeps q (execGeneralInputLimit x0 x1 x2 s3) := by
  unfold execGeneralInputLimit
  with_reducible repeat' first | assumption | apply viaEdge_keeps | apply generalInputLimitNow_keeps

theorem State.genEdge_keeps {s0 : State} {x1} (h0 : Keeps q s0) :
    Keeps q (State.genEdge s0 x1) := by
  unfold State.genEdge
  with_reducible repeat' first | assumption | apply State.put_keeps | apply State.slotLatch_keeps | apply keeps_ite

theorem State.focEdge_keeps {s0 : State} {x1} (h0 : Keeps q s0) :
    Keeps q (State.focEdge s0 x1) := by
  unfold State.focEdge
  with_reducible repeat' first | assumption | apply State.putAll_keeps | apply State.put_keeps | apply State.slotLatch_keeps | apply State.setFoc_keeps | apply keeps_ite

/-! ### Machine/Sensorless.lean -/

theorem State.brakeRelease_keeps {s0 : State} {x1} (h0 : Keeps q s0) :
    Keeps q (State.brakeRelease s0 x1) := by
  unfold State.brakeRelease
  with_reducible repeat' first | assumption | apply State.setAxis_keeps | apply keeps_ite

theorem State.startHfi_keeps {s0 : State} {x1} (h0 : Keeps q s0) :
    Keeps q (State.startHfi s0 x1) := by
  unfold State.startHfi
  with_reducible repeat' first | assumption | apply State.put_keeps | apply State.setSl_keeps

theorem State.castAcquire_keeps {s0 : State} {x1} (h0 : Keeps q s0) :
    Keeps q (State.castAcquire s0 x1) := by
  unfold State.castAcquire
  with_reducible repeat' first | assumption | apply State.setSl_keeps | apply State.wantLegs_keeps | apply State.put_keeps | apply State.startHfi_keeps | apply keeps_ite

theorem State.leaveStandby_keeps {s0 : State} {x1} (h0 : Keeps q s0) :
    Keeps q (State.leaveStandby s0 x1) := by
  unfold State.leaveStandby
  with_reducible repeat' first | assumption | apply State.clrBit_keeps | apply State.wantLegs_keeps | apply keeps_ite

theorem State.castVirtual_keeps {s0 : State} {x1} {x2} (h0 : Keeps q s0) :
    Keeps q (State.castVirtual s0 x1 x2) := by
  unfold State.castVirtual
  with_reducible repeat' first | assumption | apply State.setAxis_keeps | apply State.put_keeps

theorem State.castBegin_keeps {s0 : State} {x1} {x2} {x3} (h0 : Keeps q s0) :
    Keeps q (State.castBegin s0 x1 x2 x3) := by
  unfold State.castBegin
  with_reducible repeat' first | assumption | apply State.leaveStandby_keeps | apply State.count_keeps | apply State.castVirtual_keeps | apply State.put_keeps | apply State.setAxis_keeps | apply State.castFail_keeps | apply State.castAcquire_keeps | apply State.setSl_keeps | apply keeps_ite

theorem State.castAcquired_keeps {s0 : State} {x1} {x2} {x3} (h0 : Keeps q s0) :
    Keeps q (State.castAcquired s0 x1 x2 x3) := by
  unfold State.castAcquired
  with_reducible repeat' first | assumption | apply State.setSl_keeps | apply State.put_keeps | apply State.wantLegs_keeps | apply State.brakeRelease_keeps | apply State.count_keeps | apply keeps_ite

theorem State.commandMove_keeps {s0 : State} {x1} {x2} {x3} {x4} (h0 : Keeps q s0) :
    Keeps q (State.commandMove s0 x1 x2 x3 x4) := by
  unfold State.commandMove
  with_reducible repeat' first | assumption | apply State.addI64_keeps | apply State.put_keeps | apply State.setAxis_keeps

theorem State.releasePending_keeps {s0 : State} {x1} {x2} (h0 : Keeps q s0) :
    Keeps q (State.releasePending s0 x1 x2) := by
  unfold State.releasePending
  with_reducible repeat' first | assumption | apply State.setAxis_keeps | apply State.commandMove_keeps | apply keeps_ite | (fail_if_no_progress apply keeps_upd) | (refine keeps_snd (by assumption) ?_) | (refine keeps_fst (by assumption) ?_) | (refine keeps_out (by assumption) ?_) | split | dsimp only

theorem State.castDone_keeps {s0 : State} {x1} {x2} (h0 : Keeps q s0) :
    Keeps q (State.castDone s0 x1 x2) := by
  unfold State.castDone
  with_reducible repeat' first | assumption | apply State.put_keeps | apply State.releasePending_keeps | apply State.setAxis_keeps

theorem State.closeLoop_keeps {s0 : State} {x1} (h0 : Keeps q s0) :
    Keeps q (State.closeLoop s0 x1) := by
  unfold State.closeLoop
  with_reducible repeat' first | assumption | apply State.setAxis_keeps

theorem State.brakePlan_keeps {s0 : State} {x1} (h0 : Keeps q s0) :
    Keeps q (State.brakePlan s0 x1) := by
  unfold State.brakePlan
  with_reducible repeat' first | assumption | apply State.setAxis_keeps

theorem State.castEdge_keeps {s0 : State} {x1} (h0 : Keeps q s0) :
    Keeps q (State.castEdge s0 x1) := by
  unfold State.castEdge
  with_reducible repeat' first | assumption | apply State.castFail_keeps | apply State.brakeRelease_keeps | apply State.setSl_keeps | apply State.closeLoop_keeps | apply State.castDone_keeps | apply State.put_keeps | apply State.brakePlan_keeps | apply keeps_ite | (fail_if_no_progress apply keeps_upd) | (refine keeps_snd (by assumption) ?_) | (refine keeps_fst (by assumption) ?_) | (refine keeps_out (by assumption) ?_) | split

theorem execCastOnMeasureTimeout_keeps {x0} {s1 : State} (h1 : Keeps q s1) :
    OutKeeps q (execCastOnMeasureTimeout x0 s1) := by
  unfold execCastOnMeasureTimeout
  with_reducible repeat' first | assumption | apply State.put_keeps | apply State.startHfi_keeps | apply keeps_ite | apply keeps_next

theorem execCastOnTimeout_keeps {x0} {x1} {s2 : State} (h2 : Keeps q s2) :
    OutKeeps q (execCastOnTimeout x0 x1 s2) := by
  unfold execCastOnTimeout
  with_reducible repeat' first | assumption | apply State.castFail_keeps | apply keeps_ite | apply keeps_next

theorem State.castMeasured_keeps {s0 : State} {x1} {x2} {x3} (h0 : Keeps q s0) :
    Keeps q (State.castMeasured s0 x1 x2 x3) := by
  unfold State.castMeasured
  with_reducible repeat' first | assumption | apply State.put_keeps | apply State.castAcquired_keeps | apply State.setSl_keeps | apply State.wantLegs_keeps | apply State.brakeRelease_keeps | apply keeps_ite

theorem State.recoveryFail_keeps {s0 : State} {x1} (h0 : Keeps q s0) :
    Keeps q (State.recoveryFail s0 x1) := by
  unfold State.recoveryFail
  with_reducible repeat' first | assumption | apply State.setSl_keeps | apply State.setActive_keeps | apply State.setBit_keeps | apply State.wantLegs_keeps | apply State.raise_keeps | apply State.axisToFaulted_keeps

theorem State.reacquired_keeps {s0 : State} {x1} {x2} {x3} {x4} (h0 : Keeps q s0) :
    Keeps q (State.reacquired s0 x1 x2 x3 x4) := by
  unfold State.reacquired
  with_reducible repeat' first | assumption | apply State.recoveryFail_keeps | apply State.setSl_keeps | apply keeps_ite

theorem State.reacquire_keeps {s0 : State} {x1} {x2} {x3} (h0 : Keeps q s0) :
    Keeps q (State.reacquire s0 x1 x2 x3) := by
  unfold State.reacquire
  with_reducible repeat' first | assumption | apply State.put_keeps | apply State.startHfi_keeps | apply State.reacquired_keeps | apply keeps_ite

theorem State.crossing_keeps {s0 : State} {x1} {x2} {x3} {x4} {x5} (h0 : Keeps q s0) :
    Keeps q (State.crossing s0 x1 x2 x3 x4 x5) := by
  unfold State.crossing
  with_reducible repeat' first | assumption | apply State.setSl_keeps | apply State.castMeasured_keeps | apply State.reacquire_keeps | apply keeps_ite | (fail_if_no_progress apply keeps_upd) | (refine keeps_snd (by assumption) ?_) | (refine keeps_fst (by assumption) ?_) | (refine keeps_out (by assumption) ?_) | split

theorem pvsComparatorChangeNow_keeps {x0} {x1} {x2} {x3} {x4} {s5 : State} (h5 : Keeps q s5) :
    OutKeeps q (pvsComparatorChangeNow x0 x1 x2 x3 x4 s5) := by
  unfold pvsComparatorChangeNow
  with_reducible repeat' first | assumption | apply State.count_keeps | apply State.setFoc_keeps | apply State.crossing_keeps | apply keeps_ite | apply keeps_next

theorem execPvsComparatorChange_keeps {x0} {x1} {x2} {x3} {x4} {s5 : State} (h5 : Keeps q s5) :
    OutKeeps q (execPvsComparatorChange x0 x1 x2 x3 x4 s5) := by
  unfold execPvsComparatorChange
  with_reducible repeat' first | assumption | apply viaEdge_keeps | apply pvsComparatorChangeNow_keeps

theorem State.sectorLegs_keeps {s0 : State} {x1} {x2} (h0 : Keeps q s0) :
    Keeps q (State.sectorLegs s0 x1 x2) := by
  unfold State.sectorLegs
  with_reducible repeat' first | assumption | apply State.setPwm_keeps

theorem State.useFast_keeps {s0 : State} {x1} {x2} (h0 : Keeps q s0) :
    Keeps q (State.useFast s0 x1 x2) := by
  unfold State.useFast
  with_reducible repeat' first | assumption | apply State.setSl_keeps | apply State.put_keeps | apply State.sectorLegs_keeps | apply keeps_ite

theorem execSixStepCommutation_keeps {x0} {x1} {s2 : State} (h2 : Keeps q s2) :
    OutKeeps q (execSixStepCommutation x0 x1 s2) := by
  unfold execSixStepCommutation
  with_reducible repeat' first | assumption | apply State.setSl_keeps | apply State.sectorLegs_keeps | apply keeps_ite | apply keeps_next

theorem State.startDibber_keeps {s0 : State} {x1} {x2} (h0 : Keeps q s0) :
    Keeps q (State.startDibber s0 x1 x2) := by
  unfold State.startDibber
  with_reducible repeat' first | assumption | apply State.setSl_keeps | apply State.wantLegs_keeps

theorem execHfiLocked_keeps {x0} {s1 : State} (h1 : Keeps q s1) :
    OutKeeps q (execHfiLocked x0 s1) := by
  unfold execHfiLocked
  with_reducible repeat' first | assumption | apply State.put_keeps | apply State.startDibber_keeps | apply State.setSl_keeps | apply keeps_ite | apply keeps_next

theorem execHfiFailed_keeps {x0} {s1 : State} (h1 : Keeps q s1) :
    OutKeeps q (execHfiFailed x0 s1) := by
  unfold execHfiFailed
  with_reducible repeat' first | assumption | apply State.setBit_keeps | apply State.castFail_keeps | apply keeps_ite | apply keeps_next

theorem State.dibberFail_keeps {s0 : State} {x1} {x2} (h0 : Keeps q s0) :
    Keeps q (State.dibberFail s0 x1 x2) := by
  unfold State.dibberFail
  with_reducible repeat' first | assumption | apply State.setBit_keeps | apply State.setSl_keeps | apply State.castFail_keeps | apply keeps_ite

theorem State.dibberPass_keeps {s0 : State} {x1} {x2} (h0 : Keeps q s0) :
    Keeps q (State.dibberPass s0 x1 x2) := by
  unfold State.dibberPass
  with_reducible repeat' first | assumption | apply State.reacquired_keeps | apply State.castAcquired_keeps | apply keeps_ite

theorem execDibberPulseEnd_keeps {x0} {x1} {s2 : State} (h2 : Keeps q s2) :
    OutKeeps q (execDibberPulseEnd x0 x1 s2) := by
  unfold execDibberPulseEnd
  with_reducible repeat' first | assumption | apply State.wantLegs_keeps | apply State.dibberFail_keeps | apply State.done_keeps | apply State.setSl_keeps | apply State.dibberPass_keeps | apply keeps_ite | apply keeps_next | apply outKeeps_ite | (fail_if_no_progress apply keeps_upd) | (refine keeps_snd (by assumption) ?_) | (refine keeps_fst (by assumption) ?_) | (refine keeps_out (by assumption) ?_) | split

theorem execDibberGapExpiry_keeps {x0} {s1 : State} (h1 : Keeps q s1) :
    OutKeeps q (execDibberGapExpiry x0 s1) := by
  unfold execDibberGapExpiry
  with_reducible repeat' first | assumption | apply State.setSl_keeps | apply State.wantLegs_keeps | apply keeps_ite | apply keeps_next | apply outKeeps_ite | (fail_if_no_progress apply keeps_upd) | (refine keeps_snd (by assumption) ?_) | (refine keeps_fst (by assumption) ?_) | (refine keeps_out (by assumption) ?_) | split

theorem State.loseLock_keeps {s0 : State} {x1} {x2} (h0 : Keeps q s0) :
    Keeps q (State.loseLock s0 x1 x2) := by
  unfold State.loseLock
  with_reducible repeat' first | assumption | apply State.castFail_keeps | apply State.recoveryFail_keeps | apply State.setBit_keeps | apply State.count_keeps | apply State.raiseLasting_keeps | apply State.setAxis_keeps | apply State.setSl_keeps | apply keeps_ite

theorem execLockLost_keeps {x0} {x1} {s2 : State} (h2 : Keeps q s2) :
    OutKeeps q (execLockLost x0 x1 s2) := by
  unfold execLockLost
  with_reducible repeat' first | assumption | apply State.loseLock_keeps | apply keeps_ite | apply keeps_next

theorem execAscOrFreewheel_keeps {x0} {s1 : State} (h1 : Keeps q s1) :
    OutKeeps q (execAscOrFreewheel x0 s1) := by
  unfold execAscOrFreewheel
  with_reducible repeat' first | assumption | apply State.put_keeps | apply State.setSl_keeps | apply State.wantLegs_keeps | apply State.setBit_keeps | apply State.startHfi_keeps | apply keeps_ite | apply keeps_next

theorem execReacquisitionEstimate_keeps {x0} {x1} {x2} {x3} {s4 : State} (h4 : Keeps q s4) :
    OutKeeps q (execReacquisitionEstimate x0 x1 x2 x3 s4) := by
  unfold execReacquisitionEstimate
  with_reducible repeat' first | assumption | apply State.setSl_keeps | apply State.put_keeps | apply State.reacquired_keeps | apply State.wantLegs_keeps | apply keeps_ite | apply keeps_next

theorem execLockRecovery_keeps {x0} {s1 : State} (h1 : Keeps q s1) :
    OutKeeps q (execLockRecovery x0 s1) := by
  unfold execLockRecovery
  with_reducible repeat' first | assumption | apply State.setFoc_keeps | apply State.setSl_keeps | apply State.wantLegs_keeps | apply State.put_keeps | apply State.useFast_keeps | apply State.setActive_keeps | apply State.count_keeps | apply State.setAxis_keeps | apply State.closeLoop_keeps | apply keeps_ite | apply keeps_next | apply outKeeps_ite | (fail_if_no_progress apply keeps_upd) | (refine keeps_snd (by assumption) ?_) | (refine keeps_fst (by assumption) ?_) | (refine keeps_out (by assumption) ?_) | split | dsimp only

theorem execLockRecoveryFailed_keeps {x0} {s1 : State} (h1 : Keeps q s1) :
    OutKeeps q (execLockRecoveryFailed x0 s1) := by
  unfold execLockRecoveryFailed
  with_reducible repeat' first | assumption | apply State.recoveryFail_keeps | apply keeps_ite | apply keeps_next

theorem State.unwrapAngle_keeps {s0 : State} {x1} (h0 : Keeps q s0) :
    Keeps q (State.unwrapAngle s0 x1) := by
  unfold State.unwrapAngle
  with_reducible repeat' first | assumption | apply State.setSl_keeps

theorem State.rideEnter_keeps {s0 : State} {x1} (h0 : Keeps q s0) :
    Keeps q (State.rideEnter s0 x1) := by
  unfold State.rideEnter
  with_reducible repeat' first | assumption | apply State.setSl_keeps | apply State.setBit_keeps | apply State.count_keeps | apply State.setAxis_keeps

theorem State.latchEstimator_keeps {s0 : State} {x1} (h0 : Keeps q s0) :
    Keeps q (State.latchEstimator s0 x1) := by
  unfold State.latchEstimator
  with_reducible repeat' first | assumption | apply State.slotLatch_keeps | apply State.showSpeed_keeps

theorem State.slEdge_keeps {s0 : State} {x1} (h0 : Keeps q s0) :
    Keeps q (State.slEdge s0 x1) := by
  unfold State.slEdge
  with_reducible repeat' first | assumption | apply State.put_keeps | apply State.setAxis_keeps | apply State.unwrapAngle_keeps | apply State.latchEstimator_keeps | apply State.setSl_keeps | apply State.rideEnter_keeps | apply keeps_ite

theorem State.rideEnd_keeps {s0 : State} {x1} (h0 : Keeps q s0) :
    Keeps q (State.rideEnd s0 x1) := by
  unfold State.rideEnd
  with_reducible repeat' first | assumption | apply State.put_keeps | apply State.fbUncertain_keeps | apply State.setSl_keeps | apply State.setAxis_keeps

theorem execRideThroughReturn_keeps {x0} {s1 : State} (h1 : Keeps q s1) :
    OutKeeps q (execRideThroughReturn x0 s1) := by
  unfold execRideThroughReturn
  with_reducible repeat' first | assumption | apply State.rideEnd_keeps | apply keeps_ite | apply keeps_next

theorem execReturnFromRideThrough_keeps {x0} {s1 : State} (h1 : Keeps q s1) :
    OutKeeps q (execReturnFromRideThrough x0 s1) := by
  unfold execReturnFromRideThrough
  with_reducible repeat' first | assumption | apply State.reply_keeps | apply State.rideEnd_keeps | apply State.done_keeps | apply keeps_ite | apply keeps_next

theorem execAngleTest_keeps {x0} {s1 : State} (h1 : Keeps q s1) :
    OutKeeps q (execAngleTest x0 s1) := by
  unfold execAngleTest
  with_reducible repeat' first | assumption | apply State.reply_keeps | apply State.put_keeps | apply State.castAcquire_keeps | apply State.setSl_keeps | apply State.done_keeps | apply keeps_ite | apply keeps_next

theorem State.fluxStep_keeps {s0 : State} {x1} {x2} (h0 : Keeps q s0) :
    Keeps q (State.fluxStep s0 x1 x2).1 := by
  unfold State.fluxStep
  with_reducible repeat' first | assumption | apply State.setSl_keeps

theorem State.residual_keeps {s0 : State} {x1} {x2} {x3} (h0 : Keeps q s0) :
    Keeps q (State.residual s0 x1 x2 x3) := by
  unfold State.residual
  with_reducible repeat' first | assumption | apply State.setSl_keeps | apply keeps_ite | (fail_if_no_progress apply keeps_upd) | (refine keeps_snd (by assumption) ?_) | (refine keeps_fst (by assumption) ?_) | (refine keeps_out (by assumption) ?_) | split

theorem State.hfiStep_keeps {s0 : State} {x1} {x2} (h0 : Keeps q s0) :
    Keeps q (State.hfiStep s0 x1 x2) := by
  unfold State.hfiStep
  with_reducible repeat' first | assumption | apply State.put_keeps | apply State.setSl_keeps | apply State.useFast_keeps | apply State.setBit_keeps | apply keeps_ite

theorem State.fastStep_keeps {s0 : State} {x1} {x2} (h0 : Keeps q s0) :
    Keeps q (State.fastStep s0 x1 x2) := by
  unfold State.fastStep
  with_reducible repeat' first | assumption | apply State.setSl_keeps | apply State.put_keeps | apply keeps_ite

theorem State.slStep_keeps {s0 : State} {x1} {x2} {x3} {x4} (h0 : Keeps q s0) :
    Keeps q (State.slStep s0 x1 x2 x3 x4) := by
  unfold State.slStep
  with_reducible repeat' first | assumption | apply State.put_keeps | apply State.fluxStep_keeps | apply State.residual_keeps | apply State.useFast_keeps | apply State.hfiStep_keeps | apply State.fastStep_keeps | apply keeps_ite

theorem State.syncStep_keeps {s0 : State} {x1} {x2} {x3} (h0 : Keeps q s0) :
    Keeps q (State.syncStep s0 x1 x2 x3) := by
  unfold State.syncStep
  with_reducible repeat' first | assumption | apply State.setSl_keeps | apply State.put_keeps | apply State.useFast_keeps | apply State.castAcquired_keeps | apply keeps_ite

theorem State.pipelineLegs_keeps {s0 : State} {x1} {x2} (h0 : Keeps q s0) :
    Keeps q (State.pipelineLegs s0 x1 x2) := by
  unfold State.pipelineLegs
  with_reducible repeat' first | assumption | apply State.setSl_keeps | apply State.sectorLegs_keeps | apply State.wantLegs_keeps | apply keeps_ite

theorem State.focUpdate_keeps {s0 : State} {x1} {x2} {x3} {x4} {x5} (h0 : Keeps q s0) :
    Keeps q (State.focUpdate s0 x1 x2 x3 x4 x5) := by
  unfold State.focUpdate
  with_reducible repeat' first | assumption | apply State.setFoc_keeps | apply State.writeWords_keeps | apply State.setBitIf_keeps | apply State.pipelineLegs_keeps | apply keeps_ite

theorem State.focRun_keeps {s0 : State} {x1} {x2} {x3} {x4} {x5} (h0 : Keeps q s0) :
    Keeps q (State.focRun s0 x1 x2 x3 x4 x5) := by
  unfold State.focRun
  with_reducible repeat' first | assumption | apply State.setBitIf_keeps | apply State.put_keeps | apply State.slStep_keeps | apply State.focUpdate_keeps | apply State.focSumCheck_keeps | apply State.focDcCheck_keeps | apply State.syncStep_keeps | apply State.each_keeps | apply State.pvsRequest_keeps | apply keeps_ite | (intro _ _ _)

theorem execFocComputation_keeps {x0} {x1} {x2} {x3} {x4} {s5 : State} (h5 : Keeps q s5) :
    OutKeeps q (execFocComputation x0 x1 x2 x3 x4 s5) := by
  unfold execFocComputation
  with_reducible repeat' first | assumption | apply State.atEdge_keeps | apply State.focRun_keeps | apply keeps_ite | apply keeps_next | apply outKeeps_ite | (intro _ _ _) | (intro _ _)

end Sys2Proof.Machine
end

