-- ==== Sys2Proof/Laws/KeepsAxes.lean ====
section
/-! SUPPORT. The operations and meanings of Machine/Motion.lean, Stops.lean, Graft.lean, Span.lean, Loops.lean, Midopin.lean, Row.lean keep the
canonical form and the queue. -/

namespace Sys2Proof.Machine

variable {q : List Instr}

/-! ### Machine/Motion.lean -/

theorem State.showQueue_keeps {s0 : State} {x1} (h0 : Keeps q s0) :
    Keeps q (State.showQueue s0 x1) := by
  unfold State.showQueue
  with_reducible repeat' first | assumption | apply State.put_keeps

theorem State.flushBeyond_keeps {s0 : State} {x1} {x2} (h0 : Keeps q s0) :
    Keeps q (State.flushBeyond s0 x1 x2) := by
  unfold State.flushBeyond
  with_reducible repeat' first | assumption | apply State.setAxis_keeps | apply State.count_keeps | apply State.showQueue_keeps

theorem State.moveDone_keeps {s0 : State} {x1} (h0 : Keeps q s0) :
    Keeps q (State.moveDone s0 x1) := by
  unfold State.moveDone
  with_reducible repeat' first | assumption | apply State.setAxis_keeps | apply State.put_keeps | apply keeps_ite | (fail_if_no_progress apply keeps_upd) | (refine keeps_snd (by assumption) ?_) | (refine keeps_fst (by assumption) ?_) | (refine keeps_out (by assumption) ?_) | split

theorem State.ledgerMove_keeps {s0 : State} {x1} {x2} {x3} (h0 : Keeps q s0) :
    Keeps q (State.ledgerMove s0 x1 x2 x3) := by
  unfold State.ledgerMove
  with_reducible repeat' first | assumption | apply State.addI64_keeps | apply State.put_keeps | apply keeps_ite | (fail_if_no_progress apply keeps_upd) | (refine keeps_snd (by assumption) ?_) | (refine keeps_fst (by assumption) ?_) | (refine keeps_out (by assumption) ?_) | split

theorem State.showSetpoint_keeps {s0 : State} {x1} (h0 : Keeps q s0) :
    Keeps q (State.showSetpoint s0 x1) := by
  unfold State.showSetpoint
  with_reducible repeat' first | assumption | apply State.put_keeps

theorem State.applyEntry_keeps {s0 : State} {x1} {x2} (h0 : Keeps q s0) :
    Keeps q (State.applyEntry s0 x1 x2) := by
  unfold State.applyEntry
  with_reducible repeat' first | assumption | apply State.ledgerMove_keeps | apply State.setAxis_keeps | apply State.showSetpoint_keeps | apply State.each_keeps | apply keeps_ite | (fail_if_no_progress apply keeps_upd) | (intro _ _ _) | (intro _ _) | (refine keeps_snd (by assumption) ?_) | (refine keeps_fst (by assumption) ?_) | (refine keeps_out (by assumption) ?_) | split | dsimp only

theorem State.consumeEdge_keeps {s0 : State} {x1} {x2} (h0 : Keeps q s0) :
    Keeps q (State.consumeEdge s0 x1 x2) := by
  unfold State.consumeEdge
  with_reducible repeat' first | assumption | apply State.setAxis_keeps | apply State.showQueue_keeps | apply State.applyEntry_keeps | apply State.count_keeps | apply State.done_keeps | apply State.moveDone_keeps | apply keeps_ite | (fail_if_no_progress apply keeps_upd) | (refine keeps_snd (by assumption) ?_) | (refine keeps_fst (by assumption) ?_) | (refine keeps_out (by assumption) ?_) | split | dsimp only

theorem State.runPlan_keeps {s0 : State} {x1} {x2} {x3} (h0 : Keeps q s0) :
    Keeps q (State.runPlan s0 x1 x2 x3) := by
  unfold State.runPlan
  with_reducible repeat' first | assumption | apply State.setAxis_keeps | apply State.done_keeps | apply State.moveDone_keeps | apply keeps_ite

theorem State.planStopRamp_keeps {s0 : State} {x1} {x2} {x3} (h0 : Keeps q s0) :
    Keeps q (State.planStopRamp s0 x1 x2 x3) := by
  unfold State.planStopRamp
  with_reducible repeat' first | assumption | apply State.setAxis_keeps | apply State.abandonRemaining_keeps | apply State.runPlan_keeps | apply keeps_ite

theorem State.replan_keeps {s0 : State} {x1} (h0 : Keeps q s0) :
    Keeps q (State.replan s0 x1) := by
  unfold State.replan
  with_reducible repeat' first | assumption | apply State.runPlan_keeps | apply State.done_keeps | apply State.setBit_keeps | apply State.setAxis_keeps | apply keeps_ite | (fail_if_no_progress apply keeps_upd) | (refine keeps_snd (by assumption) ?_) | (refine keeps_fst (by assumption) ?_) | (refine keeps_out (by assumption) ?_) | split

theorem State.planTo_keeps {s0 : State} {x1} {x2} (h0 : Keeps q s0) :
    Keeps q (State.planTo s0 x1 x2) := by
  unfold State.planTo
  with_reducible repeat' first | assumption | apply State.setAxis_keeps | apply State.runPlan_keeps

theorem State.planVel_keeps {s0 : State} {x1} {x2} (h0 : Keeps q s0) :
    Keeps q (State.planVel s0 x1 x2) := by
  unfold State.planVel
  with_reducible repeat' first | assumption | apply State.setAxis_keeps | apply State.runPlan_keeps

theorem State.ownFromChain_keeps {s0 : State} {x1} (h0 : Keeps q s0) :
    Keeps q (State.ownFromChain s0 x1) := by
  unfold State.ownFromChain
  with_reducible repeat' first | assumption | apply State.flushBeyond_keeps | apply State.count_keeps | apply State.setAxis_keeps | apply State.showQueue_keeps

theorem State.rejoinRamps_keeps {s0 : State} {x1} (h0 : Keeps q s0) :
    Keeps q (State.rejoinRamps s0 x1) := by
  unfold State.rejoinRamps
  with_reducible repeat' first | assumption | apply State.each_keeps | apply State.setBind_keeps | apply keeps_ite | (fail_if_no_progress apply keeps_upd) | (intro _ _ _)

theorem State.graftDetach_keeps {s0 : State} {x1} (h0 : Keeps q s0) :
    Keeps q (State.graftDetach s0 x1) := by
  unfold State.graftDetach
  with_reducible repeat' first | assumption | apply State.ownFromChain_keeps | apply State.put_keeps | apply State.rejoinRamps_keeps | apply State.setBit_keeps | apply keeps_ite

theorem State.stopDetach_keeps {s0 : State} {x1} (h0 : Keeps q s0) :
    Keeps q (State.stopDetach s0 x1) := by
  unfold State.stopDetach
  with_reducible repeat' first | assumption | apply State.graftDetach_keeps | apply keeps_ite | (fail_if_no_progress apply keeps_upd) | (refine keeps_snd (by assumption) ?_) | (refine keeps_fst (by assumption) ?_) | (refine keeps_out (by assumption) ?_) | split

theorem State.commandTable_keeps {s0 : State} {x1} {x2} {x3} {x4} (h0 : Keeps q s0) :
    Keeps q (State.commandTable s0 x1 x2 x3 x4) := by
  unfold State.commandTable
  with_reducible repeat' first | assumption | apply State.commandMove_keeps | apply State.replan_keeps | apply State.setAxis_keeps | apply State.addI64_keeps | apply State.put_keeps | apply keeps_ite | (fail_if_no_progress apply keeps_upd) | (refine keeps_snd (by assumption) ?_) | (refine keeps_fst (by assumption) ?_) | (refine keeps_out (by assumption) ?_) | split

theorem State.planApply_keeps {s0 : State} {x1} (h0 : Keeps q s0) :
    Keeps q (State.planApply s0 x1) := by
  unfold State.planApply
  with_reducible repeat' first | assumption | apply State.stopDetach_keeps | apply State.flushBeyond_keeps | apply State.setAxis_keeps | apply State.put_keeps | apply State.planTo_keeps | apply State.commandMove_keeps | apply State.commandTable_keeps | apply State.runPlan_keeps | apply State.planVel_keeps | apply State.planStopRamp_keeps | apply State.replan_keeps | apply keeps_ite | (fail_if_no_progress apply keeps_upd) | (refine keeps_snd (by assumption) ?_) | (refine keeps_fst (by assumption) ?_) | (refine keeps_out (by assumption) ?_) | split | dsimp only

theorem State.planEdge_keeps {s0 : State} {x1} (h0 : Keeps q s0) :
    Keeps q (State.planEdge s0 x1) := by
  unfold State.planEdge
  with_reducible repeat' first | assumption | apply State.planApply_keeps | apply keeps_ite

theorem execPlanStart_keeps {x0} {s1 : State} (h1 : Keeps q s1) :
    OutKeeps q (execPlanStart x0 s1) := by
  unfold execPlanStart
  with_reducible repeat' first | assumption | apply State.planApply_keeps | apply keeps_ite | apply keeps_next

theorem State.softLimitStep_keeps {s0 : State} {x1} (h0 : Keeps q s0) :
    Keeps q (State.softLimitStep s0 x1) := by
  unfold State.softLimitStep
  with_reducible repeat' first | assumption | apply State.setBitIf_keeps | apply State.setAxis_keeps | apply State.put_keeps | apply keeps_ite | (fail_if_no_progress apply keeps_upd) | (refine keeps_snd (by assumption) ?_) | (refine keeps_fst (by assumption) ?_) | (refine keeps_out (by assumption) ?_) | split | dsimp only

theorem State.writeEntry_keeps {s0 : State} {x1} {x2} (h0 : Keeps q s0) :
    Keeps q (State.writeEntry s0 x1 x2) := by
  unfold State.writeEntry
  with_reducible repeat' first | assumption | apply State.softLimitStep_keeps | apply State.setAxis_keeps | apply State.count_keeps | apply State.showQueue_keeps

theorem State.writeEntries_keeps {s0 : State} {x1} {x2 : Nat} (h0 : Keeps q s0) :
    Keeps q (State.writeEntries s0 x1 x2) := by
  induction x2 generalizing s0 with
  | zero => exact h0
  | succ n ih =>
    unfold State.writeEntries
    with_reducible repeat' first | assumption | apply ih | apply State.writeEntry_keeps | apply keeps_ite

theorem State.writeSeed_keeps {s0 : State} {x1} (h0 : Keeps q s0) :
    Keeps q (State.writeSeed s0 x1) := by
  unfold State.writeSeed
  with_reducible repeat' first | assumption | apply State.flushBeyond_keeps | apply State.setAxis_keeps | apply State.done_keeps | apply State.count_keeps | apply State.showQueue_keeps

theorem State.leaveRamp_keeps {s0 : State} {x1} (h0 : Keeps q s0) :
    Keeps q (State.leaveRamp s0 x1) := by
  unfold State.leaveRamp
  with_reducible repeat' first | assumption | apply State.setAxis_keeps

theorem State.takeEntry_keeps {s0 : State} {x1} (h0 : Keeps q s0) :
    Keeps q (State.takeEntry s0 x1).2 := by
  unfold State.takeEntry
  with_reducible repeat' first | assumption | apply State.setAxis_keeps | apply State.applyEntry_keeps | apply keeps_ite | (fail_if_no_progress apply keeps_upd) | (intro _ _ _) | (intro _ _) | (refine keeps_snd (by assumption) ?_) | (refine keeps_fst (by assumption) ?_) | (refine keeps_out (by assumption) ?_) | split | dsimp only

theorem State.profileStep_keeps {s0 : State} {x1} (h0 : Keeps q s0) :
    Keeps q (State.profileStep s0 x1) := by
  unfold State.profileStep
  with_reducible repeat' first | assumption | apply State.writeSeed_keeps | apply State.writeEntries_keeps | apply State.slotWrite_keeps | apply State.takeEntry_keeps | apply keeps_ite | (fail_if_no_progress apply keeps_upd) | (intro _ _ _) | (intro _ _) | (refine keeps_snd (by assumption) ?_) | (refine keeps_fst (by assumption) ?_) | (refine keeps_out (by assumption) ?_) | split

theorem State.homeFail_keeps {s0 : State} {x1} (h0 : Keeps q s0) :
    Keeps q (State.homeFail s0 x1) := by
  unfold State.homeFail
  with_reducible repeat' first | assumption | apply State.put_keeps | apply State.setBit_keeps | apply State.askStop_keeps | apply State.setAxis_keeps

theorem State.homeReverse_keeps {s0 : State} {x1} (h0 : Keeps q s0) :
    Keeps q (State.homeReverse s0 x1) := by
  unfold State.homeReverse
  with_reducible repeat' first | assumption | apply State.setAxis_keeps

theorem State.limitAct_keeps {s0 : State} {x1} {x2} (h0 : Keeps q s0) :
    Keeps q (State.limitAct s0 x1 x2) := by
  unfold State.limitAct
  with_reducible repeat' first | assumption | apply State.setAxis_keeps | apply State.setBit_keeps | apply State.graftDetach_keeps | apply State.abandonRemaining_keeps | apply State.askStop_keeps | apply State.leaveRamp_keeps | apply State.homeReverse_keeps | apply State.homeFail_keeps | apply keeps_ite

theorem State.limitInput_keeps {s0 : State} {x1} {x2} (h0 : Keeps q s0) :
    Keeps q (State.limitInput s0 x1 x2) := by
  unfold State.limitInput
  with_reducible repeat' first | assumption | apply State.setAxis_keeps | apply State.count_keeps | apply State.setBit_keeps | apply State.clrBit_keeps | apply State.limitAct_keeps | apply keeps_ite

theorem State.limitEdge_keeps {s0 : State} {x1} (h0 : Keeps q s0) :
    Keeps q (State.limitEdge s0 x1) := by
  unfold State.limitEdge
  with_reducible repeat' first | assumption | apply State.limitInput_keeps

theorem State.homeShift_keeps {s0 : State} {x1} {x2} (h0 : Keeps q s0) :
    Keeps q (State.homeShift s0 x1 x2) := by
  unfold State.homeShift
  with_reducible repeat' first | assumption | apply State.setAxis_keeps | apply State.shiftSetpoint_keeps | apply State.setStitch_keeps | apply State.slotLatch_keeps | apply keeps_ite | apply keeps_foldl | (fail_if_no_progress apply keeps_upd) | (intro _ _ _)

theorem State.homeReference_keeps {s0 : State} {x1} {x2} {x3} (h0 : Keeps q s0) :
    Keeps q (State.homeReference s0 x1 x2 x3) := by
  unfold State.homeReference
  with_reducible repeat' first | assumption | apply State.homeShift_keeps | apply State.put_keeps | apply State.fbUncertain_keeps | apply State.setAxis_keeps | apply State.moveDone_keeps | apply keeps_ite

theorem State.homeRun_keeps {s0 : State} {x1} {x2} {x3} (h0 : Keeps q s0) :
    Keeps q (State.homeRun s0 x1 x2 x3) := by
  unfold State.homeRun
  with_reducible repeat' first | assumption | apply State.setAxis_keeps

theorem State.homeBegin_keeps {s0 : State} {x1} (h0 : Keeps q s0) :
    Keeps q (State.homeBegin s0 x1) := by
  unfold State.homeBegin
  with_reducible repeat' first | assumption | apply State.homeReference_keeps | apply State.put_keeps | apply State.setBit_keeps | apply State.setAxis_keeps | apply State.moveDone_keeps | apply State.homeRun_keeps | apply keeps_ite

theorem State.homeEdge_keeps {s0 : State} {x1} (h0 : Keeps q s0) :
    Keeps q (State.homeEdge s0 x1) := by
  unfold State.homeEdge
  with_reducible repeat' first | assumption | apply State.homeBegin_keeps | apply State.setAxis_keeps | apply State.homeRun_keeps | apply State.homeReference_keeps | apply keeps_ite

theorem execHomingTimeout_keeps {x0} {s1 : State} (h1 : Keeps q s1) :
    OutKeeps q (execHomingTimeout x0 s1) := by
  unfold execHomingTimeout
  with_reducible repeat' first | assumption | apply State.homeFail_keeps | apply keeps_ite | apply keeps_next

theorem indexPulseNow_keeps {x0} {x1} {x2} {s3 : State} (h3 : Keeps q s3) :
    OutKeeps q (indexPulseNow x0 x1 x2 s3) := by
  unfold indexPulseNow
  with_reducible repeat' first | assumption | apply State.fbSettle_keeps | apply State.count_keeps | apply State.fbIndex_keeps | apply State.homeReference_keeps | apply keeps_ite | apply keeps_next | apply outKeeps_ite | apply keeps_foldl | (intro _ _ _)

theorem execIndexPulse_keeps {x0} {x1} {x2} {s3 : State} (h3 : Keeps q s3) :
    OutKeeps q (execIndexPulse x0 x1 x2 s3) := by
  unfold execIndexPulse
  with_reducible repeat' first | assumption | apply viaEdge_keeps | apply indexPulseNow_keeps

theorem State.enterRest_keeps {s0 : State} {x1} {x2} (h0 : Keeps q s0) :
    Keeps q (State.enterRest s0 x1 x2) := by
  unfold State.enterRest
  with_reducible repeat' first | assumption | apply State.graftDrop_keeps | apply State.abandonRemaining_keeps | apply State.flushBeyond_keeps | apply State.setAxis_keeps | apply State.wantLegs_keeps | apply State.putBit_keeps | apply State.put_keeps | apply keeps_ite

theorem State.engageBrake_keeps {s0 : State} {x1} {x2} (h0 : Keeps q s0) :
    Keeps q (State.engageBrake s0 x1 x2) := by
  unfold State.engageBrake
  with_reducible repeat' first | assumption | apply State.enterRest_keeps | apply State.setAxis_keeps | apply keeps_ite

theorem State.standEdge_keeps {s0 : State} {x1} (h0 : Keeps q s0) :
    Keeps q (State.standEdge s0 x1) := by
  unfold State.standEdge
  with_reducible repeat' first | assumption | apply State.setAxis_keeps

theorem execStandstill_keeps {x0} {s1 : State} (h1 : Keeps q s1) :
    OutKeeps q (execStandstill x0 s1) := by
  unfold execStandstill
  with_reducible repeat' first | assumption | apply State.engageBrake_keeps | apply keeps_ite | apply keeps_next

theorem execBrakeEngageDelayExpiry_keeps {x0} {s1 : State} (h1 : Keeps q s1) :
    OutKeeps q (execBrakeEngageDelayExpiry x0 s1) := by
  unfold execBrakeEngageDelayExpiry
  with_reducible repeat' first | assumption | apply State.enterRest_keeps | apply keeps_ite | apply keeps_next

theorem execBrakeReleaseDelayExpiry_keeps {x0} {s1 : State} (h1 : Keeps q s1) :
    OutKeeps q (execBrakeReleaseDelayExpiry x0 s1) := by
  unfold execBrakeReleaseDelayExpiry
  with_reducible repeat' first | assumption | apply State.setAxis_keeps | apply keeps_ite | apply keeps_next

theorem State.gangEdge_keeps {s0 : State} {x1} (h0 : Keeps q s0) :
    Keeps q (State.gangEdge s0 x1) := by
  unfold State.gangEdge
  with_reducible repeat' first | assumption | apply State.each_keeps | apply State.setAxis_keeps | apply State.showSetpoint_keeps | apply State.put_keeps | apply State.done_keeps | apply keeps_ite | (fail_if_no_progress apply keeps_upd) | (intro _ _ _)

theorem State.castGang_keeps {s0 : State} {x1} (h0 : Keeps q s0) :
    Keeps q (State.castGang s0 x1) := by
  unfold State.castGang
  with_reducible repeat' first | assumption | apply State.each_keeps | apply State.castBegin_keeps | apply keeps_ite | (intro _ _ _)

theorem State.newMove_keeps {s0 : State} {x1} {x2} (h0 : Keeps q s0) :
    Keeps q (State.newMove s0 x1 x2) := by
  unfold State.newMove
  with_reducible repeat' first | assumption | apply State.abandonRemaining_keeps | apply State.setAxis_keeps | apply State.put_keeps | apply keeps_ite | (fail_if_no_progress apply keeps_upd) | (refine keeps_snd (by assumption) ?_) | (refine keeps_fst (by assumption) ?_) | (refine keeps_out (by assumption) ?_) | split

theorem State.moveCommand_keeps {s0 : State} {x1} {x2} {x3} (h0 : Keeps q s0) :
    Keeps q (State.moveCommand s0 x1 x2 x3) := by
  unfold State.moveCommand
  with_reducible repeat' first | assumption | apply State.reply_keeps | apply State.abandonRemaining_keeps | apply State.setAxis_keeps | apply State.castBegin_keeps | apply State.castGang_keeps | apply State.done_keeps | apply State.newMove_keeps | apply State.commandMove_keeps | apply keeps_ite

theorem execMoveAbsolute_keeps {x0} {s1 : State} (h1 : Keeps q s1) :
    OutKeeps q (execMoveAbsolute x0 s1) := by
  unfold execMoveAbsolute
  with_reducible repeat' first | assumption | apply State.moveCommand_keeps | apply keeps_ite | apply keeps_next

theorem execMoveRelative_keeps {x0} {s1 : State} (h1 : Keeps q s1) :
    OutKeeps q (execMoveRelative x0 s1) := by
  unfold execMoveRelative
  with_reducible repeat' first | assumption | apply State.moveCommand_keeps | apply keeps_ite | apply keeps_next

theorem execVelocityMove_keeps {x0} {s1 : State} (h1 : Keeps q s1) :
    OutKeeps q (execVelocityMove x0 s1) := by
  unfold execVelocityMove
  with_reducible repeat' first | assumption | apply State.reply_keeps | apply State.abandonRemaining_keeps | apply State.setAxis_keeps | apply State.castBegin_keeps | apply State.castGang_keeps | apply State.done_keeps | apply State.newMove_keeps | apply keeps_ite | apply keeps_next

theorem State.stopCommand_keeps {s0 : State} {x1} {x2} {x3} (h0 : Keeps q s0) :
    Keeps q (State.stopCommand s0 x1 x2 x3) := by
  unfold State.stopCommand
  with_reducible repeat' first | assumption | apply State.graftDetach_keeps | apply State.abandonRemaining_keeps | apply State.setAxis_keeps | apply State.askStop_keeps | apply keeps_ite

theorem execStop_keeps {x0} {s1 : State} (h1 : Keeps q s1) :
    OutKeeps q (execStop x0 s1) := by
  unfold execStop
  with_reducible repeat' first | assumption | apply State.reply_keeps | apply State.done_keeps | apply State.stopCommand_keeps | apply keeps_ite | apply keeps_next

theorem execQuickStop_keeps {x0} {s1 : State} (h1 : Keeps q s1) :
    OutKeeps q (execQuickStop x0 s1) := by
  unfold execQuickStop
  with_reducible repeat' first | assumption | apply State.reply_keeps | apply State.done_keeps | apply State.stopCommand_keeps | apply keeps_ite | apply keeps_next

theorem execAbandon_keeps {x0} {s1 : State} (h1 : Keeps q s1) :
    OutKeeps q (execAbandon x0 s1) := by
  unfold execAbandon
  with_reducible repeat' first | assumption | apply State.reply_keeps | apply State.abandonRemaining_keeps | apply State.setAxis_keeps | apply State.done_keeps | apply State.stopCommand_keeps | apply keeps_ite | apply keeps_next

theorem execResume_keeps {x0} {s1 : State} (h1 : Keeps q s1) :
    OutKeeps q (execResume x0 s1) := by
  unfold execResume
  with_reducible repeat' first | assumption | apply State.reply_keeps | apply State.setAxis_keeps | apply State.put_keeps | apply State.done_keeps | apply keeps_ite | apply keeps_next | apply outKeeps_ite | (fail_if_no_progress apply keeps_upd) | (refine keeps_snd (by assumption) ?_) | (refine keeps_fst (by assumption) ?_) | (refine keeps_out (by assumption) ?_) | split

theorem execHome_keeps {x0} {s1 : State} (h1 : Keeps q s1) :
    OutKeeps q (execHome x0 s1) := by
  unfold execHome
  with_reducible repeat' first | assumption | apply State.reply_keeps | apply State.put_keeps | apply State.abandonRemaining_keeps | apply State.castBegin_keeps | apply State.castGang_keeps | apply State.newMove_keeps | apply State.setAxis_keeps | apply State.done_keeps | apply keeps_ite | apply keeps_next

theorem execEnable_keeps {x0} {s1 : State} (h1 : Keeps q s1) :
    OutKeeps q (execEnable x0 s1) := by
  unfold execEnable
  with_reducible repeat' first | assumption | apply State.reply_keeps | apply State.put_keeps | apply State.done_keeps | apply keeps_ite | apply keeps_next

theorem execDisable_keeps {x0} {s1 : State} (h1 : Keeps q s1) :
    OutKeeps q (execDisable x0 s1) := by
  unfold execDisable
  with_reducible repeat' first | assumption | apply State.reply_keeps | apply State.engageBrake_keeps | apply State.done_keeps | apply State.enterRest_keeps | apply keeps_ite | apply keeps_next

theorem execPowerOn_keeps {x0} {s1 : State} (h1 : Keeps q s1) :
    OutKeeps q (execPowerOn x0 s1) := by
  unfold execPowerOn
  with_reducible repeat' first | assumption | apply State.reply_keeps | apply State.castBegin_keeps | apply State.castGang_keeps | apply State.done_keeps | apply keeps_ite | apply keeps_next

theorem execCoilsOff_keeps {x0} {s1 : State} (h1 : Keeps q s1) :
    OutKeeps q (execCoilsOff x0 s1) := by
  unfold execCoilsOff
  with_reducible repeat' first | assumption | apply State.reply_keeps | apply State.engageBrake_keeps | apply State.done_keeps | apply keeps_ite | apply keeps_next

theorem execFaultReset_keeps {x0} {s1 : State} (h1 : Keeps q s1) :
    OutKeeps q (execFaultReset x0 s1) := by
  unfold execFaultReset
  with_reducible repeat' first | assumption | apply State.reply_keeps | apply State.put_keeps | apply State.setAxis_keeps | apply State.done_keeps | apply keeps_ite | apply keeps_next | apply outKeeps_ite | (fail_if_no_progress apply keeps_upd) | (intro _ _ _) | (intro _ _) | (refine keeps_snd (by assumption) ?_) | (refine keeps_fst (by assumption) ?_) | (refine keeps_out (by assumption) ?_) | split

/-! ### Machine/Stops.lean -/

theorem State.bindCasting_keeps {s0 : State} {x1} (h0 : Keeps q s0) :
    Keeps q (State.bindCasting s0 x1) := by
  unfold State.bindCasting
  with_reducible repeat' first | assumption | apply State.each_keeps | apply State.abandonRemaining_keeps | apply State.setAxis_keeps | apply keeps_ite | (fail_if_no_progress apply keeps_upd) | (intro _ _ _)

theorem State.bindEngage_keeps {s0 : State} {x1} {x2} (h0 : Keeps q s0) :
    Keeps q (State.bindEngage s0 x1 x2) := by
  unfold State.bindEngage
  with_reducible repeat' first | assumption | apply State.each_keeps | apply State.flushBeyond_keeps | apply State.setAxis_keeps | apply State.setBitIf_keeps | apply State.put_keeps | apply keeps_ite | (fail_if_no_progress apply keeps_upd) | (intro _ _ _)

theorem State.bindEnd_keeps {s0 : State} {x1} (h0 : Keeps q s0) :
    Keeps q (State.bindEnd s0 x1) := by
  unfold State.bindEnd
  with_reducible repeat' first | assumption | apply State.each_keeps | apply State.flushBeyond_keeps | apply State.setAxis_keeps | apply State.showSetpoint_keeps | apply State.moveDone_keeps | apply State.setBind_keeps | apply State.put_keeps | apply keeps_ite | (fail_if_no_progress apply keeps_upd) | (intro _ _ _)

theorem execBindOffRequest_keeps {x0} {x1} {s2 : State} (h2 : Keeps q s2) :
    OutKeeps q (execBindOffRequest x0 x1 s2) := by
  unfold execBindOffRequest
  with_reducible repeat' first | assumption | apply State.reply_keeps | apply State.askBindOff_keeps | apply State.done_keeps | apply keeps_ite | apply keeps_next

theorem execBindOffRampStart_keeps {x0} {x1} {s2 : State} (h2 : Keeps q s2) :
    OutKeeps q (execBindOffRampStart x0 x1 s2) := by
  unfold execBindOffRampStart
  with_reducible repeat' first | assumption | apply State.bindCasting_keeps | apply State.put_keeps | apply State.bindEnd_keeps | apply State.setBind_keeps | apply State.bindEngage_keeps | apply State.bindRepeat_keeps | apply keeps_ite | apply keeps_next

theorem execBindOffEnd_keeps {x0} {s1 : State} (h1 : Keeps q s1) :
    OutKeeps q (execBindOffEnd x0 s1) := by
  unfold execBindOffEnd
  with_reducible repeat' first | assumption | apply State.bindEnd_keeps | apply keeps_ite | apply keeps_next

theorem execBindOffJoinLate_keeps {x0} {x1} {x2} {x3} {s4 : State} (h4 : Keeps q s4) :
    OutKeeps q (execBindOffJoinLate x0 x1 x2 x3 s4) := by
  unfold execBindOffJoinLate
  with_reducible repeat' first | assumption | apply State.bindCasting_keeps | apply State.each_keeps | apply State.setBit_keeps | apply State.setBind_keeps | apply State.put_keeps | apply State.setBitIf_keeps | apply State.bindEngage_keeps | apply keeps_ite | apply keeps_next | apply outKeeps_ite | (fail_if_no_progress apply keeps_upd) | (intro _ _ _)

theorem execPathStart_keeps {x0} {s1 : State} (h1 : Keeps q s1) :
    OutKeeps q (execPathStart x0 s1) := by
  unfold execPathStart
  with_reducible repeat' first | assumption | apply State.reply_keeps | apply State.newMove_keeps | apply State.commandMove_keeps | apply State.setAxis_keeps | apply State.setPath_keeps | apply State.put_keeps | apply State.done_keeps | apply keeps_ite | apply keeps_next | apply outKeeps_ite | apply keeps_foldl | (fail_if_no_progress apply keeps_upd) | (intro _ _ _)

theorem State.pathRewind_keeps {s0 : State} {x1} (h0 : Keeps q s0) :
    Keeps q (State.pathRewind s0 x1) := by
  unfold State.pathRewind
  with_reducible repeat' first | assumption | apply State.each_keeps | apply State.flushBeyond_keeps | apply keeps_ite | (intro _ _ _)

theorem execPathStop_keeps {x0} {s1 : State} (h1 : Keeps q s1) :
    OutKeeps q (execPathStop x0 s1) := by
  unfold execPathStop
  with_reducible repeat' first | assumption | apply State.reply_keeps | apply State.setPath_keeps | apply State.pathRewind_keeps | apply State.put_keeps | apply State.done_keeps | apply keeps_ite | apply keeps_next

theorem execPathResume_keeps {x0} {s1 : State} (h1 : Keeps q s1) :
    OutKeeps q (execPathResume x0 s1) := by
  unfold execPathResume
  with_reducible repeat' first | assumption | apply State.reply_keeps | apply State.setPath_keeps | apply State.pathRewind_keeps | apply State.put_keeps | apply State.done_keeps | apply keeps_ite | apply keeps_next

theorem execPathAbandon_keeps {x0} {s1 : State} (h1 : Keeps q s1) :
    OutKeeps q (execPathAbandon x0 s1) := by
  unfold execPathAbandon
  with_reducible repeat' first | assumption | apply State.reply_keeps | apply State.done_keeps | apply State.put_keeps | apply State.each_keeps | apply State.abandonRemaining_keeps | apply State.setAxis_keeps | apply State.flushBeyond_keeps | apply State.moveDone_keeps | apply State.askStop_keeps | apply State.setPath_keeps | apply keeps_ite | apply keeps_next | apply outKeeps_ite | (fail_if_no_progress apply keeps_upd) | (intro _ _ _)

theorem State.pathEdge_keeps {s0 : State} {x1} (h0 : Keeps q s0) :
    Keeps q (State.pathEdge s0 x1) := by
  unfold State.pathEdge
  with_reducible repeat' first | assumption | apply State.put_keeps | apply State.setPath_keeps | apply keeps_ite

/-! ### Machine/Graft.lean -/

theorem State.freeMaster_keeps {s0 : State} (h0 : Keeps q s0) :
    Keeps q (State.freeMaster s0).2 := by
  unfold State.freeMaster
  with_reducible repeat' first | assumption | apply State.fresh_keeps

theorem State.masterOf_keeps {s0 : State} {x1} (h0 : Keeps q s0) :
    Keeps q (State.masterOf s0 x1).2 := by
  unfold State.masterOf
  with_reducible repeat' first | assumption | apply State.put_keeps | apply State.freeMaster_keeps | apply keeps_ite | (fail_if_no_progress apply keeps_upd) | (intro _ _ _) | (intro _ _) | (refine keeps_snd (by assumption) ?_) | (refine keeps_fst (by assumption) ?_) | (refine keeps_out (by assumption) ?_) | split | dsimp only

theorem State.gearStep_keeps {s0 : State} {x1} {x2} {x3} {x4} (h0 : Keeps q s0) :
    Keeps q (State.gearStep s0 x1 x2 x3 x4) := by
  unfold State.gearStep
  with_reducible repeat' first | assumption | apply State.setGraft_keeps | apply State.setBit_keeps | apply State.raiseOnce_keeps | apply State.put_keeps | apply State.addI64_keeps | apply State.setActive_keeps | apply keeps_ite

theorem State.camStep_keeps {s0 : State} {x1} {x2} {x3} {x4} (h0 : Keeps q s0) :
    Keeps q (State.camStep s0 x1 x2 x3 x4) := by
  unfold State.camStep
  with_reducible repeat' first | assumption | apply State.setGraft_keeps

theorem State.trimStep_keeps {s0 : State} {x1} {x2} {x3} {x4} {x5} (h0 : Keeps q s0) :
    Keeps q (State.trimStep s0 x1 x2 x3 x4 x5) := by
  unfold State.trimStep
  with_reducible repeat' first | assumption | apply State.setBitIf_keeps | apply State.put_keeps | apply State.setGraft_keeps

theorem State.ownEnds_keeps {s0 : State} {x1} (h0 : Keeps q s0) :
    Keeps q (State.ownEnds s0 x1) := by
  unfold State.ownEnds
  with_reducible repeat' first | assumption | apply State.abandonRemaining_keeps | apply State.flushBeyond_keeps | apply State.setAxis_keeps

theorem State.graftEngaged_keeps {s0 : State} {x1} {x2} (h0 : Keeps q s0) :
    Keeps q (State.graftEngaged s0 x1 x2) := by
  unfold State.graftEngaged
  with_reducible repeat' first | assumption | apply State.put_keeps | apply State.ownEnds_keeps

theorem State.graftReleased_keeps {s0 : State} {x1} {x2} (h0 : Keeps q s0) :
    Keeps q (State.graftReleased s0 x1 x2) := by
  unfold State.graftReleased
  with_reducible repeat' first | assumption | apply State.setGraft_keeps | apply State.ownFromChain_keeps | apply State.put_keeps

theorem State.blend_keeps {s0 : State} {x1} {x2} {x3} {x4} {x5} {x6} (h0 : Keeps q s0) :
    Keeps q (State.blend s0 x1 x2 x3 x4 x5 x6) := by
  unfold State.blend
  with_reducible repeat' first | assumption | apply State.put_keeps | apply State.setGraft_keeps

theorem State.disengageStep_keeps {s0 : State} {x1} {x2} {x3} {x4} {x5} {x6} (h0 : Keeps q s0) :
    Keeps q (State.disengageStep s0 x1 x2 x3 x4 x5 x6) := by
  unfold State.disengageStep
  with_reducible repeat' first | assumption | apply State.setGraft_keeps | apply State.blend_keeps | apply State.graftReleased_keeps | apply keeps_ite

theorem State.clutchStep_keeps {s0 : State} {x1} {x2} {x3} {x4} {x5} (h0 : Keeps q s0) :
    Keeps q (State.clutchStep s0 x1 x2 x3 x4 x5) := by
  unfold State.clutchStep
  with_reducible repeat' first | assumption | apply State.setGraft_keeps | apply State.blend_keeps | apply State.graftEngaged_keeps | apply State.put_keeps | apply State.disengageStep_keeps | apply keeps_ite | (fail_if_no_progress apply keeps_upd) | (intro _ _ _) | (intro _ _) | (refine keeps_snd (by assumption) ?_) | (refine keeps_fst (by assumption) ?_) | (refine keeps_out (by assumption) ?_) | split | dsimp only

theorem State.transform_keeps {s0 : State} {x1} {x2} {x3} {x4} (h0 : Keeps q s0) :
    Keeps q (State.transform s0 x1 x2 x3 x4) := by
  unfold State.transform
  with_reducible repeat' first | assumption | apply State.gearStep_keeps | apply State.camStep_keeps | apply State.trimStep_keeps | apply keeps_ite

theorem State.blendOut_keeps {s0 : State} {x1} {x2} {x3} {x4} {x5} {x6} (h0 : Keeps q s0) :
    Keeps q (State.blendOut s0 x1 x2 x3 x4 x5 x6) := by
  unfold State.blendOut
  with_reducible repeat' first | assumption | apply State.setGraft_keeps | apply State.transform_keeps | apply State.disengageStep_keeps

theorem State.graftStep_keeps {s0 : State} {x1} (h0 : Keeps q s0) :
    Keeps q (State.graftStep s0 x1) := by
  unfold State.graftStep
  with_reducible repeat' first | assumption | apply State.masterOf_keeps | apply State.setGraft_keeps | apply State.clutchStep_keeps | apply State.blendOut_keeps | apply State.transform_keeps | apply State.slotWrite_keeps | apply keeps_ite | (fail_if_no_progress apply keeps_upd) | (refine keeps_snd (by assumption) ?_) | (refine keeps_fst (by assumption) ?_) | (refine keeps_out (by assumption) ?_) | split

theorem State.takeSample_keeps {s0 : State} {x1} (h0 : Keeps q s0) :
    Keeps q (State.takeSample s0 x1) := by
  unfold State.takeSample
  with_reducible repeat' first | assumption | apply State.setGraft_keeps | apply keeps_ite | (fail_if_no_progress apply keeps_upd) | (refine keeps_snd (by assumption) ?_) | (refine keeps_fst (by assumption) ?_) | (refine keeps_out (by assumption) ?_) | split | dsimp only

theorem State.graftEdge_keeps {s0 : State} {x1} (h0 : Keeps q s0) :
    Keeps q (State.graftEdge s0 x1) := by
  unfold State.graftEdge
  with_reducible repeat' first | assumption | apply State.put_keeps | apply State.setGraft_keeps | apply State.takeSample_keeps

theorem State.latchChain_keeps {s0 : State} {x1} {x2 : Nat} {x3 : Nat} {x4 : Option Int} (h0 : Keeps q s0) :
    Keeps q (State.latchChain s0 x1 x2 x3 x4).1 := by
  induction x2 generalizing s0 x3 x4 with
  | zero => exact h0
  | succ n ih =>
    unfold State.latchChain
    with_reducible repeat' first | assumption | apply ih | apply State.addI64_keeps | apply State.put_keeps | apply State.setGraft_keeps | split | dsimp only

theorem State.graftGo_keeps {s0 : State} {x1} {x2} (h0 : Keeps q s0) :
    Keeps q (State.graftGo s0 x1 x2) := by
  unfold State.graftGo
  with_reducible repeat' first | assumption | apply State.latchChain_keeps | apply State.setAxis_keeps | apply State.put_keeps | apply State.setGraft_keeps | apply State.graftEngaged_keeps | apply keeps_ite

theorem State.loseMaster_keeps {s0 : State} {x1} (h0 : Keeps q s0) :
    Keeps q (State.loseMaster s0 x1) := by
  unfold State.loseMaster
  with_reducible repeat' first | assumption | apply State.graftDetach_keeps | apply State.put_keeps | apply State.each_keeps | apply State.setBit_keeps | apply State.raiseOnce_keeps

theorem execRemoteMasterLost_keeps {x0} {s1 : State} (h1 : Keeps q s1) :
    OutKeeps q (execRemoteMasterLost x0 s1) := by
  unfold execRemoteMasterLost
  with_reducible repeat' first | assumption | apply State.loseMaster_keeps | apply keeps_ite | apply keeps_next

theorem State.lossesFirst_keeps {s0 : State} {x1} (h0 : Keeps q s0) :
    Keeps q (State.lossesFirst s0 x1) := by
  unfold State.lossesFirst
  with_reducible repeat' first | assumption | apply State.loseMaster_keeps | apply State.each_keeps | apply keeps_ite

theorem execGraftEngage_keeps {x0} {s1 : State} (h1 : Keeps q s1) :
    OutKeeps q (execGraftEngage x0 s1) := by
  unfold execGraftEngage
  with_reducible repeat' first | assumption | apply State.lossesFirst_keeps | apply State.reply_keeps | apply State.done_keeps | apply State.castBegin_keeps | apply State.setAxis_keeps | apply State.graftGo_keeps | apply keeps_ite | apply keeps_next

theorem State.graftCastEdge_keeps {s0 : State} {x1} (h0 : Keeps q s0) :
    Keeps q (State.graftCastEdge s0 x1) := by
  unfold State.graftCastEdge
  with_reducible repeat' first | assumption | apply State.graftGo_keeps | apply State.setAxis_keeps | apply keeps_ite | (fail_if_no_progress apply keeps_upd) | (refine keeps_snd (by assumption) ?_) | (refine keeps_fst (by assumption) ?_) | (refine keeps_out (by assumption) ?_) | split

theorem execGraftDisengage_keeps {x0} {s1 : State} (h1 : Keeps q s1) :
    OutKeeps q (execGraftDisengage x0 s1) := by
  unfold execGraftDisengage
  with_reducible repeat' first | assumption | apply State.lossesFirst_keeps | apply State.reply_keeps | apply State.done_keeps | apply State.graftDetach_keeps | apply State.setGraft_keeps | apply State.put_keeps | apply State.ownFromChain_keeps | apply keeps_ite | apply keeps_next

theorem State.masterSample_keeps {s0 : State} {x1} {x2} (h0 : Keeps q s0) :
    Keeps q (State.masterSample s0 x1 x2) := by
  unfold State.masterSample
  with_reducible repeat' first | assumption | apply State.setGraft_keeps | apply State.put_keeps | apply State.setBitIf_keeps | apply State.setActive_keeps | apply keeps_ite

/-! ### Machine/Span.lean -/

theorem State.spanBankEdge_keeps {s0 : State} {x1} (h0 : Keeps q s0) :
    Keeps q (State.spanBankEdge s0 x1) := by
  unfold State.spanBankEdge
  with_reducible repeat' first | assumption | apply State.put_keeps | apply State.setBit_keeps | apply keeps_ite

theorem execSpanBankWrite_keeps {x0} {x1} {x2} {x3} {s4 : State} (h4 : Keeps q s4) :
    OutKeeps q (execSpanBankWrite x0 x1 x2 x3 s4) := by
  unfold execSpanBankWrite
  with_reducible repeat' first | assumption | apply State.reply_keeps | apply State.store_keeps | apply State.setSpan_keeps | apply State.done_keeps | apply keeps_ite | apply keeps_next

theorem execSpanBankSelect_keeps {x0} {x1} {s2 : State} (h2 : Keeps q s2) :
    OutKeeps q (execSpanBankSelect x0 x1 s2) := by
  unfold execSpanBankSelect
  with_reducible repeat' first | assumption | apply State.reply_keeps | apply State.put_keeps | apply State.done_keeps | apply keeps_ite | apply keeps_next

theorem State.spanEdge_keeps {s0 : State} {x1} (h0 : Keeps q s0) :
    Keeps q (State.spanEdge s0 x1) := by
  unfold State.spanEdge
  with_reducible repeat' first | assumption | apply State.setSpan_keeps | apply State.spanBankEdge_keeps | apply State.exPost_keeps | apply keeps_ite | apply keeps_foldl | (fail_if_no_progress apply keeps_upd) | (intro _ _ _)

theorem State.spanCutoff_keeps {s0 : State} {x1} (h0 : Keeps q s0) :
    Keeps q (State.spanCutoff s0 x1) := by
  unfold State.spanCutoff
  with_reducible repeat' first | assumption | apply State.setSpan_keeps | apply State.setBitIf_keeps | apply keeps_ite

theorem State.putSat_keeps {s0 : State} {x1} {x2} (h0 : Keeps q s0) :
    Keeps q (State.putSat s0 x1 x2).2 := by
  unfold State.putSat
  with_reducible repeat' first | assumption | apply State.put_keeps | apply keeps_ite | apply keeps_foldl | (intro _ _ _)

theorem State.spanCompute_keeps {s0 : State} {x1} {x2} (h0 : Keeps q s0) :
    Keeps q (State.spanCompute s0 x1 x2).2 := by
  unfold State.spanCompute
  with_reducible repeat' first | assumption | apply State.putSat_keeps | apply State.put_keeps | apply State.setBitIf_keeps | apply keeps_ite | apply keeps_foldl | (intro _ _ _)

theorem State.spanTrim_keeps {s0 : State} {x1} {x2} {x3} (h0 : Keeps q s0) :
    Keeps q (State.spanTrim s0 x1 x2 x3) := by
  unfold State.spanTrim
  with_reducible repeat' first | assumption | apply State.setBitIf_keeps | apply State.put_keeps | apply State.addI64_keeps | apply State.setSpan_keeps

theorem State.spanReleaseTrim_keeps {s0 : State} {x1} {x2} (h0 : Keeps q s0) :
    Keeps q (State.spanReleaseTrim s0 x1 x2) := by
  unfold State.spanReleaseTrim
  with_reducible repeat' first | assumption | apply State.spanTrim_keeps | apply State.put_keeps | apply State.setSpan_keeps | apply keeps_ite

theorem State.spanTension_keeps {s0 : State} {x1} (h0 : Keeps q s0) :
    Keeps q (State.spanTension s0 x1) := by
  unfold State.spanTension
  with_reducible repeat' first | assumption | apply State.each_keeps | apply State.put_keeps | apply State.setSpan_keeps | apply keeps_ite | (fail_if_no_progress apply keeps_upd) | (intro _ _ _)

theorem State.spanDrop_keeps {s0 : State} {x1} (h0 : Keeps q s0) :
    Keeps q (State.spanDrop s0 x1) := by
  unfold State.spanDrop
  with_reducible repeat' first | assumption | apply State.setBitIf_keeps | apply State.put_keeps | apply keeps_ite

theorem State.spanDue_keeps {s0 : State} {x1} (h0 : Keeps q s0) :
    Keeps q (State.spanDue s0 x1) := by
  unfold State.spanDue
  with_reducible repeat' first | assumption | apply State.spanDrop_keeps | apply State.put_keeps | apply State.raiseOnce_keeps | apply State.setBit_keeps | apply keeps_ite

theorem State.spanZero_keeps {s0 : State} {x1} {x2} (h0 : Keeps q s0) :
    Keeps q (State.spanZero s0 x1 x2) := by
  unfold State.spanZero
  with_reducible repeat' first | assumption | apply State.each_keeps | apply State.put_keeps | apply State.setSpan_keeps | apply keeps_ite | (fail_if_no_progress apply keeps_upd) | (intro _ _ _)

theorem State.spanOut_keeps {s0 : State} {x1} (h0 : Keeps q s0) :
    Keeps q (State.spanOut s0 x1) := by
  unfold State.spanOut
  with_reducible repeat' first | assumption | apply State.each_keeps | apply State.slotWrite_keeps | apply State.exPost_keeps | apply State.setSpan_keeps | apply keeps_ite | (fail_if_no_progress apply keeps_upd) | (intro _ _ _) | (intro _ _) | (refine keeps_snd (by assumption) ?_) | (refine keeps_fst (by assumption) ?_) | (refine keeps_out (by assumption) ?_) | split

theorem State.spanStep_keeps {s0 : State} {x1} (h0 : Keeps q s0) :
    Keeps q (State.spanStep s0 x1) := by
  unfold State.spanStep
  with_reducible repeat' first | assumption | apply State.setSpan_keeps | apply State.spanDrop_keeps | apply State.spanOut_keeps | apply State.each_keeps | apply State.spanReleaseTrim_keeps | apply State.put_keeps | apply State.spanCompute_keeps | apply State.spanTrim_keeps | apply State.spanTension_keeps | apply keeps_ite | (fail_if_no_progress apply keeps_upd) | (intro _ _ _)

theorem execSpanStart_keeps {x0} {s1 : State} (h1 : Keeps q s1) :
    OutKeeps q (execSpanStart x0 s1) := by
  unfold execSpanStart
  with_reducible repeat' first | assumption | apply State.reply_keeps | apply State.spanDue_keeps | apply State.done_keeps | apply State.spanZero_keeps | apply State.setSpan_keeps | apply State.put_keeps | apply keeps_ite | apply keeps_next

theorem execSpanRelease_keeps {x0} {s1 : State} (h1 : Keeps q s1) :
    OutKeeps q (execSpanRelease x0 s1) := by
  unfold execSpanRelease
  with_reducible repeat' first | assumption | apply State.reply_keeps | apply State.spanDue_keeps | apply State.done_keeps | apply State.put_keeps | apply keeps_ite | apply keeps_next

theorem execSpanSettled_keeps {x0} {s1 : State} (h1 : Keeps q s1) :
    OutKeeps q (execSpanSettled x0 s1) := by
  unfold execSpanSettled
  with_reducible repeat' first | assumption | apply State.put_keeps | apply keeps_ite | apply keeps_next

theorem execSpanObserverDiverged_keeps {x0} {s1 : State} (h1 : Keeps q s1) :
    OutKeeps q (execSpanObserverDiverged x0 s1) := by
  unfold execSpanObserverDiverged
  with_reducible repeat' first | assumption | apply State.put_keeps | apply State.setBit_keeps | apply keeps_ite | apply keeps_next

theorem execSpanTensionOutOfRange_keeps {x0} {x1} {s2 : State} (h2 : Keeps q s2) :
    OutKeeps q (execSpanTensionOutOfRange x0 x1 s2) := by
  unfold execSpanTensionOutOfRange
  with_reducible repeat' first | assumption | apply State.setBit_keeps | apply State.raiseOnce_keeps | apply keeps_ite | apply keeps_next

theorem execSpanDataStale_keeps {x0} {s1 : State} (h1 : Keeps q s1) :
    OutKeeps q (execSpanDataStale x0 s1) := by
  unfold execSpanDataStale
  with_reducible repeat' first | assumption | apply State.put_keeps | apply State.raiseOnce_keeps | apply keeps_ite | apply keeps_next

theorem State.spanClear_keeps {s0 : State} {x1} (h0 : Keeps q s0) :
    Keeps q (State.spanClear s0 x1) := by
  unfold State.spanClear
  with_reducible repeat' first | assumption | apply State.setActive_keeps | apply keeps_ite

/-! ### Machine/Loops.lean -/

theorem State.gainEdge_keeps {s0 : State} {x1} (h0 : Keeps q s0) :
    Keeps q (State.gainEdge s0 x1) := by
  unfold State.gainEdge
  with_reducible repeat' first | assumption | apply State.put_keeps | apply State.setBit_keeps | apply keeps_ite

theorem State.traceNode_keeps {s0 : State} {x1} {x2} (h0 : Keeps q s0) :
    Keeps q (State.traceNode s0 x1 x2) := by
  unfold State.traceNode
  with_reducible repeat' first | assumption | apply State.each_keeps | apply State.slotWrite_keeps | apply keeps_ite | (intro _ _ _)

theorem State.consume_keeps {s0 : State} {x1} (h0 : Keeps q s0) :
    Keeps q (State.consume s0 x1).2 := by
  unfold State.consume
  with_reducible repeat' first | assumption | apply State.takeEntry_keeps | apply State.setAxis_keeps | apply State.setBit_keeps | apply keeps_ite | (fail_if_no_progress apply keeps_upd) | (refine keeps_snd (by assumption) ?_) | (refine keeps_fst (by assumption) ?_) | (refine keeps_out (by assumption) ?_) | split | dsimp only

theorem State.followStep_keeps {s0 : State} {x1} {x2} (h0 : Keeps q s0) :
    Keeps q (State.followStep s0 x1 x2) := by
  unfold State.followStep
  with_reducible repeat' first | assumption | apply State.put_keeps | apply State.setAxis_keeps | apply State.setActive_keeps | apply keeps_ite

theorem State.pidStep_keeps {s0 : State} {x1} (h0 : Keeps q s0) :
    Keeps q (State.pidStep s0 x1) := by
  unfold State.pidStep
  with_reducible repeat' first | assumption | apply State.consume_keeps | apply State.newSource_keeps | apply State.setStitch_keeps | apply State.setBitIf_keeps | apply State.slotWrite_keeps | apply State.followStep_keeps | apply State.traceNode_keeps | apply keeps_ite | apply keeps_foldl | (fail_if_no_progress apply keeps_upd) | (intro _ _ _)

theorem execFollowingError_keeps {x0} {s1 : State} (h1 : Keeps q s1) :
    OutKeeps q (execFollowingError x0 s1) := by
  unfold execFollowingError
  with_reducible repeat' first | assumption | apply State.setBit_keeps | apply State.raiseOnce_keeps | apply keeps_ite | apply keeps_next

theorem State.biquadStep_keeps {s0 : State} {x1} (h0 : Keeps q s0) :
    Keeps q (State.biquadStep s0 x1) := by
  unfold State.biquadStep
  with_reducible repeat' first | assumption | apply State.setStitch_keeps | apply State.slotWrite_keeps | apply State.setBitIf_keeps | apply keeps_ite

theorem State.limiterStep_keeps {s0 : State} {x1} (h0 : Keeps q s0) :
    Keeps q (State.limiterStep s0 x1) := by
  unfold State.limiterStep
  with_reducible repeat' first | assumption | apply State.setBitIf_keeps | apply State.slotWrite_keeps

theorem State.fieldSetpointStep_keeps {s0 : State} {x1} (h0 : Keeps q s0) :
    Keeps q (State.fieldSetpointStep s0 x1) := by
  unfold State.fieldSetpointStep
  with_reducible repeat' first | assumption | apply State.setFoc_keeps

theorem State.netSetpointStep_keeps {s0 : State} {x1} (h0 : Keeps q s0) :
    Keeps q (State.netSetpointStep s0 x1) := by
  unfold State.netSetpointStep
  with_reducible repeat' first | assumption | apply State.sendSetpoint_keeps

theorem State.netEdge_keeps {s0 : State} {x1} (h0 : Keeps q s0) :
    Keeps q (State.netEdge s0 x1) := by
  unfold State.netEdge
  with_reducible repeat' first | assumption | apply State.setAxis_keeps | apply State.setActive_keeps | apply State.slotLatch_keeps | apply State.showSpeed_keeps | apply State.slotStale_keeps | apply keeps_ite | (fail_if_no_progress apply keeps_upd) | (refine keeps_snd (by assumption) ?_) | (refine keeps_fst (by assumption) ?_) | (refine keeps_out (by assumption) ?_) | split | dsimp only

theorem State.netCutoff_keeps {s0 : State} {x1} (h0 : Keeps q s0) :
    Keeps q (State.netCutoff s0 x1) := by
  unfold State.netCutoff
  with_reducible repeat' first | assumption | apply State.setAxis_keeps | apply State.slotStale_keeps | apply State.setBit_keeps | apply keeps_ite

theorem State.follows_keeps {s0 : State} {x1} {x2} {x3} (h0 : Keeps q s0) :
    Keeps q (State.follows s0 x1 x2 x3) := by
  unfold State.follows
  with_reducible repeat' first | assumption | apply State.raiseOnce_keeps | apply State.setActive_keeps | apply keeps_ite

theorem State.netStatus_keeps {s0 : State} {x1} {x2} {x3} {x4} {x5} {x6} (h0 : Keeps q s0) :
    Keeps q (State.netStatus s0 x1 x2 x3 x4 x5 x6) := by
  unfold State.netStatus
  with_reducible repeat' first | assumption | apply State.put_keeps | apply State.count_keeps | apply State.setBit_keeps | apply State.raise_keeps | apply State.setBitIf_keeps | apply State.follows_keeps | apply State.setAxis_keeps | apply keeps_ite

theorem execNetAxisLost_keeps {x0} {s1 : State} (h1 : Keeps q s1) :
    OutKeeps q (execNetAxisLost x0 s1) := by
  unfold execNetAxisLost
  with_reducible repeat' first | assumption | apply State.raiseOnce_keeps | apply keeps_ite | apply keeps_next

theorem State.loopOpenEdge_keeps {s0 : State} {x1} (h0 : Keeps q s0) :
    Keeps q (State.loopOpenEdge s0 x1) := by
  unfold State.loopOpenEdge
  with_reducible repeat' first | assumption | apply State.setAxis_keeps | apply State.setActive_keeps | apply State.slotLatch_keeps | apply keeps_ite

/-! ### Machine/Midopin.lean -/

theorem State.setCore_keeps {s0 : State} {x1} {x2} (h0 : Keeps q s0) :
    Keeps q (State.setCore s0 x1 x2) := by
  unfold State.setCore
  with_reducible repeat' first | assumption | apply State.put_keeps | apply keeps_ite | (fail_if_no_progress apply keeps_upd)

theorem State.stitchComplete_keeps {s0 : State} {x1} (h0 : Keeps q s0) :
    Keeps q (State.stitchComplete s0 x1) := by
  unfold State.stitchComplete
  with_reducible repeat' first | assumption | apply State.each_keeps | apply State.slotWrite_keeps | apply State.clrBit_keeps | apply State.setStitch_keeps | apply State.setCore_keeps | apply keeps_ite | (fail_if_no_progress apply keeps_upd) | (intro _ _ _) | (intro _ _) | (refine keeps_snd (by assumption) ?_) | (refine keeps_fst (by assumption) ?_) | (refine keeps_out (by assumption) ?_) | split | dsimp only

theorem State.startHandler_keeps {s0 : State} {x1} {x2} (h0 : Keeps q s0) :
    Keeps q (State.startHandler s0 x1 x2) := by
  unfold State.startHandler
  with_reducible repeat' first | assumption | apply State.setCore_keeps | apply keeps_ite | (fail_if_no_progress apply keeps_upd)

theorem State.nextHandler_keeps {s0 : State} {x1} (h0 : Keeps q s0) :
    Keeps q (State.nextHandler s0 x1) := by
  unfold State.nextHandler
  with_reducible repeat' first | assumption | apply State.startHandler_keeps | apply keeps_ite | (fail_if_no_progress apply keeps_upd) | (intro _ _ _) | (intro _ _) | (refine keeps_snd (by assumption) ?_) | (refine keeps_fst (by assumption) ?_) | (refine keeps_out (by assumption) ?_) | split

theorem State.retire_keeps {s0 : State} {x1} (h0 : Keeps q s0) :
    Keeps q (State.retire s0 x1) := by
  unfold State.retire
  with_reducible repeat' first | assumption | apply State.setCore_keeps | apply State.nextHandler_keeps | apply State.stitchComplete_keeps | apply keeps_ite

theorem State.issue_keeps {s0 : State} {x1} {x2} (h0 : Keeps q s0) :
    Keeps q (State.issue s0 x1 x2) := by
  unfold State.issue
  with_reducible repeat' first | assumption | apply State.each_keeps | apply State.setBit_keeps | apply State.store_keeps | apply State.setCore_keeps | apply State.retire_keeps | apply State.nextHandler_keeps | apply keeps_ite | apply keeps_foldl | (fail_if_no_progress apply keeps_upd) | (intro _ _ _) | (intro _ _) | (refine keeps_snd (by assumption) ?_) | (refine keeps_fst (by assumption) ?_) | (refine keeps_out (by assumption) ?_) | split | dsimp only

theorem execNop_keeps {x0} {s1 : State} (h1 : Keeps q s1) :
    OutKeeps q (execNop x0 s1) := by
  unfold execNop
  with_reducible repeat' first | assumption | apply State.issue_keeps | apply keeps_ite | apply keeps_next

theorem execAdd_keeps {x0} {x1} {x2} {x3} {x4} {s5 : State} (h5 : Keeps q s5) :
    OutKeeps q (execAdd x0 x1 x2 x3 x4 s5) := by
  unfold execAdd
  with_reducible repeat' first | assumption | apply State.issue_keeps | apply keeps_ite | apply keeps_next

theorem execSub_keeps {x0} {x1} {x2} {x3} {x4} {s5 : State} (h5 : Keeps q s5) :
    OutKeeps q (execSub x0 x1 x2 x3 x4 s5) := by
  unfold execSub
  with_reducible repeat' first | assumption | apply State.issue_keeps | apply keeps_ite | apply keeps_next

theorem execAddi_keeps {x0} {x1} {x2} {x3} {x4} {s5 : State} (h5 : Keeps q s5) :
    OutKeeps q (execAddi x0 x1 x2 x3 x4 s5) := by
  unfold execAddi
  with_reducible repeat' first | assumption | apply State.issue_keeps | apply keeps_ite | apply keeps_next

theorem execAnd_keeps {x0} {x1} {x2} {x3} {s4 : State} (h4 : Keeps q s4) :
    OutKeeps q (execAnd x0 x1 x2 x3 s4) := by
  unfold execAnd
  with_reducible repeat' first | assumption | apply State.issue_keeps | apply keeps_ite | apply keeps_next

theorem execOr_keeps {x0} {x1} {x2} {x3} {s4 : State} (h4 : Keeps q s4) :
    OutKeeps q (execOr x0 x1 x2 x3 s4) := by
  unfold execOr
  with_reducible repeat' first | assumption | apply State.issue_keeps | apply keeps_ite | apply keeps_next

theorem execXor_keeps {x0} {x1} {x2} {x3} {s4 : State} (h4 : Keeps q s4) :
    OutKeeps q (execXor x0 x1 x2 x3 s4) := by
  unfold execXor
  with_reducible repeat' first | assumption | apply State.issue_keeps | apply keeps_ite | apply keeps_next

theorem execShl_keeps {x0} {x1} {x2} {x3} {x4} {s5 : State} (h5 : Keeps q s5) :
    OutKeeps q (execShl x0 x1 x2 x3 x4 s5) := by
  unfold execShl
  with_reducible repeat' first | assumption | apply State.issue_keeps | apply keeps_ite | apply keeps_next

theorem execShr_keeps {x0} {x1} {x2} {x3} {x4} {s5 : State} (h5 : Keeps q s5) :
    OutKeeps q (execShr x0 x1 x2 x3 x4 s5) := by
  unfold execShr
  with_reducible repeat' first | assumption | apply State.issue_keeps | apply keeps_ite | apply keeps_next

theorem execMovi_keeps {x0} {x1} {x2} {s3 : State} (h3 : Keeps q s3) :
    OutKeeps q (execMovi x0 x1 x2 s3) := by
  unfold execMovi
  with_reducible repeat' first | assumption | apply State.issue_keeps | apply keeps_ite | apply keeps_next

theorem execClamp_keeps {x0} {x1} {x2} {x3} {s4 : State} (h4 : Keeps q s4) :
    OutKeeps q (execClamp x0 x1 x2 x3 s4) := by
  unfold execClamp
  with_reducible repeat' first | assumption | apply State.issue_keeps | apply keeps_ite | apply keeps_next

theorem execMin_keeps {x0} {x1} {x2} {x3} {s4 : State} (h4 : Keeps q s4) :
    OutKeeps q (execMin x0 x1 x2 x3 s4) := by
  unfold execMin
  with_reducible repeat' first | assumption | apply State.issue_keeps | apply keeps_ite | apply keeps_next

theorem execMax_keeps {x0} {x1} {x2} {x3} {s4 : State} (h4 : Keeps q s4) :
    OutKeeps q (execMax x0 x1 x2 x3 s4) := by
  unfold execMax
  with_reducible repeat' first | assumption | apply State.issue_keeps | apply keeps_ite | apply keeps_next

theorem execMaxi_keeps {x0} {x1} {x2} {s3 : State} (h3 : Keeps q s3) :
    OutKeeps q (execMaxi x0 x1 x2 s3) := by
  unfold execMaxi
  with_reducible repeat' first | assumption | apply State.issue_keeps | apply keeps_ite | apply keeps_next

theorem execMini_keeps {x0} {x1} {x2} {s3 : State} (h3 : Keeps q s3) :
    OutKeeps q (execMini x0 x1 x2 s3) := by
  unfold execMini
  with_reducible repeat' first | assumption | apply State.issue_keeps | apply keeps_ite | apply keeps_next

theorem execMul_keeps {x0} {x1} {x2} {x3} {x4} {s5 : State} (h5 : Keeps q s5) :
    OutKeeps q (execMul x0 x1 x2 x3 x4 s5) := by
  unfold execMul
  with_reducible repeat' first | assumption | apply State.issue_keeps | apply keeps_ite | apply keeps_next

theorem execMac_keeps {x0} {x1} {x2} {x3} {x4} {x5} {s6 : State} (h6 : Keeps q s6) :
    OutKeeps q (execMac x0 x1 x2 x3 x4 x5 s6) := by
  unfold execMac
  with_reducible repeat' first | assumption | apply State.issue_keeps | apply keeps_ite | apply keeps_next

theorem execCmac_keeps {x0} {x1} {x2} {x3} {x4} {s5 : State} (h5 : Keeps q s5) :
    OutKeeps q (execCmac x0 x1 x2 x3 x4 s5) := by
  unfold execCmac
  with_reducible repeat' first | assumption | apply State.issue_keeps | apply keeps_ite | apply keeps_next

theorem execAccr_keeps {x0} {x1} {x2} {x3} {x4} {s5 : State} (h5 : Keeps q s5) :
    OutKeeps q (execAccr x0 x1 x2 x3 x4 s5) := by
  unfold execAccr
  with_reducible repeat' first | assumption | apply State.issue_keeps | apply keeps_ite | apply keeps_next

theorem execAccz_keeps {x0} {x1} {x2} {x3} {s4 : State} (h4 : Keeps q s4) :
    OutKeeps q (execAccz x0 x1 x2 x3 s4) := by
  unfold execAccz
  with_reducible repeat' first | assumption | apply State.issue_keeps | apply keeps_ite | apply keeps_next

theorem execFtap_keeps {x0} {x1} {x2} {x3} {x4} {x5} {x6} {s7 : State} (h7 : Keeps q s7) :
    OutKeeps q (execFtap x0 x1 x2 x3 x4 x5 x6 s7) := by
  unfold execFtap
  with_reducible repeat' first | assumption | apply State.issue_keeps | apply keeps_ite | apply keeps_next

theorem State.unitDone_keeps {s0 : State} {x1} {x2} (h0 : Keeps q s0) :
    Keeps q (State.unitDone s0 x1 x2) := by
  unfold State.unitDone
  with_reducible repeat' first | assumption | apply State.setCore_keeps | apply keeps_ite | (fail_if_no_progress apply keeps_upd) | (intro _ _ _) | (intro _ _) | (refine keeps_snd (by assumption) ?_) | (refine keeps_fst (by assumption) ?_) | (refine keeps_out (by assumption) ?_) | split

theorem State.divDone_keeps {s0 : State} {x1} (h0 : Keeps q s0) :
    Keeps q (State.divDone s0 x1) := by
  unfold State.divDone
  with_reducible repeat' first | assumption | apply State.unitDone_keeps | apply State.setCore_keeps

theorem State.sqrtDone_keeps {s0 : State} {x1} (h0 : Keeps q s0) :
    Keeps q (State.sqrtDone s0 x1) := by
  unfold State.sqrtDone
  with_reducible repeat' first | assumption | apply State.unitDone_keeps | apply State.setCore_keeps

theorem execDiv_keeps {x0} {x1} {x2} {x3} {x4} {s5 : State} (h5 : Keeps q s5) :
    OutKeeps q (execDiv x0 x1 x2 x3 x4 s5) := by
  unfold execDiv
  with_reducible repeat' first | assumption | apply State.divDone_keeps | apply State.issue_keeps | apply keeps_ite | apply keeps_next

theorem execDivComplete_keeps {x0} {s1 : State} (h1 : Keeps q s1) :
    OutKeeps q (execDivComplete x0 s1) := by
  unfold execDivComplete
  with_reducible repeat' first | assumption | apply State.divDone_keeps | apply keeps_ite | apply keeps_next

theorem execSqrt_keeps {x0} {x1} {x2} {s3 : State} (h3 : Keeps q s3) :
    OutKeeps q (execSqrt x0 x1 x2 s3) := by
  unfold execSqrt
  with_reducible repeat' first | assumption | apply State.sqrtDone_keeps | apply State.issue_keeps | apply keeps_ite | apply keeps_next

theorem execSqrtComplete_keeps {x0} {s1 : State} (h1 : Keeps q s1) :
    OutKeeps q (execSqrtComplete x0 s1) := by
  unfold execSqrtComplete
  with_reducible repeat' first | assumption | apply State.sqrtDone_keeps | apply keeps_ite | apply keeps_next

theorem State.accessViolation_keeps {s0 : State} {x1} (h0 : Keeps q s0) :
    Keeps q (State.accessViolation s0 x1) := by
  unfold State.accessViolation
  with_reducible repeat' first | assumption | apply State.setBit_keeps | apply State.raise_keeps

theorem State.accessCheck_keeps {s0 : State} {x1} {x2} (h0 : Keeps q s0) :
    Keeps q (State.accessCheck s0 x1 x2) := by
  unfold State.accessCheck
  with_reducible repeat' first | assumption | apply State.accessViolation_keeps | apply keeps_ite

theorem State.eccCorrected_keeps {s0 : State} {x1} {x2} (h0 : Keeps q s0) :
    Keeps q (State.eccCorrected s0 x1 x2) := by
  unfold State.eccCorrected
  with_reducible repeat' first | assumption | apply State.count_keeps | apply State.setBit_keeps | apply State.raise_keeps | apply keeps_ite

theorem execLd_keeps {x0} {x1} {x2} {x3} {x4} {s5 : State} (h5 : Keeps q s5) :
    OutKeeps q (execLd x0 x1 x2 x3 x4 s5) := by
  unfold execLd
  with_reducible repeat' first | assumption | apply State.accessCheck_keeps | apply State.eccCorrected_keeps | apply State.issue_keeps | apply keeps_ite | apply keeps_next

theorem execSt_keeps {x0} {x1} {x2} {x3} {s4 : State} (h4 : Keeps q s4) :
    OutKeeps q (execSt x0 x1 x2 x3 s4) := by
  unfold execSt
  with_reducible repeat' first | assumption | apply State.accessCheck_keeps | apply State.issue_keeps | apply keeps_ite | apply keeps_next

theorem execLdi_keeps {x0} {x1} {x2} {x3} {x4} {s5 : State} (h5 : Keeps q s5) :
    OutKeeps q (execLdi x0 x1 x2 x3 x4 s5) := by
  unfold execLdi
  with_reducible repeat' first | assumption | apply State.accessCheck_keeps | apply State.eccCorrected_keeps | apply State.issue_keeps | apply keeps_ite | apply keeps_next

theorem execSti_keeps {x0} {x1} {x2} {x3} {s4 : State} (h4 : Keeps q s4) :
    OutKeeps q (execSti x0 x1 x2 x3 s4) := by
  unfold execSti
  with_reducible repeat' first | assumption | apply State.accessCheck_keeps | apply State.issue_keeps | apply keeps_ite | apply keeps_next

theorem execBeq_keeps {x0} {x1} {x2} {x3} {s4 : State} (h4 : Keeps q s4) :
    OutKeeps q (execBeq x0 x1 x2 x3 s4) := by
  unfold execBeq
  with_reducible repeat' first | assumption | apply State.issue_keeps | apply keeps_ite | apply keeps_next

theorem execBne_keeps {x0} {x1} {x2} {x3} {s4 : State} (h4 : Keeps q s4) :
    OutKeeps q (execBne x0 x1 x2 x3 s4) := by
  unfold execBne
  with_reducible repeat' first | assumption | apply State.issue_keeps | apply keeps_ite | apply keeps_next

theorem execBlt_keeps {x0} {x1} {x2} {x3} {s4 : State} (h4 : Keeps q s4) :
    OutKeeps q (execBlt x0 x1 x2 x3 s4) := by
  unfold execBlt
  with_reducible repeat' first | assumption | apply State.issue_keeps | apply keeps_ite | apply keeps_next

theorem execBge_keeps {x0} {x1} {x2} {x3} {s4 : State} (h4 : Keeps q s4) :
    OutKeeps q (execBge x0 x1 x2 x3 s4) := by
  unfold execBge
  with_reducible repeat' first | assumption | apply State.issue_keeps | apply keeps_ite | apply keeps_next

theorem execJ_keeps {x0} {x1} {s2 : State} (h2 : Keeps q s2) :
    OutKeeps q (execJ x0 x1 s2) := by
  unfold execJ
  with_reducible repeat' first | assumption | apply State.issue_keeps | apply keeps_ite | apply keeps_next

theorem execRep_keeps {x0} {x1} {x2} {x3} {x4} {s5 : State} (h5 : Keeps q s5) :
    OutKeeps q (execRep x0 x1 x2 x3 x4 s5) := by
  unfold execRep
  with_reducible repeat' first | assumption | apply State.issue_keeps | apply keeps_ite | apply keeps_next

theorem execRet_keeps {x0} {s1 : State} (h1 : Keeps q s1) :
    OutKeeps q (execRet x0 s1) := by
  unfold execRet
  with_reducible repeat' first | assumption | apply State.issue_keeps | apply keeps_ite | apply keeps_next

theorem State.dispatchKernel_keeps {s0 : State} {x1} (h0 : Keeps q s0) :
    Keeps q (State.dispatchKernel s0 x1) := by
  unfold State.dispatchKernel
  with_reducible repeat' first | assumption | apply State.setCore_keeps | apply keeps_ite | (fail_if_no_progress apply keeps_upd)

theorem execCoreInterruptTaken_keeps {x0} {x1} {x2} {x3} {s4 : State} (h4 : Keeps q s4) :
    OutKeeps q (execCoreInterruptTaken x0 x1 x2 x3 s4) := by
  unfold execCoreInterruptTaken
  with_reducible repeat' first | assumption | apply State.put_keeps | apply State.stitchComplete_keeps | apply State.setCore_keeps | apply keeps_ite | apply keeps_next

theorem execDebugHalt_keeps {x0} {s1 : State} (h1 : Keeps q s1) :
    OutKeeps q (execDebugHalt x0 s1) := by
  unfold execDebugHalt
  with_reducible repeat' first | assumption | apply State.setCore_keeps | apply keeps_ite | apply keeps_next

theorem State.staleOutputs_keeps {s0 : State} {x1} {x2} (h0 : Keeps q s0) :
    Keeps q (State.staleOutputs s0 x1 x2) := by
  unfold State.staleOutputs
  with_reducible repeat' first | assumption | apply State.each_keeps | apply State.slotStale_keeps | apply keeps_ite | apply keeps_foldl | (fail_if_no_progress apply keeps_upd) | (intro _ _ _)

theorem State.overrunCore_keeps {s0 : State} {x1} {x2} (h0 : Keeps q s0) :
    Keeps q (State.overrunCore s0 x1 x2) := by
  unfold State.overrunCore
  with_reducible repeat' first | assumption | apply State.setCore_keeps | apply State.count_keeps | apply State.setBit_keeps | apply State.staleOutputs_keeps | apply State.raiseWith_keeps | apply State.reactS_keeps | apply keeps_ite | (fail_if_no_progress apply keeps_upd)

theorem execLoopCoreMemoryError_keeps {x0} {x1} {x2} {s3 : State} (h3 : Keeps q s3) :
    OutKeeps q (execLoopCoreMemoryError x0 x1 x2 s3) := by
  unfold execLoopCoreMemoryError
  with_reducible repeat' first | assumption | apply State.overrunCore_keeps | apply State.setCore_keeps | apply State.setBit_keeps | apply State.raiseValue_keeps | apply keeps_ite | apply keeps_next

theorem State.installRecord_keeps {s0 : State} {x1} (h0 : Keeps q s0) :
    Keeps q (State.installRecord s0 x1) := by
  unfold State.installRecord
  with_reducible repeat' first | assumption | apply State.store_keeps

theorem execMemoryRestored_keeps {x0} {s1 : State} (h1 : Keeps q s1) :
    OutKeeps q (execMemoryRestored x0 s1) := by
  unfold execMemoryRestored
  with_reducible repeat' first | assumption | apply State.installRecord_keeps | apply State.setBit_keeps | apply State.setCore_keeps | apply State.setActive_keeps | apply keeps_ite | apply keeps_next | apply outKeeps_ite | apply keeps_foldl | (fail_if_no_progress apply keeps_upd) | (intro _ _ _) | (intro _ _) | (refine keeps_snd (by assumption) ?_) | (refine keeps_fst (by assumption) ?_) | (refine keeps_out (by assumption) ?_) | split

theorem execSentryEvent_keeps {x0} {x1} {s2 : State} (h2 : Keeps q s2) :
    OutKeeps q (execSentryEvent x0 x1 s2) := by
  unfold execSentryEvent
  with_reducible repeat' first | assumption | apply State.setCore_keeps | apply State.count_keeps | apply State.startHandler_keeps | apply keeps_ite | apply keeps_next

theorem State.sentryEdge_keeps {s0 : State} {x1} (h0 : Keeps q s0) :
    Keeps q (State.sentryEdge s0 x1) := by
  unfold State.sentryEdge
  with_reducible repeat' first | assumption | apply State.setCore_keeps | apply State.nextHandler_keeps | apply keeps_ite

/-! ### Machine/Row.lean -/

theorem State.takeInput_keeps {s0 : State} {x1} {x2} (h0 : Keeps q s0) :
    Keeps q (State.takeInput s0 x1 x2) := by
  unfold State.takeInput
  with_reducible repeat' first | assumption | apply State.put_keeps | apply keeps_ite | apply keeps_foldl | (fail_if_no_progress apply keeps_upd) | (intro _ _ _) | (intro _ _) | (refine keeps_snd (by assumption) ?_) | (refine keeps_fst (by assumption) ?_) | (refine keeps_out (by assumption) ?_) | split

theorem State.lateTick_keeps {s0 : State} {x1} {x2} (h0 : Keeps q s0) :
    Keeps q (State.lateTick s0 x1 x2) := by
  unfold State.lateTick
  with_reducible repeat' first | assumption | apply State.slotStale_keeps | apply State.setOrigin_keeps | apply State.each_keeps | apply State.raiseOnce_keeps | apply keeps_ite

theorem State.originOnTime_keeps {s0 : State} {x1} {x2} {x3} (h0 : Keeps q s0) :
    Keeps q (State.originOnTime s0 x1 x2 x3) := by
  unfold State.originOnTime
  with_reducible repeat' first | assumption | apply State.setOrigin_keeps

theorem execInputFrameArrival_keeps {x0} {x1} {x2} {x3} {s4 : State} (h4 : Keeps q s4) :
    OutKeeps q (execInputFrameArrival x0 x1 x2 x3 s4) := by
  unfold execInputFrameArrival
  with_reducible repeat' first | assumption | apply State.count_keeps | apply State.setBit_keeps | apply State.setOrigin_keeps | apply State.lateTick_keeps | apply State.takeInput_keeps | apply State.originOnTime_keeps | apply keeps_ite | apply keeps_next

theorem execNetStatusRecord_keeps {x0} {x1} {x2} {x3} {x4} {x5} {x6} {s7 : State} (h7 : Keeps q s7) :
    OutKeeps q (execNetStatusRecord x0 x1 x2 x3 x4 x5 x6 s7) := by
  unfold execNetStatusRecord
  with_reducible repeat' first | assumption | apply State.inputCount_keeps | apply State.setBit_keeps | apply State.lateTick_keeps | apply State.netStatus_keeps | apply State.netEdge_keeps | apply keeps_ite | apply keeps_next

theorem State.originCutoff_keeps {s0 : State} {x1} (h0 : Keeps q s0) :
    Keeps q (State.originCutoff s0 x1) := by
  unfold State.originCutoff
  with_reducible repeat' first | assumption | apply State.setOrigin_keeps | apply State.setActive_keeps | apply State.lateTick_keeps | apply keeps_ite

theorem State.cutoff_keeps {s0 : State} (h0 : Keeps q s0) :
    Keeps q (State.cutoff s0) := by
  unfold State.cutoff
  with_reducible repeat' first | assumption | apply State.originCutoff_keeps | apply State.netCutoff_keeps | apply State.spanCutoff_keeps | apply State.each_keeps | apply keeps_ite | apply keeps_foldl | (fail_if_no_progress apply keeps_upd)

theorem execInputCutoff_keeps {s0 : State} (h0 : Keeps q s0) :
    OutKeeps q (execInputCutoff s0) := by
  unfold execInputCutoff
  with_reducible repeat' first | assumption | apply State.cutoff_keeps | apply keeps_ite | apply keeps_next

theorem State.stageInputs_keeps {s0 : State} {x1} (h0 : Keeps q s0) :
    Keeps q (State.stageInputs s0 x1) := by
  unfold State.stageInputs
  with_reducible repeat' first | assumption | apply State.put_keeps | apply keeps_ite | apply keeps_foldl | (fail_if_no_progress apply keeps_upd) | (intro _ _ _)

theorem State.glueStep_keeps {s0 : State} {x1} (h0 : Keeps q s0) :
    Keeps q (State.glueStep s0 x1) := by
  unfold State.glueStep
  with_reducible repeat' first | assumption | apply State.setCmp_keeps | apply State.slotWrite_keeps | apply keeps_ite

theorem State.selectorStep_keeps {s0 : State} {x1} (h0 : Keeps q s0) :
    Keeps q (State.selectorStep s0 x1) := by
  unfold State.selectorStep
  with_reducible repeat' first | assumption | apply State.slotWrite_keeps

theorem State.gainSumStep_keeps {s0 : State} {x1} (h0 : Keeps q s0) :
    Keeps q (State.gainSumStep s0 x1) := by
  unfold State.gainSumStep
  with_reducible repeat' first | assumption | apply State.slotWrite_keeps

theorem State.reactionStep_keeps {s0 : State} {x1} (h0 : Keeps q s0) :
    Keeps q (State.reactionStep s0 x1) := by
  unfold State.reactionStep
  with_reducible repeat' first | assumption | apply State.reactS_keeps | apply State.reactB_keeps | apply State.slotWrite_keeps | apply keeps_ite

theorem State.superviseStep_keeps {s0 : State} {x1} (h0 : Keeps q s0) :
    Keeps q (State.superviseStep s0 x1) := by
  unfold State.superviseStep
  with_reducible repeat' first | assumption | apply State.setStitch_keeps | apply State.slotWrite_keeps

theorem State.runPrimitive_keeps {s0 : State} {x1} (h0 : Keeps q s0) :
    Keeps q (State.runPrimitive s0 x1) := by
  unfold State.runPrimitive
  with_reducible repeat' first | assumption | apply State.pidStep_keeps | apply State.biquadStep_keeps | apply State.profileStep_keeps | apply State.graftStep_keeps | apply State.spanStep_keeps | apply State.fieldSetpointStep_keeps | apply State.netSetpointStep_keeps | apply State.glueStep_keeps | apply State.limiterStep_keeps | apply State.selectorStep_keeps | apply State.gainSumStep_keeps | apply State.reactionStep_keeps | apply State.superviseStep_keeps | apply State.each_keeps | apply State.slotWrite_keeps | apply keeps_ite | (intro _ _ _)

theorem execStitchStart_keeps {x0} {s1 : State} (h1 : Keeps q s1) :
    OutKeeps q (execStitchStart x0 s1) := by
  unfold execStitchStart
  with_reducible repeat' first | assumption | apply State.atEdge_keeps | apply State.dispatchKernel_keeps | apply State.runPrimitive_keeps | apply State.setStitch_keeps | apply keeps_ite | apply keeps_next | apply outKeeps_ite | (fail_if_no_progress apply keeps_upd) | (intro _ _ _) | (intro _ _) | (refine keeps_snd (by assumption) ?_) | (refine keeps_fst (by assumption) ?_) | (refine keeps_out (by assumption) ?_) | split

theorem State.tickLedger_keeps {s0 : State} (h0 : Keeps q s0) :
    Keeps q (State.tickLedger s0) := by
  unfold State.tickLedger
  with_reducible repeat' first | assumption | apply State.count_keeps | apply keeps_ite

theorem State.measureFinish_keeps {s0 : State} (h0 : Keeps q s0) :
    Keeps q (State.measureFinish s0) := by
  unfold State.measureFinish
  with_reducible repeat' first | assumption | apply State.each_keeps | apply State.fresh_keeps | apply State.put_keeps | apply keeps_ite | (intro _ _ _)

theorem State.overrunCheck_keeps {s0 : State} {x1} (h0 : Keeps q s0) :
    Keeps q (State.overrunCheck s0 x1) := by
  unfold State.overrunCheck
  with_reducible repeat' first | assumption | apply State.measureFinish_keeps | apply State.each_keeps | apply State.overrunCore_keeps | apply State.tickLedger_keeps | apply keeps_ite | (fail_if_no_progress apply keeps_upd) | (intro _ _ _)

theorem execRowOverrun_keeps {x0} {s1 : State} (h1 : Keeps q s1) :
    OutKeeps q (execRowOverrun x0 s1) := by
  unfold execRowOverrun
  with_reducible repeat' first | assumption | apply State.overrunCheck_keeps | apply keeps_ite | apply keeps_next

theorem State.overrunEnd_keeps {s0 : State} (h0 : Keeps q s0) :
    Keeps q (State.overrunEnd s0) := by
  unfold State.overrunEnd
  with_reducible repeat' first | assumption | apply State.overrunCheck_keeps | apply keeps_ite

theorem State.rowEdge_keeps {s0 : State} (h0 : Keeps q s0) :
    Keeps q (State.rowEdge s0) := by
  unfold State.rowEdge
  with_reducible repeat' first | assumption | apply keeps_ite | apply keeps_filterRegs

end Sys2Proof.Machine
end

