-- ==== Sys2Proof/Laws/KeepsLinks.lean ====
section
/-! SUPPORT. The operations and meanings of Machine/Acq.lean, Marks.lean, JzLink.lean, HostCq.lean, Jz.lean, Can.lean keep the
canonical form and the queue. -/

namespace Sys2Proof.Machine

variable {q : List Instr}

/-! ### Machine/Acq.lean -/

theorem State.putHeader_keeps {s0 : State} (h0 : Keeps q s0) :
    Keeps q (State.putHeader s0) := by
  unfold State.putHeader
  with_reducible repeat' first | assumption | apply State.store_keeps

theorem State.acqFlag_keeps {s0 : State} {x1} (h0 : Keeps q s0) :
    Keeps q (State.acqFlag s0 x1) := by
  unfold State.acqFlag
  with_reducible repeat' first | assumption | apply keeps_ite | (fail_if_no_progress apply keeps_upd)

theorem State.acqTimeFlag_keeps {s0 : State} (h0 : Keeps q s0) :
    Keeps q (State.acqTimeFlag s0) := by
  unfold State.acqTimeFlag
  with_reducible repeat' first | assumption | apply State.acqFlag_keeps | apply keeps_ite

theorem State.acqArm_keeps {s0 : State} {x1} (h0 : Keeps q s0) :
    Keeps q (State.acqArm s0 x1) := by
  unfold State.acqArm
  with_reducible repeat' first | assumption | apply keeps_ite | (fail_if_no_progress apply keeps_upd)

theorem State.sendTrigger_keeps {s0 : State} {x1} {x2} (h0 : Keeps q s0) :
    Keeps q (State.sendTrigger s0 x1 x2) := by
  unfold State.sendTrigger
  with_reducible repeat' first | assumption | apply State.sendFrame_keeps | apply State.exPost_keeps

theorem execArm_keeps {s0 : State} (h0 : Keeps q s0) :
    OutKeeps q (execArm s0) := by
  unfold execArm
  with_reducible repeat' first | assumption | apply State.reply_keeps | apply State.sendTrigger_keeps | apply State.acqArm_keeps | apply State.done_keeps | apply keeps_ite | apply keeps_next

theorem State.clearSkein_keeps {s0 : State} {x1} (h0 : Keeps q s0) :
    Keeps q (State.clearSkein s0 x1) := by
  unfold State.clearSkein
  with_reducible repeat' first | assumption | apply keeps_ite | apply keeps_filterMem

theorem execArmingEdge_keeps {s0 : State} (h0 : Keeps q s0) :
    OutKeeps q (execArmingEdge s0) := by
  unfold execArmingEdge
  with_reducible repeat' first | assumption | apply State.fresh_keeps | apply State.clearSkein_keeps | apply State.store_keeps | apply State.put_keeps | apply State.setBitIf_keeps | apply State.acqTimeFlag_keeps | apply State.putHeader_keeps | apply keeps_ite | apply keeps_next | apply outKeeps_ite | (fail_if_no_progress apply keeps_upd) | (refine keeps_snd (by assumption) ?_) | (refine keeps_fst (by assumption) ?_) | (refine keeps_out (by assumption) ?_) | split

theorem State.acqDone_keeps {s0 : State} {x1} (h0 : Keeps q s0) :
    Keeps q (State.acqDone s0 x1) := by
  unfold State.acqDone
  with_reducible repeat' first | assumption | apply State.put_keeps | apply State.putHeader_keeps | apply keeps_ite | (fail_if_no_progress apply keeps_upd)

theorem State.acqCount_keeps {s0 : State} {x1} {x2} (h0 : Keeps q s0) :
    Keeps q (State.acqCount s0 x1 x2) := by
  unfold State.acqCount
  with_reducible repeat' first | assumption | apply State.count_keeps | apply State.store_keeps | apply keeps_ite | (fail_if_no_progress apply keeps_upd)

theorem State.acqOverflow_keeps {s0 : State} {x1} (h0 : Keeps q s0) :
    Keeps q (State.acqOverflow s0 x1) := by
  unfold State.acqOverflow
  with_reducible repeat' first | assumption | apply State.count_keeps | apply State.setBit_keeps | apply State.acqMark_keeps | apply State.acqDone_keeps | apply keeps_ite | (fail_if_no_progress apply keeps_upd)

theorem State.acqTake_keeps {s0 : State} {x1} {x2} (h0 : Keeps q s0) :
    Keeps q (State.acqTake s0 x1 x2) := by
  unfold State.acqTake
  with_reducible repeat' first | assumption | apply State.acqOverflow_keeps | apply State.acqCount_keeps | apply State.acqDone_keeps | apply State.putHeader_keeps | apply after_keeps | apply keeps_ite | apply keeps_foldl | (fail_if_no_progress apply keeps_upd) | (intro _ _ _)

theorem State.acqLast_keeps {s0 : State} {x1} (h0 : Keeps q s0) :
    Keeps q (State.acqLast s0 x1) := by
  unfold State.acqLast
  with_reducible repeat' first | assumption | apply State.acqCount_keeps | apply State.putHeader_keeps | apply State.count_keeps | apply keeps_ite

theorem State.acqProvisional_keeps {s0 : State} {x1} {x2} (h0 : Keeps q s0) :
    Keeps q (State.acqProvisional s0 x1 x2) := by
  unfold State.acqProvisional
  with_reducible repeat' first | assumption | apply State.count_keeps | apply State.acqOverflow_keeps | apply keeps_ite | (fail_if_no_progress apply keeps_upd)

theorem State.acqTrigger_keeps {s0 : State} (h0 : Keeps q s0) :
    Keeps q (State.acqTrigger s0) := by
  unfold State.acqTrigger
  with_reducible repeat' first | assumption | apply State.put_keeps | apply State.acqMark_keeps | apply State.acqTimeFlag_keeps | apply State.acqTake_keeps | apply State.putHeader_keeps | apply keeps_ite | apply keeps_foldl | (fail_if_no_progress apply keeps_upd) | (intro _ _ _)

theorem State.patternSample_keeps {s0 : State} {x1} {x2} (h0 : Keeps q s0) :
    Keeps q (State.patternSample s0 x1 x2) := by
  unfold State.patternSample
  with_reducible repeat' first | assumption | apply keeps_ite | (fail_if_no_progress apply keeps_upd)

theorem acqSampleStoredNow_keeps {x0} {x1} {x2} {x3} {s4 : State} (h4 : Keeps q s4) :
    OutKeeps q (acqSampleStoredNow x0 x1 x2 x3 s4) := by
  unfold acqSampleStoredNow
  with_reducible repeat' first | assumption | apply State.patternSample_keeps | apply State.acqProvisional_keeps | apply State.acqTrigger_keeps | apply State.acqTake_keeps | apply State.count_keeps | apply State.acqLast_keeps | apply keeps_ite | apply keeps_next | apply outKeeps_ite | (fail_if_no_progress apply keeps_upd)

theorem execAcqSampleStored_keeps {x0} {x1} {x2} {x3} {s4 : State} (h4 : Keeps q s4) :
    OutKeeps q (execAcqSampleStored x0 x1 x2 x3 s4) := by
  unfold execAcqSampleStored
  with_reducible repeat' first | assumption | apply viaEdge_keeps | apply acqSampleStoredNow_keeps

theorem State.acqEdge_keeps {s0 : State} (h0 : Keeps q s0) :
    Keeps q (State.acqEdge s0) := by
  unfold State.acqEdge
  with_reducible repeat' first | assumption | apply State.each_keeps | apply keeps_ite | (fail_if_no_progress apply keeps_upd) | (intro _ _ _)

theorem State.setMark_keeps {s0 : State} {x1} {x2} (h0 : Keeps q s0) :
    Keeps q (State.setMark s0 x1 x2) := by
  unfold State.setMark
  with_reducible repeat' first | assumption | apply State.put_keeps | apply keeps_ite | (fail_if_no_progress apply keeps_upd)

theorem State.acqSee_keeps {s0 : State} {x1} {x2} (h0 : Keeps q s0) :
    Keeps q (State.acqSee s0 x1 x2) := by
  unfold State.acqSee
  with_reducible repeat' first | assumption | apply State.acqTrigger_keeps | apply State.put_keeps | apply keeps_ite | (fail_if_no_progress apply keeps_upd)

theorem State.acqFire_keeps {s0 : State} {x1} (h0 : Keeps q s0) :
    Keeps q (State.acqFire s0 x1) := by
  unfold State.acqFire
  with_reducible repeat' first | assumption | apply State.acqSee_keeps | apply keeps_ite | (fail_if_no_progress apply keeps_upd)

theorem execTriggerFire_keeps {x0} {s1 : State} (h1 : Keeps q s1) :
    OutKeeps q (execTriggerFire x0 s1) := by
  unfold execTriggerFire
  with_reducible repeat' first | assumption | apply State.acqFire_keeps | apply keeps_ite | apply keeps_next | apply outKeeps_ite | (fail_if_no_progress apply keeps_upd) | (refine keeps_snd (by assumption) ?_) | (refine keeps_fst (by assumption) ?_) | (refine keeps_out (by assumption) ?_) | split

theorem execForceTrigger_keeps {s0 : State} (h0 : Keeps q s0) :
    OutKeeps q (execForceTrigger s0) := by
  unfold execForceTrigger
  with_reducible repeat' first | assumption | apply State.acqFire_keeps | apply State.done_keeps | apply keeps_ite | apply keeps_next

theorem execFireRecordSend_keeps {s0 : State} (h0 : Keeps q s0) :
    OutKeeps q (execFireRecordSend s0) := by
  unfold execFireRecordSend
  with_reducible repeat' first | assumption | apply State.sendTrigger_keeps | apply keeps_ite | apply keeps_next | apply outKeeps_ite | (fail_if_no_progress apply keeps_upd) | (refine keeps_snd (by assumption) ?_) | (refine keeps_fst (by assumption) ?_) | (refine keeps_out (by assumption) ?_) | split

theorem execSettleWindowClose_keeps {s0 : State} (h0 : Keeps q s0) :
    OutKeeps q (execSettleWindowClose s0) := by
  unfold execSettleWindowClose
  with_reducible repeat' first | assumption | apply State.acqTrigger_keeps | apply keeps_ite | apply keeps_next

theorem State.acqStop_keeps {s0 : State} {x1} (h0 : Keeps q s0) :
    Keeps q (State.acqStop s0 x1) := by
  unfold State.acqStop
  with_reducible repeat' first | assumption | apply State.acqTrigger_keeps | apply State.acqDone_keeps | apply keeps_ite

theorem execDisarm_keeps {s0 : State} (h0 : Keeps q s0) :
    OutKeeps q (execDisarm s0) := by
  unfold execDisarm
  with_reducible repeat' first | assumption | apply State.sendTrigger_keeps | apply State.acqStop_keeps | apply State.done_keeps | apply keeps_ite | apply keeps_next | apply outKeeps_ite | (fail_if_no_progress apply keeps_upd)

theorem State.trigCount_keeps {s0 : State} {x1} (h0 : Keeps q s0) :
    Keeps q (State.trigCount s0 x1) := by
  unfold State.trigCount
  with_reducible repeat' first | assumption | apply State.count_keeps

theorem State.trigRecord_keeps {s0 : State} {x1} (h0 : Keeps q s0) :
    Keeps q (State.trigRecord s0 x1) := by
  unfold State.trigRecord
  with_reducible repeat' first | assumption | apply State.trigCount_keeps | apply State.setBit_keeps | apply State.acqArm_keeps | apply State.acqFlag_keeps | apply State.acqSee_keeps | apply State.acqStop_keeps | apply keeps_ite

theorem execTriggerRecord_keeps {x0} {s1 : State} (h1 : Keeps q s1) :
    OutKeeps q (execTriggerRecord x0 s1) := by
  unfold execTriggerRecord
  with_reducible repeat' first | assumption | apply State.trigRecord_keeps | apply keeps_ite | apply keeps_next

theorem execWriteBackDrain_keeps {x0} {s1 : State} (h1 : Keeps q s1) :
    OutKeeps q (execWriteBackDrain x0 s1) := by
  unfold execWriteBackDrain
  with_reducible repeat' first | assumption | apply State.store_keeps | apply keeps_ite | apply keeps_next | apply outKeeps_ite | (fail_if_no_progress apply keeps_upd)

/-! ### Machine/Marks.lean -/

theorem State.markLatch_keeps {s0 : State} {x1} {x2} (h0 : Keeps q s0) :
    Keeps q (State.markLatch s0 x1 x2) := by
  unfold State.markLatch
  with_reducible repeat' first | assumption | apply State.fbEvent_keeps | apply State.setMark_keeps | apply State.count_keeps | apply State.put_keeps | apply State.acqEvent_keeps | apply State.each_keeps | apply keeps_ite | (fail_if_no_progress apply keeps_upd) | (intro _ _ _)

theorem markEdgeNow_keeps {x0} {x1} {x2} {x3} {s4 : State} (h4 : Keeps q s4) :
    OutKeeps q (markEdgeNow x0 x1 x2 x3 s4) := by
  unfold markEdgeNow
  with_reducible repeat' first | assumption | apply State.setMark_keeps | apply State.count_keeps | apply State.markLatch_keeps | apply State.setBit_keeps | apply keeps_ite | apply keeps_next

theorem execMarkEdge_keeps {x0} {x1} {x2} {x3} {s4 : State} (h4 : Keeps q s4) :
    OutKeeps q (execMarkEdge x0 x1 x2 x3 s4) := by
  unfold execMarkEdge
  with_reducible repeat' first | assumption | apply viaEdge_keeps | apply markEdgeNow_keeps

theorem State.histEdge_keeps {s0 : State} (h0 : Keeps q s0) :
    Keeps q (State.histEdge s0) := by
  unfold State.histEdge
  with_reducible repeat' first | assumption | apply State.each_keeps | apply keeps_ite | (fail_if_no_progress apply keeps_upd) | (intro _ _ _)

theorem State.markSlots_keeps {s0 : State} {x1} {x2} {x3} (h0 : Keeps q s0) :
    Keeps q (State.markSlots s0 x1 x2 x3) := by
  unfold State.markSlots
  with_reducible repeat' first | assumption | apply State.slotLatch_keeps | apply State.put_keeps | apply State.setBit_keeps | apply keeps_ite | apply keeps_foldl | (fail_if_no_progress apply keeps_upd) | (intro _ _ _) | (intro _ _) | (refine keeps_snd (by assumption) ?_) | (refine keeps_fst (by assumption) ?_) | (refine keeps_out (by assumption) ?_) | split

theorem State.markPublish_keeps {s0 : State} {x1} (h0 : Keeps q s0) :
    Keeps q (State.markPublish s0 x1) := by
  unfold State.markPublish
  with_reducible repeat' first | assumption | apply State.markSlots_keeps | apply State.put_keeps | apply State.setMark_keeps | apply keeps_ite | (fail_if_no_progress apply keeps_upd) | (intro _ _ _) | (intro _ _) | (refine keeps_snd (by assumption) ?_) | (refine keeps_fst (by assumption) ?_) | (refine keeps_out (by assumption) ?_) | split

theorem auxChannelEventNow_keeps {x0} {x1} {x2} {s3 : State} (h3 : Keeps q s3) :
    OutKeeps q (auxChannelEventNow x0 x1 x2 s3) := by
  unfold auxChannelEventNow
  with_reducible repeat' first | assumption | apply State.setPwm_keeps | apply State.each_keeps | apply State.pvsRequest_keeps | apply State.acqEvent_keeps | apply keeps_ite | apply keeps_next | apply outKeeps_ite | (fail_if_no_progress apply keeps_upd) | (intro _ _ _)

theorem execAuxChannelEvent_keeps {x0} {x1} {x2} {s3 : State} (h3 : Keeps q s3) :
    OutKeeps q (execAuxChannelEvent x0 x1 x2 s3) := by
  unfold execAuxChannelEvent
  with_reducible repeat' first | assumption | apply viaEdge_keeps | apply auxChannelEventNow_keeps

/-! ### Machine/JzLink.lean -/

theorem State.setPort_keeps {s0 : State} {x1} {x2} (h0 : Keeps q s0) :
    Keeps q (State.setPort s0 x1 x2) := by
  unfold State.setPort
  with_reducible repeat' first | assumption | apply keeps_ite | (fail_if_no_progress apply keeps_upd)

theorem State.creditUse_keeps {s0 : State} {x1} {x2} (h0 : Keeps q s0) :
    Keeps q (State.creditUse s0 x1 x2) := by
  unfold State.creditUse
  with_reducible repeat' first | assumption | apply State.count_keeps

theorem State.creditReturn_keeps {s0 : State} {x1} {x2} (h0 : Keeps q s0) :
    Keeps q (State.creditReturn s0 x1 x2) := by
  unfold State.creditReturn
  with_reducible repeat' first | assumption | apply State.count_keeps

theorem State.creditGrant_keeps {s0 : State} {x1} {x2} (h0 : Keeps q s0) :
    Keeps q (State.creditGrant s0 x1 x2) := by
  unfold State.creditGrant
  with_reducible repeat' first | assumption | apply State.count_keeps

theorem State.creditLate_keeps {s0 : State} {x1} (h0 : Keeps q s0) :
    Keeps q (State.creditLate s0 x1) := by
  unfold State.creditLate
  with_reducible repeat' first | assumption | apply State.count_keeps

theorem State.onLine_keeps {s0 : State} {x1} {x2} (h0 : Keeps q s0) :
    Keeps q (State.onLine s0 x1 x2) := by
  unfold State.onLine
  with_reducible repeat' first | assumption | apply State.send_keeps

theorem State.weightEdge_keeps {s0 : State} (h0 : Keeps q s0) :
    Keeps q (State.weightEdge s0) := by
  unfold State.weightEdge
  with_reducible repeat' first | assumption | apply keeps_ite | (fail_if_no_progress apply keeps_upd)

theorem State.dispatchFrame_keeps {s0 : State} {x1} {x2} {x3} {x4} (h0 : Keeps q s0) :
    Keeps q (State.dispatchFrame s0 x1 x2 x3 x4) := by
  unfold State.dispatchFrame
  with_reducible repeat' first | assumption | apply State.setPort_keeps | apply State.creditUse_keeps | apply State.onLine_keeps

theorem State.serveOne_keeps {s0 : State} {x1} {t : State} (e : State.serveOne s0 x1 = some t) (h0 : Keeps q s0) :
    Keeps q t := by
  unfold State.serveOne at e
  obtain ⟨cls, _, hc⟩ := List.exists_of_findSome?_eq_some e
  dsimp only at hc
  split at hc
  · split at hc
    · cases hc
      exact State.dispatchFrame_keeps h0
    · cases hc
  · cases hc

theorem State.serve_keeps {s0 : State} {x1} {x2 : Nat} (h0 : Keeps q s0) :
    Keeps q (State.serve s0 x1 x2) := by
  induction x2 generalizing s0 with
  | zero => exact h0
  | succ n ih =>
    unfold State.serve
    with_reducible repeat' first | assumption | apply ih | (refine State.serveOne_keeps (by assumption) ?_) | (fail_if_no_progress apply keeps_upd) | (refine keeps_snd (by assumption) ?_) | (refine keeps_fst (by assumption) ?_) | (refine keeps_out (by assumption) ?_) | split

theorem State.jzSend_keeps {s0 : State} {x1} {x2} {x3} (h0 : Keeps q s0) :
    Keeps q (State.jzSend s0 x1 x2 x3) := by
  unfold State.jzSend
  with_reducible repeat' first | assumption | apply State.onLine_keeps | apply State.setPort_keeps | apply State.serve_keeps | apply keeps_ite

theorem State.exFlush_keeps {s0 : State} {x1} (h0 : Keeps q s0) :
    Keeps q (State.exFlush s0 x1) := by
  unfold State.exFlush
  with_reducible repeat' first | assumption | apply State.jzSend_keeps | apply keeps_ite | apply keeps_foldl | (fail_if_no_progress apply keeps_upd) | (intro _ _ _)

theorem State.creditFrame_keeps {s0 : State} {x1} (h0 : Keeps q s0) :
    Keeps q (State.creditFrame s0 x1) := by
  unfold State.creditFrame
  with_reducible repeat' first | assumption | apply State.setPort_keeps | apply State.jzSend_keeps

theorem State.creditDue_keeps {s0 : State} {x1} {x2} {x3} (h0 : Keeps q s0) :
    Keeps q (State.creditDue s0 x1 x2 x3) := by
  unfold State.creditDue
  with_reducible repeat' first | assumption | apply State.setPort_keeps | apply State.creditFrame_keeps | apply keeps_ite

theorem execCreditFrameTimeout_keeps {x0} {s1 : State} (h1 : Keeps q s1) :
    OutKeeps q (execCreditFrameTimeout x0 s1) := by
  unfold execCreditFrameTimeout
  with_reducible repeat' first | assumption | apply State.creditFrame_keeps | apply keeps_ite | apply keeps_next

/-! ### Machine/HostCq.lean -/

theorem State.setCq_keeps {s0 : State} {x1} {x2} (h0 : Keeps q s0) :
    Keeps q (State.setCq s0 x1 x2) := by
  unfold State.setCq
  with_reducible repeat' first | assumption | apply State.put_keeps | apply keeps_ite | (fail_if_no_progress apply keeps_upd)

theorem State.cqSignal_keeps {s0 : State} {x1} (h0 : Keeps q s0) :
    Keeps q (State.cqSignal s0 x1) := by
  unfold State.cqSignal
  with_reducible repeat' first | assumption | apply State.setCq_keeps | apply State.send_keeps | apply keeps_ite

theorem State.cqWrite_keeps {s0 : State} {x1} {x2} {x3} {x4} (h0 : Keeps q s0) :
    Keeps q (State.cqWrite s0 x1 x2 x3 x4) := by
  unfold State.cqWrite
  with_reducible repeat' first | assumption | apply State.setCq_keeps | apply State.put_keeps | apply State.creditUse_keeps | apply State.send_keeps | apply State.cqSignal_keeps | apply keeps_ite

theorem State.cqPost_keeps {s0 : State} {x1} {x2} {x3} (h0 : Keeps q s0) :
    Keeps q (State.cqPost s0 x1 x2 x3) := by
  unfold State.cqPost
  with_reducible repeat' first | assumption | apply State.cqWrite_keeps | apply State.setCq_keeps | apply keeps_ite

theorem State.cqFlush_keeps {s0 : State} {x1} {x2 : Nat} (h0 : Keeps q s0) :
    Keeps q (State.cqFlush s0 x1 x2) := by
  induction x2 generalizing s0 with
  | zero => exact h0
  | succ n ih =>
    unfold State.cqFlush
    with_reducible repeat' first | assumption | apply ih | apply State.cqWrite_keeps | apply State.setCq_keeps | apply keeps_ite | (fail_if_no_progress apply keeps_upd) | (refine keeps_snd (by assumption) ?_) | (refine keeps_fst (by assumption) ?_) | (refine keeps_out (by assumption) ?_) | split

theorem State.cqFree_keeps {s0 : State} {x1} {x2} (h0 : Keeps q s0) :
    Keeps q (State.cqFree s0 x1 x2) := by
  unfold State.cqFree
  with_reducible repeat' first | assumption | apply State.setCq_keeps | apply State.creditReturn_keeps | apply State.cqFlush_keeps

theorem execCompletionIrqTimeout_keeps {x0} {s1 : State} (h1 : Keeps q s1) :
    OutKeeps q (execCompletionIrqTimeout x0 s1) := by
  unfold execCompletionIrqTimeout
  with_reducible repeat' first | assumption | apply State.cqSignal_keeps | apply keeps_ite | apply keeps_next

theorem execCompletionHeadDoorbell_keeps {x0} {x1} {s2 : State} (h2 : Keeps q s2) :
    OutKeeps q (execCompletionHeadDoorbell x0 x1 s2) := by
  unfold execCompletionHeadDoorbell
  with_reducible repeat' first | assumption | apply State.setBit_keeps | apply State.cqFree_keeps | apply keeps_ite | apply keeps_next

theorem State.dmaWrite_keeps {s0 : State} {x1} {x2} (h0 : Keeps q s0) :
    Keeps q (State.dmaWrite s0 x1 x2) := by
  unfold State.dmaWrite
  with_reducible repeat' first | assumption | apply State.send_keeps | apply keeps_ite

theorem State.sendRequest_keeps {s0 : State} {x1} (h0 : Keeps q s0) :
    Keeps q (State.sendRequest s0 x1) := by
  unfold State.sendRequest
  with_reducible repeat' first | assumption | apply State.jzSend_keeps

theorem State.releaseFenced_keeps {s0 : State} (h0 : Keeps q s0) :
    Keeps q (State.releaseFenced s0) := by
  unfold State.releaseFenced
  with_reducible repeat' first | assumption | apply State.sendRequest_keeps | apply keeps_ite | apply keeps_foldl | (fail_if_no_progress apply keeps_upd) | (intro _ _ _)

theorem State.complete_keeps {s0 : State} {x1} {x2} {x3} (h0 : Keeps q s0) :
    Keeps q (State.complete s0 x1 x2 x3) := by
  unfold State.complete
  with_reducible repeat' first | assumption | apply State.releaseFenced_keeps | apply State.count_keeps | apply State.dmaWrite_keeps | apply State.cqPost_keeps | apply State.jzSend_keeps | apply State.sendFrame_keeps | apply keeps_ite | (fail_if_no_progress apply keeps_upd)

theorem State.answerLate_keeps {s0 : State} {x1} {x2} (h0 : Keeps q s0) :
    Keeps q (State.answerLate s0 x1 x2) := by
  unfold State.answerLate
  with_reducible repeat' first | assumption | apply State.reply_keeps | apply State.complete_keeps | apply keeps_ite | (fail_if_no_progress apply keeps_upd) | (intro _ _ _) | (intro _ _) | (refine keeps_snd (by assumption) ?_) | (refine keeps_fst (by assumption) ?_) | (refine keeps_out (by assumption) ?_) | split | dsimp only

theorem State.destinationLost_keeps {s0 : State} {x1} (h0 : Keeps q s0) :
    Keeps q (State.destinationLost s0 x1) := by
  unfold State.destinationLost
  with_reducible repeat' first | assumption | apply State.complete_keeps | apply keeps_ite | apply keeps_foldl | (intro _ _ _)

theorem execTagTimeout_keeps {x0} {s1 : State} (h1 : Keeps q s1) :
    OutKeeps q (execTagTimeout x0 s1) := by
  unfold execTagTimeout
  with_reducible repeat' first | assumption | apply State.setBit_keeps | apply State.complete_keeps | apply keeps_ite | apply keeps_next | apply outKeeps_ite | (fail_if_no_progress apply keeps_upd) | (intro _ _ _) | (intro _ _) | (refine keeps_snd (by assumption) ?_) | (refine keeps_fst (by assumption) ?_) | (refine keeps_out (by assumption) ?_) | split

theorem execStreamBlockWrite_keeps {s0 : State} (h0 : Keeps q s0) :
    OutKeeps q (execStreamBlockWrite s0) := by
  unfold execStreamBlockWrite
  with_reducible repeat' first | assumption | apply State.setCq_keeps | apply State.creditUse_keeps | apply State.send_keeps | apply State.cqWrite_keeps | apply keeps_ite | apply keeps_next | apply outKeeps_ite | (fail_if_no_progress apply keeps_upd)

/-! ### Machine/Jz.lean -/

theorem State.jzUpdate_keeps {s0 : State} (h0 : Keeps q s0) :
    Keeps q (State.jzUpdate s0) := by
  unfold State.jzUpdate
  with_reducible repeat' first | assumption | apply State.put_keeps

theorem State.jzControl_keeps {s0 : State} {x1} {x2} {x3} {x4} (h0 : Keeps q s0) :
    Keeps q (State.jzControl s0 x1 x2 x3 x4) := by
  unfold State.jzControl
  with_reducible repeat' first | assumption | apply State.jzSend_keeps

theorem State.compareMaps_keeps {s0 : State} (h0 : Keeps q s0) :
    Keeps q (State.compareMaps s0) := by
  unfold State.compareMaps
  with_reducible repeat' first | assumption | apply State.setBit_keeps | apply State.raiseOnce_keeps | apply State.jzUpdate_keeps | apply keeps_ite

theorem State.storeMap_keeps {s0 : State} {x1} (h0 : Keeps q s0) :
    Keeps q (State.storeMap s0 x1) := by
  unfold State.storeMap
  with_reducible repeat' first | assumption | apply State.store_keeps | apply State.put_keeps | apply State.compareMaps_keeps | apply keeps_ite | (fail_if_no_progress apply keeps_upd)

theorem State.startEnumeration_keeps {s0 : State} (h0 : Keeps q s0) :
    Keeps q (State.startEnumeration s0) := by
  unfold State.startEnumeration
  with_reducible repeat' first | assumption | apply State.jzUpdate_keeps | apply State.jzControl_keeps | apply State.storeMap_keeps | apply keeps_ite | (fail_if_no_progress apply keeps_upd)

theorem execHeadDetection_keeps {s0 : State} (h0 : Keeps q s0) :
    OutKeeps q (execHeadDetection s0) := by
  unfold execHeadDetection
  with_reducible repeat' first | assumption | apply State.put_keeps | apply State.startEnumeration_keeps | apply keeps_ite | apply keeps_next

theorem execEnumerate_keeps {x0} {x1} {s2 : State} (h2 : Keeps q s2) :
    OutKeeps q (execEnumerate x0 x1 s2) := by
  unfold execEnumerate
  with_reducible repeat' first | assumption | apply State.put_keeps | apply State.jzUpdate_keeps | apply State.setBitIf_keeps | apply State.jzControl_keeps | apply State.storeMap_keeps | apply keeps_ite | apply keeps_next | apply outKeeps_ite | (fail_if_no_progress apply keeps_upd)

theorem execMap_keeps {x0} {x1} {x2} {s3 : State} (h3 : Keeps q s3) :
    OutKeeps q (execMap x0 x1 x2 s3) := by
  unfold execMap
  with_reducible repeat' first | assumption | apply State.destinationLost_keeps | apply State.jzControl_keeps | apply State.storeMap_keeps | apply keeps_ite | apply keeps_next | apply outKeeps_ite | apply keeps_foldl | (fail_if_no_progress apply keeps_upd)

theorem State.acceptMap_keeps {s0 : State} (h0 : Keeps q s0) :
    Keeps q (State.acceptMap s0) := by
  unfold State.acceptMap
  with_reducible repeat' first | assumption | apply State.store_keeps | apply State.setActive_keeps | apply State.jzUpdate_keeps | apply keeps_ite | (fail_if_no_progress apply keeps_upd)

theorem execAcceptMap_keeps {s0 : State} (h0 : Keeps q s0) :
    OutKeeps q (execAcceptMap s0) := by
  unfold execAcceptMap
  with_reducible repeat' first | assumption | apply State.acceptMap_keeps | apply State.done_keeps | apply State.reply_keeps | apply keeps_ite | apply keeps_next

theorem State.linkDown_keeps {s0 : State} {x1} {x2} (h0 : Keeps q s0) :
    Keeps q (State.linkDown s0 x1 x2) := by
  unfold State.linkDown
  with_reducible repeat' first | assumption | apply State.put_keeps | apply State.count_keeps | apply State.setBit_keeps | apply State.setPort_keeps | apply State.raiseOnce_keeps | apply State.jzUpdate_keeps | apply keeps_ite | apply keeps_foldl | (fail_if_no_progress apply keeps_upd) | (intro _ _ _)

theorem execLinkLoss_keeps {x0} {x1} {x2} {s3 : State} (h3 : Keeps q s3) :
    OutKeeps q (execLinkLoss x0 x1 x2 s3) := by
  unfold execLinkLoss
  with_reducible repeat' first | assumption | apply State.askBindOff_keeps | apply State.linkDown_keeps | apply State.each_keeps | apply keeps_ite | apply keeps_next

theorem State.sendReconcile_keeps {s0 : State} {x1} (h0 : Keeps q s0) :
    Keeps q (State.sendReconcile s0 x1) := by
  unfold State.sendReconcile
  with_reducible repeat' first | assumption | apply State.jzControl_keeps

theorem execLinkUp_keeps {x0} {s1 : State} (h1 : Keeps q s1) :
    OutKeeps q (execLinkUp x0 s1) := by
  unfold execLinkUp
  with_reducible repeat' first | assumption | apply State.put_keeps | apply State.setActive_keeps | apply State.sendReconcile_keeps | apply State.creditGrant_keeps | apply State.clrBit_keeps | apply State.setPort_keeps | apply State.serve_keeps | apply State.jzUpdate_keeps | apply State.startEnumeration_keeps | apply keeps_ite | apply keeps_next | apply outKeeps_ite | apply keeps_foldl | (fail_if_no_progress apply keeps_upd) | (intro _ _ _)

theorem State.replayAll_keeps {s0 : State} {x1} (h0 : Keeps q s0) :
    Keeps q (State.replayAll s0 x1) := by
  unfold State.replayAll
  with_reducible repeat' first | assumption | apply State.setPort_keeps | apply State.onLine_keeps | apply keeps_ite | apply keeps_foldl | (fail_if_no_progress apply keeps_upd) | (intro _ _ _)

theorem State.reconcileSame_keeps {s0 : State} {x1} {x2} {x3} (h0 : Keeps q s0) :
    Keeps q (State.reconcileSame s0 x1 x2 x3) := by
  unfold State.reconcileSame
  with_reducible repeat' first | assumption | apply State.creditReturn_keeps | apply State.setPort_keeps | apply State.replayAll_keeps | apply keeps_ite | apply keeps_foldl | (fail_if_no_progress apply keeps_upd) | (intro _ _ _)

theorem State.reconcileFresh_keeps {s0 : State} {x1} (h0 : Keeps q s0) :
    Keeps q (State.reconcileFresh s0 x1) := by
  unfold State.reconcileFresh
  with_reducible repeat' first | assumption | apply State.destinationLost_keeps | apply State.count_keeps | apply State.setPort_keeps | apply State.creditGrant_keeps | apply keeps_ite | apply keeps_foldl | (fail_if_no_progress apply keeps_upd) | (intro _ _ _)

theorem execReconcile_keeps {x0} {x1} {x2} {x3} {s4 : State} (h4 : Keeps q s4) :
    OutKeeps q (execReconcile x0 x1 x2 x3 s4) := by
  unfold execReconcile
  with_reducible repeat' first | assumption | apply State.clrBit_keeps | apply State.setPort_keeps | apply State.reconcileFresh_keeps | apply State.reconcileSame_keeps | apply State.serve_keeps | apply State.jzUpdate_keeps | apply keeps_ite | apply keeps_next | apply outKeeps_ite | apply keeps_foldl | (fail_if_no_progress apply keeps_upd) | (intro _ _ _)

theorem State.exMaster_keeps {s0 : State} {x1} {x2} {x3} (h0 : Keeps q s0) :
    Keeps q (State.exMaster s0 x1 x2 x3) := by
  unfold State.exMaster
  with_reducible repeat' first | assumption | apply State.each_keeps | apply State.masterSample_keeps | apply State.takeSample_keeps | apply keeps_ite | (fail_if_no_progress apply keeps_upd) | (intro _ _ _)

theorem State.exStatus_keeps {s0 : State} {x1} {x2} {x3} (h0 : Keeps q s0) :
    Keeps q (State.exStatus s0 x1 x2 x3) := by
  unfold State.exStatus
  with_reducible repeat' first | assumption | apply State.each_keeps | apply State.netStatus_keeps | apply State.netEdge_keeps | apply keeps_ite | (intro _ _ _)

theorem State.exSpan_keeps {s0 : State} {x1} {x2} {x3} {x4} (h0 : Keeps q s0) :
    Keeps q (State.exSpan s0 x1 x2 x3 x4) := by
  unfold State.exSpan
  with_reducible repeat' first | assumption | apply State.setSpan_keeps | apply keeps_ite

theorem State.exTrim_keeps {s0 : State} {x1} {x2} {x3} (h0 : Keeps q s0) :
    Keeps q (State.exTrim s0 x1 x2 x3) := by
  unfold State.exTrim
  with_reducible repeat' first | assumption | apply State.slotLatch_keeps | apply keeps_ite | apply keeps_foldl | (intro _ _ _)

theorem State.exTag_keeps {s0 : State} {x1} {x2} {x3} (h0 : Keeps q s0) :
    Keeps q (State.exTag s0 x1 x2 x3) := by
  unfold State.exTag
  with_reducible repeat' first | assumption | apply State.setSpan_keeps | apply keeps_ite

theorem State.exBindOff_keeps {s0 : State} {x1} {x2} {x3} {x4} (h0 : Keeps q s0) :
    Keeps q (State.exBindOff s0 x1 x2 x3 x4) := by
  unfold State.exBindOff
  with_reducible repeat' first | assumption | apply State.setBind_keeps | apply State.bindAsked_keeps | apply execBindOffJoinLate_keeps | apply keeps_ite | (fail_if_no_progress apply keeps_upd) | (intro _ _ _) | (intro _ _) | (refine keeps_snd (by assumption) ?_) | (refine keeps_fst (by assumption) ?_) | (refine keeps_out (by assumption) ?_) | split

theorem State.putImage_keeps {s0 : State} {x1} {x2} {x3} (h0 : Keeps q s0) :
    Keeps q (State.putImage s0 x1 x2 x3) := by
  unfold State.putImage
  with_reducible repeat' first | assumption | apply State.store_keeps | apply keeps_ite | apply keeps_foldl | (intro _ _ _)

theorem State.exImage_keeps {s0 : State} {x1} {x2} {x3} {x4} (h0 : Keeps q s0) :
    Keeps q (State.exImage s0 x1 x2 x3 x4) := by
  unfold State.exImage
  with_reducible repeat' first | assumption | apply State.put_keeps | apply State.putImage_keeps | apply keeps_ite | apply keeps_foldl | (fail_if_no_progress apply keeps_upd) | (intro _ _ _)

theorem State.exGroup_keeps {s0 : State} {x1} {x2} {x3} {x4} (h0 : Keeps q s0) :
    Keeps q (State.exGroup s0 x1 x2 x3 x4) := by
  unfold State.exGroup
  with_reducible repeat' first | assumption | apply State.exMaster_keeps | apply State.exStatus_keeps | apply State.exSpan_keeps | apply State.exTrim_keeps | apply State.exTag_keeps | apply State.exBindOff_keeps | apply State.trigRecord_keeps | apply State.exImage_keeps | apply keeps_ite | apply keeps_foldl | (intro _ _ _)

theorem State.exApply_keeps {s0 : State} {x1} {x2} {x3} {x4} (h0 : Keeps q s0) :
    Keeps q (State.exApply s0 x1 x2 x3 x4) := by
  unfold State.exApply
  with_reducible repeat' first | assumption | apply State.exGroup_keeps | apply keeps_ite | apply keeps_foldl | (fail_if_no_progress apply keeps_upd) | (intro _ _ _) | (intro _ _) | (refine keeps_snd (by assumption) ?_) | (refine keeps_fst (by assumption) ?_) | (refine keeps_out (by assumption) ?_) | split

theorem State.exEdge_keeps {s0 : State} {x1} (h0 : Keeps q s0) :
    Keeps q (State.exEdge s0 x1) := by
  unfold State.exEdge
  with_reducible repeat' first | assumption | apply State.exApply_keeps | apply keeps_ite | apply keeps_foldl | (fail_if_no_progress apply keeps_upd) | (intro _ _ _)

theorem State.exchange_keeps {s0 : State} {x1} {x2} {x3} (h0 : Keeps q s0) :
    Keeps q (State.exchange s0 x1 x2 x3) := by
  unfold State.exchange
  with_reducible repeat' first | assumption | apply State.count_keeps | apply State.setBit_keeps | apply State.lateTick_keeps | apply State.originOnTime_keeps | apply State.exApply_keeps | apply keeps_ite | (fail_if_no_progress apply keeps_upd) | (refine keeps_snd (by assumption) ?_) | (refine keeps_fst (by assumption) ?_) | (refine keeps_out (by assumption) ?_) | split

theorem execExchangeFrame_keeps {x0} {x1} {x2} {s3 : State} (h3 : Keeps q s3) :
    OutKeeps q (execExchangeFrame x0 x1 x2 s3) := by
  unfold execExchangeFrame
  with_reducible repeat' first | assumption | apply State.exchange_keeps | apply keeps_ite | apply keeps_next

theorem State.crcFailure_keeps {s0 : State} {x1} {x2} (h0 : Keeps q s0) :
    Keeps q (State.crcFailure s0 x1 x2) := by
  unfold State.crcFailure
  with_reducible repeat' first | assumption | apply State.count_keeps | apply State.setBit_keeps | apply State.setPort_keeps | apply State.linkDown_keeps | apply State.creditFrame_keeps | apply keeps_ite

theorem State.chainRequest_keeps {s0 : State} {x1} (h0 : Keeps q s0) :
    Keeps q (State.chainRequest s0 x1) := by
  unfold State.chainRequest
  with_reducible repeat' first | assumption | apply State.jzSend_keeps | apply keeps_ite | (fail_if_no_progress apply keeps_upd)

theorem State.chainCompletion_keeps {s0 : State} {x1} (h0 : Keeps q s0) :
    Keeps q (State.chainCompletion s0 x1) := by
  unfold State.chainCompletion
  with_reducible repeat' first | assumption | apply State.creditLate_keeps | apply State.complete_keeps | apply keeps_ite | (fail_if_no_progress apply keeps_upd) | (intro _ _ _) | (intro _ _) | (refine keeps_snd (by assumption) ?_) | (refine keeps_fst (by assumption) ?_) | (refine keeps_out (by assumption) ?_) | split | dsimp only

theorem State.jzHandle_keeps {s0 : State} {x1} (h0 : Keeps q s0) :
    Keeps q (State.jzHandle s0 x1) := by
  unfold State.jzHandle
  with_reducible repeat' first | assumption | apply State.exchange_keeps | apply State.chainRequest_keeps | apply State.chainCompletion_keeps | apply State.send_keeps | apply keeps_ite

theorem State.jzTake_keeps {s0 : State} {x1} {x2} (h0 : Keeps q s0) :
    Keeps q (State.jzTake s0 x1 x2) := by
  unfold State.jzTake
  with_reducible repeat' first | assumption | apply State.jzSend_keeps | apply State.count_keeps | apply State.jzHandle_keeps | apply keeps_ite

theorem execJorzerFrameReceive_keeps {x0} {x1} {x2} {s3 : State} (h3 : Keeps q s3) :
    OutKeeps q (execJorzerFrameReceive x0 x1 x2 s3) := by
  unfold execJorzerFrameReceive
  with_reducible repeat' first | assumption | apply State.crcFailure_keeps | apply State.setPort_keeps | apply State.jzTake_keeps | apply State.creditDue_keeps | apply State.creditFrame_keeps | apply keeps_ite | apply keeps_next

theorem execCreditAndAcknowledge_keeps {x0} {x1} {x2} {x3} {s4 : State} (h4 : Keeps q s4) :
    OutKeeps q (execCreditAndAcknowledge x0 x1 x2 x3 s4) := by
  unfold execCreditAndAcknowledge
  with_reducible repeat' first | assumption | apply State.setPort_keeps | apply State.creditReturn_keeps | apply State.count_keeps | apply State.setBit_keeps | apply State.replayAll_keeps | apply State.linkDown_keeps | apply State.serve_keeps | apply keeps_ite | apply keeps_next | apply outKeeps_ite | apply keeps_foldl | (fail_if_no_progress apply keeps_upd) | (intro _ _ _)

theorem execDelayMeasurement_keeps {x0} {x1} {x2} {x3} {x4} {s5 : State} (h5 : Keeps q s5) :
    OutKeeps q (execDelayMeasurement x0 x1 x2 x3 x4 s5) := by
  unfold execDelayMeasurement
  with_reducible repeat' first | assumption | apply State.setPort_keeps | apply State.put_keeps | apply State.linkDown_keeps | apply keeps_ite | apply keeps_next

theorem execSync_keeps {x0} {x1} {x2} {x3} {x4} {s5 : State} (h5 : Keeps q s5) :
    OutKeeps q (execSync x0 x1 x2 x3 x4 s5) := by
  unfold execSync
  with_reducible repeat' first | assumption | apply State.jzControl_keeps | apply keeps_ite | apply keeps_next | apply outKeeps_ite | (fail_if_no_progress apply keeps_upd)

/-! ### Machine/Can.lean -/

theorem State.setCan_keeps {s0 : State} {x1} {x2} (h0 : Keeps q s0) :
    Keeps q (State.setCan s0 x1 x2) := by
  unfold State.setCan
  with_reducible repeat' first | assumption | apply State.put_keeps | apply keeps_ite | (fail_if_no_progress apply keeps_upd)

theorem State.canSlotData_keeps {s0 : State} {x1} {x2} (h0 : Keeps q s0) :
    Keeps q (State.canSlotData s0 x1 x2) := by
  unfold State.canSlotData
  with_reducible repeat' first | assumption | apply State.store_keeps | apply keeps_ite

theorem State.canRequest_keeps {s0 : State} {x1} {x2} (h0 : Keeps q s0) :
    Keeps q (State.canRequest s0 x1 x2) := by
  unfold State.canRequest
  with_reducible repeat' first | assumption | apply State.setCan_keeps | apply State.canSlotData_keeps | apply State.count_keeps | apply State.put_keeps

theorem State.canTrigger_keeps {s0 : State} {x1} {x2} (h0 : Keeps q s0) :
    Keeps q (State.canTrigger s0 x1 x2) := by
  unfold State.canTrigger
  with_reducible repeat' first | assumption | apply State.count_keeps | apply State.canRequest_keeps | apply keeps_ite

theorem State.canEnd_keeps {s0 : State} {x1} {x2} {x3} {x4} (h0 : Keeps q s0) :
    Keeps q (State.canEnd s0 x1 x2 x3 x4) := by
  unfold State.canEnd
  with_reducible repeat' first | assumption | apply State.setCan_keeps | apply State.count_keeps | apply State.put_keeps | apply State.answerLate_keeps | apply keeps_ite

theorem execCanBufRequest_keeps {x0} {x1} {s2 : State} (h2 : Keeps q s2) :
    OutKeeps q (execCanBufRequest x0 x1 s2) := by
  unfold execCanBufRequest
  with_reducible repeat' first | assumption | apply State.reply_keeps | apply State.canRequest_keeps | apply State.done_keeps | apply keeps_ite | apply keeps_next

theorem execCanBufCancel_keeps {x0} {x1} {x2} {s3 : State} (h3 : Keeps q s3) :
    OutKeeps q (execCanBufCancel x0 x1 x2 s3) := by
  unfold execCanBufCancel
  with_reducible repeat' first | assumption | apply State.reply_keeps | apply State.setCan_keeps | apply State.put_keeps | apply State.canEnd_keeps | apply State.done_keeps | apply keeps_ite | apply keeps_next

theorem execCanBufRelease_keeps {x0} {x1} {s2 : State} (h2 : Keeps q s2) :
    OutKeeps q (execCanBufRelease x0 x1 s2) := by
  unfold execCanBufRelease
  with_reducible repeat' first | assumption | apply State.reply_keeps | apply State.put_keeps | apply State.done_keeps | apply keeps_ite | apply keeps_next

theorem State.canCounters_keeps {s0 : State} {x1} {x2} {x3} (h0 : Keeps q s0) :
    Keeps q (State.canCounters s0 x1 x2 x3) := by
  unfold State.canCounters
  with_reducible repeat' first | assumption | apply State.put_keeps | apply State.setBitIf_keeps | apply State.setCan_keeps | apply State.setBit_keeps | apply State.raiseOnce_keeps | apply keeps_ite

theorem State.canFailed_keeps {s0 : State} {x1} {x2} (h0 : Keeps q s0) :
    Keeps q (State.canFailed s0 x1 x2) := by
  unfold State.canFailed
  with_reducible repeat' first | assumption | apply State.canEnd_keeps | apply State.setCan_keeps | apply State.put_keeps | apply keeps_ite | (fail_if_no_progress apply keeps_upd) | (intro _ _ _) | (intro _ _) | (refine keeps_snd (by assumption) ?_) | (refine keeps_fst (by assumption) ?_) | (refine keeps_out (by assumption) ?_) | split

theorem State.canSent_keeps {s0 : State} {x1} {x2} {x3} (h0 : Keeps q s0) :
    Keeps q (State.canSent s0 x1 x2 x3) := by
  unfold State.canSent
  with_reducible repeat' first | assumption | apply State.send_keeps

theorem execCanFrameTransmitted_keeps {x0} {x1} {x2} {x3} {s4 : State} (h4 : Keeps q s4) :
    OutKeeps q (execCanFrameTransmitted x0 x1 x2 x3 s4) := by
  unfold execCanFrameTransmitted
  with_reducible repeat' first | assumption | apply State.canFailed_keeps | apply State.canCounters_keeps | apply State.canSent_keeps | apply State.put_keeps | apply State.canEnd_keeps | apply keeps_ite | apply keeps_next | apply outKeeps_ite | (fail_if_no_progress apply keeps_upd) | (refine keeps_snd (by assumption) ?_) | (refine keeps_fst (by assumption) ?_) | (refine keeps_out (by assumption) ?_) | split

theorem execCanArbitrationLost_keeps {x0} {x1} {s2 : State} (h2 : Keeps q s2) :
    OutKeeps q (execCanArbitrationLost x0 x1 s2) := by
  unfold execCanArbitrationLost
  with_reducible repeat' first | assumption | apply State.canFailed_keeps | apply keeps_ite | apply keeps_next

theorem execCanError_keeps {x0} {x1} {x2} {x3} {x4} {s5 : State} (h5 : Keeps q s5) :
    OutKeeps q (execCanError x0 x1 x2 x3 x4 s5) := by
  unfold execCanError
  with_reducible repeat' first | assumption | apply State.canFailed_keeps | apply State.canCounters_keeps | apply keeps_ite | apply keeps_next

theorem State.canFilter_keeps {s0 : State} {x1} {x2} {x3} {x4} {x5} (h0 : Keeps q s0) :
    Keeps q (State.canFilter s0 x1 x2 x3 x4 x5) := by
  unfold State.canFilter
  with_reducible repeat' first | assumption | apply State.count_keeps | apply State.put_keeps | apply State.store_keeps | apply State.setBit_keeps | apply keeps_ite | (fail_if_no_progress apply keeps_upd) | (intro _ _ _) | (intro _ _) | (refine keeps_snd (by assumption) ?_) | (refine keeps_fst (by assumption) ?_) | (refine keeps_out (by assumption) ?_) | split | dsimp only

theorem State.canAdopt_keeps {s0 : State} {x1} {x2} (h0 : Keeps q s0) :
    Keeps q (State.canAdopt s0 x1 x2) := by
  unfold State.canAdopt
  with_reducible repeat' first | assumption | apply State.putAll_keeps | apply State.setCan_keeps | apply State.setBitIf_keeps

theorem execCanFrameReceived_keeps {x0} {x1} {x2} {x3} {x4} {x5} {x6} {s7 : State} (h7 : Keeps q s7) :
    OutKeeps q (execCanFrameReceived x0 x1 x2 x3 x4 x5 x6 s7) := by
  unfold execCanFrameReceived
  with_reducible repeat' first | assumption | apply State.canAdopt_keeps | apply State.canFilter_keeps | apply State.canCounters_keeps | apply keeps_ite | apply keeps_next

theorem State.canEnter_keeps {s0 : State} {x1} (h0 : Keeps q s0) :
    Keeps q (State.canEnter s0 x1) := by
  unfold State.canEnter
  with_reducible repeat' first | assumption | apply State.canEnd_keeps | apply State.put_keeps | apply State.setCan_keeps | apply State.setActive_keeps | apply keeps_ite | apply keeps_foldl | (fail_if_no_progress apply keeps_upd) | (intro _ _ _)

theorem execCanModeChange_keeps {x0} {s1 : State} (h1 : Keeps q s1) :
    OutKeeps q (execCanModeChange x0 s1) := by
  unfold execCanModeChange
  with_reducible repeat' first | assumption | apply State.canEnter_keeps | apply keeps_ite | apply keeps_next

theorem State.canModeWritten_keeps {s0 : State} {x1} (h0 : Keeps q s0) :
    Keeps q (State.canModeWritten s0 x1) := by
  unfold State.canModeWritten
  with_reducible repeat' first | assumption | apply State.canEnter_keeps | apply keeps_ite

theorem execRateDetectionDwell_keeps {x0} {s1 : State} (h1 : Keeps q s1) :
    OutKeeps q (execRateDetectionDwell x0 s1) := by
  unfold execRateDetectionDwell
  with_reducible repeat' first | assumption | apply State.setCan_keeps | apply keeps_ite | apply keeps_next

theorem execRateDetectionTimeout_keeps {x0} {s1 : State} (h1 : Keeps q s1) :
    OutKeeps q (execRateDetectionTimeout x0 s1) := by
  unfold execRateDetectionTimeout
  with_reducible repeat' first | assumption | apply State.setCan_keeps | apply State.put_keeps | apply State.setBit_keeps | apply keeps_ite | apply keeps_next

theorem execCanRecover_keeps {x0} {s1 : State} (h1 : Keeps q s1) :
    OutKeeps q (execCanRecover x0 s1) := by
  unfold execCanRecover
  with_reducible repeat' first | assumption | apply State.reply_keeps | apply State.setCan_keeps | apply State.done_keeps | apply keeps_ite | apply keeps_next

theorem execBusOffRecovery_keeps {x0} {s1 : State} (h1 : Keeps q s1) :
    OutKeeps q (execBusOffRecovery x0 s1) := by
  unfold execBusOffRecovery
  with_reducible repeat' first | assumption | apply State.setCan_keeps | apply State.put_keeps | apply State.setActive_keeps | apply keeps_ite | apply keeps_next

theorem execTtSlotFire_keeps {x0} {x1} {s2 : State} (h2 : Keeps q s2) :
    OutKeeps q (execTtSlotFire x0 x1 s2) := by
  unfold execTtSlotFire
  with_reducible repeat' first | assumption | apply State.setCan_keeps | apply State.canTrigger_keeps | apply keeps_ite | apply keeps_next

theorem execTtWindowExpiry_keeps {x0} {x1} {x2} {s3 : State} (h3 : Keeps q s3) :
    OutKeeps q (execTtWindowExpiry x0 x1 x2 s3) := by
  unfold execTtWindowExpiry
  with_reducible repeat' first | assumption | apply State.setCan_keeps | apply State.canEnd_keeps | apply State.count_keeps | apply State.setBit_keeps | apply keeps_ite | apply keeps_next | apply outKeeps_ite | (fail_if_no_progress apply keeps_upd) | (intro _ _ _) | (intro _ _) | (refine keeps_snd (by assumption) ?_) | (refine keeps_fst (by assumption) ?_) | (refine keeps_out (by assumption) ?_) | split

theorem State.canEdge_keeps {s0 : State} {x1} (h0 : Keeps q s0) :
    Keeps q (State.canEdge s0 x1) := by
  unfold State.canEdge
  with_reducible repeat' first | assumption | apply State.each_keeps | apply State.canTrigger_keeps | apply State.put_keeps | apply keeps_ite | (intro _ _ _)

end Sys2Proof.Machine
end

