-- ==== Sys2Proof/Laws/KeepsDevice.lean ====
section
/-! SUPPORT. The operations and meanings of Machine/Field.lean, SafetyFn.lean, Nv.lean, Resets.lean, Faults.lean, Thermal.lean, Power.lean, Update.lean keep the
canonical form and the queue. -/

namespace Sys2Proof.Machine

variable {q : List Instr}

/-! ### Machine/Field.lean -/

theorem State.setFin_keeps {s0 : State} {x1} {x2} (h0 : Keeps q s0) :
    Keeps q (State.setFin s0 x1 x2) := by
  unfold State.setFin
  with_reducible repeat' first | assumption | apply State.put_keeps | apply keeps_ite | (fail_if_no_progress apply keeps_upd)

theorem State.setFout_keeps {s0 : State} {x1} {x2} (h0 : Keeps q s0) :
    Keeps q (State.setFout s0 x1 x2) := by
  unfold State.setFout
  with_reducible repeat' first | assumption | apply State.put_keeps | apply keeps_ite | (fail_if_no_progress apply keeps_upd)

theorem State.finRun_keeps {s0 : State} {x1} {x2} {x3} (h0 : Keeps q s0) :
    Keeps q (State.finRun s0 x1 x2 x3) := by
  unfold State.finRun
  with_reducible repeat' first | assumption | apply State.setFin_keeps | apply State.count_keeps | apply keeps_ite

theorem execFieldInputChange_keeps {x0} {x1} {s2 : State} (h2 : Keeps q s2) :
    OutKeeps q (execFieldInputChange x0 x1 s2) := by
  unfold execFieldInputChange
  with_reducible repeat' first | assumption | apply State.finRun_keeps | apply keeps_ite | apply keeps_next | apply outKeeps_ite | apply keeps_foldl | (intro _ _ _)

theorem State.finFirst_keeps {s0 : State} {x1} {x2} (h0 : Keeps q s0) :
    Keeps q (State.finFirst s0 x1 x2) := by
  unfold State.finFirst
  with_reducible repeat' first | assumption | apply State.setFin_keeps | apply State.count_keeps | apply keeps_ite

theorem execWireBreak_keeps {x0} {s1 : State} (h1 : Keeps q s1) :
    OutKeeps q (execWireBreak x0 s1) := by
  unfold execWireBreak
  with_reducible repeat' first | assumption | apply State.setFin_keeps | apply State.setBit_keeps | apply State.raiseOnce_keeps | apply keeps_ite | apply keeps_next

theorem execFieldInputValidAgain_keeps {x0} {x1} {s2 : State} (h2 : Keeps q s2) :
    OutKeeps q (execFieldInputValidAgain x0 x1 s2) := by
  unfold execFieldInputValidAgain
  with_reducible repeat' first | assumption | apply State.setFin_keeps | apply State.setActive_keeps | apply State.finFirst_keeps | apply keeps_ite | apply keeps_next

theorem State.finEdge_keeps {s0 : State} (h0 : Keeps q s0) :
    Keeps q (State.finEdge s0) := by
  unfold State.finEdge
  with_reducible repeat' first | assumption | apply State.put_keeps | apply State.each_keeps | apply State.slotLatch_keeps | apply keeps_ite | apply keeps_foldl | (intro _ _ _)

theorem State.foutEdge_keeps {s0 : State} {x1} {x2} (h0 : Keeps q s0) :
    Keeps q (State.foutEdge s0 x1 x2) := by
  unfold State.foutEdge
  with_reducible repeat' first | assumption | apply State.each_keeps | apply State.setFout_keeps | apply State.put_keeps | apply keeps_ite | apply keeps_foldl | (fail_if_no_progress apply keeps_upd) | (intro _ _ _) | (intro _ _) | (refine keeps_snd (by assumption) ?_) | (refine keeps_fst (by assumption) ?_) | (refine keeps_out (by assumption) ?_) | split

theorem State.foutStop_keeps {s0 : State} {x1} {x2} (h0 : Keeps q s0) :
    Keeps q (State.foutStop s0 x1 x2) := by
  unfold State.foutStop
  with_reducible repeat' first | assumption | apply State.setBit_keeps

theorem execFieldOutputOverload_keeps {x0} {s1 : State} (h1 : Keeps q s1) :
    OutKeeps q (execFieldOutputOverload x0 s1) := by
  unfold execFieldOutputOverload
  with_reducible repeat' first | assumption | apply State.setFout_keeps | apply State.foutStop_keeps | apply State.raiseOnce_keeps | apply keeps_ite | apply keeps_next

theorem execFieldOutputOverTemperature_keeps {x0} {x1} {s2 : State} (h2 : Keeps q s2) :
    OutKeeps q (execFieldOutputOverTemperature x0 x1 s2) := by
  unfold execFieldOutputOverTemperature
  with_reducible repeat' first | assumption | apply State.setFout_keeps | apply State.foutStop_keeps | apply State.raiseOnce_keeps | apply State.setActive_keeps | apply keeps_ite | apply keeps_next

theorem execOpenWire_keeps {x0} {x1} {s2 : State} (h2 : Keeps q s2) :
    OutKeeps q (execOpenWire x0 x1 s2) := by
  unfold execOpenWire
  with_reducible repeat' first | assumption | apply State.setFout_keeps | apply State.setBitIf_keeps | apply keeps_ite | apply keeps_next

theorem State.overloadEdge_keeps {s0 : State} (h0 : Keeps q s0) :
    Keeps q (State.overloadEdge s0) := by
  unfold State.overloadEdge
  with_reducible repeat' first | assumption | apply State.each_keeps | apply State.setActive_keeps | apply keeps_ite | (intro _ _ _)

theorem State.inputsValid_keeps {s0 : State} (h0 : Keeps q s0) :
    Keeps q (State.inputsValid s0) := by
  unfold State.inputsValid
  with_reducible repeat' first | assumption | apply State.put_keeps

theorem execFieldSupplyInvalid_keeps {x0} {s1 : State} (h1 : Keeps q s1) :
    OutKeeps q (execFieldSupplyInvalid x0 s1) := by
  unfold execFieldSupplyInvalid
  with_reducible repeat' first | assumption | apply State.put_keeps | apply State.setBit_keeps | apply State.count_keeps | apply State.raiseOnce_keeps | apply State.inputsValid_keeps | apply keeps_ite | apply keeps_next | apply outKeeps_ite | (fail_if_no_progress apply keeps_upd)

theorem execFieldOutputShed_keeps {x0} {s1 : State} (h1 : Keeps q s1) :
    OutKeeps q (execFieldOutputShed x0 s1) := by
  unfold execFieldOutputShed
  with_reducible repeat' first | assumption | apply State.foutStop_keeps | apply keeps_ite | apply keeps_next

theorem execFieldSupplyValid_keeps {x0} {x1} {s2 : State} (h2 : Keeps q s2) :
    OutKeeps q (execFieldSupplyValid x0 x1 s2) := by
  unfold execFieldSupplyValid
  with_reducible repeat' first | assumption | apply State.put_keeps | apply State.setActive_keeps | apply State.each_keeps | apply State.finFirst_keeps | apply State.inputsValid_keeps | apply keeps_ite | apply keeps_next | apply outKeeps_ite | (fail_if_no_progress apply keeps_upd) | (intro _ _ _)

theorem execFieldOutputAutoRestore_keeps {x0} {s1 : State} (h1 : Keeps q s1) :
    OutKeeps q (execFieldOutputAutoRestore x0 s1) := by
  unfold execFieldOutputAutoRestore
  with_reducible repeat' first | assumption | apply State.clrBit_keeps | apply keeps_ite | apply keeps_next | apply outKeeps_ite | (fail_if_no_progress apply keeps_upd) | (refine keeps_snd (by assumption) ?_) | (refine keeps_fst (by assumption) ?_) | (refine keeps_out (by assumption) ?_) | split

theorem execDieLinkLost_keeps {s0 : State} (h0 : Keeps q s0) :
    OutKeeps q (execDieLinkLost s0) := by
  unfold execDieLinkLost
  with_reducible repeat' first | assumption | apply State.each_keeps | apply State.foutStop_keeps | apply State.setBit_keeps | apply State.raiseOnce_keeps | apply State.inputsValid_keeps | apply keeps_ite | apply keeps_next | apply outKeeps_ite | (fail_if_no_progress apply keeps_upd) | (intro _ _ _)

theorem execDieLinkRestored_keeps {x0} {s1 : State} (h1 : Keeps q s1) :
    OutKeeps q (execDieLinkRestored x0 s1) := by
  unfold execDieLinkRestored
  with_reducible repeat' first | assumption | apply State.setActive_keeps | apply State.each_keeps | apply State.finFirst_keeps | apply State.inputsValid_keeps | apply keeps_ite | apply keeps_next | apply outKeeps_ite | (fail_if_no_progress apply keeps_upd) | (intro _ _ _)

/-! ### Machine/SafetyFn.lean -/

theorem State.putSource_keeps {s0 : State} (h0 : Keeps q s0) :
    Keeps q (State.putSource s0) := by
  unfold State.putSource
  with_reducible repeat' first | assumption | apply State.put_keeps | apply State.setBitIf_keeps

theorem State.safetyStateEdge_keeps {s0 : State} (h0 : Keeps q s0) :
    Keeps q (State.safetyStateEdge s0) := by
  unfold State.safetyStateEdge
  with_reducible repeat' first | assumption | apply State.put_keeps | apply keeps_ite

theorem State.safetyLines_keeps {s0 : State} (h0 : Keeps q s0) :
    Keeps q (State.safetyLines s0) := by
  unfold State.safetyLines
  with_reducible repeat' first | assumption | apply State.put_keeps | apply State.each_keeps | apply State.setFout_keeps | apply State.setPwm_keeps | apply keeps_ite | apply keeps_foldl | (fail_if_no_progress apply keeps_upd) | (intro _ _ _)

theorem State.withdraw_keeps {s0 : State} {x1} (h0 : Keeps q s0) :
    Keeps q (State.withdraw s0 x1) := by
  unfold State.withdraw
  with_reducible repeat' first | assumption | apply State.put_keeps | apply State.each_keeps | apply State.axisToFaulted_keeps | apply keeps_ite | (fail_if_no_progress apply keeps_upd) | (intro _ _ _)

theorem State.safetyFault_keeps {s0 : State} (h0 : Keeps q s0) :
    Keeps q (State.safetyFault s0) := by
  unfold State.safetyFault
  with_reducible repeat' first | assumption | apply State.withdraw_keeps | apply State.put_keeps | apply State.each_keeps | apply State.safetyLines_keeps | apply State.raiseLasting_keeps | apply keeps_ite

theorem State.safetyInputs_keeps {s0 : State} {x1} {x2} (h0 : Keeps q s0) :
    Keeps q (State.safetyInputs s0 x1 x2) := by
  unfold State.safetyInputs
  with_reducible repeat' first | assumption | apply keeps_ite | apply keeps_foldl | (fail_if_no_progress apply keeps_upd)

theorem State.pairLatch_keeps {s0 : State} {x1} (h0 : Keeps q s0) :
    Keeps q (State.pairLatch s0 x1) := by
  unfold State.pairLatch
  with_reducible repeat' first | assumption | apply State.put_keeps | apply State.setBit_keeps | apply State.raiseOnce_keeps | apply keeps_ite | (fail_if_no_progress apply keeps_upd)

theorem State.pairCycle_keeps {s0 : State} {x1} {x2} (h0 : Keeps q s0) :
    Keeps q (State.pairCycle s0 x1 x2) := by
  unfold State.pairCycle
  with_reducible repeat' first | assumption | apply State.put_keeps | apply State.setActive_keeps | apply State.pairLatch_keeps | apply keeps_ite | (fail_if_no_progress apply keeps_upd)

theorem execDiscrepancyLatch_keeps {x0} {s1 : State} (h1 : Keeps q s1) :
    OutKeeps q (execDiscrepancyLatch x0 s1) := by
  unfold execDiscrepancyLatch
  with_reducible repeat' first | assumption | apply State.pairLatch_keeps | apply keeps_ite | apply keeps_next | apply outKeeps_ite | (fail_if_no_progress apply keeps_upd) | (refine keeps_snd (by assumption) ?_) | (refine keeps_fst (by assumption) ?_) | (refine keeps_out (by assumption) ?_) | split

theorem State.ss1Demand_keeps {s0 : State} {x1} (h0 : Keeps q s0) :
    Keeps q (State.ss1Demand s0 x1) := by
  unfold State.ss1Demand
  with_reducible repeat' first | assumption | apply State.put_keeps | apply State.each_keeps | apply State.raise_keeps | apply keeps_ite | (fail_if_no_progress apply keeps_upd) | (intro _ _ _)

theorem State.pairDemand_keeps {s0 : State} {x1} {x2} (h0 : Keeps q s0) :
    Keeps q (State.pairDemand s0 x1 x2) := by
  unfold State.pairDemand
  with_reducible repeat' first | assumption | apply State.count_keeps | apply State.each_keeps | apply State.ss1Demand_keeps | apply State.withdraw_keeps | apply keeps_ite | (fail_if_no_progress apply keeps_upd) | (intro _ _ _)

theorem State.demandCycle_keeps {s0 : State} {x1} (h0 : Keeps q s0) :
    Keeps q (State.demandCycle s0 x1) := by
  unfold State.demandCycle
  with_reducible repeat' first | assumption | apply State.each_keeps | apply State.pairDemand_keeps | apply keeps_ite | (fail_if_no_progress apply keeps_upd) | (intro _ _ _)

theorem execSs1TimerExpiry_keeps {x0} {s1 : State} (h1 : Keeps q s1) :
    OutKeeps q (execSs1TimerExpiry x0 s1) := by
  unfold execSs1TimerExpiry
  with_reducible repeat' first | assumption | apply State.withdraw_keeps | apply State.safetyLines_keeps | apply keeps_ite | apply keeps_next

theorem State.groupCycle_keeps {s0 : State} {x1} (h0 : Keeps q s0) :
    Keeps q (State.groupCycle s0 x1) := by
  unfold State.groupCycle
  with_reducible repeat' first | assumption | apply State.withdraw_keeps | apply State.put_keeps | apply keeps_ite | (fail_if_no_progress apply keeps_upd) | (refine keeps_snd (by assumption) ?_) | (refine keeps_fst (by assumption) ?_) | (refine keeps_out (by assumption) ?_) | split

theorem State.safetyGroups_keeps {s0 : State} (h0 : Keeps q s0) :
    Keeps q (State.safetyGroups s0) := by
  unfold State.safetyGroups
  with_reducible repeat' first | assumption | apply State.groupCycle_keeps | apply State.each_keeps | apply State.safetyLines_keeps

theorem State.safetyChecks_keeps {s0 : State} {x1} {x2} {x3} {x4} (h0 : Keeps q s0) :
    Keeps q (State.safetyChecks s0 x1 x2 x3 x4) := by
  unfold State.safetyChecks
  with_reducible repeat' first | assumption | apply State.setBitIf_keeps | apply State.safetyFault_keeps | apply keeps_ite | (fail_if_no_progress apply keeps_upd)

theorem execSafetyCycle_keeps {x0} {x1} {x2} {x3} {x4} {x5} {s6 : State} (h6 : Keeps q s6) :
    OutKeeps q (execSafetyCycle x0 x1 x2 x3 x4 x5 s6) := by
  unfold execSafetyCycle
  with_reducible repeat' first | assumption | apply State.safetyStateEdge_keeps | apply State.safetyChecks_keeps | apply State.safetyGroups_keeps | apply State.safetyInputs_keeps | apply State.each_keeps | apply State.pairCycle_keeps | apply State.demandCycle_keeps | apply State.put_keeps | apply keeps_ite | apply keeps_next | apply outKeeps_ite | (fail_if_no_progress apply keeps_upd) | (intro _ _ _) | (intro _ _) | (refine keeps_snd (by assumption) ?_) | (refine keeps_fst (by assumption) ?_) | (refine keeps_out (by assumption) ?_) | split

theorem execSafetyAcknowledge_keeps {s0 : State} (h0 : Keeps q s0) :
    OutKeeps q (execSafetyAcknowledge s0) := by
  unfold execSafetyAcknowledge
  with_reducible repeat' first | assumption | apply State.count_keeps | apply State.reply_keeps | apply State.safetyGroups_keeps | apply State.done_keeps | apply keeps_ite | apply keeps_next | apply outKeeps_ite | (fail_if_no_progress apply keeps_upd)

theorem execRequestFrame_keeps {s0 : State} (h0 : Keeps q s0) :
    OutKeeps q (execRequestFrame s0) := by
  unfold execRequestFrame
  with_reducible repeat' first | assumption | apply State.safetyLines_keeps | apply keeps_ite | apply keeps_next | apply outKeeps_ite | apply keeps_foldl | (fail_if_no_progress apply keeps_upd)

theorem execRequestPathLost_keeps {s0 : State} (h0 : Keeps q s0) :
    OutKeeps q (execRequestPathLost s0) := by
  unfold execRequestPathLost
  with_reducible repeat' first | assumption | apply State.setBit_keeps | apply State.safetyLines_keeps | apply keeps_ite | apply keeps_next | apply outKeeps_ite | (fail_if_no_progress apply keeps_upd)

theorem execSafetyUnlock_keeps {x0} {x1} {s2 : State} (h2 : Keeps q s2) :
    OutKeeps q (execSafetyUnlock x0 x1 s2) := by
  unfold execSafetyUnlock
  with_reducible repeat' first | assumption | apply State.reply_keeps | apply State.done_keeps | apply keeps_ite | apply keeps_next | apply outKeeps_ite | (fail_if_no_progress apply keeps_upd)

theorem execSafetyUnlockExpiry_keeps {x0} {s1 : State} (h1 : Keeps q s1) :
    OutKeeps q (execSafetyUnlockExpiry x0 s1) := by
  unfold execSafetyUnlockExpiry
  with_reducible repeat' first | assumption | apply keeps_ite | apply keeps_next | apply outKeeps_ite | (fail_if_no_progress apply keeps_upd)

theorem execSealRead_keeps {x0} {s1 : State} (h1 : Keeps q s1) :
    OutKeeps q (execSealRead x0 s1) := by
  unfold execSealRead
  with_reducible repeat' first | assumption | apply State.put_keeps | apply State.putSource_keeps | apply State.safetyStateEdge_keeps | apply keeps_ite | apply keeps_next | apply outKeeps_ite | (fail_if_no_progress apply keeps_upd)

theorem execSelfTestComplete_keeps {x0} {s1 : State} (h1 : Keeps q s1) :
    OutKeeps q (execSelfTestComplete x0 s1) := by
  unfold execSelfTestComplete
  with_reducible repeat' first | assumption | apply State.put_keeps | apply State.safetyStateEdge_keeps | apply State.safetyFault_keeps | apply keeps_ite | apply keeps_next

theorem execOffPulse_keeps {x0} {x1} {s2 : State} (h2 : Keeps q s2) :
    OutKeeps q (execOffPulse x0 x1 s2) := by
  unfold execOffPulse
  with_reducible repeat' first | assumption | apply State.setBit_keeps | apply State.safetyFault_keeps | apply keeps_ite | apply keeps_next

/-! ### Machine/Nv.lean -/

theorem State.storeUsed_keeps {s0 : State} (h0 : Keeps q s0) :
    Keeps q (State.storeUsed s0) := by
  unfold State.storeUsed
  with_reducible repeat' first | assumption | apply State.put_keeps

theorem State.nvPlace_keeps {s0 : State} {x1} {t : State} (e : State.nvPlace s0 x1 = some t) (h0 : Keeps q s0) :
    Keeps q t := by
  unfold State.nvPlace at e
  dsimp only at e
  repeat' (split at e)
  all_goals first
    | (cases e; exact keeps_upd h0)
    | exact absurd e (by simp)

theorem State.nvReclaim_keeps {s0 : State} {x1} {t : State} (e : State.nvReclaim s0 x1 = some t) (h0 : Keeps q s0) :
    Keeps q t := by
  unfold State.nvReclaim at e
  have key : ∀ (l : List NvRec) (o : Option State), (∀ u, o = some u → Keeps q u) → ∀ t,
      l.foldl (fun o r => match o with | some t => t.nvPlace r | none => none) o = some t → Keeps q t := by
    intro l
    induction l with
    | nil => intro o ho t e; exact ho t e
    | cons x l ih =>
      intro o ho t e
      refine ih _ ?_ t e
      intro u hu
      cases o with
      | none => cases hu
      | some w => exact State.nvPlace_keeps hu (ho w rfl)
  exact key _ _ (fun u hu => by cases hu; exact keeps_upd h0) t e

theorem State.nvSmall_keeps {s0 : State} {x1} {x2} (h0 : Keeps q s0) :
    Keeps q (State.nvSmall s0 x1 x2) := by
  unfold State.nvSmall
  with_reducible repeat' first | assumption | (refine State.nvPlace_keeps (by assumption) ?_) | apply State.put_keeps | (refine State.nvReclaim_keeps (by assumption) ?_) | apply keeps_ite | (fail_if_no_progress apply keeps_upd) | (intro _ _ _) | (intro _ _) | (refine keeps_snd (by assumption) ?_) | (refine keeps_fst (by assumption) ?_) | (refine keeps_out (by assumption) ?_) | split | dsimp only

theorem State.reserveEpochs_keeps {s0 : State} {x1} (h0 : Keeps q s0) :
    Keeps q (State.reserveEpochs s0 x1) := by
  unfold State.reserveEpochs
  with_reducible repeat' first | assumption | apply State.nvSmall_keeps

theorem State.select_keeps {s0 : State} {x1} {x2} {x3} {x4} (h0 : Keeps q s0) :
    Keeps q (State.select s0 x1 x2 x3 x4) := by
  unfold State.select
  with_reducible repeat' first | assumption | apply State.nvSmall_keeps

theorem State.bumpEpoch_keeps {s0 : State} (h0 : Keeps q s0) :
    Keeps q (State.bumpEpoch s0) := by
  unfold State.bumpEpoch
  with_reducible repeat' first | assumption | apply State.put_keeps | apply State.reserveEpochs_keeps | apply keeps_ite

theorem State.flashStart_keeps {s0 : State} (h0 : Keeps q s0) :
    Keeps q (State.flashStart s0) := by
  unfold State.flashStart
  with_reducible repeat' first | assumption | (refine State.nvPlace_keeps (by assumption) ?_) | apply keeps_ite | (fail_if_no_progress apply keeps_upd) | (intro _ _ _) | (intro _ _) | (refine keeps_snd (by assumption) ?_) | (refine keeps_fst (by assumption) ?_) | (refine keeps_out (by assumption) ?_) | split | dsimp only

theorem State.flashNext_keeps {s0 : State} (h0 : Keeps q s0) :
    Keeps q (State.flashNext s0) := by
  unfold State.flashNext
  with_reducible repeat' first | assumption | apply State.flashStart_keeps | apply keeps_ite | (fail_if_no_progress apply keeps_upd)

theorem State.nvCommitted_keeps {s0 : State} (h0 : Keeps q s0) :
    Keeps q (State.nvCommitted s0) := by
  unfold State.nvCommitted
  with_reducible repeat' first | assumption | apply State.put_keeps | apply State.storeUsed_keeps | apply State.answerLate_keeps | apply keeps_ite | (fail_if_no_progress apply keeps_upd) | (intro _ _ _) | (intro _ _) | (refine keeps_snd (by assumption) ?_) | (refine keeps_fst (by assumption) ?_) | (refine keeps_out (by assumption) ?_) | split

theorem State.updateReject_keeps {s0 : State} {x1} (h0 : Keeps q s0) :
    Keeps q (State.updateReject s0 x1) := by
  unfold State.updateReject
  with_reducible repeat' first | assumption | apply State.put_keeps | apply State.setBit_keeps | apply keeps_ite | (fail_if_no_progress apply keeps_upd)

theorem State.updateVerified_keeps {s0 : State} (h0 : Keeps q s0) :
    Keeps q (State.updateVerified s0) := by
  unfold State.updateVerified
  with_reducible repeat' first | assumption | apply State.put_keeps | apply keeps_ite | (fail_if_no_progress apply keeps_upd)

theorem State.flashFailed_keeps {s0 : State} (h0 : Keeps q s0) :
    Keeps q (State.flashFailed s0) := by
  unfold State.flashFailed
  with_reducible repeat' first | assumption | apply State.setBit_keeps | apply State.updateReject_keeps | apply State.put_keeps | apply keeps_ite | (fail_if_no_progress apply keeps_upd) | (refine keeps_snd (by assumption) ?_) | (refine keeps_fst (by assumption) ?_) | (refine keeps_out (by assumption) ?_) | split | dsimp only

theorem State.flashDone_keeps {s0 : State} (h0 : Keeps q s0) :
    Keeps q (State.flashDone s0) := by
  unfold State.flashDone
  with_reducible repeat' first | assumption | apply State.updateVerified_keeps | apply State.put_keeps | apply State.nvCommitted_keeps | apply keeps_ite | (fail_if_no_progress apply keeps_upd) | (intro _ _ _) | (intro _ _) | (refine keeps_snd (by assumption) ?_) | (refine keeps_fst (by assumption) ?_) | (refine keeps_out (by assumption) ?_) | split

theorem execFlashOperationComplete_keeps {x0} {s1 : State} (h1 : Keeps q s1) :
    OutKeeps q (execFlashOperationComplete x0 s1) := by
  unfold execFlashOperationComplete
  with_reducible repeat' first | assumption | apply State.flashDone_keeps | apply State.flashNext_keeps | apply State.flashFailed_keeps | apply keeps_ite | apply keeps_next | apply outKeeps_ite | (fail_if_no_progress apply keeps_upd)

theorem State.flashShutdown_keeps {s0 : State} (h0 : Keeps q s0) :
    Keeps q (State.flashShutdown s0) := by
  unfold State.flashShutdown
  with_reducible repeat' first | assumption | apply State.put_keeps | apply keeps_ite | (fail_if_no_progress apply keeps_upd)

theorem State.queueTxn_keeps {s0 : State} {x1} {x2} (h0 : Keeps q s0) :
    Keeps q (State.queueTxn s0 x1 x2) := by
  unfold State.queueTxn
  with_reducible repeat' first | assumption | apply State.put_keeps | apply State.flashStart_keeps | apply keeps_ite | (fail_if_no_progress apply keeps_upd)

theorem execSave_keeps {s0 : State} (h0 : Keeps q s0) :
    OutKeeps q (execSave s0) := by
  unfold execSave
  with_reducible repeat' first | assumption | apply State.reply_keeps | apply keeps_ite | apply keeps_next | apply outKeeps_ite | (fail_if_no_progress apply keeps_upd)

theorem State.saveEdge_keeps {s0 : State} (h0 : Keeps q s0) :
    Keeps q (State.saveEdge s0) := by
  unfold State.saveEdge
  with_reducible repeat' first | assumption | apply State.answerLate_keeps | apply State.put_keeps | apply State.queueTxn_keeps | apply keeps_ite | (fail_if_no_progress apply keeps_upd)

theorem execClear_keeps {s0 : State} (h0 : Keeps q s0) :
    OutKeeps q (execClear s0) := by
  unfold execClear
  with_reducible repeat' first | assumption | apply State.reply_keeps | apply State.queueTxn_keeps | apply keeps_ite | apply keeps_next

theorem execJournalReclaim_keeps {x0} {s1 : State} (h1 : Keeps q s1) :
    OutKeeps q (execJournalReclaim x0 s1) := by
  unfold execJournalReclaim
  with_reducible repeat' first | assumption | (refine State.nvReclaim_keeps (by assumption) ?_) | apply State.put_keeps | apply keeps_ite | apply keeps_next | apply outKeeps_ite | (fail_if_no_progress apply keeps_upd) | (refine keeps_snd (by assumption) ?_) | (refine keeps_fst (by assumption) ?_) | (refine keeps_out (by assumption) ?_) | split

theorem execMeasuredMaximumReset_keeps {x0} {s1 : State} (h1 : Keeps q s1) :
    OutKeeps q (execMeasuredMaximumReset x0 s1) := by
  unfold execMeasuredMaximumReset
  with_reducible repeat' first | assumption | apply State.put_keeps | apply State.done_keeps | apply State.reply_keeps | apply keeps_ite | apply keeps_next | apply outKeeps_ite | (fail_if_no_progress apply keeps_upd) | (refine keeps_snd (by assumption) ?_) | (refine keeps_fst (by assumption) ?_) | (refine keeps_out (by assumption) ?_) | split

/-! ### Machine/Resets.lean -/

theorem State.nerrUpdate_keeps {s0 : State} (h0 : Keeps q s0) :
    Keeps q (State.nerrUpdate s0) := by
  unfold State.nerrUpdate
  with_reducible repeat' first | assumption | apply State.put_keeps | apply keeps_ite | (fail_if_no_progress apply keeps_upd)

theorem execNerrMinPulseExpiry_keeps {s0 : State} (h0 : Keeps q s0) :
    OutKeeps q (execNerrMinPulseExpiry s0) := by
  unfold execNerrMinPulseExpiry
  with_reducible repeat' first | assumption | apply State.nerrUpdate_keeps | apply keeps_ite | apply keeps_next | apply outKeeps_ite | (fail_if_no_progress apply keeps_upd)

theorem State.flashAbort_keeps {s0 : State} (h0 : Keeps q s0) :
    Keeps q (State.flashAbort s0) := by
  unfold State.flashAbort
  with_reducible repeat' first | assumption | apply keeps_ite | (fail_if_no_progress apply keeps_upd)

theorem State.partsReset_keeps {s0 : State} (h0 : Keeps q s0) :
    Keeps q (State.partsReset s0) := by
  unfold State.partsReset
  with_reducible repeat' first | assumption | apply State.flashAbort_keeps | apply keeps_ite | apply keeps_filterBoth

theorem State.chipReset_keeps {s0 : State} {x1} (h0 : Keeps q s0) :
    Keeps q (State.chipReset s0 x1) := by
  unfold State.chipReset
  with_reducible repeat' first | assumption | apply State.partsReset_keeps | apply State.put_keeps | apply State.bumpEpoch_keeps | apply keeps_ite | (fail_if_no_progress apply keeps_upd)

theorem execChipReset_keeps {s0 : State} (h0 : Keeps q s0) :
    OutKeeps q (execChipReset s0) := by
  unfold execChipReset
  with_reducible repeat' first | assumption | apply State.chipReset_keeps | apply keeps_ite | apply keeps_next | apply outKeeps_ite | (fail_if_no_progress apply keeps_upd) | (refine keeps_snd (by assumption) ?_) | (refine keeps_fst (by assumption) ?_) | (refine keeps_out (by assumption) ?_) | split

theorem State.resetIndexes_keeps {s0 : State} {x1} {x2} (h0 : Keeps q s0) :
    Keeps q (State.resetIndexes s0 x1 x2) := by
  unfold State.resetIndexes
  with_reducible repeat' first | assumption | apply keeps_ite | apply keeps_filterRegs

theorem State.resetPort_keeps {s0 : State} {x1} (h0 : Keeps q s0) :
    Keeps q (State.resetPort s0 x1) := by
  unfold State.resetPort
  with_reducible repeat' first | assumption | apply State.linkDown_keeps | apply State.resetIndexes_keeps | apply State.each_keeps | apply State.putAll_keeps | apply keeps_ite | (fail_if_no_progress apply keeps_upd) | (intro _ _ _)

theorem State.blockReset_keeps {s0 : State} {x1} {x2} (h0 : Keeps q s0) :
    Keeps q (State.blockReset s0 x1 x2) := by
  unfold State.blockReset
  with_reducible repeat' first | assumption | apply State.put_keeps | apply State.resetIndexes_keeps | apply State.resetPort_keeps | apply State.setCan_keeps | apply State.canModeWritten_keeps | apply keeps_ite | (fail_if_no_progress apply keeps_upd)

theorem execBlockReset_keeps {x0} {s1 : State} (h1 : Keeps q s1) :
    OutKeeps q (execBlockReset x0 s1) := by
  unfold execBlockReset
  with_reducible repeat' first | assumption | apply State.blockReset_keeps | apply State.bumpEpoch_keeps | apply State.put_keeps | apply keeps_ite | apply keeps_next | apply outKeeps_ite | (fail_if_no_progress apply keeps_upd)

/-! ### Machine/Faults.lean -/

theorem execFaultReactionWrite_keeps {x0} {x1} {s2 : State} (h2 : Keeps q s2) :
    OutKeeps q (execFaultReactionWrite x0 x1 s2) := by
  unfold execFaultReactionWrite
  with_reducible repeat' first | assumption | apply State.reply_keeps | apply State.put_keeps | apply State.done_keeps | apply keeps_ite | apply keeps_next

theorem State.forceOne_keeps {s0 : State} {x1} {x2} (h0 : Keeps q s0) :
    Keeps q (State.forceOne s0 x1 x2) := by
  unfold State.forceOne
  with_reducible repeat' first | assumption | apply State.raiseWith_keeps | apply keeps_ite | (fail_if_no_progress apply keeps_upd)

theorem execFaultForce_keeps {x0} {x1} {x2} {s3 : State} (h3 : Keeps q s3) :
    OutKeeps q (execFaultForce x0 x1 x2 s3) := by
  unfold execFaultForce
  with_reducible repeat' first | assumption | apply State.reply_keeps | apply State.each_keeps | apply State.forceOne_keeps | apply State.done_keeps | apply keeps_ite | apply keeps_next | apply outKeeps_ite | (intro _ _ _)

theorem State.forcedEnd_keeps {s0 : State} (h0 : Keeps q s0) :
    Keeps q (State.forcedEnd s0) := by
  unfold State.forcedEnd
  with_reducible repeat' first | assumption | apply State.each_keeps | apply State.setActive_keeps | apply keeps_ite | (fail_if_no_progress apply keeps_upd) | (intro _ _ _)

theorem State.trapRun_keeps {s0 : State} (h0 : Keeps q s0) :
    Keeps q (State.trapRun s0) := by
  unfold State.trapRun
  with_reducible repeat' first | assumption | apply State.complete_keeps | apply keeps_ite | apply keeps_foldl | (fail_if_no_progress apply keeps_upd) | (intro _ _ _)

theorem State.logWrite_keeps {s0 : State} {x1} (h0 : Keeps q s0) :
    Keeps q (State.logWrite s0 x1) := by
  unfold State.logWrite
  with_reducible repeat' first | assumption | apply State.put_keeps | apply State.store_keeps | apply keeps_ite | apply keeps_filterMem

theorem execFaultLogCopy_keeps {s0 : State} (h0 : Keeps q s0) :
    OutKeeps q (execFaultLogCopy s0) := by
  unfold execFaultLogCopy
  with_reducible repeat' first | assumption | apply State.logWrite_keeps | apply keeps_ite | apply keeps_next | apply outKeeps_ite | apply keeps_foldl | (fail_if_no_progress apply keeps_upd) | (intro _ _ _)

theorem execClearFatalRecord_keeps {s0 : State} (h0 : Keeps q s0) :
    OutKeeps q (execClearFatalRecord s0) := by
  unfold execClearFatalRecord
  with_reducible repeat' first | assumption | apply State.nerrUpdate_keeps | apply State.done_keeps | apply keeps_ite | apply keeps_next | apply outKeeps_ite | (fail_if_no_progress apply keeps_upd)

theorem execEraseLog_keeps {s0 : State} (h0 : Keeps q s0) :
    OutKeeps q (execEraseLog s0) := by
  unfold execEraseLog
  with_reducible repeat' first | assumption | apply State.reply_keeps | apply State.put_keeps | apply State.done_keeps | apply keeps_ite | apply keeps_next | apply outKeeps_ite | apply keeps_filterMem

theorem State.fatalToLog_keeps {s0 : State} (h0 : Keeps q s0) :
    Keeps q (State.fatalToLog s0) := by
  unfold State.fatalToLog
  with_reducible repeat' first | assumption | apply State.logWrite_keeps | apply keeps_ite | apply keeps_foldl | (fail_if_no_progress apply keeps_upd)

theorem execSupervisorWatchdog_keeps {x0} {s1 : State} (h1 : Keeps q s1) :
    OutKeeps q (execSupervisorWatchdog x0 s1) := by
  unfold execSupervisorWatchdog
  with_reducible repeat' first | assumption | apply State.raise_keeps | apply State.chipReset_keeps | apply keeps_ite | apply keeps_next

/-! ### Machine/Thermal.lean -/

theorem State.enterHalt_keeps {s0 : State} (h0 : Keeps q s0) :
    Keeps q (State.enterHalt s0) := by
  unfold State.enterHalt
  with_reducible repeat' first | assumption | apply State.askBindOff_keeps | apply State.put_keeps | apply State.each_keeps

theorem State.sensorRead_keeps {s0 : State} {x1} {x2} {x3} (h0 : Keeps q s0) :
    Keeps q (State.sensorRead s0 x1 x2 x3) := by
  unfold State.sensorRead
  with_reducible repeat' first | assumption | apply State.putBit_keeps | apply State.put_keeps | apply State.setBit_keeps | apply State.raiseWith_keeps | apply State.setActive_keeps | apply keeps_ite | (fail_if_no_progress apply keeps_upd)

theorem State.zoneRead_keeps {s0 : State} {x1} (h0 : Keeps q s0) :
    Keeps q (State.zoneRead s0 x1) := by
  unfold State.zoneRead
  with_reducible repeat' first | assumption | apply State.put_keeps | apply State.setBitIf_keeps | apply keeps_ite | (fail_if_no_progress apply keeps_upd)

theorem execThrottleUp_keeps {s0 : State} (h0 : Keeps q s0) :
    OutKeeps q (execThrottleUp s0) := by
  unfold execThrottleUp
  with_reducible repeat' first | assumption | apply State.put_keeps | apply State.setBit_keeps | apply State.raiseWith_keeps | apply keeps_ite | apply keeps_next

theorem execThrottleDown_keeps {s0 : State} (h0 : Keeps q s0) :
    OutKeeps q (execThrottleDown s0) := by
  unfold execThrottleDown
  with_reducible repeat' first | assumption | apply State.put_keeps | apply State.each_keeps | apply State.setActive_keeps | apply keeps_ite | apply keeps_next | apply outKeeps_ite | (intro _ _ _)

theorem State.thermalLimit_keeps {s0 : State} {x1} (h0 : Keeps q s0) :
    Keeps q (State.thermalLimit s0 x1) := by
  unfold State.thermalLimit
  with_reducible repeat' first | assumption | apply State.setBit_keeps | apply State.raiseWith_keeps | apply keeps_ite | (fail_if_no_progress apply keeps_upd)

theorem execThermalEscalation_keeps {s0 : State} (h0 : Keeps q s0) :
    OutKeeps q (execThermalEscalation s0) := by
  unfold execThermalEscalation
  with_reducible repeat' first | assumption | apply State.thermalLimit_keeps | apply keeps_ite | apply keeps_next

theorem State.zoneRuns_keeps {s0 : State} (h0 : Keeps q s0) :
    Keeps q (State.zoneRuns s0) := by
  unfold State.zoneRuns
  with_reducible repeat' first | assumption | apply keeps_ite | (fail_if_no_progress apply keeps_upd)

theorem State.criticalCheck_keeps {s0 : State} (h0 : Keeps q s0) :
    Keeps q (State.criticalCheck s0) := by
  unfold State.criticalCheck
  with_reducible repeat' first | assumption | apply State.each_keeps | apply State.setActive_keeps | apply State.thermalLimit_keeps | apply keeps_ite | (intro _ _ _)

theorem State.shutdownCheck_keeps {s0 : State} (h0 : Keeps q s0) :
    Keeps q (State.shutdownCheck s0) := by
  unfold State.shutdownCheck
  with_reducible repeat' first | assumption | apply State.each_keeps | apply State.setActive_keeps | apply State.setBit_keeps | apply State.raiseWith_keeps | apply State.flashShutdown_keeps | apply State.enterHalt_keeps | apply keeps_ite | (intro _ _ _)

theorem State.thermalHold_keeps {s0 : State} (h0 : Keeps q s0) :
    Keeps q (State.thermalHold s0) := by
  unfold State.thermalHold
  with_reducible repeat' first | assumption | apply State.chipReset_keeps | apply State.put_keeps | apply keeps_ite | (fail_if_no_progress apply keeps_upd)

theorem State.coolRun_keeps {s0 : State} {x1} (h0 : Keeps q s0) :
    Keeps q (State.coolRun s0 x1) := by
  unfold State.coolRun
  with_reducible repeat' first | assumption | apply keeps_ite | (fail_if_no_progress apply keeps_upd) | (intro _ _ _) | (intro _ _) | (refine keeps_snd (by assumption) ?_) | (refine keeps_fst (by assumption) ?_) | (refine keeps_out (by assumption) ?_) | split

theorem execTemperatureMeasurement_keeps {x0} {s1 : State} (h1 : Keeps q s1) :
    OutKeeps q (execTemperatureMeasurement x0 s1) := by
  unfold execTemperatureMeasurement
  with_reducible repeat' first | assumption | apply State.zoneRead_keeps | apply State.each_keeps | apply State.sensorRead_keeps | apply State.coolRun_keeps | apply State.put_keeps | apply State.zoneRuns_keeps | apply State.criticalCheck_keeps | apply State.shutdownCheck_keeps | apply State.thermalHold_keeps | apply keeps_ite | apply keeps_next | apply outKeeps_ite | (intro _ _ _)

theorem execThermalHoldRelease_keeps {s0 : State} (h0 : Keeps q s0) :
    OutKeeps q (execThermalHoldRelease s0) := by
  unfold execThermalHoldRelease
  with_reducible repeat' first | assumption | apply State.coolRun_keeps | apply keeps_ite | apply keeps_next | apply outKeeps_ite | (fail_if_no_progress apply keeps_upd)

/-! ### Machine/Power.lean -/

theorem State.powerReset_keeps {s0 : State} {x1} (h0 : Keeps q s0) :
    Keeps q (State.powerReset s0 x1) := by
  unfold State.powerReset
  with_reducible repeat' first | assumption | apply State.put_keeps | apply State.chipReset_keeps | apply keeps_ite

theorem State.supervisorReset_keeps {s0 : State} (h0 : Keeps q s0) :
    Keeps q (State.supervisorReset s0) := by
  unfold State.supervisorReset
  with_reducible repeat' first | assumption | apply State.chipReset_keeps | apply State.put_keeps | apply keeps_ite | (fail_if_no_progress apply keeps_upd)

theorem execSupplyFault_keeps {x0} {x1} {s2 : State} (h2 : Keeps q s2) :
    OutKeeps q (execSupplyFault x0 x1 s2) := by
  unfold execSupplyFault
  with_reducible repeat' first | assumption | apply State.supervisorReset_keeps | apply State.powerReset_keeps | apply State.put_keeps | apply keeps_ite | apply keeps_next | apply outKeeps_ite | (fail_if_no_progress apply keeps_upd)

theorem execClockFault_keeps {s0 : State} (h0 : Keeps q s0) :
    OutKeeps q (execClockFault s0) := by
  unfold execClockFault
  with_reducible repeat' first | assumption | apply State.powerReset_keeps | apply keeps_ite | apply keeps_next

theorem execPowerGood_keeps {x0} {s1 : State} (h1 : Keeps q s1) :
    OutKeeps q (execPowerGood x0 s1) := by
  unfold execPowerGood
  with_reducible repeat' first | assumption | apply State.each_keeps | apply State.put_keeps | apply keeps_ite | apply keeps_next | apply outKeeps_ite | (fail_if_no_progress apply keeps_upd) | (intro _ _ _)

theorem execNrstQualified_keeps {s0 : State} (h0 : Keeps q s0) :
    OutKeeps q (execNrstQualified s0) := by
  unfold execNrstQualified
  with_reducible repeat' first | assumption | apply State.chipReset_keeps | apply State.put_keeps | apply keeps_ite | apply keeps_next | apply outKeeps_ite | (fail_if_no_progress apply keeps_upd)

theorem execNrstRelease_keeps {s0 : State} (h0 : Keeps q s0) :
    OutKeeps q (execNrstRelease s0) := by
  unfold execNrstRelease
  with_reducible repeat' first | assumption | apply State.put_keeps | apply keeps_ite | apply keeps_next | apply outKeeps_ite | (fail_if_no_progress apply keeps_upd)

theorem execNrstFailedClosed_keeps {s0 : State} (h0 : Keeps q s0) :
    OutKeeps q (execNrstFailedClosed s0) := by
  unfold execNrstFailedClosed
  with_reducible repeat' first | assumption | apply State.put_keeps | apply State.setBit_keeps | apply keeps_ite | apply keeps_next | apply outKeeps_ite | (fail_if_no_progress apply keeps_upd)

theorem execNrstIgnoreEnd_keeps {s0 : State} (h0 : Keeps q s0) :
    OutKeeps q (execNrstIgnoreEnd s0) := by
  unfold execNrstIgnoreEnd
  with_reducible repeat' first | assumption | apply State.put_keeps | apply keeps_ite | apply keeps_next | apply outKeeps_ite | (fail_if_no_progress apply keeps_upd)

theorem State.enterSafe_keeps {s0 : State} (h0 : Keeps q s0) :
    Keeps q (State.enterSafe s0) := by
  unfold State.enterSafe
  with_reducible repeat' first | assumption | apply State.put_keeps | apply State.safetyStateEdge_keeps | apply State.safetyGroups_keeps

theorem State.enterReady_keeps {s0 : State} (h0 : Keeps q s0) :
    Keeps q (State.enterReady s0) := by
  unfold State.enterReady
  with_reducible repeat' first | assumption | apply State.put_keeps | apply State.safetyStateEdge_keeps | apply State.safetyGroups_keeps | apply keeps_ite | (fail_if_no_progress apply keeps_upd)

theorem execDeviceReady_keeps {s0 : State} (h0 : Keeps q s0) :
    OutKeeps q (execDeviceReady s0) := by
  unfold execDeviceReady
  with_reducible repeat' first | assumption | apply State.enterReady_keeps | apply State.done_keeps | apply State.reply_keeps | apply keeps_ite | apply keeps_next

theorem execDeviceRun_keeps {s0 : State} (h0 : Keeps q s0) :
    OutKeeps q (execDeviceRun s0) := by
  unfold execDeviceRun
  with_reducible repeat' first | assumption | apply State.put_keeps | apply State.done_keeps | apply State.reply_keeps | apply keeps_ite | apply keeps_next

theorem execDeviceHalt_keeps {s0 : State} (h0 : Keeps q s0) :
    OutKeeps q (execDeviceHalt s0) := by
  unfold execDeviceHalt
  with_reducible repeat' first | assumption | apply State.enterHalt_keeps | apply State.done_keeps | apply State.reply_keeps | apply keeps_ite | apply keeps_next

theorem execDeviceSafe_keeps {s0 : State} (h0 : Keeps q s0) :
    OutKeeps q (execDeviceSafe s0) := by
  unfold execDeviceSafe
  with_reducible repeat' first | assumption | apply State.reply_keeps | apply State.enterSafe_keeps | apply State.done_keeps | apply keeps_ite | apply keeps_next

theorem execDeviceReset_keeps {s0 : State} (h0 : Keeps q s0) :
    OutKeeps q (execDeviceReset s0) := by
  unfold execDeviceReset
  with_reducible repeat' first | assumption | apply State.done_keeps | apply State.chipReset_keeps | apply keeps_ite | apply keeps_next

/-! ### Machine/Update.lean -/

theorem State.updateChecks_keeps {s0 : State} {x1} {x2} (h0 : Keeps q s0) :
    Keeps q (State.updateChecks s0 x1 x2) := by
  unfold State.updateChecks
  with_reducible repeat' first | assumption | apply State.updateReject_keeps | apply State.updateVerified_keeps | apply keeps_ite

theorem execUpdateData_keeps {x0} {x1} {s2 : State} (h2 : Keeps q s2) :
    OutKeeps q (execUpdateData x0 x1 s2) := by
  unfold execUpdateData
  with_reducible repeat' first | assumption | apply State.reply_keeps | apply State.store_keeps | apply State.put_keeps | apply State.updateChecks_keeps | apply State.flashStart_keeps | apply State.done_keeps | apply keeps_ite | apply keeps_next | apply outKeeps_ite | (fail_if_no_progress apply keeps_upd)

theorem execUpdateBegin_keeps {s0 : State} (h0 : Keeps q s0) :
    OutKeeps q (execUpdateBegin s0) := by
  unfold execUpdateBegin
  with_reducible repeat' first | assumption | apply State.put_keeps | apply State.done_keeps | apply State.reply_keeps | apply keeps_ite | apply keeps_next | apply outKeeps_ite | (fail_if_no_progress apply keeps_upd)

theorem execBankErased_keeps {s0 : State} (h0 : Keeps q s0) :
    OutKeeps q (execBankErased s0) := by
  unfold execBankErased
  with_reducible repeat' first | assumption | apply State.put_keeps | apply keeps_ite | apply keeps_next | apply outKeeps_ite | apply keeps_filterMem

theorem execUpdateAbort_keeps {s0 : State} (h0 : Keeps q s0) :
    OutKeeps q (execUpdateAbort s0) := by
  unfold execUpdateAbort
  with_reducible repeat' first | assumption | apply State.put_keeps | apply State.done_keeps | apply State.reply_keeps | apply keeps_ite | apply keeps_next | apply outKeeps_ite | (fail_if_no_progress apply keeps_upd)

theorem execUpdateActivate_keeps {x0} {s1 : State} (h1 : Keeps q s1) :
    OutKeeps q (execUpdateActivate x0 s1) := by
  unfold execUpdateActivate
  with_reducible repeat' first | assumption | apply State.reply_keeps | apply State.done_keeps | apply State.select_keeps | apply State.chipReset_keeps | apply keeps_ite | apply keeps_next | apply outKeeps_ite | (fail_if_no_progress apply keeps_upd)

theorem execUpdateConfirm_keeps {s0 : State} (h0 : Keeps q s0) :
    OutKeeps q (execUpdateConfirm s0) := by
  unfold execUpdateConfirm
  with_reducible repeat' first | assumption | apply State.reply_keeps | apply State.select_keeps | apply State.put_keeps | apply State.nvSmall_keeps | apply State.done_keeps | apply keeps_ite | apply keeps_next | apply outKeeps_ite | (fail_if_no_progress apply keeps_upd)

theorem execUpdateRevert_keeps {s0 : State} (h0 : Keeps q s0) :
    OutKeeps q (execUpdateRevert s0) := by
  unfold execUpdateRevert
  with_reducible repeat' first | assumption | apply State.reply_keeps | apply State.put_keeps | apply State.done_keeps | apply keeps_ite | apply keeps_next | apply outKeeps_ite | (fail_if_no_progress apply keeps_upd)

end Sys2Proof.Machine
end

