-- ==== Sys2Proof/Laws/KeepsNetwork.lean ====
section
/-! SUPPORT. The operations and meanings of Machine/Snapshot.lean, Trellis.lean, Plant.lean, Sticky.lean, Access.lean, Sessions.lean keep the
canonical form and the queue. -/

namespace Sys2Proof.Machine

variable {q : List Instr}

/-! ### Machine/Snapshot.lean -/

theorem State.setSnapPending_keeps {s0 : State} {x1} (h0 : Keeps q s0) :
    Keeps q (State.setSnapPending s0 x1) := by
  unfold State.setSnapPending
  with_reducible repeat' first | assumption | apply State.put_keeps | apply keeps_ite | (fail_if_no_progress apply keeps_upd)

theorem State.schedule_keeps {s0 : State} {x1} (h0 : Keeps q s0) :
    Keeps q (State.schedule s0 x1) := by
  unfold State.schedule
  with_reducible repeat' first | assumption | apply State.setSnapPending_keeps | apply keeps_ite

theorem execSnapshotScheduleTime_keeps {x0} {s1 : State} (h1 : Keeps q s1) :
    OutKeeps q (execSnapshotScheduleTime x0 s1) := by
  unfold execSnapshotScheduleTime
  with_reducible repeat' first | assumption | apply State.reply_keeps | apply State.schedule_keeps | apply State.done_keeps | apply keeps_ite | apply keeps_next

theorem State.scheduleFrame_keeps {s0 : State} {x1} (h0 : Keeps q s0) :
    Keeps q (State.scheduleFrame s0 x1) := by
  unfold State.scheduleFrame
  with_reducible repeat' first | assumption | apply State.inputCount_keeps | apply State.schedule_keeps | apply keeps_ite

theorem execSnapshotScheduleFrame_keeps {x0} {s1 : State} (h1 : Keeps q s1) :
    OutKeeps q (execSnapshotScheduleFrame x0 s1) := by
  unfold execSnapshotScheduleFrame
  with_reducible repeat' first | assumption | apply State.scheduleFrame_keeps | apply keeps_ite | apply keeps_next

theorem State.takeSnap_keeps {s0 : State} {x1} {x2} (h0 : Keeps q s0) :
    Keeps q (State.takeSnap s0 x1 x2) := by
  unfold State.takeSnap
  with_reducible repeat' first | assumption | apply State.count_keeps | apply keeps_ite | apply keeps_foldl | (fail_if_no_progress apply keeps_upd)

theorem execSnapshotTake_keeps {s0 : State} (h0 : Keeps q s0) :
    OutKeeps q (execSnapshotTake s0) := by
  unfold execSnapshotTake
  with_reducible repeat' first | assumption | apply State.takeSnap_keeps | apply State.setSnapPending_keeps | apply keeps_ite | apply keeps_next | apply outKeeps_ite | (fail_if_no_progress apply keeps_upd) | (intro _ _ _) | (intro _ _) | (refine keeps_snd (by assumption) ?_) | (refine keeps_fst (by assumption) ?_) | (refine keeps_out (by assumption) ?_) | split

theorem execSnapshotComplete_keeps {s0 : State} (h0 : Keeps q s0) :
    OutKeeps q (execSnapshotComplete s0) := by
  unfold execSnapshotComplete
  with_reducible repeat' first | assumption | apply State.put_keeps | apply State.each_keeps | apply State.raise_keeps | apply keeps_ite | apply keeps_next | apply outKeeps_ite | (fail_if_no_progress apply keeps_upd) | (intro _ _ _) | (intro _ _) | (refine keeps_snd (by assumption) ?_) | (refine keeps_fst (by assumption) ?_) | (refine keeps_out (by assumption) ?_) | split

/-! ### Machine/Trellis.lean -/

theorem State.setRate_keeps {s0 : State} {x1} (h0 : Keeps q s0) :
    Keeps q (State.setRate s0 x1) := by
  unfold State.setRate
  with_reducible repeat' first | assumption | apply State.put_keeps

theorem State.slew_keeps {s0 : State} (h0 : Keeps q s0) :
    Keeps q (State.slew s0) := by
  unfold State.slew
  with_reducible repeat' first | assumption | apply State.fresh_keeps | apply State.setRate_keeps | apply State.setBitIf_keeps | apply keeps_ite

theorem State.trellisTo_keeps {s0 : State} {x1} (h0 : Keeps q s0) :
    Keeps q (State.trellisTo s0 x1) := by
  unfold State.trellisTo
  with_reducible repeat' first | assumption | apply State.put_keeps | apply State.setBitIf_keeps | apply State.setActive_keeps | apply keeps_ite | (fail_if_no_progress apply keeps_upd)

theorem State.bmca_keeps {s0 : State} {x1} (h0 : Keeps q s0) :
    Keeps q (State.bmca s0 x1) := by
  unfold State.bmca
  with_reducible repeat' first | assumption | apply State.each_keeps | apply State.put_keeps | apply keeps_ite | (fail_if_no_progress apply keeps_upd) | (intro _ _ _) | (intro _ _) | (refine keeps_snd (by assumption) ?_) | (refine keeps_fst (by assumption) ?_) | (refine keeps_out (by assumption) ?_) | split | dsimp only

theorem State.timeOffset_keeps {s0 : State} {x1} (h0 : Keeps q s0) :
    Keeps q (State.timeOffset s0 x1).1 := by
  unfold State.timeOffset
  with_reducible repeat' first | assumption | apply State.bmca_keeps | apply State.put_keeps | apply keeps_ite | (fail_if_no_progress apply keeps_upd) | (refine keeps_snd (by assumption) ?_) | (refine keeps_fst (by assumption) ?_) | (refine keeps_out (by assumption) ?_) | split

theorem State.trellisMeasured_keeps {s0 : State} {x1} {x2} (h0 : Keeps q s0) :
    Keeps q (State.trellisMeasured s0 x1 x2) := by
  unfold State.trellisMeasured
  with_reducible repeat' first | assumption | apply State.trellisTo_keeps | apply keeps_ite | (fail_if_no_progress apply keeps_upd)

theorem State.tolerance_keeps {s0 : State} {x1} (h0 : Keeps q s0) :
    Keeps q (State.tolerance s0 x1) := by
  unfold State.tolerance
  with_reducible repeat' first | assumption | apply State.put_keeps | apply State.setBit_keeps | apply State.raiseLasting_keeps | apply State.setActive_keeps | apply keeps_ite

theorem State.askStep_keeps {s0 : State} {x1} {x2} (h0 : Keeps q s0) :
    Keeps q (State.askStep s0 x1 x2) := by
  unfold State.askStep
  with_reducible repeat' first | assumption | apply keeps_ite | (fail_if_no_progress apply keeps_upd)

theorem State.measured_keeps {s0 : State} {x1} {x2} {x3} (h0 : Keeps q s0) :
    Keeps q (State.measured s0 x1 x2 x3) := by
  unfold State.measured
  with_reducible repeat' first | assumption | apply State.put_keeps | apply State.trellisMeasured_keeps | apply State.tolerance_keeps | apply State.askStep_keeps | apply State.slew_keeps | apply keeps_ite

theorem execTrellisMeasurement_keeps {x0} {x1} {x2} {s3 : State} (h3 : Keeps q s3) :
    OutKeeps q (execTrellisMeasurement x0 x1 x2 s3) := by
  unfold execTrellisMeasurement
  with_reducible repeat' first | assumption | apply State.timeOffset_keeps | apply State.measured_keeps | apply keeps_ite | apply keeps_next | apply outKeeps_ite | (fail_if_no_progress apply keeps_upd) | (refine keeps_snd (by assumption) ?_) | (refine keeps_fst (by assumption) ?_) | (refine keeps_out (by assumption) ?_) | split

theorem execTrellisSetTime_keeps {x0} {s1 : State} (h1 : Keeps q s1) :
    OutKeeps q (execTrellisSetTime x0 s1) := by
  unfold execTrellisSetTime
  with_reducible repeat' first | assumption | apply State.askStep_keeps | apply State.reply_keeps | apply keeps_ite | apply keeps_next

theorem State.cancelCommits_keeps {s0 : State} (h0 : Keeps q s0) :
    Keeps q (State.cancelCommits s0) := by
  unfold State.cancelCommits
  with_reducible repeat' first | assumption | apply State.count_keeps | apply State.put_keeps | apply keeps_ite | (fail_if_no_progress apply keeps_upd)

theorem State.passSnapshots_keeps {s0 : State} {x1} (h0 : Keeps q s0) :
    Keeps q (State.passSnapshots s0 x1) := by
  unfold State.passSnapshots
  with_reducible repeat' first | assumption | apply State.setSnapPending_keeps | apply State.count_keeps | apply keeps_ite | (fail_if_no_progress apply keeps_upd) | (intro _ _ _) | (intro _ _) | (refine keeps_snd (by assumption) ?_) | (refine keeps_fst (by assumption) ?_) | (refine keeps_out (by assumption) ?_) | split | dsimp only

theorem State.makeStep_keeps {s0 : State} {x1} (h0 : Keeps q s0) :
    Keeps q (State.makeStep s0 x1) := by
  unfold State.makeStep
  with_reducible repeat' first | assumption | apply State.put_keeps | apply State.cancelCommits_keeps | apply State.passSnapshots_keeps | apply State.acqStop_keeps | apply State.setBit_keeps

theorem State.makeSteps_keeps {s0 : State} {x1} {x2 : List (Bool × Int)} (h0 : Keeps q s0) :
    Keeps q (State.makeSteps s0 x1 x2) := by
  induction x2 generalizing s0 x1 with
  | nil => exact h0
  | cons p l ih =>
    unfold State.makeSteps
    with_reducible repeat' first | assumption | apply ih | apply State.makeStep_keeps | apply State.answerLate_keeps | apply keeps_ite

theorem execTimeStep_keeps {s0 : State} (h0 : Keeps q s0) :
    OutKeeps q (execTimeStep s0) := by
  unfold execTimeStep
  with_reducible repeat' first | assumption | apply State.makeSteps_keeps | apply keeps_ite | apply keeps_next | apply outKeeps_ite | (fail_if_no_progress apply keeps_upd)

theorem execHoldoverEntry_keeps {s0 : State} (h0 : Keeps q s0) :
    OutKeeps q (execHoldoverEntry s0) := by
  unfold execHoldoverEntry
  with_reducible repeat' first | assumption | apply State.trellisTo_keeps | apply State.setBit_keeps | apply keeps_ite | apply keeps_next

theorem execHoldoverLimitExpiry_keeps {s0 : State} (h0 : Keeps q s0) :
    OutKeeps q (execHoldoverLimitExpiry s0) := by
  unfold execHoldoverLimitExpiry
  with_reducible repeat' first | assumption | apply State.setBit_keeps | apply State.raiseOnce_keeps | apply keeps_ite | apply keeps_next

theorem execPpsInEdge_keeps {x0} {x1} {s2 : State} (h2 : Keeps q s2) :
    OutKeeps q (execPpsInEdge x0 x1 s2) := by
  unfold execPpsInEdge
  with_reducible repeat' first | assumption | apply State.setBit_keeps | apply State.put_keeps | apply keeps_ite | apply keeps_next

theorem execPpsOutPulse_keeps {x0} {s1 : State} (h1 : Keeps q s1) :
    OutKeeps q (execPpsOutPulse x0 s1) := by
  unfold execPpsOutPulse
  with_reducible repeat' first | assumption | apply State.send_keeps | apply keeps_ite | apply keeps_next | apply outKeeps_ite | (fail_if_no_progress apply keeps_upd) | (refine keeps_snd (by assumption) ?_) | (refine keeps_fst (by assumption) ?_) | (refine keeps_out (by assumption) ?_) | split

theorem State.setTsQueue_keeps {s0 : State} {x1} {x2} (h0 : Keeps q s0) :
    Keeps q (State.setTsQueue s0 x1 x2) := by
  unfold State.setTsQueue
  with_reducible repeat' first | assumption | apply State.put_keeps | apply keeps_ite | (fail_if_no_progress apply keeps_upd)

theorem execTsFrameSent_keeps {x0} {x1} {s2 : State} (h2 : Keeps q s2) :
    OutKeeps q (execTsFrameSent x0 x1 s2) := by
  unfold execTsFrameSent
  with_reducible repeat' first | assumption | apply State.count_keeps | apply State.setTsQueue_keeps | apply State.setBit_keeps | apply keeps_ite | apply keeps_next

theorem execTsQueueEntryRead_keeps {x0} {s1 : State} (h1 : Keeps q s1) :
    OutKeeps q (execTsQueueEntryRead x0 s1) := by
  unfold execTsQueueEntryRead
  with_reducible repeat' first | assumption | apply State.reply_keeps | apply State.answer_keeps | apply State.setTsQueue_keeps | apply State.count_keeps | apply keeps_ite | apply keeps_next | apply outKeeps_ite | (fail_if_no_progress apply keeps_upd) | (refine keeps_snd (by assumption) ?_) | (refine keeps_fst (by assumption) ?_) | (refine keeps_out (by assumption) ?_) | split

theorem State.idle_keeps {s0 : State} (h0 : Keeps q s0) :
    Keeps q (State.idle s0) := by
  unfold State.idle
  with_reducible repeat' first | assumption | apply State.count_keeps

/-! ### Machine/Plant.lean -/

theorem execAnnounceSend_keeps {s0 : State} (h0 : Keeps q s0) :
    OutKeeps q (execAnnounceSend s0) := by
  unfold execAnnounceSend
  with_reducible repeat' first | assumption | apply State.sendFrame_keeps | apply keeps_ite | apply keeps_next

theorem State.setPartners_keeps {s0 : State} {x1} (h0 : Keeps q s0) :
    Keeps q (State.setPartners s0 x1) := by
  unfold State.setPartners
  with_reducible repeat' first | assumption | apply State.put_keeps | apply State.store_keeps | apply keeps_ite | (fail_if_no_progress apply keeps_upd)

theorem execAnnounceReceive_keeps {x0} {x1} {x2} {s3 : State} (h3 : Keeps q s3) :
    OutKeeps q (execAnnounceReceive x0 x1 x2 s3) := by
  unfold execAnnounceReceive
  with_reducible repeat' first | assumption | apply State.setBit_keeps | apply State.raiseOnce_keeps | apply State.setPartners_keeps | apply State.setBitIf_keeps | apply keeps_ite | apply keeps_next | apply outKeeps_ite | (fail_if_no_progress apply keeps_upd)

theorem execPartnerLost_keeps {x0} {x1} {s2 : State} (h2 : Keeps q s2) :
    OutKeeps q (execPartnerLost x0 x1 s2) := by
  unfold execPartnerLost
  with_reducible repeat' first | assumption | apply State.setPartners_keeps | apply State.setBit_keeps | apply keeps_ite | apply keeps_next

theorem execGateListSwitch_keeps {x0} {s1 : State} (h1 : Keeps q s1) :
    OutKeeps q (execGateListSwitch x0 s1) := by
  unfold execGateListSwitch
  with_reducible repeat' first | assumption | apply keeps_ite | apply keeps_next | apply outKeeps_ite | (fail_if_no_progress apply keeps_upd) | (refine keeps_snd (by assumption) ?_) | (refine keeps_fst (by assumption) ?_) | (refine keeps_out (by assumption) ?_) | split

theorem execRingPathLost_keeps {x0} {s1 : State} (h1 : Keeps q s1) :
    OutKeeps q (execRingPathLost x0 s1) := by
  unfold execRingPathLost
  with_reducible repeat' first | assumption | apply State.setBit_keeps | apply State.raiseOnce_keeps | apply keeps_ite | apply keeps_next

theorem State.ringAgain_keeps {s0 : State} {x1} (h0 : Keeps q s0) :
    Keeps q (State.ringAgain s0 x1) := by
  unfold State.ringAgain
  with_reducible repeat' first | assumption | apply State.setActive_keeps | apply keeps_ite

theorem execFrerResetTimeExpiry_keeps {x0} {s1 : State} (h1 : Keeps q s1) :
    OutKeeps q (execFrerResetTimeExpiry x0 s1) := by
  unfold execFrerResetTimeExpiry
  with_reducible repeat' first | assumption | apply keeps_ite | apply keeps_next | apply outKeeps_ite | (fail_if_no_progress apply keeps_upd)

theorem State.frer_keeps {s0 : State} {x1} {x2} (h0 : Keeps q s0) :
    Keeps q (State.frer s0 x1 x2).1 := by
  unfold State.frer
  with_reducible repeat' first | assumption | apply State.count_keeps | apply keeps_ite | (fail_if_no_progress apply keeps_upd) | (intro _ _ _) | (intro _ _) | (refine keeps_snd (by assumption) ?_) | (refine keeps_fst (by assumption) ?_) | (refine keeps_out (by assumption) ?_) | split | dsimp only

theorem State.sampleTake_keeps {s0 : State} {x1} {x2} {x3} (h0 : Keeps q s0) :
    Keeps q (State.sampleTake s0 x1 x2 x3) := by
  unfold State.sampleTake
  with_reducible repeat' first | assumption | apply State.inputCount_keeps | apply State.each_keeps | apply State.masterSample_keeps | apply keeps_ite | (fail_if_no_progress apply keeps_upd) | (intro _ _ _)

theorem execMasterSampleReceive_keeps {x0} {x1} {x2} {s3 : State} (h3 : Keeps q s3) :
    OutKeeps q (execMasterSampleReceive x0 x1 x2 s3) := by
  unfold execMasterSampleReceive
  with_reducible repeat' first | assumption | apply State.sampleTake_keeps | apply keeps_ite | apply keeps_next

theorem State.sendMaster_keeps {s0 : State} {x1} {x2} {x3} {x4} (h0 : Keeps q s0) :
    Keeps q (State.sendMaster s0 x1 x2 x3 x4) := by
  unfold State.sendMaster
  with_reducible repeat' first | assumption | apply State.sendFrame_keeps | apply State.exPost_keeps | apply keeps_ite

theorem execMasterPublish_keeps {s0 : State} (h0 : Keeps q s0) :
    OutKeeps q (execMasterPublish s0) := by
  unfold execMasterPublish
  with_reducible repeat' first | assumption | apply State.each_keeps | apply State.sendMaster_keeps | apply keeps_ite | apply keeps_next | apply outKeeps_ite | (intro _ _ _)

theorem State.plantStatus_keeps {s0 : State} {x1} {x2} {x3} (h0 : Keeps q s0) :
    Keeps q (State.plantStatus s0 x1 x2 x3) := by
  unfold State.plantStatus
  with_reducible repeat' first | assumption | apply State.each_keeps | apply State.netStatus_keeps | apply State.netEdge_keeps | apply keeps_ite | (intro _ _ _)

theorem State.statusFrame_keeps {s0 : State} {x1} (h0 : Keeps q s0) :
    Keeps q (State.statusFrame s0 x1) := by
  unfold State.statusFrame
  with_reducible repeat' first | assumption | apply State.plantStatus_keeps | apply State.inputCount_keeps | apply State.setBit_keeps | apply keeps_ite | apply keeps_foldl | (intro _ _ _)

theorem State.plantRequest_keeps {s0 : State} {x1} {x2} (h0 : Keeps q s0) :
    Keeps q (State.plantRequest s0 x1 x2) := by
  unfold State.plantRequest
  with_reducible repeat' first | assumption | apply State.sendFrame_keeps | apply keeps_ite | (fail_if_no_progress apply keeps_upd)

theorem State.plantRequests_keeps {s0 : State} {x1} (h0 : Keeps q s0) :
    Keeps q (State.plantRequests s0 x1) := by
  unfold State.plantRequests
  with_reducible repeat' first | assumption | apply State.count_keeps | apply State.plantRequest_keeps | apply State.inputCount_keeps | apply keeps_ite | apply keeps_foldl | (intro _ _ _)

theorem State.frameTake_keeps {s0 : State} {x1} (h0 : Keeps q s0) :
    Keeps q (State.frameTake s0 x1) := by
  unfold State.frameTake
  with_reducible repeat' first | assumption | apply State.count_keeps | apply State.inputCount_keeps | apply State.scheduleFrame_keeps | apply State.sampleTake_keeps | apply State.statusFrame_keeps | apply State.plantRequests_keeps | apply State.trigRecord_keeps | apply keeps_ite | apply keeps_foldl | (intro _ _ _)

theorem State.relay_keeps {s0 : State} {x1} (h0 : Keeps q s0) :
    Keeps q (State.relay s0 x1) := by
  unfold State.relay
  with_reducible repeat' first | assumption | apply State.idle_keeps | apply State.send_keeps

theorem execPlantFrameReceive_keeps {x0} {s1 : State} (h1 : Keeps q s1) :
    OutKeeps q (execPlantFrameReceive x0 s1) := by
  unfold execPlantFrameReceive
  with_reducible repeat' first | assumption | apply State.ringAgain_keeps | apply State.frer_keeps | apply State.inputCount_keeps | apply State.relay_keeps | apply State.setBit_keeps | apply State.frameTake_keeps | apply keeps_ite | apply keeps_next | apply outKeeps_ite | (fail_if_no_progress apply keeps_upd) | (refine keeps_snd (by assumption) ?_) | (refine keeps_fst (by assumption) ?_) | (refine keeps_out (by assumption) ?_) | split

/-! ### Machine/Sticky.lean -/

theorem State.stickyAfter_keeps {s0 : State} {x1} (h0 : Keeps q s0) :
    Keeps q (State.stickyAfter s0 x1) := by
  unfold State.stickyAfter
  with_reducible repeat' first | assumption | apply State.tripCleared_keeps | apply State.put_keeps | apply State.nerrUpdate_keeps | apply keeps_ite

theorem State.clearSticky_keeps {s0 : State} {x1} {x2} {x3} (h0 : Keeps q s0) :
    Keeps q (State.clearSticky s0 x1 x2 x3) := by
  unfold State.clearSticky
  with_reducible repeat' first | assumption | apply State.put_keeps | apply State.stickyAfter_keeps | apply State.done_keeps | apply State.count_keeps | apply State.reply_keeps | apply keeps_ite

/-! ### Machine/Access.lean -/

theorem State.setSession_keeps {s0 : State} {x1} (h0 : Keeps q s0) :
    Keeps q (State.setSession s0 x1) := by
  unfold State.setSession
  with_reducible repeat' first | assumption | apply keeps_ite | (fail_if_no_progress apply keeps_upd)

theorem State.latchRead_keeps {s0 : State} {x1} {x2} (h0 : Keeps q s0) :
    Keeps q (State.latchRead s0 x1 x2) := by
  unfold State.latchRead
  with_reducible repeat' first | assumption | apply State.setFb_keeps | apply keeps_ite

theorem State.snapRead_keeps {s0 : State} {x1} {x2} (h0 : Keeps q s0) :
    Keeps q (State.snapRead s0 x1 x2) := by
  unfold State.snapRead
  with_reducible repeat' first | assumption | apply State.reply_keeps | apply keeps_ite | (fail_if_no_progress apply keeps_upd) | (refine keeps_snd (by assumption) ?_) | (refine keeps_fst (by assumption) ?_) | (refine keeps_out (by assumption) ?_) | split

theorem State.readRow_keeps {s0 : State} {x1} {x2} {x3} {x4} {x5} {x6} (h0 : Keeps q s0) :
    Keeps q (State.readRow s0 x1 x2 x3 x4 x5 x6) := by
  unfold State.readRow
  with_reducible repeat' first | assumption | apply State.reply_keeps | apply State.answer_keeps | apply State.snapRead_keeps | apply State.latchRead_keeps | apply execTsQueueEntryRead_keeps | apply keeps_ite | (fail_if_no_progress apply keeps_upd) | (refine keeps_snd (by assumption) ?_) | (refine keeps_fst (by assumption) ?_) | (refine keeps_out (by assumption) ?_) | split

theorem State.viewReply_keeps {s0 : State} {x1} {x2} {x3} {x4} {x5} (h0 : Keeps q s0) :
    Keeps q (State.viewReply s0 x1 x2 x3 x4 x5) := by
  unfold State.viewReply
  with_reducible repeat' first | assumption | apply State.reply_keeps | apply State.answer_keeps | apply keeps_ite | (fail_if_no_progress apply keeps_upd) | (refine keeps_snd (by assumption) ?_) | (refine keeps_fst (by assumption) ?_) | (refine keeps_out (by assumption) ?_) | split

theorem State.readObject_keeps {s0 : State} {x1} {x2} {x3} {x4} {x5} (h0 : Keeps q s0) :
    Keeps q (State.readObject s0 x1 x2 x3 x4 x5) := by
  unfold State.readObject
  with_reducible repeat' first | assumption | apply State.reply_keeps | apply State.viewReply_keeps | apply State.readRow_keeps | apply State.answer_keeps | apply keeps_ite | (fail_if_no_progress apply keeps_upd) | (refine keeps_snd (by assumption) ?_) | (refine keeps_fst (by assumption) ?_) | (refine keeps_out (by assumption) ?_) | split

/-! ### Machine/Sessions.lean -/

theorem execStickyClear_keeps {x0} {x1} {x2} {x3} {x4} {s5 : State} (h5 : Keeps q s5) :
    OutKeeps q (execStickyClear x0 x1 x2 x3 x4 s5) := by
  unfold execStickyClear
  with_reducible repeat' first | assumption | apply State.reply_keeps | apply State.clearSticky_keeps | apply keeps_ite | apply keeps_next | apply outKeeps_ite | (fail_if_no_progress apply keeps_upd) | (refine keeps_snd (by assumption) ?_) | (refine keeps_fst (by assumption) ?_) | (refine keeps_out (by assumption) ?_) | split

theorem execOpenSession_keeps {s0 : State} (h0 : Keeps q s0) :
    OutKeeps q (execOpenSession s0) := by
  unfold execOpenSession
  with_reducible repeat' first | assumption | apply State.reply_keeps | apply State.answer_keeps | apply State.complete_keeps | apply keeps_ite | apply keeps_next | apply outKeeps_ite | (fail_if_no_progress apply keeps_upd) | (intro _ _ _) | (intro _ _) | (refine keeps_snd (by assumption) ?_) | (refine keeps_fst (by assumption) ?_) | (refine keeps_out (by assumption) ?_) | split

theorem State.endSession_keeps {s0 : State} {x1} (h0 : Keeps q s0) :
    Keeps q (State.endSession s0 x1) := by
  unfold State.endSession
  with_reducible repeat' first | assumption | apply keeps_ite | (fail_if_no_progress apply keeps_upd)

theorem execCloseSession_keeps {x0} {s1 : State} (h1 : Keeps q s1) :
    OutKeeps q (execCloseSession x0 s1) := by
  unfold execCloseSession
  with_reducible repeat' first | assumption | apply State.reply_keeps | apply State.endSession_keeps | apply State.done_keeps | apply State.complete_keeps | apply keeps_ite | apply keeps_next | apply outKeeps_ite | (fail_if_no_progress apply keeps_upd) | (intro _ _ _) | (intro _ _) | (refine keeps_snd (by assumption) ?_) | (refine keeps_fst (by assumption) ?_) | (refine keeps_out (by assumption) ?_) | split

theorem execSessionIdleTimeout_keeps {x0} {s1 : State} (h1 : Keeps q s1) :
    OutKeeps q (execSessionIdleTimeout x0 s1) := by
  unfold execSessionIdleTimeout
  with_reducible repeat' first | assumption | apply State.endSession_keeps | apply keeps_ite | apply keeps_next

theorem State.viewMotion_keeps {s0 : State} {x1} {x2} (h0 : Keeps q s0) :
    Keeps q (State.viewMotion s0 x1 x2) := by
  unfold State.viewMotion
  with_reducible repeat' first | assumption | apply State.done_keeps | apply after_keeps | apply execStop_keeps | apply execMoveRelative_keeps | apply execMoveAbsolute_keeps | apply execVelocityMove_keeps | apply execHome_keeps | apply keeps_ite

theorem State.controlword_keeps {s0 : State} {x1} {x2} (h0 : Keeps q s0) :
    Keeps q (State.controlword s0 x1 x2) := by
  unfold State.controlword
  with_reducible repeat' first | assumption | apply State.done_keeps | apply State.viewMotion_keeps | apply after_keeps | apply execFaultReset_keeps | apply execDisable_keeps | apply execQuickStop_keeps | apply execEnable_keeps | apply execCoilsOff_keeps | apply execPowerOn_keeps | apply execResume_keeps | apply keeps_ite

theorem execCia402Controlword_keeps {x0} {x1} {x2} {s3 : State} (h3 : Keeps q s3) :
    OutKeeps q (execCia402Controlword x0 x1 x2 s3) := by
  unfold execCia402Controlword
  with_reducible repeat' first | assumption | apply State.reply_keeps | apply State.controlword_keeps | apply keeps_ite | apply keeps_next

end Sys2Proof.Machine
end

