-- ==== Sys2Proof/Laws/KeepsCommands.lean ====
section
/-! SUPPORT. The operations and meanings of Machine/Effects.lean, Commit.lean, Direct.lean, HostQ.lean, Boot.lean, Tick.lean keep the
canonical form and the queue. -/

namespace Sys2Proof.Machine

variable {q : List Instr}

/-! ### Machine/Effects.lean -/

theorem State.limitWritten_keeps {s0 : State} {x1} {x2} (h0 : Keeps q s0) :
    Keeps q (State.limitWritten s0 x1 x2) := by
  unfold State.limitWritten
  with_reducible repeat' first | assumption | apply State.setAxis_keeps | apply State.replan_keeps | apply keeps_ite

theorem State.wrote_keeps {s0 : State} {x1} (h0 : Keeps q s0) :
    Keeps q (State.wrote s0 x1) := by
  unfold State.wrote
  with_reducible repeat' first | assumption | apply State.limitWritten_keeps | apply State.canModeWritten_keeps | apply keeps_ite | (fail_if_no_progress apply keeps_upd) | (refine keeps_snd (by assumption) ?_) | (refine keeps_fst (by assumption) ?_) | (refine keeps_out (by assumption) ?_) | split

theorem State.camWritten_keeps {s0 : State} {x1} {x2} {x3} (h0 : Keeps q s0) :
    Keeps q (State.camWritten s0 x1 x2 x3) := by
  unfold State.camWritten
  with_reducible repeat' first | assumption | apply State.setGraft_keeps | apply keeps_ite

theorem State.applyValue_keeps {s0 : State} {x1} (h0 : Keeps q s0) :
    Keeps q (State.applyValue s0 x1) := by
  unfold State.applyValue
  with_reducible repeat' first | assumption | apply State.store_keeps | apply State.camWritten_keeps | apply State.put_keeps | apply keeps_ite

theorem State.applyValues_keeps {s0 : State} {x1} (h0 : Keeps q s0) :
    Keeps q (State.applyValues s0 x1) := by
  unfold State.applyValues
  with_reducible repeat' first | assumption | apply State.applyValue_keeps | apply keeps_ite | apply keeps_foldl

theorem State.pendingConfig_keeps {s0 : State} (h0 : Keeps q s0) :
    Keeps q (State.pendingConfig s0) := by
  unfold State.pendingConfig
  with_reducible repeat' first | assumption | apply State.applyValues_keeps | apply keeps_ite | apply keeps_foldl | (intro _ _ _)

theorem State.deriveStage_keeps {s0 : State} {x1} (h0 : Keeps q s0) :
    Keeps q (State.deriveStage s0 x1) := by
  unfold State.deriveStage
  with_reducible repeat' first | assumption | apply State.put_keeps

theorem State.deriveCores_keeps {s0 : State} (h0 : Keeps q s0) :
    Keeps q (State.deriveCores s0) := by
  unfold State.deriveCores
  with_reducible repeat' first | assumption | apply State.each_keeps | apply State.put_keeps | apply keeps_ite | (intro _ _ _)

theorem State.deriveKernels_keeps {s0 : State} (h0 : Keeps q s0) :
    Keeps q (State.deriveKernels s0) := by
  unfold State.deriveKernels
  with_reducible repeat' first | assumption | apply State.each_keeps | apply State.put_keeps | apply keeps_ite | (intro _ _ _)

theorem State.deriveLoad_keeps {s0 : State} (h0 : Keeps q s0) :
    Keeps q (State.deriveLoad s0) := by
  unfold State.deriveLoad
  with_reducible repeat' first | assumption | apply State.put_keeps | apply State.each_keeps | apply keeps_ite | (intro _ _ _)

theorem State.deriveMotion_keeps {s0 : State} (h0 : Keeps q s0) :
    Keeps q (State.deriveMotion s0) := by
  unfold State.deriveMotion
  with_reducible repeat' first | assumption | apply State.each_keeps | apply State.put_keeps | apply keeps_ite | (fail_if_no_progress apply keeps_upd) | (intro _ _ _)

theorem State.deriveProducers_keeps {s0 : State} (h0 : Keeps q s0) :
    Keeps q (State.deriveProducers s0) := by
  unfold State.deriveProducers
  with_reducible repeat' first | assumption | apply State.put_keeps | apply keeps_ite | apply keeps_foldl | (intro _ _ _)

theorem State.derive_keeps {s0 : State} (h0 : Keeps q s0) :
    Keeps q (State.derive s0) := by
  unfold State.derive
  with_reducible repeat' first | assumption | apply State.deriveStage_keeps | apply State.each_keeps | apply State.put_keeps | apply State.deriveMotion_keeps | apply State.deriveCores_keeps | apply State.deriveKernels_keeps | apply State.deriveLoad_keeps | apply State.deriveProducers_keeps | apply keeps_ite | (intro _ _ _)

theorem State.restartSlots_keeps {s0 : State} {s1 : State} (h0 : Keeps q s0) (h1 : Keeps q s1) :
    Keeps q (State.restartSlots s0 s1) := by
  unfold State.restartSlots
  with_reducible repeat' first | assumption | apply State.put_keeps | apply keeps_ite | apply keeps_foldl | (fail_if_no_progress apply keeps_upd) | (intro _ _ _)

theorem State.keepStitches_keeps {s0 : State} {s1 : State} (h0 : Keeps q s0) (h1 : Keeps q s1) :
    Keeps q (State.keepStitches s0 s1) := by
  unfold State.keepStitches
  with_reducible repeat' first | assumption | apply State.put_keeps | apply keeps_ite | apply keeps_foldl | (fail_if_no_progress apply keeps_upd)

theorem State.installRecords_keeps {s0 : State} {s1 : State} (h0 : Keeps q s0) (h1 : Keeps q s1) :
    Keeps q (State.installRecords s0 s1) := by
  unfold State.installRecords
  with_reducible repeat' first | assumption | apply State.installRecord_keeps | apply keeps_ite | apply keeps_foldl | (fail_if_no_progress apply keeps_upd) | (intro _ _ _)

theorem State.renumber_keeps {s0 : State} {s1 : State} (h0 : Keeps q s0) (h1 : Keeps q s1) :
    Keeps q (State.renumber s0 s1) := by
  unfold State.renumber
  with_reducible repeat' first | assumption | apply State.put_keeps | apply keeps_ite | (fail_if_no_progress apply keeps_upd)

theorem State.rescale_keeps {s0 : State} {s1 : State} {x2} (h0 : Keeps q s0) (h1 : Keeps q s1) :
    Keeps q (State.rescale s0 s1 x2) := by
  unfold State.rescale
  with_reducible repeat' first | assumption | apply State.addI64_keeps | apply State.put_keeps | apply keeps_ite

theorem State.awaitMaster_keeps {s0 : State} {s1 : State} {x2} (h0 : Keeps q s0) (h1 : Keeps q s1) :
    Keeps q (State.awaitMaster s0 s1 x2) := by
  unfold State.awaitMaster
  with_reducible repeat' first | assumption | apply State.setActive_keeps | apply State.put_keeps | apply State.setGraft_keeps | apply keeps_ite

theorem State.newDimensions_keeps {s0 : State} {s1 : State} {x2} (h0 : Keeps q s0) (h1 : Keeps q s1) :
    Keeps q (State.newDimensions s0 s1 x2) := by
  unfold State.newDimensions
  with_reducible repeat' first | assumption | apply State.setSpan_keeps | apply keeps_ite

theorem State.bankWritten_keeps {s0 : State} {x1} (h0 : Keeps q s0) :
    Keeps q (State.bankWritten s0 x1) := by
  unfold State.bankWritten
  with_reducible repeat' first | assumption | apply State.setSpan_keeps | apply keeps_ite | (fail_if_no_progress apply keeps_upd) | (refine keeps_snd (by assumption) ?_) | (refine keeps_fst (by assumption) ?_) | (refine keeps_out (by assumption) ?_) | split

theorem State.newQueue_keeps {s0 : State} {s1 : State} {x2} (h0 : Keeps q s0) (h1 : Keeps q s1) :
    Keeps q (State.newQueue s0 s1 x2) := by
  unfold State.newQueue
  with_reducible repeat' first | assumption | apply State.count_keeps | apply State.put_keeps | apply State.setCq_keeps | apply keeps_ite | (fail_if_no_progress apply keeps_upd)

theorem State.newGates_keeps {s0 : State} {s1 : State} {x2} (h0 : Keeps q s0) (h1 : Keeps q s1) :
    Keeps q (State.newGates s0 s1 x2) := by
  unfold State.newGates
  with_reducible repeat' first | assumption | apply keeps_ite | (fail_if_no_progress apply keeps_upd)

theorem State.newChannel_keeps {s0 : State} {x1} {x2} (h0 : Keeps q s0) :
    Keeps q (State.newChannel s0 x1 x2) := by
  unfold State.newChannel
  with_reducible repeat' first | assumption | apply State.setFb_keeps | apply keeps_ite

theorem State.newSource_keeps {s0 : State} {s1 : State} {x2} (h0 : Keeps q s0) (h1 : Keeps q s1) :
    Keeps q (State.newSource s0 s1 x2) := by
  unfold State.newSource
  with_reducible repeat' first | assumption | apply State.setEmu_keeps | apply keeps_ite

theorem State.newRoles_keeps {s0 : State} {x1} (h0 : Keeps q s0) :
    Keeps q (State.newRoles s0 x1) := by
  unfold State.newRoles
  with_reducible repeat' first | assumption | apply State.canEnd_keeps | apply keeps_ite | apply keeps_foldl | (intro _ _ _)

theorem State.stageCommitted_keeps {s0 : State} {x1} {x2} (h0 : Keeps q s0) :
    Keeps q (State.stageCommitted s0 x1 x2) := by
  unfold State.stageCommitted
  with_reducible repeat' first | assumption | apply State.setPwm_keeps | apply keeps_ite

theorem State.newAddress_keeps {s0 : State} {s1 : State} (h0 : Keeps q s0) (h1 : Keeps q s1) :
    Keeps q (State.newAddress s0 s1) := by
  unfold State.newAddress
  with_reducible repeat' first | assumption | apply State.setActive_keeps | apply keeps_ite | (fail_if_no_progress apply keeps_upd)

theorem State.newTimeSource_keeps {s0 : State} {s1 : State} (h0 : Keeps q s0) (h1 : Keeps q s1) :
    Keeps q (State.newTimeSource s0 s1) := by
  unfold State.newTimeSource
  with_reducible repeat' first | assumption | apply State.trellisTo_keeps | apply keeps_ite

theorem State.newParams_keeps {s0 : State} {x1} (h0 : Keeps q s0) :
    Keeps q (State.newParams s0 x1) := by
  unfold State.newParams
  with_reducible repeat' first | assumption | apply State.nvSmall_keeps | apply State.putSource_keeps | apply State.safetyStateEdge_keeps | apply keeps_ite

theorem State.applyEvent_keeps {s0 : State} {x1} (h0 : Keeps q s0) :
    Keeps q (State.applyEvent s0 x1) := by
  unfold State.applyEvent
  with_reducible repeat' first | assumption | apply State.put_keeps | apply State.clearSticky_keeps | apply keeps_ite | (fail_if_no_progress apply keeps_upd)

theorem State.applySet_keeps {s0 : State} {x1} {x2} (h0 : Keeps q s0) :
    Keeps q (State.applySet s0 x1 x2) := by
  unfold State.applySet
  with_reducible repeat' first | assumption | apply State.bankWritten_keeps | apply State.newRoles_keeps | apply State.wrote_keeps | apply State.applyEvent_keeps | apply State.applyValues_keeps | apply State.renumber_keeps | apply State.derive_keeps | apply State.each_keeps | apply State.rescale_keeps | apply State.awaitMaster_keeps | apply State.newDimensions_keeps | apply State.put_keeps | apply State.keepStitches_keeps | apply State.restartSlots_keeps | apply State.installRecords_keeps | apply State.stageCommitted_keeps | apply State.newQueue_keeps | apply State.newGates_keeps | apply State.newChannel_keeps | apply State.newSource_keeps | apply State.newAddress_keeps | apply State.newTimeSource_keeps | apply State.newParams_keeps | apply State.acceptMap_keeps | apply keeps_ite | apply keeps_foldl | (fail_if_no_progress apply keeps_upd) | (intro _ _ _)

theorem State.applyDue_keeps {s0 : State} {x1} {x2 : Nat} (h0 : Keeps q s0) :
    Keeps q (State.applyDue s0 x1 x2) := by
  induction x2 generalizing s0 with
  | zero => exact h0
  | succ n ih =>
    unfold State.applyDue
    with_reducible repeat' first | assumption | apply ih | apply State.put_keeps | apply State.applySet_keeps | (fail_if_no_progress apply keeps_upd) | (intro _ _ _) | (intro _ _) | (refine keeps_snd (by assumption) ?_) | (refine keeps_fst (by assumption) ?_) | (refine keeps_out (by assumption) ?_) | split

/-! ### Machine/Commit.lean -/

theorem State.stagePut_keeps {s0 : State} {x1} {x2} (h0 : Keeps q s0) :
    Keeps q (State.stagePut s0 x1 x2) := by
  unfold State.stagePut
  with_reducible repeat' first | assumption | apply State.reply_keeps | apply State.setSession_keeps | apply State.put_keeps | apply State.done_keeps | apply keeps_ite

theorem State.stageObject_keeps {s0 : State} {x1} {x2} {x3} {x4} {x5} (h0 : Keeps q s0) :
    Keeps q (State.stageObject s0 x1 x2 x3 x4 x5) := by
  unfold State.stageObject
  with_reducible repeat' first | assumption | apply State.reply_keeps | apply State.done_keeps | apply State.stagePut_keeps | apply keeps_ite

theorem execStageRequest_keeps {x0} {x1} {x2} {x3} {x4} {s5 : State} (h5 : Keeps q s5) :
    OutKeeps q (execStageRequest x0 x1 x2 x3 x4 s5) := by
  unfold execStageRequest
  with_reducible repeat' first | assumption | apply State.stageObject_keeps | apply keeps_ite | apply keeps_next

theorem State.outcome_keeps {s0 : State} {x1} {x2} (h0 : Keeps q s0) :
    Keeps q (State.outcome s0 x1 x2) := by
  unfold State.outcome
  with_reducible repeat' first | assumption | apply State.setSession_keeps | apply State.reply_keeps

theorem State.reportFail_keeps {s0 : State} {x1} {x2} (h0 : Keeps q s0) :
    Keeps q (State.reportFail s0 x1 x2) := by
  unfold State.reportFail
  with_reducible repeat' first | assumption | apply State.put_keeps | apply keeps_ite | (fail_if_no_progress apply keeps_upd) | (intro _ _ _) | (intro _ _) | (refine keeps_snd (by assumption) ?_) | (refine keeps_fst (by assumption) ?_) | (refine keeps_out (by assumption) ?_) | split

theorem State.commitRefused_keeps {s0 : State} {x1} {x2} (h0 : Keeps q s0) :
    Keeps q (State.commitRefused s0 x1 x2) := by
  unfold State.commitRefused
  with_reducible repeat' first | assumption | apply State.reportFail_keeps | apply State.setSession_keeps | apply State.outcome_keeps

theorem State.commitAccepted_keeps {s0 : State} {x1} {x2} (h0 : Keeps q s0) :
    Keeps q (State.commitAccepted s0 x1 x2) := by
  unfold State.commitAccepted
  with_reducible repeat' first | assumption | apply State.count_keeps | apply State.put_keeps | apply State.setSession_keeps | apply State.outcome_keeps | apply keeps_ite | (fail_if_no_progress apply keeps_upd)

theorem execCommitCheckOnly_keeps {x0} {s1 : State} (h1 : Keeps q s1) :
    OutKeeps q (execCommitCheckOnly x0 s1) := by
  unfold execCommitCheckOnly
  with_reducible repeat' first | assumption | apply State.reply_keeps | apply State.outcome_keeps | apply State.commitRefused_keeps | apply State.setSession_keeps | apply keeps_ite | apply keeps_next | apply outKeeps_ite | (fail_if_no_progress apply keeps_upd) | (refine keeps_snd (by assumption) ?_) | (refine keeps_fst (by assumption) ?_) | (refine keeps_out (by assumption) ?_) | split

theorem execCommit_keeps {x0} {s1 : State} (h1 : Keeps q s1) :
    OutKeeps q (execCommit x0 s1) := by
  unfold execCommit
  with_reducible repeat' first | assumption | apply State.reply_keeps | apply State.setSession_keeps | apply State.outcome_keeps | apply State.commitRefused_keeps | apply State.commitAccepted_keeps | apply keeps_ite | apply keeps_next | apply outKeeps_ite | (fail_if_no_progress apply keeps_upd) | (refine keeps_snd (by assumption) ?_) | (refine keeps_fst (by assumption) ?_) | (refine keeps_out (by assumption) ?_) | split

theorem execCommitCancel_keeps {x0} {s1 : State} (h1 : Keeps q s1) :
    OutKeeps q (execCommitCancel x0 s1) := by
  unfold execCommitCancel
  with_reducible repeat' first | assumption | apply State.reply_keeps | apply State.outcome_keeps | apply State.count_keeps | apply State.put_keeps | apply keeps_ite | apply keeps_next | apply outKeeps_ite | (fail_if_no_progress apply keeps_upd) | (intro _ _ _) | (intro _ _) | (refine keeps_snd (by assumption) ?_) | (refine keeps_fst (by assumption) ?_) | (refine keeps_out (by assumption) ?_) | split

theorem execStagedSetDiscard_keeps {x0} {s1 : State} (h1 : Keeps q s1) :
    OutKeeps q (execStagedSetDiscard x0 s1) := by
  unfold execStagedSetDiscard
  with_reducible repeat' first | assumption | apply State.reply_keeps | apply State.setSession_keeps | apply State.outcome_keeps | apply keeps_ite | apply keeps_next

theorem execCommitApply_keeps {s0 : State} (h0 : Keeps q s0) :
    OutKeeps q (execCommitApply s0) := by
  unfold execCommitApply
  with_reducible repeat' first | assumption | apply State.applyDue_keeps | apply keeps_ite | apply keeps_next

/-! ### Machine/Direct.lean -/

theorem State.slotWritten_keeps {s0 : State} {x1} {x2} (h0 : Keeps q s0) :
    Keeps q (State.slotWritten s0 x1 x2) := by
  unfold State.slotWritten
  with_reducible repeat' first | assumption | apply State.reply_keeps | apply State.done_keeps | apply keeps_ite | (fail_if_no_progress apply keeps_upd)

theorem execSlotValueWrite_keeps {x0} {x1} {x2} {s3 : State} (h3 : Keeps q s3) :
    OutKeeps q (execSlotValueWrite x0 x1 x2 s3) := by
  unfold execSlotValueWrite
  with_reducible repeat' first | assumption | apply State.reply_keeps | apply State.slotWritten_keeps | apply keeps_ite | apply keeps_next

theorem State.pick_keeps {s : State} {v : Nat} {l : List (State → Host.Outcome State Fault Refusal)}
    (hf : ∀ f ∈ l, ∀ t, Keeps q t → OutKeeps q (f t)) (h : Keeps q s) : Keeps q (s.pick v l) := by
  unfold State.pick
  split
  · exact State.reply_keeps h
  · split
    · next f e => exact after_keeps (hf f (List.mem_of_getElem? e) s h) h
    · exact State.reply_keeps h

theorem State.axisCommand_keeps {s0 : State} {x1} {x2} (h0 : Keeps q s0) :
    Keeps q (State.axisCommand s0 x1 x2) := by
  unfold State.axisCommand
  with_reducible repeat' first | assumption | exact List.forall_mem_nil _ | refine List.forall_mem_cons.2 ⟨?_, ?_⟩ | apply State.pick_keeps | apply execEnable_keeps | apply execDisable_keeps | apply execPowerOn_keeps | apply execMoveAbsolute_keeps | apply execMoveRelative_keeps | apply execVelocityMove_keeps | apply execStop_keeps | apply execResume_keeps | apply execQuickStop_keeps | apply execAbandon_keeps | apply execHome_keeps | apply execFaultReset_keeps | apply execCoilsOff_keeps

theorem State.commitCommand_keeps {s0 : State} {x1} {x2} (h0 : Keeps q s0) :
    Keeps q (State.commitCommand s0 x1 x2) := by
  unfold State.commitCommand
  with_reducible repeat' first | assumption | exact List.forall_mem_nil _ | refine List.forall_mem_cons.2 ⟨?_, ?_⟩ | apply State.pick_keeps | apply execCommitCheckOnly_keeps | apply execCommit_keeps | apply execCommitCancel_keeps | apply execStagedSetDiscard_keeps

theorem State.blockCommand_keeps {s0 : State} {x1} {x2} {x3} (h0 : Keeps q s0) :
    Keeps q (State.blockCommand s0 x1 x2 x3) := by
  unfold State.blockCommand
  with_reducible repeat' first | assumption | exact List.forall_mem_nil _ | refine List.forall_mem_cons.2 ⟨?_, ?_⟩ | apply State.axisCommand_keeps | apply State.pick_keeps | apply State.fresh_keeps | apply State.reply_keeps | apply execAngleTest_keeps | apply execReturnFromRideThrough_keeps | apply execArmIndex_keeps | apply execDisarmIndex_keeps | apply execPreset_keeps | apply execCmpCancelAll_keeps | apply execSpanStart_keeps | apply execSpanRelease_keeps | apply execGraftEngage_keeps | apply execGraftDisengage_keeps | apply execPathStart_keeps | apply execPathStop_keeps | apply execPathResume_keeps | apply execPathAbandon_keeps | apply execCanRecover_keeps | apply after_keeps | apply execCanBufCancel_keeps | apply execCanBufRequest_keeps | apply execCanBufRelease_keeps | apply keeps_ite

theorem State.command_keeps {s0 : State} {x1} {x2} {x3} {x4} (h0 : Keeps q s0) :
    Keeps q (State.command s0 x1 x2 x3 x4) := by
  unfold State.command
  with_reducible repeat' first | assumption | exact List.forall_mem_nil _ | refine List.forall_mem_cons.2 ⟨?_, ?_⟩ | apply State.commitCommand_keeps | apply State.pick_keeps | apply State.blockCommand_keeps | apply after_keeps | apply execTrellisSetTime_keeps | apply execSnapshotScheduleTime_keeps | apply execBindOffRequest_keeps | apply execArm_keeps | apply execDisarm_keeps | apply execForceTrigger_keeps | apply execSafetyUnlock_keeps | apply execSafetyAcknowledge_keeps | apply execClearFatalRecord_keeps | apply execEraseLog_keeps | apply execFaultForce_keeps | apply execDeviceReady_keeps | apply execDeviceRun_keeps | apply execDeviceHalt_keeps | apply execDeviceSafe_keeps | apply execDeviceReset_keeps | apply execUpdateBegin_keeps | apply execUpdateActivate_keeps | apply execUpdateConfirm_keeps | apply execUpdateRevert_keeps | apply execUpdateAbort_keeps | apply execSave_keeps | apply execClear_keeps | apply keeps_ite

theorem State.writeValue_keeps {s0 : State} {x1} {x2} (h0 : Keeps q s0) :
    Keeps q (State.writeValue s0 x1 x2) := by
  unfold State.writeValue
  with_reducible repeat' first | assumption | apply State.put_keeps | apply State.wrote_keeps | apply State.done_keeps | apply keeps_ite | (fail_if_no_progress apply keeps_upd)

theorem State.writeOwn_keeps {s0 : State} {x1} {x2} {x3} (h0 : Keeps q s0) :
    Keeps q (State.writeOwn s0 x1 x2 x3) := by
  unfold State.writeOwn
  with_reducible repeat' first | assumption | apply State.put_keeps | apply State.done_keeps | apply State.setSession_keeps | apply keeps_ite

theorem State.writeRw_keeps {s0 : State} {x1} {x2} {x3} {x4} {x5} (h0 : Keeps q s0) :
    Keeps q (State.writeRw s0 x1 x2 x3 x4 x5) := by
  unfold State.writeRw
  with_reducible repeat' first | assumption | apply State.writeOwn_keeps | apply State.clearSticky_keeps | apply State.reply_keeps | apply State.storeDirect_keeps | apply State.done_keeps | apply State.put_keeps | apply State.writeValue_keeps | apply after_keeps | apply execMeasuredMaximumReset_keeps | apply execFaultReactionWrite_keeps | apply execSpanBankWrite_keeps | apply execSpanBankSelect_keeps | apply keeps_ite | (fail_if_no_progress apply keeps_upd) | (refine keeps_snd (by assumption) ?_) | (refine keeps_fst (by assumption) ?_) | (refine keeps_out (by assumption) ?_) | split

theorem State.writeRow_keeps {s0 : State} {x1} {x2} {x3} {x4} {x5} (h0 : Keeps q s0) :
    Keeps q (State.writeRow s0 x1 x2 x3 x4 x5) := by
  unfold State.writeRow
  with_reducible repeat' first | assumption | apply State.reply_keeps | apply State.slotWritten_keeps | apply State.command_keeps | apply State.writeRw_keeps | apply after_keeps | apply execUpdateData_keeps | apply execCmpAppend_keeps | apply keeps_ite

theorem State.writeObject_keeps {s0 : State} {x1} {x2} {x3} {x4} {x5} (h0 : Keeps q s0) :
    Keeps q (State.writeObject s0 x1 x2 x3 x4 x5) := by
  unfold State.writeObject
  with_reducible repeat' first | assumption | apply State.reply_keeps | apply State.writeRow_keeps | apply State.writeValue_keeps | apply after_keeps | apply execCia402Controlword_keeps | apply keeps_ite | (fail_if_no_progress apply keeps_upd) | (refine keeps_snd (by assumption) ?_) | (refine keeps_fst (by assumption) ?_) | (refine keeps_out (by assumption) ?_) | split

theorem execDictionaryWrite_keeps {x0} {x1} {x2} {x3} {x4} {s5 : State} (h5 : Keeps q s5) :
    OutKeeps q (execDictionaryWrite x0 x1 x2 x3 x4 s5) := by
  unfold execDictionaryWrite
  with_reducible repeat' first | assumption | apply State.writeObject_keeps | apply keeps_ite | apply keeps_next

/-! ### Machine/HostQ.lean -/

theorem State.acceptEntry_keeps {s0 : State} {x1} (h0 : Keeps q s0) :
    Keeps q (State.acceptEntry s0 x1) := by
  unfold State.acceptEntry
  with_reducible repeat' first | assumption | apply State.sendRequest_keeps | apply keeps_ite | (fail_if_no_progress apply keeps_upd)

theorem execMailboxDoorbell_keeps {x0} {x1} {x2} {s3 : State} (h3 : Keeps q s3) :
    OutKeeps q (execMailboxDoorbell x0 x1 x2 s3) := by
  unfold execMailboxDoorbell
  with_reducible repeat' first | assumption | apply State.setBit_keeps | apply State.acceptEntry_keeps | apply keeps_ite | apply keeps_next | apply outKeeps_ite | (fail_if_no_progress apply keeps_upd)

theorem execSubmissionTailDoorbell_keeps {x0} {x1} {s2 : State} (h2 : Keeps q s2) :
    OutKeeps q (execSubmissionTailDoorbell x0 x1 s2) := by
  unfold execSubmissionTailDoorbell
  with_reducible repeat' first | assumption | apply State.setBit_keeps | apply State.creditUse_keeps | apply keeps_ite | apply keeps_next | apply outKeeps_ite | (fail_if_no_progress apply keeps_upd)

theorem State.granted_keeps {s0 : State} {x1} {x2} (h0 : Keeps q s0) :
    Keeps q (State.granted s0 x1 x2) := by
  unfold State.granted
  with_reducible repeat' first | assumption | apply keeps_ite | (fail_if_no_progress apply keeps_upd)

theorem State.turnAway_keeps {s0 : State} {x1} {x2} {x3} (h0 : Keeps q s0) :
    Keeps q (State.turnAway s0 x1 x2 x3) := by
  unfold State.turnAway
  with_reducible repeat' first | assumption | apply State.count_keeps | apply State.cqPost_keeps

theorem State.fetched_keeps {s0 : State} {x1} {x2} (h0 : Keeps q s0) :
    Keeps q (State.fetched s0 x1 x2) := by
  unfold State.fetched
  with_reducible repeat' first | assumption | apply State.turnAway_keeps | apply State.setBit_keeps | apply State.count_keeps | apply State.acceptEntry_keeps | apply keeps_ite

theorem execSubmissionFetch_keeps {x0} {x1} {s2 : State} (h2 : Keeps q s2) :
    OutKeeps q (execSubmissionFetch x0 x1 s2) := by
  unfold execSubmissionFetch
  with_reducible repeat' first | assumption | apply State.granted_keeps | apply State.put_keeps | apply State.creditReturn_keeps | apply State.fetched_keeps | apply keeps_ite | apply keeps_next | apply outKeeps_ite | (fail_if_no_progress apply keeps_upd) | (refine keeps_snd (by assumption) ?_) | (refine keeps_fst (by assumption) ?_) | (refine keeps_out (by assumption) ?_) | split

theorem State.runReq_keeps {s0 : State} {x1} {x2} (h0 : Keeps q s0) (g2 : ∀ t, Keeps q t → Keeps q (x2 t)) :
    Keeps q (State.runReq s0 x1 x2) := by
  unfold State.runReq
  with_reducible repeat' first | assumption | apply g2 | apply State.complete_keeps | apply keeps_ite | (fail_if_no_progress apply keeps_upd)

theorem execHostRead_keeps {x0} {x1} {x2} {s3 : State} (h3 : Keeps q s3) :
    OutKeeps q (execHostRead x0 x1 x2 s3) := by
  unfold execHostRead
  with_reducible repeat' first | assumption | apply State.runReq_keeps | apply State.readObject_keeps | apply keeps_ite | apply keeps_next | apply outKeeps_ite | (fail_if_no_progress apply keeps_upd) | (intro _ _ _) | (intro _ _) | (refine keeps_snd (by assumption) ?_) | (refine keeps_fst (by assumption) ?_) | (refine keeps_out (by assumption) ?_) | split

theorem execHostWrite_keeps {x0} {x1} {x2} {s3 : State} (h3 : Keeps q s3) :
    OutKeeps q (execHostWrite x0 x1 x2 s3) := by
  unfold execHostWrite
  with_reducible repeat' first | assumption | apply State.runReq_keeps | apply State.writeObject_keeps | apply keeps_ite | apply keeps_next | apply outKeeps_ite | (fail_if_no_progress apply keeps_upd) | (intro _ _ _) | (intro _ _) | (refine keeps_snd (by assumption) ?_) | (refine keeps_fst (by assumption) ?_) | (refine keeps_out (by assumption) ?_) | split

theorem execHostStage_keeps {x0} {x1} {x2} {s3 : State} (h3 : Keeps q s3) :
    OutKeeps q (execHostStage x0 x1 x2 s3) := by
  unfold execHostStage
  with_reducible repeat' first | assumption | apply State.runReq_keeps | apply State.stageObject_keeps | apply keeps_ite | apply keeps_next | apply outKeeps_ite | (fail_if_no_progress apply keeps_upd) | (intro _ _ _) | (intro _ _) | (refine keeps_snd (by assumption) ?_) | (refine keeps_fst (by assumption) ?_) | (refine keeps_out (by assumption) ?_) | split

theorem execHostNoOp_keeps {x0} {x1} {x2} {s3 : State} (h3 : Keeps q s3) :
    OutKeeps q (execHostNoOp x0 x1 x2 s3) := by
  unfold execHostNoOp
  with_reducible repeat' first | assumption | apply State.complete_keeps | apply keeps_ite | apply keeps_next | apply outKeeps_ite | (fail_if_no_progress apply keeps_upd) | (refine keeps_snd (by assumption) ?_) | (refine keeps_fst (by assumption) ?_) | (refine keeps_out (by assumption) ?_) | split

theorem execHostLinkLost_keeps {s0 : State} (h0 : Keeps q s0) :
    OutKeeps q (execHostLinkLost s0) := by
  unfold execHostLinkLost
  with_reducible repeat' first | assumption | apply State.put_keeps | apply State.setBit_keeps | apply keeps_ite | apply keeps_next | apply outKeeps_ite | (fail_if_no_progress apply keeps_upd)

theorem State.cqRewrite_keeps {s0 : State} {x1} (h0 : Keeps q s0) :
    Keeps q (State.cqRewrite s0 x1) := by
  unfold State.cqRewrite
  with_reducible repeat' first | assumption | apply State.send_keeps | apply keeps_ite | apply keeps_foldl | (fail_if_no_progress apply keeps_upd) | (intro _ _ _) | (intro _ _) | (refine keeps_snd (by assumption) ?_) | (refine keeps_fst (by assumption) ?_) | (refine keeps_out (by assumption) ?_) | split

theorem execHostReconcile_keeps {x0} {s1 : State} (h1 : Keeps q s1) :
    OutKeeps q (execHostReconcile x0 s1) := by
  unfold execHostReconcile
  with_reducible repeat' first | assumption | apply State.cqRewrite_keeps | apply State.put_keeps | apply State.cqFree_keeps | apply State.each_keeps | apply State.cqSignal_keeps | apply keeps_ite | apply keeps_next | apply outKeeps_ite | apply keeps_foldl | (fail_if_no_progress apply keeps_upd) | (intro _ _ _)

/-! ### Machine/Boot.lean -/

theorem State.powerOnEpoch_keeps {s0 : State} (h0 : Keeps q s0) :
    Keeps q (State.powerOnEpoch s0) := by
  unfold State.powerOnEpoch
  with_reducible repeat' first | assumption | apply State.put_keeps | apply State.reserveEpochs_keeps | apply keeps_ite

theorem State.trialBoot_keeps {s0 : State} (h0 : Keeps q s0) :
    Keeps q (State.trialBoot s0) := by
  unfold State.trialBoot
  with_reducible repeat' first | assumption | apply State.select_keeps | apply State.setBit_keeps | apply State.raise_keeps | apply keeps_ite | (fail_if_no_progress apply keeps_upd)

theorem State.startBank_keeps {s0 : State} {x1} (h0 : Keeps q s0) :
    Keeps q (State.startBank s0 x1) := by
  unfold State.startBank
  with_reducible repeat' first | assumption | apply State.put_keeps | apply keeps_ite | (fail_if_no_progress apply keeps_upd)

theorem State.chooseBank_keeps {s0 : State} {x1} (h0 : Keeps q s0) :
    Keeps q (State.chooseBank s0 x1) := by
  unfold State.chooseBank
  with_reducible repeat' first | assumption | apply State.startBank_keeps | apply State.setBit_keeps | apply State.raise_keeps | apply keeps_ite | (fail_if_no_progress apply keeps_upd)

theorem State.rollBack_keeps {s0 : State} (h0 : Keeps q s0) :
    Keeps q (State.rollBack s0) := by
  unfold State.rollBack
  with_reducible repeat' first | assumption | apply State.put_keeps | apply State.setBitIf_keeps | apply State.storeUsed_keeps

theorem State.holdReport_keeps {s0 : State} (h0 : Keeps q s0) :
    Keeps q (State.holdReport s0) := by
  unfold State.holdReport
  with_reducible repeat' first | assumption | apply State.setBitIf_keeps | apply keeps_ite | (fail_if_no_progress apply keeps_upd)

theorem execResetRelease_keeps {x0} {x1} {s2 : State} (h2 : Keeps q s2) :
    OutKeeps q (execResetRelease x0 x1 s2) := by
  unfold execResetRelease
  with_reducible repeat' first | assumption | apply State.powerOnEpoch_keeps | apply State.trialBoot_keeps | apply State.chooseBank_keeps | apply State.rollBack_keeps | apply State.holdReport_keeps | apply State.fatalToLog_keeps | apply State.put_keeps | apply State.raise_keeps | apply State.nerrUpdate_keeps | apply keeps_ite | apply keeps_next | apply outKeeps_ite | (fail_if_no_progress apply keeps_upd)

theorem State.applyStored_keeps {s0 : State} {x1} (h0 : Keeps q s0) :
    Keeps q (State.applyStored s0 x1) := by
  unfold State.applyStored
  with_reducible repeat' first | assumption | apply State.derive_keeps | apply State.setBit_keeps | apply State.put_keeps | apply State.applySet_keeps | apply State.count_keeps | apply keeps_ite | (fail_if_no_progress apply keeps_upd) | (refine keeps_snd (by assumption) ?_) | (refine keeps_fst (by assumption) ?_) | (refine keeps_out (by assumption) ?_) | split | dsimp only

theorem State.startupTarget_keeps {s0 : State} (h0 : Keeps q s0) :
    Keeps q (State.startupTarget s0) := by
  unfold State.startupTarget
  with_reducible repeat' first | assumption | apply State.enterReady_keeps | apply State.put_keeps | apply keeps_ite

theorem execStartupComplete_keeps {x0} {s1 : State} (h1 : Keeps q s1) :
    OutKeeps q (execStartupComplete x0 s1) := by
  unfold execStartupComplete
  with_reducible repeat' first | assumption | apply State.derive_keeps | apply State.applyStored_keeps | apply State.enterSafe_keeps | apply State.put_keeps | apply State.startupTarget_keeps | apply State.queueTxn_keeps | apply keeps_ite | apply keeps_next | apply outKeeps_ite | (fail_if_no_progress apply keeps_upd) | (refine keeps_snd (by assumption) ?_) | (refine keeps_fst (by assumption) ?_) | (refine keeps_out (by assumption) ?_) | split | dsimp only

/-! ### Machine/Tick.lean -/

theorem State.edgeTime_keeps {s0 : State} {x1} (h0 : Keeps q s0) :
    Keeps q (State.edgeTime s0 x1) := by
  unfold State.edgeTime
  with_reducible repeat' first | assumption | apply State.put_keeps

theorem State.publish_keeps {s0 : State} (h0 : Keeps q s0) :
    Keeps q (State.publish s0) := by
  unfold State.publish
  with_reducible repeat' first | assumption | apply State.put_keeps | apply keeps_ite | apply keeps_foldl | (fail_if_no_progress apply keeps_upd) | (intro _ _ _)

theorem State.latchHost_keeps {s0 : State} (h0 : Keeps q s0) :
    Keeps q (State.latchHost s0) := by
  unfold State.latchHost
  with_reducible repeat' first | assumption | apply State.put_keeps | apply keeps_ite | apply keeps_foldl | (fail_if_no_progress apply keeps_upd) | (intro _ _ _)

theorem State.latchAll_keeps {s0 : State} {x1} {x2} (h0 : Keeps q s0) :
    Keeps q (State.latchAll s0 x1 x2) := by
  unfold State.latchAll
  with_reducible repeat' first | assumption | apply State.cmpLatch_keeps | apply State.focEdge_keeps | apply State.slEdge_keeps | apply State.netEdge_keeps | apply State.genEdge_keeps | apply State.each_keeps | apply State.fbEdgeLatch_keeps | apply State.exEdge_keeps | apply keeps_ite | apply keeps_foldl | (intro _ _ _)

theorem State.compareEnables_keeps {s0 : State} {s1 : State} (h0 : Keeps q s0) (h1 : Keeps q s1) :
    Keeps q (State.compareEnables s0 s1) := by
  unfold State.compareEnables
  with_reducible repeat' first | assumption | apply State.each_keeps | apply State.cmpEnabled_keeps | apply keeps_ite | (intro _ _ _)

theorem State.closureOver_keeps {s0 : State} (h0 : Keeps q s0) :
    Keeps q (State.closureOver s0) := by
  unfold State.closureOver
  with_reducible repeat' first | assumption | apply State.each_keeps | apply State.setAxis_keeps | apply keeps_ite | (fail_if_no_progress apply keeps_upd) | (intro _ _ _)

theorem State.virtualLatch_keeps {s0 : State} {x1} (h0 : Keeps q s0) :
    Keeps q (State.virtualLatch s0 x1) := by
  unfold State.virtualLatch
  with_reducible repeat' first | assumption | apply State.slotLatch_keeps | apply keeps_ite

theorem State.motionEdge_keeps {s0 : State} {x1} (h0 : Keeps q s0) :
    Keeps q (State.motionEdge s0 x1) := by
  unfold State.motionEdge
  with_reducible repeat' first | assumption | apply State.graftEdge_keeps | apply State.limitEdge_keeps | apply State.homeEdge_keeps | apply State.castEdge_keeps | apply State.graftCastEdge_keeps | apply State.gangEdge_keeps | apply State.planEdge_keeps | apply State.standEdge_keeps | apply State.pathEdge_keeps | apply State.markPublish_keeps | apply State.gainEdge_keeps | apply State.loopOpenEdge_keeps | apply State.each_keeps | apply State.setAxis_keeps | apply State.consumeEdge_keeps | apply State.virtualLatch_keeps | apply State.histEdge_keeps | apply keeps_ite | (fail_if_no_progress apply keeps_upd) | (intro _ _ _)

theorem State.sendCommanded_keeps {s0 : State} {x1} (h0 : Keeps q s0) :
    Keeps q (State.sendCommanded s0 x1) := by
  unfold State.sendCommanded
  with_reducible repeat' first | assumption | apply State.each_keeps | apply State.sendMaster_keeps | apply keeps_ite | (intro _ _ _)

theorem State.sendMeasured_keeps {s0 : State} {x1} (h0 : Keeps q s0) :
    Keeps q (State.sendMeasured s0 x1) := by
  unfold State.sendMeasured
  with_reducible repeat' first | assumption | apply State.each_keeps | apply State.sendMaster_keeps | apply keeps_ite | (intro _ _ _)

theorem State.imageEdge_keeps {s0 : State} {x1} (h0 : Keeps q s0) :
    Keeps q (State.imageEdge s0 x1) := by
  unfold State.imageEdge
  with_reducible repeat' first | assumption | apply State.putImage_keeps | apply State.exPost_keeps | apply keeps_ite | apply keeps_foldl | (intro _ _ _)

theorem State.carrierEdge_keeps {s0 : State} {x1} (h0 : Keeps q s0) :
    Keeps q (State.carrierEdge s0 x1) := by
  unfold State.carrierEdge
  with_reducible repeat' first | assumption | apply State.each_keeps | apply State.pwmEdge_keeps | apply keeps_ite | (intro _ _ _)

theorem State.edgeBegin_keeps {s0 : State} {x1} (h0 : Keeps q s0) :
    Keeps q (State.edgeBegin s0 x1) := by
  unfold State.edgeBegin
  with_reducible repeat' first | assumption | apply State.cmpRowEdge_keeps | apply State.cutoff_keeps | apply State.overrunEnd_keeps | apply State.reactEnd_keeps | apply State.sendSetpoints_keeps | apply State.sendCommanded_keeps | apply State.exFlush_keeps | apply State.edgeTime_keeps | apply State.rowEdge_keeps | apply State.weightEdge_keeps | apply State.each_keeps | apply State.applyDue_keeps | apply State.closureOver_keeps | apply keeps_ite | (fail_if_no_progress apply keeps_upd)

theorem State.fieldEdge_keeps {s0 : State} {x1} (h0 : Keeps q s0) :
    Keeps q (State.fieldEdge s0 x1) := by
  unfold State.fieldEdge
  with_reducible repeat' first | assumption | apply State.canEdge_keeps | apply State.finEdge_keeps | apply State.each_keeps | apply State.foutEdge_keeps | apply State.overloadEdge_keeps

theorem State.spanCountEdge_keeps {s0 : State} (h0 : Keeps q s0) :
    Keeps q (State.spanCountEdge s0) := by
  unfold State.spanCountEdge
  with_reducible repeat' first | assumption | apply State.emuSlotEdge_keeps | apply State.each_keeps | apply State.spanEdge_keeps | apply State.spanClear_keeps | apply State.presetApply_keeps | apply State.fbApplyShifts_keeps | apply keeps_ite | (intro _ _ _)

theorem State.edgeFinish_keeps {s0 : State} {x1} (h0 : Keeps q s0) :
    Keeps q (State.edgeFinish s0 x1) := by
  unfold State.edgeFinish
  with_reducible repeat' first | assumption | apply State.sentryEdge_keeps | apply State.bindRepeat_keeps | apply State.each_keeps | apply State.acqEdge_keeps | apply State.saveEdge_keeps | apply State.trapRun_keeps | apply State.forcedEnd_keeps | apply State.sendMeasured_keeps | apply State.imageEdge_keeps | apply State.cutoff_keeps | apply keeps_ite | (fail_if_no_progress apply keeps_upd)

theorem execTickEdge_keeps {x0} {x1} {s2 : State} (h2 : Keeps q s2) :
    OutKeeps q (execTickEdge x0 x1 s2) := by
  unfold execTickEdge
  with_reducible repeat' first | assumption | apply State.inForce_keeps | apply State.edgeBegin_keeps | apply State.latchAll_keeps | apply State.publish_keeps | apply State.latchHost_keeps | apply State.stageInputs_keeps | apply State.compareEnables_keeps | apply State.fieldEdge_keeps | apply State.motionEdge_keeps | apply State.spanCountEdge_keeps | apply State.carrierEdge_keeps | apply State.edgeFinish_keeps | apply keeps_ite | apply keeps_next

end Sys2Proof.Machine
end

