-- ==== Sys2Proof/Laws/State.lean ====
section
/-! SUPPORT. One law for each field under each update of the state, so that no proof unfolds a record. -/

namespace Sys2Proof.Machine

/-! ### The registers, the memory and the answer -/

@[simp] theorem State.put_sent (s : State) (k : Nat) (v : Int) : (s.put k v).sent = s.sent := rfl
@[simp] theorem State.put_free (s : State) (k : Nat) (v : Int) : (s.put k v).free = s.free := rfl
@[simp] theorem State.put_sessions (s : State) (k : Nat) (v : Int) : (s.put k v).sessions = s.sessions := rfl
@[simp] theorem State.put_lastSession (s : State) (k : Nat) (v : Int) : (s.put k v).lastSession = s.lastSession := rfl
@[simp] theorem State.put_commits (s : State) (k : Nat) (v : Int) : (s.put k v).commits = s.commits := rfl
@[simp] theorem State.put_slotNow (s : State) (k : Nat) (v : Int) : (s.put k v).slotNow = s.slotNow := rfl
@[simp] theorem State.put_hostWrites (s : State) (k : Nat) (v : Int) : (s.put k v).hostWrites = s.hostWrites := rfl
@[simp] theorem State.put_oldVals (s : State) (k : Nat) (v : Int) : (s.put k v).oldVals = s.oldVals := rfl
@[simp] theorem State.put_oldBytes (s : State) (k : Nat) (v : Int) : (s.put k v).oldBytes = s.oldBytes := rfl
@[simp] theorem State.put_axes (s : State) (k : Nat) (v : Int) : (s.put k v).axes = s.axes := rfl
@[simp] theorem State.put_binds (s : State) (k : Nat) (v : Int) : (s.put k v).binds = s.binds := rfl
@[simp] theorem State.put_paths (s : State) (k : Nat) (v : Int) : (s.put k v).paths = s.paths := rfl
@[simp] theorem State.put_grafts (s : State) (k : Nat) (v : Int) : (s.put k v).grafts = s.grafts := rfl
@[simp] theorem State.put_spans (s : State) (k : Nat) (v : Int) : (s.put k v).spans = s.spans := rfl
@[simp] theorem State.put_stitches (s : State) (k : Nat) (v : Int) : (s.put k v).stitches = s.stitches := rfl
@[simp] theorem State.put_origins (s : State) (k : Nat) (v : Int) : (s.put k v).origins = s.origins := rfl
@[simp] theorem State.put_row (s : State) (k : Nat) (v : Int) : (s.put k v).row = s.row := rfl
@[simp] theorem State.put_trellis (s : State) (k : Nat) (v : Int) : (s.put k v).trellis = s.trellis := rfl
@[simp] theorem State.put_plant (s : State) (k : Nat) (v : Int) : (s.put k v).plant = s.plant := rfl
@[simp] theorem State.put_snap (s : State) (k : Nat) (v : Int) : (s.put k v).snap = s.snap := rfl
@[simp] theorem State.put_faults (s : State) (k : Nat) (v : Int) : (s.put k v).faults = s.faults := rfl
@[simp] theorem State.put_fbs (s : State) (k : Nat) (v : Int) : (s.put k v).fbs = s.fbs := rfl
@[simp] theorem State.put_cmps (s : State) (k : Nat) (v : Int) : (s.put k v).cmps = s.cmps := rfl
@[simp] theorem State.put_emus (s : State) (k : Nat) (v : Int) : (s.put k v).emus = s.emus := rfl
@[simp] theorem State.put_pwms (s : State) (k : Nat) (v : Int) : (s.put k v).pwms = s.pwms := rfl
@[simp] theorem State.put_focs (s : State) (k : Nat) (v : Int) : (s.put k v).focs = s.focs := rfl
@[simp] theorem State.put_sls (s : State) (k : Nat) (v : Int) : (s.put k v).sls = s.sls := rfl
@[simp] theorem State.put_pvs (s : State) (k : Nat) (v : Int) : (s.put k v).pvs = s.pvs := rfl
@[simp] theorem State.put_lostInputs (s : State) (k : Nat) (v : Int) : (s.put k v).lostInputs = s.lostInputs := rfl
@[simp] theorem State.put_cores (s : State) (k : Nat) (v : Int) : (s.put k v).cores = s.cores := rfl
@[simp] theorem State.put_acq (s : State) (k : Nat) (v : Int) : (s.put k v).acq = s.acq := rfl
@[simp] theorem State.put_marks (s : State) (k : Nat) (v : Int) : (s.put k v).marks = s.marks := rfl
@[simp] theorem State.put_hist (s : State) (k : Nat) (v : Int) : (s.put k v).hist = s.hist := rfl
@[simp] theorem State.put_jz (s : State) (k : Nat) (v : Int) : (s.put k v).jz = s.jz := rfl
@[simp] theorem State.put_host (s : State) (k : Nat) (v : Int) : (s.put k v).host = s.host := rfl
@[simp] theorem State.put_cans (s : State) (k : Nat) (v : Int) : (s.put k v).cans = s.cans := rfl
@[simp] theorem State.put_field (s : State) (k : Nat) (v : Int) : (s.put k v).field = s.field := rfl
@[simp] theorem State.put_safety (s : State) (k : Nat) (v : Int) : (s.put k v).safety = s.safety := rfl
@[simp] theorem State.put_thermal (s : State) (k : Nat) (v : Int) : (s.put k v).thermal = s.thermal := rfl
@[simp] theorem State.put_power (s : State) (k : Nat) (v : Int) : (s.put k v).power = s.power := rfl
@[simp] theorem State.put_nv (s : State) (k : Nat) (v : Int) : (s.put k v).nv = s.nv := rfl
@[simp] theorem State.store_regs (s : State) (k o : Nat) (l : List Byte) : (s.store k o l).regs = s.regs := rfl
@[simp] theorem State.store_pending (s : State) (k o : Nat) (l : List Byte) : (s.store k o l).pending = s.pending := rfl
@[simp] theorem State.store_resp (s : State) (k o : Nat) (l : List Byte) : (s.store k o l).resp = s.resp := rfl
@[simp] theorem State.store_sent (s : State) (k o : Nat) (l : List Byte) : (s.store k o l).sent = s.sent := rfl
@[simp] theorem State.store_free (s : State) (k o : Nat) (l : List Byte) : (s.store k o l).free = s.free := rfl
@[simp] theorem State.store_sessions (s : State) (k o : Nat) (l : List Byte) : (s.store k o l).sessions = s.sessions := rfl
@[simp] theorem State.store_lastSession (s : State) (k o : Nat) (l : List Byte) : (s.store k o l).lastSession = s.lastSession := rfl
@[simp] theorem State.store_commits (s : State) (k o : Nat) (l : List Byte) : (s.store k o l).commits = s.commits := rfl
@[simp] theorem State.store_slotNow (s : State) (k o : Nat) (l : List Byte) : (s.store k o l).slotNow = s.slotNow := rfl
@[simp] theorem State.store_hostWrites (s : State) (k o : Nat) (l : List Byte) : (s.store k o l).hostWrites = s.hostWrites := rfl
@[simp] theorem State.store_oldVals (s : State) (k o : Nat) (l : List Byte) : (s.store k o l).oldVals = s.oldVals := rfl
@[simp] theorem State.store_oldBytes (s : State) (k o : Nat) (l : List Byte) : (s.store k o l).oldBytes = s.oldBytes := rfl
@[simp] theorem State.store_axes (s : State) (k o : Nat) (l : List Byte) : (s.store k o l).axes = s.axes := rfl
@[simp] theorem State.store_binds (s : State) (k o : Nat) (l : List Byte) : (s.store k o l).binds = s.binds := rfl
@[simp] theorem State.store_paths (s : State) (k o : Nat) (l : List Byte) : (s.store k o l).paths = s.paths := rfl
@[simp] theorem State.store_grafts (s : State) (k o : Nat) (l : List Byte) : (s.store k o l).grafts = s.grafts := rfl
@[simp] theorem State.store_spans (s : State) (k o : Nat) (l : List Byte) : (s.store k o l).spans = s.spans := rfl
@[simp] theorem State.store_stitches (s : State) (k o : Nat) (l : List Byte) : (s.store k o l).stitches = s.stitches := rfl
@[simp] theorem State.store_origins (s : State) (k o : Nat) (l : List Byte) : (s.store k o l).origins = s.origins := rfl
@[simp] theorem State.store_row (s : State) (k o : Nat) (l : List Byte) : (s.store k o l).row = s.row := rfl
@[simp] theorem State.store_trellis (s : State) (k o : Nat) (l : List Byte) : (s.store k o l).trellis = s.trellis := rfl
@[simp] theorem State.store_plant (s : State) (k o : Nat) (l : List Byte) : (s.store k o l).plant = s.plant := rfl
@[simp] theorem State.store_snap (s : State) (k o : Nat) (l : List Byte) : (s.store k o l).snap = s.snap := rfl
@[simp] theorem State.store_faults (s : State) (k o : Nat) (l : List Byte) : (s.store k o l).faults = s.faults := rfl
@[simp] theorem State.store_fbs (s : State) (k o : Nat) (l : List Byte) : (s.store k o l).fbs = s.fbs := rfl
@[simp] theorem State.store_cmps (s : State) (k o : Nat) (l : List Byte) : (s.store k o l).cmps = s.cmps := rfl
@[simp] theorem State.store_emus (s : State) (k o : Nat) (l : List Byte) : (s.store k o l).emus = s.emus := rfl
@[simp] theorem State.store_pwms (s : State) (k o : Nat) (l : List Byte) : (s.store k o l).pwms = s.pwms := rfl
@[simp] theorem State.store_focs (s : State) (k o : Nat) (l : List Byte) : (s.store k o l).focs = s.focs := rfl
@[simp] theorem State.store_sls (s : State) (k o : Nat) (l : List Byte) : (s.store k o l).sls = s.sls := rfl
@[simp] theorem State.store_pvs (s : State) (k o : Nat) (l : List Byte) : (s.store k o l).pvs = s.pvs := rfl
@[simp] theorem State.store_lostInputs (s : State) (k o : Nat) (l : List Byte) : (s.store k o l).lostInputs = s.lostInputs := rfl
@[simp] theorem State.store_cores (s : State) (k o : Nat) (l : List Byte) : (s.store k o l).cores = s.cores := rfl
@[simp] theorem State.store_acq (s : State) (k o : Nat) (l : List Byte) : (s.store k o l).acq = s.acq := rfl
@[simp] theorem State.store_marks (s : State) (k o : Nat) (l : List Byte) : (s.store k o l).marks = s.marks := rfl
@[simp] theorem State.store_hist (s : State) (k o : Nat) (l : List Byte) : (s.store k o l).hist = s.hist := rfl
@[simp] theorem State.store_jz (s : State) (k o : Nat) (l : List Byte) : (s.store k o l).jz = s.jz := rfl
@[simp] theorem State.store_host (s : State) (k o : Nat) (l : List Byte) : (s.store k o l).host = s.host := rfl
@[simp] theorem State.store_cans (s : State) (k o : Nat) (l : List Byte) : (s.store k o l).cans = s.cans := rfl
@[simp] theorem State.store_field (s : State) (k o : Nat) (l : List Byte) : (s.store k o l).field = s.field := rfl
@[simp] theorem State.store_safety (s : State) (k o : Nat) (l : List Byte) : (s.store k o l).safety = s.safety := rfl
@[simp] theorem State.store_thermal (s : State) (k o : Nat) (l : List Byte) : (s.store k o l).thermal = s.thermal := rfl
@[simp] theorem State.store_power (s : State) (k o : Nat) (l : List Byte) : (s.store k o l).power = s.power := rfl
@[simp] theorem State.store_nv (s : State) (k o : Nat) (l : List Byte) : (s.store k o l).nv = s.nv := rfl
@[simp] theorem State.reply_regs (s : State) (n : Nat) : (s.reply n).regs = s.regs := rfl
@[simp] theorem State.reply_mem (s : State) (n : Nat) : (s.reply n).mem = s.mem := rfl
@[simp] theorem State.reply_pending (s : State) (n : Nat) : (s.reply n).pending = s.pending := rfl
@[simp] theorem State.reply_sent (s : State) (n : Nat) : (s.reply n).sent = s.sent := rfl
@[simp] theorem State.reply_free (s : State) (n : Nat) : (s.reply n).free = s.free := rfl
@[simp] theorem State.reply_sessions (s : State) (n : Nat) : (s.reply n).sessions = s.sessions := rfl
@[simp] theorem State.reply_lastSession (s : State) (n : Nat) : (s.reply n).lastSession = s.lastSession := rfl
@[simp] theorem State.reply_commits (s : State) (n : Nat) : (s.reply n).commits = s.commits := rfl
@[simp] theorem State.reply_slotNow (s : State) (n : Nat) : (s.reply n).slotNow = s.slotNow := rfl
@[simp] theorem State.reply_hostWrites (s : State) (n : Nat) : (s.reply n).hostWrites = s.hostWrites := rfl
@[simp] theorem State.reply_oldVals (s : State) (n : Nat) : (s.reply n).oldVals = s.oldVals := rfl
@[simp] theorem State.reply_oldBytes (s : State) (n : Nat) : (s.reply n).oldBytes = s.oldBytes := rfl
@[simp] theorem State.reply_axes (s : State) (n : Nat) : (s.reply n).axes = s.axes := rfl
@[simp] theorem State.reply_binds (s : State) (n : Nat) : (s.reply n).binds = s.binds := rfl
@[simp] theorem State.reply_paths (s : State) (n : Nat) : (s.reply n).paths = s.paths := rfl
@[simp] theorem State.reply_grafts (s : State) (n : Nat) : (s.reply n).grafts = s.grafts := rfl
@[simp] theorem State.reply_spans (s : State) (n : Nat) : (s.reply n).spans = s.spans := rfl
@[simp] theorem State.reply_stitches (s : State) (n : Nat) : (s.reply n).stitches = s.stitches := rfl
@[simp] theorem State.reply_origins (s : State) (n : Nat) : (s.reply n).origins = s.origins := rfl
@[simp] theorem State.reply_row (s : State) (n : Nat) : (s.reply n).row = s.row := rfl
@[simp] theorem State.reply_trellis (s : State) (n : Nat) : (s.reply n).trellis = s.trellis := rfl
@[simp] theorem State.reply_plant (s : State) (n : Nat) : (s.reply n).plant = s.plant := rfl
@[simp] theorem State.reply_snap (s : State) (n : Nat) : (s.reply n).snap = s.snap := rfl
@[simp] theorem State.reply_faults (s : State) (n : Nat) : (s.reply n).faults = s.faults := rfl
@[simp] theorem State.reply_fbs (s : State) (n : Nat) : (s.reply n).fbs = s.fbs := rfl
@[simp] theorem State.reply_cmps (s : State) (n : Nat) : (s.reply n).cmps = s.cmps := rfl
@[simp] theorem State.reply_emus (s : State) (n : Nat) : (s.reply n).emus = s.emus := rfl
@[simp] theorem State.reply_pwms (s : State) (n : Nat) : (s.reply n).pwms = s.pwms := rfl
@[simp] theorem State.reply_focs (s : State) (n : Nat) : (s.reply n).focs = s.focs := rfl
@[simp] theorem State.reply_sls (s : State) (n : Nat) : (s.reply n).sls = s.sls := rfl
@[simp] theorem State.reply_pvs (s : State) (n : Nat) : (s.reply n).pvs = s.pvs := rfl
@[simp] theorem State.reply_lostInputs (s : State) (n : Nat) : (s.reply n).lostInputs = s.lostInputs := rfl
@[simp] theorem State.reply_cores (s : State) (n : Nat) : (s.reply n).cores = s.cores := rfl
@[simp] theorem State.reply_acq (s : State) (n : Nat) : (s.reply n).acq = s.acq := rfl
@[simp] theorem State.reply_marks (s : State) (n : Nat) : (s.reply n).marks = s.marks := rfl
@[simp] theorem State.reply_hist (s : State) (n : Nat) : (s.reply n).hist = s.hist := rfl
@[simp] theorem State.reply_jz (s : State) (n : Nat) : (s.reply n).jz = s.jz := rfl
@[simp] theorem State.reply_host (s : State) (n : Nat) : (s.reply n).host = s.host := rfl
@[simp] theorem State.reply_cans (s : State) (n : Nat) : (s.reply n).cans = s.cans := rfl
@[simp] theorem State.reply_field (s : State) (n : Nat) : (s.reply n).field = s.field := rfl
@[simp] theorem State.reply_safety (s : State) (n : Nat) : (s.reply n).safety = s.safety := rfl
@[simp] theorem State.reply_thermal (s : State) (n : Nat) : (s.reply n).thermal = s.thermal := rfl
@[simp] theorem State.reply_power (s : State) (n : Nat) : (s.reply n).power = s.power := rfl
@[simp] theorem State.reply_nv (s : State) (n : Nat) : (s.reply n).nv = s.nv := rfl
@[simp] theorem State.done_regs (s : State) : s.done.regs = s.regs := rfl
@[simp] theorem State.done_mem (s : State) : s.done.mem = s.mem := rfl
@[simp] theorem State.done_pending (s : State) : s.done.pending = s.pending := rfl
@[simp] theorem State.done_sent (s : State) : s.done.sent = s.sent := rfl
@[simp] theorem State.done_free (s : State) : s.done.free = s.free := rfl
@[simp] theorem State.done_sessions (s : State) : s.done.sessions = s.sessions := rfl
@[simp] theorem State.done_lastSession (s : State) : s.done.lastSession = s.lastSession := rfl
@[simp] theorem State.done_commits (s : State) : s.done.commits = s.commits := rfl
@[simp] theorem State.done_slotNow (s : State) : s.done.slotNow = s.slotNow := rfl
@[simp] theorem State.done_hostWrites (s : State) : s.done.hostWrites = s.hostWrites := rfl
@[simp] theorem State.done_oldVals (s : State) : s.done.oldVals = s.oldVals := rfl
@[simp] theorem State.done_oldBytes (s : State) : s.done.oldBytes = s.oldBytes := rfl
@[simp] theorem State.done_axes (s : State) : s.done.axes = s.axes := rfl
@[simp] theorem State.done_binds (s : State) : s.done.binds = s.binds := rfl
@[simp] theorem State.done_paths (s : State) : s.done.paths = s.paths := rfl
@[simp] theorem State.done_grafts (s : State) : s.done.grafts = s.grafts := rfl
@[simp] theorem State.done_spans (s : State) : s.done.spans = s.spans := rfl
@[simp] theorem State.done_stitches (s : State) : s.done.stitches = s.stitches := rfl
@[simp] theorem State.done_origins (s : State) : s.done.origins = s.origins := rfl
@[simp] theorem State.done_row (s : State) : s.done.row = s.row := rfl
@[simp] theorem State.done_trellis (s : State) : s.done.trellis = s.trellis := rfl
@[simp] theorem State.done_plant (s : State) : s.done.plant = s.plant := rfl
@[simp] theorem State.done_snap (s : State) : s.done.snap = s.snap := rfl
@[simp] theorem State.done_faults (s : State) : s.done.faults = s.faults := rfl
@[simp] theorem State.done_fbs (s : State) : s.done.fbs = s.fbs := rfl
@[simp] theorem State.done_cmps (s : State) : s.done.cmps = s.cmps := rfl
@[simp] theorem State.done_emus (s : State) : s.done.emus = s.emus := rfl
@[simp] theorem State.done_pwms (s : State) : s.done.pwms = s.pwms := rfl
@[simp] theorem State.done_focs (s : State) : s.done.focs = s.focs := rfl
@[simp] theorem State.done_sls (s : State) : s.done.sls = s.sls := rfl
@[simp] theorem State.done_pvs (s : State) : s.done.pvs = s.pvs := rfl
@[simp] theorem State.done_lostInputs (s : State) : s.done.lostInputs = s.lostInputs := rfl
@[simp] theorem State.done_cores (s : State) : s.done.cores = s.cores := rfl
@[simp] theorem State.done_acq (s : State) : s.done.acq = s.acq := rfl
@[simp] theorem State.done_marks (s : State) : s.done.marks = s.marks := rfl
@[simp] theorem State.done_hist (s : State) : s.done.hist = s.hist := rfl
@[simp] theorem State.done_jz (s : State) : s.done.jz = s.jz := rfl
@[simp] theorem State.done_host (s : State) : s.done.host = s.host := rfl
@[simp] theorem State.done_cans (s : State) : s.done.cans = s.cans := rfl
@[simp] theorem State.done_field (s : State) : s.done.field = s.field := rfl
@[simp] theorem State.done_safety (s : State) : s.done.safety = s.safety := rfl
@[simp] theorem State.done_thermal (s : State) : s.done.thermal = s.thermal := rfl
@[simp] theorem State.done_power (s : State) : s.done.power = s.power := rfl
@[simp] theorem State.done_nv (s : State) : s.done.nv = s.nv := rfl
@[simp] theorem State.answer_regs (s : State) (l : List Byte) : (s.answer l).regs = s.regs := rfl
@[simp] theorem State.answer_mem (s : State) (l : List Byte) : (s.answer l).mem = s.mem := rfl
@[simp] theorem State.answer_pending (s : State) (l : List Byte) : (s.answer l).pending = s.pending := rfl
@[simp] theorem State.answer_sent (s : State) (l : List Byte) : (s.answer l).sent = s.sent := rfl
@[simp] theorem State.answer_free (s : State) (l : List Byte) : (s.answer l).free = s.free := rfl
@[simp] theorem State.answer_sessions (s : State) (l : List Byte) : (s.answer l).sessions = s.sessions := rfl
@[simp] theorem State.answer_lastSession (s : State) (l : List Byte) : (s.answer l).lastSession = s.lastSession := rfl
@[simp] theorem State.answer_commits (s : State) (l : List Byte) : (s.answer l).commits = s.commits := rfl
@[simp] theorem State.answer_slotNow (s : State) (l : List Byte) : (s.answer l).slotNow = s.slotNow := rfl
@[simp] theorem State.answer_hostWrites (s : State) (l : List Byte) : (s.answer l).hostWrites = s.hostWrites := rfl
@[simp] theorem State.answer_oldVals (s : State) (l : List Byte) : (s.answer l).oldVals = s.oldVals := rfl
@[simp] theorem State.answer_oldBytes (s : State) (l : List Byte) : (s.answer l).oldBytes = s.oldBytes := rfl
@[simp] theorem State.answer_axes (s : State) (l : List Byte) : (s.answer l).axes = s.axes := rfl
@[simp] theorem State.answer_binds (s : State) (l : List Byte) : (s.answer l).binds = s.binds := rfl
@[simp] theorem State.answer_paths (s : State) (l : List Byte) : (s.answer l).paths = s.paths := rfl
@[simp] theorem State.answer_grafts (s : State) (l : List Byte) : (s.answer l).grafts = s.grafts := rfl
@[simp] theorem State.answer_spans (s : State) (l : List Byte) : (s.answer l).spans = s.spans := rfl
@[simp] theorem State.answer_stitches (s : State) (l : List Byte) : (s.answer l).stitches = s.stitches := rfl
@[simp] theorem State.answer_origins (s : State) (l : List Byte) : (s.answer l).origins = s.origins := rfl
@[simp] theorem State.answer_row (s : State) (l : List Byte) : (s.answer l).row = s.row := rfl
@[simp] theorem State.answer_trellis (s : State) (l : List Byte) : (s.answer l).trellis = s.trellis := rfl
@[simp] theorem State.answer_plant (s : State) (l : List Byte) : (s.answer l).plant = s.plant := rfl
@[simp] theorem State.answer_snap (s : State) (l : List Byte) : (s.answer l).snap = s.snap := rfl
@[simp] theorem State.answer_faults (s : State) (l : List Byte) : (s.answer l).faults = s.faults := rfl
@[simp] theorem State.answer_fbs (s : State) (l : List Byte) : (s.answer l).fbs = s.fbs := rfl
@[simp] theorem State.answer_cmps (s : State) (l : List Byte) : (s.answer l).cmps = s.cmps := rfl
@[simp] theorem State.answer_emus (s : State) (l : List Byte) : (s.answer l).emus = s.emus := rfl
@[simp] theorem State.answer_pwms (s : State) (l : List Byte) : (s.answer l).pwms = s.pwms := rfl
@[simp] theorem State.answer_focs (s : State) (l : List Byte) : (s.answer l).focs = s.focs := rfl
@[simp] theorem State.answer_sls (s : State) (l : List Byte) : (s.answer l).sls = s.sls := rfl
@[simp] theorem State.answer_pvs (s : State) (l : List Byte) : (s.answer l).pvs = s.pvs := rfl
@[simp] theorem State.answer_lostInputs (s : State) (l : List Byte) : (s.answer l).lostInputs = s.lostInputs := rfl
@[simp] theorem State.answer_cores (s : State) (l : List Byte) : (s.answer l).cores = s.cores := rfl
@[simp] theorem State.answer_acq (s : State) (l : List Byte) : (s.answer l).acq = s.acq := rfl
@[simp] theorem State.answer_marks (s : State) (l : List Byte) : (s.answer l).marks = s.marks := rfl
@[simp] theorem State.answer_hist (s : State) (l : List Byte) : (s.answer l).hist = s.hist := rfl
@[simp] theorem State.answer_jz (s : State) (l : List Byte) : (s.answer l).jz = s.jz := rfl
@[simp] theorem State.answer_host (s : State) (l : List Byte) : (s.answer l).host = s.host := rfl
@[simp] theorem State.answer_cans (s : State) (l : List Byte) : (s.answer l).cans = s.cans := rfl
@[simp] theorem State.answer_field (s : State) (l : List Byte) : (s.answer l).field = s.field := rfl
@[simp] theorem State.answer_safety (s : State) (l : List Byte) : (s.answer l).safety = s.safety := rfl
@[simp] theorem State.answer_thermal (s : State) (l : List Byte) : (s.answer l).thermal = s.thermal := rfl
@[simp] theorem State.answer_power (s : State) (l : List Byte) : (s.answer l).power = s.power := rfl
@[simp] theorem State.answer_nv (s : State) (l : List Byte) : (s.answer l).nv = s.nv := rfl

/-! ### setAxis -/

@[simp] theorem State.setAxis_regs (s : State) (n : Nat) (r : AxisRt) : (s.setAxis n r).regs = s.regs := rfl
@[simp] theorem State.setAxis_mem (s : State) (n : Nat) (r : AxisRt) : (s.setAxis n r).mem = s.mem := rfl
@[simp] theorem State.setAxis_pending (s : State) (n : Nat) (r : AxisRt) : (s.setAxis n r).pending = s.pending := rfl
@[simp] theorem State.setAxis_resp (s : State) (n : Nat) (r : AxisRt) : (s.setAxis n r).resp = s.resp := rfl
@[simp] theorem State.setAxis_sent (s : State) (n : Nat) (r : AxisRt) : (s.setAxis n r).sent = s.sent := rfl
@[simp] theorem State.setAxis_free (s : State) (n : Nat) (r : AxisRt) : (s.setAxis n r).free = s.free := rfl
@[simp] theorem State.setAxis_sessions (s : State) (n : Nat) (r : AxisRt) : (s.setAxis n r).sessions = s.sessions := rfl
@[simp] theorem State.setAxis_lastSession (s : State) (n : Nat) (r : AxisRt) : (s.setAxis n r).lastSession = s.lastSession := rfl
@[simp] theorem State.setAxis_commits (s : State) (n : Nat) (r : AxisRt) : (s.setAxis n r).commits = s.commits := rfl
@[simp] theorem State.setAxis_slotNow (s : State) (n : Nat) (r : AxisRt) : (s.setAxis n r).slotNow = s.slotNow := rfl
@[simp] theorem State.setAxis_hostWrites (s : State) (n : Nat) (r : AxisRt) : (s.setAxis n r).hostWrites = s.hostWrites := rfl
@[simp] theorem State.setAxis_oldVals (s : State) (n : Nat) (r : AxisRt) : (s.setAxis n r).oldVals = s.oldVals := rfl
@[simp] theorem State.setAxis_oldBytes (s : State) (n : Nat) (r : AxisRt) : (s.setAxis n r).oldBytes = s.oldBytes := rfl
@[simp] theorem State.setAxis_binds (s : State) (n : Nat) (r : AxisRt) : (s.setAxis n r).binds = s.binds := rfl
@[simp] theorem State.setAxis_paths (s : State) (n : Nat) (r : AxisRt) : (s.setAxis n r).paths = s.paths := rfl
@[simp] theorem State.setAxis_grafts (s : State) (n : Nat) (r : AxisRt) : (s.setAxis n r).grafts = s.grafts := rfl
@[simp] theorem State.setAxis_spans (s : State) (n : Nat) (r : AxisRt) : (s.setAxis n r).spans = s.spans := rfl
@[simp] theorem State.setAxis_stitches (s : State) (n : Nat) (r : AxisRt) : (s.setAxis n r).stitches = s.stitches := rfl
@[simp] theorem State.setAxis_origins (s : State) (n : Nat) (r : AxisRt) : (s.setAxis n r).origins = s.origins := rfl
@[simp] theorem State.setAxis_row (s : State) (n : Nat) (r : AxisRt) : (s.setAxis n r).row = s.row := rfl
@[simp] theorem State.setAxis_trellis (s : State) (n : Nat) (r : AxisRt) : (s.setAxis n r).trellis = s.trellis := rfl
@[simp] theorem State.setAxis_plant (s : State) (n : Nat) (r : AxisRt) : (s.setAxis n r).plant = s.plant := rfl
@[simp] theorem State.setAxis_snap (s : State) (n : Nat) (r : AxisRt) : (s.setAxis n r).snap = s.snap := rfl
@[simp] theorem State.setAxis_faults (s : State) (n : Nat) (r : AxisRt) : (s.setAxis n r).faults = s.faults := rfl
@[simp] theorem State.setAxis_fbs (s : State) (n : Nat) (r : AxisRt) : (s.setAxis n r).fbs = s.fbs := rfl
@[simp] theorem State.setAxis_cmps (s : State) (n : Nat) (r : AxisRt) : (s.setAxis n r).cmps = s.cmps := rfl
@[simp] theorem State.setAxis_emus (s : State) (n : Nat) (r : AxisRt) : (s.setAxis n r).emus = s.emus := rfl
@[simp] theorem State.setAxis_pwms (s : State) (n : Nat) (r : AxisRt) : (s.setAxis n r).pwms = s.pwms := rfl
@[simp] theorem State.setAxis_focs (s : State) (n : Nat) (r : AxisRt) : (s.setAxis n r).focs = s.focs := rfl
@[simp] theorem State.setAxis_sls (s : State) (n : Nat) (r : AxisRt) : (s.setAxis n r).sls = s.sls := rfl
@[simp] theorem State.setAxis_pvs (s : State) (n : Nat) (r : AxisRt) : (s.setAxis n r).pvs = s.pvs := rfl
@[simp] theorem State.setAxis_lostInputs (s : State) (n : Nat) (r : AxisRt) : (s.setAxis n r).lostInputs = s.lostInputs := rfl
@[simp] theorem State.setAxis_cores (s : State) (n : Nat) (r : AxisRt) : (s.setAxis n r).cores = s.cores := rfl
@[simp] theorem State.setAxis_acq (s : State) (n : Nat) (r : AxisRt) : (s.setAxis n r).acq = s.acq := rfl
@[simp] theorem State.setAxis_marks (s : State) (n : Nat) (r : AxisRt) : (s.setAxis n r).marks = s.marks := rfl
@[simp] theorem State.setAxis_hist (s : State) (n : Nat) (r : AxisRt) : (s.setAxis n r).hist = s.hist := rfl
@[simp] theorem State.setAxis_jz (s : State) (n : Nat) (r : AxisRt) : (s.setAxis n r).jz = s.jz := rfl
@[simp] theorem State.setAxis_host (s : State) (n : Nat) (r : AxisRt) : (s.setAxis n r).host = s.host := rfl
@[simp] theorem State.setAxis_cans (s : State) (n : Nat) (r : AxisRt) : (s.setAxis n r).cans = s.cans := rfl
@[simp] theorem State.setAxis_field (s : State) (n : Nat) (r : AxisRt) : (s.setAxis n r).field = s.field := rfl
@[simp] theorem State.setAxis_safety (s : State) (n : Nat) (r : AxisRt) : (s.setAxis n r).safety = s.safety := rfl
@[simp] theorem State.setAxis_thermal (s : State) (n : Nat) (r : AxisRt) : (s.setAxis n r).thermal = s.thermal := rfl
@[simp] theorem State.setAxis_power (s : State) (n : Nat) (r : AxisRt) : (s.setAxis n r).power = s.power := rfl
@[simp] theorem State.setAxis_nv (s : State) (n : Nat) (r : AxisRt) : (s.setAxis n r).nv = s.nv := rfl
@[simp] theorem State.setAxis_get (s : State) (n : Nat) (r : AxisRt) (k : Nat) : (s.setAxis n r).get k = s.get k := rfl
@[simp] theorem State.setAxis_axis_same (s : State) (n : Nat) (r : AxisRt) : (s.setAxis n r).axis n = r := Sparse.get_put_same ..
theorem State.setAxis_axis_other (s : State) {n m : Nat} (r : AxisRt) (h : m ≠ n) : (s.setAxis n r).axis m = s.axis m :=
  Sparse.get_put_other _ _ _ h
@[simp] theorem State.put_axis (s : State) (k : Nat) (v : Int) (n : Nat) : (s.put k v).axis n = s.axis n := rfl

/-! ### setBind -/

@[simp] theorem State.setBind_regs (s : State) (n : Nat) (r : BindRt) : (s.setBind n r).regs = s.regs := rfl
@[simp] theorem State.setBind_mem (s : State) (n : Nat) (r : BindRt) : (s.setBind n r).mem = s.mem := rfl
@[simp] theorem State.setBind_pending (s : State) (n : Nat) (r : BindRt) : (s.setBind n r).pending = s.pending := rfl
@[simp] theorem State.setBind_resp (s : State) (n : Nat) (r : BindRt) : (s.setBind n r).resp = s.resp := rfl
@[simp] theorem State.setBind_sent (s : State) (n : Nat) (r : BindRt) : (s.setBind n r).sent = s.sent := rfl
@[simp] theorem State.setBind_free (s : State) (n : Nat) (r : BindRt) : (s.setBind n r).free = s.free := rfl
@[simp] theorem State.setBind_sessions (s : State) (n : Nat) (r : BindRt) : (s.setBind n r).sessions = s.sessions := rfl
@[simp] theorem State.setBind_lastSession (s : State) (n : Nat) (r : BindRt) : (s.setBind n r).lastSession = s.lastSession := rfl
@[simp] theorem State.setBind_commits (s : State) (n : Nat) (r : BindRt) : (s.setBind n r).commits = s.commits := rfl
@[simp] theorem State.setBind_slotNow (s : State) (n : Nat) (r : BindRt) : (s.setBind n r).slotNow = s.slotNow := rfl
@[simp] theorem State.setBind_hostWrites (s : State) (n : Nat) (r : BindRt) : (s.setBind n r).hostWrites = s.hostWrites := rfl
@[simp] theorem State.setBind_oldVals (s : State) (n : Nat) (r : BindRt) : (s.setBind n r).oldVals = s.oldVals := rfl
@[simp] theorem State.setBind_oldBytes (s : State) (n : Nat) (r : BindRt) : (s.setBind n r).oldBytes = s.oldBytes := rfl
@[simp] theorem State.setBind_axes (s : State) (n : Nat) (r : BindRt) : (s.setBind n r).axes = s.axes := rfl
@[simp] theorem State.setBind_paths (s : State) (n : Nat) (r : BindRt) : (s.setBind n r).paths = s.paths := rfl
@[simp] theorem State.setBind_grafts (s : State) (n : Nat) (r : BindRt) : (s.setBind n r).grafts = s.grafts := rfl
@[simp] theorem State.setBind_spans (s : State) (n : Nat) (r : BindRt) : (s.setBind n r).spans = s.spans := rfl
@[simp] theorem State.setBind_stitches (s : State) (n : Nat) (r : BindRt) : (s.setBind n r).stitches = s.stitches := rfl
@[simp] theorem State.setBind_origins (s : State) (n : Nat) (r : BindRt) : (s.setBind n r).origins = s.origins := rfl
@[simp] theorem State.setBind_row (s : State) (n : Nat) (r : BindRt) : (s.setBind n r).row = s.row := rfl
@[simp] theorem State.setBind_trellis (s : State) (n : Nat) (r : BindRt) : (s.setBind n r).trellis = s.trellis := rfl
@[simp] theorem State.setBind_plant (s : State) (n : Nat) (r : BindRt) : (s.setBind n r).plant = s.plant := rfl
@[simp] theorem State.setBind_snap (s : State) (n : Nat) (r : BindRt) : (s.setBind n r).snap = s.snap := rfl
@[simp] theorem State.setBind_faults (s : State) (n : Nat) (r : BindRt) : (s.setBind n r).faults = s.faults := rfl
@[simp] theorem State.setBind_fbs (s : State) (n : Nat) (r : BindRt) : (s.setBind n r).fbs = s.fbs := rfl
@[simp] theorem State.setBind_cmps (s : State) (n : Nat) (r : BindRt) : (s.setBind n r).cmps = s.cmps := rfl
@[simp] theorem State.setBind_emus (s : State) (n : Nat) (r : BindRt) : (s.setBind n r).emus = s.emus := rfl
@[simp] theorem State.setBind_pwms (s : State) (n : Nat) (r : BindRt) : (s.setBind n r).pwms = s.pwms := rfl
@[simp] theorem State.setBind_focs (s : State) (n : Nat) (r : BindRt) : (s.setBind n r).focs = s.focs := rfl
@[simp] theorem State.setBind_sls (s : State) (n : Nat) (r : BindRt) : (s.setBind n r).sls = s.sls := rfl
@[simp] theorem State.setBind_pvs (s : State) (n : Nat) (r : BindRt) : (s.setBind n r).pvs = s.pvs := rfl
@[simp] theorem State.setBind_lostInputs (s : State) (n : Nat) (r : BindRt) : (s.setBind n r).lostInputs = s.lostInputs := rfl
@[simp] theorem State.setBind_cores (s : State) (n : Nat) (r : BindRt) : (s.setBind n r).cores = s.cores := rfl
@[simp] theorem State.setBind_acq (s : State) (n : Nat) (r : BindRt) : (s.setBind n r).acq = s.acq := rfl
@[simp] theorem State.setBind_marks (s : State) (n : Nat) (r : BindRt) : (s.setBind n r).marks = s.marks := rfl
@[simp] theorem State.setBind_hist (s : State) (n : Nat) (r : BindRt) : (s.setBind n r).hist = s.hist := rfl
@[simp] theorem State.setBind_jz (s : State) (n : Nat) (r : BindRt) : (s.setBind n r).jz = s.jz := rfl
@[simp] theorem State.setBind_host (s : State) (n : Nat) (r : BindRt) : (s.setBind n r).host = s.host := rfl
@[simp] theorem State.setBind_cans (s : State) (n : Nat) (r : BindRt) : (s.setBind n r).cans = s.cans := rfl
@[simp] theorem State.setBind_field (s : State) (n : Nat) (r : BindRt) : (s.setBind n r).field = s.field := rfl
@[simp] theorem State.setBind_safety (s : State) (n : Nat) (r : BindRt) : (s.setBind n r).safety = s.safety := rfl
@[simp] theorem State.setBind_thermal (s : State) (n : Nat) (r : BindRt) : (s.setBind n r).thermal = s.thermal := rfl
@[simp] theorem State.setBind_power (s : State) (n : Nat) (r : BindRt) : (s.setBind n r).power = s.power := rfl
@[simp] theorem State.setBind_nv (s : State) (n : Nat) (r : BindRt) : (s.setBind n r).nv = s.nv := rfl
@[simp] theorem State.setBind_get (s : State) (n : Nat) (r : BindRt) (k : Nat) : (s.setBind n r).get k = s.get k := rfl
@[simp] theorem State.setBind_bind_same (s : State) (n : Nat) (r : BindRt) : (s.setBind n r).bind n = r := Sparse.get_put_same ..
theorem State.setBind_bind_other (s : State) {n m : Nat} (r : BindRt) (h : m ≠ n) : (s.setBind n r).bind m = s.bind m :=
  Sparse.get_put_other _ _ _ h
@[simp] theorem State.put_bind (s : State) (k : Nat) (v : Int) (n : Nat) : (s.put k v).bind n = s.bind n := rfl

/-! ### setCan -/

@[simp] theorem State.setCan_regs (s : State) (n : Nat) (r : CanRt) : (s.setCan n r).regs = s.regs := rfl
@[simp] theorem State.setCan_mem (s : State) (n : Nat) (r : CanRt) : (s.setCan n r).mem = s.mem := rfl
@[simp] theorem State.setCan_pending (s : State) (n : Nat) (r : CanRt) : (s.setCan n r).pending = s.pending := rfl
@[simp] theorem State.setCan_resp (s : State) (n : Nat) (r : CanRt) : (s.setCan n r).resp = s.resp := rfl
@[simp] theorem State.setCan_sent (s : State) (n : Nat) (r : CanRt) : (s.setCan n r).sent = s.sent := rfl
@[simp] theorem State.setCan_free (s : State) (n : Nat) (r : CanRt) : (s.setCan n r).free = s.free := rfl
@[simp] theorem State.setCan_sessions (s : State) (n : Nat) (r : CanRt) : (s.setCan n r).sessions = s.sessions := rfl
@[simp] theorem State.setCan_lastSession (s : State) (n : Nat) (r : CanRt) : (s.setCan n r).lastSession = s.lastSession := rfl
@[simp] theorem State.setCan_commits (s : State) (n : Nat) (r : CanRt) : (s.setCan n r).commits = s.commits := rfl
@[simp] theorem State.setCan_slotNow (s : State) (n : Nat) (r : CanRt) : (s.setCan n r).slotNow = s.slotNow := rfl
@[simp] theorem State.setCan_hostWrites (s : State) (n : Nat) (r : CanRt) : (s.setCan n r).hostWrites = s.hostWrites := rfl
@[simp] theorem State.setCan_oldVals (s : State) (n : Nat) (r : CanRt) : (s.setCan n r).oldVals = s.oldVals := rfl
@[simp] theorem State.setCan_oldBytes (s : State) (n : Nat) (r : CanRt) : (s.setCan n r).oldBytes = s.oldBytes := rfl
@[simp] theorem State.setCan_axes (s : State) (n : Nat) (r : CanRt) : (s.setCan n r).axes = s.axes := rfl
@[simp] theorem State.setCan_binds (s : State) (n : Nat) (r : CanRt) : (s.setCan n r).binds = s.binds := rfl
@[simp] theorem State.setCan_paths (s : State) (n : Nat) (r : CanRt) : (s.setCan n r).paths = s.paths := rfl
@[simp] theorem State.setCan_grafts (s : State) (n : Nat) (r : CanRt) : (s.setCan n r).grafts = s.grafts := rfl
@[simp] theorem State.setCan_spans (s : State) (n : Nat) (r : CanRt) : (s.setCan n r).spans = s.spans := rfl
@[simp] theorem State.setCan_stitches (s : State) (n : Nat) (r : CanRt) : (s.setCan n r).stitches = s.stitches := rfl
@[simp] theorem State.setCan_origins (s : State) (n : Nat) (r : CanRt) : (s.setCan n r).origins = s.origins := rfl
@[simp] theorem State.setCan_row (s : State) (n : Nat) (r : CanRt) : (s.setCan n r).row = s.row := rfl
@[simp] theorem State.setCan_trellis (s : State) (n : Nat) (r : CanRt) : (s.setCan n r).trellis = s.trellis := rfl
@[simp] theorem State.setCan_plant (s : State) (n : Nat) (r : CanRt) : (s.setCan n r).plant = s.plant := rfl
@[simp] theorem State.setCan_snap (s : State) (n : Nat) (r : CanRt) : (s.setCan n r).snap = s.snap := rfl
@[simp] theorem State.setCan_faults (s : State) (n : Nat) (r : CanRt) : (s.setCan n r).faults = s.faults := rfl
@[simp] theorem State.setCan_fbs (s : State) (n : Nat) (r : CanRt) : (s.setCan n r).fbs = s.fbs := rfl
@[simp] theorem State.setCan_cmps (s : State) (n : Nat) (r : CanRt) : (s.setCan n r).cmps = s.cmps := rfl
@[simp] theorem State.setCan_emus (s : State) (n : Nat) (r : CanRt) : (s.setCan n r).emus = s.emus := rfl
@[simp] theorem State.setCan_pwms (s : State) (n : Nat) (r : CanRt) : (s.setCan n r).pwms = s.pwms := rfl
@[simp] theorem State.setCan_focs (s : State) (n : Nat) (r : CanRt) : (s.setCan n r).focs = s.focs := rfl
@[simp] theorem State.setCan_sls (s : State) (n : Nat) (r : CanRt) : (s.setCan n r).sls = s.sls := rfl
@[simp] theorem State.setCan_pvs (s : State) (n : Nat) (r : CanRt) : (s.setCan n r).pvs = s.pvs := rfl
@[simp] theorem State.setCan_lostInputs (s : State) (n : Nat) (r : CanRt) : (s.setCan n r).lostInputs = s.lostInputs := rfl
@[simp] theorem State.setCan_cores (s : State) (n : Nat) (r : CanRt) : (s.setCan n r).cores = s.cores := rfl
@[simp] theorem State.setCan_acq (s : State) (n : Nat) (r : CanRt) : (s.setCan n r).acq = s.acq := rfl
@[simp] theorem State.setCan_marks (s : State) (n : Nat) (r : CanRt) : (s.setCan n r).marks = s.marks := rfl
@[simp] theorem State.setCan_hist (s : State) (n : Nat) (r : CanRt) : (s.setCan n r).hist = s.hist := rfl
@[simp] theorem State.setCan_jz (s : State) (n : Nat) (r : CanRt) : (s.setCan n r).jz = s.jz := rfl
@[simp] theorem State.setCan_host (s : State) (n : Nat) (r : CanRt) : (s.setCan n r).host = s.host := rfl
@[simp] theorem State.setCan_field (s : State) (n : Nat) (r : CanRt) : (s.setCan n r).field = s.field := rfl
@[simp] theorem State.setCan_safety (s : State) (n : Nat) (r : CanRt) : (s.setCan n r).safety = s.safety := rfl
@[simp] theorem State.setCan_thermal (s : State) (n : Nat) (r : CanRt) : (s.setCan n r).thermal = s.thermal := rfl
@[simp] theorem State.setCan_power (s : State) (n : Nat) (r : CanRt) : (s.setCan n r).power = s.power := rfl
@[simp] theorem State.setCan_nv (s : State) (n : Nat) (r : CanRt) : (s.setCan n r).nv = s.nv := rfl
@[simp] theorem State.setCan_get (s : State) (n : Nat) (r : CanRt) (k : Nat) : (s.setCan n r).get k = s.get k := rfl
@[simp] theorem State.setCan_can_same (s : State) (n : Nat) (r : CanRt) : (s.setCan n r).can n = r := Sparse.get_put_same ..
theorem State.setCan_can_other (s : State) {n m : Nat} (r : CanRt) (h : m ≠ n) : (s.setCan n r).can m = s.can m :=
  Sparse.get_put_other _ _ _ h
@[simp] theorem State.put_can (s : State) (k : Nat) (v : Int) (n : Nat) : (s.put k v).can n = s.can n := rfl

/-! ### setCmp -/

@[simp] theorem State.setCmp_regs (s : State) (n : Nat) (r : CmpRt) : (s.setCmp n r).regs = s.regs := rfl
@[simp] theorem State.setCmp_mem (s : State) (n : Nat) (r : CmpRt) : (s.setCmp n r).mem = s.mem := rfl
@[simp] theorem State.setCmp_pending (s : State) (n : Nat) (r : CmpRt) : (s.setCmp n r).pending = s.pending := rfl
@[simp] theorem State.setCmp_resp (s : State) (n : Nat) (r : CmpRt) : (s.setCmp n r).resp = s.resp := rfl
@[simp] theorem State.setCmp_sent (s : State) (n : Nat) (r : CmpRt) : (s.setCmp n r).sent = s.sent := rfl
@[simp] theorem State.setCmp_free (s : State) (n : Nat) (r : CmpRt) : (s.setCmp n r).free = s.free := rfl
@[simp] theorem State.setCmp_sessions (s : State) (n : Nat) (r : CmpRt) : (s.setCmp n r).sessions = s.sessions := rfl
@[simp] theorem State.setCmp_lastSession (s : State) (n : Nat) (r : CmpRt) : (s.setCmp n r).lastSession = s.lastSession := rfl
@[simp] theorem State.setCmp_commits (s : State) (n : Nat) (r : CmpRt) : (s.setCmp n r).commits = s.commits := rfl
@[simp] theorem State.setCmp_slotNow (s : State) (n : Nat) (r : CmpRt) : (s.setCmp n r).slotNow = s.slotNow := rfl
@[simp] theorem State.setCmp_hostWrites (s : State) (n : Nat) (r : CmpRt) : (s.setCmp n r).hostWrites = s.hostWrites := rfl
@[simp] theorem State.setCmp_oldVals (s : State) (n : Nat) (r : CmpRt) : (s.setCmp n r).oldVals = s.oldVals := rfl
@[simp] theorem State.setCmp_oldBytes (s : State) (n : Nat) (r : CmpRt) : (s.setCmp n r).oldBytes = s.oldBytes := rfl
@[simp] theorem State.setCmp_axes (s : State) (n : Nat) (r : CmpRt) : (s.setCmp n r).axes = s.axes := rfl
@[simp] theorem State.setCmp_binds (s : State) (n : Nat) (r : CmpRt) : (s.setCmp n r).binds = s.binds := rfl
@[simp] theorem State.setCmp_paths (s : State) (n : Nat) (r : CmpRt) : (s.setCmp n r).paths = s.paths := rfl
@[simp] theorem State.setCmp_grafts (s : State) (n : Nat) (r : CmpRt) : (s.setCmp n r).grafts = s.grafts := rfl
@[simp] theorem State.setCmp_spans (s : State) (n : Nat) (r : CmpRt) : (s.setCmp n r).spans = s.spans := rfl
@[simp] theorem State.setCmp_stitches (s : State) (n : Nat) (r : CmpRt) : (s.setCmp n r).stitches = s.stitches := rfl
@[simp] theorem State.setCmp_origins (s : State) (n : Nat) (r : CmpRt) : (s.setCmp n r).origins = s.origins := rfl
@[simp] theorem State.setCmp_row (s : State) (n : Nat) (r : CmpRt) : (s.setCmp n r).row = s.row := rfl
@[simp] theorem State.setCmp_trellis (s : State) (n : Nat) (r : CmpRt) : (s.setCmp n r).trellis = s.trellis := rfl
@[simp] theorem State.setCmp_plant (s : State) (n : Nat) (r : CmpRt) : (s.setCmp n r).plant = s.plant := rfl
@[simp] theorem State.setCmp_snap (s : State) (n : Nat) (r : CmpRt) : (s.setCmp n r).snap = s.snap := rfl
@[simp] theorem State.setCmp_faults (s : State) (n : Nat) (r : CmpRt) : (s.setCmp n r).faults = s.faults := rfl
@[simp] theorem State.setCmp_fbs (s : State) (n : Nat) (r : CmpRt) : (s.setCmp n r).fbs = s.fbs := rfl
@[simp] theorem State.setCmp_emus (s : State) (n : Nat) (r : CmpRt) : (s.setCmp n r).emus = s.emus := rfl
@[simp] theorem State.setCmp_pwms (s : State) (n : Nat) (r : CmpRt) : (s.setCmp n r).pwms = s.pwms := rfl
@[simp] theorem State.setCmp_focs (s : State) (n : Nat) (r : CmpRt) : (s.setCmp n r).focs = s.focs := rfl
@[simp] theorem State.setCmp_sls (s : State) (n : Nat) (r : CmpRt) : (s.setCmp n r).sls = s.sls := rfl
@[simp] theorem State.setCmp_pvs (s : State) (n : Nat) (r : CmpRt) : (s.setCmp n r).pvs = s.pvs := rfl
@[simp] theorem State.setCmp_lostInputs (s : State) (n : Nat) (r : CmpRt) : (s.setCmp n r).lostInputs = s.lostInputs := rfl
@[simp] theorem State.setCmp_cores (s : State) (n : Nat) (r : CmpRt) : (s.setCmp n r).cores = s.cores := rfl
@[simp] theorem State.setCmp_acq (s : State) (n : Nat) (r : CmpRt) : (s.setCmp n r).acq = s.acq := rfl
@[simp] theorem State.setCmp_marks (s : State) (n : Nat) (r : CmpRt) : (s.setCmp n r).marks = s.marks := rfl
@[simp] theorem State.setCmp_hist (s : State) (n : Nat) (r : CmpRt) : (s.setCmp n r).hist = s.hist := rfl
@[simp] theorem State.setCmp_jz (s : State) (n : Nat) (r : CmpRt) : (s.setCmp n r).jz = s.jz := rfl
@[simp] theorem State.setCmp_host (s : State) (n : Nat) (r : CmpRt) : (s.setCmp n r).host = s.host := rfl
@[simp] theorem State.setCmp_cans (s : State) (n : Nat) (r : CmpRt) : (s.setCmp n r).cans = s.cans := rfl
@[simp] theorem State.setCmp_field (s : State) (n : Nat) (r : CmpRt) : (s.setCmp n r).field = s.field := rfl
@[simp] theorem State.setCmp_safety (s : State) (n : Nat) (r : CmpRt) : (s.setCmp n r).safety = s.safety := rfl
@[simp] theorem State.setCmp_thermal (s : State) (n : Nat) (r : CmpRt) : (s.setCmp n r).thermal = s.thermal := rfl
@[simp] theorem State.setCmp_power (s : State) (n : Nat) (r : CmpRt) : (s.setCmp n r).power = s.power := rfl
@[simp] theorem State.setCmp_nv (s : State) (n : Nat) (r : CmpRt) : (s.setCmp n r).nv = s.nv := rfl
@[simp] theorem State.setCmp_get (s : State) (n : Nat) (r : CmpRt) (k : Nat) : (s.setCmp n r).get k = s.get k := rfl
@[simp] theorem State.setCmp_cmp_same (s : State) (n : Nat) (r : CmpRt) : (s.setCmp n r).cmp n = r := Sparse.get_put_same ..
theorem State.setCmp_cmp_other (s : State) {n m : Nat} (r : CmpRt) (h : m ≠ n) : (s.setCmp n r).cmp m = s.cmp m :=
  Sparse.get_put_other _ _ _ h
@[simp] theorem State.put_cmp (s : State) (k : Nat) (v : Int) (n : Nat) : (s.put k v).cmp n = s.cmp n := rfl

/-! ### setCore -/

@[simp] theorem State.setCore_regs (s : State) (n : Nat) (r : CoreRt) : (s.setCore n r).regs = s.regs := rfl
@[simp] theorem State.setCore_mem (s : State) (n : Nat) (r : CoreRt) : (s.setCore n r).mem = s.mem := rfl
@[simp] theorem State.setCore_pending (s : State) (n : Nat) (r : CoreRt) : (s.setCore n r).pending = s.pending := rfl
@[simp] theorem State.setCore_resp (s : State) (n : Nat) (r : CoreRt) : (s.setCore n r).resp = s.resp := rfl
@[simp] theorem State.setCore_sent (s : State) (n : Nat) (r : CoreRt) : (s.setCore n r).sent = s.sent := rfl
@[simp] theorem State.setCore_free (s : State) (n : Nat) (r : CoreRt) : (s.setCore n r).free = s.free := rfl
@[simp] theorem State.setCore_sessions (s : State) (n : Nat) (r : CoreRt) : (s.setCore n r).sessions = s.sessions := rfl
@[simp] theorem State.setCore_lastSession (s : State) (n : Nat) (r : CoreRt) : (s.setCore n r).lastSession = s.lastSession := rfl
@[simp] theorem State.setCore_commits (s : State) (n : Nat) (r : CoreRt) : (s.setCore n r).commits = s.commits := rfl
@[simp] theorem State.setCore_slotNow (s : State) (n : Nat) (r : CoreRt) : (s.setCore n r).slotNow = s.slotNow := rfl
@[simp] theorem State.setCore_hostWrites (s : State) (n : Nat) (r : CoreRt) : (s.setCore n r).hostWrites = s.hostWrites := rfl
@[simp] theorem State.setCore_oldVals (s : State) (n : Nat) (r : CoreRt) : (s.setCore n r).oldVals = s.oldVals := rfl
@[simp] theorem State.setCore_oldBytes (s : State) (n : Nat) (r : CoreRt) : (s.setCore n r).oldBytes = s.oldBytes := rfl
@[simp] theorem State.setCore_axes (s : State) (n : Nat) (r : CoreRt) : (s.setCore n r).axes = s.axes := rfl
@[simp] theorem State.setCore_binds (s : State) (n : Nat) (r : CoreRt) : (s.setCore n r).binds = s.binds := rfl
@[simp] theorem State.setCore_paths (s : State) (n : Nat) (r : CoreRt) : (s.setCore n r).paths = s.paths := rfl
@[simp] theorem State.setCore_grafts (s : State) (n : Nat) (r : CoreRt) : (s.setCore n r).grafts = s.grafts := rfl
@[simp] theorem State.setCore_spans (s : State) (n : Nat) (r : CoreRt) : (s.setCore n r).spans = s.spans := rfl
@[simp] theorem State.setCore_stitches (s : State) (n : Nat) (r : CoreRt) : (s.setCore n r).stitches = s.stitches := rfl
@[simp] theorem State.setCore_origins (s : State) (n : Nat) (r : CoreRt) : (s.setCore n r).origins = s.origins := rfl
@[simp] theorem State.setCore_row (s : State) (n : Nat) (r : CoreRt) : (s.setCore n r).row = s.row := rfl
@[simp] theorem State.setCore_trellis (s : State) (n : Nat) (r : CoreRt) : (s.setCore n r).trellis = s.trellis := rfl
@[simp] theorem State.setCore_plant (s : State) (n : Nat) (r : CoreRt) : (s.setCore n r).plant = s.plant := rfl
@[simp] theorem State.setCore_snap (s : State) (n : Nat) (r : CoreRt) : (s.setCore n r).snap = s.snap := rfl
@[simp] theorem State.setCore_faults (s : State) (n : Nat) (r : CoreRt) : (s.setCore n r).faults = s.faults := rfl
@[simp] theorem State.setCore_fbs (s : State) (n : Nat) (r : CoreRt) : (s.setCore n r).fbs = s.fbs := rfl
@[simp] theorem State.setCore_cmps (s : State) (n : Nat) (r : CoreRt) : (s.setCore n r).cmps = s.cmps := rfl
@[simp] theorem State.setCore_emus (s : State) (n : Nat) (r : CoreRt) : (s.setCore n r).emus = s.emus := rfl
@[simp] theorem State.setCore_pwms (s : State) (n : Nat) (r : CoreRt) : (s.setCore n r).pwms = s.pwms := rfl
@[simp] theorem State.setCore_focs (s : State) (n : Nat) (r : CoreRt) : (s.setCore n r).focs = s.focs := rfl
@[simp] theorem State.setCore_sls (s : State) (n : Nat) (r : CoreRt) : (s.setCore n r).sls = s.sls := rfl
@[simp] theorem State.setCore_pvs (s : State) (n : Nat) (r : CoreRt) : (s.setCore n r).pvs = s.pvs := rfl
@[simp] theorem State.setCore_lostInputs (s : State) (n : Nat) (r : CoreRt) : (s.setCore n r).lostInputs = s.lostInputs := rfl
@[simp] theorem State.setCore_acq (s : State) (n : Nat) (r : CoreRt) : (s.setCore n r).acq = s.acq := rfl
@[simp] theorem State.setCore_marks (s : State) (n : Nat) (r : CoreRt) : (s.setCore n r).marks = s.marks := rfl
@[simp] theorem State.setCore_hist (s : State) (n : Nat) (r : CoreRt) : (s.setCore n r).hist = s.hist := rfl
@[simp] theorem State.setCore_jz (s : State) (n : Nat) (r : CoreRt) : (s.setCore n r).jz = s.jz := rfl
@[simp] theorem State.setCore_host (s : State) (n : Nat) (r : CoreRt) : (s.setCore n r).host = s.host := rfl
@[simp] theorem State.setCore_cans (s : State) (n : Nat) (r : CoreRt) : (s.setCore n r).cans = s.cans := rfl
@[simp] theorem State.setCore_field (s : State) (n : Nat) (r : CoreRt) : (s.setCore n r).field = s.field := rfl
@[simp] theorem State.setCore_safety (s : State) (n : Nat) (r : CoreRt) : (s.setCore n r).safety = s.safety := rfl
@[simp] theorem State.setCore_thermal (s : State) (n : Nat) (r : CoreRt) : (s.setCore n r).thermal = s.thermal := rfl
@[simp] theorem State.setCore_power (s : State) (n : Nat) (r : CoreRt) : (s.setCore n r).power = s.power := rfl
@[simp] theorem State.setCore_nv (s : State) (n : Nat) (r : CoreRt) : (s.setCore n r).nv = s.nv := rfl
@[simp] theorem State.setCore_get (s : State) (n : Nat) (r : CoreRt) (k : Nat) : (s.setCore n r).get k = s.get k := rfl
@[simp] theorem State.setCore_core_same (s : State) (n : Nat) (r : CoreRt) : (s.setCore n r).core n = r := Sparse.get_put_same ..
theorem State.setCore_core_other (s : State) {n m : Nat} (r : CoreRt) (h : m ≠ n) : (s.setCore n r).core m = s.core m :=
  Sparse.get_put_other _ _ _ h
@[simp] theorem State.put_core (s : State) (k : Nat) (v : Int) (n : Nat) : (s.put k v).core n = s.core n := rfl

/-! ### setEmu -/

@[simp] theorem State.setEmu_regs (s : State) (n : Nat) (r : EmuRt) : (s.setEmu n r).regs = s.regs := rfl
@[simp] theorem State.setEmu_mem (s : State) (n : Nat) (r : EmuRt) : (s.setEmu n r).mem = s.mem := rfl
@[simp] theorem State.setEmu_pending (s : State) (n : Nat) (r : EmuRt) : (s.setEmu n r).pending = s.pending := rfl
@[simp] theorem State.setEmu_resp (s : State) (n : Nat) (r : EmuRt) : (s.setEmu n r).resp = s.resp := rfl
@[simp] theorem State.setEmu_sent (s : State) (n : Nat) (r : EmuRt) : (s.setEmu n r).sent = s.sent := rfl
@[simp] theorem State.setEmu_free (s : State) (n : Nat) (r : EmuRt) : (s.setEmu n r).free = s.free := rfl
@[simp] theorem State.setEmu_sessions (s : State) (n : Nat) (r : EmuRt) : (s.setEmu n r).sessions = s.sessions := rfl
@[simp] theorem State.setEmu_lastSession (s : State) (n : Nat) (r : EmuRt) : (s.setEmu n r).lastSession = s.lastSession := rfl
@[simp] theorem State.setEmu_commits (s : State) (n : Nat) (r : EmuRt) : (s.setEmu n r).commits = s.commits := rfl
@[simp] theorem State.setEmu_slotNow (s : State) (n : Nat) (r : EmuRt) : (s.setEmu n r).slotNow = s.slotNow := rfl
@[simp] theorem State.setEmu_hostWrites (s : State) (n : Nat) (r : EmuRt) : (s.setEmu n r).hostWrites = s.hostWrites := rfl
@[simp] theorem State.setEmu_oldVals (s : State) (n : Nat) (r : EmuRt) : (s.setEmu n r).oldVals = s.oldVals := rfl
@[simp] theorem State.setEmu_oldBytes (s : State) (n : Nat) (r : EmuRt) : (s.setEmu n r).oldBytes = s.oldBytes := rfl
@[simp] theorem State.setEmu_axes (s : State) (n : Nat) (r : EmuRt) : (s.setEmu n r).axes = s.axes := rfl
@[simp] theorem State.setEmu_binds (s : State) (n : Nat) (r : EmuRt) : (s.setEmu n r).binds = s.binds := rfl
@[simp] theorem State.setEmu_paths (s : State) (n : Nat) (r : EmuRt) : (s.setEmu n r).paths = s.paths := rfl
@[simp] theorem State.setEmu_grafts (s : State) (n : Nat) (r : EmuRt) : (s.setEmu n r).grafts = s.grafts := rfl
@[simp] theorem State.setEmu_spans (s : State) (n : Nat) (r : EmuRt) : (s.setEmu n r).spans = s.spans := rfl
@[simp] theorem State.setEmu_stitches (s : State) (n : Nat) (r : EmuRt) : (s.setEmu n r).stitches = s.stitches := rfl
@[simp] theorem State.setEmu_origins (s : State) (n : Nat) (r : EmuRt) : (s.setEmu n r).origins = s.origins := rfl
@[simp] theorem State.setEmu_row (s : State) (n : Nat) (r : EmuRt) : (s.setEmu n r).row = s.row := rfl
@[simp] theorem State.setEmu_trellis (s : State) (n : Nat) (r : EmuRt) : (s.setEmu n r).trellis = s.trellis := rfl
@[simp] theorem State.setEmu_plant (s : State) (n : Nat) (r : EmuRt) : (s.setEmu n r).plant = s.plant := rfl
@[simp] theorem State.setEmu_snap (s : State) (n : Nat) (r : EmuRt) : (s.setEmu n r).snap = s.snap := rfl
@[simp] theorem State.setEmu_faults (s : State) (n : Nat) (r : EmuRt) : (s.setEmu n r).faults = s.faults := rfl
@[simp] theorem State.setEmu_fbs (s : State) (n : Nat) (r : EmuRt) : (s.setEmu n r).fbs = s.fbs := rfl
@[simp] theorem State.setEmu_cmps (s : State) (n : Nat) (r : EmuRt) : (s.setEmu n r).cmps = s.cmps := rfl
@[simp] theorem State.setEmu_pwms (s : State) (n : Nat) (r : EmuRt) : (s.setEmu n r).pwms = s.pwms := rfl
@[simp] theorem State.setEmu_focs (s : State) (n : Nat) (r : EmuRt) : (s.setEmu n r).focs = s.focs := rfl
@[simp] theorem State.setEmu_sls (s : State) (n : Nat) (r : EmuRt) : (s.setEmu n r).sls = s.sls := rfl
@[simp] theorem State.setEmu_pvs (s : State) (n : Nat) (r : EmuRt) : (s.setEmu n r).pvs = s.pvs := rfl
@[simp] theorem State.setEmu_lostInputs (s : State) (n : Nat) (r : EmuRt) : (s.setEmu n r).lostInputs = s.lostInputs := rfl
@[simp] theorem State.setEmu_cores (s : State) (n : Nat) (r : EmuRt) : (s.setEmu n r).cores = s.cores := rfl
@[simp] theorem State.setEmu_acq (s : State) (n : Nat) (r : EmuRt) : (s.setEmu n r).acq = s.acq := rfl
@[simp] theorem State.setEmu_marks (s : State) (n : Nat) (r : EmuRt) : (s.setEmu n r).marks = s.marks := rfl
@[simp] theorem State.setEmu_hist (s : State) (n : Nat) (r : EmuRt) : (s.setEmu n r).hist = s.hist := rfl
@[simp] theorem State.setEmu_jz (s : State) (n : Nat) (r : EmuRt) : (s.setEmu n r).jz = s.jz := rfl
@[simp] theorem State.setEmu_host (s : State) (n : Nat) (r : EmuRt) : (s.setEmu n r).host = s.host := rfl
@[simp] theorem State.setEmu_cans (s : State) (n : Nat) (r : EmuRt) : (s.setEmu n r).cans = s.cans := rfl
@[simp] theorem State.setEmu_field (s : State) (n : Nat) (r : EmuRt) : (s.setEmu n r).field = s.field := rfl
@[simp] theorem State.setEmu_safety (s : State) (n : Nat) (r : EmuRt) : (s.setEmu n r).safety = s.safety := rfl
@[simp] theorem State.setEmu_thermal (s : State) (n : Nat) (r : EmuRt) : (s.setEmu n r).thermal = s.thermal := rfl
@[simp] theorem State.setEmu_power (s : State) (n : Nat) (r : EmuRt) : (s.setEmu n r).power = s.power := rfl
@[simp] theorem State.setEmu_nv (s : State) (n : Nat) (r : EmuRt) : (s.setEmu n r).nv = s.nv := rfl
@[simp] theorem State.setEmu_get (s : State) (n : Nat) (r : EmuRt) (k : Nat) : (s.setEmu n r).get k = s.get k := rfl
@[simp] theorem State.setEmu_emu_same (s : State) (n : Nat) (r : EmuRt) : (s.setEmu n r).emu n = r := Sparse.get_put_same ..
theorem State.setEmu_emu_other (s : State) {n m : Nat} (r : EmuRt) (h : m ≠ n) : (s.setEmu n r).emu m = s.emu m :=
  Sparse.get_put_other _ _ _ h
@[simp] theorem State.put_emu (s : State) (k : Nat) (v : Int) (n : Nat) : (s.put k v).emu n = s.emu n := rfl

/-! ### setFb -/

@[simp] theorem State.setFb_regs (s : State) (n : Nat) (r : FbRt) : (s.setFb n r).regs = s.regs := rfl
@[simp] theorem State.setFb_mem (s : State) (n : Nat) (r : FbRt) : (s.setFb n r).mem = s.mem := rfl
@[simp] theorem State.setFb_pending (s : State) (n : Nat) (r : FbRt) : (s.setFb n r).pending = s.pending := rfl
@[simp] theorem State.setFb_resp (s : State) (n : Nat) (r : FbRt) : (s.setFb n r).resp = s.resp := rfl
@[simp] theorem State.setFb_sent (s : State) (n : Nat) (r : FbRt) : (s.setFb n r).sent = s.sent := rfl
@[simp] theorem State.setFb_free (s : State) (n : Nat) (r : FbRt) : (s.setFb n r).free = s.free := rfl
@[simp] theorem State.setFb_sessions (s : State) (n : Nat) (r : FbRt) : (s.setFb n r).sessions = s.sessions := rfl
@[simp] theorem State.setFb_lastSession (s : State) (n : Nat) (r : FbRt) : (s.setFb n r).lastSession = s.lastSession := rfl
@[simp] theorem State.setFb_commits (s : State) (n : Nat) (r : FbRt) : (s.setFb n r).commits = s.commits := rfl
@[simp] theorem State.setFb_slotNow (s : State) (n : Nat) (r : FbRt) : (s.setFb n r).slotNow = s.slotNow := rfl
@[simp] theorem State.setFb_hostWrites (s : State) (n : Nat) (r : FbRt) : (s.setFb n r).hostWrites = s.hostWrites := rfl
@[simp] theorem State.setFb_oldVals (s : State) (n : Nat) (r : FbRt) : (s.setFb n r).oldVals = s.oldVals := rfl
@[simp] theorem State.setFb_oldBytes (s : State) (n : Nat) (r : FbRt) : (s.setFb n r).oldBytes = s.oldBytes := rfl
@[simp] theorem State.setFb_axes (s : State) (n : Nat) (r : FbRt) : (s.setFb n r).axes = s.axes := rfl
@[simp] theorem State.setFb_binds (s : State) (n : Nat) (r : FbRt) : (s.setFb n r).binds = s.binds := rfl
@[simp] theorem State.setFb_paths (s : State) (n : Nat) (r : FbRt) : (s.setFb n r).paths = s.paths := rfl
@[simp] theorem State.setFb_grafts (s : State) (n : Nat) (r : FbRt) : (s.setFb n r).grafts = s.grafts := rfl
@[simp] theorem State.setFb_spans (s : State) (n : Nat) (r : FbRt) : (s.setFb n r).spans = s.spans := rfl
@[simp] theorem State.setFb_stitches (s : State) (n : Nat) (r : FbRt) : (s.setFb n r).stitches = s.stitches := rfl
@[simp] theorem State.setFb_origins (s : State) (n : Nat) (r : FbRt) : (s.setFb n r).origins = s.origins := rfl
@[simp] theorem State.setFb_row (s : State) (n : Nat) (r : FbRt) : (s.setFb n r).row = s.row := rfl
@[simp] theorem State.setFb_trellis (s : State) (n : Nat) (r : FbRt) : (s.setFb n r).trellis = s.trellis := rfl
@[simp] theorem State.setFb_plant (s : State) (n : Nat) (r : FbRt) : (s.setFb n r).plant = s.plant := rfl
@[simp] theorem State.setFb_snap (s : State) (n : Nat) (r : FbRt) : (s.setFb n r).snap = s.snap := rfl
@[simp] theorem State.setFb_faults (s : State) (n : Nat) (r : FbRt) : (s.setFb n r).faults = s.faults := rfl
@[simp] theorem State.setFb_cmps (s : State) (n : Nat) (r : FbRt) : (s.setFb n r).cmps = s.cmps := rfl
@[simp] theorem State.setFb_emus (s : State) (n : Nat) (r : FbRt) : (s.setFb n r).emus = s.emus := rfl
@[simp] theorem State.setFb_pwms (s : State) (n : Nat) (r : FbRt) : (s.setFb n r).pwms = s.pwms := rfl
@[simp] theorem State.setFb_focs (s : State) (n : Nat) (r : FbRt) : (s.setFb n r).focs = s.focs := rfl
@[simp] theorem State.setFb_sls (s : State) (n : Nat) (r : FbRt) : (s.setFb n r).sls = s.sls := rfl
@[simp] theorem State.setFb_pvs (s : State) (n : Nat) (r : FbRt) : (s.setFb n r).pvs = s.pvs := rfl
@[simp] theorem State.setFb_lostInputs (s : State) (n : Nat) (r : FbRt) : (s.setFb n r).lostInputs = s.lostInputs := rfl
@[simp] theorem State.setFb_cores (s : State) (n : Nat) (r : FbRt) : (s.setFb n r).cores = s.cores := rfl
@[simp] theorem State.setFb_acq (s : State) (n : Nat) (r : FbRt) : (s.setFb n r).acq = s.acq := rfl
@[simp] theorem State.setFb_marks (s : State) (n : Nat) (r : FbRt) : (s.setFb n r).marks = s.marks := rfl
@[simp] theorem State.setFb_hist (s : State) (n : Nat) (r : FbRt) : (s.setFb n r).hist = s.hist := rfl
@[simp] theorem State.setFb_jz (s : State) (n : Nat) (r : FbRt) : (s.setFb n r).jz = s.jz := rfl
@[simp] theorem State.setFb_host (s : State) (n : Nat) (r : FbRt) : (s.setFb n r).host = s.host := rfl
@[simp] theorem State.setFb_cans (s : State) (n : Nat) (r : FbRt) : (s.setFb n r).cans = s.cans := rfl
@[simp] theorem State.setFb_field (s : State) (n : Nat) (r : FbRt) : (s.setFb n r).field = s.field := rfl
@[simp] theorem State.setFb_safety (s : State) (n : Nat) (r : FbRt) : (s.setFb n r).safety = s.safety := rfl
@[simp] theorem State.setFb_thermal (s : State) (n : Nat) (r : FbRt) : (s.setFb n r).thermal = s.thermal := rfl
@[simp] theorem State.setFb_power (s : State) (n : Nat) (r : FbRt) : (s.setFb n r).power = s.power := rfl
@[simp] theorem State.setFb_nv (s : State) (n : Nat) (r : FbRt) : (s.setFb n r).nv = s.nv := rfl
@[simp] theorem State.setFb_get (s : State) (n : Nat) (r : FbRt) (k : Nat) : (s.setFb n r).get k = s.get k := rfl
@[simp] theorem State.setFb_fb_same (s : State) (n : Nat) (r : FbRt) : (s.setFb n r).fb n = r := Sparse.get_put_same ..
theorem State.setFb_fb_other (s : State) {n m : Nat} (r : FbRt) (h : m ≠ n) : (s.setFb n r).fb m = s.fb m :=
  Sparse.get_put_other _ _ _ h
@[simp] theorem State.put_fb (s : State) (k : Nat) (v : Int) (n : Nat) : (s.put k v).fb n = s.fb n := rfl

/-! ### setFoc -/

@[simp] theorem State.setFoc_regs (s : State) (n : Nat) (r : FocRt) : (s.setFoc n r).regs = s.regs := rfl
@[simp] theorem State.setFoc_mem (s : State) (n : Nat) (r : FocRt) : (s.setFoc n r).mem = s.mem := rfl
@[simp] theorem State.setFoc_pending (s : State) (n : Nat) (r : FocRt) : (s.setFoc n r).pending = s.pending := rfl
@[simp] theorem State.setFoc_resp (s : State) (n : Nat) (r : FocRt) : (s.setFoc n r).resp = s.resp := rfl
@[simp] theorem State.setFoc_sent (s : State) (n : Nat) (r : FocRt) : (s.setFoc n r).sent = s.sent := rfl
@[simp] theorem State.setFoc_free (s : State) (n : Nat) (r : FocRt) : (s.setFoc n r).free = s.free := rfl
@[simp] theorem State.setFoc_sessions (s : State) (n : Nat) (r : FocRt) : (s.setFoc n r).sessions = s.sessions := rfl
@[simp] theorem State.setFoc_lastSession (s : State) (n : Nat) (r : FocRt) : (s.setFoc n r).lastSession = s.lastSession := rfl
@[simp] theorem State.setFoc_commits (s : State) (n : Nat) (r : FocRt) : (s.setFoc n r).commits = s.commits := rfl
@[simp] theorem State.setFoc_slotNow (s : State) (n : Nat) (r : FocRt) : (s.setFoc n r).slotNow = s.slotNow := rfl
@[simp] theorem State.setFoc_hostWrites (s : State) (n : Nat) (r : FocRt) : (s.setFoc n r).hostWrites = s.hostWrites := rfl
@[simp] theorem State.setFoc_oldVals (s : State) (n : Nat) (r : FocRt) : (s.setFoc n r).oldVals = s.oldVals := rfl
@[simp] theorem State.setFoc_oldBytes (s : State) (n : Nat) (r : FocRt) : (s.setFoc n r).oldBytes = s.oldBytes := rfl
@[simp] theorem State.setFoc_axes (s : State) (n : Nat) (r : FocRt) : (s.setFoc n r).axes = s.axes := rfl
@[simp] theorem State.setFoc_binds (s : State) (n : Nat) (r : FocRt) : (s.setFoc n r).binds = s.binds := rfl
@[simp] theorem State.setFoc_paths (s : State) (n : Nat) (r : FocRt) : (s.setFoc n r).paths = s.paths := rfl
@[simp] theorem State.setFoc_grafts (s : State) (n : Nat) (r : FocRt) : (s.setFoc n r).grafts = s.grafts := rfl
@[simp] theorem State.setFoc_spans (s : State) (n : Nat) (r : FocRt) : (s.setFoc n r).spans = s.spans := rfl
@[simp] theorem State.setFoc_stitches (s : State) (n : Nat) (r : FocRt) : (s.setFoc n r).stitches = s.stitches := rfl
@[simp] theorem State.setFoc_origins (s : State) (n : Nat) (r : FocRt) : (s.setFoc n r).origins = s.origins := rfl
@[simp] theorem State.setFoc_row (s : State) (n : Nat) (r : FocRt) : (s.setFoc n r).row = s.row := rfl
@[simp] theorem State.setFoc_trellis (s : State) (n : Nat) (r : FocRt) : (s.setFoc n r).trellis = s.trellis := rfl
@[simp] theorem State.setFoc_plant (s : State) (n : Nat) (r : FocRt) : (s.setFoc n r).plant = s.plant := rfl
@[simp] theorem State.setFoc_snap (s : State) (n : Nat) (r : FocRt) : (s.setFoc n r).snap = s.snap := rfl
@[simp] theorem State.setFoc_faults (s : State) (n : Nat) (r : FocRt) : (s.setFoc n r).faults = s.faults := rfl
@[simp] theorem State.setFoc_fbs (s : State) (n : Nat) (r : FocRt) : (s.setFoc n r).fbs = s.fbs := rfl
@[simp] theorem State.setFoc_cmps (s : State) (n : Nat) (r : FocRt) : (s.setFoc n r).cmps = s.cmps := rfl
@[simp] theorem State.setFoc_emus (s : State) (n : Nat) (r : FocRt) : (s.setFoc n r).emus = s.emus := rfl
@[simp] theorem State.setFoc_pwms (s : State) (n : Nat) (r : FocRt) : (s.setFoc n r).pwms = s.pwms := rfl
@[simp] theorem State.setFoc_sls (s : State) (n : Nat) (r : FocRt) : (s.setFoc n r).sls = s.sls := rfl
@[simp] theorem State.setFoc_pvs (s : State) (n : Nat) (r : FocRt) : (s.setFoc n r).pvs = s.pvs := rfl
@[simp] theorem State.setFoc_lostInputs (s : State) (n : Nat) (r : FocRt) : (s.setFoc n r).lostInputs = s.lostInputs := rfl
@[simp] theorem State.setFoc_cores (s : State) (n : Nat) (r : FocRt) : (s.setFoc n r).cores = s.cores := rfl
@[simp] theorem State.setFoc_acq (s : State) (n : Nat) (r : FocRt) : (s.setFoc n r).acq = s.acq := rfl
@[simp] theorem State.setFoc_marks (s : State) (n : Nat) (r : FocRt) : (s.setFoc n r).marks = s.marks := rfl
@[simp] theorem State.setFoc_hist (s : State) (n : Nat) (r : FocRt) : (s.setFoc n r).hist = s.hist := rfl
@[simp] theorem State.setFoc_jz (s : State) (n : Nat) (r : FocRt) : (s.setFoc n r).jz = s.jz := rfl
@[simp] theorem State.setFoc_host (s : State) (n : Nat) (r : FocRt) : (s.setFoc n r).host = s.host := rfl
@[simp] theorem State.setFoc_cans (s : State) (n : Nat) (r : FocRt) : (s.setFoc n r).cans = s.cans := rfl
@[simp] theorem State.setFoc_field (s : State) (n : Nat) (r : FocRt) : (s.setFoc n r).field = s.field := rfl
@[simp] theorem State.setFoc_safety (s : State) (n : Nat) (r : FocRt) : (s.setFoc n r).safety = s.safety := rfl
@[simp] theorem State.setFoc_thermal (s : State) (n : Nat) (r : FocRt) : (s.setFoc n r).thermal = s.thermal := rfl
@[simp] theorem State.setFoc_power (s : State) (n : Nat) (r : FocRt) : (s.setFoc n r).power = s.power := rfl
@[simp] theorem State.setFoc_nv (s : State) (n : Nat) (r : FocRt) : (s.setFoc n r).nv = s.nv := rfl
@[simp] theorem State.setFoc_get (s : State) (n : Nat) (r : FocRt) (k : Nat) : (s.setFoc n r).get k = s.get k := rfl
@[simp] theorem State.setFoc_foc_same (s : State) (n : Nat) (r : FocRt) : (s.setFoc n r).foc n = r := Sparse.get_put_same ..
theorem State.setFoc_foc_other (s : State) {n m : Nat} (r : FocRt) (h : m ≠ n) : (s.setFoc n r).foc m = s.foc m :=
  Sparse.get_put_other _ _ _ h
@[simp] theorem State.put_foc (s : State) (k : Nat) (v : Int) (n : Nat) : (s.put k v).foc n = s.foc n := rfl

/-! ### setGraft -/

@[simp] theorem State.setGraft_regs (s : State) (n : Nat) (r : GraftRt) : (s.setGraft n r).regs = s.regs := rfl
@[simp] theorem State.setGraft_mem (s : State) (n : Nat) (r : GraftRt) : (s.setGraft n r).mem = s.mem := rfl
@[simp] theorem State.setGraft_pending (s : State) (n : Nat) (r : GraftRt) : (s.setGraft n r).pending = s.pending := rfl
@[simp] theorem State.setGraft_resp (s : State) (n : Nat) (r : GraftRt) : (s.setGraft n r).resp = s.resp := rfl
@[simp] theorem State.setGraft_sent (s : State) (n : Nat) (r : GraftRt) : (s.setGraft n r).sent = s.sent := rfl
@[simp] theorem State.setGraft_free (s : State) (n : Nat) (r : GraftRt) : (s.setGraft n r).free = s.free := rfl
@[simp] theorem State.setGraft_sessions (s : State) (n : Nat) (r : GraftRt) : (s.setGraft n r).sessions = s.sessions := rfl
@[simp] theorem State.setGraft_lastSession (s : State) (n : Nat) (r : GraftRt) : (s.setGraft n r).lastSession = s.lastSession := rfl
@[simp] theorem State.setGraft_commits (s : State) (n : Nat) (r : GraftRt) : (s.setGraft n r).commits = s.commits := rfl
@[simp] theorem State.setGraft_slotNow (s : State) (n : Nat) (r : GraftRt) : (s.setGraft n r).slotNow = s.slotNow := rfl
@[simp] theorem State.setGraft_hostWrites (s : State) (n : Nat) (r : GraftRt) : (s.setGraft n r).hostWrites = s.hostWrites := rfl
@[simp] theorem State.setGraft_oldVals (s : State) (n : Nat) (r : GraftRt) : (s.setGraft n r).oldVals = s.oldVals := rfl
@[simp] theorem State.setGraft_oldBytes (s : State) (n : Nat) (r : GraftRt) : (s.setGraft n r).oldBytes = s.oldBytes := rfl
@[simp] theorem State.setGraft_axes (s : State) (n : Nat) (r : GraftRt) : (s.setGraft n r).axes = s.axes := rfl
@[simp] theorem State.setGraft_binds (s : State) (n : Nat) (r : GraftRt) : (s.setGraft n r).binds = s.binds := rfl
@[simp] theorem State.setGraft_paths (s : State) (n : Nat) (r : GraftRt) : (s.setGraft n r).paths = s.paths := rfl
@[simp] theorem State.setGraft_spans (s : State) (n : Nat) (r : GraftRt) : (s.setGraft n r).spans = s.spans := rfl
@[simp] theorem State.setGraft_stitches (s : State) (n : Nat) (r : GraftRt) : (s.setGraft n r).stitches = s.stitches := rfl
@[simp] theorem State.setGraft_origins (s : State) (n : Nat) (r : GraftRt) : (s.setGraft n r).origins = s.origins := rfl
@[simp] theorem State.setGraft_row (s : State) (n : Nat) (r : GraftRt) : (s.setGraft n r).row = s.row := rfl
@[simp] theorem State.setGraft_trellis (s : State) (n : Nat) (r : GraftRt) : (s.setGraft n r).trellis = s.trellis := rfl
@[simp] theorem State.setGraft_plant (s : State) (n : Nat) (r : GraftRt) : (s.setGraft n r).plant = s.plant := rfl
@[simp] theorem State.setGraft_snap (s : State) (n : Nat) (r : GraftRt) : (s.setGraft n r).snap = s.snap := rfl
@[simp] theorem State.setGraft_faults (s : State) (n : Nat) (r : GraftRt) : (s.setGraft n r).faults = s.faults := rfl
@[simp] theorem State.setGraft_fbs (s : State) (n : Nat) (r : GraftRt) : (s.setGraft n r).fbs = s.fbs := rfl
@[simp] theorem State.setGraft_cmps (s : State) (n : Nat) (r : GraftRt) : (s.setGraft n r).cmps = s.cmps := rfl
@[simp] theorem State.setGraft_emus (s : State) (n : Nat) (r : GraftRt) : (s.setGraft n r).emus = s.emus := rfl
@[simp] theorem State.setGraft_pwms (s : State) (n : Nat) (r : GraftRt) : (s.setGraft n r).pwms = s.pwms := rfl
@[simp] theorem State.setGraft_focs (s : State) (n : Nat) (r : GraftRt) : (s.setGraft n r).focs = s.focs := rfl
@[simp] theorem State.setGraft_sls (s : State) (n : Nat) (r : GraftRt) : (s.setGraft n r).sls = s.sls := rfl
@[simp] theorem State.setGraft_pvs (s : State) (n : Nat) (r : GraftRt) : (s.setGraft n r).pvs = s.pvs := rfl
@[simp] theorem State.setGraft_lostInputs (s : State) (n : Nat) (r : GraftRt) : (s.setGraft n r).lostInputs = s.lostInputs := rfl
@[simp] theorem State.setGraft_cores (s : State) (n : Nat) (r : GraftRt) : (s.setGraft n r).cores = s.cores := rfl
@[simp] theorem State.setGraft_acq (s : State) (n : Nat) (r : GraftRt) : (s.setGraft n r).acq = s.acq := rfl
@[simp] theorem State.setGraft_marks (s : State) (n : Nat) (r : GraftRt) : (s.setGraft n r).marks = s.marks := rfl
@[simp] theorem State.setGraft_hist (s : State) (n : Nat) (r : GraftRt) : (s.setGraft n r).hist = s.hist := rfl
@[simp] theorem State.setGraft_jz (s : State) (n : Nat) (r : GraftRt) : (s.setGraft n r).jz = s.jz := rfl
@[simp] theorem State.setGraft_host (s : State) (n : Nat) (r : GraftRt) : (s.setGraft n r).host = s.host := rfl
@[simp] theorem State.setGraft_cans (s : State) (n : Nat) (r : GraftRt) : (s.setGraft n r).cans = s.cans := rfl
@[simp] theorem State.setGraft_field (s : State) (n : Nat) (r : GraftRt) : (s.setGraft n r).field = s.field := rfl
@[simp] theorem State.setGraft_safety (s : State) (n : Nat) (r : GraftRt) : (s.setGraft n r).safety = s.safety := rfl
@[simp] theorem State.setGraft_thermal (s : State) (n : Nat) (r : GraftRt) : (s.setGraft n r).thermal = s.thermal := rfl
@[simp] theorem State.setGraft_power (s : State) (n : Nat) (r : GraftRt) : (s.setGraft n r).power = s.power := rfl
@[simp] theorem State.setGraft_nv (s : State) (n : Nat) (r : GraftRt) : (s.setGraft n r).nv = s.nv := rfl
@[simp] theorem State.setGraft_get (s : State) (n : Nat) (r : GraftRt) (k : Nat) : (s.setGraft n r).get k = s.get k := rfl
@[simp] theorem State.setGraft_graft_same (s : State) (n : Nat) (r : GraftRt) : (s.setGraft n r).graft n = r := Sparse.get_put_same ..
theorem State.setGraft_graft_other (s : State) {n m : Nat} (r : GraftRt) (h : m ≠ n) : (s.setGraft n r).graft m = s.graft m :=
  Sparse.get_put_other _ _ _ h
@[simp] theorem State.put_graft (s : State) (k : Nat) (v : Int) (n : Nat) : (s.put k v).graft n = s.graft n := rfl

/-! ### setMark -/

@[simp] theorem State.setMark_regs (s : State) (n : Nat) (r : MarkRt) : (s.setMark n r).regs = s.regs := rfl
@[simp] theorem State.setMark_mem (s : State) (n : Nat) (r : MarkRt) : (s.setMark n r).mem = s.mem := rfl
@[simp] theorem State.setMark_pending (s : State) (n : Nat) (r : MarkRt) : (s.setMark n r).pending = s.pending := rfl
@[simp] theorem State.setMark_resp (s : State) (n : Nat) (r : MarkRt) : (s.setMark n r).resp = s.resp := rfl
@[simp] theorem State.setMark_sent (s : State) (n : Nat) (r : MarkRt) : (s.setMark n r).sent = s.sent := rfl
@[simp] theorem State.setMark_free (s : State) (n : Nat) (r : MarkRt) : (s.setMark n r).free = s.free := rfl
@[simp] theorem State.setMark_sessions (s : State) (n : Nat) (r : MarkRt) : (s.setMark n r).sessions = s.sessions := rfl
@[simp] theorem State.setMark_lastSession (s : State) (n : Nat) (r : MarkRt) : (s.setMark n r).lastSession = s.lastSession := rfl
@[simp] theorem State.setMark_commits (s : State) (n : Nat) (r : MarkRt) : (s.setMark n r).commits = s.commits := rfl
@[simp] theorem State.setMark_slotNow (s : State) (n : Nat) (r : MarkRt) : (s.setMark n r).slotNow = s.slotNow := rfl
@[simp] theorem State.setMark_hostWrites (s : State) (n : Nat) (r : MarkRt) : (s.setMark n r).hostWrites = s.hostWrites := rfl
@[simp] theorem State.setMark_oldVals (s : State) (n : Nat) (r : MarkRt) : (s.setMark n r).oldVals = s.oldVals := rfl
@[simp] theorem State.setMark_oldBytes (s : State) (n : Nat) (r : MarkRt) : (s.setMark n r).oldBytes = s.oldBytes := rfl
@[simp] theorem State.setMark_axes (s : State) (n : Nat) (r : MarkRt) : (s.setMark n r).axes = s.axes := rfl
@[simp] theorem State.setMark_binds (s : State) (n : Nat) (r : MarkRt) : (s.setMark n r).binds = s.binds := rfl
@[simp] theorem State.setMark_paths (s : State) (n : Nat) (r : MarkRt) : (s.setMark n r).paths = s.paths := rfl
@[simp] theorem State.setMark_grafts (s : State) (n : Nat) (r : MarkRt) : (s.setMark n r).grafts = s.grafts := rfl
@[simp] theorem State.setMark_spans (s : State) (n : Nat) (r : MarkRt) : (s.setMark n r).spans = s.spans := rfl
@[simp] theorem State.setMark_stitches (s : State) (n : Nat) (r : MarkRt) : (s.setMark n r).stitches = s.stitches := rfl
@[simp] theorem State.setMark_origins (s : State) (n : Nat) (r : MarkRt) : (s.setMark n r).origins = s.origins := rfl
@[simp] theorem State.setMark_row (s : State) (n : Nat) (r : MarkRt) : (s.setMark n r).row = s.row := rfl
@[simp] theorem State.setMark_trellis (s : State) (n : Nat) (r : MarkRt) : (s.setMark n r).trellis = s.trellis := rfl
@[simp] theorem State.setMark_plant (s : State) (n : Nat) (r : MarkRt) : (s.setMark n r).plant = s.plant := rfl
@[simp] theorem State.setMark_snap (s : State) (n : Nat) (r : MarkRt) : (s.setMark n r).snap = s.snap := rfl
@[simp] theorem State.setMark_faults (s : State) (n : Nat) (r : MarkRt) : (s.setMark n r).faults = s.faults := rfl
@[simp] theorem State.setMark_fbs (s : State) (n : Nat) (r : MarkRt) : (s.setMark n r).fbs = s.fbs := rfl
@[simp] theorem State.setMark_cmps (s : State) (n : Nat) (r : MarkRt) : (s.setMark n r).cmps = s.cmps := rfl
@[simp] theorem State.setMark_emus (s : State) (n : Nat) (r : MarkRt) : (s.setMark n r).emus = s.emus := rfl
@[simp] theorem State.setMark_pwms (s : State) (n : Nat) (r : MarkRt) : (s.setMark n r).pwms = s.pwms := rfl
@[simp] theorem State.setMark_focs (s : State) (n : Nat) (r : MarkRt) : (s.setMark n r).focs = s.focs := rfl
@[simp] theorem State.setMark_sls (s : State) (n : Nat) (r : MarkRt) : (s.setMark n r).sls = s.sls := rfl
@[simp] theorem State.setMark_pvs (s : State) (n : Nat) (r : MarkRt) : (s.setMark n r).pvs = s.pvs := rfl
@[simp] theorem State.setMark_lostInputs (s : State) (n : Nat) (r : MarkRt) : (s.setMark n r).lostInputs = s.lostInputs := rfl
@[simp] theorem State.setMark_cores (s : State) (n : Nat) (r : MarkRt) : (s.setMark n r).cores = s.cores := rfl
@[simp] theorem State.setMark_acq (s : State) (n : Nat) (r : MarkRt) : (s.setMark n r).acq = s.acq := rfl
@[simp] theorem State.setMark_hist (s : State) (n : Nat) (r : MarkRt) : (s.setMark n r).hist = s.hist := rfl
@[simp] theorem State.setMark_jz (s : State) (n : Nat) (r : MarkRt) : (s.setMark n r).jz = s.jz := rfl
@[simp] theorem State.setMark_host (s : State) (n : Nat) (r : MarkRt) : (s.setMark n r).host = s.host := rfl
@[simp] theorem State.setMark_cans (s : State) (n : Nat) (r : MarkRt) : (s.setMark n r).cans = s.cans := rfl
@[simp] theorem State.setMark_field (s : State) (n : Nat) (r : MarkRt) : (s.setMark n r).field = s.field := rfl
@[simp] theorem State.setMark_safety (s : State) (n : Nat) (r : MarkRt) : (s.setMark n r).safety = s.safety := rfl
@[simp] theorem State.setMark_thermal (s : State) (n : Nat) (r : MarkRt) : (s.setMark n r).thermal = s.thermal := rfl
@[simp] theorem State.setMark_power (s : State) (n : Nat) (r : MarkRt) : (s.setMark n r).power = s.power := rfl
@[simp] theorem State.setMark_nv (s : State) (n : Nat) (r : MarkRt) : (s.setMark n r).nv = s.nv := rfl
@[simp] theorem State.setMark_get (s : State) (n : Nat) (r : MarkRt) (k : Nat) : (s.setMark n r).get k = s.get k := rfl
@[simp] theorem State.setMark_mark_same (s : State) (n : Nat) (r : MarkRt) : (s.setMark n r).mark n = r := Sparse.get_put_same ..
theorem State.setMark_mark_other (s : State) {n m : Nat} (r : MarkRt) (h : m ≠ n) : (s.setMark n r).mark m = s.mark m :=
  Sparse.get_put_other _ _ _ h
@[simp] theorem State.put_mark (s : State) (k : Nat) (v : Int) (n : Nat) : (s.put k v).mark n = s.mark n := rfl

/-! ### setOrigin -/

@[simp] theorem State.setOrigin_regs (s : State) (n : Nat) (r : OriginRt) : (s.setOrigin n r).regs = s.regs := rfl
@[simp] theorem State.setOrigin_mem (s : State) (n : Nat) (r : OriginRt) : (s.setOrigin n r).mem = s.mem := rfl
@[simp] theorem State.setOrigin_pending (s : State) (n : Nat) (r : OriginRt) : (s.setOrigin n r).pending = s.pending := rfl
@[simp] theorem State.setOrigin_resp (s : State) (n : Nat) (r : OriginRt) : (s.setOrigin n r).resp = s.resp := rfl
@[simp] theorem State.setOrigin_sent (s : State) (n : Nat) (r : OriginRt) : (s.setOrigin n r).sent = s.sent := rfl
@[simp] theorem State.setOrigin_free (s : State) (n : Nat) (r : OriginRt) : (s.setOrigin n r).free = s.free := rfl
@[simp] theorem State.setOrigin_sessions (s : State) (n : Nat) (r : OriginRt) : (s.setOrigin n r).sessions = s.sessions := rfl
@[simp] theorem State.setOrigin_lastSession (s : State) (n : Nat) (r : OriginRt) : (s.setOrigin n r).lastSession = s.lastSession := rfl
@[simp] theorem State.setOrigin_commits (s : State) (n : Nat) (r : OriginRt) : (s.setOrigin n r).commits = s.commits := rfl
@[simp] theorem State.setOrigin_slotNow (s : State) (n : Nat) (r : OriginRt) : (s.setOrigin n r).slotNow = s.slotNow := rfl
@[simp] theorem State.setOrigin_hostWrites (s : State) (n : Nat) (r : OriginRt) : (s.setOrigin n r).hostWrites = s.hostWrites := rfl
@[simp] theorem State.setOrigin_oldVals (s : State) (n : Nat) (r : OriginRt) : (s.setOrigin n r).oldVals = s.oldVals := rfl
@[simp] theorem State.setOrigin_oldBytes (s : State) (n : Nat) (r : OriginRt) : (s.setOrigin n r).oldBytes = s.oldBytes := rfl
@[simp] theorem State.setOrigin_axes (s : State) (n : Nat) (r : OriginRt) : (s.setOrigin n r).axes = s.axes := rfl
@[simp] theorem State.setOrigin_binds (s : State) (n : Nat) (r : OriginRt) : (s.setOrigin n r).binds = s.binds := rfl
@[simp] theorem State.setOrigin_paths (s : State) (n : Nat) (r : OriginRt) : (s.setOrigin n r).paths = s.paths := rfl
@[simp] theorem State.setOrigin_grafts (s : State) (n : Nat) (r : OriginRt) : (s.setOrigin n r).grafts = s.grafts := rfl
@[simp] theorem State.setOrigin_spans (s : State) (n : Nat) (r : OriginRt) : (s.setOrigin n r).spans = s.spans := rfl
@[simp] theorem State.setOrigin_stitches (s : State) (n : Nat) (r : OriginRt) : (s.setOrigin n r).stitches = s.stitches := rfl
@[simp] theorem State.setOrigin_row (s : State) (n : Nat) (r : OriginRt) : (s.setOrigin n r).row = s.row := rfl
@[simp] theorem State.setOrigin_trellis (s : State) (n : Nat) (r : OriginRt) : (s.setOrigin n r).trellis = s.trellis := rfl
@[simp] theorem State.setOrigin_plant (s : State) (n : Nat) (r : OriginRt) : (s.setOrigin n r).plant = s.plant := rfl
@[simp] theorem State.setOrigin_snap (s : State) (n : Nat) (r : OriginRt) : (s.setOrigin n r).snap = s.snap := rfl
@[simp] theorem State.setOrigin_faults (s : State) (n : Nat) (r : OriginRt) : (s.setOrigin n r).faults = s.faults := rfl
@[simp] theorem State.setOrigin_fbs (s : State) (n : Nat) (r : OriginRt) : (s.setOrigin n r).fbs = s.fbs := rfl
@[simp] theorem State.setOrigin_cmps (s : State) (n : Nat) (r : OriginRt) : (s.setOrigin n r).cmps = s.cmps := rfl
@[simp] theorem State.setOrigin_emus (s : State) (n : Nat) (r : OriginRt) : (s.setOrigin n r).emus = s.emus := rfl
@[simp] theorem State.setOrigin_pwms (s : State) (n : Nat) (r : OriginRt) : (s.setOrigin n r).pwms = s.pwms := rfl
@[simp] theorem State.setOrigin_focs (s : State) (n : Nat) (r : OriginRt) : (s.setOrigin n r).focs = s.focs := rfl
@[simp] theorem State.setOrigin_sls (s : State) (n : Nat) (r : OriginRt) : (s.setOrigin n r).sls = s.sls := rfl
@[simp] theorem State.setOrigin_pvs (s : State) (n : Nat) (r : OriginRt) : (s.setOrigin n r).pvs = s.pvs := rfl
@[simp] theorem State.setOrigin_lostInputs (s : State) (n : Nat) (r : OriginRt) : (s.setOrigin n r).lostInputs = s.lostInputs := rfl
@[simp] theorem State.setOrigin_cores (s : State) (n : Nat) (r : OriginRt) : (s.setOrigin n r).cores = s.cores := rfl
@[simp] theorem State.setOrigin_acq (s : State) (n : Nat) (r : OriginRt) : (s.setOrigin n r).acq = s.acq := rfl
@[simp] theorem State.setOrigin_marks (s : State) (n : Nat) (r : OriginRt) : (s.setOrigin n r).marks = s.marks := rfl
@[simp] theorem State.setOrigin_hist (s : State) (n : Nat) (r : OriginRt) : (s.setOrigin n r).hist = s.hist := rfl
@[simp] theorem State.setOrigin_jz (s : State) (n : Nat) (r : OriginRt) : (s.setOrigin n r).jz = s.jz := rfl
@[simp] theorem State.setOrigin_host (s : State) (n : Nat) (r : OriginRt) : (s.setOrigin n r).host = s.host := rfl
@[simp] theorem State.setOrigin_cans (s : State) (n : Nat) (r : OriginRt) : (s.setOrigin n r).cans = s.cans := rfl
@[simp] theorem State.setOrigin_field (s : State) (n : Nat) (r : OriginRt) : (s.setOrigin n r).field = s.field := rfl
@[simp] theorem State.setOrigin_safety (s : State) (n : Nat) (r : OriginRt) : (s.setOrigin n r).safety = s.safety := rfl
@[simp] theorem State.setOrigin_thermal (s : State) (n : Nat) (r : OriginRt) : (s.setOrigin n r).thermal = s.thermal := rfl
@[simp] theorem State.setOrigin_power (s : State) (n : Nat) (r : OriginRt) : (s.setOrigin n r).power = s.power := rfl
@[simp] theorem State.setOrigin_nv (s : State) (n : Nat) (r : OriginRt) : (s.setOrigin n r).nv = s.nv := rfl
@[simp] theorem State.setOrigin_get (s : State) (n : Nat) (r : OriginRt) (k : Nat) : (s.setOrigin n r).get k = s.get k := rfl
@[simp] theorem State.setOrigin_origin_same (s : State) (n : Nat) (r : OriginRt) : (s.setOrigin n r).origin n = r := Sparse.get_put_same ..
theorem State.setOrigin_origin_other (s : State) {n m : Nat} (r : OriginRt) (h : m ≠ n) : (s.setOrigin n r).origin m = s.origin m :=
  Sparse.get_put_other _ _ _ h
@[simp] theorem State.put_origin (s : State) (k : Nat) (v : Int) (n : Nat) : (s.put k v).origin n = s.origin n := rfl

/-! ### setPath -/

@[simp] theorem State.setPath_regs (s : State) (n : Nat) (r : PathRt) : (s.setPath n r).regs = s.regs := rfl
@[simp] theorem State.setPath_mem (s : State) (n : Nat) (r : PathRt) : (s.setPath n r).mem = s.mem := rfl
@[simp] theorem State.setPath_pending (s : State) (n : Nat) (r : PathRt) : (s.setPath n r).pending = s.pending := rfl
@[simp] theorem State.setPath_resp (s : State) (n : Nat) (r : PathRt) : (s.setPath n r).resp = s.resp := rfl
@[simp] theorem State.setPath_sent (s : State) (n : Nat) (r : PathRt) : (s.setPath n r).sent = s.sent := rfl
@[simp] theorem State.setPath_free (s : State) (n : Nat) (r : PathRt) : (s.setPath n r).free = s.free := rfl
@[simp] theorem State.setPath_sessions (s : State) (n : Nat) (r : PathRt) : (s.setPath n r).sessions = s.sessions := rfl
@[simp] theorem State.setPath_lastSession (s : State) (n : Nat) (r : PathRt) : (s.setPath n r).lastSession = s.lastSession := rfl
@[simp] theorem State.setPath_commits (s : State) (n : Nat) (r : PathRt) : (s.setPath n r).commits = s.commits := rfl
@[simp] theorem State.setPath_slotNow (s : State) (n : Nat) (r : PathRt) : (s.setPath n r).slotNow = s.slotNow := rfl
@[simp] theorem State.setPath_hostWrites (s : State) (n : Nat) (r : PathRt) : (s.setPath n r).hostWrites = s.hostWrites := rfl
@[simp] theorem State.setPath_oldVals (s : State) (n : Nat) (r : PathRt) : (s.setPath n r).oldVals = s.oldVals := rfl
@[simp] theorem State.setPath_oldBytes (s : State) (n : Nat) (r : PathRt) : (s.setPath n r).oldBytes = s.oldBytes := rfl
@[simp] theorem State.setPath_axes (s : State) (n : Nat) (r : PathRt) : (s.setPath n r).axes = s.axes := rfl
@[simp] theorem State.setPath_binds (s : State) (n : Nat) (r : PathRt) : (s.setPath n r).binds = s.binds := rfl
@[simp] theorem State.setPath_grafts (s : State) (n : Nat) (r : PathRt) : (s.setPath n r).grafts = s.grafts := rfl
@[simp] theorem State.setPath_spans (s : State) (n : Nat) (r : PathRt) : (s.setPath n r).spans = s.spans := rfl
@[simp] theorem State.setPath_stitches (s : State) (n : Nat) (r : PathRt) : (s.setPath n r).stitches = s.stitches := rfl
@[simp] theorem State.setPath_origins (s : State) (n : Nat) (r : PathRt) : (s.setPath n r).origins = s.origins := rfl
@[simp] theorem State.setPath_row (s : State) (n : Nat) (r : PathRt) : (s.setPath n r).row = s.row := rfl
@[simp] theorem State.setPath_trellis (s : State) (n : Nat) (r : PathRt) : (s.setPath n r).trellis = s.trellis := rfl
@[simp] theorem State.setPath_plant (s : State) (n : Nat) (r : PathRt) : (s.setPath n r).plant = s.plant := rfl
@[simp] theorem State.setPath_snap (s : State) (n : Nat) (r : PathRt) : (s.setPath n r).snap = s.snap := rfl
@[simp] theorem State.setPath_faults (s : State) (n : Nat) (r : PathRt) : (s.setPath n r).faults = s.faults := rfl
@[simp] theorem State.setPath_fbs (s : State) (n : Nat) (r : PathRt) : (s.setPath n r).fbs = s.fbs := rfl
@[simp] theorem State.setPath_cmps (s : State) (n : Nat) (r : PathRt) : (s.setPath n r).cmps = s.cmps := rfl
@[simp] theorem State.setPath_emus (s : State) (n : Nat) (r : PathRt) : (s.setPath n r).emus = s.emus := rfl
@[simp] theorem State.setPath_pwms (s : State) (n : Nat) (r : PathRt) : (s.setPath n r).pwms = s.pwms := rfl
@[simp] theorem State.setPath_focs (s : State) (n : Nat) (r : PathRt) : (s.setPath n r).focs = s.focs := rfl
@[simp] theorem State.setPath_sls (s : State) (n : Nat) (r : PathRt) : (s.setPath n r).sls = s.sls := rfl
@[simp] theorem State.setPath_pvs (s : State) (n : Nat) (r : PathRt) : (s.setPath n r).pvs = s.pvs := rfl
@[simp] theorem State.setPath_lostInputs (s : State) (n : Nat) (r : PathRt) : (s.setPath n r).lostInputs = s.lostInputs := rfl
@[simp] theorem State.setPath_cores (s : State) (n : Nat) (r : PathRt) : (s.setPath n r).cores = s.cores := rfl
@[simp] theorem State.setPath_acq (s : State) (n : Nat) (r : PathRt) : (s.setPath n r).acq = s.acq := rfl
@[simp] theorem State.setPath_marks (s : State) (n : Nat) (r : PathRt) : (s.setPath n r).marks = s.marks := rfl
@[simp] theorem State.setPath_hist (s : State) (n : Nat) (r : PathRt) : (s.setPath n r).hist = s.hist := rfl
@[simp] theorem State.setPath_jz (s : State) (n : Nat) (r : PathRt) : (s.setPath n r).jz = s.jz := rfl
@[simp] theorem State.setPath_host (s : State) (n : Nat) (r : PathRt) : (s.setPath n r).host = s.host := rfl
@[simp] theorem State.setPath_cans (s : State) (n : Nat) (r : PathRt) : (s.setPath n r).cans = s.cans := rfl
@[simp] theorem State.setPath_field (s : State) (n : Nat) (r : PathRt) : (s.setPath n r).field = s.field := rfl
@[simp] theorem State.setPath_safety (s : State) (n : Nat) (r : PathRt) : (s.setPath n r).safety = s.safety := rfl
@[simp] theorem State.setPath_thermal (s : State) (n : Nat) (r : PathRt) : (s.setPath n r).thermal = s.thermal := rfl
@[simp] theorem State.setPath_power (s : State) (n : Nat) (r : PathRt) : (s.setPath n r).power = s.power := rfl
@[simp] theorem State.setPath_nv (s : State) (n : Nat) (r : PathRt) : (s.setPath n r).nv = s.nv := rfl
@[simp] theorem State.setPath_get (s : State) (n : Nat) (r : PathRt) (k : Nat) : (s.setPath n r).get k = s.get k := rfl
@[simp] theorem State.setPath_path_same (s : State) (n : Nat) (r : PathRt) : (s.setPath n r).path n = r := Sparse.get_put_same ..
theorem State.setPath_path_other (s : State) {n m : Nat} (r : PathRt) (h : m ≠ n) : (s.setPath n r).path m = s.path m :=
  Sparse.get_put_other _ _ _ h
@[simp] theorem State.put_path (s : State) (k : Nat) (v : Int) (n : Nat) : (s.put k v).path n = s.path n := rfl

/-! ### setPwm -/

@[simp] theorem State.setPwm_regs (s : State) (n : Nat) (r : PwmRt) : (s.setPwm n r).regs = s.regs := rfl
@[simp] theorem State.setPwm_mem (s : State) (n : Nat) (r : PwmRt) : (s.setPwm n r).mem = s.mem := rfl
@[simp] theorem State.setPwm_pending (s : State) (n : Nat) (r : PwmRt) : (s.setPwm n r).pending = s.pending := rfl
@[simp] theorem State.setPwm_resp (s : State) (n : Nat) (r : PwmRt) : (s.setPwm n r).resp = s.resp := rfl
@[simp] theorem State.setPwm_sent (s : State) (n : Nat) (r : PwmRt) : (s.setPwm n r).sent = s.sent := rfl
@[simp] theorem State.setPwm_free (s : State) (n : Nat) (r : PwmRt) : (s.setPwm n r).free = s.free := rfl
@[simp] theorem State.setPwm_sessions (s : State) (n : Nat) (r : PwmRt) : (s.setPwm n r).sessions = s.sessions := rfl
@[simp] theorem State.setPwm_lastSession (s : State) (n : Nat) (r : PwmRt) : (s.setPwm n r).lastSession = s.lastSession := rfl
@[simp] theorem State.setPwm_commits (s : State) (n : Nat) (r : PwmRt) : (s.setPwm n r).commits = s.commits := rfl
@[simp] theorem State.setPwm_slotNow (s : State) (n : Nat) (r : PwmRt) : (s.setPwm n r).slotNow = s.slotNow := rfl
@[simp] theorem State.setPwm_hostWrites (s : State) (n : Nat) (r : PwmRt) : (s.setPwm n r).hostWrites = s.hostWrites := rfl
@[simp] theorem State.setPwm_oldVals (s : State) (n : Nat) (r : PwmRt) : (s.setPwm n r).oldVals = s.oldVals := rfl
@[simp] theorem State.setPwm_oldBytes (s : State) (n : Nat) (r : PwmRt) : (s.setPwm n r).oldBytes = s.oldBytes := rfl
@[simp] theorem State.setPwm_axes (s : State) (n : Nat) (r : PwmRt) : (s.setPwm n r).axes = s.axes := rfl
@[simp] theorem State.setPwm_binds (s : State) (n : Nat) (r : PwmRt) : (s.setPwm n r).binds = s.binds := rfl
@[simp] theorem State.setPwm_paths (s : State) (n : Nat) (r : PwmRt) : (s.setPwm n r).paths = s.paths := rfl
@[simp] theorem State.setPwm_grafts (s : State) (n : Nat) (r : PwmRt) : (s.setPwm n r).grafts = s.grafts := rfl
@[simp] theorem State.setPwm_spans (s : State) (n : Nat) (r : PwmRt) : (s.setPwm n r).spans = s.spans := rfl
@[simp] theorem State.setPwm_stitches (s : State) (n : Nat) (r : PwmRt) : (s.setPwm n r).stitches = s.stitches := rfl
@[simp] theorem State.setPwm_origins (s : State) (n : Nat) (r : PwmRt) : (s.setPwm n r).origins = s.origins := rfl
@[simp] theorem State.setPwm_row (s : State) (n : Nat) (r : PwmRt) : (s.setPwm n r).row = s.row := rfl
@[simp] theorem State.setPwm_trellis (s : State) (n : Nat) (r : PwmRt) : (s.setPwm n r).trellis = s.trellis := rfl
@[simp] theorem State.setPwm_plant (s : State) (n : Nat) (r : PwmRt) : (s.setPwm n r).plant = s.plant := rfl
@[simp] theorem State.setPwm_snap (s : State) (n : Nat) (r : PwmRt) : (s.setPwm n r).snap = s.snap := rfl
@[simp] theorem State.setPwm_faults (s : State) (n : Nat) (r : PwmRt) : (s.setPwm n r).faults = s.faults := rfl
@[simp] theorem State.setPwm_fbs (s : State) (n : Nat) (r : PwmRt) : (s.setPwm n r).fbs = s.fbs := rfl
@[simp] theorem State.setPwm_cmps (s : State) (n : Nat) (r : PwmRt) : (s.setPwm n r).cmps = s.cmps := rfl
@[simp] theorem State.setPwm_emus (s : State) (n : Nat) (r : PwmRt) : (s.setPwm n r).emus = s.emus := rfl
@[simp] theorem State.setPwm_focs (s : State) (n : Nat) (r : PwmRt) : (s.setPwm n r).focs = s.focs := rfl
@[simp] theorem State.setPwm_sls (s : State) (n : Nat) (r : PwmRt) : (s.setPwm n r).sls = s.sls := rfl
@[simp] theorem State.setPwm_pvs (s : State) (n : Nat) (r : PwmRt) : (s.setPwm n r).pvs = s.pvs := rfl
@[simp] theorem State.setPwm_lostInputs (s : State) (n : Nat) (r : PwmRt) : (s.setPwm n r).lostInputs = s.lostInputs := rfl
@[simp] theorem State.setPwm_cores (s : State) (n : Nat) (r : PwmRt) : (s.setPwm n r).cores = s.cores := rfl
@[simp] theorem State.setPwm_acq (s : State) (n : Nat) (r : PwmRt) : (s.setPwm n r).acq = s.acq := rfl
@[simp] theorem State.setPwm_marks (s : State) (n : Nat) (r : PwmRt) : (s.setPwm n r).marks = s.marks := rfl
@[simp] theorem State.setPwm_hist (s : State) (n : Nat) (r : PwmRt) : (s.setPwm n r).hist = s.hist := rfl
@[simp] theorem State.setPwm_jz (s : State) (n : Nat) (r : PwmRt) : (s.setPwm n r).jz = s.jz := rfl
@[simp] theorem State.setPwm_host (s : State) (n : Nat) (r : PwmRt) : (s.setPwm n r).host = s.host := rfl
@[simp] theorem State.setPwm_cans (s : State) (n : Nat) (r : PwmRt) : (s.setPwm n r).cans = s.cans := rfl
@[simp] theorem State.setPwm_field (s : State) (n : Nat) (r : PwmRt) : (s.setPwm n r).field = s.field := rfl
@[simp] theorem State.setPwm_safety (s : State) (n : Nat) (r : PwmRt) : (s.setPwm n r).safety = s.safety := rfl
@[simp] theorem State.setPwm_thermal (s : State) (n : Nat) (r : PwmRt) : (s.setPwm n r).thermal = s.thermal := rfl
@[simp] theorem State.setPwm_power (s : State) (n : Nat) (r : PwmRt) : (s.setPwm n r).power = s.power := rfl
@[simp] theorem State.setPwm_nv (s : State) (n : Nat) (r : PwmRt) : (s.setPwm n r).nv = s.nv := rfl
@[simp] theorem State.setPwm_get (s : State) (n : Nat) (r : PwmRt) (k : Nat) : (s.setPwm n r).get k = s.get k := rfl
@[simp] theorem State.setPwm_pwm_same (s : State) (n : Nat) (r : PwmRt) : (s.setPwm n r).pwm n = r := Sparse.get_put_same ..
theorem State.setPwm_pwm_other (s : State) {n m : Nat} (r : PwmRt) (h : m ≠ n) : (s.setPwm n r).pwm m = s.pwm m :=
  Sparse.get_put_other _ _ _ h
@[simp] theorem State.put_pwm (s : State) (k : Nat) (v : Int) (n : Nat) : (s.put k v).pwm n = s.pwm n := rfl

/-! ### setSl -/

@[simp] theorem State.setSl_regs (s : State) (n : Nat) (r : SlRt) : (s.setSl n r).regs = s.regs := rfl
@[simp] theorem State.setSl_mem (s : State) (n : Nat) (r : SlRt) : (s.setSl n r).mem = s.mem := rfl
@[simp] theorem State.setSl_pending (s : State) (n : Nat) (r : SlRt) : (s.setSl n r).pending = s.pending := rfl
@[simp] theorem State.setSl_resp (s : State) (n : Nat) (r : SlRt) : (s.setSl n r).resp = s.resp := rfl
@[simp] theorem State.setSl_sent (s : State) (n : Nat) (r : SlRt) : (s.setSl n r).sent = s.sent := rfl
@[simp] theorem State.setSl_free (s : State) (n : Nat) (r : SlRt) : (s.setSl n r).free = s.free := rfl
@[simp] theorem State.setSl_sessions (s : State) (n : Nat) (r : SlRt) : (s.setSl n r).sessions = s.sessions := rfl
@[simp] theorem State.setSl_lastSession (s : State) (n : Nat) (r : SlRt) : (s.setSl n r).lastSession = s.lastSession := rfl
@[simp] theorem State.setSl_commits (s : State) (n : Nat) (r : SlRt) : (s.setSl n r).commits = s.commits := rfl
@[simp] theorem State.setSl_slotNow (s : State) (n : Nat) (r : SlRt) : (s.setSl n r).slotNow = s.slotNow := rfl
@[simp] theorem State.setSl_hostWrites (s : State) (n : Nat) (r : SlRt) : (s.setSl n r).hostWrites = s.hostWrites := rfl
@[simp] theorem State.setSl_oldVals (s : State) (n : Nat) (r : SlRt) : (s.setSl n r).oldVals = s.oldVals := rfl
@[simp] theorem State.setSl_oldBytes (s : State) (n : Nat) (r : SlRt) : (s.setSl n r).oldBytes = s.oldBytes := rfl
@[simp] theorem State.setSl_axes (s : State) (n : Nat) (r : SlRt) : (s.setSl n r).axes = s.axes := rfl
@[simp] theorem State.setSl_binds (s : State) (n : Nat) (r : SlRt) : (s.setSl n r).binds = s.binds := rfl
@[simp] theorem State.setSl_paths (s : State) (n : Nat) (r : SlRt) : (s.setSl n r).paths = s.paths := rfl
@[simp] theorem State.setSl_grafts (s : State) (n : Nat) (r : SlRt) : (s.setSl n r).grafts = s.grafts := rfl
@[simp] theorem State.setSl_spans (s : State) (n : Nat) (r : SlRt) : (s.setSl n r).spans = s.spans := rfl
@[simp] theorem State.setSl_stitches (s : State) (n : Nat) (r : SlRt) : (s.setSl n r).stitches = s.stitches := rfl
@[simp] theorem State.setSl_origins (s : State) (n : Nat) (r : SlRt) : (s.setSl n r).origins = s.origins := rfl
@[simp] theorem State.setSl_row (s : State) (n : Nat) (r : SlRt) : (s.setSl n r).row = s.row := rfl
@[simp] theorem State.setSl_trellis (s : State) (n : Nat) (r : SlRt) : (s.setSl n r).trellis = s.trellis := rfl
@[simp] theorem State.setSl_plant (s : State) (n : Nat) (r : SlRt) : (s.setSl n r).plant = s.plant := rfl
@[simp] theorem State.setSl_snap (s : State) (n : Nat) (r : SlRt) : (s.setSl n r).snap = s.snap := rfl
@[simp] theorem State.setSl_faults (s : State) (n : Nat) (r : SlRt) : (s.setSl n r).faults = s.faults := rfl
@[simp] theorem State.setSl_fbs (s : State) (n : Nat) (r : SlRt) : (s.setSl n r).fbs = s.fbs := rfl
@[simp] theorem State.setSl_cmps (s : State) (n : Nat) (r : SlRt) : (s.setSl n r).cmps = s.cmps := rfl
@[simp] theorem State.setSl_emus (s : State) (n : Nat) (r : SlRt) : (s.setSl n r).emus = s.emus := rfl
@[simp] theorem State.setSl_pwms (s : State) (n : Nat) (r : SlRt) : (s.setSl n r).pwms = s.pwms := rfl
@[simp] theorem State.setSl_focs (s : State) (n : Nat) (r : SlRt) : (s.setSl n r).focs = s.focs := rfl
@[simp] theorem State.setSl_pvs (s : State) (n : Nat) (r : SlRt) : (s.setSl n r).pvs = s.pvs := rfl
@[simp] theorem State.setSl_lostInputs (s : State) (n : Nat) (r : SlRt) : (s.setSl n r).lostInputs = s.lostInputs := rfl
@[simp] theorem State.setSl_cores (s : State) (n : Nat) (r : SlRt) : (s.setSl n r).cores = s.cores := rfl
@[simp] theorem State.setSl_acq (s : State) (n : Nat) (r : SlRt) : (s.setSl n r).acq = s.acq := rfl
@[simp] theorem State.setSl_marks (s : State) (n : Nat) (r : SlRt) : (s.setSl n r).marks = s.marks := rfl
@[simp] theorem State.setSl_hist (s : State) (n : Nat) (r : SlRt) : (s.setSl n r).hist = s.hist := rfl
@[simp] theorem State.setSl_jz (s : State) (n : Nat) (r : SlRt) : (s.setSl n r).jz = s.jz := rfl
@[simp] theorem State.setSl_host (s : State) (n : Nat) (r : SlRt) : (s.setSl n r).host = s.host := rfl
@[simp] theorem State.setSl_cans (s : State) (n : Nat) (r : SlRt) : (s.setSl n r).cans = s.cans := rfl
@[simp] theorem State.setSl_field (s : State) (n : Nat) (r : SlRt) : (s.setSl n r).field = s.field := rfl
@[simp] theorem State.setSl_safety (s : State) (n : Nat) (r : SlRt) : (s.setSl n r).safety = s.safety := rfl
@[simp] theorem State.setSl_thermal (s : State) (n : Nat) (r : SlRt) : (s.setSl n r).thermal = s.thermal := rfl
@[simp] theorem State.setSl_power (s : State) (n : Nat) (r : SlRt) : (s.setSl n r).power = s.power := rfl
@[simp] theorem State.setSl_nv (s : State) (n : Nat) (r : SlRt) : (s.setSl n r).nv = s.nv := rfl
@[simp] theorem State.setSl_get (s : State) (n : Nat) (r : SlRt) (k : Nat) : (s.setSl n r).get k = s.get k := rfl
@[simp] theorem State.setSl_sl_same (s : State) (n : Nat) (r : SlRt) : (s.setSl n r).sl n = r := Sparse.get_put_same ..
theorem State.setSl_sl_other (s : State) {n m : Nat} (r : SlRt) (h : m ≠ n) : (s.setSl n r).sl m = s.sl m :=
  Sparse.get_put_other _ _ _ h
@[simp] theorem State.put_sl (s : State) (k : Nat) (v : Int) (n : Nat) : (s.put k v).sl n = s.sl n := rfl

/-! ### setSpan -/

@[simp] theorem State.setSpan_regs (s : State) (n : Nat) (r : SpanRt) : (s.setSpan n r).regs = s.regs := rfl
@[simp] theorem State.setSpan_mem (s : State) (n : Nat) (r : SpanRt) : (s.setSpan n r).mem = s.mem := rfl
@[simp] theorem State.setSpan_pending (s : State) (n : Nat) (r : SpanRt) : (s.setSpan n r).pending = s.pending := rfl
@[simp] theorem State.setSpan_resp (s : State) (n : Nat) (r : SpanRt) : (s.setSpan n r).resp = s.resp := rfl
@[simp] theorem State.setSpan_sent (s : State) (n : Nat) (r : SpanRt) : (s.setSpan n r).sent = s.sent := rfl
@[simp] theorem State.setSpan_free (s : State) (n : Nat) (r : SpanRt) : (s.setSpan n r).free = s.free := rfl
@[simp] theorem State.setSpan_sessions (s : State) (n : Nat) (r : SpanRt) : (s.setSpan n r).sessions = s.sessions := rfl
@[simp] theorem State.setSpan_lastSession (s : State) (n : Nat) (r : SpanRt) : (s.setSpan n r).lastSession = s.lastSession := rfl
@[simp] theorem State.setSpan_commits (s : State) (n : Nat) (r : SpanRt) : (s.setSpan n r).commits = s.commits := rfl
@[simp] theorem State.setSpan_slotNow (s : State) (n : Nat) (r : SpanRt) : (s.setSpan n r).slotNow = s.slotNow := rfl
@[simp] theorem State.setSpan_hostWrites (s : State) (n : Nat) (r : SpanRt) : (s.setSpan n r).hostWrites = s.hostWrites := rfl
@[simp] theorem State.setSpan_oldVals (s : State) (n : Nat) (r : SpanRt) : (s.setSpan n r).oldVals = s.oldVals := rfl
@[simp] theorem State.setSpan_oldBytes (s : State) (n : Nat) (r : SpanRt) : (s.setSpan n r).oldBytes = s.oldBytes := rfl
@[simp] theorem State.setSpan_axes (s : State) (n : Nat) (r : SpanRt) : (s.setSpan n r).axes = s.axes := rfl
@[simp] theorem State.setSpan_binds (s : State) (n : Nat) (r : SpanRt) : (s.setSpan n r).binds = s.binds := rfl
@[simp] theorem State.setSpan_paths (s : State) (n : Nat) (r : SpanRt) : (s.setSpan n r).paths = s.paths := rfl
@[simp] theorem State.setSpan_grafts (s : State) (n : Nat) (r : SpanRt) : (s.setSpan n r).grafts = s.grafts := rfl
@[simp] theorem State.setSpan_stitches (s : State) (n : Nat) (r : SpanRt) : (s.setSpan n r).stitches = s.stitches := rfl
@[simp] theorem State.setSpan_origins (s : State) (n : Nat) (r : SpanRt) : (s.setSpan n r).origins = s.origins := rfl
@[simp] theorem State.setSpan_row (s : State) (n : Nat) (r : SpanRt) : (s.setSpan n r).row = s.row := rfl
@[simp] theorem State.setSpan_trellis (s : State) (n : Nat) (r : SpanRt) : (s.setSpan n r).trellis = s.trellis := rfl
@[simp] theorem State.setSpan_plant (s : State) (n : Nat) (r : SpanRt) : (s.setSpan n r).plant = s.plant := rfl
@[simp] theorem State.setSpan_snap (s : State) (n : Nat) (r : SpanRt) : (s.setSpan n r).snap = s.snap := rfl
@[simp] theorem State.setSpan_faults (s : State) (n : Nat) (r : SpanRt) : (s.setSpan n r).faults = s.faults := rfl
@[simp] theorem State.setSpan_fbs (s : State) (n : Nat) (r : SpanRt) : (s.setSpan n r).fbs = s.fbs := rfl
@[simp] theorem State.setSpan_cmps (s : State) (n : Nat) (r : SpanRt) : (s.setSpan n r).cmps = s.cmps := rfl
@[simp] theorem State.setSpan_emus (s : State) (n : Nat) (r : SpanRt) : (s.setSpan n r).emus = s.emus := rfl
@[simp] theorem State.setSpan_pwms (s : State) (n : Nat) (r : SpanRt) : (s.setSpan n r).pwms = s.pwms := rfl
@[simp] theorem State.setSpan_focs (s : State) (n : Nat) (r : SpanRt) : (s.setSpan n r).focs = s.focs := rfl
@[simp] theorem State.setSpan_sls (s : State) (n : Nat) (r : SpanRt) : (s.setSpan n r).sls = s.sls := rfl
@[simp] theorem State.setSpan_pvs (s : State) (n : Nat) (r : SpanRt) : (s.setSpan n r).pvs = s.pvs := rfl
@[simp] theorem State.setSpan_lostInputs (s : State) (n : Nat) (r : SpanRt) : (s.setSpan n r).lostInputs = s.lostInputs := rfl
@[simp] theorem State.setSpan_cores (s : State) (n : Nat) (r : SpanRt) : (s.setSpan n r).cores = s.cores := rfl
@[simp] theorem State.setSpan_acq (s : State) (n : Nat) (r : SpanRt) : (s.setSpan n r).acq = s.acq := rfl
@[simp] theorem State.setSpan_marks (s : State) (n : Nat) (r : SpanRt) : (s.setSpan n r).marks = s.marks := rfl
@[simp] theorem State.setSpan_hist (s : State) (n : Nat) (r : SpanRt) : (s.setSpan n r).hist = s.hist := rfl
@[simp] theorem State.setSpan_jz (s : State) (n : Nat) (r : SpanRt) : (s.setSpan n r).jz = s.jz := rfl
@[simp] theorem State.setSpan_host (s : State) (n : Nat) (r : SpanRt) : (s.setSpan n r).host = s.host := rfl
@[simp] theorem State.setSpan_cans (s : State) (n : Nat) (r : SpanRt) : (s.setSpan n r).cans = s.cans := rfl
@[simp] theorem State.setSpan_field (s : State) (n : Nat) (r : SpanRt) : (s.setSpan n r).field = s.field := rfl
@[simp] theorem State.setSpan_safety (s : State) (n : Nat) (r : SpanRt) : (s.setSpan n r).safety = s.safety := rfl
@[simp] theorem State.setSpan_thermal (s : State) (n : Nat) (r : SpanRt) : (s.setSpan n r).thermal = s.thermal := rfl
@[simp] theorem State.setSpan_power (s : State) (n : Nat) (r : SpanRt) : (s.setSpan n r).power = s.power := rfl
@[simp] theorem State.setSpan_nv (s : State) (n : Nat) (r : SpanRt) : (s.setSpan n r).nv = s.nv := rfl
@[simp] theorem State.setSpan_get (s : State) (n : Nat) (r : SpanRt) (k : Nat) : (s.setSpan n r).get k = s.get k := rfl
@[simp] theorem State.setSpan_span_same (s : State) (n : Nat) (r : SpanRt) : (s.setSpan n r).span n = r := Sparse.get_put_same ..
theorem State.setSpan_span_other (s : State) {n m : Nat} (r : SpanRt) (h : m ≠ n) : (s.setSpan n r).span m = s.span m :=
  Sparse.get_put_other _ _ _ h
@[simp] theorem State.put_span (s : State) (k : Nat) (v : Int) (n : Nat) : (s.put k v).span n = s.span n := rfl

/-! ### setStitch -/

@[simp] theorem State.setStitch_regs (s : State) (n : Nat) (r : StitchRt) : (s.setStitch n r).regs = s.regs := rfl
@[simp] theorem State.setStitch_mem (s : State) (n : Nat) (r : StitchRt) : (s.setStitch n r).mem = s.mem := rfl
@[simp] theorem State.setStitch_pending (s : State) (n : Nat) (r : StitchRt) : (s.setStitch n r).pending = s.pending := rfl
@[simp] theorem State.setStitch_resp (s : State) (n : Nat) (r : StitchRt) : (s.setStitch n r).resp = s.resp := rfl
@[simp] theorem State.setStitch_sent (s : State) (n : Nat) (r : StitchRt) : (s.setStitch n r).sent = s.sent := rfl
@[simp] theorem State.setStitch_free (s : State) (n : Nat) (r : StitchRt) : (s.setStitch n r).free = s.free := rfl
@[simp] theorem State.setStitch_sessions (s : State) (n : Nat) (r : StitchRt) : (s.setStitch n r).sessions = s.sessions := rfl
@[simp] theorem State.setStitch_lastSession (s : State) (n : Nat) (r : StitchRt) : (s.setStitch n r).lastSession = s.lastSession := rfl
@[simp] theorem State.setStitch_commits (s : State) (n : Nat) (r : StitchRt) : (s.setStitch n r).commits = s.commits := rfl
@[simp] theorem State.setStitch_slotNow (s : State) (n : Nat) (r : StitchRt) : (s.setStitch n r).slotNow = s.slotNow := rfl
@[simp] theorem State.setStitch_hostWrites (s : State) (n : Nat) (r : StitchRt) : (s.setStitch n r).hostWrites = s.hostWrites := rfl
@[simp] theorem State.setStitch_oldVals (s : State) (n : Nat) (r : StitchRt) : (s.setStitch n r).oldVals = s.oldVals := rfl
@[simp] theorem State.setStitch_oldBytes (s : State) (n : Nat) (r : StitchRt) : (s.setStitch n r).oldBytes = s.oldBytes := rfl
@[simp] theorem State.setStitch_axes (s : State) (n : Nat) (r : StitchRt) : (s.setStitch n r).axes = s.axes := rfl
@[simp] theorem State.setStitch_binds (s : State) (n : Nat) (r : StitchRt) : (s.setStitch n r).binds = s.binds := rfl
@[simp] theorem State.setStitch_paths (s : State) (n : Nat) (r : StitchRt) : (s.setStitch n r).paths = s.paths := rfl
@[simp] theorem State.setStitch_grafts (s : State) (n : Nat) (r : StitchRt) : (s.setStitch n r).grafts = s.grafts := rfl
@[simp] theorem State.setStitch_spans (s : State) (n : Nat) (r : StitchRt) : (s.setStitch n r).spans = s.spans := rfl
@[simp] theorem State.setStitch_origins (s : State) (n : Nat) (r : StitchRt) : (s.setStitch n r).origins = s.origins := rfl
@[simp] theorem State.setStitch_row (s : State) (n : Nat) (r : StitchRt) : (s.setStitch n r).row = s.row := rfl
@[simp] theorem State.setStitch_trellis (s : State) (n : Nat) (r : StitchRt) : (s.setStitch n r).trellis = s.trellis := rfl
@[simp] theorem State.setStitch_plant (s : State) (n : Nat) (r : StitchRt) : (s.setStitch n r).plant = s.plant := rfl
@[simp] theorem State.setStitch_snap (s : State) (n : Nat) (r : StitchRt) : (s.setStitch n r).snap = s.snap := rfl
@[simp] theorem State.setStitch_faults (s : State) (n : Nat) (r : StitchRt) : (s.setStitch n r).faults = s.faults := rfl
@[simp] theorem State.setStitch_fbs (s : State) (n : Nat) (r : StitchRt) : (s.setStitch n r).fbs = s.fbs := rfl
@[simp] theorem State.setStitch_cmps (s : State) (n : Nat) (r : StitchRt) : (s.setStitch n r).cmps = s.cmps := rfl
@[simp] theorem State.setStitch_emus (s : State) (n : Nat) (r : StitchRt) : (s.setStitch n r).emus = s.emus := rfl
@[simp] theorem State.setStitch_pwms (s : State) (n : Nat) (r : StitchRt) : (s.setStitch n r).pwms = s.pwms := rfl
@[simp] theorem State.setStitch_focs (s : State) (n : Nat) (r : StitchRt) : (s.setStitch n r).focs = s.focs := rfl
@[simp] theorem State.setStitch_sls (s : State) (n : Nat) (r : StitchRt) : (s.setStitch n r).sls = s.sls := rfl
@[simp] theorem State.setStitch_pvs (s : State) (n : Nat) (r : StitchRt) : (s.setStitch n r).pvs = s.pvs := rfl
@[simp] theorem State.setStitch_lostInputs (s : State) (n : Nat) (r : StitchRt) : (s.setStitch n r).lostInputs = s.lostInputs := rfl
@[simp] theorem State.setStitch_cores (s : State) (n : Nat) (r : StitchRt) : (s.setStitch n r).cores = s.cores := rfl
@[simp] theorem State.setStitch_acq (s : State) (n : Nat) (r : StitchRt) : (s.setStitch n r).acq = s.acq := rfl
@[simp] theorem State.setStitch_marks (s : State) (n : Nat) (r : StitchRt) : (s.setStitch n r).marks = s.marks := rfl
@[simp] theorem State.setStitch_hist (s : State) (n : Nat) (r : StitchRt) : (s.setStitch n r).hist = s.hist := rfl
@[simp] theorem State.setStitch_jz (s : State) (n : Nat) (r : StitchRt) : (s.setStitch n r).jz = s.jz := rfl
@[simp] theorem State.setStitch_host (s : State) (n : Nat) (r : StitchRt) : (s.setStitch n r).host = s.host := rfl
@[simp] theorem State.setStitch_cans (s : State) (n : Nat) (r : StitchRt) : (s.setStitch n r).cans = s.cans := rfl
@[simp] theorem State.setStitch_field (s : State) (n : Nat) (r : StitchRt) : (s.setStitch n r).field = s.field := rfl
@[simp] theorem State.setStitch_safety (s : State) (n : Nat) (r : StitchRt) : (s.setStitch n r).safety = s.safety := rfl
@[simp] theorem State.setStitch_thermal (s : State) (n : Nat) (r : StitchRt) : (s.setStitch n r).thermal = s.thermal := rfl
@[simp] theorem State.setStitch_power (s : State) (n : Nat) (r : StitchRt) : (s.setStitch n r).power = s.power := rfl
@[simp] theorem State.setStitch_nv (s : State) (n : Nat) (r : StitchRt) : (s.setStitch n r).nv = s.nv := rfl
@[simp] theorem State.setStitch_get (s : State) (n : Nat) (r : StitchRt) (k : Nat) : (s.setStitch n r).get k = s.get k := rfl
@[simp] theorem State.setStitch_stitch_same (s : State) (n : Nat) (r : StitchRt) : (s.setStitch n r).stitch n = r := Sparse.get_put_same ..
theorem State.setStitch_stitch_other (s : State) {n m : Nat} (r : StitchRt) (h : m ≠ n) : (s.setStitch n r).stitch m = s.stitch m :=
  Sparse.get_put_other _ _ _ h
@[simp] theorem State.put_stitch (s : State) (k : Nat) (v : Int) (n : Nat) : (s.put k v).stitch n = s.stitch n := rfl

end Sys2Proof.Machine
end

