-- ==== Sys2Proof/Laws/Midopin.lean ====
section
/-! SUPPORT. Laws of the loop cores: what one instruction does to its core between plain bundles. -/

namespace Sys2Proof.Machine

/-- A core without a waiting handler goes on. -/
theorem State.nextHandler_none {s : State} {core : Nat} (h : (s.core core).pendVec = 0) : s.nextHandler core = s := by
  have e : ((List.range 8).find? fun v => (0 : Nat).testBit v) = none := by decide
  unfold State.nextHandler
  rw [h, e]

/-- What an instruction that ends its bundle does to its core, between plain bundles (R310). -/
theorem State.issue_plain {s : State} {core : Nat} (f : CoreRt → Effect) (h : (s.core core).Plain)
    (hs : (f (s.core core)).status = []) (ha : (f (s.core core)).sat = false) (hf : (f (s.core core)).flow ≠ .ret)
    (hd : (f (s.core core)).div = none) (hq : (f (s.core core)).sqrt = none) :
    s.issue ⟨core, false⟩ f =
      ((f (s.core core)).store.foldl (fun s w => s.store (kernelKey w.1) w.2.1 (intLE 8 w.2.2)) s).setCore core
        { s.core core with main := Bank.flow ((f (s.core core)).regs.foldl (fun b w => { b with x := Sparse.insert w.1 w.2 b.x })
            (s.core core).main) (f (s.core core)).flow } := by
  obtain ⟨⟨h1, h2, h3, hbd, hbs, hm⟩, h4, h5, -, -, hp, h8⟩ := h
  simp only [State.issue, hs, ha, State.each, List.foldl_nil, Bool.false_eq_true, if_false, h1, h2, h3, h4, h5, h8, hbd, hbs, hm, hd, hq,
    List.nil_append, CoreRt.bank, CoreRt.setBank, if_true, if_neg hf, Option.filter_none, Option.map_none, Option.or_none,
    State.setCore_core_same]
  exact State.nextHandler_none (by simp [hp])

/-- A register of the bank after a write of another or the same one. -/
theorem lookup_insert (k j : Nat) (v : Int) (l : List (Nat × Int)) :
    (Sparse.insert k v l).lookup j = if j = k then some v else l.lookup j := by
  have step : ∀ (q : Nat) (w : Int) (r : List (Nat × Int)), List.lookup j ((q, w) :: r) = if j = q then some w else r.lookup j := by
    intro q w r
    by_cases h : j = q
    · subst h; simp
    · simp [List.lookup_cons, beq_eq_false_iff_ne.mpr h, h]
  induction l with
  | nil => simp only [Sparse.insert, step, List.lookup_nil]
  | cons p l ih =>
    obtain ⟨q, w⟩ := p
    simp only [Sparse.insert]
    split
    · rw [step]
    · split
      · next h => rw [step, step]; subst h; split <;> simp_all
      · next h => rw [step, step, ih]; split <;> split <;> simp_all

theorem physReg_inj {r k j : Nat} (hk : k < 64) (hj : j < 64) (h : physReg r k = physReg r j) : k = j := by
  unfold physReg at h
  split at h <;> split at h <;> omega

theorem physReg_lt {r k : Nat} (hk : k < 64) : physReg r k < 64 := by
  unfold physReg; split <;> omega

theorem physReg_zero {r k : Nat} (h : physReg r k = 0) : k = 0 := by
  unfold physReg at h; split at h <;> omega

/-- A core's registers after its main bank took one write. -/
theorem CoreRt.reg_write {c : CoreRt} {rd k : Nat} (v : Int) (h : c.Plain) (hr : rd < 64) (h0 : rd ≠ 0) (hk : k < 64) (pc : Nat)
    (b : Option (Nat × Nat)) :
    ({ c with main := { c.main with x := Sparse.insert (physReg c.main.rof rd) v c.main.x, pc := pc, branch := b } } : CoreRt).reg k =
      if k = rd then v else c.reg k := by
  obtain ⟨-, h4, h5, h6, h7, -, h8⟩ := h
  have hp : physReg c.main.rof rd ≠ 0 := fun h => h0 (physReg_zero h)
  simp only [CoreRt.reg, CoreRt.inFlight, CoreRt.bank, h4, h5, h8, Bool.false_eq_true, if_false, Option.getD_none, Bank.phys, lookup_insert]
  by_cases e : k = rd
  · subst e; simp [hp]
  · have : physReg c.main.rof k ≠ physReg c.main.rof rd := fun h => e (physReg_inj hk hr h)
    simp [this, e]

/-- The core after an instruction that only writes one register (R310, R313). -/
theorem State.issue_write {s : State} {core rd : Nat} {v : Int} (f : CoreRt → Effect) (h : (s.core core).Plain)
    (hf : f (s.core core) = { regs := (s.core core).wr rd v }) : s.issue ⟨core, false⟩ f = s.setCore core
      { s.core core with main := { (s.core core).main with
          x := if rd = 0 then (s.core core).main.x else Sparse.insert (physReg (s.core core).main.rof rd) v (s.core core).main.x
          pc := (s.core core).main.pc + 1 } } := by
  rw [State.issue_plain f h (by rw [hf]) (by rw [hf]) (by rw [hf]; simp) (by rw [hf]) (by rw [hf])]
  obtain ⟨-, h4, h5, h6, h7, -, h8⟩ := h
  by_cases e : rd = 0
  · simp [hf, CoreRt.wr, h8, Bank.flow, h6, Bank.advance, h7, e]
  · simp [hf, CoreRt.wr, CoreRt.bank, h8, Bank.flow, h6, Bank.advance, h7, e]

/-- An instruction that only writes one register (R310, R313). -/
theorem State.wrote_issue {s : State} {core rd : Nat} {v : Int} (f : CoreRt → Effect) (h : (s.core core).Plain) (hr : rd < 64)
    (hf : f (s.core core) = { regs := (s.core core).wr rd v }) : s.Wrote (s.issue ⟨core, false⟩ f) core rd v := by
  rw [State.issue_write f h hf]
  refine ⟨⟨rfl, rfl, fun c hc => State.setCore_core_other _ _ hc, ?_⟩, ?_, ?_⟩
  · intro a
    simp only [State.setCore_core_same, CoreRt.acc, CoreRt.bank, h.2.2.2.2.2.2, Bool.false_eq_true, if_false, Bank.phys]
    have : physReg (s.core core).main.rof rd < 64 := physReg_lt hr
    split
    · rfl
    · by_cases e : rd = 0
      · simp only [e, if_true]
      · simp only [e, if_false, lookup_insert, if_neg (show 64 + a % 2 ≠ physReg (s.core core).main.rof rd by omega)]
  · simp only [State.setCore_core_same]
  · intro k hk
    rw [State.setCore_core_same]
    by_cases e : rd = 0
    · simp only [e, if_true, ne_eq, not_true, and_false, if_false, CoreRt.reg, CoreRt.inFlight, CoreRt.bank, h.2.2.2.2.2.2,
        Bool.false_eq_true, Bank.phys]
    · simp only [e, if_false, ne_eq, not_false_iff, and_true]
      exact CoreRt.reg_write v h hr e hk _ _

end Sys2Proof.Machine
end

