-- ==== Sys2Proof/Tests/Slice0.lean ====
section
/-! SUPPORT. The model's own tests: ill-formed commands are refused by the well-formedness check, worked examples of the spec,
and for every statement with hypotheses states and operands that meet them. -/

set_option Elab.async false

open Sys2Proof Sys2Proof.Machine
namespace Sys2Proof.Tests
def regsAt (l : List (Nat × Int)) : State := State.reset.putAll l
def recordState : State :=
  ((regsAt [(Obj.RowStitchTableLength, 1)]).store Obj.RowStitchTable 0 ([9, 0, 4, 0] ++ List.replicate 26 0 ++ [64, 0])).setCore 0
    { stitch := some 4, main := { x := [(13, (Config.recordBase 4).toNat)] } }

theorem recordState_reg : (recordState.core 0).reg 13 = ((Config.recordBase 4).toNat : Int) := rfl
theorem recordState_stitch : (recordState.stitchByOrder 4).map (fun d => d.recLen) = some 64 := by decide +kernel
theorem recordState_at : recordState.recordAt 0 ((recordState.core 0).reg 13) = some (4, 0) := by
  have h := recordState_stitch
  have o : (recordState.core 0).recordOrder = some 4 := rfl
  rw [recordState_reg]
  unfold State.recordAt
  rw [o]
  cases e : recordState.stitchByOrder 4 with
  | none => rw [e] at h; simp at h
  | some d => rw [e] at h; simp at h; simp [e, h]
theorem recordState_wrapped : recordState.recordAt 0 (wrapS 64 ((recordState.core 0).reg 13 + 8 * 0)) = some (4, 0) := by
  have e : wrapS 64 ((recordState.core 0).reg 13 + 8 * 0) = (recordState.core 0).reg 13 := by
    rw [recordState_reg]; have := (Config.recordBase 4).isLt; simp [wrapS]; omega
  rw [e]; exact recordState_at
theorem recordState_plain : (recordState.core 0).Plain := by unfold CoreRt.Plain; decide +kernel

theorem park_of_zero (x y : Int) (th : Nat) (hx : x = 0) (hy : y = 0) : (park x y th).1.natAbs = 0 := by
  subst hx hy; simp [park, rsh, qdiv]

def recData : NvRec := ⟨4, 0, 1, 1, 0, 7, [0], true⟩
def recTrailer : NvRec := ⟨4, 32, 2, 2, 0, 7, natLE 4 1 ++ natLE 4 (crc32 [0]), true⟩
theorem recs_data : txnRecs [recData, recTrailer] 7 1 = [recData] := by
  have h : ([recData, recTrailer].filter fun r => r.txn == 7 && r.kind == 1 && r.committed) = [recData] := by decide +kernel
  unfold txnRecs; rw [h, List.mergeSort_singleton]
theorem recs_trailer : txnRecs [recData, recTrailer] 7 2 = [recTrailer] := by
  have h : ([recData, recTrailer].filter fun r => r.txn == 7 && r.kind == 2 && r.committed) = [recTrailer] := by decide +kernel
  unfold txnRecs; rw [h, List.mergeSort_singleton]
theorem recs_complete : txnComplete [recData, recTrailer] 7 = true := by
  unfold txnComplete; rw [recs_trailer]; simp only [recs_data]; decide +kernel
theorem recs_newest : newestTxn [recData, recTrailer] 0 = some 7 := by
  have h : ([recData, recTrailer].filter fun r =>
      r.kind == 2 && r.committed && r.format == 0 && txnComplete [recData, recTrailer] r.txn) = [recTrailer] := by
    rw [List.filter_cons_of_neg (by simp [recData]), List.filter_cons_of_pos (by
      show (true && true && true && txnComplete [recData, recTrailer] 7) = true
      rw [recs_complete]; rfl), List.filter_nil]
  unfold newestTxn; rw [h]; rfl
def storedState : State :=
  { State.reset with regs := [(Obj.StoreFormat, 0)]
                     power := { State.reset.power with booting := true }
                     nv := { State.reset.nv with records := [recData, recTrailer] } }
theorem storedState_payload : storedState.storedPayload = some ([0], false) := by
  have f : storedState.nat Obj.StoreFormat = 0 := by decide +kernel
  have n : storedState.nv.records = [recData, recTrailer] := rfl
  unfold State.storedPayload
  simp only [f, n, recs_newest, txnBytes, recs_data]
  rfl

theorem keys_range (n : Nat) :
    (((List.range n).map fun i => (⟨i, 0, [0]⟩ : Staged)).map fun e => e.key).dedup.length = n := by
  simp [List.map_map, Function.comp_def, List.nodup_range.dedup]

theorem any_range (n k : Nat) (h : n ≤ k) :
    (((List.range n).map fun i => (⟨i, 0, [0]⟩ : Staged)).any fun e => e.key == k) = false := by
  simp; omega

theorem stageRoom_full (s : State) (n : Nat) (hn : n = 4096)
    (h : s.session 1 = { num := 1, staged := (List.range n).map fun i => ⟨i, 0, [0]⟩ }) :
    s.stageRoom 1 Obj.TickPeriod = false := by
  subst hn
  simp only [State.stageRoom, h, Session.count, keys_range]
  rw [any_range _ _ (by decide)]; simp

theorem witness_StepRunsTheFrontCommand :
    (∃ (s : State), s.pending = []) :=
  ⟨State.reset, by decide +kernel⟩

theorem witness_TickEdgeAndRow :
    (∃ (stamp : Nat) (s : State), s.tick < stamp) ∧
    (∃ (s : State), s.row.window = true) ∧
    (∃ (s : State), s.row.window = false) ∧
    (∃ (o : Nat) (s : State), (s.origin o).onTime.contains s.tick = true ∧ s.faultActive fkInputLate o = false) ∧
    (∃ (o : Nat) (d : Stitch) (s : State), s.oldVals = [] ∧ s.stitchByOrder o = some d ∧ d.kind ≠ kindKernel ∧ (s.core d.core).halted = false ∧ s.row.stopped.testBit d.core = false ∧ s.row.forcedNow.testBit d.core = false ∧ (s.stitch o).finished = false ∧ s.heldBack d = false) ∧
    (∃ (o : Nat) (d : Stitch) (s : State), s.oldVals = [] ∧ s.stitchByOrder o = some d ∧ s.heldBack d = true) ∧
    (∃ (s : State), s.row.checked = false ∧ s.row.forcedNow = 0 ∧ s.row.stopped = 0) ∧
    (∃ (s : State), s.row.checked = true) ∧
    (∃ (n : Nat) (slot : Nat) (data : List Byte) (s : State), s.sessionOk n = true ∧ s.power.recovery = false ∧ slot < 4096 ∧ data.length = 8 ∧ s.slotStatus slot (leNat data) = 0) :=
  ⟨⟨1, State.reset, by decide +kernel⟩,
   ⟨{ State.reset with row := { State.reset.row with window := true } }, by decide +kernel⟩,
   ⟨State.reset, by decide +kernel⟩,
   ⟨0, State.reset.setOrigin 0 { onTime := [0], slots := [], lateRun := 0, lateEdge := 0 }, by decide +kernel⟩,
   ⟨0, State.reset.stitchEntry 0, regsAt [(Obj.RowStitchTableLength, 1)], by decide +kernel⟩,
   ⟨4, (((regsAt [(Obj.RowStitchTableLength, 2)]).store Obj.RowStitchTable 0 ([13, 0, 3, 0] ++ List.replicate 60 0 ++ [13, 0, 4, 0]))).stitchEntry 1, ((regsAt [(Obj.RowStitchTableLength, 2)]).store Obj.RowStitchTable 0 ([13, 0, 3, 0] ++ List.replicate 60 0 ++ [13, 0, 4, 0])), by decide +kernel⟩,
   ⟨State.reset, by decide +kernel⟩,
   ⟨{ State.reset with row := { State.reset.row with checked := true } }, by decide +kernel⟩,
   ⟨0, 100, natLE 8 0, (regsAt [(Obj.SlotType 100, 1)]), by decide +kernel⟩⟩

theorem witness_DirectWriteStoresOrChangesNothing :
    (∃ (n : Nat) (data : List Byte) (s : State), s.sessionOk n = true ∧ s.power.recovery = false ∧ data.length = 4 ∧ s.oldVals = []) ∧
    (∃ (n : Nat) (s : State), s.sessionOk n = false) ∧
    (∃ (n : Nat) (data : List Byte) (s : State), s.sessionOk n = true ∧ s.power.recovery = false ∧ data.length ≠ 4) ∧
    (∃ (n : Nat) (s : State), s.sessionOk n = true ∧ s.power.recovery = false) ∧
    (∃ (n : Nat) (s : State), s.sessionOk n = true ∧ s.power.recovery = false) :=
  ⟨⟨0, [1, 0, 0, 0], State.reset, by decide +kernel⟩,
   ⟨7, State.reset, by decide +kernel⟩,
   ⟨0, [], State.reset, by decide +kernel⟩,
   ⟨0, State.reset, by decide +kernel⟩,
   ⟨0, State.reset, by decide +kernel⟩⟩

theorem witness_StageRequestFillsTheSet :
    (∃ (n : Nat) (b : Byte) (s : State), n ≠ 0 ∧ s.sessionOk n = true ∧ s.power.recovery = false ∧ 1 ≤ b.toNat ∧ b.toNat ≤ 6 ∧ s.stageRoom n Obj.TickPeriod = true) ∧
    (∃ (n : Nat) (b : Byte) (s : State), n ≠ 0 ∧ s.sessionOk n = true ∧ s.power.recovery = false ∧ 1 ≤ b.toNat ∧ b.toNat ≤ 6 ∧ s.stageRoom n Obj.TickPeriod = false) ∧
    (∃ (n : Nat) (b : Byte) (s : State), n ≠ 0 ∧ s.sessionOk n = true ∧ s.power.recovery = false ∧ 7 ≤ b.toNat) ∧
    (∃ (n : Nat) (s : State), n ≠ 0 ∧ s.sessionOk n = true ∧ s.power.recovery = false) :=
  ⟨⟨1, 3, { State.reset with sessions := [{ num := 1 }] }, by decide +kernel⟩,
   ⟨1, 3, { State.reset with sessions := [{ num := 1, staged := (List.range 4096).map fun i => ⟨i, 0, [0]⟩ }] }, by decide,
    by decide, by decide, by decide, by decide, stageRoom_full _ 4096 rfl rfl⟩,
   ⟨1, 7, { State.reset with sessions := [{ num := 1 }] }, by decide +kernel⟩,
   ⟨1, { State.reset with sessions := [{ num := 1 }] }, by decide +kernel⟩⟩

theorem witness_CommitCommands :
    (∃ (n : Nat) (s : State), s.commitStatus n = 0 ∧ (s.session n).staged ≠ [] ∧ s.commitFail (s.session n) false = none) ∧
    (∃ (n : Nat) (s : State), s.commitStatus n = 0 ∧ (s.session n).staged ≠ [] ∧ s.commitFail (s.session n) true = none ∧ s.timingFail (s.applyEdge (s.session n)) = none) ∧
    (∃ (n : Nat) (c : PCommit) (s : State), s.commitStatus n = 0 ∧ c.session = n ∧ (∀ x ∈ s.commits, x.session ≠ n) ∧ s.tick + 1 < c.edge) ∧
    (∃ (n : Nat) (s : State), s.commitStatus n = 0) ∧
    (∃ (c : PCommit) (s : State), s.commits = [c] ∧ c.edge ≤ s.tick) ∧
    (∃ (s : State), (∀ c ∈ s.commits, s.tick < c.edge)) ∧
    (∃ (c : PCommit) (rest : List PCommit) (s : State), s.commits = c :: rest ∧ c.edge ≤ s.tick) :=
  ⟨⟨1, { State.reset with sessions := [{ num := 1, staged := [⟨Obj.TickPeriod, 0, [3]⟩], gen := some 0 }] }, by decide +kernel⟩,
   ⟨1, { State.reset with sessions := [{ num := 1, staged := [⟨Obj.TickPeriod, 0, [3]⟩], gen := some 0 }] }, by decide +kernel⟩,
   ⟨1, ⟨1, 5, []⟩, { State.reset with sessions := [{ num := 1 }] }, by decide +kernel⟩,
   ⟨1, { State.reset with sessions := [{ num := 1 }] }, by decide +kernel⟩,
   ⟨⟨1, 0, []⟩, { State.reset with commits := [⟨1, 0, []⟩] }, by decide +kernel⟩,
   ⟨State.reset, by decide +kernel⟩,
   ⟨⟨1, 0, []⟩, [⟨2, 9, []⟩], { State.reset with commits := [⟨1, 0, []⟩, ⟨2, 9, []⟩] }, by decide +kernel⟩⟩

theorem witness_StickyBitsClearOrStay :
    (∃ (n : Nat) (i : Nat) (sub : Nat) (b : Nat) (m : Nat) (s : State), s.sessionOk n = true ∧ s.power.recovery = false ∧ addrStatus i sub = 0 ∧ stickyMask (i * 256 + sub) = some m ∧ 2 ^ b ||| m = m ∧ b < 64 ∧ (s.nat (i * 256 + sub)).testBit b = true ∧ s.stickyHeld (i * 256 + sub) b = false) ∧
    (∃ (n : Nat) (i : Nat) (sub : Nat) (b : Nat) (m : Nat) (r : Nat) (s : State), s.sessionOk n = true ∧ s.power.recovery = false ∧ addrStatus i sub = 0 ∧ stickyMask (i * 256 + sub) = some m ∧ 2 ^ b ||| m = m ∧ b < 64 ∧ (s.nat (i * 256 + sub)).testBit b = true ∧ ((s.stickyHeld (i * 256 + sub) b = true ∨ r.testBit b = true))) ∧
    (∃ (n : Nat) (i : Nat) (sub : Nat) (m : Nat) (s : State), s.sessionOk n = true ∧ s.power.recovery = false ∧ addrStatus i sub = 0 ∧ stickyMask (i * 256 + sub) = some m) ∧
    (∃ (n : Nat) (i : Nat) (sub : Nat) (ones : Nat) (m : Nat) (r : Nat) (s : State), s.sessionOk n = true ∧ s.power.recovery = false ∧ addrStatus i sub = 0 ∧ stickyMask (i * 256 + sub) = some m ∧ ones ||| m = m ∧ ((∀ b, b < 64 → ones.testBit b = true → (s.nat (i * 256 + sub)).testBit b = true → s.stickyHeld (i * 256 + sub) b = false ∧ r.testBit b = false))) ∧
    (∃ (n : Nat) (i : Nat) (sub : Nat) (ones : Nat) (m : Nat) (s : State), s.sessionOk n = true ∧ s.power.recovery = false ∧ addrStatus i sub = 0 ∧ stickyMask (i * 256 + sub) = some m ∧ ones ||| m ≠ m) :=
  ⟨⟨0, 0x2706, 3, 0, (stickyMask (0x2706 * 256 + 3)).getD 0, (regsAt [(Obj.FaultSticky 6, 1)]), by decide +kernel⟩,
   ⟨0, 0x2706, 3, 0, (stickyMask (0x2706 * 256 + 3)).getD 0, 1, (regsAt [(Obj.FaultSticky 6, 1)]), by decide +kernel⟩,
   ⟨0, 0x2706, 3, (stickyMask (0x2706 * 256 + 3)).getD 0, State.reset, by decide +kernel⟩,
   ⟨0, 0x2708, 3, 3, (stickyMask (0x2708 * 256 + 3)).getD 0, 0, (regsAt [(Obj.FaultSticky 8, 3)]), by decide +kernel⟩,
   ⟨0, 0x2706, 3, 2^64, (stickyMask (0x2706 * 256 + 3)).getD 0, State.reset, by decide +kernel⟩⟩

theorem witness_SessionsOpenAndClose :
    (∃ (s : State), s.sessions.length < 256 ∧ (s.host.reqs.find? fun r => s.ownReq r && r.opcode == 4) = none) ∧
    (∃ (s : State), 256 ≤ s.sessions.length ∧ (s.host.reqs.find? fun r => s.ownReq r && r.opcode == 4) = none) ∧
    (∃ (n : Nat) (s : State), n ≠ 0 ∧ s.sessionOk n = true ∧ (s.host.reqs.find? fun r => s.ownReq r && r.opcode == 5 && r.session == n) = none) ∧
    (∃ (r : HostReq) (n : Nat) (s : State), n ≠ 0 ∧ s.sessionOk n = true ∧ (s.host.reqs.find? fun r => s.ownReq r && r.opcode == 5 && r.session == n && !s.behind r) = some r) ∧
    (∃ (n : Nat) (s : State), s.sessionOk n = true ∧ s.power.recovery = false) ∧
    (∃ (n : Nat) (w : Nat) (v : Nat) (s : State), s.sessionOk n = true ∧ s.power.recovery = false ∧ v % 8 = 7 ∧ s.get (Obj.AxisState (s.viewAxis n (if w = 0 then 0x6040 else 0x6840))) = axDisabled ∧ s.cmdStatus (s.viewAxis n (if w = 0 then 0x6040 else 0x6840)) 1 = 0) :=
  ⟨⟨State.reset, by decide +kernel⟩,
   ⟨{ State.reset with sessions := List.replicate 256 { num := 1 } }, by decide +kernel⟩,
   ⟨1, { State.reset with sessions := [{ num := 1 }] }, by decide +kernel⟩,
   ⟨⟨1, 0, 5, 0, 0, 0, 1, 0, 0, 0, 0, 0, [], 0, 0⟩, 1, { State.reset with sessions := [{ num := 1 }], host := { State.reset.host with reqs := [⟨1, 0, 5, 0, 0, 0, 1, 0, 0, 0, 0, 0, [], 0, 0⟩] } }, by decide +kernel⟩,
   ⟨0, State.reset, by decide +kernel⟩,
   ⟨0, 0, 7, (regsAt [(Obj.DeviceState, devRun), (Obj.AxisState 0, axDisabled)]), by decide +kernel⟩⟩

theorem witness_IdleSessionIsClosed :
    (∃ (n : Nat) (s : State), n ≠ 0 ∧ s.natInUse Obj.SessionIdleTimeout ≠ 0) :=
  ⟨1, State.reset, by decide +kernel⟩

theorem witness_TrellisStates :
    (∃ (x : TimeSample) (err : Int) (s : State), (s.timeOffset x).2 = some err) ∧
    (∃ (x : TimeSample) (s : State), (s.timeOffset x).2 = none) ∧
    (∃ (s : State), s.get Obj.TrellisState = 0) ∧
    (∃ (s : State), s.get Obj.TrellisState = 2) ∧
    (∃ (s : State), s.get Obj.TrellisState = 3 ∧ s.inUse Obj.HoldoverLimit ≠ 0) ∧
    (∃ (s : State), s.inUse Obj.HoldoverLimit = 0) ∧
    (∃ (s : State), s.stepAllowed = true) ∧
    (∃ (s : State), s.stepAllowed = false) ∧
    (∃ (by_ : Int) (s : State), s.trellis.steps = [(false, by_)] ∧ s.stepAllowed = true) ∧
    (∃ (by_ : Int) (s : State), s.trellis.steps = [(true, by_)] ∧ s.stepAllowed = false) :=
  ⟨⟨{ offset := 5 }, 5, (regsAt [(Obj.TrellisSource, 2), (Obj.PtpPriority1, 255)]), by decide +kernel⟩,
   ⟨{ offset := 5 }, (regsAt [(Obj.TrellisSource, 4), (Obj.PtpPriority1, 255)]), by decide +kernel⟩,
   ⟨(regsAt [(Obj.TrellisState, 0)]), by decide +kernel⟩,
   ⟨(regsAt [(Obj.TrellisState, 2)]), by decide +kernel⟩,
   ⟨(regsAt [(Obj.TrellisState, 3)]), by decide +kernel⟩,
   ⟨(regsAt [(Obj.HoldoverLimit, 0)]), by decide +kernel⟩,
   ⟨(regsAt [(Obj.DeviceState, devSafe)]), by decide +kernel⟩,
   ⟨State.reset, by decide +kernel⟩,
   ⟨1000, { (regsAt [(Obj.DeviceState, devSafe)]) with trellis := { State.reset.trellis with steps := [(false, 1000)] } }, by decide +kernel⟩,
   ⟨1000, { (regsAt [(Obj.DeviceState, devRun)]) with trellis := { State.reset.trellis with steps := [(true, 1000)] } }, by decide +kernel⟩⟩

theorem witness_ATimeStep :
    (∃ (s : State), (s.get Obj.AcqState < 1 ∨ 3 < s.get Obj.AcqState)) :=
  ⟨State.reset, by decide +kernel⟩

theorem witness_PulsesAndTimeStamps :
    (∃ (s : State), s.get Obj.TrellisSource = 2 ∧ s.get Obj.PpsInEdge = 1 ∧ s.get Obj.TrellisState ≠ 2) ∧
    (∃ (d : Int) (s : State), s.get Obj.TrellisSource = 2 ∧ s.get Obj.PpsInEdge = 1 ∧ s.get Obj.TrellisState = 2 ∧ s.natInUse Obj.PpsInWindow ≠ 0 ∧ s.natInUse Obj.PpsInWindow < d.natAbs) ∧
    (∃ (time : Int) (s : State), s.inUse Obj.PpsOutWidth ≠ 0 ∧ s.trellis.ppsOut = false ∧ s.secondIn (s.inUse Obj.PpsOutOffset) = some time) ∧
    (∃ (time : Int) (s : State), s.trellis.ppsOut = true ∧ s.secondIn (s.inUse Obj.PpsOutOffset + s.inUse Obj.PpsOutWidth) = some time) ∧
    (∃ (add : Int) (time : Int) (s : State), s.secondIn add = some time) ∧
    (∃ (s : State), s.inUse Obj.PpsOutWidth = 0 ∧ s.trellis.ppsOut = false) :=
  ⟨⟨(regsAt [(Obj.TrellisSource, 2), (Obj.PpsInEdge, 1)]), by decide +kernel⟩,
   ⟨500, (regsAt [(Obj.TrellisSource, 2), (Obj.PpsInEdge, 1), (Obj.TrellisState, 2), (Obj.PpsInWindow, 100)]), by decide +kernel⟩,
   ⟨0, (regsAt [(Obj.PpsOutWidth, 1)]), by decide +kernel⟩,
   ⟨7, { (regsAt [(Obj.PpsOutWidth, 7)]) with trellis := { State.reset.trellis with ppsOut := true } }, by decide +kernel⟩,
   ⟨0, 0, State.reset, by decide +kernel⟩,
   ⟨(regsAt [(Obj.PpsOutWidth, 0)]), by decide +kernel⟩⟩

theorem witness_TimeStampQueue :
    (∃ (p : Nat) (id : Nat) (s : State), p < 3 ∧ id < 4096 ∧ (s.tsQueue p).length < 64) ∧
    (∃ (p : Nat) (id : Nat) (time : Nat) (frac : Nat) (l : List (Nat × Nat × Nat)) (s : State), p < 3 ∧ s.tsQueue p = (id, time, frac) :: l) ∧
    (∃ (p : Nat) (s : State), p < 3 ∧ s.tsQueue p = []) :=
  ⟨⟨0, 0, State.reset, by decide +kernel⟩,
   ⟨0, 5, 7, 9, [], State.reset.setTsQueue 0 [(5, 7, 9)], by decide +kernel⟩,
   ⟨0, State.reset, by decide +kernel⟩⟩

theorem witness_PlantDiscovery :
    (∃ (s : State), s.inUse Obj.AnnounceInterval ≠ 0) ∧
    (∃ (kind : Nat) (seq : Nat) (s : State), ((s.plant.conflict = false ∨ kind = 6)) ∧ s.flag Obj.FrerEnable = false ∧ seq = (s.plant.seqs.lookup kind).getD 0) ∧
    (∃ (kind : Nat) (s : State), s.plant.conflict = true ∧ kind ≠ 6) ∧
    (∃ (s : State), s.inUse Obj.AnnounceInterval = 0) ∧
    (∃ (addr : Nat) (s : State), addr ≠ s.nat Obj.PlantAddress ∧ s.plant.partners.any (fun p => p.addr == addr) = false ∧ s.plant.partners.length < 256) ∧
    (∃ (serial : Nat) (s : State), serial ≠ s.nat Obj.SerialNumber ∧ s.plant.conflict = false) ∧
    (∃ (addr : Nat) (missed : Nat) (s : State), 1 ≤ missed ∧ s.natInUse Obj.PartnerLossCount ≤ missed ∧ s.plant.partners.any (fun p => p.addr == addr && !p.lost) = true) ∧
    (∃ (p : Nat) (g : GateRt) (n : GateRt) (s : State), s.plant.gates.lookup p = some g ∧ g.pending = true ∧ s.gateStart p g.since < (s.tick + 1) * s.tNs ∧ n = { enable := s.flag (Obj.GateEnable p), cycle := s.nat (Obj.GateCycleTime p), base := s.nat (Obj.GateBaseTime p), entries := s.gateEntries p }) ∧
    (∃ (p : Nat) (s : State), p < 2 ∧ s.flag Obj.FrerEnable = true ∧ s.inUse Obj.FrerLatentPeriod ≠ 0) ∧
    (∃ (s : State), s.inUse Obj.FrerLatentPeriod = 0) ∧
    (∃ (s : State), s.inUse Obj.FrerResetTime ≠ 0) :=
  ⟨⟨State.reset, by decide +kernel⟩,
   ⟨6, 0, (regsAt [(Obj.FrerEnable, 0)]), by decide +kernel⟩,
   ⟨5, { State.reset with plant := { State.reset.plant with conflict := true } }, by decide +kernel⟩,
   ⟨(regsAt [(Obj.AnnounceInterval, 0)]), by decide +kernel⟩,
   ⟨1, { State.reset with regs := [(Obj.PlantAddress, 5)] }, by decide +kernel⟩,
   ⟨1, { State.reset with regs := [(Obj.SerialNumber, 5)] }, by decide +kernel⟩,
   ⟨1, 3, State.reset.setPartners [{ addr := 1, lost := false, configured := true, notLocked := false, serial := 0, time := 0 }], by decide +kernel⟩,
   ⟨0, { pending := true }, { enable := (regsAt [(Obj.GateCycleTime 0, 1000)]).flag (Obj.GateEnable 0), cycle := (regsAt [(Obj.GateCycleTime 0, 1000)]).nat (Obj.GateCycleTime 0), base := (regsAt [(Obj.GateCycleTime 0, 1000)]).nat (Obj.GateBaseTime 0), entries := (regsAt [(Obj.GateCycleTime 0, 1000)]).gateEntries 0 }, { (regsAt [(Obj.GateCycleTime 0, 1000)]) with plant := { State.reset.plant with gates := [(0, { pending := true })] } }, by decide +kernel⟩,
   ⟨0, (regsAt [(Obj.FrerEnable, 1), (Obj.FrerLatentPeriod, 1), (Obj.FrerEnable, 1)]), by decide +kernel⟩,
   ⟨(regsAt [(Obj.FrerLatentPeriod, 0)]), by decide +kernel⟩,
   ⟨State.reset, by decide +kernel⟩⟩

theorem witness_PlantFrames :
    (∃ (f : PlantFrame) (s : State), f.source = s.nat Obj.PlantAddress) ∧
    (∃ (f : PlantFrame) (s : State), f.source ≠ s.nat Obj.PlantAddress ∧ f.redundancy = none ∧ f.dest ≠ s.nat Obj.PlantAddress ∧ f.flags % 2 = 0) ∧
    (∃ (f : PlantFrame) (s : State), f.source ≠ s.nat Obj.PlantAddress ∧ f.redundancy = none ∧ f.dest = s.nat Obj.PlantAddress ∧ f.flags % 2 = 0 ∧ frameBad f = true) ∧
    (∃ (f : PlantFrame) (s : State), f.source ≠ s.nat Obj.PlantAddress ∧ f.redundancy = none ∧ f.dest = s.nat Obj.PlantAddress ∧ f.flags % 2 = 0 ∧ frameBad f = false ∧ f.kind = 2) ∧
    (∃ (f : PlantFrame) (s : State), f.source ≠ s.nat Obj.PlantAddress ∧ f.redundancy = none ∧ f.dest = s.nat Obj.PlantAddress ∧ f.flags % 2 = 0 ∧ frameBad f = false ∧ f.kind = 7 ∧ f.count ≠ 0 ∧ s.scheduleStatus f.stamp = 0) :=
  ⟨⟨⟨0, 1, 2, 0, 5, 5, 0, 0, 0, 0, 0, [], none, true, true⟩, { State.reset with regs := [(Obj.PlantAddress, 5)] }, by decide +kernel⟩,
   ⟨⟨0, 1, 2, 0, 6, 1, 0, 0, 0, 0, 0, [], none, true, true⟩, { State.reset with regs := [(Obj.PlantAddress, 5)] }, by decide +kernel⟩,
   ⟨⟨0, 2, 2, 0, 5, 1, 0, 0, 0, 0, 0, [], none, true, true⟩, { State.reset with regs := [(Obj.PlantAddress, 5)] }, by decide +kernel⟩,
   ⟨⟨0, 1, 2, 0, 5, 1, 0, 0, 0, 0, 0, [], none, true, true⟩, { State.reset with regs := [(Obj.PlantAddress, 5)] }, by decide +kernel⟩,
   ⟨⟨0, 1, 7, 0, 5, 1, 0, 10000000, 1, 0, 0, [], none, true, true⟩, { State.reset with regs := [(Obj.PlantAddress, 5)] }, by decide +kernel⟩⟩

theorem witness_MasterSamples :
    (∃ (c : Nat) (s : State), c = s.nat Obj.NetworkCycleTicks) ∧
    (∃ (s : State), s.masterEntries = []) ∧
    (∃ (plant : Bool) (src : Nat) (x : MasterSample) (s : State), s.now < x.time + s.nat Obj.NetworkCycleTicks * s.tNs ∧ s.sampleOld plant src x = false) ∧
    (∃ (k : Nat) (s : State), k < 128) ∧
    (∃ (plant : Bool) (src : Nat) (x : MasterSample) (s : State), s.now < x.time + s.nat Obj.NetworkCycleTicks * s.tNs ∧ s.sampleOld plant src x = true) ∧
    (∃ (x : MasterSample) (s : State), x.time + s.nat Obj.NetworkCycleTicks * s.tNs ≤ s.now) :=
  ⟨⟨4, (regsAt [(Obj.NetworkCycleTicks, 4), (Obj.MasterPublishPosition 0, 3)]), by decide +kernel⟩,
   ⟨State.reset, by decide +kernel⟩,
   ⟨false, 0, ⟨0, 0, 0, 100, 0, 0, 0⟩, State.reset, by decide +kernel⟩,
   ⟨3, State.reset, by decide +kernel⟩,
   ⟨true, 1, ⟨0, 0, 0, 100, 0, 0, 0⟩, { State.reset with plant := { State.reset.plant with newest := [(masterKey true 1 0, 200)] } }, by decide +kernel⟩,
   ⟨⟨0, 0, 0, 0, 0, 0, 0⟩, (regsAt [(Obj.TrellisCounter, 10000000)]), by decide +kernel⟩⟩

theorem witness_ScheduledSnapshots :
    (∃ (time : Nat) (s : State), time % 1000000 = 0 ∧ s.snap.pending.contains time = false ∧ s.now + 2 * s.tNs < time ∧ s.snap.pending.length < 4) ∧
    (∃ (time : Nat) (s : State), time % 1000000 ≠ 0) ∧
    (∃ (time : Nat) (s : State), time % 1000000 = 0 ∧ s.snap.pending.contains time = false ∧ time ≤ s.now + 2 * s.tNs) ∧
    (∃ (time : Nat) (s : State), s.scheduleStatus time = 0) ∧
    (∃ (s : State), s.snap.passed = none ∧ s.snap.pending.contains (s.nat Obj.TickEdgeTime) = true ∧ s.snap.current = none) ∧
    (∃ (period : Nat) (s : State), s.snap.passed = none ∧ s.snap.pending.contains (s.nat Obj.TickEdgeTime) = false ∧ period = s.natInUse Obj.SnapshotPeriod * 1000000 ∧ period ≠ 0 ∧ s.nat Obj.TickEdgeTime % period = 0) ∧
    (∃ (x : State) (u : State) (c : Snap), x.snap.current = some c ∧ u = (((({ x with snap := { x.snap with current := none, last := some c } } : State).put Obj.SnapshotLastTime c.time).put Obj.SnapshotLastNumber (c.time / 1000000 % 4294967296 : Nat)).put Obj.SnapshotFlags c.flags |>.put Obj.LedgerImbalance (x.nat Obj.LedgerImbalance ||| c.bad : Nat))) ∧
    (∃ (x : Snap) (s : State), s.snap.current = some x ∧ x.bad = 0) :=
  ⟨⟨5000000, State.reset, by decide +kernel⟩,
   ⟨5000001, State.reset, by decide +kernel⟩,
   ⟨0, State.reset, by decide +kernel⟩,
   ⟨5000000, State.reset, by decide +kernel⟩,
   ⟨{ State.reset with snap := { State.reset.snap with pending := [0] } }, by decide +kernel⟩,
   ⟨1000000, (regsAt [(Obj.SnapshotPeriod, 1)]), by decide +kernel⟩,
   ⟨{ State.reset with snap := { State.reset.snap with current := some ⟨5, 1, [], 3⟩ } }, _, ⟨5, 1, [], 3⟩, by decide +kernel, rfl⟩,
   ⟨⟨0, 0, [], 0⟩, { State.reset with snap := { State.reset.snap with current := some ⟨0, 0, [], 0⟩ } }, by decide +kernel⟩⟩

theorem witness_AxisCommandsAreRefusedOutsideTheirStates :
    (∃ (a : Nat) (s : State), a < 64 ∧ s.get Obj.DeviceState = devRun ∧ s.gangOf a = none ∧ (∀ b ∈ s.groupsOf a, (s.bind b).phase ≠ 2)) :=
  ⟨3, (regsAt [(Obj.DeviceState, devRun)]), by decide +kernel⟩

theorem witness_AxisComesOnAndRests :
    (∃ (a : Nat) (s : State), s.cmdStatus a 1 = 0) ∧
    (∃ (a : Nat) (s : State), s.cmdStatus a 2 = 0 ∧ s.get (Obj.AxisState a) = axStandby) ∧
    (∃ (a : Nat) (s : State), s.cmdStatus a 2 = 0 ∧ s.get (Obj.AxisState a) = axHolding ∧ s.get (Obj.BrakeOutput a) ≠ 0xFF ∧ s.get (Obj.BrakeEngageDelay a) ≠ 0) ∧
    (∃ (a : Nat) (s : State), s.cmdStatus a 3 = 0 ∧ s.gangOf a = none ∧ s.flag (Obj.AxisVirtual a) = false ∧ s.castAcquires a = false ∧ (isLocal a && s.tripLatched a) = false) ∧
    (∃ (a : Nat) (s : State), s.cmdStatus a 13 = 0 ∧ s.get (Obj.BrakeOutput a) = 0xFF) ∧
    (∃ (a : Nat) (s : State), s.cmdStatus a 12 = 0 ∧ s.gangOf a = none) :=
  ⟨⟨3, (regsAt [(Obj.DeviceState, devRun)]), by decide +kernel⟩,
   ⟨3, (regsAt [((Obj.AxisState 3), axStandby), (Obj.DeviceState, devRun)]).setAxis 3 { closed := true, brakeEngaged := false }, by decide +kernel⟩,
   ⟨3, (regsAt [((Obj.AxisState 3), axHolding), (Obj.DeviceState, devRun), (Obj.AxisState 3, axHolding), (Obj.BrakeOutput 3, 2), (Obj.BrakeEngageDelay 3, 100)]), by decide +kernel⟩,
   ⟨3, (regsAt [((Obj.AxisVirtual 3), 0), (Obj.DeviceState, devRun), (Obj.AxisState 3, axStandby), (Obj.FbSource 3, 1)]), by decide +kernel⟩,
   ⟨3, (regsAt [((Obj.BrakeOutput 3), 0xFF), (Obj.DeviceState, devRun), (Obj.AxisState 3, axHolding)]).setAxis 3 { closed := true }, by decide +kernel⟩,
   ⟨20, (regsAt [(Obj.DeviceState, devRun), (Obj.AxisState 20, axFaulted)]), by decide +kernel⟩⟩

theorem witness_MoveAndStopCommands :
    (∃ (a : Nat) (s : State), s.cmdStatus a 4 = 0 ∧ s.moveStatus a true = 0 ∧ s.get (Obj.AxisMoveMode a) ≠ 3 ∧ s.get (Obj.AxisState a) ≠ axStandby) ∧
    (∃ (a : Nat) (s : State), s.cmdStatus a 5 = 0 ∧ s.moveStatus a false = 0 ∧ s.get (Obj.AxisMoveMode a) ≠ 3 ∧ s.get (Obj.AxisState a) ≠ axStandby) ∧
    (∃ (a : Nat) (s : State), s.cmdStatus a 6 = 0 ∧ s.latchedToward a (s.get (Obj.AxisTargetVelocity a)) = false ∧ s.get (Obj.AxisState a) ≠ axStandby) ∧
    (∃ (a : Nat) (s : State), s.cmdStatus a 7 = 0 ∧ s.get (Obj.AxisState a) = axMoving ∧ s.gangOf a = none ∧ s.flag (Obj.AxisGraftEngaged a) = false) ∧
    (∃ (a : Nat) (s : State), s.cmdStatus a 9 = 0 ∧ s.get (Obj.AxisState a) = axMoving ∧ s.gangOf a = none ∧ s.flag (Obj.AxisGraftEngaged a) = false) :=
  ⟨⟨3, (regsAt [(Obj.DeviceState, devRun), (Obj.AxisState 3, axHolding), (Obj.AxisTargetPosition 3, 5000)]), by decide +kernel⟩,
   ⟨3, (regsAt [(Obj.DeviceState, devRun), (Obj.AxisState 3, axHolding), (Obj.AxisTargetPosition 3, 5000)]), by decide +kernel⟩,
   ⟨3, (regsAt [(Obj.DeviceState, devRun), (Obj.AxisState 3, axHolding), (Obj.AxisTargetVelocity 3, 100)]), by decide +kernel⟩,
   ⟨3, (regsAt [((Obj.AxisState 3), axMoving), ((Obj.AxisGraftEngaged 3), 0), (Obj.DeviceState, devRun)]).setAxis 3 { move := .target, target := 900 }, by decide +kernel⟩,
   ⟨3, (regsAt [((Obj.AxisState 3), axMoving), ((Obj.AxisGraftEngaged 3), 0), (Obj.DeviceState, devRun)]).setAxis 3 { move := .target, target := 900 }, by decide +kernel⟩⟩

theorem witness_ResumeAbandonAndHome :
    (∃ (a : Nat) (s : State), s.cmdStatus a 8 = 0 ∧ s.latchedToward a ((s.axis a).target - (s.axis a).sp) = false ∧ s.gangOf a = none) ∧
    (∃ (a : Nat) (s : State), s.cmdStatus a 10 = 0 ∧ s.get (Obj.AxisState a) = axHolding) ∧
    (∃ (a : Nat) (s : State), s.cmdStatus a 11 = 0 ∧ s.homeInputMissing a = true) ∧
    (∃ (a : Nat) (s : State), s.cmdStatus a 11 = 0 ∧ s.homeInputMissing a = false ∧ s.get (Obj.AxisState a) = axHolding ∧ s.latchedToward a (if (homeDirs (s.nat (Obj.HomingMethod a))).1 = 0 then (homeDirs (s.nat (Obj.HomingMethod a))).2.2 else (homeDirs (s.nat (Obj.HomingMethod a))).1) = false) ∧
    (∃ (a : Nat) (s : State), (s.axis a).home.phase ≠ 0 ∧ s.flagInUse (Obj.HomingTimeout a) = true ∧ s.gangOf a = none ∧ s.get (Obj.AxisState a) = axMoving) :=
  ⟨⟨3, (regsAt [(Obj.DeviceState, devRun), (Obj.AxisState 3, axHolding), (Obj.MoveRemaining 3, 500)]).setAxis 3 { move := .target, target := 900 }, by decide +kernel⟩,
   ⟨3, (regsAt [((Obj.AxisState 3), axHolding), (Obj.DeviceState, devRun), (Obj.MoveRemaining 3, 500)]), by decide +kernel⟩,
   ⟨3, (regsAt [(Obj.DeviceState, devRun), (Obj.AxisState 3, axHolding), (Obj.HomingMethod 3, 7)]), by decide +kernel⟩,
   ⟨3, (regsAt [((Obj.AxisState 3), axHolding), (Obj.DeviceState, devRun), (Obj.HomingMethod 3, 5)]), by decide +kernel⟩,
   ⟨3, (regsAt [((Obj.AxisState 3), axMoving), (Obj.HomingTimeout 3, 100)]).setAxis 3 { home := { phase := 1 } }, by decide +kernel⟩⟩

theorem witness_PlansBrakesAndStandstill :
    (∃ (a : Nat) (v : Int) (s : State), (s.axis a).byCommand = true ∧ (s.axis a).closed = true ∧ (s.axis a).closing = false ∧ (s.axis a).req = some (.velocity v)) ∧
    (∃ (a : Nat) (s : State), s.atStandstill a = true ∧ (s.axis a).engageTo = 0 ∧ s.natInUse (Obj.StandstillMode a) = 2 ∧ s.get (Obj.BrakeOutput a) = 0xFF) ∧
    (∃ (a : Nat) (s : State), s.atStandstill a = true ∧ s.natInUse (Obj.StandstillMode a) = 1) ∧
    (∃ (a : Nat) (s : State), (s.axis a).engageTo = 2) ∧
    (∃ (a : Nat) (s : State), (s.axis a).engageTo = 1) :=
  ⟨⟨3, 700, (regsAt [(Obj.DeviceState, devRun), (Obj.AxisState 3, axMoving), (Obj.ProfileVelocity 3, 1000), (Obj.ProfileAcceleration 3, 65536)]).setAxis 3 { byCommand := true, closed := true, req := some (.velocity 700), move := .velocity }, by decide +kernel⟩,
   ⟨3, (regsAt [(Obj.AxisState 3, axHolding), (Obj.StandstillMode 3, 2)]).setAxis 3 { standRun := 70000 }, by decide +kernel⟩,
   ⟨3, (regsAt [(Obj.AxisState 3, axHolding)]).setAxis 3 { standRun := 70000 }, by decide +kernel⟩,
   ⟨3, (regsAt [(Obj.AxisState 3, axHolding)]).setAxis 3 { engageTo := 2 }, by decide +kernel⟩,
   ⟨3, (regsAt [(Obj.AxisState 3, axHolding)]).setAxis 3 { engageTo := 1 }, by decide +kernel⟩⟩

theorem witness_BindOffGroups :
    (∃ (b : Nat) (s : State), b < 16 ∧ (s.bind b).phase ≠ 0) ∧
    (∃ (b : Nat) (s : State), b < 16 ∧ (s.bind b).phase = 0) ∧
    (∃ (b : Nat) (value : Nat) (s : State), b < 16 ∧ value ≠ 1) ∧
    (∃ (b : Nat) (r : Nat) (q : Nat) (published : List (Nat × Nat)) (s : State), b < 16 ∧ (s.bind b).phase = 1 ∧ (s.bind b).start ≤ s.tick ∧ r = published.foldl (fun m p => min m p.1) (s.bind b).r ∧ q = published.foldl (fun m p => min m p.2) (s.bind b).q ∧ r ≠ none32) ∧
    (∃ (b : Nat) (s : State), (s.bind b).phase = 2 ∧ (s.bind b).start + (s.bind b).tb ≤ s.tick) ∧
    (∃ (b : Nat) (s : State), (s.bind b).phase = 2 ∧ s.tick < (s.bind b).start + (s.bind b).tb) ∧
    (∃ (b : Nat) (s : State), b < 16 ∧ (s.bind b).phase ≠ 2) ∧
    (∃ (b : Nat) (s : State), (s.bind b).phase = 2) :=
  ⟨⟨5, State.reset.setBind 5 { phase := 1 }, by decide +kernel⟩,
   ⟨0, State.reset, by decide +kernel⟩,
   ⟨0, 0, State.reset, by decide +kernel⟩,
   ⟨5, 65536, 65536, [], State.reset.setBind 5 { phase := 1, start := 0, r := 65536, q := 65536 }, by decide +kernel⟩,
   ⟨5, State.reset.setBind 5 { phase := 2 }, by decide +kernel⟩,
   ⟨5, State.reset.setBind 5 { phase := 2, tb := 9 }, by decide +kernel⟩,
   ⟨0, State.reset, by decide +kernel⟩,
   ⟨5, State.reset.setBind 5 { phase := 2 }, by decide +kernel⟩⟩

theorem witness_PathCommands :
    (∃ (p : Nat) (s : State), p < 8 ∧ s.get Obj.DeviceState ≠ devRun) ∧
    (∃ (p : Nat) (s : State), p < 8 ∧ s.get Obj.DeviceState = devRun ∧ s.nat (Obj.PathElementCount p) ≠ 0 ∧ (s.pathMembers p) ≠ [] ∧ (∀ x ∈ s.pathMembers p, s.get (Obj.AxisState x.2) = axHolding) ∧ ((let elems := (List.range (s.nat (Obj.PathElementCount p))).map (s.pathElem p); let start : List ℚ := (List.range 6).map fun i => match (s.pathMembers p).lookup i with | some a => ((s.axis a).sp : ℚ) | none => 0; anyArcBad (s.nat (Obj.PathArcTolerance p)) elems start = false ∧ ∀ x ∈ s.pathMembers p, ((s.pathRuns p (s.pathMembers p) 1025 (pathPieces (s.nat (Obj.PathArcTolerance p)) elems start [] 0)).map (memberSegs s.tNs x.1)).flatten.length ≤ 4096))) ∧
    (∃ (p : Nat) (s : State), p < 8 ∧ s.get (Obj.PathState p) = 1) ∧
    (∃ (p : Nat) (s : State), p < 8 ∧ s.get (Obj.PathState p) ≠ 1) ∧
    (∃ (p : Nat) (s : State), p < 8 ∧ s.get (Obj.PathState p) = 3 ∧ s.get Obj.DeviceState = devRun) ∧
    (∃ (p : Nat) (s : State), p < 8 ∧ ((s.get (Obj.PathState p) = 1 ∨ s.get (Obj.PathState p) = 2 ∨ s.get (Obj.PathState p) = 3)) ∧ s.pathMembers p = []) ∧
    (∃ (p : Nat) (s : State), p < 8 ∧ ((s.get (Obj.PathState p) = 1 ∨ s.get (Obj.PathState p) = 2 ∨ s.get (Obj.PathState p) = 3))) ∧
    (∃ (p : Nat) (s : State), p < 8 ∧ s.get (Obj.PathState p) = 0) :=
  ⟨⟨0, State.reset, by decide +kernel⟩,
   ⟨2, (regsAt [(Obj.DeviceState, devRun), (Obj.PathElementCount 2, 1), (Obj.PathAxis 2 0, 3), (Obj.AxisState 3, axHolding)]), by decide +kernel⟩,
   ⟨0, (regsAt [((Obj.PathState 0), 1)]), by decide +kernel⟩,
   ⟨0, State.reset, by decide +kernel⟩,
   ⟨0, (regsAt [((Obj.PathState 0), 3), (Obj.DeviceState, devRun)]), by decide +kernel⟩,
   ⟨2, (regsAt [(Obj.PathState 2, 2)]), by decide +kernel⟩,
   ⟨2, (regsAt [(Obj.PathState 2, 3), (Obj.PathAxis 2 0, 3)]), by decide +kernel⟩,
   ⟨0, (regsAt [((Obj.PathState 0), 0)]), by decide +kernel⟩⟩

theorem witness_GraftsEngageAndDisengage :
    (∃ (k : Nat) (s : State) (u : State), u = s.lossesFirst k ∧ k < 128 ∧ u.nat (Obj.GraftFollower k) < 64 ∧ u.get (Obj.GraftState k) = 0 ∧ u.get Obj.DeviceState = devRun ∧ u.get (Obj.AxisState (u.nat (Obj.GraftFollower k))) = axDisabled) ∧
    (∃ (k : Nat) (a : Nat) (s : State) (u : State), u = s.lossesFirst k ∧ k < 128 ∧ u.nat (Obj.GraftFollower k) = a ∧ a < 64 ∧ u.get (Obj.GraftState k) = 0 ∧ u.get Obj.DeviceState = devRun ∧ u.get (Obj.AxisState a) = axHolding ∧ u.chainAbsent k = false ∧ u.get (Obj.GraftKind k) = 4 ∧ u.get (Obj.ClutchDistance k) ≠ 0 ∧ u.get (Obj.ClutchEngageMode k) = 1 ∧ (∀ g ∈ u.chainOf 128 k, g < 128)) ∧
    (∃ (k : Nat) (s : State) (u : State), u = s.lossesFirst k ∧ k < 128 ∧ u.nat (Obj.GraftFollower k) < 64 ∧ u.get (Obj.GraftState k) ≠ 0) ∧
    (∃ (k : Nat) (a : Nat) (s : State) (u : State), u = s.lossesFirst k ∧ k < 128 ∧ u.nat (Obj.GraftFollower k) = a ∧ a < 64 ∧ u.get (Obj.GraftState k) = 3 ∧ u.get (Obj.ClutchDistance k) ≠ 0) ∧
    (∃ (k : Nat) (a : Nat) (s : State) (u : State), u = s.lossesFirst k ∧ k < 128 ∧ u.nat (Obj.GraftFollower k) = a ∧ a < 64 ∧ u.get (Obj.GraftState k) = 3 ∧ u.get (Obj.ClutchDistance k) = 0) ∧
    (∃ (k : Nat) (s : State) (u : State), u = s.lossesFirst k ∧ k < 128 ∧ u.nat (Obj.GraftFollower k) < 64 ∧ u.get (Obj.GraftState k) = 0) ∧
    (∃ (k : Nat) (s : State), s.masterLate k = true) ∧
    (∃ (k : Nat) (s : State), s.masterLate k = false) :=
  ⟨⟨0, (regsAt [(Obj.DeviceState, devRun), (Obj.GraftFollower 0, 3)]), _, rfl, by decide +kernel, by decide +kernel, by decide +kernel, by decide +kernel, by decide +kernel⟩,
   ⟨7, 3, (regsAt [((Obj.GraftFollower 7), 3), ((Obj.GraftState 7), 0), (Obj.DeviceState, devRun), ((Obj.AxisState 3), axHolding), ((Obj.GraftKind 7), 4), ((Obj.ClutchEngageMode 7), 1)]), _, rfl, by decide +kernel, by decide +kernel, by decide +kernel, by decide +kernel, by decide +kernel, by decide +kernel, by decide +kernel, by decide +kernel, by decide +kernel, by decide +kernel, by decide +kernel⟩,
   ⟨7, (regsAt [(Obj.GraftFollower 7, 3), (Obj.GraftState 7, 3)]), _, rfl, by decide +kernel, by decide +kernel, by decide +kernel⟩,
   ⟨7, 3, (regsAt [((Obj.GraftFollower 7), 3), ((Obj.GraftState 7), 3)]), _, rfl, by decide +kernel, by decide +kernel, by decide +kernel, by decide +kernel, by decide +kernel⟩,
   ⟨7, 3, (regsAt [((Obj.GraftFollower 7), 3), ((Obj.GraftState 7), 3), ((Obj.ClutchDistance 7), 0)]), _, rfl, by decide +kernel, by decide +kernel, by decide +kernel, by decide +kernel, by decide +kernel⟩,
   ⟨7, (regsAt [((Obj.GraftState 7), 0), (Obj.GraftFollower 7, 3)]), _, rfl, by decide +kernel, by decide +kernel, by decide +kernel⟩,
   ⟨7, (regsAt [(Obj.RemoteMasterState 7, 2), (Obj.GraftMasterSource 7, 5), (Obj.TickNumber, 100)]).setGraft 7 { remote := some ⟨0, 0, 0, 0, 0, 0, 0⟩ }, by decide +kernel⟩,
   ⟨0, State.reset, by decide +kernel⟩⟩

theorem witness_SpanGroupsChangeState :
    (∃ (g : Nat) (s : State), g < 8 ∧ s.spanHome g = false) ∧
    (∃ (g : Nat) (s : State) (u : State), u = s.spanDue g ∧ g < 8 ∧ s.spanHome g = true ∧ ((u.get (Obj.SpanState g) = 1 ∨ u.get (Obj.SpanState g) = 2))) ∧
    (∃ (g : Nat) (s : State) (u : State), u = s.spanDue g ∧ g < 8 ∧ s.spanHome g = true ∧ u.get (Obj.SpanState g) = 3 ∧ u.spanStartStatus g = 0) ∧
    (∃ (g : Nat) (s : State) (u : State), u = s.spanDue g ∧ g < 8 ∧ s.spanHome g = true ∧ u.get (Obj.SpanState g) = 0 ∧ u.spanStartStatus g = 0) ∧
    (∃ (g : Nat) (s : State) (u : State), u = s.spanDue g ∧ g < 8 ∧ s.spanHome g = true ∧ ((u.get (Obj.SpanState g) = 1 ∨ u.get (Obj.SpanState g) = 2 ∨ u.get (Obj.SpanState g) = 3))) ∧
    (∃ (g : Nat) (s : State), s.get (Obj.SpanState g) = 1 ∧ s.natInUse (Obj.SpanSettleTicks g) < (s.span g).settleRun) ∧
    (∃ (g : Nat) (s : State), s.get (Obj.SpanState g) = 2 ∧ s.natInUse (Obj.SpanSettleTicks g) < (s.span g).divergeRun) ∧
    (∃ (g : Nat) (j : Nat) (n : Nat) (s : State), (s.span g).rangeRun.lookup j = some n ∧ s.natInUse (Obj.SpanRangeTicks g) < n) ∧
    (∃ (g : Nat) (s : State), s.natInUse (Obj.SpanStaleLimit g) < (s.span g).staleRun ∧ ((s.get (Obj.SpanState g) = 1 ∨ s.get (Obj.SpanState g) = 2))) :=
  ⟨⟨0, State.reset, by decide +kernel⟩,
   ⟨0, (regsAt [(Obj.SpanHome 0, 0), (Obj.JzPosition, 0), (Obj.SpanState 0, 1)]), _, rfl, by decide +kernel, by decide +kernel, by decide +kernel⟩,
   ⟨0, ((regsAt [((Obj.SpanState 0), 3), (Obj.SpanHome 0, 0), (Obj.JzPosition, 0), (Obj.SpanMemberCount 0, 1), (Obj.SpanStateCount 0, 1), (Obj.SpanBankSource 0, 0xFFFF), (Obj.SpanLoopDelay 0, 0), (Obj.SpanMember 0 0, 3), (Obj.AxisState 3, axHolding)]).store (Obj.SpanBank0 0) 0 [1, 1, 1, 0]).setSpan 0 { written0 := 2 ^ 71 - 1 }, _, rfl, by decide +kernel, by decide +kernel, by decide +kernel, by decide +kernel⟩,
   ⟨0, ((regsAt [((Obj.SpanState 0), 0), (Obj.SpanHome 0, 0), (Obj.JzPosition, 0), (Obj.SpanMemberCount 0, 1), (Obj.SpanStateCount 0, 1), (Obj.SpanBankSource 0, 0xFFFF), (Obj.SpanLoopDelay 0, 0), (Obj.SpanMember 0 0, 3), (Obj.AxisState 3, axHolding)]).store (Obj.SpanBank0 0) 0 [1, 1, 1, 0]).setSpan 0 { written0 := 2 ^ 71 - 1 }, _, rfl, by decide +kernel, by decide +kernel, by decide +kernel, by decide +kernel⟩,
   ⟨0, (regsAt [(Obj.SpanHome 0, 0), (Obj.JzPosition, 0), (Obj.SpanState 0, 3)]), _, rfl, by decide +kernel, by decide +kernel, by decide +kernel⟩,
   ⟨0, (regsAt [((Obj.SpanState 0), 1)]).setSpan 0 { settleRun := 70000 }, by decide +kernel⟩,
   ⟨0, (regsAt [((Obj.SpanState 0), 2)]).setSpan 0 { divergeRun := 70000 }, by decide +kernel⟩,
   ⟨0, 2, 70000, State.reset.setSpan 0 { rangeRun := [(2, 70000)] }, by decide +kernel⟩,
   ⟨0, (regsAt [(Obj.SpanState 0, 1)]).setSpan 0 { staleRun := 70000 }, by decide +kernel⟩⟩

theorem witness_SpanBanks :
    (∃ (g : Nat) (b : Nat) (off : Nat) (data : List Byte) (s : State), g < 8 ∧ b < 2 ∧ off + data.length ≤ 4408 ∧ s.get (Obj.SpanActiveBank g) = b) ∧
    (∃ (g : Nat) (b : Nat) (off : Nat) (data : List Byte) (s : State), g < 8 ∧ b < 2 ∧ off + data.length ≤ 4408 ∧ s.nat (Obj.SpanActiveBank g) ≠ b ∧ s.spanBytesOk g off data = true) ∧
    (∃ (g : Nat) (b : Nat) (off : Nat) (data : List Byte) (s : State), g < 8 ∧ b < 2 ∧ off + data.length ≤ 4408 ∧ s.nat (Obj.SpanActiveBank g) ≠ b ∧ s.spanBytesOk g off data = false) ∧
    (∃ (g : Nat) (value : Nat) (s : State), g < 8 ∧ value < 2 ∧ s.spanBankValid g value = true) ∧
    (∃ (g : Nat) (value : Nat) (s : State), g < 8 ∧ ((2 ≤ value ∨ s.spanBankValid g value = false))) :=
  ⟨⟨0, 0, 0, [7], (regsAt [((Obj.SpanActiveBank 0), 0)]), by decide +kernel⟩,
   ⟨0, 1, 100, [7, 8], State.reset, by decide +kernel⟩,
   ⟨0, 1, 4, [7], State.reset, by decide +kernel⟩,
   ⟨0, 0, ((regsAt [(Obj.SpanHome 0, 0), (Obj.JzPosition, 0), (Obj.SpanMemberCount 0, 1), (Obj.SpanStateCount 0, 1), (Obj.SpanBankSource 0, 0xFFFF), (Obj.SpanLoopDelay 0, 0), (Obj.SpanMember 0 0, 3), (Obj.AxisState 3, axHolding)]).store (Obj.SpanBank0 0) 0 [1, 1, 1, 0]).setSpan 0 { written0 := 2 ^ 71 - 1 }, by decide +kernel⟩,
   ⟨0, 0, State.reset, by decide +kernel⟩⟩

theorem witness_FollowingAndNetworkAxes :
    (∃ (a : Nat) (s : State), s.natInUse (Obj.FollowingErrorTicks a) < (s.axis a).followRun) ∧
    (∃ (a : Nat) (s : State), (s.axis a).followRun ≤ s.natInUse (Obj.FollowingErrorTicks a)) ∧
    (∃ (a : Nat) (drive : Nat) (flags : Nat) (s : State), 16 ≤ a ∧ a < 64 ∧ s.flag (Obj.NetAxisKind a) = true ∧ drive ≤ 2 ∧ bitAt flags 0 = false ∧ bitAt flags 2 = false ∧ bitAt flags 4 = false ∧ s.faultActive fkNetDrive a = false ∧ s.faultActive fkNetFeedback a = false) ∧
    (∃ (a : Nat) (s : State), 16 ≤ a ∧ a < 64 ∧ s.flag (Obj.NetAxisKind a) = true) ∧
    (∃ (a : Nat) (stamp : Nat) (s : State), 16 ≤ a ∧ a < 64 ∧ s.flag (Obj.NetAxisKind a) = true ∧ stamp ≠ s.tick ∧ ((stamp + 1 ≠ s.tick ∨ s.row.window = false)) ∧ s.get (Obj.NetAxisPath a) ≠ 1) ∧
    (∃ (a : Nat) (s : State), s.flag (Obj.NetAxisKind a) = false) ∧
    (∃ (a : Nat) (s : State), s.natInUse (Obj.NetAxisStatusLossCount a) < (s.axis a).netLateRun) ∧
    (∃ (a : Nat) (s : State), (s.axis a).netLateRun ≤ s.natInUse (Obj.NetAxisStatusLossCount a)) :=
  ⟨⟨3, State.reset.setAxis 3 { followRun := 70000 }, by decide +kernel⟩,
   ⟨0, State.reset, by decide +kernel⟩,
   ⟨16, 0, 0, (regsAt [((Obj.NetAxisKind 16), 1)]), by decide +kernel⟩,
   ⟨16, (regsAt [((Obj.NetAxisKind 16), 1)]), by decide +kernel⟩,
   ⟨20, 5, (regsAt [((Obj.NetAxisKind 20), 1), (Obj.NetAxisPath 20, 0)]), by decide +kernel⟩,
   ⟨0, (regsAt [((Obj.NetAxisKind 0), 0)]), by decide +kernel⟩,
   ⟨20, State.reset.setAxis 20 { netLateRun := 70000 }, by decide +kernel⟩,
   ⟨0, State.reset, by decide +kernel⟩⟩

theorem witness_EncoderEdgesCount :
    (∃ (c : Nat) (s : State), c < 16 ∧ s.oldVals = [] ∧ s.get (Obj.FbType c) = 1 ∧ s.get (Obj.FbMinEdgeInterval c) = 0 ∧ (s.fb c).pend = none ∧ (s.fb c).lines = 0 ∧ s.emuOutputs c = []) ∧
    (∃ (c : Nat) (s : State), c < 16 ∧ s.oldVals = [] ∧ s.get (Obj.FbType c) = 1 ∧ s.get (Obj.FbMinEdgeInterval c) = 0 ∧ (s.fb c).pend = none ∧ (s.fb c).lines = 0) ∧
    (∃ (c : Nat) (lines : Nat) (s : State), c < 16 ∧ s.oldVals = [] ∧ s.get (Obj.FbType c) = 1 ∧ 0 < s.get (Obj.FbMinEdgeInterval c) ∧ (s.fb c).pend = none ∧ (s.fb c).dirTime = none ∧ (s.fb c).lines % 4 ≠ lines % 4) ∧
    (∃ (c : Nat) (u : Nat) (e : CmpEntry) (s : State), c < 16 ∧ u < 8 ∧ s.oldVals = [] ∧ s.get (Obj.FbType c) = 1 ∧ s.get (Obj.FbMinEdgeInterval c) = 0 ∧ (s.fb c).pend = none ∧ (s.fb c).lines = 0 ∧ s.cmpUnits c = [u] ∧ s.emuOutputs c = [] ∧ s.get (Obj.CmpEnable u) = 1 ∧ s.get (Obj.CmpCycleLength u) = 0 ∧ (s.cmp u).armed = true ∧ (s.cmp u).list = [e] ∧ e.pos = wrapS 64 ((s.fb c).count + 1) ∧ e.dir = 1 ∧ e.action = 1) ∧
    (∃ (c : Nat) (s : State), c < 16 ∧ s.oldVals = [] ∧ (s.fb c).pend = none ∧ s.homeWaits c = [] ∧ 1 ≤ s.get (Obj.FbType c) ∧ s.get (Obj.FbType c) ≤ 3 ∧ s.get (Obj.FbIndexMode c) = 0 ∧ s.get (Obj.FbIndexGate c) = 0xFF) ∧
    (∃ (c : Nat) (s : State), c < 16 ∧ s.oldVals = [] ∧ (s.fb c).pend = none ∧ s.homeWaits c = [] ∧ 1 ≤ s.get (Obj.FbType c) ∧ s.get (Obj.FbType c) ≤ 3 ∧ s.get (Obj.FbIndexMode c) = 1 ∧ s.get (Obj.FbIndexGate c) = 0xFF) :=
  ⟨⟨0, (regsAt [((Obj.FbType 0), 1), ((Obj.FbMinEdgeInterval 0), 0)]), by decide +kernel⟩,
   ⟨0, (regsAt [((Obj.FbType 0), 1), ((Obj.FbMinEdgeInterval 0), 0)]), by decide +kernel⟩,
   ⟨0, 1, (regsAt [((Obj.FbType 0), 1), (Obj.FbMinEdgeInterval 0, 10)]), by decide +kernel⟩,
   ⟨0, 0, ⟨1, 1, 1, 0⟩, (regsAt [(Obj.FbType 0, 1), (Obj.CmpEnable 0, 1), (Obj.CmpChannel 0, 0), (Obj.FbMinEdgeInterval 0, 0)]).setCmp 0 { list := [⟨1, 1, 1, 0⟩], armed := true }, by decide +kernel⟩,
   ⟨0, (regsAt [((Obj.FbIndexMode 0), 0), ((Obj.FbIndexGate 0), 0xFF), (Obj.FbType 0, 1)]), by decide +kernel⟩,
   ⟨0, (regsAt [((Obj.FbIndexMode 0), 1), ((Obj.FbIndexGate 0), 0xFF), (Obj.FbType 0, 1)]), by decide +kernel⟩⟩

theorem witness_SsiFramesAndLines :
    (∃ (c : Nat) (s : State), c < 16 ∧ s.oldVals = []) ∧
    (∃ (c : Nat) (word : Nat) (delay : Nat) (w : Nat) (s : State), c < 16 ∧ s.oldVals = [] ∧ s.get (Obj.FbType c) = 5 ∧ s.get (Obj.SsiPositionShift c) = 0 ∧ s.nat (Obj.SsiPositionBits c) = w ∧ word < 2 ^ w ∧ delay ≤ 2000 ∧ (s.fb c).ssiPrev = none) ∧
    (∃ (c : Nat) (word : Nat) (delay : Nat) (w : Nat) (p : Nat) (s : State), c < 16 ∧ s.oldVals = [] ∧ s.get (Obj.FbType c) = 5 ∧ s.get (Obj.SsiPositionShift c) = 0 ∧ s.nat (Obj.SsiPositionBits c) = w ∧ word < 2 ^ w ∧ delay ≤ 2000 ∧ (s.fb c).ssiPrev = some p ∧ s.get (Obj.SsiMaxStep c) = 0) :=
  ⟨⟨0, State.reset, by decide +kernel⟩,
   ⟨0, 0, 0, 0, (regsAt [((Obj.FbType 0), 5), ((Obj.SsiPositionShift 0), 0), ((Obj.SsiPositionBits 0), 0)]), by decide +kernel⟩,
   ⟨0, 12, 0, 12, 9, (regsAt [((Obj.FbType 0), 5), ((Obj.SsiPositionShift 0), 0), ((Obj.SsiPositionBits 0), 12), ((Obj.SsiMaxStep 0), 0), (Obj.SsiPositionBits 0, 12)]).setFb 0 { ssiPrev := some 9 }, by decide +kernel⟩⟩

theorem witness_FeedbackCommands :
    (∃ (c : Nat) (s : State), s.get (Obj.FbIndexMode c) = 2) ∧
    (∃ (c : Nat) (s : State), (s.get (Obj.FbIndexMode c) = 0 ∨ s.get (Obj.FbIndexMode c) = 1)) ∧
    (∃ (c : Nat) (s : State), c < 16 ∧ (s.fb c).presetDue = true) ∧
    (∃ (c : Nat) (s : State), (s.fb c).presetDue = false) ∧
    (∃ (n : Nat) (c : Nat) (s : State), s.sessionOk n = true ∧ s.power.recovery = false ∧ c < 16) ∧
    (∃ (n : Nat) (c : Nat) (b : Nat) (s : State), s.sessionOk n = true ∧ s.power.recovery = false ∧ c < 16 ∧ b < 256 ∧ ((b = 0 ∨ 3 < b))) :=
  ⟨⟨0, (regsAt [((Obj.FbIndexMode 0), 2)]), by decide +kernel⟩,
   ⟨0, State.reset, by decide +kernel⟩,
   ⟨0, State.reset.setFb 0 { presetDue := true }, by decide +kernel⟩,
   ⟨0, State.reset, by decide +kernel⟩,
   ⟨0, 0, State.reset, by decide +kernel⟩,
   ⟨0, 0, 0, State.reset, by decide +kernel⟩⟩

theorem witness_CompareAndEmulation :
    (∃ (u : Nat) (s : State), s.oldVals = [] ∧ (s.cmp u).pulses ≠ 0) ∧
    (∃ (u : Nat) (s : State), s.oldVals = [] ∧ (s.cmp u).pulses = 0) ∧
    (∃ (u : Nat) (data : List Byte) (s : State) (w : State), u < 8 ∧ s.oldVals = [] ∧ w = s.fbFlushNow (s.nat (Obj.CmpChannel u)) ∧ cmpEntryStatus data = 0 ∧ (w.cmp u).list.length < 4096 ∧ w.get (Obj.CmpEnable u) = 0) ∧
    (∃ (u : Nat) (data : List Byte) (s : State) (w : State), u < 8 ∧ s.oldVals = [] ∧ w = s.fbFlushNow (s.nat (Obj.CmpChannel u)) ∧ cmpEntryStatus data = 0 ∧ 4096 ≤ (w.cmp u).list.length) ∧
    (∃ (u : Nat) (data : List Byte) (s : State), u < 8 ∧ s.oldVals = [] ∧ cmpEntryStatus data ≠ 0) ∧
    (∃ (e : Nat) (s : State) (w : State), e < 4 ∧ s.oldVals = [] ∧ w = s.emuDeliver (s.emuDue e) e ∧ 0 < w.get (Obj.EmuDelayed e) ∧ w.get (Obj.EmuMaxEdgeRate e) ≠ 0) ∧
    (∃ (e : Nat) (s : State) (w : State), s.oldVals = [] ∧ w = s.emuDeliver (s.emuDue e) e ∧ ((w.get (Obj.EmuDelayed e) = 0 ∨ w.get (Obj.EmuMaxEdgeRate e) = 0))) :=
  ⟨⟨0, State.reset.setCmp 0 { pulses := 2, level := true }, by decide +kernel⟩,
   ⟨0, State.reset, by decide +kernel⟩,
   ⟨0, natLE 8 5 ++ [1, 1, 0, 0, 0, 0, 0, 0], State.reset, _, by decide +kernel, by decide +kernel, rfl, by decide +kernel, by decide +kernel, by decide +kernel⟩,
   ⟨0, natLE 8 5 ++ [1, 1, 0, 0, 0, 0, 0, 0], State.reset.setCmp 0 { list := List.replicate 4096 ⟨0, 1, 1, 0⟩ }, _, by decide +kernel, by decide +kernel, rfl, by decide +kernel, by decide +kernel⟩,
   ⟨0, [], State.reset, by decide +kernel⟩,
   ⟨0, (regsAt [(Obj.EmuDelayed 0, 2), (Obj.EmuMaxEdgeRate 0, 100)]), _, by decide +kernel, by decide +kernel, rfl, by decide +kernel, by decide +kernel⟩,
   ⟨0, State.reset, _, by decide +kernel, rfl, by decide +kernel⟩⟩

theorem witness_CurrentSensingAndTheFieldPipeline :
    (∃ (a : Nat) (s : State), a < 16 ∧ s.oldVals = [] ∧ s.estimates a = false ∧ (s.pwm a).off = true ∧ s.get (Obj.DcLinkSource a) = 0xFF ∧ s.get (Obj.CurSumLimit a) = 0 ∧ s.get (Obj.CastOnState a) ≠ 4 ∧ s.get (Obj.PvsScan a) = 0 ∧ s.dcOutside a (s.get (Obj.DcLinkNominal a)) = false) ∧
    (∃ (a : Nat) (raw : List Int) (i3 : Int × Int × Int) (ab : Int × Int) (s : State), a < 16 ∧ s.oldVals = [] ∧ s.estimates a = false ∧ i3 = s.phaseCurrents a raw ∧ ab = clarke i3.1 i3.2.1 i3.2.2) ∧
    (∃ (i : Nat) (s : State), s.inputPhases i = [] ∧ s.inputDcLink i = [] ∧ i ∉ s.lostInputs) ∧
    (∃ (i : Nat) (a : Nat) (s : State), s.inputPhases i = [a] ∧ s.inputDcLink i = [] ∧ i ∉ s.lostInputs) ∧
    (∃ (i : Nat) (s : State), s.inputPhases i = []) ∧
    (∃ (n : Nat) (f : Nat) (run : Nat) (outputs : List Int) (s : State) (w : State), f < 3 ∧ s.oldVals = [] ∧ s.get (Obj.FastEnable n) = 1 ∧ (s.pwm n).comp = 0 ∧ s.get (Obj.TripFilter n 2) = 0 ∧ run = beyondRun (s.get (Obj.FastHigh n)) (s.get (Obj.FastLow n)) ((s.foc n).fastRuns.getD f 0) (outputs.map fun x => sincScale (s.curCal n f).1 (s.curCal n f).2 (sincFraction (s.nat (Obj.FastOrder n)) (s.nat (Obj.FastOsr n)) x)) ∧ s.nat (Obj.FastCount n) < run ∧ w = s.setFoc n { s.foc n with fastRuns := (s.foc n).fastRuns.set f run }) ∧
    (∃ (n : Nat) (f : Nat) (run : Nat) (outputs : List Int) (s : State), f < 3 ∧ s.oldVals = [] ∧ s.get (Obj.FastEnable n) = 1 ∧ (s.pwm n).comp = 0 ∧ run = beyondRun (s.get (Obj.FastHigh n)) (s.get (Obj.FastLow n)) ((s.foc n).fastRuns.getD f 0) (outputs.map fun x => sincScale (s.curCal n f).1 (s.curCal n f).2 (sincFraction (s.nat (Obj.FastOrder n)) (s.nat (Obj.FastOsr n)) x)) ∧ run ≤ s.nat (Obj.FastCount n)) ∧
    (∃ (n : Nat) (f : Nat) (s : State), f < 3 ∧ s.oldVals = [] ∧ s.get (Obj.FastEnable n) = 0 ∧ (s.pwm n).comp = 0) ∧
    (∃ (g : Nat) (raw : Int) (s : State), s.oldVals = [] ∧ s.get (Obj.GenInputEnable g) = 1 ∧ s.get (Obj.GenCompAction g) = 2 ∧ (s.pwm g).comp = 0 ∧ s.generalLimit g (sincScale (s.get (Obj.GenOffset g)) (s.get (Obj.GenGain g)) (sincFraction (s.nat (Obj.FastOrder g)) (s.nat (Obj.FastOsr g)) raw)) = true) ∧
    (∃ (g : Nat) (raw : Int) (s : State), s.oldVals = [] ∧ s.get (Obj.GenInputEnable g) = 1 ∧ s.get (Obj.GenCompAction g) = 1 ∧ (s.pwm g).comp = 0 ∧ s.get (Obj.TripFilter g 2) = 0 ∧ s.generalLimit g (sincScale (s.get (Obj.GenOffset g)) (s.get (Obj.GenGain g)) (sincFraction (s.nat (Obj.FastOrder g)) (s.nat (Obj.FastOsr g)) raw)) = true) ∧
    (∃ (g : Nat) (raw : Int) (s : State), s.oldVals = [] ∧ (s.pwm g).comp = 0 ∧ s.generalLimit g (sincScale (s.get (Obj.GenOffset g)) (s.get (Obj.GenGain g)) (sincFraction (s.nat (Obj.FastOrder g)) (s.nat (Obj.FastOsr g)) raw)) = false) ∧
    (∃ (n : Nat) (f : Nat) (l : List (Nat × Nat)) (s : State), s.oldVals = [] ∧ s.pvs = (n, f) :: l) ∧
    (∃ (n : Nat) (f : Nat) (sinceEdge : Nat) (value : Int) (old : Option Bool) (s : State), s.oldVals = [] ∧ old = ((s.foc n).changes.find? fun c => c.1 == f).map (fun c => c.2.2) ∧ old ≠ some (s.pvsLevel n value (old.getD false)) ∧ sinceEdge < s.nat (Obj.PvsBlanking n)) ∧
    (∃ (n : Nat) (f : Nat) (value : Int) (old : Option Bool) (s : State), s.oldVals = [] ∧ old = ((s.foc n).changes.find? fun c => c.1 == f).map (fun c => c.2.2) ∧ old = some (s.pvsLevel n value (old.getD false))) ∧
    (∃ (n : Nat) (f : Nat) (time : Nat) (sinceEdge : Nat) (value : Int) (old : Option Bool) (high : Bool) (s : State), n < 16 ∧ s.oldVals = [] ∧ old = ((s.foc n).changes.find? fun c => c.1 == f).map (fun c => c.2.2) ∧ high = s.pvsLevel n value (old.getD false) ∧ old ≠ some high ∧ s.nat (Obj.PvsBlanking n) ≤ sinceEdge ∧ s.get (Obj.SlEstimator n) = 2 ∧ time < (s.sl n).commAt + s.nat (Obj.SlDemagTime n) * 5 / 2) ∧
    (∃ (n : Nat) (f : Nat) (sinceEdge : Nat) (value : Int) (old : Option Bool) (high : Bool) (s : State), n < 16 ∧ s.oldVals = [] ∧ old = ((s.foc n).changes.find? fun c => c.1 == f).map (fun c => c.2.2) ∧ high = s.pvsLevel n value (old.getD false) ∧ old ≠ some high ∧ s.nat (Obj.PvsBlanking n) ≤ sinceEdge ∧ s.get (Obj.SlEstimator n) ≠ 2 ∧ s.get (Obj.CastOnState n) ≠ 1 ∧ (s.sl n).lost = false) :=
  ⟨⟨3, (regsAt [((Obj.DcLinkSource 3), 0xFF), ((Obj.CurSumLimit 3), 0), ((Obj.PvsScan 3), 0)]), by decide +kernel⟩,
   ⟨3, [0, 0, 0], _, _, State.reset, by decide +kernel, by decide +kernel, by decide +kernel, rfl, rfl⟩,
   ⟨60, State.reset, by decide +kernel⟩,
   ⟨9, 3, (regsAt [(Obj.CurInputU 3, 9)]), by decide +kernel⟩,
   ⟨60, State.reset, by decide +kernel⟩,
   ⟨0, 0, _, [0], (regsAt [((Obj.FastEnable 0), 1), ((Obj.TripFilter 0 2), 0), (Obj.FastCount 0, 0), (Obj.FastHigh 0, -100), (Obj.FastLow 0, -200)]), _, by decide +kernel, by decide +kernel, by decide +kernel, by decide +kernel, by decide +kernel, rfl, by decide +kernel, rfl⟩,
   ⟨0, 0, _, [0], (regsAt [((Obj.FastEnable 0), 1), (Obj.FastCount 0, 4)]), by decide +kernel, by decide +kernel, by decide +kernel, by decide +kernel, rfl, by decide +kernel⟩,
   ⟨0, 0, (regsAt [((Obj.FastEnable 0), 0)]), by decide +kernel⟩,
   ⟨0, 0, (regsAt [((Obj.GenInputEnable 0), 1), ((Obj.GenCompAction 0), 2), (Obj.GenCompHigh 0, -100), (Obj.GenCompLow 0, -200)]), by decide +kernel⟩,
   ⟨0, 0, (regsAt [((Obj.GenInputEnable 0), 1), ((Obj.GenCompAction 0), 1), ((Obj.TripFilter 0 2), 0), (Obj.GenCompHigh 0, -100), (Obj.GenCompLow 0, -200)]), by decide +kernel⟩,
   ⟨0, 0, State.reset, by decide +kernel⟩,
   ⟨0, 1, [(2, 0)], { State.reset with pvs := [(0, 1), (2, 0)] }, by decide +kernel⟩,
   ⟨0, 0, 0, 0, _, (regsAt [(Obj.PvsBlanking 0, 100)]), by decide +kernel, rfl, by decide +kernel, by decide +kernel⟩,
   ⟨3, 0, -100000, some false, State.reset.setFoc 3 { changes := [(0, 5, false)] }, by decide +kernel⟩,
   ⟨3, 0, 0, 100000, 0, _, _, (regsAt [((Obj.SlEstimator 3), 2), (Obj.SlDemagTime 3, 1000)]).setSl 3 { commAt := 10000 }, by decide +kernel, by decide +kernel, rfl, rfl, by decide +kernel, by decide +kernel, by decide +kernel, by decide +kernel⟩,
   ⟨3, 0, 100000, 0, _, _, (regsAt [(Obj.PvsBlanking 3, 100)]), by decide +kernel, by decide +kernel, rfl, rfl, by decide +kernel, by decide +kernel, by decide +kernel, by decide +kernel, by decide +kernel⟩⟩

theorem witness_EstimatorsAndPulses :
    (∃ (a : Nat) (time : Nat) (s : State), s.sixStep a = true ∧ s.commutes a time = true ∧ 0 ≤ (s.foc a).used.2) ∧
    (∃ (a : Nat) (time : Nat) (s : State), s.sixStep a = true ∧ s.commutes a time = true ∧ (s.foc a).used.2 < 0) ∧
    (∃ (a : Nat) (time : Nat) (s : State), (s.sixStep a = false ∨ s.commutes a time = false)) ∧
    (∃ (a : Nat) (s : State), 64 ≤ (s.sl a).lockRun ∧ (s.sl a).locked = false ∧ s.get (Obj.CastOnState a) = 3 ∧ s.casts a = true) ∧
    (∃ (a : Nat) (s : State), (s.sl a).lockRun < 64) ∧
    (∃ (a : Nat) (s : State), 256 ≤ (s.sl a).hfiCount ∧ (s.sl a).locked = false ∧ s.get (Obj.HfiAmplitude a) = 0 ∧ s.get (Obj.CastOnState a) ≠ 3) ∧
    (∃ (a : Nat) (raw : List Int) (d : DibberRt) (i3 : Int × Int × Int) (i : Int) (s : State), a < 16 ∧ (s.sl a).dibber = some d ∧ d.gap = false ∧ d.since + s.natInUse (Obj.DibberPulseTime a) * 163840 ≤ s.now16 ∧ i3 = s.phaseCurrents a raw ∧ i = (park (clarke i3.1 i3.2.1 i3.2.2).1 (clarke i3.1 i3.2.1 i3.2.2).2 d.direction).1 ∧ s.inUse (Obj.DibberCurrentLimit a) ≠ 0 ∧ i.natAbs ≤ s.inUse (Obj.DibberCurrentLimit a) ∧ d.done.length + 1 < (if d.polarity then 2 else 12)) ∧
    (∃ (a : Nat) (d : DibberRt) (s : State), (s.sl a).dibber = some d ∧ d.gap = false ∧ d.since + s.natInUse (Obj.DibberPulseTime a) * 163840 ≤ s.now16 ∧ s.inUse (Obj.DibberCurrentLimit a) = 0) ∧
    (∃ (a : Nat) (d : DibberRt) (s : State), (s.sl a).dibber = some d ∧ d.gap = true ∧ d.since + s.natInUse (Obj.DibberGap a) * 163840 ≤ s.now16) ∧
    (∃ (a : Nat) (s : State), s.get (Obj.CastOnState a) = 1) ∧
    (∃ (a : Nat) (s : State), s.get (Obj.AxisState a) = axCasting ∧ s.flagInUse (Obj.CastOnTimeout a) = true) ∧
    (∃ (a : Nat) (s : State), s.get (Obj.AxisState a) = axCasting ∧ s.get (Obj.CastOnState a) = 4) ∧
    (∃ (a : Nat) (s : State), s.get (Obj.AxisState a) = axCasting ∧ s.flagInUse (Obj.CastOnTimeout a) = false) :=
  ⟨⟨3, 0, (regsAt [(Obj.SlEstimator 3, 2)]).setAxis 3 { closed := true }, by decide +kernel⟩,
   ⟨3, 0, ((regsAt [(Obj.SlEstimator 3, 2)]).setAxis 3 { closed := true }).setFoc 3 { used := (0, -5) }, by decide +kernel⟩,
   ⟨0, 0, State.reset, by decide +kernel⟩,
   ⟨3, (regsAt [((Obj.CastOnState 3), 3), (Obj.AxisState 3, axCasting)]).setSl 3 { lockRun := 64 }, by decide +kernel⟩,
   ⟨0, State.reset, by decide +kernel⟩,
   ⟨3, (regsAt [((Obj.HfiAmplitude 3), 0)]).setSl 3 { hfiCount := 256 }, by decide +kernel⟩,
   ⟨3, [0, 0, 0], ⟨false, 0, [], false, 0⟩, _, _, (regsAt [(Obj.DibberCurrentLimit 3, 100), (Obj.TrellisCounter, 100000000)]).setSl 3 { dibber := some ⟨false, 0, [], false, 0⟩ }, by decide +kernel, by decide +kernel, by decide +kernel, by decide +kernel, rfl, rfl, by decide +kernel, Int.le_trans (Int.le_of_eq (congrArg Nat.cast (park_of_zero _ _ _ (by decide +kernel) (by decide +kernel)))) (by decide +kernel), by decide +kernel⟩,
   ⟨3, ⟨false, 0, [], false, 0⟩, (regsAt [(Obj.DibberCurrentLimit 3, 0), (Obj.TrellisCounter, 100000000)]).setSl 3 { dibber := some ⟨false, 0, [], false, 0⟩ }, by decide +kernel⟩,
   ⟨3, ⟨false, 0, [], true, 0⟩, (regsAt [(Obj.TrellisCounter, 100000000)]).setSl 3 { dibber := some ⟨false, 0, [], true, 0⟩ }, by decide +kernel⟩,
   ⟨0, (regsAt [((Obj.CastOnState 0), 1)]), by decide +kernel⟩,
   ⟨3, (regsAt [((Obj.AxisState 3), axCasting), (Obj.CastOnTimeout 3, 100)]), by decide +kernel⟩,
   ⟨0, (regsAt [((Obj.AxisState 0), axCasting), ((Obj.CastOnState 0), 4)]), by decide +kernel⟩,
   ⟨0, (regsAt [((Obj.AxisState 0), axCasting)]), by decide +kernel⟩⟩

theorem witness_LockLossAndRecovery :
    (∃ (a : Nat) (time : Nat) (s : State), a < 16 ∧ s.get (Obj.FbSource a) = 3 ∧ s.lockCause a time = true ∧ (s.axis a).closed = true ∧ s.get (Obj.AxisState a) = axHolding ∧ (s.sl a).lost = false ∧ (s.sl a).riding = false ∧ s.get (Obj.LockRecoveryEnable a) = 1) ∧
    (∃ (a : Nat) (time : Nat) (s : State), s.lockCause a time = false) ∧
    (∃ (a : Nat) (s : State), a < 16 ∧ (s.sl a).lost = true ∧ s.ascLevel a < (s.sl a).lastE) ∧
    (∃ (a : Nat) (s : State), a < 16 ∧ (s.sl a).lost = true ∧ (s.sl a).lastE ≤ s.ascLevel a ∧ s.inUse (Obj.CastOnBemfThreshold a) ≤ (s.sl a).lastE) ∧
    (∃ (a : Nat) (s : State), (s.sl a).lost = false) ∧
    (∃ (a : Nat) (s : State), (s.sl a).hold = false ∧ (s.sl a).asc = true ∧ (s.sl a).estimate = none) ∧
    (∃ (a : Nat) (s : State), (s.sl a).hold = true) ∧
    (∃ (a : Nat) (s : State), a < 16 ∧ (s.sl a).lost = true ∧ (s.sl a).reacq = true) ∧
    (∃ (a : Nat) (s : State), (s.sl a).lost = true ∧ (s.sl a).reacq = false) ∧
    (∃ (a : Nat) (s : State), (s.sl a).riding = true ∧ s.inUse (Obj.RideThroughReturn a) = 1 ∧ s.natInUse (Obj.RideThroughReturnTicks a) < (s.sl a).absent) ∧
    (∃ (s : State), s.get Obj.DeviceState ≠ devRun) ∧
    (∃ (a : Nat) (s : State), s.get Obj.DeviceState = devRun ∧ s.get (Obj.AxisState a) ≠ axStandby) ∧
    (∃ (a : Nat) (s : State), a < 16 ∧ s.get Obj.DeviceState = devRun ∧ s.get (Obj.AxisState a) = axStandby) ∧
    (∃ (a : Nat) (s : State), s.faultActive fkFeedbackLost a = true) ∧
    (∃ (a : Nat) (s : State), s.faultActive fkFeedbackLost a = false ∧ (s.sl a).riding = true ∧ s.get (Obj.RideThroughReturn a) = 2) ∧
    (∃ (a : Nat) (s : State), s.faultActive fkFeedbackLost a = false ∧ (((s.sl a).riding = false ∨ s.get (Obj.RideThroughReturn a) ≠ 2))) :=
  ⟨⟨3, 0, ((regsAt [((Obj.FbSource 3), 3), ((Obj.AxisState 3), axHolding), ((Obj.LockRecoveryEnable 3), 1), (Obj.SlEstimator 3, 1)]).setAxis 3 { closed := true }).setSl 3 { locked := true, lossRun := 64, speed := 0 }, by decide +kernel⟩,
   ⟨0, 0, State.reset, by decide +kernel⟩,
   ⟨3, State.reset.setSl 3 { lost := true, lastE := 100 }, by decide +kernel⟩,
   ⟨3, ((regsAt [(Obj.CastOnBemfThreshold 3, 0), (Obj.AscThreshold 3, 1073741824)]).setSl 3 { lost := true, lastE := 100 }).setFoc 3 { vdc := 1000 }, by decide +kernel⟩,
   ⟨0, State.reset, by decide +kernel⟩,
   ⟨3, State.reset.setSl 3 { asc := true }, by decide +kernel⟩,
   ⟨3, State.reset.setSl 3 { hold := true }, by decide +kernel⟩,
   ⟨3, State.reset.setSl 3 { lost := true, reacq := true }, by decide +kernel⟩,
   ⟨3, State.reset.setSl 3 { lost := true }, by decide +kernel⟩,
   ⟨3, (regsAt [(Obj.RideThroughReturnTicks 3, 4)]).setSl 3 { riding := true, absent := 9 }, by decide +kernel⟩,
   ⟨State.reset, by decide +kernel⟩,
   ⟨0, (regsAt [(Obj.DeviceState, devRun)]), by decide +kernel⟩,
   ⟨0, (regsAt [(Obj.DeviceState, devRun), ((Obj.AxisState 0), axStandby)]), by decide +kernel⟩,
   ⟨3, State.reset.setActive fkFeedbackLost 3 true, by decide +kernel⟩,
   ⟨3, (regsAt [((Obj.RideThroughReturn 3), 2)]).setSl 3 { riding := true }, by decide +kernel⟩,
   ⟨0, State.reset, by decide +kernel⟩⟩

theorem witness_PowerStages :
    (∃ (n : Nat) (s : State), s.oldVals = [] ∧ 2 * s.nat (Obj.PwmRatio n) ≤ (s.pwm n).half) ∧
    (∃ (n : Nat) (s : State), n < 16 ∧ s.oldVals = [] ∧ (s.pwm n).half < 2 * s.nat (Obj.PwmRatio n) ∧ (s.pwm n).half % 2 = 1 ∧ s.get (Obj.FocUpdatesPerPeriod n) = 1 ∧ (∀ x ∈ (s.pwm n).phases, x.mode = 0) ∧ (s.pwm n).phases.length = 3) ∧
    (∃ (n : Nat) (s : State), n < 16 ∧ s.oldVals = [] ∧ (s.pwm n).half < 2 * s.nat (Obj.PwmRatio n) ∧ (s.pwm n).half % 2 = 1) ∧
    (∃ (n : Nat) (i : Nat) (run : Nat) (high : Bool) (s : State), s.oldVals = [] ∧ s.tripPasses n i high run = (s.pwm n).asserted.testBit i) ∧
    (∃ (n : Nat) (i : Nat) (run : Nat) (high : Bool) (s : State) (w : State), n < 16 ∧ i < 3 ∧ s.oldVals = [] ∧ s.tripPasses n i high run = true ∧ (s.pwm n).asserted.testBit i = false ∧ s.get (Obj.TripMode n i) = 0 ∧ w = s.setPwm n { s.pwm n with asserted := setBitN (s.pwm n).asserted i, tail := clrBitN (s.pwm n).tail i }) ∧
    (∃ (n : Nat) (i : Nat) (run : Nat) (sinceEdge : Nat) (high : Bool) (s : State) (w : State) (v : State), n < 16 ∧ i < 3 ∧ s.oldVals = [] ∧ s.tripPasses n i high run = true ∧ (s.pwm n).asserted.testBit i = false ∧ w = s.setPwm n { s.pwm n with asserted := setBitN (s.pwm n).asserted i, tail := clrBitN (s.pwm n).tail i } ∧ v = w.acqEvent 2 5 n (n * 256 + i) w.now16 ∧ s.get (Obj.TripMode n i) ≠ 0 ∧ sinceEdge < s.nat (Obj.TripBlanking n i)) ∧
    (∃ (n : Nat) (i : Nat) (run : Nat) (sinceEdge : Nat) (high : Bool) (issued : List Nat) (s : State) (w : State) (v : State) (x : State) (u : State), n < 16 ∧ i < 3 ∧ s.oldVals = [] ∧ s.tripPasses n i high run = true ∧ (s.pwm n).asserted.testBit i = false ∧ w = s.setPwm n { s.pwm n with asserted := setBitN (s.pwm n).asserted i, tail := clrBitN (s.pwm n).tail i } ∧ v = w.acqEvent 2 5 n (n * 256 + i) w.now16 ∧ s.get (Obj.TripMode n i) = 1 ∧ s.nat (Obj.TripBlanking n i) ≤ sinceEdge ∧ s.auxBlanks n i = false ∧ x = (v.count (tripCount n i) 32 1).cutHalf n issued ∧ u = (x.put (Obj.PwmTripStatus n) (x.nat (Obj.PwmTripStatus n) ||| 2 ^ i : Nat)).setPwm n { x.pwm n with off := true } ∧ ((u.raiseLasting fkTrip n).sl n).lost = false ∧ (u.raiseLasting fkTrip n).casts n = false) ∧
    (∃ (n : Nat) (i : Nat) (run : Nat) (high : Bool) (s : State), n < 16 ∧ i < 3 ∧ s.oldVals = [] ∧ s.tripPasses n i high run = false ∧ (s.pwm n).asserted.testBit i = true) ∧
    (∃ (n : Nat) (i : Nat) (s : State), s.oldVals = [] ∧ (s.pwm n).waiting.testBit i = false) ∧
    (∃ (n : Nat) (i : Nat) (s : State), s.oldVals = [] ∧ (s.pwm n).waiting.testBit i = true ∧ (s.pwm n).asserted.testBit i = true ∧ s.auxBlanks n i = false) ∧
    (∃ (n : Nat) (i : Nat) (s : State), s.oldVals = [] ∧ (s.pwm n).waiting.testBit i = true ∧ (s.pwm n).asserted.testBit i = true ∧ s.auxBlanks n i = true) ∧
    (∃ (n : Nat) (s : State), n < 16 ∧ s.casts n = false) ∧
    (∃ (n : Nat) (s : State), (s.pwm n).off = true ∧ (s.pwm n).gen = true ∧ (s.pwm n).dse = true ∧ s.tripLatched n = false) ∧
    (∃ (n : Nat) (s : State), ((s.pwm n).gen = false ∨ (s.pwm n).dse = false ∨ s.tripLatched n = true)) ∧
    (∃ (n : Nat) (s : State), s.oldVals = [] ∧ s.get (Obj.AuxAction n 0) ≠ 2 ∧ s.get (Obj.AuxAction n 0) ≠ 3) ∧
    (∃ (n : Nat) (s : State), s.oldVals = [] ∧ s.get (Obj.AuxAction n 1) ≠ 2 ∧ s.get (Obj.AuxAction n 1) ≠ 3) :=
  ⟨⟨3, State.reset.setPwm 3 { half := 100000 }, by decide +kernel⟩,
   ⟨3, (regsAt [((Obj.FocUpdatesPerPeriod 3), 1), (Obj.PwmRatio 3, 4)]).setPwm 3 { half := 1 }, by decide +kernel⟩,
   ⟨3, (regsAt [(Obj.PwmRatio 3, 4)]).setPwm 3 { half := 1 }, by decide +kernel⟩,
   ⟨0, 0, 0, false, State.reset, by decide +kernel⟩,
   ⟨3, 1, 70000, true, (regsAt [((Obj.TripMode 3 1), 0), (Obj.TripActiveLevel 3 1, 1)]), _, by decide +kernel, by decide +kernel, by decide +kernel, by decide +kernel, by decide +kernel, by decide +kernel, rfl⟩,
   ⟨3, 1, 70000, 0, true, (regsAt [(Obj.TripActiveLevel 3 1, 1), (Obj.TripMode 3 1, 1), (Obj.TripBlanking 3 1, 100)]), _, _, by decide +kernel, by decide +kernel, by decide +kernel, by decide +kernel, by decide +kernel, rfl, rfl, by decide +kernel, by decide +kernel⟩,
   ⟨3, 1, 70000, 70000, true, [], (regsAt [((Obj.TripMode 3 1), 1), (Obj.TripActiveLevel 3 1, 1)]), _, _, _, _, by decide +kernel, by decide +kernel, by decide +kernel, by decide +kernel, by decide +kernel, rfl, rfl, by decide +kernel, by decide +kernel, by decide +kernel, rfl, rfl, by decide +kernel, by decide +kernel⟩,
   ⟨3, 1, 0, false, State.reset.setPwm 3 { asserted := 2 }, by decide +kernel⟩,
   ⟨0, 0, State.reset, by decide +kernel⟩,
   ⟨3, 1, State.reset.setPwm 3 { waiting := 2, asserted := 2 }, by decide +kernel⟩,
   ⟨3, 1, (regsAt [(Obj.AuxAction 3 0, 1), (Obj.AuxTripMask 3 0, 2)]).setPwm 3 { waiting := 2, asserted := 2, aux0 := true }, by decide +kernel⟩,
   ⟨0, State.reset, by decide +kernel⟩,
   ⟨3, State.reset.setPwm 3 { gen := true, dse := true }, by decide +kernel⟩,
   ⟨0, State.reset, by decide +kernel⟩,
   ⟨0, State.reset, by decide +kernel⟩,
   ⟨0, State.reset, by decide +kernel⟩⟩

theorem witness_MidopinArithmetic :
    (∃ (core : Nat) (s : State), (s.core core).Plain) ∧
    (∃ (core : Nat) (rd : Nat) (s : State), (s.core core).Plain ∧ rd < 64) ∧
    (∃ (core : Nat) (rd : Nat) (s : State), (s.core core).Plain ∧ 0 < rd ∧ rd < 64) ∧
    (∃ (core : Nat) (rd : Nat) (s : State), (s.core core).Plain ∧ rd < 64) ∧
    (∃ (core : Nat) (rd : Nat) (s : State), (s.core core).Plain ∧ rd < 64) ∧
    (∃ (core : Nat) (rd : Nat) (s : State), (s.core core).Plain ∧ rd < 64) ∧
    (∃ (core : Nat) (rd : Nat) (s : State), (s.core core).Plain ∧ rd < 64) ∧
    (∃ (core : Nat) (rd : Nat) (s : State), (s.core core).Plain ∧ rd < 64) ∧
    (∃ (core : Nat) (rd : Nat) (s : State), (s.core core).Plain ∧ rd < 64) ∧
    (∃ (core : Nat) (rd : Nat) (s : State), (s.core core).Plain ∧ rd < 64) ∧
    (∃ (core : Nat) (rd : Nat) (s : State), (s.core core).Plain ∧ rd < 64) ∧
    (∃ (core : Nat) (rd : Nat) (s : State), (s.core core).Plain ∧ rd < 64) :=
  ⟨⟨0, State.reset, by unfold CoreRt.Plain; decide +kernel⟩,
   ⟨0, 0, State.reset, by unfold CoreRt.Plain; decide +kernel⟩,
   ⟨0, 1, State.reset, by unfold CoreRt.Plain; decide +kernel⟩,
   ⟨0, 0, State.reset, by unfold CoreRt.Plain; decide +kernel⟩,
   ⟨0, 0, State.reset, by unfold CoreRt.Plain; decide +kernel⟩,
   ⟨0, 0, State.reset, by unfold CoreRt.Plain; decide +kernel⟩,
   ⟨0, 0, State.reset, by unfold CoreRt.Plain; decide +kernel⟩,
   ⟨0, 0, State.reset, by unfold CoreRt.Plain; decide +kernel⟩,
   ⟨0, 0, State.reset, by unfold CoreRt.Plain; decide +kernel⟩,
   ⟨0, 0, State.reset, by unfold CoreRt.Plain; decide +kernel⟩,
   ⟨0, 0, State.reset, by unfold CoreRt.Plain; decide +kernel⟩,
   ⟨0, 0, State.reset, by unfold CoreRt.Plain; decide +kernel⟩⟩

theorem witness_MidopinComparesAndAccumulates :
    (∃ (core : Nat) (rd : Nat) (ra : Nat) (rb : Nat) (s : State), (s.core core).Plain ∧ rd < 64 ∧ (s.core core).reg ra ≤ (s.core core).reg rb) ∧
    (∃ (core : Nat) (rd : Nat) (s : State), (s.core core).Plain ∧ rd < 64) ∧
    (∃ (core : Nat) (rd : Nat) (s : State), (s.core core).Plain ∧ rd < 64) ∧
    (∃ (core : Nat) (rd : Nat) (ra : Nat) (s : State), (s.core core).Plain ∧ 2 ≤ rd ∧ rd ≤ 30 ∧ rd % 2 = 0 ∧ (s.core core).reg rd < (s.core core).reg ra) ∧
    (∃ (core : Nat) (rd : Nat) (ra : Nat) (s : State), (s.core core).Plain ∧ (s.core core).reg ra ≤ (s.core core).reg rd) ∧
    (∃ (core : Nat) (rd : Nat) (ra : Nat) (s : State), (s.core core).Plain ∧ 2 ≤ rd ∧ rd ≤ 30 ∧ rd % 2 = 0 ∧ (s.core core).reg ra < (s.core core).reg rd) ∧
    (∃ (core : Nat) (s : State), (s.core core).Plain) ∧
    (∃ (core : Nat) (s : State), (s.core core).Plain) ∧
    (∃ (core : Nat) (s : State), (s.core core).Plain) ∧
    (∃ (core : Nat) (rd : Nat) (s : State), (s.core core).Plain ∧ rd < 64) ∧
    (∃ (core : Nat) (s : State), (s.core core).Plain) ∧
    (∃ (core : Nat) (s : State), (s.core core).Plain) :=
  ⟨⟨0, 0, 0, 0, State.reset, by unfold CoreRt.Plain; decide +kernel⟩,
   ⟨0, 0, State.reset, by unfold CoreRt.Plain; decide +kernel⟩,
   ⟨0, 0, State.reset, by unfold CoreRt.Plain; decide +kernel⟩,
   ⟨0, 4, 6, State.reset.setCore 0 { main := { x := [(6, 5)] } }, by unfold CoreRt.Plain; decide +kernel⟩,
   ⟨0, 0, 0, State.reset, by unfold CoreRt.Plain; decide +kernel⟩,
   ⟨0, 4, 6, State.reset.setCore 0 { main := { x := [(6, -5)] } }, by unfold CoreRt.Plain; decide +kernel⟩,
   ⟨0, State.reset, by unfold CoreRt.Plain; decide +kernel⟩,
   ⟨0, State.reset, by unfold CoreRt.Plain; decide +kernel⟩,
   ⟨0, State.reset, by unfold CoreRt.Plain; decide +kernel⟩,
   ⟨0, 0, State.reset, by unfold CoreRt.Plain; decide +kernel⟩,
   ⟨0, State.reset, by unfold CoreRt.Plain; decide +kernel⟩,
   ⟨0, State.reset, by unfold CoreRt.Plain; decide +kernel⟩⟩

theorem witness_FtapIsMacWithAMove :
    (∃ (core : Nat) (rc : Nat) (s : State), (s.core core).Plain ∧ rc < 64) :=
  ⟨0, 0, State.reset, by unfold CoreRt.Plain; decide +kernel⟩

theorem witness_MidopinDivisionAndMemory :
    (∃ (core : Nat) (rd : Nat) (rb : Nat) (s : State), (s.core core).Plain ∧ 0 < rd ∧ rd < 64 ∧ wrapS 32 ((s.core core).reg rb) ≠ 0) ∧
    (∃ (core : Nat) (rd : Nat) (rb : Nat) (s : State), (s.core core).Plain ∧ 0 < rd ∧ rd < 64 ∧ wrapS 32 ((s.core core).reg rb) = 0) ∧
    (∃ (core : Nat) (k : Nat) (v : Int) (s : State), (s.core core).div = some (false, k, v) ∧ 0 < k ∧ k < 64) ∧
    (∃ (core : Nat) (rd : Nat) (s : State), (s.core core).Plain ∧ 0 < rd ∧ rd < 64) ∧
    (∃ (core : Nat) (k : Nat) (v : Int) (s : State), (s.core core).sqrt = some (false, k, v) ∧ 0 < k ∧ k < 64) ∧
    (∃ (core : Nat) (rd : Nat) (ra : Nat) (order : Nat) (off : Nat) (imm : Int) (s : State), (s.core core).Plain ∧ rd < 64 ∧ s.recordAt core (wrapS 64 ((s.core core).reg ra + 8 * imm)) = some (order, off)) ∧
    (∃ (core : Nat) (ra : Nat) (imm : Int) (s : State), s.recordAt core (wrapS 64 ((s.core core).reg ra + 8 * imm)) = none) ∧
    (∃ (core : Nat) (ra : Nat) (order : Nat) (off : Nat) (imm : Int) (s : State), (s.core core).Plain ∧ s.recordAt core (wrapS 64 ((s.core core).reg ra + 8 * imm)) = some (order, off)) ∧
    (∃ (core : Nat) (ra : Nat) (imm : Int) (s : State), s.recordAt core (wrapS 64 ((s.core core).reg ra + 8 * imm)) = none) ∧
    (∃ (core : Nat) (rd : Nat) (ra : Nat) (order : Nat) (off : Nat) (s : State), (s.core core).Plain ∧ 0 < ra ∧ ra < 64 ∧ 0 < rd ∧ rd < 64 ∧ rd ≠ ra ∧ s.recordAt core ((s.core core).reg ra) = some (order, off)) ∧
    (∃ (core : Nat) (ra : Nat) (order : Nat) (off : Nat) (s : State), (s.core core).Plain ∧ 0 < ra ∧ ra < 64 ∧ s.recordAt core ((s.core core).reg ra) = some (order, off)) :=
  ⟨⟨0, 1, 3, State.reset.setCore 0 { main := { x := [(2, -7), (3, 2)] } }, by unfold CoreRt.Plain; decide +kernel⟩,
   ⟨0, 1, 0, State.reset, by unfold CoreRt.Plain; decide +kernel⟩,
   ⟨0, 9, 11, State.reset.setCore 0 { div := some (false, 9, 11) }, by decide +kernel⟩,
   ⟨0, 1, State.reset, by unfold CoreRt.Plain; decide +kernel⟩,
   ⟨0, 9, 11, State.reset.setCore 0 { sqrt := some (false, 9, 11) }, by decide +kernel⟩,
   ⟨0, 2, 13, 4, 0, 0, recordState, by exact ⟨recordState_plain, by decide, recordState_wrapped⟩⟩,
   ⟨0, 0, 0, State.reset, by decide +kernel⟩,
   ⟨0, 13, 4, 0, 0, recordState, by exact ⟨recordState_plain, recordState_wrapped⟩⟩,
   ⟨0, 0, 0, State.reset, by decide +kernel⟩,
   ⟨0, 2, 13, 4, 0, recordState, by exact ⟨recordState_plain, by decide, by decide, by decide, by decide, by decide, recordState_at⟩⟩,
   ⟨0, 13, 4, 0, recordState, by exact ⟨recordState_plain, by decide, by decide, recordState_at⟩⟩⟩

theorem witness_MidopinFlow :
    (∃ (core : Nat) (ra : Nat) (rb : Nat) (s : State), (s.core core).Plain ∧ (s.core core).reg ra = (s.core core).reg rb) ∧
    (∃ (core : Nat) (ra : Nat) (rb : Nat) (s : State), (s.core core).Plain ∧ (s.core core).reg ra ≠ (s.core core).reg rb) ∧
    (∃ (core : Nat) (ra : Nat) (rb : Nat) (s : State), (s.core core).Plain ∧ (s.core core).reg ra ≠ (s.core core).reg rb) ∧
    (∃ (core : Nat) (ra : Nat) (rb : Nat) (s : State), (s.core core).Plain ∧ (s.core core).reg ra < (s.core core).reg rb) ∧
    (∃ (core : Nat) (ra : Nat) (rb : Nat) (s : State), (s.core core).Plain ∧ (s.core core).reg rb ≤ (s.core core).reg ra) ∧
    (∃ (core : Nat) (s : State), (s.core core).Plain) ∧
    (∃ (core : Nat) (target : Nat) (n : Nat) (s : State), (s.core core).buf = [] ∧ (s.core core).bufStore = [] ∧ (s.core core).bufFlow = .next ∧ (s.core core).inShadow = false ∧ (s.core core).main.reps = [] ∧ (s.core core).main.branch = some (target, n) ∧ (n = 1 ∨ n = 2)) ∧
    (∃ (core : Nat) (count : Nat) (s : State), (s.core core).Plain ∧ 0 < count) ∧
    (∃ (core : Nat) (ra : Nat) (s : State), (s.core core).Plain ∧ 0 < ra ∧ (s.core core).reg ra ≤ 0) ∧
    (∃ (core : Nat) (ra : Nat) (count : Nat) (s : State), (s.core core).Plain ∧ 0 < ra ∧ 0 < count ∧ (count : Int) < (s.core core).reg ra) ∧
    (∃ (core : Nat) (s : State), (s.core core).Plain ∧ (s.core core).stitch = none) ∧
    (∃ (core : Nat) (o : Nat) (s : State), (s.core core).Plain ∧ (s.core core).stitch = some o ∧ s.stitchByOrder o = none) :=
  ⟨⟨0, 0, 0, State.reset, by unfold CoreRt.Plain; decide +kernel⟩,
   ⟨0, 2, 0, State.reset.setCore 0 { main := { x := [(2, 5)] } }, by unfold CoreRt.Plain; decide +kernel⟩,
   ⟨0, 2, 0, State.reset.setCore 0 { main := { x := [(2, 5)] } }, by unfold CoreRt.Plain; decide +kernel⟩,
   ⟨0, 2, 0, State.reset.setCore 0 { main := { x := [(2, -5)] } }, by unfold CoreRt.Plain; decide +kernel⟩,
   ⟨0, 0, 0, State.reset, by unfold CoreRt.Plain; decide +kernel⟩,
   ⟨0, State.reset, by unfold CoreRt.Plain; decide +kernel⟩,
   ⟨0, 7, 2, State.reset.setCore 0 { main := { branch := some (7, 2) } }, by decide +kernel⟩,
   ⟨0, 1, State.reset, by unfold CoreRt.Plain; decide +kernel⟩,
   ⟨0, 1, State.reset, by unfold CoreRt.Plain; decide +kernel⟩,
   ⟨0, 2, 3, State.reset.setCore 0 { main := { x := [(2, 5)] } }, by unfold CoreRt.Plain; decide +kernel⟩,
   ⟨0, State.reset, by unfold CoreRt.Plain; decide +kernel⟩,
   ⟨0, 4, State.reset.setCore 0 { stitch := some 4 }, by unfold CoreRt.Plain; decide +kernel⟩⟩

theorem witness_LoopCoreEvents :
    (∃ (core : Nat) (kind : Nat) (s : State), (s.core core).irq.testBit kind = true ∧ (s.core core).boundary = true) ∧
    (∃ (core : Nat) (kind : Nat) (s : State), ((s.core core).boundary = false ∨ (s.core core).irq.testBit kind = false)) ∧
    (∃ (core : Nat) (s : State), core < 8 ∧ s.row.stopped.testBit core = true) ∧
    (∃ (core : Nat) (address : Nat) (s : State), (s.core core).err = some (false, address)) ∧
    (∃ (core : Nat) (s : State), (s.core core).err = none) ∧
    (∃ (core : Nat) (v : Nat) (s : State), s.vectorUsed core v = true ∧ (s.core core).ranVec.testBit v = false ∧ (s.core core).pendVec.testBit v = false ∧ (s.core core).inShadow = false ∧ (s.core core).mid = false) ∧
    (∃ (core : Nat) (v : Nat) (s : State), s.vectorUsed core v = true ∧ (s.core core).ranVec.testBit v = false ∧ (s.core core).pendVec.testBit v = false ∧ (((s.core core).inShadow = true ∨ (s.core core).mid = true))) ∧
    (∃ (core : Nat) (v : Nat) (s : State), s.vectorUsed core v = true ∧ (s.core core).ranVec.testBit v = true) ∧
    (∃ (core : Nat) (v : Nat) (s : State), s.vectorUsed core v = false) :=
  ⟨⟨0, 0, State.reset.setCore 0 { irq := 1 }, by decide +kernel⟩,
   ⟨0, 0, State.reset.setCore 0 { div := some (false, 1, 0) }, by decide +kernel⟩,
   ⟨0, { State.reset with row := { State.reset.row with stopped := 1 } }, by decide +kernel⟩,
   ⟨0, 0, State.reset.setCore 0 { err := some (false, 0) }, by decide +kernel⟩,
   ⟨0, State.reset, by decide +kernel⟩,
   ⟨6, 0, (regsAt [(Obj.SentryVectorSource 0 0, 5), (Obj.SentryVectorKernel 0 0, 1), (Obj.KernelLength 1, 10)]), by decide +kernel⟩,
   ⟨6, 0, (regsAt [(Obj.SentryVectorSource 0 0, 5), (Obj.SentryVectorKernel 0 0, 1), (Obj.KernelLength 1, 10)]).setCore 6 { inShadow := true }, by decide +kernel⟩,
   ⟨6, 0, (regsAt [(Obj.SentryVectorSource 0 0, 5), (Obj.SentryVectorKernel 0 0, 1), (Obj.KernelLength 1, 10)]).setCore 6 { ranVec := 1 }, by decide +kernel⟩,
   ⟨0, 0, State.reset, by decide +kernel⟩⟩

theorem witness_AcquisitionCommands :
    (∃ (s : State), (s.get Obj.AcqState = 0 ∨ s.get Obj.AcqState = 4) ∧ s.nat Obj.AcqGroup = 0 ∧ s.armStatus (s.nat Obj.AcqArmSlot) = 0) ∧
    (∃ (s : State), 1 ≤ s.get Obj.AcqState ∧ s.get Obj.AcqState ≤ 3) ∧
    (∃ (s : State), (s.get Obj.AcqState = 0 ∨ s.get Obj.AcqState = 4) ∧ s.nat Obj.AcqGroup ≠ 0 ∧ s.nat Obj.AcqArmTime ≠ 0 ∧ s.nat Obj.AcqArmTime ≤ s.now + 2 * s.tNs) ∧
    (∃ (s : State), (s.get Obj.AcqState = 0 ∨ s.get Obj.AcqState = 4) ∧ s.nat Obj.AcqGroup ≠ 0 ∧ s.nat Obj.AcqArmTime = 0) ∧
    (∃ (t : Nat) (s : State), (s.get Obj.AcqState = 0 ∨ s.get Obj.AcqState = 4) ∧ s.nat Obj.AcqGroup ≠ 0 ∧ s.nat Obj.AcqArmTime = t ∧ s.now + 2 * s.tNs < t ∧ s.armStatus (s.nat Obj.AcqArmSlot) = 0) ∧
    (∃ (s : State), (s.get Obj.AcqState = 0 ∨ s.get Obj.AcqState = 4) ∧ s.nat Obj.AcqGroup = 0 ∧ s.armStatus (s.nat Obj.AcqArmSlot) ≠ 0) ∧
    (∃ (s : State), s.get Obj.AcqState = 0) ∧
    (∃ (s : State), (s.get Obj.AcqState = 1 ∨ s.get Obj.AcqState = 3) ∧ s.get Obj.AcqGroup = 0) ∧
    (∃ (s : State), (s.get Obj.AcqState = 0 ∨ s.get Obj.AcqState = 4)) ∧
    (∃ (r : AcqRt) (s : State), s.acq = r ∧ s.get Obj.AcqState = 1 ∧ s.get Obj.AcqGroup = 0 ∧ r.trig = none) ∧
    (∃ (r : AcqRt) (s : State), s.acq = r ∧ s.get Obj.AcqState = 2 ∧ r.trig = none) ∧
    (∃ (s : State), s.acq.armAt = none) ∧
    (∃ (time : Nat) (field : Nat) (s : State), s.acq.armAt = some (time, field) ∧ (s.get Obj.AcqState = 0 ∨ s.get Obj.AcqState = 4) ∧ time ≤ s.nat Obj.TickEdgeTime ∧ s.tick ≠ s.acq.armAfter) ∧
    (∃ (time : Nat) (field : Nat) (s : State), s.acq.armAt = some (time, field) ∧ (s.nat Obj.TickEdgeTime < time ∨ s.tick = s.acq.armAfter)) ∧
    (∃ (s : State), s.get Obj.TrigSource = 5) ∧
    (∃ (r : AcqRt) (sample : Nat) (source : Option Nat) (s : State), s.acq = r ∧ s.get Obj.TrigSource = 1 ∧ s.get Obj.AcqState = 2 ∧ r.patDue = some (sample, source) ∧ r.trig = none) ∧
    (∃ (r : AcqRt) (s : State), s.acq = r ∧ s.get Obj.TrigSource = 2 ∧ s.get Obj.AcqState = 2 ∧ s.trigCrossed = true ∧ r.trig = none) ∧
    (∃ (s : State), s.get Obj.TrigSource = 2 ∧ s.trigCrossed = false) ∧
    (∃ (r : AcqRt) (at_ : Nat) (s : State), s.acq = r ∧ (s.get Obj.TrigSource = 3 ∨ s.get Obj.TrigSource = 4) ∧ s.get Obj.AcqState = 2 ∧ r.cond = some at_ ∧ r.trig = none) :=
  ⟨⟨(regsAt [(Obj.AcqGroup, 0), (Obj.SkeinSize 0, 65536), (Obj.AcqPreCount, 0)]), by decide +kernel⟩,
   ⟨(regsAt [(Obj.AcqState, 2)]), by decide +kernel⟩,
   ⟨(regsAt [(Obj.AcqGroup, 1), (Obj.AcqArmTime, 5)]), by decide +kernel⟩,
   ⟨(regsAt [(Obj.AcqGroup, 1)]), by decide +kernel⟩,
   ⟨10000000, (regsAt [(Obj.AcqGroup, 1), (Obj.AcqArmTime, 10000000), (Obj.SkeinSize 0, 65536), (Obj.AcqPreCount, 0)]), by decide +kernel⟩,
   ⟨(regsAt [(Obj.AcqGroup, 0), (Obj.SkeinSize 0, 0)]), by decide +kernel⟩,
   ⟨(regsAt [(Obj.AcqState, 0)]), by decide +kernel⟩,
   ⟨(regsAt [(Obj.AcqGroup, 0), (Obj.AcqState, 1)]), by decide +kernel⟩,
   ⟨State.reset, by decide +kernel⟩,
   ⟨State.reset.acq, (regsAt [(Obj.AcqState, 1), (Obj.AcqGroup, 0)]), by decide +kernel⟩,
   ⟨State.reset.acq, (regsAt [(Obj.AcqState, 2)]), by decide +kernel⟩,
   ⟨State.reset, by decide +kernel⟩,
   ⟨0, 0, { State.reset with acq := { State.reset.acq with armAt := some (0, 0), armAfter := 5 } }, by decide +kernel⟩,
   ⟨0, 0, { State.reset with acq := { State.reset.acq with armAt := some (0, 0) } }, by decide +kernel⟩,
   ⟨(regsAt [(Obj.TrigSource, 5)]), by decide +kernel⟩,
   ⟨{ State.reset.acq with patDue := some (9, none) }, 9, none, { (regsAt [(Obj.TrigSource, 1), (Obj.AcqState, 2)]) with acq := { State.reset.acq with patDue := some (9, none) } }, by decide +kernel⟩,
   ⟨{ State.reset.acq with sigPrev := some (-5), sigNow := some 5 }, { (regsAt [(Obj.TrigSource, 2), (Obj.AcqState, 2), (Obj.TrigLevel, 0), (Obj.TrigSlope, 1)]) with acq := { State.reset.acq with sigPrev := some (-5), sigNow := some 5 } }, by decide +kernel⟩,
   ⟨(regsAt [(Obj.TrigSource, 2)]), by decide +kernel⟩,
   ⟨{ State.reset.acq with cond := some 5 }, 5, { (regsAt [(Obj.AcqState, 2), (Obj.TrigSource, 3)]) with acq := { State.reset.acq with cond := some 5 } }, by decide +kernel⟩⟩

theorem witness_GroupTriggers :
    (∃ (time : Nat) (w : State) (s : State), s.acq.fireDue = some time ∧ w = s.sendTrigger (time / 65536) [2, s.get Obj.AcqGroup, (time % 65536 : Nat), s.get Obj.PlantAddress, (time / 65536 : Nat), s.acq.fireArming]) ∧
    (∃ (s : State), s.acq.fireDue = none) ∧
    (∃ (r : TrigRecord) (s : State), (r.group ≠ s.nat Obj.AcqGroup ∨ r.group = 0)) ∧
    (∃ (r : TrigRecord) (s : State), r.group = s.nat Obj.AcqGroup ∧ r.group ≠ 0 ∧ r.kind = 1 ∧ r.plant = false ∧ (s.get Obj.AcqState = 0 ∨ s.get Obj.AcqState = 4) ∧ s.armStatus (s.nat Obj.AcqArmSlot) = 0) ∧
    (∃ (r : TrigRecord) (s : State), r.group = s.nat Obj.AcqGroup ∧ r.group ≠ 0 ∧ r.kind = 1 ∧ r.plant = false ∧ s.get Obj.AcqState = 2) ∧
    (∃ (s : State), s.get Obj.AcqState = 2 ∧ s.acq.opened + s.nat Obj.AcqGroupSettle * 65536 ≤ s.now16) ∧
    (∃ (s : State), (s.get Obj.AcqState ≠ 2 ∨ s.now16 < s.acq.opened + s.nat Obj.AcqGroupSettle * 65536)) :=
  ⟨⟨70000, _, { State.reset with acq := { State.reset.acq with fireDue := some 70000 } }, by decide +kernel, rfl⟩,
   ⟨State.reset, by decide +kernel⟩,
   ⟨⟨1, 0, 0, 1, 0, 0, false, 0⟩, State.reset, by decide +kernel⟩,
   ⟨⟨1, 5, 0, 1, 0, 0, false, 0⟩, (regsAt [(Obj.AcqGroup, 5), (Obj.SkeinSize 0, 65536)]), by decide +kernel⟩,
   ⟨⟨1, 5, 0, 1, 0, 0, false, 0⟩, (regsAt [(Obj.AcqGroup, 5), (Obj.AcqState, 2)]), by decide +kernel⟩,
   ⟨(regsAt [(Obj.AcqState, 2), (Obj.AcqGroupSettle, 0)]), by decide +kernel⟩,
   ⟨State.reset, by decide +kernel⟩⟩

theorem witness_SamplesAndMarks :
    (∃ (group : Nat) (channel : Nat) (s : State), s.oldVals = [] ∧ s.acqStores group channel = false ∧ group ≠ 0) ∧
    (∃ (time : Nat) (s : State), s.oldVals = [] ∧ s.nat Obj.DigWidth = 0 ∧ s.digDue time = true ∧ (s.get Obj.AcqState = 1 ∨ s.get Obj.AcqState = 2)) ∧
    (∃ (time : Nat) (s : State), s.oldVals = [] ∧ s.digDue time = false) ∧
    (∃ (time : Nat) (raw : List Int) (w : State) (s : State), s.oldVals = [] ∧ s.get Obj.DigWidth = 32 ∧ s.digDue time = true ∧ s.get Obj.AcqState = 1 ∧ w = s.patternSample time (s.digWord (raw.getLastD 0)).toNat ∧ w.acqRoom 4 = true) ∧
    (∃ (n : Nat) (k : Nat) (s : State), s.nat Obj.AcqStreamQueue = 0xFF ∧ s.workHeld = false ∧ k = min n s.acq.ringWb) ∧
    (∃ (s : State), s.workHeld = true) ∧
    (∃ (s : State), s.nat Obj.AcqStreamQueue ≠ 0xFF ∧ s.workHeld = false) ∧
    (∃ (s : State), s.nat Obj.AcqStreamQueue = 0xFF) ∧
    (∃ (q : Nat) (s : State), s.get Obj.AcqStreamQueue = q ∧ s.cqRoom q = false) ∧
    (∃ (q : Nat) (s : State), q < 32 ∧ s.get Obj.AcqStreamQueue = q ∧ 65536 ≤ s.acq.wb.length ∧ s.cqRoom q = true ∧ ((s.cq q).blocks.filter id).length < s.nat (Obj.HcqStreamSize q)) ∧
    (∃ (m : Nat) (rising : Bool) (s : State), s.oldVals = [] ∧ s.markActive m rising = false) ∧
    (∃ (m : Nat) (at8 : Nat) (width : Nat) (rising : Bool) (s : State), s.oldVals = [] ∧ s.markActive m rising = true ∧ s.markFiltered m at8 (s.time16 at8 / 8192 * 8192) width = true) ∧
    (∃ (m : Nat) (at8 : Nat) (time : Nat) (width : Nat) (rising : Bool) (s : State), m < 16 ∧ s.oldVals = [] ∧ s.markActive m rising = true ∧ time = s.time16 at8 / 8192 * 8192 ∧ s.markFiltered m at8 time width = false ∧ (s.mark m).queue.length < 16) ∧
    (∃ (m : Nat) (at8 : Nat) (width : Nat) (rising : Bool) (s : State), s.oldVals = [] ∧ s.markActive m rising = true ∧ s.markFiltered m at8 (s.time16 at8 / 8192 * 8192) width = false ∧ 16 ≤ (s.mark m).queue.length) :=
  ⟨⟨1, 0, State.reset, by decide +kernel⟩,
   ⟨0, (regsAt [(Obj.DigWidth, 0), (Obj.AcqState, 1)]), by decide +kernel⟩,
   ⟨1, (regsAt [(Obj.DigDivider, 1)]), by decide +kernel⟩,
   ⟨0, [], _, (regsAt [(Obj.DigWidth, 32), (Obj.AcqState, 1)]), by decide +kernel, by decide +kernel, by decide +kernel, by decide +kernel, rfl, by decide +kernel⟩,
   ⟨0, _, (regsAt [(Obj.AcqStreamQueue, 0xFF)]), by decide +kernel, by decide +kernel, rfl⟩,
   ⟨(regsAt [(Obj.ThrottleLevel, 8)]), by decide +kernel⟩,
   ⟨(regsAt [(Obj.AcqStreamQueue, 3)]), by decide +kernel⟩,
   ⟨(regsAt [(Obj.AcqStreamQueue, 0xFF)]), by decide +kernel⟩,
   ⟨0, (regsAt [(Obj.AcqStreamQueue, 0)]), by decide +kernel⟩,
   ⟨3, { (regsAt [(Obj.AcqStreamQueue, 3), (Obj.HcqStreamSize 3, 8), (Obj.HcqSize 3, 16)]) with acq := { State.reset.acq with wb := List.replicate 65536 0 } }, by decide +kernel, by decide +kernel, Nat.le_of_eq List.length_replicate.symm, by decide +kernel, by decide +kernel⟩,
   ⟨2, false, State.reset, by decide +kernel⟩,
   ⟨2, 0, 0, true, (regsAt [(Obj.MarkEdge 2, 1), (Obj.MarkMinWidth 2, 10)]), by decide +kernel⟩,
   ⟨2, 0, _, 0, true, (regsAt [(Obj.MarkEdge 2, 1), (Obj.MarkMinWidth 2, 0)]), by decide +kernel, by decide +kernel, by decide +kernel, rfl, by decide +kernel, by decide +kernel⟩,
   ⟨2, 0, 0, true, (regsAt [(Obj.MarkEdge 2, 1), (Obj.MarkMinWidth 2, 0)]).setMark 2 { queue := List.replicate 16 0 }, by decide +kernel⟩⟩

theorem witness_TheChainEnumeratesAndJoins :
    (∃ (s : State), s.get (Obj.JzPortState 0) = 0 ∧ s.get Obj.JzPosition = 0xFF ∧ s.power.inReset = false) ∧
    (∃ (s : State), (s.get Obj.JzPosition ≠ 0xFF ∨ s.get (Obj.JzPortState 0) ≠ 0 ∨ s.power.inReset = true)) ∧
    (∃ (position : Nat) (s : State), 63 ≤ position) ∧
    (∃ (position : Nat) (u : State) (s : State), position < 62 ∧ s.get (Obj.JzPortState 1) = 2 ∧ u = ({ s.put Obj.JzPosition (position + 1 : Nat) with jz := { s.jz with mapped := false, outside := false } } : State).jzUpdate) ∧
    (∃ (position : Nat) (u : State) (s : State), position < 63 ∧ s.get (Obj.JzPortState 1) ≠ 2 ∧ u = ({ s.put Obj.JzPosition (position + 1 : Nat) with jz := { s.jz with mapped := false, outside := false } } : State).jzUpdate) ∧
    (∃ (serials : List Nat) (u : State) (s : State), u = s.jzControl 0 6 1 (serialBytes serials)) ∧
    (∃ (serials : List Nat) (s : State), s.get (Obj.JzPortState 0) = 0 ∧ serials.length ≤ 64 ∧ s.get Obj.JzChainLength = 0 ∧ s.jz.accepted = 0) ∧
    (∃ (s : State), (s.get Obj.DeviceState = devReady ∨ s.get Obj.DeviceState = devSafe)) ∧
    (∃ (s : State), s.get Obj.DeviceState ≠ devReady ∧ s.get Obj.DeviceState ≠ devSafe) ∧
    (∃ (port : Nat) (cause : Nat) (w : State) (s : State), w = s.linkDown port cause) ∧
    (∃ (port : Nat) (s : State), port < 2 ∧ (s.port port).wasUp = false ∧ s.get Obj.JzPosition = 0xFF ∧ (s.port port).own = [] ∧ (s.port port).relayed = []) ∧
    (∃ (port : Nat) (u : State) (s : State), (s.port port).wasUp = true ∧ s.get Obj.JzPosition ≠ 0 ∧ u = ((s.put (Obj.JzPortState port) 2).setActive fkJorzer port false).sendReconcile port ∧ port < 2) ∧
    (∃ (port : Nat) (epoch : Nat) (s : State), port < 2 ∧ (s.port port).unacked = [] ∧ (s.port port).own = [] ∧ (s.port port).relayed = [] ∧ ((s.port port).epoch = none ∨ (s.port port).epoch = some epoch)) ∧
    (∃ (port : Nat) (epoch : Nat) (old : Nat) (u : State) (w : State) (s : State), (s.port port).epoch = some old ∧ old ≠ epoch ∧ u = ([2, 3, 4].foldl (fun x cls => x.clrBit Obj.Reconciling (creditClass port cls)) s).setPort port { s.port port with epoch := some epoch } ∧ w = u.reconcileFresh port) ∧
    (∃ (port : Nat) (epoch : Nat) (consumed : List Nat) (received : List Nat) (u : State) (w : State) (s : State), (s.port port).epoch = some epoch ∧ (s.suspended (creditClass port 2) = true ∨ s.suspended (creditClass port 3) = true ∨ s.suspended (creditClass port 4) = true) ∧ u = ([2, 3, 4].foldl (fun x cls => x.clrBit Obj.Reconciling (creditClass port cls)) s).setPort port { s.port port with epoch := some epoch } ∧ w = u.reconcileSame port consumed received) :=
  ⟨⟨{ (regsAt [((Obj.JzPortState 0), 0), (Obj.JzPosition, 0xFF)]) with power := { State.reset.power with inReset := false } }, by decide +kernel⟩,
   ⟨(regsAt [(Obj.JzPosition, 2)]), by decide +kernel⟩,
   ⟨63, State.reset, by decide +kernel⟩,
   ⟨0, _, (regsAt [((Obj.JzPortState 1), 2)]), by decide +kernel, by decide +kernel, rfl⟩,
   ⟨0, _, State.reset, by decide +kernel, by decide +kernel, rfl⟩,
   ⟨[], _, State.reset, rfl⟩,
   ⟨[], (regsAt [((Obj.JzPortState 0), 0), (Obj.JzChainLength, 0)]), by decide +kernel⟩,
   ⟨(regsAt [(Obj.DeviceState, devSafe)]), by decide +kernel⟩,
   ⟨State.reset, by decide +kernel⟩,
   ⟨0, 0, _, State.reset, rfl⟩,
   ⟨0, (regsAt [(Obj.JzPosition, 0xFF)]), by decide +kernel⟩,
   ⟨0, _, State.reset.setPort 0 { wasUp := true }, by decide +kernel, by decide +kernel, rfl, by decide +kernel⟩,
   ⟨0, 0, State.reset, by decide +kernel⟩,
   ⟨0, 5, 4, _, _, State.reset.setPort 0 { epoch := some 4 }, by decide +kernel, by decide +kernel, rfl, rfl⟩,
   ⟨0, 5, [], [], _, _, (regsAt [(Obj.Reconciling, 0xFFFF)]).setPort 0 { epoch := some 5 }, by decide +kernel, by decide +kernel, rfl, rfl⟩⟩

theorem witness_JorzerFrames :
    (∃ (port : Nat) (f : JzFrame) (s : State), port < 2 ∧ f.cls ≤ 1 ∧ (s.port port).crcTimes.length < s.natInUse (Obj.JzCrcLimit)) ∧
    (∃ (port : Nat) (u : State) (s : State), u = (s.count (Obj.JzCrcErrors port) 64 1).setBit Obj.JzStatus 3 ∧ u.natInUse Obj.JzCrcLimit < (s.now :: (s.port port).crcTimes.filter fun t => decide (s.now < t + 1000000)).length) ∧
    (∃ (port : Nat) (f : JzFrame) (s : State), 2 ≤ f.cls ∧ f.cls ≤ 4 ∧ f.seq ≠ ((s.port port).rxSeq + 1) % 65536) ∧
    (∃ (port : Nat) (f : JzFrame) (s : State), 2 ≤ f.cls ∧ f.cls ≤ 4 ∧ f.seq = ((s.port port).rxSeq + 1) % 65536) ∧
    (∃ (f : JzFrame) (s : State), (f.cls ≤ 1 ∨ 5 ≤ f.cls)) ∧
    (∃ (port : Nat) (s : State), port < 2 ∧ (s.port port).own = [] ∧ (s.port port).relayed = []) ∧
    (∃ (port : Nat) (t1 : Nat) (t2 : Nat) (t3 : Nat) (t4 : Nat) (d : Int) (s : State), port < 2 ∧ ((s.port port).delays = [] ∨ (s.port port).delayAt + s.natInUse Obj.JzDelayInterval * 1000000 ≤ s.now) ∧ d = qdiv (((t4 : Int) - t1) - ((t3 : Int) - t2)) 2 + s.get (Obj.JzAsymmetry port) ∧ d ≤ 6553600) ∧
    (∃ (port : Nat) (s : State), (s.port port).delays ≠ [] ∧ s.now < (s.port port).delayAt + s.natInUse Obj.JzDelayInterval * 1000000) ∧
    (∃ (port : Nat) (t1 : Nat) (t2 : Nat) (t3 : Nat) (t4 : Nat) (s : State), port < 2 ∧ ((s.port port).delays = [] ∨ (s.port port).delayAt + s.natInUse Obj.JzDelayInterval * 1000000 ≤ s.now) ∧ 6553600 < qdiv (((t4 : Int) - t1) - ((t3 : Int) - t2)) 2 + s.get (Obj.JzAsymmetry port)) ∧
    (∃ (s : State), s.get Obj.JzPosition ≠ 0) ∧
    (∃ (s : State), s.get Obj.JzPosition = 0 ∧ s.tick % s.nat Obj.JzSyncInterval ≠ 0) ∧
    (∃ (s : State), s.get Obj.JzPosition = 0 ∧ s.tick % s.nat Obj.JzSyncInterval = 0) ∧
    (∃ (port : Nat) (s : State), ((s.port port).due.sum = 0 ∨ s.now < (s.port port).creditAt + 2000)) ∧
    (∃ (port : Nat) (s : State), 0 < (s.port port).due.sum ∧ (s.port port).creditAt + 2000 ≤ s.now) :=
  ⟨⟨0, ⟨1, 0, 0, 0, 1, 0, 0, 0, 0, 0, []⟩, State.reset, by decide +kernel⟩,
   ⟨0, _, (regsAt [(Obj.JzCrcLimit, 0)]), rfl, by decide +kernel⟩,
   ⟨0, ⟨1, 0, 0, 0, 2, 0, 9, 0, 0, 0, []⟩, State.reset, by decide +kernel⟩,
   ⟨0, ⟨1, 0, 0, 0, 2, 0, 1, 0, 0, 0, []⟩, State.reset, by decide +kernel⟩,
   ⟨⟨1, 0, 0, 0, 1, 0, 0, 0, 0, 0, []⟩, State.reset, by decide +kernel⟩,
   ⟨0, State.reset, by decide +kernel⟩,
   ⟨0, 0, 0, 0, 0, _, State.reset, by decide +kernel, by decide +kernel, rfl, by decide +kernel⟩,
   ⟨0, (regsAt [(Obj.JzDelayInterval, 10)]).setPort 0 { delays := [5] }, by decide +kernel⟩,
   ⟨0, 0, 0, 0, 100000000, State.reset, by decide +kernel⟩,
   ⟨State.reset, by decide +kernel⟩,
   ⟨(regsAt [(Obj.JzPosition, 0), (Obj.TickNumber, 1), (Obj.JzSyncInterval, 16)]), by decide +kernel⟩,
   ⟨(regsAt [(Obj.JzPosition, 0)]), by decide +kernel⟩,
   ⟨0, State.reset, by decide +kernel⟩,
   ⟨0, (regsAt [(Obj.TrellisCounter, 10000)]).setPort 0 { due := [1, 0, 0] }, by decide +kernel⟩⟩

theorem witness_HostQueuesAndTheMailbox :
    (∃ (s : State), s.host.busy = true) ∧
    (∃ (value : Nat) (s : State), s.host.busy = false ∧ value ≠ 1) ∧
    (∃ (entry : List Byte) (s : State), s.host.busy = false ∧ entryClean entry = true) ∧
    (∃ (entry : List Byte) (data : List Byte) (s : State), s.host.busy = false ∧ entryClean entry = true ∧ s.ownReq (reqOf 1 0 s.now entry data) = true) ∧
    (∃ (entry : List Byte) (s : State), s.host.busy = false ∧ entryClean entry = false) ∧
    (∃ (q : Nat) (value : Nat) (s : State), s.nat (Obj.HsqSize q) ≤ value) ∧
    (∃ (q : Nat) (value : Nat) (s : State), value < s.nat (Obj.HsqSize q)) ∧
    (∃ (q : Nat) (value : Nat) (s : State), s.nat (Obj.HcqSize q) ≤ value) ∧
    (∃ (q : Nat) (value : Nat) (s : State), value < s.nat (Obj.HcqSize q)) ∧
    (∃ (s : State), s.fetchClass = none) ∧
    (∃ (s : State), s.host.lost = true) ∧
    (∃ (c : Nat) (q : Nat) (l : List Nat) (w : State) (s : State), s.fetchClass = some c ∧ s.sqOf c = q :: l ∧ s.host.lost = false ∧ w = s.granted c q) ∧
    (∃ (c : Nat) (q : Nat) (l : List Nat) (entry : List Byte) (data : List Byte) (s : State), s.fetchClass = some c ∧ s.sqOf c = q :: l ∧ s.host.lost = false ∧ s.ownReq (reqOf 0 q s.now entry data) = true ∧ entryClean entry = true ∧ (s.host.reqs.any fun x => x.path == 0 && x.tag == (reqOf 0 q s.now entry data).tag) = false ∧ q < 32) ∧
    (∃ (q : Nat) (s : State), (s.natInUse (Obj.HcqIrqTime q) = 0 ∨ (s.cq q).irq = 0 ∨ s.now < (s.cq q).oldest + s.natInUse (Obj.HcqIrqTime q) * 1000)) ∧
    (∃ (q : Nat) (s : State), s.natInUse (Obj.HcqIrqTime q) ≠ 0 ∧ 0 < (s.cq q).irq ∧ (s.cq q).oldest + s.natInUse (Obj.HcqIrqTime q) * 1000 ≤ s.now) ∧
    (∃ (s : State), s.host.lost = false) ∧
    (∃ (heads : List (Nat × Nat)) (w : State) (x : State) (s : State), s.host.lost = true ∧ (w = heads.foldl (fun y h => if h.2 < y.nat (Obj.HcqSize h.1) ∧ h.2 ≠ (y.cq h.1).head then y.cqFree h.1 h.2 else y) (({ s with host := { s.host with lost := false } } : State).put Obj.Reconciling (s.nat Obj.Reconciling &&& 0xFFF8 : Nat))) ∧ x = w.each (List.range 32) State.cqRewrite) ∧
    (∃ (s : State), s.host.lost = true ∧ s.host.cqs = []) :=
  ⟨⟨{ State.reset with host := { State.reset.host with busy := true } }, by decide +kernel⟩,
   ⟨0, State.reset, by decide +kernel⟩,
   ⟨List.replicate 64 0, State.reset, by decide +kernel⟩,
   ⟨List.replicate 64 0, [], State.reset, by decide +kernel⟩,
   ⟨[0, 0, 0, 0, 0, 7], State.reset, by decide +kernel⟩,
   ⟨0, 5, State.reset, by decide +kernel⟩,
   ⟨0, 3, (regsAt [(Obj.HsqSize 0, 16)]), by decide +kernel⟩,
   ⟨0, 0, State.reset, by decide +kernel⟩,
   ⟨0, 3, (regsAt [(Obj.HcqSize 0, 16)]), by decide +kernel⟩,
   ⟨State.reset, by decide +kernel⟩,
   ⟨{ State.reset with host := { State.reset.host with lost := true } }, by decide +kernel⟩,
   ⟨0, 2, [], _, { (regsAt [(Obj.HsqSize 2, 16), (Obj.HsqClass 2, 0)]) with host := { State.reset.host with tails := [(2, 1)] } }, by decide +kernel, by decide +kernel, by decide +kernel, rfl⟩,
   ⟨0, 2, [], List.replicate 64 0, [], { (regsAt [(Obj.HsqSize 2, 16), (Obj.HsqClass 2, 0)]) with host := { State.reset.host with tails := [(2, 1)] } }, by decide +kernel⟩,
   ⟨0, State.reset, by decide +kernel⟩,
   ⟨1, (regsAt [(Obj.HcqIrqTime 1, 5), (Obj.TrellisCounter, 10000)]).setCq 1 { irq := 1, oldest := 0 }, by decide +kernel⟩,
   ⟨State.reset, by decide +kernel⟩,
   ⟨[(1, 3)], _, _, { (regsAt [(Obj.HcqSize 1, 16)]) with host := { State.reset.host with lost := true } }, by decide +kernel, rfl, rfl⟩,
   ⟨{ State.reset with host := { State.reset.host with lost := true } }, by decide +kernel⟩⟩

theorem witness_HostRequests :
    (∃ (path : Nat) (source : Nat) (tag : Nat) (r : HostReq) (s : State), s.findReq path source tag = some r ∧ r.opcode = 1) ∧
    (∃ (path : Nat) (source : Nat) (tag : Nat) (r : HostReq) (s : State), s.findReq path source tag = some r ∧ r.opcode = 2) ∧
    (∃ (path : Nat) (source : Nat) (tag : Nat) (r : HostReq) (s : State), s.findReq path source tag = some r ∧ r.opcode = 3) ∧
    (∃ (path : Nat) (source : Nat) (tag : Nat) (r : HostReq) (s : State), s.findReq path source tag = some r ∧ r.opcode = 6) ∧
    (∃ (path : Nat) (source : Nat) (tag : Nat) (r : HostReq) (s : State), s.findReq path source tag = some r ∧ (r.opcode = 0 ∨ 7 ≤ r.opcode)) ∧
    (∃ (path : Nat) (source : Nat) (tag : Nat) (r : HostReq) (s : State), s.findReq path source tag = some r ∧ r.length = 0 ∧ r.opcode = 1) ∧
    (∃ (source : Nat) (tag : Nat) (r : HostReq) (s : State), s.findReq 1 source tag = some r ∧ r.path = 1 ∧ r.opcode = 1 ∧ r.index = 0x2000 ∧ r.sub = 1 ∧ r.offset = 0 ∧ r.length = 1 ∧ r.session = 0 ∧ s.power.recovery = false ∧ (s.host.reqs.any fun x => x.waits == 3) = false) ∧
    (∃ (path : Nat) (source : Nat) (tag : Nat) (s : State), s.findReq path source tag = none) ∧
    (∃ (s : State), s.natInUse Obj.HostTagTimeout = 0) ∧
    (∃ (tag : Nat) (s : State), (s.host.reqs.any fun r => r.path == 0 && r.tag == tag) = false) ∧
    (∃ (tag : Nat) (r : HostReq) (s : State), (s.host.reqs.find? fun r => r.path == 0 && r.tag == tag) = some r ∧ s.now < r.time + s.natInUse Obj.HostTagTimeout * 1000000) ∧
    (∃ (tag : Nat) (r : HostReq) (s : State), (s.host.reqs.find? fun r => r.path == 0 && r.tag == tag) = some r ∧ s.natInUse Obj.HostTagTimeout ≠ 0 ∧ r.time + s.natInUse Obj.HostTagTimeout * 1000000 ≤ s.now) :=
  ⟨⟨0, 0, 7, ⟨0, 0, 1, 0, 7, 0, 0, 0x2000, 1, 4, 0, 0, [], 0, 0⟩, { State.reset with host := { State.reset.host with reqs := [⟨0, 0, 1, 0, 7, 0, 0, 0x2000, 1, 4, 0, 0, [], 0, 0⟩] } }, by decide +kernel⟩,
   ⟨0, 0, 7, ⟨0, 0, 2, 0, 7, 0, 0, 0x2000, 1, 4, 0, 0, [], 0, 0⟩, { State.reset with host := { State.reset.host with reqs := [⟨0, 0, 2, 0, 7, 0, 0, 0x2000, 1, 4, 0, 0, [], 0, 0⟩] } }, by decide +kernel⟩,
   ⟨0, 0, 7, ⟨0, 0, 3, 0, 7, 0, 0, 0x2000, 1, 4, 0, 0, [], 0, 0⟩, { State.reset with host := { State.reset.host with reqs := [⟨0, 0, 3, 0, 7, 0, 0, 0x2000, 1, 4, 0, 0, [], 0, 0⟩] } }, by decide +kernel⟩,
   ⟨0, 0, 7, ⟨0, 0, 6, 0, 7, 0, 0, 0x2000, 1, 0, 0, 0, [], 0, 0⟩, { State.reset with host := { State.reset.host with reqs := [⟨0, 0, 6, 0, 7, 0, 0, 0x2000, 1, 0, 0, 0, [], 0, 0⟩] } }, by decide +kernel⟩,
   ⟨0, 0, 7, ⟨0, 0, 9, 0, 7, 0, 0, 0, 0, 0, 0, 0, [], 0, 0⟩, { State.reset with host := { State.reset.host with reqs := [⟨0, 0, 9, 0, 7, 0, 0, 0, 0, 0, 0, 0, [], 0, 0⟩] } }, by decide +kernel⟩,
   ⟨0, 0, 7, ⟨0, 0, 1, 0, 7, 0, 0, 0x2000, 1, 0, 0, 0, [], 0, 0⟩, { State.reset with host := { State.reset.host with reqs := [⟨0, 0, 1, 0, 7, 0, 0, 0x2000, 1, 0, 0, 0, [], 0, 0⟩] } }, by decide +kernel⟩,
   ⟨0, 7, ⟨1, 0, 1, 0, 7, 0, 0, 0x2000, 1, 1, 0, 0, [], 0, 0⟩, { State.reset with host := { State.reset.host with reqs := [⟨1, 0, 1, 0, 7, 0, 0, 0x2000, 1, 1, 0, 0, [], 0, 0⟩] } }, by decide +kernel⟩,
   ⟨0, 0, 0, State.reset, by decide +kernel⟩,
   ⟨(regsAt [(Obj.HostTagTimeout, 0)]), by decide +kernel⟩,
   ⟨7, State.reset, by decide +kernel⟩,
   ⟨7, ⟨0, 0, 1, 0, 7, 0, 0, 0, 0, 0, 0, 0, [], 0, 0⟩, { (regsAt [(Obj.HostTagTimeout, 1)]) with host := { State.reset.host with reqs := [⟨0, 0, 1, 0, 7, 0, 0, 0, 0, 0, 0, 0, [], 0, 0⟩] } }, by decide +kernel⟩,
   ⟨7, ⟨0, 0, 1, 0, 7, 0, 0, 0x2000, 1, 4, 0, 0, [], 0, 0⟩, { (regsAt [(Obj.HostTagTimeout, 1), (Obj.TrellisCounter, 10000000)]) with host := { State.reset.host with reqs := [⟨0, 0, 1, 0, 7, 0, 0, 0x2000, 1, 4, 0, 0, [], 0, 0⟩] } }, by decide +kernel⟩⟩

theorem witness_CanRequestsAndFrames :
    (∃ (c : Nat) (b : Nat) (s : State), c < 2 ∧ b < 64 ∧ s.get (Obj.CanBufRole c b) = 1 ∧ s.canPending c b = false ∧ s.get (Obj.CanBufTxSlot c b) = 0xFFFF) ∧
    (∃ (c : Nat) (b : Nat) (s : State), c < 2 ∧ b < 64 ∧ s.get (Obj.CanBufRole c b) = 1 ∧ s.canPending c b = true) ∧
    (∃ (c : Nat) (b : Nat) (s : State), c < 2 ∧ b < 64 ∧ s.canPending c b = false) ∧
    (∃ (c : Nat) (b : Nat) (sof : Nat) (s : State), c < 2 ∧ b < 64 ∧ s.canPending c b = true ∧ s.canSending c sof ≠ some b ∧ b ∉ (s.can c).cancels) ∧
    (∃ (c : Nat) (b : Nat) (sof : Nat) (s : State), c < 2 ∧ b < 64 ∧ s.canPending c b = true ∧ s.canSending c sof = some b ∧ b ∉ (s.can c).cancels) ∧
    (∃ (c : Nat) (b : Nat) (s : State), c < 2 ∧ b < 64 ∧ s.get (Obj.CanBufState c b) = 3) ∧
    (∃ (c : Nat) (b : Nat) (s : State), c < 2 ∧ b < 64 ∧ s.get (Obj.CanBufState c b) ≠ 3) ∧
    (∃ (c : Nat) (b : Nat) (sof : Nat) (tec : Nat) (rec_ : Nat) (delay : Nat) (s : State), c < 2 ∧ b < 64 ∧ s.canSending c sof = some b ∧ b ∉ (s.can c).cancels ∧ s.canTdcFails c b delay = false ∧ tec < 96 ∧ rec_ < 96 ∧ s.canPending c b = true) ∧
    (∃ (c : Nat) (b : Nat) (sof : Nat) (delay : Nat) (s : State), s.canSending c sof = some b ∧ s.get (Obj.CanTdcEnable c) = 1 ∧ bitAt (s.natInUse (Obj.CanBufFlags c b)) 1 = true ∧ bitAt (s.natInUse (Obj.CanBufFlags c b)) 2 = true ∧ 127 < delay + s.nat (Obj.CanTdcOffset c)) ∧
    (∃ (c : Nat) (sof : Nat) (s : State), s.canSending c sof = none) ∧
    (∃ (c : Nat) (b : Nat) (sof : Nat) (s : State), c < 2 ∧ b < 64 ∧ s.canSending c sof = some b ∧ s.canPending c b = true ∧ s.get (Obj.CanBufOneShot c b) = 1 ∧ b ∉ (s.can c).cancels) ∧
    (∃ (c : Nat) (b : Nat) (sof : Nat) (s : State), s.canSending c sof = some b ∧ s.get (Obj.CanBufOneShot c b) = 0 ∧ b ∉ (s.can c).cancels) ∧
    (∃ (c : Nat) (sof : Nat) (s : State), s.canSending c sof = none) ∧
    (∃ (c : Nat) (tec : Nat) (rec_ : Nat) (id : Nat) (flags : Nat) (s : State), c < 2 ∧ (s.can c).mode = 1 ∧ tec < 96 ∧ rec_ < 96 ∧ (∀ f, f < 32 → s.canMatches c id (bitAt flags 0) f = false)) ∧
    (∃ (c : Nat) (tec : Nat) (rec_ : Nat) (id : Nat) (flags : Nat) (f : Nat) (b : Nat) (s : State), c < 2 ∧ b < 64 ∧ (s.can c).mode = 1 ∧ tec < 96 ∧ rec_ < 96 ∧ f < 32 ∧ s.canMatches c id (bitAt flags 0) f = true ∧ (∀ g, g < f → s.canMatches c id (bitAt flags 0) g = false) ∧ s.get (Obj.CanFltBuffer c f) = b ∧ s.get (Obj.CanBufRole c b) = 2 ∧ s.get (Obj.CanBufState c b) ≠ 3) ∧
    (∃ (c : Nat) (tec : Nat) (rec_ : Nat) (id : Nat) (flags : Nat) (f : Nat) (b : Nat) (s : State), c < 2 ∧ b < 64 ∧ (s.can c).mode = 1 ∧ tec < 96 ∧ rec_ < 96 ∧ f < 32 ∧ s.canMatches c id (bitAt flags 0) f = true ∧ (∀ g, g < f → s.canMatches c id (bitAt flags 0) g = false) ∧ s.get (Obj.CanFltBuffer c f) = b ∧ s.get (Obj.CanBufRole c b) = 2 ∧ s.get (Obj.CanBufState c b) = 3) :=
  ⟨⟨1, 5, (regsAt [((Obj.CanBufRole 1 5), 1), ((Obj.CanBufTxSlot 1 5), 0xFFFF)]), by decide +kernel⟩,
   ⟨1, 5, (regsAt [((Obj.CanBufRole 1 5), 1)]).setCan 1 { reqs := [(5, 0)], mode := 1 }, by decide +kernel⟩,
   ⟨1, 5, State.reset, by decide +kernel⟩,
   ⟨1, 5, 0, State.reset.setCan 1 { reqs := [(5, 0)], mode := 1 }, by decide +kernel⟩,
   ⟨1, 5, 9, State.reset.setCan 1 { reqs := [(5, 0)], mode := 1 }, by decide +kernel⟩,
   ⟨1, 5, (regsAt [((Obj.CanBufState 1 5), 3)]), by decide +kernel⟩,
   ⟨1, 5, State.reset, by decide +kernel⟩,
   ⟨1, 5, 9, 0, 0, 0, State.reset.setCan 1 { reqs := [(5, 0)], mode := 1 }, by decide +kernel⟩,
   ⟨1, 5, 9, 128, (regsAt [((Obj.CanTdcEnable 1), 1), (Obj.CanTdcEnable 1, 1), (Obj.CanBufFlags 1 5, 6)]).setCan 1 { reqs := [(5, 0)], mode := 1 }, by decide +kernel⟩,
   ⟨1, 0, State.reset, by decide +kernel⟩,
   ⟨1, 5, 9, (regsAt [((Obj.CanBufOneShot 1 5), 1), (Obj.CanBufOneShot 1 5, 1)]).setCan 1 { reqs := [(5, 0)], mode := 1 }, by decide +kernel⟩,
   ⟨1, 5, 9, (regsAt [((Obj.CanBufOneShot 1 5), 0)]).setCan 1 { reqs := [(5, 0)], mode := 1 }, by decide +kernel⟩,
   ⟨0, 0, State.reset, by decide +kernel⟩,
   ⟨1, 0, 0, 0x123, 0, State.reset.setCan 1 { mode := 1 }, by decide +kernel⟩,
   ⟨1, 0, 0, 0x123, 0, 2, 5, (regsAt [((Obj.CanFltBuffer 1 2), 5), ((Obj.CanBufRole 1 5), 2), (Obj.CanFltEnable 1 2, 1), (Obj.CanFltIde 1 2, 0), (Obj.CanFltId 1 2, 0x123), (Obj.CanFltMask 1 2, 0x7FF)]).setCan 1 { mode := 1 }, by decide +kernel⟩,
   ⟨1, 0, 0, 0x123, 0, 2, 5, (regsAt [((Obj.CanFltBuffer 1 2), 5), ((Obj.CanBufRole 1 5), 2), ((Obj.CanBufState 1 5), 3), (Obj.CanFltEnable 1 2, 1), (Obj.CanFltIde 1 2, 0), (Obj.CanFltId 1 2, 0x123), (Obj.CanFltMask 1 2, 0x7FF)]).setCan 1 { mode := 1 }, by decide +kernel⟩⟩

theorem witness_CanStatesAndTheSchedule :
    (∃ (c : Nat) (s : State), (s.can c).mode ≠ 1) ∧
    (∃ (c : Nat) (tec : Nat) (rec_ : Nat) (s : State), (s.can c).mode = 1 ∧ tec < 96 ∧ rec_ < 96) ∧
    (∃ (c : Nat) (tec : Nat) (s : State), c < 2 ∧ (s.can c).mode = 1 ∧ 255 < tec ∧ (s.can c).busOff = false) ∧
    (∃ (c : Nat) (s : State), c < 2 ∧ (s.can c).busOff = true) ∧
    (∃ (c : Nat) (s : State), c < 2 ∧ (s.can c).busOff = false) ∧
    (∃ (c : Nat) (s : State), (s.can c).busOff = true ∧ (s.inUse (Obj.CanRecovery c) = 1 ∨ (s.can c).confirmed = true)) ∧
    (∃ (c : Nat) (s : State), ((s.can c).busOff = false ∨ (s.inUse (Obj.CanRecovery c) ≠ 1 ∧ (s.can c).confirmed = false))) ∧
    (∃ (c : Nat) (s : State), s.nat (Obj.CanMode c) = (s.can c).mode) ∧
    (∃ (c : Nat) (s : State), c < 2 ∧ s.nat (Obj.CanMode c) = 0 ∧ (s.can c).mode ≠ 0 ∧ (s.can c).reqs = [] ∧ s.faultActive fkBusOff c = false) ∧
    (∃ (c : Nat) (s : State), (s.can c).mode = 4 ∧ s.inUse (Obj.CanDetectTimeout c) ≠ 0 ∧ (s.can c).detectAt + s.natInUse (Obj.CanDetectTimeout c) * 1000000 ≤ s.now) ∧
    (∃ (c : Nat) (s : State), ((s.can c).mode ≠ 4 ∨ s.inUse (Obj.CanDetectTimeout c) = 0 ∨ s.now < (s.can c).detectAt + s.natInUse (Obj.CanDetectTimeout c) * 1000000)) ∧
    (∃ (c : Nat) (s : State), (s.can c).mode = 4 ∧ (s.can c).entryAt + s.natInUse (Obj.CanDetectDwell c) * 1000000 ≤ s.now) ∧
    (∃ (c : Nat) (d : Nat) (e : Nat) (s : State), (s.can c).mode = 4 ∧ s.canEntries c = [d, e] ∧ (s.can c).entry = e ∧ d < e ∧ (s.can c).entryAt + s.natInUse (Obj.CanDetectDwell c) * 1000000 ≤ s.now) ∧
    (∃ (c : Nat) (s : State), ((s.can c).mode ≠ 4 ∨ s.now < (s.can c).entryAt + s.natInUse (Obj.CanDetectDwell c) * 1000000)) ∧
    (∃ (c : Nat) (j : Nat) (s : State), s.ttDue c j = true ∧ s.canPending c (s.ttField c j 3) = true) ∧
    (∃ (c : Nat) (j : Nat) (b : Nat) (s : State), c < 2 ∧ s.ttDue c j = true ∧ s.ttField c j 3 = b ∧ b < 64 ∧ s.canPending c b = false ∧ s.ttField c j 1 ≠ 0) ∧
    (∃ (c : Nat) (j : Nat) (s : State), s.ttDue c j = false) ∧
    (∃ (c : Nat) (j : Nat) (b : Nat) (sof : Nat) (s : State), ((s.can c).tt.find? fun x => x.1 == j) = some (j, b) ∧ s.canSending c sof = some b ∧ s.ttDeadline c j ≤ s.now) ∧
    (∃ (c : Nat) (j : Nat) (s : State), s.now < s.ttDeadline c j) ∧
    (∃ (c : Nat) (j : Nat) (b : Nat) (sof : Nat) (s : State), c < 2 ∧ b < 64 ∧ ((s.can c).tt.find? fun x => x.1 == j) = some (j, b) ∧ s.canSending c sof ≠ some b ∧ s.ttDeadline c j ≤ s.now ∧ s.canPending c b = true ∧ b ∉ (s.can c).cancels) :=
  ⟨⟨1, State.reset, by decide +kernel⟩,
   ⟨1, 0, 0, State.reset.setCan 1 { mode := 1 }, by decide +kernel⟩,
   ⟨1, 256, State.reset.setCan 1 { mode := 1 }, by decide +kernel⟩,
   ⟨1, State.reset.setCan 1 { busOff := true }, by decide +kernel⟩,
   ⟨0, State.reset, by decide +kernel⟩,
   ⟨1, State.reset.setCan 1 { busOff := true }, by decide +kernel⟩,
   ⟨1, (regsAt [(Obj.CanRecovery 1, 2)]).setCan 1 { busOff := true }, by decide +kernel⟩,
   ⟨1, State.reset, by decide +kernel⟩,
   ⟨1, (regsAt [((Obj.CanMode 1), 0)]).setCan 1 { mode := 1 }, by decide +kernel⟩,
   ⟨1, (regsAt [(Obj.CanDetectTimeout 1, 5), (Obj.TrellisCounter, 100000000000)]).setCan 1 { mode := 4 }, by decide +kernel⟩,
   ⟨1, State.reset.setCan 1 { mode := 4 }, by decide +kernel⟩,
   ⟨1, (regsAt [(Obj.TrellisCounter, 100000000000)]).setCan 1 { mode := 4 }, by decide +kernel⟩,
   ⟨1, 2, 4, (((regsAt [(Obj.TrellisCounter, 100000000000)]).store (Obj.CanDetectTable 1) 44 [1]).store (Obj.CanDetectTable 1) 76 [1]).setCan 1 { mode := 4, entry := 4 }, by decide +kernel⟩,
   ⟨1, ((State.reset.store (Obj.CanDetectTable 1) 44 [1]).store (Obj.CanDetectTable 1) 76 [1]).setCan 1 { mode := 4, entry := 4 }, by decide +kernel⟩,
   ⟨1, 2, ((regsAt [(Obj.TtCycleLength 1, 1000000), (Obj.TtMatrixCycles 1, 1), (Obj.TrellisCounter, 200)]).store (Obj.TtSlotTable 1) 48 (natLE 4 100 ++ natLE 4 50 ++ natLE 8 1 ++ [5])).setCan 1 { reqs := [(5, 0)] }, by decide +kernel⟩,
   ⟨1, 2, 5, ((regsAt [(Obj.TtCycleLength 1, 1000000), (Obj.TtMatrixCycles 1, 1), (Obj.TrellisCounter, 200), (Obj.CanBufTxSlot 1 5, 0xFFFF)]).store (Obj.TtSlotTable 1) 48 (natLE 4 100 ++ natLE 4 50 ++ natLE 8 1 ++ [5])), by decide +kernel⟩,
   ⟨1, 3, State.reset, by decide +kernel⟩,
   ⟨1, 2, 5, 9, State.reset.setCan 1 { mode := 1, reqs := [(5, 0)], tt := [(2, 5)] }, by decide +kernel⟩,
   ⟨1, 2, (State.reset.store (Obj.TtSlotTable 1) 48 (natLE 4 100 ++ natLE 4 50 ++ natLE 8 1 ++ [5])), by decide +kernel⟩,
   ⟨1, 2, 5, 0, State.reset.setCan 1 { mode := 1, reqs := [(5, 0)], tt := [(2, 5)] }, by decide +kernel⟩⟩

theorem witness_FieldInputsAndOutputs :
    (∃ (i : Nat) (mv : Nat) (k : Nat) (s : State), i < 16 ∧ s.finValid i = true ∧ 0 < k ∧ s.nat (Obj.FinFilterCount i) ≤ k ∧ s.get (Obj.FinInvert i) = 0 ∧ (s.finThresholds i).1 < mv ∧ (s.fin i).f = false) ∧
    (∃ (i : Nat) (time : Nat) (s : State), s.get (Obj.FinWireBreakEnable i) = 1 ∧ (s.fin i).voltage < s.nat (Obj.FinWireBreakLevel i) * 100 ∧ (s.natInUse (Obj.FinWireBreakTime i) = 0 ∨ s.natInUse (Obj.FinWireBreakTime i) * 1000 < time)) ∧
    (∃ (i : Nat) (time : Nat) (s : State), (s.get (Obj.FinWireBreakEnable i) = 0 ∨ s.nat (Obj.FinWireBreakLevel i) * 100 ≤ (s.fin i).voltage ∨ (s.natInUse (Obj.FinWireBreakTime i) ≠ 0 ∧ time ≤ s.natInUse (Obj.FinWireBreakTime i) * 1000))) ∧
    (∃ (i : Nat) (mv : Nat) (s : State), (s.fin i).broken = true ∧ s.nat (Obj.FinWireBreakLevel i) * 100 < mv) ∧
    (∃ (o : Nat) (current : Nat) (time : Nat) (s : State), s.foutOn o = true ∧ s.natInUse (Obj.FoutOverloadLimit o) < current ∧ (s.natInUse (Obj.FoutOverloadTime o) = 0 ∨ s.natInUse (Obj.FoutOverloadTime o) < time)) ∧
    (∃ (o : Nat) (current : Nat) (time : Nat) (s : State), (s.foutOn o = false ∨ current ≤ s.natInUse (Obj.FoutOverloadLimit o) ∨ (s.natInUse (Obj.FoutOverloadTime o) ≠ 0 ∧ time ≤ s.natInUse (Obj.FoutOverloadTime o)))) ∧
    (∃ (t : Int) (s : State), 150 < t) ∧
    (∃ (o : Nat) (t : Int) (s : State), t < 130 ∧ (s.fout o).hot = true) ∧
    (∃ (t : Int) (s : State), 130 ≤ t ∧ t ≤ 150) ∧
    (∃ (o : Nat) (current : Nat) (s : State), s.foutOn o = true ∧ current < s.natInUse (Obj.FoutOpenCurrent o)) ∧
    (∃ (o : Nat) (current : Nat) (s : State), (s.foutOn o = false ∨ s.natInUse (Obj.FoutOpenCurrent o) ≤ current)) ∧
    (∃ (o : Nat) (s : State), s.field.supply = false ∧ s.field.at_ + 12500 * o ≤ s.now) ∧
    (∃ (o : Nat) (s : State), (s.field.supply = true ∨ s.now < s.field.at_ + 12500 * o)) ∧
    (∃ (o : Nat) (l : List Nat) (s : State), s.field.restore = o :: l ∧ s.foutCause o = false ∧ s.field.at_ ≤ s.now) ∧
    (∃ (o : Nat) (l : List Nat) (s : State), s.field.restore = o :: l ∧ s.foutCause o = true ∧ s.field.at_ ≤ s.now) ∧
    (∃ (o : Nat) (s : State), (s.field.restore.head? ≠ some o ∨ s.now < s.field.at_)) ∧
    (∃ (mv : Nat) (s : State), s.field.supply = true ∧ (mv < 18000 ∨ 31000 < mv)) ∧
    (∃ (mv : Nat) (s : State), s.field.supply = true ∧ 18000 ≤ mv ∧ mv ≤ 31000) ∧
    (∃ (mv : Nat) (s : State), s.field.supply = false ∧ (mv < 19200 ∨ 30000 < mv)) ∧
    (∃ (mv : Nat) (s : State), s.field.supply = false ∧ s.field.link = true ∧ 19200 ≤ mv ∧ mv ≤ 30000) ∧
    (∃ (s : State), s.field.link = true) ∧
    (∃ (s : State), s.field.link = false ∧ s.field.supply = true) :=
  ⟨⟨3, 20000, 70000, { (regsAt [((Obj.FinInvert 3), 0)]) with field := { State.reset.field with supply := true, link := true } }, by decide +kernel⟩,
   ⟨3, 1000000000, (regsAt [((Obj.FinWireBreakEnable 3), 1), (Obj.FinWireBreakLevel 3, 20)]).setFin 3 { voltage := 100 }, by decide +kernel⟩,
   ⟨0, 0, State.reset, by decide +kernel⟩,
   ⟨3, 5000, (regsAt [(Obj.FinWireBreakLevel 3, 20)]).setFin 3 { broken := true }, by decide +kernel⟩,
   ⟨2, 1000000, 1000000, (regsAt [(Obj.FoutStatus 2, 0)]).setFout 2 { cmd := true }, by decide +kernel⟩,
   ⟨0, 0, 0, State.reset, by decide +kernel⟩,
   ⟨151, State.reset, by decide +kernel⟩,
   ⟨2, 120, State.reset.setFout 2 { hot := true }, by decide +kernel⟩,
   ⟨140, State.reset, by decide +kernel⟩,
   ⟨2, 0, (regsAt [(Obj.FoutOpenCurrent 2, 5), (Obj.FoutStatus 2, 0)]).setFout 2 { cmd := true }, by decide +kernel⟩,
   ⟨0, 0, State.reset, by decide +kernel⟩,
   ⟨0, State.reset, by decide +kernel⟩,
   ⟨0, { State.reset with field := { State.reset.field with supply := true, link := true } }, by decide +kernel⟩,
   ⟨2, [3], { State.reset with field := { State.reset.field with supply := true, link := true, restore := [2, 3] } }, by decide +kernel⟩,
   ⟨2, [3], { State.reset with field := { State.reset.field with restore := [2, 3] } }, by decide +kernel⟩,
   ⟨0, State.reset, by decide +kernel⟩,
   ⟨17000, { State.reset with field := { State.reset.field with supply := true, link := true } }, by decide +kernel⟩,
   ⟨24000, { State.reset with field := { State.reset.field with supply := true, link := true } }, by decide +kernel⟩,
   ⟨10000, State.reset, by decide +kernel⟩,
   ⟨24000, { State.reset with field := { State.reset.field with link := true } }, by decide +kernel⟩,
   ⟨{ State.reset with field := { State.reset.field with supply := true, link := true } }, by decide +kernel⟩,
   ⟨{ State.reset with field := { State.reset.field with supply := true } }, by decide +kernel⟩⟩

theorem witness_SafetyFunctions :
    (∃ (s : State), s.get Obj.SafetyConfigSource = 0 ∧ s.get Obj.SafetyState = 3 ∧ s.safety.sealed = false ∧ (∀ g, g < 4 → s.get (Obj.StoGroupState g) = 1)) ∧
    (∃ (p : Nat) (c : SafetyCfg) (s : State), p < 4 ∧ s.safetyCfg = some c ∧ c.pairs.testBit p = true ∧ s.get (Obj.PairState p) = 2 ∧ c.disc * 10 < s.safety.disc.getD p 0) ∧
    (∃ (p : Nat) (s : State), s.get (Obj.PairState p) ≠ 2) ∧
    (∃ (code : Nat) (crossFail : Bool) (differ : Bool) (readback : Bool) (w : State) (s : State), w = s.safetyStateEdge.safetyChecks code crossFail differ readback ∧ w.safetyCfg = none) ∧
    (∃ (inputs : Nat) (code : Nat) (crossFail : Bool) (differ : Bool) (readback : Bool) (c : SafetyCfg) (w : State) (u : State) (s : State), w = s.safetyStateEdge.safetyChecks code crossFail differ readback ∧ w.safetyCfg = some c ∧ u = ((w.safetyInputs c.filter inputs).each (List.range 4) fun x p => x.pairCycle c p).demandCycle c) ∧
    (∃ (g : Nat) (s : State), s.safety.timers.testBit g = true ∧ s.safety.timerAt.getD g 0 + s.ss1Delay g ≤ s.now) ∧
    (∃ (g : Nat) (s : State), (s.safety.timers.testBit g = false ∨ s.now < s.safety.timerAt.getD g 0 + s.ss1Delay g)) ∧
    (∃ (mask : Nat) (s : State), (mask = (List.range 16).foldl (fun m n => if s.get (Obj.AxisState n) = axDisabled ∨ s.get (Obj.AxisState n) = axFaulted then setBitN m n else m) 0)) ∧
    (∃ (s : State), s.sbcOutputs = 0 ∧ (∀ n, n < 16 → s.get (Obj.AxisState n) = axDisabled)) ∧
    (∃ (s : State), s.sbcOutputs = 0) ∧
    (∃ (o : Nat) (s : State), s.sbcOutputs.testBit o = true ∧ s.get Obj.SafetyState = 3) ∧
    (∃ (o : Nat) (s : State), s.sbcOutputs.testBit o = true) ∧
    (∃ (o : Nat) (s : State), s.sbcOutputs.testBit o = false) ∧
    (∃ (s : State), s.get Obj.SafetyState = 0) ∧
    (∃ (s : State), s.get Obj.SafetyState = 0 ∧ s.get Obj.SafetyConfigSource ≠ 0 ∧ s.get Obj.DeviceState ≠ devBoot ∧ s.get Obj.DeviceState ≠ devSafe) ∧
    (∃ (s : State), s.get Obj.SafetyState ≠ 0) ∧
    (∃ (s : State), s.get Obj.SafetyState = 0 ∧ (s.get Obj.SafetyConfigSource = 0 ∨ s.get Obj.DeviceState = devBoot ∨ s.get Obj.DeviceState = devSafe)) ∧
    (∃ (s : State), s.safety.demand ≠ 0) ∧
    (∃ (s : State), s.safety.demand = 0) ∧
    (∃ (session : Nat) (s : State), (∀ x ∈ s.sessions, x.num ≠ session)) ∧
    (∃ (session : Nat) (value : Nat) (x : Session) (s : State), x ∈ s.sessions ∧ x.num = session ∧ value ≠ s.nat Obj.SerialNumber) ∧
    (∃ (session : Nat) (value : Nat) (x : Session) (s : State), x ∈ s.sessions ∧ x.num = session ∧ value = s.nat Obj.SerialNumber ∧ s.get Obj.DeviceState ≠ devSafe) ∧
    (∃ (session : Nat) (value : Nat) (x : Session) (s : State), x ∈ s.sessions ∧ x.num = session ∧ value = s.nat Obj.SerialNumber ∧ s.get Obj.DeviceState = devSafe) ∧
    (∃ (session : Nat) (s : State), (∀ x ∈ s.sessions, x.num = session → s.now < x.unlockAt + 600000000000)) ∧
    (∃ (s : State), s.safety.sealed = true) ∧
    (∃ (code : Nat) (u : State) (s : State), s.safety.sealed = false ∧ u = s.put Obj.SealCode (code % 256 : Nat)) ∧
    (∃ (code : Nat) (s : State), s.safety.sealed = false ∧ code < 256 ∧ code % 16 ≠ 0) :=
  ⟨⟨(regsAt [(Obj.SafetyConfigSource, 0), (Obj.SafetyState, 3), (Obj.StoGroupState 0, 1), (Obj.StoGroupState 1, 1), (Obj.StoGroupState 2, 1), (Obj.StoGroupState 3, 1)]), by decide +kernel⟩,
   ⟨0, sealCfg 1, { (regsAt [((Obj.PairState 0), 2), (Obj.SafetyConfigSource, 1), (Obj.SealCode, 1)]) with safety := { State.reset.safety with disc := [501, 0, 0, 0] } }, by decide +kernel⟩,
   ⟨0, State.reset, by decide +kernel⟩,
   ⟨0, false, false, false, _, State.reset, rfl, by decide +kernel⟩,
   ⟨0, 1, false, false, false, sealCfg 1, _, _, { (regsAt [(Obj.SafetyConfigSource, 1), (Obj.SealCode, 1), (Obj.SafetyState, 1)]) with safety := { State.reset.safety with sealed := true } }, rfl, by decide +kernel, rfl⟩,
   ⟨2, { State.reset with safety := { State.reset.safety with timers := 4 } }, by decide +kernel⟩,
   ⟨0, State.reset, by decide +kernel⟩,
   ⟨65535, State.reset, by decide +kernel⟩,
   ⟨State.reset, by decide +kernel⟩,
   ⟨State.reset, by decide +kernel⟩,
   ⟨0, (regsAt [(Obj.SafetyState, 3), (Obj.SafetyConfigSource, 1), (Obj.SealCode, 0x81)]), by decide +kernel⟩,
   ⟨0, (regsAt [(Obj.SafetyConfigSource, 1), (Obj.SealCode, 0x81)]), by decide +kernel⟩,
   ⟨0, State.reset, by decide +kernel⟩,
   ⟨(regsAt [(Obj.SafetyState, 0)]), by decide +kernel⟩,
   ⟨(regsAt [(Obj.SafetyState, 0), (Obj.SafetyConfigSource, 1), (Obj.DeviceState, devRun)]), by decide +kernel⟩,
   ⟨(regsAt [(Obj.SafetyState, 1)]), by decide +kernel⟩,
   ⟨(regsAt [(Obj.SafetyState, 0)]), by decide +kernel⟩,
   ⟨{ State.reset with safety := { State.reset.safety with demand := 1 } }, by decide +kernel⟩,
   ⟨State.reset, by decide +kernel⟩,
   ⟨5, State.reset, by decide +kernel⟩,
   ⟨5, 8, { num := 5 }, { State.reset with sessions := [{ num := 5 }], regs := [(Obj.SerialNumber, 9)] }, by decide +kernel⟩,
   ⟨5, 9, { num := 5 }, { State.reset with sessions := [{ num := 5 }], regs := [(Obj.SerialNumber, 9)] }, by decide +kernel⟩,
   ⟨5, 9, { num := 5 }, { State.reset with sessions := [{ num := 5 }], regs := [(Obj.SerialNumber, 9), (Obj.DeviceState, devSafe)] }, by decide +kernel⟩,
   ⟨5, { State.reset with sessions := [{ num := 5 }] }, by decide +kernel⟩,
   ⟨{ State.reset with safety := { State.reset.safety with sealed := true } }, by decide +kernel⟩,
   ⟨0, _, State.reset, by decide +kernel, rfl⟩,
   ⟨1, State.reset, by decide +kernel⟩⟩

theorem witness_ResetsAndFaultRecords :
    (∃ (source : Nat) (s : State), source ∉ s.faults.blockResets) ∧
    (∃ (source : Nat) (s : State), source ∈ s.faults.blockResets) ∧
    (∃ (s : State), s.faults.chipReset = none) ∧
    (∃ (cause : Nat) (s : State), s.faults.chipReset = some cause ∧ cause ≠ 1 ∧ s.power.inReset = false) ∧
    (∃ (k : Nat) (s : State), (k = 0 ∨ 0x33 < k)) ∧
    (∃ (k : Nat) (high : Bool) (s : State), 0x26 ≤ k ∧ k ≤ 0x28 ∧ high = false) ∧
    (∃ (i : Nat) (s : State), i < 2 ∧ s.faultActive fkRowOverrun i = false) ∧
    (∃ (k : Nat) (i : Nat) (s : State), 0 < k ∧ k ≤ 0x33 ∧ i < 64 ∧ instanceExists k i = true ∧ s.forceStatus k [i] = 0 ∧ k ≠ fkRowOverrun ∧ s.get (Obj.FaultReaction k) = 0 ∧ s.get Obj.EventMask = 0 ∧ s.faultActive k i = false) ∧
    (∃ (k : Nat) (v : Nat) (high : Bool) (l : List Nat) (s : State), 0 < k ∧ k ≤ 0x33 ∧ (high = false ∨ Dict.wideKind k = true) ∧ l = (maskBits v).map (fun i => if high then i + 64 else i) ∧ s.forceStatus k l = 0) ∧
    (∃ (k : Nat) (v : Nat) (s : State), 0 < k ∧ k ≤ 0x33 ∧ reactionStatus k v ≠ 0) ∧
    (∃ (k : Nat) (v : Nat) (s : State), 0 < k ∧ k ≤ 0x33 ∧ reactionStatus k v = 0) ∧
    (∃ (k : Nat) (v : Nat) (s : State), 0 < k ∧ k ≤ 0x33 ∧ k ≠ fkSafetyFault ∧ fixedKind k = false ∧ 128 ≤ v) ∧
    (∃ (s : State), s.get Obj.DeviceState ≠ devSafe) ∧
    (∃ (s : State), s.get Obj.DeviceState = devSafe) ∧
    (∃ (s : State), (s.flashStopped = true ∨ s.workHeld = true)) ∧
    (∃ (w : State) (s : State), s.flashStopped = false ∧ s.workHeld = false ∧ w = { s with faults := { s.faults with queue := [], recent := s.faults.recent.filter fun p => decide (s.now - p.2.time < 10000000) } }) ∧
    (∃ (s : State), s.flashStopped = false ∧ s.workHeld = false ∧ s.faults.queue = []) ∧
    (∃ (e : LogEntry) (s : State), s.flashStopped = false ∧ s.workHeld = false ∧ s.faults.queue = [e]) ∧
    (∃ (s : State), s.faults.running = true ∧ s.faults.fatalHold = false ∧ s.power.inReset = false ∧ s.power.recovery = false ∧ ((∀ k ∈ s.faults.nKinds, s.nat (Obj.FaultSticky k) = 0 ∧ s.nat (Obj.FaultStickyHigh k) = 0)) ∧ s.faults.pulseAt + s.natInUse Obj.NerrMinPulse * 1000000 ≤ s.now) ∧
    (∃ (s : State), s.now < s.faults.pulseAt + s.natInUse Obj.NerrMinPulse * 1000000) ∧
    (∃ (s : State), s.faults.fatalHold = true ∧ s.faults.pulseAt + s.natInUse Obj.NerrMinPulse * 1000000 ≤ s.now) :=
  ⟨⟨5, State.reset, by decide +kernel⟩,
   ⟨0x2003, { State.reset with faults := { State.reset.faults with blockResets := [0x2003] } }, by decide +kernel⟩,
   ⟨State.reset, by decide +kernel⟩,
   ⟨4, { State.reset with faults := { State.reset.faults with chipReset := some 4 }, power := { State.reset.power with inReset := false } }, by decide +kernel⟩,
   ⟨0x34, State.reset, by decide +kernel⟩,
   ⟨38, false, State.reset, by decide +kernel⟩,
   ⟨0, State.reset, by decide +kernel⟩,
   ⟨6, 0, (regsAt [((Obj.FaultReaction 6), 0), (Obj.EventMask, 0), (Obj.FaultReaction 6, 0), (Obj.DeviceState, devSafe)]), by decide +kernel⟩,
   ⟨1, 0, false, _, State.reset, by decide +kernel, by decide +kernel, by decide +kernel, rfl, by decide +kernel⟩,
   ⟨6, 128, State.reset, by decide +kernel⟩,
   ⟨6, 1, State.reset, by decide +kernel⟩,
   ⟨6, 128, State.reset, by decide +kernel⟩,
   ⟨State.reset, by decide +kernel⟩,
   ⟨(regsAt [(Obj.DeviceState, devSafe)]), by decide +kernel⟩,
   ⟨State.reset.setActive fkShutdown 0 true, by decide +kernel⟩,
   ⟨_, State.reset, by decide +kernel, by decide +kernel, rfl⟩,
   ⟨State.reset, by decide +kernel⟩,
   ⟨⟨0, 0, 0, 0, 0, 0, 0, 0, 0⟩, { State.reset with faults := { State.reset.faults with queue := [⟨0, 0, 0, 0, 0, 0, 0, 0, 0⟩] } }, by decide +kernel⟩,
   ⟨{ (regsAt [(Obj.TrellisCounter, 100000000000)]) with faults := { State.reset.faults with running := true, pulse := true }, power := { State.reset.power with inReset := false } }, by decide +kernel⟩,
   ⟨State.reset, by decide +kernel⟩,
   ⟨{ (regsAt [(Obj.TrellisCounter, 100000000000)]) with faults := { State.reset.faults with fatalHold := true } }, by decide +kernel⟩⟩

theorem witness_TemperaturesSuppliesAndStates :
    (∃ (s : State), s.power.inReset = true ∧ s.thermal.hold = none) ∧
    (∃ (l : List (Nat × Int)) (s : State), s.power.inReset = true ∧ s.thermal.hold = none ∧ l.length = 14 ∧ s.get Obj.SensorBroken = 0 ∧ s.thermal.prev = [] ∧ ((∀ x ∈ l, -550 ≤ x.2 ∧ x.2 ≤ 1750))) ∧
    (∃ (l : List (Nat × Int)) (w : State) (s : State), w = s.each ((List.range l.length).filter fun i => decide (i < 14)) (fun y i => y.sensorRead i (l.getD i (0, 0)).1 (l.getD i (0, 0)).2) ∧ w.power.inReset = true) ∧
    (∃ (l : List (Nat × Int)) (w : State) (x : State) (s : State), w = s.each ((List.range l.length).filter fun i => decide (i < 14)) (fun y i => y.sensorRead i (l.getD i (0, 0)).1 (l.getD i (0, 0)).2) ∧ w.power.inReset = false ∧ x = w.each (List.range 7) State.zoneRead) ∧
    (∃ (s : State), (7 ≤ s.get Obj.ThrottleLevel ∨ (s.zone s.hottest ≤ s.throttleAt ∧ s.rateHigh = false))) ∧
    (∃ (u : State) (s : State), s.get Obj.ThrottleLevel = 0 ∧ (s.throttleAt < s.zone s.hottest ∨ s.rateHigh = true) ∧ u = (s.put Obj.ThrottleLevel 1).setBit Obj.ThermalStatus 0) ∧
    (∃ (s : State), 0 < s.get Obj.ThrottleLevel ∧ s.get Obj.ThrottleLevel < 7 ∧ (s.throttleAt < s.zone s.hottest ∨ s.rateHigh = true)) ∧
    (∃ (s : State), (s.get Obj.ThrottleLevel ≤ 0 ∨ s.rateHigh = true ∨ (∃ z, z < 7 ∧ s.throttleAt - 10 * s.inUse Obj.ThermalHysteresis ≤ s.zone z))) ∧
    (∃ (s : State), s.get Obj.ThrottleLevel = 1 ∧ s.rateHigh = false ∧ (∀ z, z < 7 → s.zone z < s.throttleAt - 10 * s.inUse Obj.ThermalHysteresis)) ∧
    (∃ (s : State), 1 < s.get Obj.ThrottleLevel ∧ s.rateHigh = false ∧ (∀ z, z < 7 → s.zone z < s.throttleAt - 10 * s.inUse Obj.ThermalHysteresis)) ∧
    (∃ (s : State), (s.get Obj.ThrottleLevel ≠ 7 ∨ s.natInUse Obj.ThermalEscalateTime = 0 ∨ (s.thermal.seven.lookup s.hottest).getD 0 < s.natInUse Obj.ThermalEscalateTime * 1000 ∨ s.hottest ∈ s.thermal.limited)) ∧
    (∃ (s : State), s.get Obj.ThrottleLevel = 7 ∧ s.natInUse Obj.ThermalEscalateTime ≠ 0 ∧ s.natInUse Obj.ThermalEscalateTime * 1000 ≤ (s.thermal.seven.lookup s.hottest).getD 0 ∧ s.hottest ∉ s.thermal.limited) ∧
    (∃ (limit : Int) (s : State), s.thermal.hold = some limit ∧ 1000 ≤ s.thermal.coolRun) ∧
    (∃ (s : State), (s.thermal.hold = none ∨ s.thermal.coolRun < 1000)) ∧
    (∃ (supply : Nat) (mv : Nat) (s : State), (supplyOk supply mv = true ∨ 4 ≤ supply)) ∧
    (∃ (supply : Nat) (mv : Nat) (s : State), supply < 4 ∧ supplyOk supply mv = false ∧ (supply ≠ 2 ∨ 1500 ≤ mv) ∧ s.power.inReset = false) ∧
    (∃ (supply : Nat) (mv : Nat) (s : State), supply < 4 ∧ supplyOk supply mv = false ∧ (supply ≠ 2 ∨ 1500 ≤ mv) ∧ s.power.inReset = true) ∧
    (∃ (mv : Nat) (s : State), mv < 1500) ∧
    (∃ (s : State), s.power.inReset = false) ∧
    (∃ (s : State), s.power.inReset = true) ∧
    (∃ (i : Nat) (l : List Nat) (s : State), i < 4 ∧ supplyOk i (l.getD i 0) = false) ∧
    (∃ (v0 : Nat) (v1 : Nat) (v2 : Nat) (v3 : Nat) (s : State), supplyOk 0 v0 = true ∧ supplyOk 1 v1 = true ∧ supplyOk 2 v2 = true ∧ supplyOk 3 v3 = true) ∧
    (∃ (s : State), s.get Obj.NrstState = 2) ∧
    (∃ (s : State), s.get Obj.NrstState ≠ 2 ∧ s.power.inReset = false) ∧
    (∃ (s : State), s.get Obj.NrstState ≠ 2 ∧ s.power.inReset = true) ∧
    (∃ (s : State), s.get Obj.NrstState ≠ 1) ∧
    (∃ (s : State), s.get Obj.NrstState ≠ 2) ∧
    (∃ (s : State), s.get Obj.NrstState = 1) ∧
    (∃ (s : State), s.get Obj.NrstState ≠ 1) ∧
    (∃ (s : State), s.get Obj.NrstState = 1) ∧
    (∃ (s : State), s.get Obj.NrstState = 2) ∧
    (∃ (locked : Bool) (s : State), s.releaseOk locked = false) ∧
    (∃ (s : State), s.power.booting = false) ∧
    (∃ (bad : Nat) (s : State), s.releaseOk true = true ∧ s.get Obj.LastResetCause ≠ 1 ∧ s.selTrial = false ∧ s.selBank < 2 ∧ s.bankGood bad s.selBank = true ∧ s.power.failedStart = false ∧ s.faults.fatal = []) ∧
    (∃ (s : State), s.power.booting = true ∧ s.storedPayload = none) ∧
    (∃ (p : List Byte) (w : State) (s : State), s.power.booting = true ∧ s.storedPayload = some (p, false) ∧ p ≠ [] ∧ w = s.applyStored p) ∧
    (∃ (s : State), s.power.inReset = false) ∧
    (∃ (s : State), s.power.inReset = true) ∧
    (∃ (s : State), s.readyOk = false) ∧
    (∃ (s : State), s.readyOk = true) ∧
    (∃ (s : State), s.get Obj.DeviceState = devReady) ∧
    (∃ (s : State), s.get Obj.DeviceState = devHalt ∧ s.flashStopped = false) ∧
    (∃ (s : State), s.get Obj.DeviceState = devHalt ∧ s.flashStopped = true) ∧
    (∃ (s : State), s.get Obj.DeviceState ≠ devReady ∧ s.get Obj.DeviceState ≠ devHalt) ∧
    (∃ (s : State), s.get Obj.DeviceState = devRun) ∧
    (∃ (s : State), s.get Obj.DeviceState ≠ devRun) ∧
    (∃ (s : State), (s.get Obj.DeviceState = devBoot ∨ s.get Obj.DeviceState = devSafe)) ∧
    (∃ (a : Nat) (s : State), s.get Obj.DeviceState ≠ devBoot ∧ s.get Obj.DeviceState ≠ devSafe ∧ a < 64 ∧ s.get (Obj.AxisState a) ≠ axDisabled) ∧
    (∃ (s : State), s.get Obj.DeviceState ≠ devBoot ∧ s.get Obj.DeviceState ≠ devSafe ∧ (∀ a, a < 64 → s.get (Obj.AxisState a) = axDisabled)) ∧
    (∃ (s : State), s.power.inReset = false) :=
  ⟨⟨State.reset, by decide +kernel⟩,
   ⟨List.replicate 14 (1000, 250), (regsAt [(Obj.SensorBroken, 0)]), by decide +kernel⟩,
   ⟨[], _, State.reset, rfl, by decide +kernel⟩,
   ⟨[(1000, 250)], _, _, { State.reset with power := { State.reset.power with inReset := false } }, rfl, by decide +kernel, rfl⟩,
   ⟨State.reset, by decide +kernel⟩,
   ⟨_, (regsAt [(Obj.ThrottleLevel, 0), (Obj.ThermalThrottleThreshold, 100), (Obj.ZoneTemperature 0, 1200)]), by decide +kernel, by decide +kernel, rfl⟩,
   ⟨(regsAt [(Obj.ThrottleLevel, 2), (Obj.ThermalThrottleThreshold, 100), (Obj.ZoneTemperature 0, 1200)]), by decide +kernel⟩,
   ⟨State.reset, by exact Or.inl (by decide)⟩,
   ⟨(regsAt [(Obj.ThrottleLevel, 1)]), by decide +kernel⟩,
   ⟨(regsAt [(Obj.ThrottleLevel, 2), (Obj.ThermalThrottleThreshold, 100), (Obj.ThermalHysteresis, 5)]), by decide +kernel⟩,
   ⟨State.reset, by decide +kernel⟩,
   ⟨{ (regsAt [(Obj.ThrottleLevel, 7), (Obj.ThermalEscalateTime, 1)]) with thermal := { State.reset.thermal with seven := [(0, 5000)] } }, by decide +kernel⟩,
   ⟨1250, { State.reset with thermal := { State.reset.thermal with hold := some 1250, coolRun := 1000 } }, by decide +kernel⟩,
   ⟨State.reset, by decide +kernel⟩,
   ⟨0, 800, State.reset, by decide +kernel⟩,
   ⟨0, 900, { State.reset with power := { State.reset.power with inReset := false } }, by decide +kernel⟩,
   ⟨0, 0, State.reset, by decide +kernel⟩,
   ⟨0, State.reset, by decide +kernel⟩,
   ⟨{ State.reset with power := { State.reset.power with inReset := false } }, by decide +kernel⟩,
   ⟨State.reset, by decide +kernel⟩,
   ⟨0, [], State.reset, by decide +kernel⟩,
   ⟨800, 1100, 1800, 3300, State.reset, by decide +kernel⟩,
   ⟨(regsAt [(Obj.NrstState, 2)]), by decide +kernel⟩,
   ⟨{ State.reset with power := { State.reset.power with inReset := false } }, by decide +kernel⟩,
   ⟨State.reset, by decide +kernel⟩,
   ⟨State.reset, by decide +kernel⟩,
   ⟨State.reset, by decide +kernel⟩,
   ⟨(regsAt [(Obj.NrstState, 1)]), by decide +kernel⟩,
   ⟨State.reset, by decide +kernel⟩,
   ⟨(regsAt [(Obj.NrstState, 1)]), by decide +kernel⟩,
   ⟨(regsAt [(Obj.NrstState, 2)]), by decide +kernel⟩,
   ⟨false, { State.reset with power := { State.reset.power with inReset := false } }, by decide +kernel⟩,
   ⟨State.reset, by decide +kernel⟩,
   ⟨0, { (regsAt [(Obj.LastResetCause, 3)]) with power := { State.reset.power with inReset := true, good := true } }, by decide +kernel⟩,
   ⟨{ State.reset with power := { State.reset.power with booting := true } }, by decide +kernel⟩,
   ⟨[0], _, storedState, by decide +kernel, storedState_payload, by decide +kernel, rfl⟩,
   ⟨{ State.reset with power := { State.reset.power with inReset := false } }, by decide +kernel⟩,
   ⟨{ State.reset with power := { State.reset.power with inReset := true } }, by decide +kernel⟩,
   ⟨State.reset, by decide +kernel⟩,
   ⟨(regsAt [(Obj.DeviceState, devSafe), (Obj.SafetyConfigSource, 1), (Obj.SafetyState, 1)]), by decide +kernel⟩,
   ⟨(regsAt [(Obj.DeviceState, devReady)]), by decide +kernel⟩,
   ⟨(regsAt [(Obj.DeviceState, devHalt)]), by decide +kernel⟩,
   ⟨(regsAt [(Obj.DeviceState, devHalt)]).setActive fkShutdown 0 true, by decide +kernel⟩,
   ⟨State.reset, by decide +kernel⟩,
   ⟨(regsAt [(Obj.DeviceState, devRun)]), by decide +kernel⟩,
   ⟨State.reset, by decide +kernel⟩,
   ⟨State.reset, by decide +kernel⟩,
   ⟨3, (regsAt [(Obj.DeviceState, devRun), (Obj.AxisState 3, axHolding)]), by decide +kernel⟩,
   ⟨(regsAt [(Obj.DeviceState, devRun)]), by decide +kernel⟩,
   ⟨{ State.reset with power := { State.reset.power with inReset := false } }, by decide +kernel⟩⟩

theorem witness_UpdateAndStore :
    (∃ (s : State), ((s.get Obj.UpdateState ≠ 0 ∧ s.get Obj.UpdateState ≠ 5) ∨ (s.selTrial = true ∧ s.power.recovery = false))) ∧
    (∃ (s : State), (s.get Obj.UpdateState = 0 ∨ s.get Obj.UpdateState = 5) ∧ (s.selTrial = false ∨ s.power.recovery = true) ∧ s.inactiveBank < 2) ∧
    (∃ (s : State), (s.get Obj.UpdateState ≠ 3 ∨ (s.get Obj.DeviceState ≠ devSafe ∧ s.power.recovery = false))) ∧
    (∃ (s : State), s.get Obj.UpdateState = 3 ∧ (s.get Obj.DeviceState = devSafe ∨ s.power.recovery = true) ∧ s.storeBusy = true) ∧
    (∃ (s : State), s.get Obj.UpdateState = 3 ∧ (s.get Obj.DeviceState = devSafe ∨ s.power.recovery = true) ∧ s.storeBusy = false) ∧
    (∃ (s : State), s.get Obj.UpdateState = 3 ∧ (s.get Obj.DeviceState = devSafe ∨ s.power.recovery = true) ∧ s.storeBusy = false ∧ s.flashStopped = false ∧ s.power.inReset = false) ∧
    (∃ (s : State), (s.get Obj.UpdateState ≠ 4 ∨ s.get Obj.DeviceState = devBoot)) ∧
    (∃ (s : State), s.get Obj.UpdateState = 4 ∧ s.get Obj.DeviceState ≠ devBoot) ∧
    (∃ (s : State), s.get Obj.UpdateState = 4) ∧
    (∃ (s : State), s.get Obj.UpdateState ≠ 4) ∧
    (∃ (s : State), 1 ≤ s.get Obj.UpdateState ∧ s.get Obj.UpdateState ≤ 3 ∧ s.inactiveBank < 2) ∧
    (∃ (s : State), (s.get Obj.UpdateState < 1 ∨ 3 < s.get Obj.UpdateState)) ∧
    (∃ (s : State), s.get Obj.UpdateState ≠ 2) ∧
    (∃ (offset : Nat) (s : State), s.get Obj.UpdateState = 2 ∧ (offset : Int) ≠ s.get Obj.UpdateReceived ∧ 0 ≤ s.get Obj.UpdateReceived) ∧
    (∃ (offset : Nat) (data : List Byte) (s : State), s.get Obj.UpdateState = 2 ∧ s.updateFits offset data = false) ∧
    (∃ (offset : Nat) (data : List Byte) (s : State), s.get Obj.UpdateState = 2 ∧ s.updateFits offset data = true) ∧
    (∃ (s : State), s.get Obj.UpdateState = 1 ∧ s.flashStopped = false) ∧
    (∃ (s : State), (s.get Obj.UpdateState ≠ 1 ∨ s.flashStopped = true)) ∧
    (∃ (s : State), s.nv.op = none) ∧
    (∃ (o : FlashOp) (s : State), s.nv.op = some o ∧ s.nv.retried = false) ∧
    (∃ (o : FlashOp) (s : State), s.nv.op = some o ∧ s.nv.retried = true) ∧
    (∃ (o : FlashOp) (s : State), s.nv.op = some o) ∧
    (∃ (s : State), s.power.recovery = true) ∧
    (∃ (s : State), s.power.recovery = false ∧ s.storeBusy = true) ∧
    (∃ (s : State), s.power.recovery = false ∧ s.storeBusy = false) ∧
    (∃ (s : State), s.power.recovery = false ∧ s.storeBusy = false) ∧
    (∃ (sector : Nat) (s : State), (s.nv.op.isSome = true ∨ s.flashStopped = true ∨ s.sectorFree sector = true ∨ 64 ≤ sector ∨ sector = s.nv.journalAt.1 ∨ sector = s.nv.smallAt.1)) ∧
    (∃ (sector : Nat) (t : State) (s : State), s.nv.op = none ∧ s.flashStopped = false ∧ sector < 64 ∧ sector ≠ s.nv.journalAt.1 ∧ sector ≠ s.nv.smallAt.1 ∧ s.sectorFree sector = false ∧ s.nvReclaim sector = some t) ∧
    (∃ (sector : Nat) (s : State), s.nvReclaim sector = none) ∧
    (∃ (sector : Nat) (s : State), s.nv.op = none ∧ s.flashStopped = false ∧ sector < 64 ∧ sector ≠ s.nv.journalAt.1 ∧ sector ≠ s.nv.smallAt.1 ∧ s.sectorFree sector = false ∧ (∀ r ∈ s.nv.records, r.sector = sector → s.nvLive r = false)) ∧
    (∃ (key : Nat) (r : Dict.Row) (s : State), Dict.row key = some r ∧ measuredMax r = true) ∧
    (∃ (key : Nat) (r : Dict.Row) (s : State), Dict.row key = some r ∧ measuredMax r = false) :=
  ⟨⟨(regsAt [(Obj.UpdateState, 2)]), by decide +kernel⟩,
   ⟨(regsAt [(Obj.UpdateState, 0), (Obj.BootBank, 1)]), by decide +kernel⟩,
   ⟨State.reset, by decide +kernel⟩,
   ⟨{ (regsAt [(Obj.UpdateState, 3), (Obj.DeviceState, devSafe)]) with nv := { State.reset.nv with saveDue := true } }, by decide +kernel⟩,
   ⟨(regsAt [(Obj.UpdateState, 3), (Obj.DeviceState, devSafe)]), by decide +kernel⟩,
   ⟨{ (regsAt [(Obj.UpdateState, 3), (Obj.DeviceState, devSafe)]) with power := { State.reset.power with inReset := false } }, by decide +kernel⟩,
   ⟨State.reset, by decide +kernel⟩,
   ⟨(regsAt [(Obj.UpdateState, 4), (Obj.DeviceState, devSafe)]), by decide +kernel⟩,
   ⟨(regsAt [(Obj.UpdateState, 4)]), by decide +kernel⟩,
   ⟨State.reset, by decide +kernel⟩,
   ⟨(regsAt [(Obj.UpdateState, 2), (Obj.BootBank, 1)]), by decide +kernel⟩,
   ⟨State.reset, by decide +kernel⟩,
   ⟨State.reset, by decide +kernel⟩,
   ⟨5, (regsAt [(Obj.UpdateState, 2)]), by decide +kernel⟩,
   ⟨0, [], (regsAt [(Obj.UpdateState, 2)]), by decide +kernel⟩,
   ⟨256, List.replicate 256 0, (regsAt [(Obj.UpdateState, 2), (Obj.UpdateReceived, 256), (Obj.BootBank, 1)]).store (bankKey 1) 16 (natLE 4 512), by decide +kernel⟩,
   ⟨(regsAt [(Obj.UpdateState, 1)]), by decide +kernel⟩,
   ⟨State.reset, by decide +kernel⟩,
   ⟨State.reset, by decide +kernel⟩,
   ⟨.bank, { State.reset with nv := { State.reset.nv with op := some .bank } }, by decide +kernel⟩,
   ⟨.bank, { State.reset with nv := { State.reset.nv with op := some .bank, retried := true } }, by decide +kernel⟩,
   ⟨.bank, { State.reset with nv := { State.reset.nv with op := some .bank } }, by decide +kernel⟩,
   ⟨{ State.reset with power := { State.reset.power with recovery := true } }, by decide +kernel⟩,
   ⟨{ State.reset with nv := { State.reset.nv with saveDue := true } }, by decide +kernel⟩,
   ⟨State.reset, by decide +kernel⟩,
   ⟨State.reset, by decide +kernel⟩,
   ⟨64, State.reset, by decide +kernel⟩,
   ⟨10, (({ State.reset with nv := { State.reset.nv with dirty := [10] } }).nvReclaim 10).getD State.reset, { State.reset with nv := { State.reset.nv with dirty := [10] } }, by decide +kernel⟩,
   ⟨10, { State.reset with nv := { State.reset.nv with records := [⟨10, 0, 1, 1, 0, 7, [], true⟩], queue := [⟨0, 0, 2, 1, 0, 7, [], false⟩], journalAt := (4, 100000), dirty := [5] } }, by decide +kernel⟩,
   ⟨10, { State.reset with nv := { State.reset.nv with dirty := [10] } }, by decide +kernel⟩,
   ⟨Obj.StoResponseMax, (Dict.row Obj.StoResponseMax).get (by decide +kernel), State.reset, by decide +kernel⟩,
   ⟨Obj.DeviceState, (Dict.row Obj.DeviceState).get (by decide +kernel), State.reset, by decide +kernel⟩⟩

theorem witness_EveryCommandCompletes :
    (∃ (s : State), s.Canonical) :=
  ⟨State.reset, by unfold State.Canonical; decide +kernel⟩

theorem witness_BytesOfADomainReadBack :
    (∃ (offset : Nat) (l : List Byte) (s : State), offset + l.length ≤ 4294967296) :=
  ⟨4294967293, [1, 2, 3], State.reset, by decide +kernel⟩

theorem witness_EveryStepKeepsTheCanonicalForm :
    (∃ (s : State) (t : State), s.Canonical ∧ s.QueueWf ∧ step s = .next t) :=
  ⟨State.reset, State.reset.put Obj.TrellisCounter 1, by unfold State.Canonical; decide +kernel, by unfold State.QueueWf; decide +kernel, by rfl⟩
/-! Ill-formed commands, one for each check of WellFormed. -/

theorem test_wf_axis_beyond_64 : (Instr.enable 64).wf = false := by decide
theorem test_wf_local_axis_beyond_16 : (Instr.angleTest 16).wf = false := by decide
theorem test_wf_core_beyond_8 : (Instr.nop ⟨8, false⟩).wf = false := by decide
theorem test_wf_register_beyond_64 : (Instr.add ⟨0, false⟩ false 64 0 0).wf = false := by decide
theorem test_wf_immediate_beyond_13_bits : (Instr.addi ⟨0, false⟩ false 1 1 4096).wf = false := by decide
theorem test_wf_maxi_of_an_odd_register : (Instr.maxi ⟨0, false⟩ 3 1).wf = false := by decide
theorem test_wf_accumulator_beyond_2 : (Instr.mac ⟨0, false⟩ false 2 false 1 1).wf = false := by decide
theorem test_wf_slot_beyond_4096 : (Instr.slotValueWrite 0 4096 []).wf = false := by decide
theorem test_wf_session_beyond_16_bits : (Instr.commit 65536).wf = false := by decide
theorem test_wf_index_beyond_16_bits : (Instr.dictionaryWrite 0 65536 0 0 []).wf = false := by decide
theorem test_wf_graft_beyond_128 : (Instr.graftEngage 128).wf = false := by decide
theorem test_wf_span_group_beyond_8 : (Instr.spanStart 8).wf = false := by decide
theorem test_wf_bind_group_beyond_16 : (Instr.bindOffEnd 16).wf = false := by decide
theorem test_wf_path_beyond_8 : (Instr.pathStop 8).wf = false := by decide
theorem test_wf_channel_beyond_16 : (Instr.preset 16).wf = false := by decide
theorem test_wf_port_beyond_2 : (Instr.linkUp 2).wf = false := by decide
theorem test_wf_buffer_beyond_64 : (Instr.canBufRequest 0 64).wf = false := by decide
theorem test_wf_output_beyond_8 : (Instr.fieldOutputShed 8).wf = false := by decide
theorem test_wf_pair_beyond_4 : (Instr.discrepancyLatch 4).wf = false := by decide
theorem test_wf_fault_kind_0 : (Instr.faultForce 0 false 1).wf = false := by decide
theorem test_wf_supply_beyond_4 : (Instr.supplyFault 4 0).wf = false := by decide
theorem test_wf_mark_beyond_16 : (Instr.markEdge 16 0 true 0).wf = false := by decide
theorem test_wf_good_command : (Instr.add ⟨7, true⟩ true 63 1 2).wf = true := by decide

/-! Worked by hand from the rules. -/

/-- R113: quotients round to nearest, ties away from zero. -/
theorem test_qdiv_rounds_ties_away : qdiv 7 2 = 4 ∧ qdiv (-7) 2 = -4 ∧ qdiv 5 3 = 2 := by decide
/-- R49: values are little-endian. -/
theorem test_little_endian : natLE 4 0x12345678 = [0x78, 0x56, 0x34, 0x12] ∧ leNat [0x78, 0x56, 0x34, 0x12] = 0x12345678 := by decide
/-- R67: session numbers begin at 1 in a reset epoch. -/
theorem test_first_session_is_1 : State.reset.nextSession 257 State.reset.lastSession = 1 := by decide +kernel
/-- R311: saturation to 64 bits signed. -/
theorem test_saturates : satS 64 (2 ^ 63) = 2 ^ 63 - 1 ∧ satS 64 (-(2 ^ 63) - 1) = -(2 ^ 63) := by decide
/-- The table gives no row bits, so no word spells a command. -/
theorem test_no_word_spells_a_command : decodeTableWord 32 0 = none := by decide
/-- R419: CRC-32 of the nine bytes "123456789" is 0xCBF43926. -/
theorem test_crc32_check_value : crc32 [0x31, 0x32, 0x33, 0x34, 0x35, 0x36, 0x37, 0x38, 0x39] = 0xCBF43926 := by decide +kernel

end Sys2Proof.Tests
end

section
/-! SUPPORT. The scope of the model (spec/00_scope.md): every command completes, and what every command and every step keep. -/

namespace Sys2Proof.Machine

variable {q : List Instr}

/-! ### Every command answers a next state -/

/-- An event met with the values in force completes where the event itself does. -/
theorem viaEdge_completes {f : State → Host.Outcome State Fault Refusal} {s : State} (h : ∃ t, f s.inForce = .next t) :
    ∃ t, viaEdge f s = .next t := by
  obtain ⟨t, ht⟩ := h
  exact ⟨s.rewritten t, by simp only [viaEdge, ht]⟩

/-- No meaning raises a fault or a refusal of the model: a request the device refuses is a next state with its status in the
answer. An event within a tick goes through the values in force; every other meaning is a next state as it stands. -/
theorem exec_completes (c : Instr) (s : State) : Completes c s := by
  cases c with
  | encoderEdge => exact viaEdge_completes (f := encoderEdgeNow _ _ _) ⟨_, rfl⟩
  | comparePulseEnd => exact viaEdge_completes (f := comparePulseEndNow _) ⟨_, rfl⟩
  | indexPulse => exact viaEdge_completes (f := indexPulseNow _ _ _) ⟨_, rfl⟩
  | ssiFrameComplete => exact viaEdge_completes (f := ssiFrameCompleteNow _ _ _ _ _) ⟨_, rfl⟩
  | cmpAppend => exact viaEdge_completes (f := cmpAppendNow _ _) ⟨_, rfl⟩
  | emulationStep => exact viaEdge_completes (f := emulationStepNow _) ⟨_, rfl⟩
  | fastComparatorTrip => exact viaEdge_completes (f := fastComparatorTripNow _ _ _ _ _) ⟨_, rfl⟩
  | generalInputLimit => exact viaEdge_completes (f := generalInputLimitNow _ _ _ _) ⟨_, rfl⟩
  | pvsConversionComplete => exact viaEdge_completes (f := pvsConversionCompleteNow _) ⟨_, rfl⟩
  | pvsComparatorChange => exact viaEdge_completes (f := pvsComparatorChangeNow _ _ _ _ _) ⟨_, rfl⟩
  | tripAssert => exact viaEdge_completes (f := tripAssertNow _ _ _ _ _ _) ⟨_, rfl⟩
  | blankingClose => exact viaEdge_completes (f := blankingCloseNow _ _ _) ⟨_, rfl⟩
  | auxChannelEvent => exact viaEdge_completes (f := auxChannelEventNow _ _ _) ⟨_, rfl⟩
  | acqSampleStored => exact viaEdge_completes (f := acqSampleStoredNow _ _ _ _) ⟨_, rfl⟩
  | markEdge => exact viaEdge_completes (f := markEdgeNow _ _ _ _) ⟨_, rfl⟩
  | _ => exact ⟨_, rfl⟩

/-! ### Every command keeps the canonical form and the queue -/

theorem exec_keeps (c : Instr) {s : State} (h : Keeps q s) : OutKeeps q (exec c s) := by
  cases c with
  | tickEdge => exact execTickEdge_keeps h
  | inputFrameArrival => exact execInputFrameArrival_keeps h
  | inputCutoff => exact execInputCutoff_keeps h
  | stitchStart => exact execStitchStart_keeps h
  | rowOverrun => exact execRowOverrun_keeps h
  | slotValueWrite => exact execSlotValueWrite_keeps h
  | dictionaryWrite => exact execDictionaryWrite_keeps h
  | stageRequest => exact execStageRequest_keeps h
  | commitCheckOnly => exact execCommitCheckOnly_keeps h
  | commit => exact execCommit_keeps h
  | commitCancel => exact execCommitCancel_keeps h
  | stagedSetDiscard => exact execStagedSetDiscard_keeps h
  | commitApply => exact execCommitApply_keeps h
  | stickyClear => exact execStickyClear_keeps h
  | openSession => exact execOpenSession_keeps h
  | closeSession => exact execCloseSession_keeps h
  | sessionIdleTimeout => exact execSessionIdleTimeout_keeps h
  | cia402Controlword => exact execCia402Controlword_keeps h
  | trellisMeasurement => exact execTrellisMeasurement_keeps h
  | holdoverEntry => exact execHoldoverEntry_keeps h
  | holdoverLimitExpiry => exact execHoldoverLimitExpiry_keeps h
  | trellisSetTime => exact execTrellisSetTime_keeps h
  | timeStep => exact execTimeStep_keeps h
  | ppsInEdge => exact execPpsInEdge_keeps h
  | ppsOutPulse => exact execPpsOutPulse_keeps h
  | tsFrameSent => exact execTsFrameSent_keeps h
  | tsQueueEntryRead => exact execTsQueueEntryRead_keeps h
  | plantFrameReceive => exact execPlantFrameReceive_keeps h
  | announceSend => exact execAnnounceSend_keeps h
  | announceReceive => exact execAnnounceReceive_keeps h
  | partnerLost => exact execPartnerLost_keeps h
  | gateListSwitch => exact execGateListSwitch_keeps h
  | ringPathLost => exact execRingPathLost_keeps h
  | masterPublish => exact execMasterPublish_keeps h
  | masterSampleReceive => exact execMasterSampleReceive_keeps h
  | snapshotScheduleTime => exact execSnapshotScheduleTime_keeps h
  | snapshotScheduleFrame => exact execSnapshotScheduleFrame_keeps h
  | snapshotTake => exact execSnapshotTake_keeps h
  | snapshotComplete => exact execSnapshotComplete_keeps h
  | enable => exact execEnable_keeps h
  | disable => exact execDisable_keeps h
  | powerOn => exact execPowerOn_keeps h
  | moveAbsolute => exact execMoveAbsolute_keeps h
  | moveRelative => exact execMoveRelative_keeps h
  | velocityMove => exact execVelocityMove_keeps h
  | stop => exact execStop_keeps h
  | resume => exact execResume_keeps h
  | quickStop => exact execQuickStop_keeps h
  | abandon => exact execAbandon_keeps h
  | home => exact execHome_keeps h
  | faultReset => exact execFaultReset_keeps h
  | coilsOff => exact execCoilsOff_keeps h
  | planStart => exact execPlanStart_keeps h
  | standstill => exact execStandstill_keeps h
  | brakeEngageDelayExpiry => exact execBrakeEngageDelayExpiry_keeps h
  | brakeReleaseDelayExpiry => exact execBrakeReleaseDelayExpiry_keeps h
  | homingTimeout => exact execHomingTimeout_keeps h
  | bindOffRequest => exact execBindOffRequest_keeps h
  | bindOffRampStart => exact execBindOffRampStart_keeps h
  | bindOffEnd => exact execBindOffEnd_keeps h
  | bindOffJoinLate => exact execBindOffJoinLate_keeps h
  | pathStart => exact execPathStart_keeps h
  | pathStop => exact execPathStop_keeps h
  | pathResume => exact execPathResume_keeps h
  | pathAbandon => exact execPathAbandon_keeps h
  | graftEngage => exact execGraftEngage_keeps h
  | graftDisengage => exact execGraftDisengage_keeps h
  | remoteMasterLost => exact execRemoteMasterLost_keeps h
  | spanStart => exact execSpanStart_keeps h
  | spanRelease => exact execSpanRelease_keeps h
  | spanSettled => exact execSpanSettled_keeps h
  | spanObserverDiverged => exact execSpanObserverDiverged_keeps h
  | spanTensionOutOfRange => exact execSpanTensionOutOfRange_keeps h
  | spanDataStale => exact execSpanDataStale_keeps h
  | spanBankWrite => exact execSpanBankWrite_keeps h
  | spanBankSelect => exact execSpanBankSelect_keeps h
  | followingError => exact execFollowingError_keeps h
  | netStatusRecord => exact execNetStatusRecord_keeps h
  | netAxisLost => exact execNetAxisLost_keeps h
  | encoderEdge => exact execEncoderEdge_keeps h
  | comparePulseEnd => exact execComparePulseEnd_keeps h
  | indexPulse => exact execIndexPulse_keeps h
  | ssiFrameComplete => exact execSsiFrameComplete_keeps h
  | armIndex => exact execArmIndex_keeps h
  | disarmIndex => exact execDisarmIndex_keeps h
  | preset => exact execPreset_keeps h
  | presetApply => exact execPresetApply_keeps h
  | lineFault => exact execLineFault_keeps h
  | cmpAppend => exact execCmpAppend_keeps h
  | cmpCancelAll => exact execCmpCancelAll_keeps h
  | emulationStep => exact execEmulationStep_keeps h
  | focComputation => exact execFocComputation_keeps h
  | modulatorInputLost => exact execModulatorInputLost_keeps h
  | fastComparatorTrip => exact execFastComparatorTrip_keeps h
  | generalInputLimit => exact execGeneralInputLimit_keeps h
  | pvsConversionComplete => exact execPvsConversionComplete_keeps h
  | pvsComparatorChange => exact execPvsComparatorChange_keeps h
  | sixStepCommutation => exact execSixStepCommutation_keeps h
  | hfiLocked => exact execHfiLocked_keeps h
  | hfiFailed => exact execHfiFailed_keeps h
  | dibberPulseEnd => exact execDibberPulseEnd_keeps h
  | castOnMeasureTimeout => exact execCastOnMeasureTimeout_keeps h
  | castOnTimeout => exact execCastOnTimeout_keeps h
  | lockLost => exact execLockLost_keeps h
  | ascOrFreewheel => exact execAscOrFreewheel_keeps h
  | reacquisitionEstimate => exact execReacquisitionEstimate_keeps h
  | lockRecovery => exact execLockRecovery_keeps h
  | lockRecoveryFailed => exact execLockRecoveryFailed_keeps h
  | rideThroughReturn => exact execRideThroughReturn_keeps h
  | angleTest => exact execAngleTest_keeps h
  | returnFromRideThrough => exact execReturnFromRideThrough_keeps h
  | halfPeriodStart => exact execHalfPeriodStart_keeps h
  | tripAssert => exact execTripAssert_keeps h
  | blankingClose => exact execBlankingClose_keeps h
  | gateEnableWithdrawn => exact execGateEnableWithdrawn_keeps h
  | switchingResume => exact execSwitchingResume_keeps h
  | auxChannelEvent => exact execAuxChannelEvent_keeps h
  | nop => exact execNop_keeps h
  | add => exact execAdd_keeps h
  | sub => exact execSub_keeps h
  | addi => exact execAddi_keeps h
  | and => exact execAnd_keeps h
  | or => exact execOr_keeps h
  | xor => exact execXor_keeps h
  | shl => exact execShl_keeps h
  | shr => exact execShr_keeps h
  | movi => exact execMovi_keeps h
  | clamp => exact execClamp_keeps h
  | min => exact execMin_keeps h
  | max => exact execMax_keeps h
  | maxi => exact execMaxi_keeps h
  | mini => exact execMini_keeps h
  | mul => exact execMul_keeps h
  | mac => exact execMac_keeps h
  | cmac => exact execCmac_keeps h
  | accr => exact execAccr_keeps h
  | accz => exact execAccz_keeps h
  | ftap => exact execFtap_keeps h
  | div => exact execDiv_keeps h
  | divComplete => exact execDivComplete_keeps h
  | sqrt => exact execSqrt_keeps h
  | sqrtComplete => exact execSqrtComplete_keeps h
  | ld => exact execLd_keeps h
  | st => exact execSt_keeps h
  | ldi => exact execLdi_keeps h
  | sti => exact execSti_keeps h
  | beq => exact execBeq_keeps h
  | bne => exact execBne_keeps h
  | blt => exact execBlt_keeps h
  | bge => exact execBge_keeps h
  | j => exact execJ_keeps h
  | rep => exact execRep_keeps h
  | ret => exact execRet_keeps h
  | coreInterruptTaken => exact execCoreInterruptTaken_keeps h
  | debugHalt => exact execDebugHalt_keeps h
  | loopCoreMemoryError => exact execLoopCoreMemoryError_keeps h
  | memoryRestored => exact execMemoryRestored_keeps h
  | sentryEvent => exact execSentryEvent_keeps h
  | arm => exact execArm_keeps h
  | disarm => exact execDisarm_keeps h
  | forceTrigger => exact execForceTrigger_keeps h
  | armingEdge => exact execArmingEdge_keeps h
  | triggerFire => exact execTriggerFire_keeps h
  | fireRecordSend => exact execFireRecordSend_keeps h
  | triggerRecord => exact execTriggerRecord_keeps h
  | settleWindowClose => exact execSettleWindowClose_keeps h
  | acqSampleStored => exact execAcqSampleStored_keeps h
  | writeBackDrain => exact execWriteBackDrain_keeps h
  | streamBlockWrite => exact execStreamBlockWrite_keeps h
  | markEdge => exact execMarkEdge_keeps h
  | headDetection => exact execHeadDetection_keeps h
  | enumerate => exact execEnumerate_keeps h
  | map => exact execMap_keeps h
  | acceptMap => exact execAcceptMap_keeps h
  | linkLoss => exact execLinkLoss_keeps h
  | linkUp => exact execLinkUp_keeps h
  | jorzerFrameReceive => exact execJorzerFrameReceive_keeps h
  | exchangeFrame => exact execExchangeFrame_keeps h
  | creditAndAcknowledge => exact execCreditAndAcknowledge_keeps h
  | delayMeasurement => exact execDelayMeasurement_keeps h
  | sync => exact execSync_keeps h
  | reconcile => exact execReconcile_keeps h
  | mailboxDoorbell => exact execMailboxDoorbell_keeps h
  | submissionTailDoorbell => exact execSubmissionTailDoorbell_keeps h
  | completionHeadDoorbell => exact execCompletionHeadDoorbell_keeps h
  | submissionFetch => exact execSubmissionFetch_keeps h
  | hostRead => exact execHostRead_keeps h
  | hostWrite => exact execHostWrite_keeps h
  | hostStage => exact execHostStage_keeps h
  | hostNoOp => exact execHostNoOp_keeps h
  | completionIrqTimeout => exact execCompletionIrqTimeout_keeps h
  | hostLinkLost => exact execHostLinkLost_keeps h
  | hostReconcile => exact execHostReconcile_keeps h
  | tagTimeout => exact execTagTimeout_keeps h
  | canModeChange => exact execCanModeChange_keeps h
  | rateDetectionDwell => exact execRateDetectionDwell_keeps h
  | rateDetectionTimeout => exact execRateDetectionTimeout_keeps h
  | canBufRequest => exact execCanBufRequest_keeps h
  | canBufCancel => exact execCanBufCancel_keeps h
  | canBufRelease => exact execCanBufRelease_keeps h
  | canFrameTransmitted => exact execCanFrameTransmitted_keeps h
  | canFrameReceived => exact execCanFrameReceived_keeps h
  | canError => exact execCanError_keeps h
  | canRecover => exact execCanRecover_keeps h
  | busOffRecovery => exact execBusOffRecovery_keeps h
  | ttSlotFire => exact execTtSlotFire_keeps h
  | ttWindowExpiry => exact execTtWindowExpiry_keeps h
  | fieldInputChange => exact execFieldInputChange_keeps h
  | wireBreak => exact execWireBreak_keeps h
  | fieldOutputOverload => exact execFieldOutputOverload_keeps h
  | fieldOutputOverTemperature => exact execFieldOutputOverTemperature_keeps h
  | openWire => exact execOpenWire_keeps h
  | fieldSupplyInvalid => exact execFieldSupplyInvalid_keeps h
  | fieldOutputShed => exact execFieldOutputShed_keeps h
  | fieldSupplyValid => exact execFieldSupplyValid_keeps h
  | fieldOutputAutoRestore => exact execFieldOutputAutoRestore_keeps h
  | dieLinkLost => exact execDieLinkLost_keeps h
  | dieLinkRestored => exact execDieLinkRestored_keeps h
  | safetyCycle => exact execSafetyCycle_keeps h
  | discrepancyLatch => exact execDiscrepancyLatch_keeps h
  | ss1TimerExpiry => exact execSs1TimerExpiry_keeps h
  | requestFrame => exact execRequestFrame_keeps h
  | requestPathLost => exact execRequestPathLost_keeps h
  | safetyAcknowledge => exact execSafetyAcknowledge_keeps h
  | safetyUnlock => exact execSafetyUnlock_keeps h
  | safetyUnlockExpiry => exact execSafetyUnlockExpiry_keeps h
  | sealRead => exact execSealRead_keeps h
  | offPulse => exact execOffPulse_keeps h
  | selfTestComplete => exact execSelfTestComplete_keeps h
  | blockReset => exact execBlockReset_keeps h
  | chipReset => exact execChipReset_keeps h
  | faultForce => exact execFaultForce_keeps h
  | faultReactionWrite => exact execFaultReactionWrite_keeps h
  | clearFatalRecord => exact execClearFatalRecord_keeps h
  | eraseLog => exact execEraseLog_keeps h
  | faultLogCopy => exact execFaultLogCopy_keeps h
  | temperatureMeasurement => exact execTemperatureMeasurement_keeps h
  | throttleUp => exact execThrottleUp_keeps h
  | throttleDown => exact execThrottleDown_keeps h
  | thermalEscalation => exact execThermalEscalation_keeps h
  | thermalHoldRelease => exact execThermalHoldRelease_keeps h
  | supplyFault => exact execSupplyFault_keeps h
  | clockFault => exact execClockFault_keeps h
  | powerGood => exact execPowerGood_keeps h
  | nrstQualified => exact execNrstQualified_keeps h
  | nrstRelease => exact execNrstRelease_keeps h
  | nrstFailedClosed => exact execNrstFailedClosed_keeps h
  | nrstIgnoreEnd => exact execNrstIgnoreEnd_keeps h
  | resetRelease => exact execResetRelease_keeps h
  | startupComplete => exact execStartupComplete_keeps h
  | supervisorWatchdog => exact execSupervisorWatchdog_keeps h
  | deviceReady => exact execDeviceReady_keeps h
  | deviceRun => exact execDeviceRun_keeps h
  | deviceHalt => exact execDeviceHalt_keeps h
  | deviceSafe => exact execDeviceSafe_keeps h
  | deviceReset => exact execDeviceReset_keeps h
  | updateBegin => exact execUpdateBegin_keeps h
  | updateActivate => exact execUpdateActivate_keeps h
  | updateConfirm => exact execUpdateConfirm_keeps h
  | updateRevert => exact execUpdateRevert_keeps h
  | updateAbort => exact execUpdateAbort_keeps h
  | updateData => exact execUpdateData_keeps h
  | bankErased => exact execBankErased_keeps h
  | flashOperationComplete => exact execFlashOperationComplete_keeps h
  | save => exact execSave_keeps h
  | clear => exact execClear_keeps h
  | journalReclaim => exact execJournalReclaim_keeps h
  | measuredMaximumReset => exact execMeasuredMaximumReset_keeps h
  | canArbitrationLost => exact execCanArbitrationLost_keeps h
  | creditFrameTimeout => exact execCreditFrameTimeout_keeps h
  | nerrMinPulseExpiry => exact execNerrMinPulseExpiry_keeps h
  | dibberGapExpiry => exact execDibberGapExpiry_keeps h
  | frerResetTimeExpiry => exact execFrerResetTimeExpiry_keeps h
  | fieldInputValidAgain => exact execFieldInputValidAgain_keeps h

/-- Settles O58: no meaning stops the model, and each keeps the canonical form and the queue. -/
theorem everyCommandCompletes : Obligations.EveryCommandCompletes := by
  intro c s hs
  obtain ⟨t, ht⟩ := exec_completes c s
  have hk : Keeps s.pending t := keeps_out ht (exec_keeps c ⟨hs, rfl⟩)
  exact ⟨t, ht, hk.queue, hk.canonical⟩

/-! ### Every step -/

theorem step_of_empty_queue {s : State} (e : s.pending = []) : step s = .next s.idle := by
  simp only [step, e]

theorem step_of_front_command {s : State} {c : Instr} {rest : List Instr} (e : s.pending = c :: rest) :
    step s = exec c { s with pending := rest } := by
  simp only [step, e]

/-- A step leaves the commands behind the front one in the queue, and the canonical form holds again. -/
theorem step_keeps {s : State} (h : s.Canonical) : OutKeeps s.pending.tail (step s) := by
  cases e : s.pending with
  | nil =>
    rw [step_of_empty_queue e]
    exact State.idle_keeps ⟨h, e⟩
  | cons c rest =>
    rw [step_of_front_command e]
    exact exec_keeps c ⟨h, rfl⟩

theorem State.queueWf_of_tail {s t : State} (h : s.QueueWf) (e : t.pending = s.pending.tail) : t.QueueWf := by
  simp only [State.QueueWf, List.all_eq_true] at h ⊢
  intro c hc
  exact h c (List.mem_of_mem_tail (e ▸ hc))

/-- Settles O60: the front command, or idling, keeps the canonical form and leaves the queue's rest, whose commands were
well-formed before the step. -/
theorem everyStepKeepsTheCanonicalForm : Obligations.EveryStepKeepsTheCanonicalForm := by
  intro s t hs hq e
  have hk : Keeps s.pending.tail t := keeps_out e (step_keeps hs)
  exact ⟨hk.canonical, State.queueWf_of_tail hq hk.queue⟩

end Sys2Proof.Machine
end

section
/-! SUPPORT. The tick and its row (spec/01_tick_row.md): where time reaches an edge, which input is in time, the input cut-off,
the start of a stitch, the check of the row's end and the write of a host slot. -/

namespace Sys2Proof.Machine

/-! ### Shared laws -/

/-- A selection of the entries by their keys: a key left out reads as its default. -/
theorem Sparse.get_filter_key {α : Type} (d : Nat → α) (f : Nat → Bool) (l : List (Nat × α)) (k : Nat) :
    Sparse.get d (l.filter fun p => f p.1) k = if f k then Sparse.get d l k else d k := by
  induction l with
  | nil => simp [Sparse.get]
  | cons p l ih =>
    rw [List.filter_cons]
    by_cases e : p.1 = k
    · subst e
      by_cases h : f p.1 = true
      · simp [h, Sparse.get]
      · simp [h, ih]
    · split
      · simp [Sparse.get, e, ih]
      · simp [Sparse.get, e, ih]

/-- A fold of steps that leave the row alone leaves it alone. -/
theorem State.each_row {f : State → Nat → State} (h : ∀ t n, (f t n).row = t.row) (l : List Nat) (s : State) :
    (s.each l f).row = s.row := by
  induction l generalizing s with
  | nil => rfl
  | cons n l ih => exact (ih (f s n)).trans (h s n)

/-- A fold of steps none of which changes the state it begins with. -/
theorem State.each_of_fixed {f : State → Nat → State} {s : State} (h : ∀ n, f s n = s) (l : List Nat) : s.each l f = s := by
  induction l with
  | nil => rfl
  | cons n l ih =>
    change (f s n).each l f = s
    rw [h n, ih]

@[simp] theorem State.count_row (s : State) (k w : Nat) (d : Int) : (s.count k w d).row = s.row := rfl

/-- The tick is that of the register `TickNumber`: counting another register leaves it. -/
theorem State.count_tick (s : State) {k : Nat} (w : Nat) (d : Int) (h : Obj.TickNumber ≠ k) : (s.count k w d).tick = s.tick := by
  simp only [State.tick, State.nat, State.count, State.get_put_other s _ h]

/-- Where nothing was written directly since the edge, the values in force are those stored (R51). -/
theorem State.atEdge_of_no_direct_write {s : State} (h : s.oldVals = []) (f : State → State) : s.atEdge f = f s := by
  simp only [State.atEdge, State.rewritten, State.inForce, h, List.map_nil, State.putAll]

/-! ### The start of the next tick (R14, R18, R21, R26) -/

theorem State.edgeTime_get_tickNumber (s : State) (n : Nat) : (s.edgeTime n).get Obj.TickNumber = n := by
  unfold State.edgeTime
  rw [State.get_put_other _ _ (by decide), State.get_put_other _ _ (by decide), State.get_put_same]

theorem State.edgeTime_get_tickEdgeTime (s : State) (n : Nat) : (s.edgeTime n).get Obj.TickEdgeTime = (n * s.tNs : Nat) := by
  unfold State.edgeTime
  rw [State.get_put_other _ _ (by decide), State.get_put_same]

theorem State.edgeTime_get_tickPeriod (s : State) (n : Nat) : (s.edgeTime n).get Obj.TickPeriod = s.get Obj.TickPeriod := by
  unfold State.edgeTime
  rw [State.get_put_other _ _ (by decide), State.get_put_other _ _ (by decide), State.get_put_other _ _ (by decide),
    State.get_put_other _ _ (by decide)]

/-- The registers that an edge clears: the flags of the slots. -/
def isSlotFlags (k : Nat) : Bool := decide (0x500000 ≤ k ∧ k < 0x600000) && k % 256 == 4

theorem isSlotFlags_slotFlags {i : Nat} (h : i < 4096) : isSlotFlags (Obj.SlotFlags i) = true := by
  have hr : 0x500000 ≤ Obj.SlotFlags i ∧ Obj.SlotFlags i < 0x600000 := by unfold Obj.SlotFlags; omega
  have hs : Obj.SlotFlags i % 256 = 4 := by unfold Obj.SlotFlags; omega
  rw [isSlotFlags, decide_eq_true hr, hs]
  rfl

theorem dflt_slotFlags {i : Nat} (h : i < 4096) : Dict.dflt (Obj.SlotFlags i) = 0 := by
  have hi : Obj.SlotFlags i / 256 = 0x5000 + i := by unfold Obj.SlotFlags; omega
  have hs : Obj.SlotFlags i % 256 = 4 := by unfold Obj.SlotFlags; omega
  have hr : 0x5000 ≤ 0x5000 + i ∧ 0x5000 + i < 0x6000 := by omega
  simp [Dict.dflt, hi, hs, hr]

/-- The row's edge clears every slot's flags and no other register. -/
theorem State.rowEdge_get (s : State) (k : Nat) :
    s.rowEdge.get k = if isSlotFlags k then Dict.dflt k else s.get k := by
  have h := Sparse.get_filter_key Dict.dflt (fun k => !isSlotFlags k) s.regs k
  cases e : isSlotFlags k with
  | true => simp only [e, Bool.not_true, Bool.false_eq_true, if_false, if_true] at h ⊢; exact h
  | false => simp only [e, Bool.not_false, Bool.false_eq_true, if_false, if_true] at h ⊢; exact h

theorem State.rowEdge_get_slotFlags (s : State) {i : Nat} (h : i < 4096) : s.rowEdge.get (Obj.SlotFlags i) = 0 := by
  rw [State.rowEdge_get, isSlotFlags_slotFlags h, if_pos rfl, dflt_slotFlags h]

theorem State.rowEdge_tNs (s : State) : s.rowEdge.tNs = s.tNs := by
  have h : s.rowEdge.get Obj.TickPeriod = s.get Obj.TickPeriod := s.rowEdge_get Obj.TickPeriod
  simp only [State.tNs, State.nat, h]

theorem State.edgeTime_tNs (s : State) (n : Nat) : (s.edgeTime n).tNs = s.tNs := by
  simp only [State.tNs, State.nat, State.edgeTime_get_tickPeriod]

/-- The tick that ends at edge `n` when all of it is accounted and sent, just before time reaches the edge. -/
def State.tickEnd (s : State) (n : Nat) : State :=
  let s := if s.row.window then s.cutoff else s
  let s := ({ s with sent := [] } : State).overrunEnd.reactEnd
  let s := ((s.sendSetpoints n).sendCommanded n).exFlush n
  { s with oldVals := [], oldBytes := [] }

/-- The start of tick `n`: time has reached its edge, and the row is new. -/
def State.tickStart (s : State) (n : Nat) : State := ((s.tickEnd n).edgeTime n).rowEdge

theorem State.tickStart_get_tickNumber (s : State) (n : Nat) : (s.tickStart n).get Obj.TickNumber = n :=
  (State.rowEdge_get _ Obj.TickNumber).trans (State.edgeTime_get_tickNumber _ n)

theorem State.tickStart_get_tickEdgeTime (s : State) (n : Nat) :
    (s.tickStart n).get Obj.TickEdgeTime = (n * (s.tickStart n).tNs : Nat) := by
  have h : (s.tickStart n).tNs = (s.tickEnd n).tNs := (State.rowEdge_tNs _).trans (State.edgeTime_tNs _ n)
  rw [h]
  exact (State.rowEdge_get _ Obj.TickEdgeTime).trans (State.edgeTime_get_tickEdgeTime _ n)

/-- Before the latches the tick starts, the weights of the links follow the chain, the row's compare entries are appended, due
commits apply and closure edges end. -/
theorem State.edgeBegin_eq (s : State) (n : Nat) :
    s.edgeBegin n = (((s.tickStart n).weightEdge.each (List.range 8) State.cmpRowEdge).applyDue n
      ((s.tickStart n).weightEdge.each (List.range 8) State.cmpRowEdge).commits.length).closureOver := rfl

theorem exec_tickEdge (g : List (Nat × Int)) (c : List (Nat × Nat)) (s : State) :
    exec (.tickEdge g c) s = .next
      (((((((((((s.edgeBegin (s.tick + 1)).latchAll (s.tick + 1) g).publish).latchHost).stageInputs (s.tick + 1)).compareEnables
        s.inForce).fieldEdge c).motionEdge (s.tick + 1)).spanCountEdge).carrierEdge (s.tick + 1)).edgeFinish (s.tick + 1)) := rfl

/-! ### Inputs and their cut-off (R19, R20) -/

theorem State.arrival_of_later_edge {s : State} {stamp : Nat} (h : s.tick < stamp) : s.arrival stamp = .staged := if_pos h

theorem State.takeInput_of_later_edge {s : State} {stamp : Nat} (h : s.tick < stamp) (feeds : List (Nat × Nat)) :
    s.takeInput stamp feeds =
      { s with row := { s.row with inputs := s.row.inputs ++ feeds.map fun f => (stamp, f.1, f.2) } } := by
  simp only [State.takeInput, State.arrival_of_later_edge h]

theorem exec_inputFrameArrival_of_later_edge {s : State} {stamp : Nat} (o : Nat) (feeds : List (Nat × Nat)) (h : s.tick < stamp) :
    exec (.inputFrameArrival o stamp false feeds) s = .next
      ((({ (s.count Obj.SumInputFrameReceived 64 1).count Obj.SumInputFrameAccepted 64 1 with
          row := { s.row with inputs := s.row.inputs ++ feeds.map fun f => (stamp, f.1, f.2) } } : State).originOnTime o stamp
        (feeds.map fun f => f.1))) := by
  have hr : (s.count Obj.SumInputFrameReceived 64 1).tick < stamp := by rwa [State.count_tick _ _ _ (by decide)]
  have ha : ((s.count Obj.SumInputFrameReceived 64 1).count Obj.SumInputFrameAccepted 64 1).tick < stamp := by
    rwa [State.count_tick _ _ _ (by decide)]
  have hl : (s.count Obj.SumInputFrameReceived 64 1).arrival stamp ≠ .late := by rw [State.arrival_of_later_edge hr]; decide
  change execInputFrameArrival o stamp false feeds s = _
  simp only [execInputFrameArrival, Bool.false_eq_true, if_false, if_neg hl, State.takeInput_of_later_edge ha, State.count_row]

theorem exec_inputCutoff (s : State) : exec .inputCutoff s = .next (if s.row.window then s.cutoff else s) := rfl

theorem State.setOrigin_faultActive (s : State) (n : Nat) (r : OriginRt) (k i : Nat) :
    (s.setOrigin n r).faultActive k i = s.faultActive k i := rfl

theorem State.setOrigin_tick (s : State) (n : Nat) (r : OriginRt) : (s.setOrigin n r).tick = s.tick := rfl

/-- An origin on time begins its late run anew, and what came for edges up to the present one is done with. -/
theorem State.originCutoff_origin_of_onTime {o : Nat} {s : State} (ht : (s.origin o).onTime.contains s.tick = true)
    (hf : s.faultActive fkInputLate o = false) :
    (s.originCutoff o).origin o = { s.origin o with
      lateRun := 0
      lateEdge := 0
      onTime := (s.origin o).onTime.filter fun e => decide (s.tick < e) } := by
  simp only [State.originCutoff, ht, if_true, State.setOrigin_faultActive, hf, Bool.false_eq_true, if_false,
    State.setOrigin_tick, State.setOrigin_origin_same]

/-! ### The start of a stitch (R23, R26, R27) -/

theorem exec_stitchStart_of_primitive {o : Nat} {d : Stitch} {s : State} (hw : s.oldVals = []) (hd : s.stitchByOrder o = some d)
    (hk : d.kind ≠ kindKernel) (hh : (s.core d.core).halted = false) (hs : s.row.stopped.testBit d.core = false)
    (hf : s.row.forcedNow.testBit d.core = false) (hn : (s.stitch o).finished = false) (hb : s.heldBack d = false) :
    exec (.stitchStart o) s = .next ((s.runPrimitive d).setStitch o { (s.runPrimitive d).stitch o with
      finished := true
      stale := (s.runPrimitive d).anyStale d }) := by
  change execStitchStart o s = _
  simp only [execStitchStart, State.atEdge_of_no_direct_write hw, hd, hh, hs, hf, hn, hb, Bool.or_self, Bool.false_eq_true,
    if_false, if_neg hk]

theorem exec_stitchStart_of_heldBack {o : Nat} {d : Stitch} {s : State} (hw : s.oldVals = []) (hd : s.stitchByOrder o = some d)
    (hb : s.heldBack d = true) : exec (.stitchStart o) s = .next s := by
  change execStitchStart o s = _
  simp only [execStitchStart, State.atEdge_of_no_direct_write hw, hd, hb, Bool.or_true, if_true]

/-! ### The end of the row (R30, R34) -/

/-- The measured finish times are registers: measuring them leaves the row. -/
theorem State.measureFinish_row (s : State) : s.measureFinish.row = s.row := State.each_row (by intros; rfl) _ s

theorem State.tickLedger_of_no_overrun {s : State} (h : s.row.stopped = 0) :
    s.tickLedger = (s.count Obj.SumTickStarted 64 1).count Obj.SumTickCompleted 64 1 := by
  simp only [State.tickLedger, State.count_row, h, if_true]

/-- A row end that finds every core finished and none forced stops no core: the tick counts as started and completed. -/
theorem State.overrunCheck_of_all_finished {s : State} (hc : s.row.checked = false) (hf : s.row.forcedNow = 0)
    (hs : s.row.stopped = 0) :
    s.overrunCheck 0 = { (s.measureFinish.count Obj.SumTickStarted 64 1).count Obj.SumTickCompleted 64 1 with
      row := { s.row with checked := true } } := by
  have hrow := s.measureFinish_row
  have hfix := State.each_of_fixed (s := s.measureFinish) (f := fun t c =>
    if t.row.forcedNow.testBit c then t.overrunCore c true else if (0 : Nat).testBit c then t.overrunCore c false else t)
    (fun c => by simp [hrow, hf]) (List.range 8)
  have hled : s.measureFinish.tickLedger = _ := State.tickLedger_of_no_overrun (hrow ▸ hs)
  simp only [State.overrunCheck, hc, Bool.false_eq_true, if_false, hfix, hled, State.count_row, hrow]

theorem State.overrunCheck_of_checked {s : State} (cores : Nat) (h : s.row.checked = true) : s.overrunCheck cores = s := if_pos h

theorem exec_rowOverrun (cores : Nat) (s : State) : exec (.rowOverrun cores) s = .next (s.overrunCheck cores) := rfl

/-! ### A host slot (R28) -/

theorem State.slotWritten_of_accepted {s : State} {slot : Nat} {data : List Byte} (hl : data.length = 8)
    (hs : s.slotStatus slot (leNat data) = 0) :
    s.slotWritten slot data = { s with hostWrites := Sparse.insert slot (leNat data) s.hostWrites, resp := { status := 0 } } := by
  simp only [State.slotWritten, hl, hs, ne_eq, not_true, if_false]
  rfl

theorem exec_slotValueWrite_of_accepted {n slot : Nat} {data : List Byte} {s : State} (hn : s.sessionOk n = true)
    (hr : s.power.recovery = false) (hi : slot < 4096) (hl : data.length = 8) (hs : s.slotStatus slot (leNat data) = 0) :
    exec (.slotValueWrite n slot data) s = .next
      { s with hostWrites := Sparse.insert slot (leNat data) s.hostWrites, resp := { status := 0 } } := by
  change execSlotValueWrite n slot data s = _
  simp only [execSlotValueWrite, hn, hr, Bool.not_true, Bool.false_eq_true, if_false, if_neg (Nat.not_le.2 hi),
    State.slotWritten_of_accepted hl hs]

/-- Settles O3: the state bound at the tick edge is the start of the next tick; every other clause is the law of its command. -/
theorem tickEdgeAndRow : Obligations.TickEdgeAndRow := by
  refine ⟨fun g c s => ?_, fun o _ feeds _ h => ?_, fun s h => ?_, fun s h => ?_, fun _ _ ht hf => ?_,
    fun _ _ _ hw hd hk hh hs hf hn hb => ?_, fun _ _ _ hw hd hb => ?_, fun s hc hf hs => ?_, fun cores s h => ?_,
    fun _ _ _ _ hn hr hi hl hs => ?_⟩
  · exact ⟨s.tickStart (s.tick + 1), _, exec_tickEdge g c s, s.tickStart_get_tickNumber _, s.tickStart_get_tickEdgeTime _,
      fun _ hi => State.rowEdge_get_slotFlags _ hi, rfl, rfl, by rw [State.edgeBegin_eq]⟩
  · exact exec_inputFrameArrival_of_later_edge o feeds h
  · rw [exec_inputCutoff, if_pos h]
  · rw [exec_inputCutoff, h, if_neg Bool.false_ne_true]
  · exact State.originCutoff_origin_of_onTime ht hf
  · exact exec_stitchStart_of_primitive hw hd hk hh hs hf hn hb
  · exact exec_stitchStart_of_heldBack hw hd hb
  · rw [exec_rowOverrun, State.overrunCheck_of_all_finished hc hf hs]
  · rw [exec_rowOverrun, State.overrunCheck_of_checked cores h]
  · exact exec_slotValueWrite_of_accepted hn hr hi hl hs

end Sys2Proof.Machine
end

section
/-! SUPPORT. The bytes of DOMAIN objects and the sessions of the dictionary (spec/02_dictionary.md): what a store leaves, the refusal of
requests whose session is not open, opening and closing, and the controlword of the CiA 402 view. -/

namespace Sys2Proof.Machine

/-! ### Bytes of DOMAIN objects (R48, R49) -/

/-- Bytes that lie apart from those written are unchanged. -/
theorem Memory.readN_writeN_apart (m : List Host.Cell) (a : Nat) (l : List Byte) (c n : Nat) (h : c + n ≤ a ∨ a + l.length ≤ c) :
    Memory.readN (Memory.writeN m a l) c n = Memory.readN m c n := by
  induction n generalizing c with
  | zero => rfl
  | succ n ih =>
    simp only [Memory.readN]
    rw [Memory.read_writeN_other l m a c (by omega), ih (c + 1) (by omega)]

/-- Bytes written are read back. -/
theorem Memory.readN_writeN_same (m : List Host.Cell) (a : Nat) (l : List Byte) :
    Memory.readN (Memory.writeN m a l) a l.length = l := by
  induction l generalizing m a with
  | nil => rfl
  | cons b l ih =>
    simp only [Memory.writeN, List.length_cons, Memory.readN, ih]
    rw [Memory.read_writeN_other l _ (a + 1) a (by omega), Memory.read_write_same]

theorem State.bytes_store_same (s : State) (key offset : Nat) (l : List Byte) :
    (s.store key offset l).bytes key offset l.length = l := Memory.readN_writeN_same ..

/-- Byte strings of two objects lie apart while each ends within 2^32. -/
theorem domAddr_apart {k key o offset n len : Nat} (hk : k ≠ key) (ho : o + n ≤ 4294967296) (hl : offset + len ≤ 4294967296) :
    domAddr k o + n ≤ domAddr key offset ∨ domAddr key offset + len ≤ domAddr k o := by
  unfold domAddr
  omega

theorem State.bytes_store_other_object (s : State) {k key o offset n : Nat} {l : List Byte} (hk : k ≠ key)
    (ho : o + n ≤ 4294967296) (hl : offset + l.length ≤ 4294967296) :
    (s.store key offset l).bytes k o n = s.bytes k o n :=
  Memory.readN_writeN_apart _ _ _ _ _ (domAddr_apart hk ho hl)

theorem State.bytes_store_apart (s : State) (key : Nat) {o offset n : Nat} {l : List Byte}
    (h : o + n ≤ offset ∨ offset + l.length ≤ o) : (s.store key offset l).bytes key o n = s.bytes key o n :=
  Memory.readN_writeN_apart _ _ _ _ _ (by unfold domAddr; omega)

/-- Settles O59: the addresses of two objects' bytes lie apart, and memory keeps every byte apart from those written. -/
theorem bytesOfADomainReadBack : Obligations.BytesOfADomainReadBack := by
  intro key offset l s hl
  exact ⟨s.bytes_store_same key offset l, fun _ _ _ hk ho => s.bytes_store_other_object hk ho hl,
    fun _ _ h => s.bytes_store_apart key h⟩

/-- Settles O57: after reset the registers, the memory and the queue list nothing. -/
theorem resetIsCanonical : Obligations.ResetIsCanonical := by
  have regs : State.reset.regs = [] := rfl
  have mem : State.reset.mem = [] := rfl
  have queue : State.reset.pending = [] := rfl
  refine ⟨⟨?_, ?_⟩, ?_⟩
  · rw [regs]; rfl
  · rw [mem]; rfl
  · rw [State.QueueWf, queue]; rfl

/-! ### Requests that name a session which is not open (R67) -/

section
variable {n : Nat} {s : State} (h : s.sessionOk n = false)
include h

theorem State.resolve_of_not_open (i sub off : Nat) (data : List Byte) : s.resolve n i sub off data = ⟨0x0104, 0, []⟩ := by
  simp [State.resolve, h]

theorem State.commitStatus_of_not_open : s.commitStatus n = 0x0104 := by
  simp [State.commitStatus, h]

theorem exec_dictionaryWrite_of_not_open (i sub off : Nat) (data : List Byte) :
    exec (.dictionaryWrite n i sub off data) s = .next (s.reply 0x0104) := by
  change execDictionaryWrite n i sub off data s = _
  simp [execDictionaryWrite, State.writeObject, State.resolve_of_not_open h, h]

theorem State.readObject_of_not_open (i sub off len : Nat) : s.readObject n i sub off len = s.reply 0x0104 := by
  simp [State.readObject, h]

theorem exec_stageRequest_of_not_open (i sub off : Nat) (data : List Byte) :
    exec (.stageRequest n i sub off data) s = .next (s.reply 0x0104) := by
  change execStageRequest n i sub off data s = _
  simp [execStageRequest, State.stageObject, State.resolve_of_not_open h, h]

theorem exec_slotValueWrite_of_not_open (slot : Nat) (data : List Byte) :
    exec (.slotValueWrite n slot data) s = .next (s.reply 0x0104) := by
  change execSlotValueWrite n slot data s = _
  simp [execSlotValueWrite, h]

theorem exec_stickyClear_of_not_open (i sub ones r : Nat) :
    exec (.stickyClear n i sub ones r) s = .next (s.reply 0x0104) := by
  change execStickyClear n i sub ones r s = _
  simp [execStickyClear, h]

theorem exec_cia402Controlword_of_not_open (w v : Nat) :
    exec (.cia402Controlword n w v) s = .next (s.reply 0x0104) := by
  change execCia402Controlword n w v s = _
  simp [execCia402Controlword, h]

theorem exec_commitCheckOnly_of_not_open : exec (.commitCheckOnly n) s = .next (s.reply 0x0104) := by
  change execCommitCheckOnly n s = _
  simp [execCommitCheckOnly, State.commitStatus_of_not_open h]

theorem exec_commit_of_not_open : exec (.commit n) s = .next (s.reply 0x0104) := by
  change execCommit n s = _
  simp [execCommit, State.commitStatus_of_not_open h]

theorem exec_commitCancel_of_not_open : exec (.commitCancel n) s = .next (s.reply 0x0104) := by
  change execCommitCancel n s = _
  simp [execCommitCancel, State.commitStatus_of_not_open h]

theorem exec_stagedSetDiscard_of_not_open : exec (.stagedSetDiscard n) s = .next (s.reply 0x0104) := by
  change execStagedSetDiscard n s = _
  simp [execStagedSetDiscard, State.commitStatus_of_not_open h]

end

/-! ### Opening and closing sessions (R61, R67, R68) -/

/-- No request of the host asks this device to close the session. -/
def State.NoCloseAsked (s : State) (n : Nat) : Prop :=
  (s.host.reqs.find? fun r => s.ownReq r && r.opcode == 5 && r.session == n) = none

theorem State.NoCloseAsked.find {s : State} {n : Nat} (h : s.NoCloseAsked n) :
    (s.host.reqs.find? fun r => s.ownReq r && r.opcode == 5 && r.session == n && !s.behind r) = none := by
  rw [State.NoCloseAsked, List.find?_eq_none] at h
  rw [List.find?_eq_none]
  intro r hr
  simp [h r hr]

theorem State.endSession_not_open {n : Nat} (s : State) (h : n ≠ 0) : (s.endSession n).sessionOk n = false := by
  simp [State.sessionOk, State.endSession, h]

theorem exec_closeSession_of_open {n : Nat} {s : State} (h0 : n ≠ 0) (ho : s.sessionOk n = true) (hq : s.NoCloseAsked n) :
    exec (.closeSession n) s = .next (s.endSession n).done := by
  change execCloseSession n s = _
  simp [execCloseSession, hq.find, h0, ho]

theorem exec_closeSession_of_asked {n : Nat} {r : HostReq} {s : State} (h0 : n ≠ 0) (ho : s.sessionOk n = true)
    (hq : (s.host.reqs.find? fun r => s.ownReq r && r.opcode == 5 && r.session == n && !s.behind r) = some r) :
    exec (.closeSession n) s = .next ((s.endSession n).done.complete r (s.nat Obj.JzPosition) ⟨0, [], false⟩) := by
  change execCloseSession n s = _
  simp [execCloseSession, hq, h0, ho]

theorem exec_closeSession_of_not_open {n : Nat} {s : State} (h : s.sessionOk n = false) (hq : s.NoCloseAsked n) :
    exec (.closeSession n) s = .next (s.reply 0x0104) := by
  change execCloseSession n s = _
  simp [execCloseSession, hq.find, h]

theorem exec_openSession_below_256 {s : State} (hl : s.sessions.length < 256)
    (hq : (s.host.reqs.find? fun r => s.ownReq r && r.opcode == 4) = none) :
    exec .openSession s = .next (({ s with
      sessions := s.sessions ++ [{ num := s.nextSession 257 s.lastSession }]
      lastSession := s.nextSession 257 s.lastSession } : State).answer (natLE 2 (s.nextSession 257 s.lastSession))) := by
  change execOpenSession s = _
  simp [execOpenSession, hq, Nat.not_le.2 hl]

theorem exec_openSession_at_256 {s : State} (hl : 256 ≤ s.sessions.length)
    (hq : (s.host.reqs.find? fun r => s.ownReq r && r.opcode == 4) = none) :
    exec .openSession s = .next (s.reply 0x0502) := by
  change execOpenSession s = _
  simp [execOpenSession, hq, hl]

theorem exec_sessionIdleTimeout {n : Nat} {s : State} (h : s.natInUse Obj.SessionIdleTimeout ≠ 0) :
    exec (.sessionIdleTimeout n) s = .next (s.endSession n) := by
  change execSessionIdleTimeout n s = _
  simp [execSessionIdleTimeout, h]

/-- Settles O9: a session that is ended is not open, and every request that names such a session is refused. -/
theorem idleSessionIsClosed : Obligations.IdleSessionIsClosed := by
  intro n s h0 ht
  have h := s.endSession_not_open h0
  exact ⟨s.endSession n, exec_sessionIdleTimeout ht, rfl, exec_dictionaryWrite_of_not_open h, State.readObject_of_not_open h,
    exec_closeSession_of_not_open h, exec_stageRequest_of_not_open h, exec_slotValueWrite_of_not_open h,
    exec_stickyClear_of_not_open h, exec_cia402Controlword_of_not_open h, exec_commitCheckOnly_of_not_open h,
    exec_commit_of_not_open h, exec_commitCancel_of_not_open h, exec_stagedSetDiscard_of_not_open h⟩

/-! ### The controlword (R71, R72) -/

theorem exec_cia402Controlword_of_open {n : Nat} {s : State} (w v : Nat) (hn : s.sessionOk n = true)
    (hr : s.power.recovery = false) :
    exec (.cia402Controlword n w v) s = .next (s.controlword (s.viewAxis n (if w = 0 then 0x6040 else 0x6840)) v) := by
  change execCia402Controlword n w v s = _
  simp [execCia402Controlword, hn, hr]

/-- The low three bits of a number that ends in 111. -/
theorem bitAt_of_mod_eight {v : Nat} (h : v % 8 = 7) : bitAt v 0 = true ∧ bitAt v 1 = true ∧ bitAt v 2 = true := by
  simp only [bitAt, Nat.testBit_eq_decide_div_mod_eq, decide_eq_true_eq]
  omega

/-- ENABLE where nothing refuses it brings the axis to Standby. -/
theorem execEnable_of_accepted {a : Nat} {s : State} (h : s.cmdStatus a 1 = 0) :
    execEnable a s = .next ((s.put (Obj.AxisState a) axStandby).done) := by
  simp only [execEnable, h, ne_eq, not_true_eq_false, if_false]

theorem State.controlword_of_disabled_axis {a v : Nat} {s : State} (hv : v % 8 = 7) (ha : s.get (Obj.AxisState a) = axDisabled)
    (hc : s.cmdStatus a 1 = 0) : s.controlword a v = (s.put (Obj.AxisState a) axStandby).done := by
  have hf : axDisabled ≠ axFaulted := by decide
  obtain ⟨b0, b1, b2⟩ := bitAt_of_mod_eight hv
  simp only [State.controlword, ha, b0, b1, b2, hf, if_false, Bool.not_true, Bool.false_eq_true, if_true,
    execEnable_of_accepted hc, after]

/-- Settles O8: each clause is the law of its command. -/
theorem sessionsOpenAndClose : Obligations.SessionsOpenAndClose := by
  refine ⟨fun _ hl hq => exec_openSession_below_256 hl hq, fun _ hl hq => exec_openSession_at_256 hl hq,
    fun _ _ h0 ho hq => exec_closeSession_of_open h0 ho hq, fun _ _ _ h0 ho hq => exec_closeSession_of_asked h0 ho hq,
    fun _ w v _ hn hr => exec_cia402Controlword_of_open w v hn hr, fun _ w v _ hn hr hv ha hc => ?_⟩
  rw [exec_cia402Controlword_of_open w v hn hr, State.controlword_of_disabled_axis hv ha hc]

end Sys2Proof.Machine
end

section
/-! SUPPORT. Direct writes and staging (spec/02_dictionary.md): a subentry that exists and its row, and how its class, its value and the
room of the sets decide a request. -/

namespace Sys2Proof.Machine

/-! ### Subentries that exist (R46, R47) -/

/-- Outside recovery service every object is served (R464). -/
theorem State.served_of_normal {s : State} (h : s.power.recovery = false) (i sub : Nat) : s.served i sub = true := by
  simp [State.served, h]

/-- A subentry outside the CiA 402 view that exists, with its row. -/
structure Dict.Listed (i sub : Nat) (r : Dict.Row) : Prop where
  native : inView i = false
  address : addrStatus i sub = 0
  entry : Dict.rowOf i sub = some r
  row : Dict.row (i * 256 + sub) = some r

theorem State.resolve_of_listed {n i sub : Nat} {r : Dict.Row} {s : State} (hn : s.sessionOk n = true)
    (hr : s.power.recovery = false) (h : Dict.Listed i sub r) (off : Nat) (data : List Byte) :
    s.resolve n i sub off data = ⟨0, i * 256 + sub, data⟩ := by
  simp [State.resolve, hn, State.served_of_normal hr, h.native, h.address, h.entry]

theorem State.writeObject_of_listed {n i sub : Nat} {r : Dict.Row} {s : State} (hn : s.sessionOk n = true)
    (hr : s.power.recovery = false) (h : Dict.Listed i sub r) (off : Nat) (data : List Byte) :
    s.writeObject n i sub off data = s.writeRow n (i * 256 + sub) off data r := by
  simp [State.writeObject, State.resolve_of_listed hn hr h, h.native, h.row]

theorem State.stageObject_of_listed {n i sub : Nat} {r : Dict.Row} {s : State} (h0 : n ≠ 0) (hn : s.sessionOk n = true)
    (hr : s.power.recovery = false) (h : Dict.Listed i sub r) (hd : r.typ ≠ .dom) (off : Nat) (data : List Byte) :
    s.stageObject n i sub off data =
      if s.stageValue n ⟨0, i * 256 + sub, data⟩ off ≠ 0 then s.reply (s.stageValue n ⟨0, i * 256 + sub, data⟩ off)
      else s.stagePut n ⟨i * 256 + sub, off, data⟩ := by
  simp [State.stageObject, State.resolve_of_listed hn hr h, h.native, h0, Staged.domain, h.row, hd]

/-- Only inputs and outputs of the field die can be locked by the safety configuration (R405, R425). -/
theorem State.safetyLocked_of_no_field_object (s : State) {key : Nat} (h : key / 256 < 0x2510 ∨ 0x2538 ≤ key / 256) :
    s.safetyLocked key = false := by
  have input : ¬(0x2510 ≤ key / 256 ∧ key / 256 < 0x2520) := by omega
  have output : ¬(0x2530 ≤ key / 256 ∧ key / 256 < 0x2538) := by omega
  simp only [State.safetyLocked, input, output, if_false]

/-! ### Direct writes (R50, R51) -/

/-- A class that no direct write reaches refuses it (R50). -/
theorem State.writeRow_of_refused_class {n key off : Nat} {data : List Byte} {r : Dict.Row} {s : State}
    (hs : slotValueKey key = false) (hl : s.safetyLocked key = false) (hd : directStatus r.acc ≠ 0) :
    s.writeRow n key off data r = s.reply (directStatus r.acc) := by
  simp only [State.writeRow, hs, hl, Bool.false_eq_true, if_false, if_pos hd]

/-- The row of `TrellisErrorLimit`. -/
def rowTrellisErrorLimit : Dict.Row := ⟨0x2101, 1, 7, 7, 0, 10000, .u32, .rw, 100, .full, false⟩

/-- The row of `TickPeriod` (R13). -/
def rowTickPeriod : Dict.Row := ⟨0x2000, 1, 1, 1, 0, 10000, .u8, .rws, 3, .between 1 6, true⟩

/-- The row of `TickNumber` (R14). -/
def rowTickNumber : Dict.Row := ⟨0x2000, 1, 4, 4, 0, 10000, .u64, .ro, 0, .full, false⟩

theorem listed_trellisErrorLimit : Dict.Listed 0x2101 7 rowTrellisErrorLimit :=
  ⟨by decide, by decide, by decide, by decide⟩

theorem listed_tickPeriod : Dict.Listed 0x2000 1 rowTickPeriod := ⟨by decide, by decide, by decide, by decide⟩

theorem listed_tickNumber : Dict.Listed 0x2000 4 rowTickNumber := ⟨by decide, by decide, by decide, by decide⟩

/-- R49: `TrellisErrorLimit` takes every string of 4 bytes and no other. -/
theorem valueStatus_trellisErrorLimit (data : List Byte) :
    valueStatus Obj.TrellisErrorLimit 0 data rowTrellisErrorLimit = if data.length = 4 then 0 else 0x0205 := by
  by_cases h : data.length = 4
  · simp [valueStatus, rowTrellisErrorLimit, Dict.size, inRange, h]
  · simp [valueStatus, rowTrellisErrorLimit, Dict.size, h]

/-- A direct write of `TrellisErrorLimit` is judged by its value alone. -/
theorem State.writeRow_trellisErrorLimit (s : State) (n : Nat) (data : List Byte) :
    s.writeRow n Obj.TrellisErrorLimit 0 data rowTrellisErrorLimit =
      if data.length = 4 then s.writeRw n Obj.TrellisErrorLimit 0 data rowTrellisErrorLimit else s.reply 0x0205 := by
  have slot : slotValueKey Obj.TrellisErrorLimit = false := by decide
  have unlocked := s.safetyLocked_of_no_field_object (key := Obj.TrellisErrorLimit) (by decide)
  have own : ∀ v, ownStatus Obj.TrellisErrorLimit v = 0 := fun _ => rfl
  have mode : ∀ v, s.virtualOk Obj.TrellisErrorLimit v = true := fun _ => rfl
  have direct : directStatus rowTrellisErrorLimit.acc = 0 := rfl
  have typ : rowTrellisErrorLimit.typ ≠ .record := by decide
  have acc : rowTrellisErrorLimit.acc ≠ .wo := by decide
  have other : Obj.TrellisErrorLimit ≠ Obj.UpdateData := by decide
  by_cases h : data.length = 4
  · simp [State.writeRow, slot, unlocked, direct, other, typ, acc, own, mode, valueStatus_trellisErrorLimit, h]
  · simp [State.writeRow, slot, unlocked, direct, other, typ, valueStatus_trellisErrorLimit, h]

/-- The object is none of those with rules of their own: its value is stored. -/
theorem State.writeRw_trellisErrorLimit (s : State) (n : Nat) (data : List Byte) :
    s.writeRw n Obj.TrellisErrorLimit 0 data rowTrellisErrorLimit = s.writeValue Obj.TrellisErrorLimit (leNat data) := by
  have aux : ∀ t : State, t.auxFits Obj.TrellisErrorLimit = true := by
    intro t
    have none : ∀ n ∈ List.range 16, ∀ j ∈ [0, 1], (Obj.TrellisErrorLimit != Obj.AuxCompare n j) = true := by decide
    simp only [State.auxFits, List.all_eq_true, Bool.or_eq_true]
    exact fun n hn j hj => .inl (none n hn j hj)
  have can : ∀ t : State, t.canFits Obj.TrellisErrorLimit = true := fun _ => rfl
  have held : s.canHeld Obj.TrellisErrorLimit = false := rfl
  have own : sessionRelative Obj.TrellisErrorLimit = false := by decide
  have sticky : stickyMask Obj.TrellisErrorLimit = none := by decide
  have bank : bankOf Obj.TrellisErrorLimit = none := by decide
  have maximum : measuredMax rowTrellisErrorLimit = false := by decide
  have reaction : ¬(0x2701 ≤ Obj.TrellisErrorLimit / 256 ∧ Obj.TrellisErrorLimit / 256 ≤ 0x2733) := by decide
  have select : ¬(0x4800 ≤ Obj.TrellisErrorLimit / 256 ∧ Obj.TrellisErrorLimit / 256 < 0x4900 ∧
    Obj.TrellisErrorLimit = Obj.SpanBankSelect ((Obj.TrellisErrorLimit / 256 - 0x4800) / 0x20)) := by decide
  have typ : rowTrellisErrorLimit.typ ≠ .dom := by decide
  have value : valueOf rowTrellisErrorLimit.typ data = leNat data := rfl
  simp [State.writeRw, own, sticky, maximum, reaction, held, bank, typ, select, aux, can, value]

/-- The first direct write of a tick keeps the value of the latest edge (R51). -/
theorem State.writeValue_trellisErrorLimit {s : State} (h : s.oldVals = []) (v : Int) :
    s.writeValue Obj.TrellisErrorLimit v =
      { s.put Obj.TrellisErrorLimit v with
        oldVals := [(Obj.TrellisErrorLimit, s.get Obj.TrellisErrorLimit)], resp := { status := 0 } } := by
  have first : ¬((Obj.TrellisErrorLimit ∈ [Obj.CanMode 0, Obj.CanMode 1] ∨ (Dict.row Obj.TrellisErrorLimit).isNone) ∨
      ([] : List (Nat × Int)).any (fun p => p.1 == Obj.TrellisErrorLimit) = true) := by decide
  simp only [State.writeValue, h, if_neg first]
  rfl

/-- Settles O4: the write passes every check of its row and is stored; the others fail at the session, the length or the class. -/
theorem directWriteStoresOrChangesNothing : Obligations.DirectWriteStoresOrChangesNothing := by
  have write : ∀ (n : Nat) (data : List Byte) (s : State), s.sessionOk n = true → s.power.recovery = false →
      exec (.dictionaryWrite n 0x2101 7 0 data) s =
        .next (s.writeRow n Obj.TrellisErrorLimit 0 data rowTrellisErrorLimit) := fun n data s hn hr =>
    congrArg _ (State.writeObject_of_listed hn hr listed_trellisErrorLimit 0 data)
  refine ⟨fun n data s hn hr hl ho => ?_, fun n i sub off data s hn => exec_dictionaryWrite_of_not_open hn i sub off data,
    fun n data s hn hr hl => ?_, fun n data s hn hr => ?_, fun n data s hn hr => ?_⟩
  · rw [write n data s hn hr, State.writeRow_trellisErrorLimit, if_pos hl, State.writeRw_trellisErrorLimit,
      State.writeValue_trellisErrorLimit ho]
  · rw [write n data s hn hr, State.writeRow_trellisErrorLimit, if_neg hl]
  · change Host.Outcome.next (s.writeObject n 0x2000 1 0 data) = _
    rw [State.writeObject_of_listed hn hr listed_tickPeriod, State.writeRow_of_refused_class (by decide)
      (s.safetyLocked_of_no_field_object (by decide)) (by decide)]
    rfl
  · change Host.Outcome.next (s.writeObject n 0x2000 4 0 data) = _
    rw [State.writeObject_of_listed hn hr listed_tickNumber, State.writeRow_of_refused_class (by decide)
      (s.safetyLocked_of_no_field_object (by decide)) (by decide)]
    rfl

/-! ### Staging (R54, R55, R56) -/

/-- R50: the class of `TickPeriod` lets it be staged. -/
theorem State.stageClass_tickPeriod (s : State) (n : Nat) : s.stageClass n Obj.TickPeriod rowTickPeriod = 0 := by
  have relative : sessionRelative Obj.TickPeriod = false := by decide
  have slot : slotValueKey Obj.TickPeriod = false := by decide
  have unlocked := s.safetyLocked_of_no_field_object (key := Obj.TickPeriod) (by decide)
  simp [State.stageClass, relative, slot, unlocked, rowTickPeriod, stageStatus]

/-- R13, R64: the codes that a byte of `TickPeriod` may hold. -/
theorem valueStatus_tickPeriod (b : Byte) :
    valueStatus Obj.TickPeriod 0 [b] rowTickPeriod = if b.toNat = 0 then 0x0302 else if 7 ≤ b.toNat then 0x0301 else 0 := by
  have code : valueOf .u8 [b] = (b.toNat : Int) := rfl
  have range : inRange (.between 1 6) (b.toNat : Int) = decide (1 ≤ b.toNat ∧ b.toNat ≤ 6) := by
    simp only [inRange]
    norm_cast
  by_cases h0 : b.toNat = 0
  · simp [valueStatus, rowTickPeriod, Dict.size, code, h0]
  · by_cases h7 : 7 ≤ b.toNat
    · have out : ¬(1 ≤ b.toNat ∧ b.toNat ≤ 6) := by omega
      simp only [valueStatus, rowTickPeriod, Dict.size, code, range, out]
      simp [h0, h7]
    · have hin : 1 ≤ b.toNat ∧ b.toNat ≤ 6 := by omega
      simp only [valueStatus, rowTickPeriod, Dict.size, code, range, hin]
      simp [h0, h7]

theorem State.stageValue_tickPeriod (s : State) (n : Nat) (b : Byte) :
    s.stageValue n ⟨0, Obj.TickPeriod, [b]⟩ 0 = valueStatus Obj.TickPeriod 0 [b] rowTickPeriod := by
  have own : ∀ v, ownStatus Obj.TickPeriod v = 0 := fun _ => rfl
  have other : Obj.TickPeriod ≠ Obj.SafetyParamSet := by decide
  have typ : rowTickPeriod.typ ≠ .dom := by decide
  have row : Dict.row Obj.TickPeriod = some rowTickPeriod := listed_tickPeriod.row
  simp only [State.stageValue, row, s.stageClass_tickPeriod n, own, other, typ, ne_eq, not_true_eq_false, if_false]
  split
  · rfl
  · next h => exact (not_not.1 h).symm

/-- A stage request of `TickPeriod` is judged by its code, then by the room of the sets. -/
theorem exec_stageRequest_tickPeriod {n : Nat} {s : State} (b : Byte) (h0 : n ≠ 0) (hn : s.sessionOk n = true)
    (hr : s.power.recovery = false) :
    exec (.stageRequest n 0x2000 1 0 [b]) s = .next
      (if valueStatus Obj.TickPeriod 0 [b] rowTickPeriod ≠ 0 then s.reply (valueStatus Obj.TickPeriod 0 [b] rowTickPeriod)
       else s.stagePut n ⟨Obj.TickPeriod, 0, [b]⟩) := by
  have judged := State.stageObject_of_listed h0 hn hr listed_tickPeriod (by decide) 0 [b]
  rw [show 0x2000 * 256 + 1 = Obj.TickPeriod from rfl, s.stageValue_tickPeriod] at judged
  exact congrArg _ judged

theorem State.stagePut_with_room {s : State} {n : Nat} {e : Staged} (h : s.stageRoom n e.key = true)
    (he : e.key ≠ Obj.SafetyParamSet) :
    s.stagePut n e = (s.setSession ((s.session n).stage e (s.nat Obj.ConfigGeneration))).done := by
  simp only [State.stagePut, h, Bool.not_true, Bool.false_eq_true, if_false, he]

theorem State.stagePut_without_room {s : State} {n : Nat} {e : Staged} (h : s.stageRoom n e.key = false) :
    s.stagePut n e = s.reply 0x0503 := by
  simp only [State.stagePut, h, Bool.not_false, if_true]

theorem exec_stageRequest_session_zero (i sub off : Nat) (data : List Byte) (s : State) :
    exec (.stageRequest 0 i sub off data) s = .next (s.reply 0x0104) := rfl

/-- Settles O5: the code is judged first, then the room. -/
theorem stageRequestFillsTheSet : Obligations.StageRequestFillsTheSet := by
  have passes : ∀ b : Byte, 1 ≤ b.toNat → b.toNat ≤ 6 → ¬ valueStatus Obj.TickPeriod 0 [b] rowTickPeriod ≠ 0 := by
    intro b h1 h6
    rw [valueStatus_tickPeriod, if_neg (by omega), if_neg (by omega)]
    decide
  have other : Obj.TickPeriod ≠ Obj.SafetyParamSet := by decide
  refine ⟨fun n b s h0 hn hr h1 h6 room => ?_, fun n b s h0 hn hr h1 h6 room => ?_, fun n b s h0 hn hr h7 => ?_,
    fun n s h0 hn hr => ?_, exec_stageRequest_session_zero⟩
  · rw [exec_stageRequest_tickPeriod b h0 hn hr, if_neg (passes b h1 h6), State.stagePut_with_room room other]
    rfl
  · rw [exec_stageRequest_tickPeriod b h0 hn hr, if_neg (passes b h1 h6), State.stagePut_without_room room]
  · have high : valueStatus Obj.TickPeriod 0 [b] rowTickPeriod = 0x0301 := by
      rw [valueStatus_tickPeriod, if_neg (by omega), if_pos h7]
    rw [exec_stageRequest_tickPeriod b h0 hn hr, high, if_pos (by decide)]
  · have zero : valueStatus Obj.TickPeriod 0 [0] rowTickPeriod = 0x0302 := by decide
    rw [exec_stageRequest_tickPeriod 0 h0 hn hr, zero, if_pos (by decide)]

end Sys2Proof.Machine
end

section
/-! SUPPORT. The commit group (spec/02_dictionary.md): the record of a session, and what each command does to it, to the pending
commits and to their counts. -/

namespace Sys2Proof.Machine

/-! ### A session's own record (R56, R67) -/

@[simp] theorem State.session_num (s : State) (n : Nat) : (s.session n).num = n := by
  unfold State.session
  cases h : s.sessions.find? fun x => x.num == n with
  | none => rfl
  | some x => simpa using List.find?_some h

/-- The record put for an open session is the one that the session reads. -/
theorem State.setSession_session {s : State} {n : Nat} {x : Session} (h0 : n ≠ 0) (hn : s.sessionOk n = true) (hx : x.num = n) :
    (s.setSession x).session n = x := by
  subst hx
  have found : (s.sessions.find? fun y => y.num == x.num).isSome = true := by
    rw [List.find?_isSome]
    simpa [State.sessionOk, h0] using hn
  obtain ⟨y, hy⟩ := Option.isSome_iff_exists.1 found
  have num : y.num = x.num := by simpa using List.find?_some hy
  have same : ((fun z : Session => z.num == x.num) ∘ fun z => if z.num = x.num then x else z) = fun z => z.num == x.num := by
    funext z
    by_cases e : z.num = x.num
    · simp [e]
    · simp [e]
  simp only [State.session, State.setSession, List.find?_map, same, hy, Option.map_some, Option.getD_some, num, if_true]

/-- Of two records put for one session the second stands. -/
theorem State.setSession_setSession (s : State) {x y : Session} (h : x.num = y.num) :
    (s.setSession x).setSession y = s.setSession y := by
  have twice : (fun z : Session => if (if z.num = x.num then x else z).num = y.num then y else if z.num = x.num then x else z) =
      fun z => if z.num = y.num then y else z := by
    funext z
    by_cases e : z.num = y.num
    · simp [e, h]
    · simp [e, h]
  simp only [State.setSession, List.map_map, Function.comp_def, twice]

/-- An outcome that follows a change of the session's record stands in that record. -/
theorem State.setSession_outcome {s : State} {n status : Nat} {x y : Session} (h0 : n ≠ 0) (hn : s.sessionOk n = true)
    (hx : x.num = n) (hy : { x with status := status } = y) :
    (s.setSession x).outcome n status = (s.setSession y).reply status := by
  have num : x.num = y.num := by rw [← hy]
  rw [State.outcome, State.setSession_session h0 hn hx, ← State.setSession_setSession s num, ← hy]

/-! ### The commit group (R57 to R61) -/

/-- A commit command is taken up for an open session only (R67). -/
theorem State.open_of_commitStatus {s : State} {n : Nat} (h : s.commitStatus n = 0) : n ≠ 0 ∧ s.sessionOk n = true := by
  unfold State.commitStatus at h
  split at h
  · cases h
  · next hn => exact ⟨fun e => hn (.inl e), by simpa using fun e => hn (.inr e)⟩

/-- The record of a session whose set passed a check. -/
def Session.passed (x : Session) : Session := { x with failObj := 0, failPeer := 0, status := 0 }

/-- The record of a session whose set was taken for an edge. -/
def Session.taken (x : Session) (e : Nat) : Session :=
  { x with staged := [], gen := none, edge := e, failObj := 0, failPeer := 0, unlocked := false, status := 0 }

/-- The record of a session whose set was discarded. -/
def Session.discarded (x : Session) : Session := { x with staged := [], gen := none, status := 0 }

/-- The pending commits become a list, and the generation and the number of them follow (R56). -/
def State.setCommits (s : State) (l : List PCommit) : State :=
  (({ s with commits := l } : State).count Obj.ConfigGeneration 32 1).put Obj.PendingCommits l.length

theorem State.setCommits_get_configGeneration (s : State) (l : List PCommit) :
    (s.setCommits l).get Obj.ConfigGeneration = (s.get Obj.ConfigGeneration + 1) % 4294967296 := by
  rw [State.setCommits, State.get_put_other _ _ (by decide), State.count, State.get_put_same]
  rfl

theorem State.setCommits_get_pendingCommits (s : State) (l : List PCommit) :
    (s.setCommits l).get Obj.PendingCommits = l.length := State.get_put_same ..

theorem State.setCommits_get_other (s : State) (l : List PCommit) {k : Nat} (hg : k ≠ Obj.ConfigGeneration)
    (hp : k ≠ Obj.PendingCommits) : (s.setCommits l).get k = s.get k := by
  rw [State.setCommits, State.get_put_other _ _ hp, State.count, State.get_put_other _ _ hg]
  rfl

theorem State.commitAccepted_eq {s : State} {n e : Nat} {x : Session} (h0 : n ≠ 0) (hn : s.sessionOk n = true) (hx : x.num = n) :
    s.commitAccepted x e = ((s.setCommits (s.commits ++ [⟨n, e, x.staged⟩])).setSession (x.taken e)).reply 0 := by
  subst hx
  exact State.setSession_outcome (s := s.setCommits _) (y := x.taken e) h0 hn rfl rfl

theorem exec_commitCheckOnly_of_passed {n : Nat} {s : State} (h : s.commitStatus n = 0) (hs : (s.session n).staged ≠ [])
    (hf : s.commitFail (s.session n) false = none) :
    exec (.commitCheckOnly n) s = .next ((s.setSession (s.session n).passed).reply 0) := by
  obtain ⟨h0, hn⟩ := State.open_of_commitStatus h
  change execCommitCheckOnly n s = _
  simp only [execCommitCheckOnly, h, ne_eq, not_true_eq_false, if_false, List.isEmpty_iff, hs, hf]
  exact congrArg _ (State.setSession_outcome (x := { s.session n with failObj := 0, failPeer := 0 }) h0 hn (s.session_num n) rfl)

theorem exec_commit_of_passed {n : Nat} {s : State} (h : s.commitStatus n = 0) (hs : (s.session n).staged ≠ [])
    (hf : s.commitFail (s.session n) true = none) (ht : s.timingFail (s.applyEdge (s.session n)) = none) :
    exec (.commit n) s = .next
      (((s.setCommits (s.commits ++ [⟨n, s.applyEdge (s.session n), (s.session n).staged⟩])).setSession
        ((s.session n).taken (s.applyEdge (s.session n)))).reply 0) := by
  obtain ⟨h0, hn⟩ := State.open_of_commitStatus h
  have passed : firstFail [none, none] = none := rfl
  change execCommit n s = _
  simp only [execCommit, h, ne_eq, not_true_eq_false, if_false, List.isEmpty_iff, hs, hf, ht, passed]
  rw [State.commitAccepted_eq h0 hn (s.session_num n)]

theorem exec_commitCancel_of_last {n : Nat} {c : PCommit} {l : List PCommit} {s : State} (h : s.commitStatus n = 0)
    (hc : s.commits = l ++ [c]) (hn : c.session = n) (hl : ∀ x ∈ l, x.session ≠ n) (he : s.tick + 1 < c.edge) :
    exec (.commitCancel n) s = .next ((s.setCommits l).outcome n 0) := by
  have own : (s.commits.find? fun x => x.session == n) = some c := by
    have before : (l.find? fun x => x.session == n) = none := List.find?_eq_none.2 fun x hx => by simpa using hl x hx
    simp [hc, List.find?_append, before, hn]
  have last : s.commits.getLast? = some c := by simp [hc]
  have rest : s.commits.dropLast = l := by simp [hc]
  change execCommitCancel n s = _
  simp only [execCommitCancel, h, own, last, rest, ne_eq, not_true_eq_false, if_false, if_neg (Nat.not_le.2 he)]
  rfl

theorem exec_stagedSetDiscard_of_open {n : Nat} {s : State} (h : s.commitStatus n = 0) :
    exec (.stagedSetDiscard n) s = .next ((s.setSession (s.session n).discarded).reply 0) := by
  obtain ⟨h0, hn⟩ := State.open_of_commitStatus h
  change execStagedSetDiscard n s = _
  simp only [execStagedSetDiscard, h, ne_eq, not_true_eq_false, if_false]
  exact congrArg _ (State.setSession_outcome (x := { s.session n with staged := [], gen := none }) h0 hn (s.session_num n) rfl)

/-- A due commit in front applies, and what is left follows (R59). -/
theorem State.applyDue_of_front {c : PCommit} {rest : List PCommit} {edge : Nat} {s : State} (hc : s.commits = c :: rest)
    (he : c.edge ≤ edge) (fuel : Nat) :
    s.applyDue edge (fuel + 1) =
      ((({ s with commits := rest } : State).applySet c.edge c.changes).put Obj.PendingCommits
        (({ s with commits := rest } : State).applySet c.edge c.changes).commits.length).applyDue edge fuel := by
  have front : (s.commits.find? fun x => decide (x.edge ≤ edge)) = some c := by simp [hc, he]
  have left : s.commits.erase c = rest := by simp [hc]
  simp only [State.applyDue, front, left]

/-- Without a due commit nothing applies. -/
theorem State.applyDue_of_none_due {edge : Nat} {s : State} (h : ∀ c ∈ s.commits, edge < c.edge) (fuel : Nat) :
    s.applyDue edge fuel = s := by
  have none : (s.commits.find? fun x => decide (x.edge ≤ edge)) = none :=
    List.find?_eq_none.2 fun c hc => by simpa using h c hc
  cases fuel with
  | zero => rfl
  | succ fuel => simp only [State.applyDue, none]

theorem exec_commitApply (s : State) : exec .commitApply s = .next (s.applyDue s.tick s.commits.length) := rfl

/-- Settles O6: each clause is the law of its command. -/
theorem commitCommands : Obligations.CommitCommands := by
  refine ⟨fun n s h hs hf => ?_, fun n s h hs hf ht => ?_, fun n c s h hc hl he => ?_, fun n s h => ?_, fun c s hc he => ?_,
    fun s h => ?_, fun c rest s hc he => ?_⟩
  · obtain ⟨h0, hn⟩ := State.open_of_commitStatus h
    have record : (s.setSession (s.session n).passed).session n = (s.session n).passed :=
      State.setSession_session h0 hn (s.session_num n)
    refine ⟨_, exec_commitCheckOnly_of_passed h hs hf, rfl, rfl, rfl, rfl, ?_, ?_⟩
    · exact (congrArg Session.staged record).trans rfl
    · exact (congrArg Session.status record).trans rfl
  · obtain ⟨h0, hn⟩ := State.open_of_commitStatus h
    have record : ((s.setCommits (s.commits ++ [⟨n, s.applyEdge (s.session n), (s.session n).staged⟩])).setSession
        ((s.session n).taken (s.applyEdge (s.session n)))).session n = (s.session n).taken (s.applyEdge (s.session n)) :=
      State.setSession_session h0 hn (s.session_num n)
    exact ⟨_, exec_commit_of_passed h hs hf ht, rfl, rfl, State.setCommits_get_configGeneration s _,
      (State.setCommits_get_pendingCommits s _).trans (by simp), congrArg Session.staged record, congrArg Session.edge record,
      rfl, fun k hg hp => State.setCommits_get_other s _ hg hp⟩
  · refine ⟨_, exec_commitCancel_of_last (l := s.commits) h rfl hc hl he, rfl, rfl, State.setCommits_get_configGeneration _ _,
      State.setCommits_get_pendingCommits _ _, fun k hg hp => State.setCommits_get_other _ _ hg hp⟩
  · rw [exec_stagedSetDiscard_of_open h]
    rfl
  · rw [exec_commitApply, hc, List.length_singleton, State.applyDue_of_front hc he 0, State.applyDue]
  · rw [exec_commitApply, State.applyDue_of_none_due h]
  · rw [exec_commitApply, hc, List.length_cons, State.applyDue_of_front hc he rest.length]

end Sys2Proof.Machine
end

section
/-! SUPPORT. Sticky bits (spec/02_dictionary.md): which bits of a write of ones are asked, which stay, and what a clear leaves. -/

namespace Sys2Proof.Machine

/-! ### Clearing bits of a number -/

/-- Clearing a bit leaves every other bit. -/
theorem clrBitN_testBit (x i j : Nat) : (clrBitN x i).testBit j = (x.testBit j && j != i) := by
  unfold clrBitN
  by_cases hb : x.testBit i = true
  · rw [if_pos hb, Nat.one_shiftLeft]
    have hodd : x / 2 ^ i % 2 = 1 := by simpa [Nat.testBit_eq_decide_div_mod_eq] using hb
    have hr : x % 2 ^ i < 2 ^ i := Nat.mod_lt _ (Nat.two_pow_pos i)
    obtain ⟨q, hq⟩ : ∃ q, x / 2 ^ i = 2 * q + 1 := ⟨x / 2 ^ i / 2, by omega⟩
    have hx : x = 2 ^ i * (2 * q + 1) + x % 2 ^ i := by rw [← hq, Nat.div_add_mod]
    have hc : x - 2 ^ i = 2 ^ i * (2 * q) + x % 2 ^ i := by
      rw [Nat.mul_add, Nat.mul_one] at hx
      omega
    rw [hc, Nat.testBit_two_pow_mul_add _ hr]
    conv_rhs => rw [hx, Nat.testBit_two_pow_mul_add _ hr]
    split
    · next hj => simp [Nat.ne_of_lt hj]
    · next hj =>
      obtain ⟨k, rfl⟩ := Nat.exists_eq_add_of_le (Nat.not_lt.1 hj)
      cases k with
      | zero => simp
      | succ k =>
        have halves : (2 * q + 1) / 2 = 2 * q / 2 := by omega
        simp [Nat.testBit_succ, halves]
  · rw [if_neg hb]
    by_cases hj : j = i
    · simp [hj, hb]
    · simp [hj]

theorem foldl_clrBitN_testBit (l : List Nat) (x j : Nat) :
    (l.foldl clrBitN x).testBit j = (x.testBit j && !l.contains j) := by
  induction l generalizing x with
  | nil => simp
  | cons i l ih => rw [List.foldl_cons, ih, clrBitN_testBit, List.contains_cons, Bool.not_or, Bool.and_assoc, bne]

/-! ### Sticky bits (R65, R66) -/

/-- A register that is no sticky object is none of the sticky objects. -/
theorem ne_of_stickyMask {key k m : Nat} (hm : stickyMask key = some m) (hk : stickyMask k = none) : key ≠ k := by
  rintro rfl
  rw [hk] at hm
  cases hm

/-- The set bits among the lower 64 that a write of ones asks to clear. -/
def State.stickyAsked (s : State) (key ones : Nat) : List Nat :=
  (List.range 64).filter fun b => ones.testBit b && (s.nat key).testBit b

/-- The asked bits that stay, since their condition lasts or recurs. -/
def State.stickyStay (s : State) (key ones recurring : Nat) : List Nat :=
  (s.stickyAsked key ones).filter fun b => s.stickyHeld key b || recurring.testBit b

/-- The register with some of its bits cleared, and what follows if there was one. -/
def State.stickyGone (s : State) (key : Nat) (gone : List Nat) : State :=
  if gone.isEmpty then s.put key (gone.foldl clrBitN (s.nat key) : Nat)
  else (s.put key (gone.foldl clrBitN (s.nat key) : Nat)).stickyAfter key

theorem State.clearSticky_eq (s : State) (key ones r : Nat) :
    s.clearSticky key ones r =
      if (s.stickyStay key ones r).isEmpty then
        (s.stickyGone key ((s.stickyAsked key ones).filter fun b => !(s.stickyStay key ones r).contains b)).done
      else
        (((s.stickyGone key ((s.stickyAsked key ones).filter fun b => !(s.stickyStay key ones r).contains b)).count
          Obj.StickyClearRefused 32 1).put Obj.StickyClearRefusedLast key).reply 0x0702 := rfl

theorem State.mem_stickyAsked {s : State} {key ones b : Nat} :
    b ∈ s.stickyAsked key ones ↔ b < 64 ∧ ones.testBit b = true ∧ (s.nat key).testBit b = true := by
  simp [State.stickyAsked]

theorem State.stickyAsked_zero (s : State) (key : Nat) : s.stickyAsked key 0 = [] := by
  simp [State.stickyAsked]

theorem State.stickyAsked_two_pow {s : State} {key b : Nat} (hb : b < 64) (hs : (s.nat key).testBit b = true) :
    s.stickyAsked key (2 ^ b) = [b] := by
  have asked : ∀ c, ((2 ^ b).testBit c && (s.nat key).testBit c) = (c == b) := by
    intro c
    by_cases e : c = b
    · simp [e, hs]
    · simp [e, Ne.symm e]
  have once : (List.range 64).count b = 1 := List.count_eq_one_of_mem List.nodup_range (List.mem_range.2 hb)
  simp only [State.stickyAsked, asked]
  rw [List.filter_beq, once]
  rfl

/-- No asked bit stays: all are cleared. -/
theorem State.clearSticky_of_none_held {s : State} {key ones r : Nat}
    (h : ∀ b ∈ s.stickyAsked key ones, s.stickyHeld key b = false ∧ r.testBit b = false) :
    s.clearSticky key ones r = (s.stickyGone key (s.stickyAsked key ones)).done := by
  have stay : s.stickyStay key ones r = [] := by
    rw [State.stickyStay, List.filter_eq_nil_iff]
    intro b hb
    simp [h b hb]
  simp [State.clearSticky_eq, stay]

/-- Every asked bit stays: the value does, and the refusal is counted and named. -/
theorem State.clearSticky_of_all_held {s : State} {key ones r : Nat} (hne : s.stickyAsked key ones ≠ [])
    (h : ∀ b ∈ s.stickyAsked key ones, (s.stickyHeld key b || r.testBit b) = true) :
    s.clearSticky key ones r =
      (((s.put key (s.nat key : Nat)).count Obj.StickyClearRefused 32 1).put Obj.StickyClearRefusedLast key).reply 0x0702 := by
  have stay : s.stickyStay key ones r = s.stickyAsked key ones := List.filter_eq_self.2 h
  have gone : ((s.stickyAsked key ones).filter fun b => !(s.stickyAsked key ones).contains b) = [] := by
    rw [List.filter_eq_nil_iff]
    intro b hb
    simp [hb]
  rw [State.clearSticky_eq, stay, gone, if_neg (by simpa using hne)]
  rfl

theorem exec_stickyClear_of_open {n i sub ones r m : Nat} {s : State} (hn : s.sessionOk n = true) (hr : s.power.recovery = false)
    (ha : addrStatus i sub = 0) (hm : stickyMask (i * 256 + sub) = some m) :
    exec (.stickyClear n i sub ones r) s =
      .next (if ones ||| m ≠ m then s.reply 0x0301 else s.clearSticky (i * 256 + sub) ones r) := by
  change execStickyClear n i sub ones r s = _
  simp [execStickyClear, State.served, hn, hr, ha, hm]

theorem stickyMask_cbcCount {n : Nat} (h : n < 16) : stickyMask (Obj.CbcCount n) = none := by
  have all : ∀ n < 16, stickyMask (Obj.CbcCount n) = none := by decide
  exact all n h

theorem State.setActive_get_other {s : State} {k i j : Nat} (v : Bool) (h : j ≠ (activeAt k i).1) :
    (s.setActive k i v).get j = s.get j := by
  unfold State.setActive State.putBit
  split
  · exact State.get_put_other s _ h
  · exact State.get_put_other s _ h

theorem State.tripCleared_get_other {s : State} {n j : Nat} (hc : j ≠ Obj.CbcCount n) (ha : j ≠ (activeAt fkTrip n).1) :
    (s.tripCleared n).get j = s.get j := by
  unfold State.tripCleared
  split
  · rfl
  · rw [State.setActive_get_other false ha, State.get_put_other s _ hc]

theorem State.nerrUpdate_get_other {s : State} {j : Nat} (h : j ≠ Obj.NerrState) : s.nerrUpdate.get j = s.get j := by
  simp only [State.nerrUpdate]
  split
  · exact State.get_put_other s 0 h
  · rfl

/-- What follows a clear writes no sticky object. -/
theorem State.stickyAfter_get_sticky (s : State) (key : Nat) {j m : Nat} (hj : stickyMask j = some m) :
    (s.stickyAfter key).get j = s.get j := by
  have apart : ∀ {k}, stickyMask k = none → j ≠ k := ne_of_stickyMask hj
  simp only [State.stickyAfter]
  split
  · next hi =>
    have hn : (key / 256 - 0x4400) / 0x20 < 16 := by omega
    have ha : activeAt fkTrip ((key / 256 - 0x4400) / 0x20) = (Obj.FaultActive fkTrip, (key / 256 - 0x4400) / 0x20) :=
      if_pos (by omega)
    refine State.tripCleared_get_other (apart (stickyMask_cbcCount hn)) ?_
    have active : stickyMask (Obj.FaultActive fkTrip) = none := by decide
    rw [ha]
    exact apart active
  · split
    · rw [State.nerrUpdate_get_other (apart (by decide)), State.get_put_other s _ (apart (by decide))]
    · rfl

theorem State.stickyGone_nat {s : State} {key m : Nat} (hm : stickyMask key = some m) (gone : List Nat) :
    (s.stickyGone key gone).nat key = gone.foldl clrBitN (s.nat key) := by
  unfold State.stickyGone State.nat
  split
  · simp
  · simp [State.stickyAfter_get_sticky _ key hm]

/-- Settles O7: the asked bits are one bit or none, or several none of which stays. -/
theorem stickyBitsClearOrStay : Obligations.StickyBitsClearOrStay := by
  refine ⟨fun n i sub b m s hn hr ha hm hw hb hs hh => ?_, fun n i sub b m r s hn hr ha hm hw hb hs hh => ?_,
    fun n i sub m r s hn hr ha hm => ?_, fun n i sub ones m r s hn hr ha hm hw hh => ?_,
    fun n i sub ones m r s hn hr ha hm hw => ?_⟩
  · have asked := State.stickyAsked_two_pow hb hs
    rw [exec_stickyClear_of_open hn hr ha hm, if_neg (not_not.2 hw),
      State.clearSticky_of_none_held (by simp [asked, hh]), asked]
    rfl
  · have asked := State.stickyAsked_two_pow hb hs
    have refused : Obj.StickyClearRefused ≠ i * 256 + sub := (ne_of_stickyMask hm (by decide)).symm
    rw [exec_stickyClear_of_open hn hr ha hm, if_neg (not_not.2 hw),
      State.clearSticky_of_all_held (by simp [asked]) (by simpa [asked] using hh)]
    refine ⟨_, rfl, rfl, ?_, ?_⟩
    · rw [State.reply_get, State.get_put_other _ _ (by decide), State.count, State.get_put_same, State.get_put_other _ _ refused]
      rfl
    · rw [State.reply_get, State.get_put_same]
  · have asked := s.stickyAsked_zero (i * 256 + sub)
    rw [exec_stickyClear_of_open hn hr ha hm, if_neg (not_not.2 (Nat.zero_or m)),
      State.clearSticky_of_none_held (by simp [asked]), asked]
    rfl
  · rw [exec_stickyClear_of_open hn hr ha hm, if_neg (not_not.2 hw), State.clearSticky_of_none_held fun b hb => by
      obtain ⟨hl, ho, hs⟩ := State.mem_stickyAsked.1 hb
      exact hh b hl ho hs]
    refine ⟨_, rfl, rfl, fun b hb => ?_⟩
    have kept : (s.stickyGone (i * 256 + sub) (s.stickyAsked (i * 256 + sub) ones)).done.nat (i * 256 + sub) = _ :=
      State.stickyGone_nat hm _
    rw [kept, foldl_clrBitN_testBit]
    cases hs : (s.nat (i * 256 + sub)).testBit b <;> simp [State.mem_stickyAsked, hb, hs]
  · rw [exec_stickyClear_of_open hn hr ha hm, if_pos hw]

end Sys2Proof.Machine
end

section
/-! SUPPORT. The Trellis time base (spec/03_trellis_network.md): the idle step, measurements, holdover, steps of time, pulses and the
queues of time stamps. -/

namespace Sys2Proof.Machine

/-! ### The step (R69, R73) -/

/-- Settles O1: the step matches the queue; idling counts the local counter modulo 2^64. -/
theorem stepRunsTheFrontCommand : Obligations.StepRunsTheFrontCommand :=
  ⟨fun _ _ _ => step_of_front_command rfl, fun _ h => step_of_empty_queue h⟩

/-! ### Shared laws -/

/-- Counting leaves every other register. -/
theorem State.count_get_other (s : State) {k j : Nat} (w : Nat) (d : Int) (h : j ≠ k) : (s.count k w d).get j = s.get j :=
  s.get_put_other _ h

/-- Setting a bit leaves every other register. -/
theorem State.setBit_get_other (s : State) {k j : Nat} (i : Nat) (h : j ≠ k) : (s.setBit k i).get j = s.get j :=
  s.get_put_other _ h

theorem State.setBit_bit_same (s : State) (k i : Nat) : (s.setBit k i).bit k i = true := by
  simp [State.bit, State.nat, State.setBit, setBitN, Nat.testBit_shiftLeft]

/-- An entry put in a table is found at its key. -/
theorem Sparse.lookup_insert_same {α : Type} (k : Nat) (v : α) (l : List (Nat × α)) : (Sparse.insert k v l).lookup k = some v := by
  induction l with
  | nil => simp [Sparse.insert]
  | cons p l ih =>
    obtain ⟨q, w⟩ := p
    unfold Sparse.insert
    split
    · simp
    · split
      · simp
      · next hq => simp [List.lookup_cons, beq_eq_false_iff_ne.2 (Ne.symm hq), ih]

/-! ### Measurements (R77, R78, R79, R80, R84) -/

theorem exec_trellisMeasurement_of_offset {x : TimeSample} {err : Int} {s : State} (settled : Bool) (est : Nat)
    (h : (s.timeOffset x).2 = some err) :
    exec (.trellisMeasurement x settled est) s = .next ((s.timeOffset x).1.measured err settled est) := by
  change execTrellisMeasurement x settled est s = _
  simp only [execTrellisMeasurement, h]

theorem exec_trellisMeasurement_of_none {x : TimeSample} {s : State} (settled : Bool) (est : Nat)
    (h : (s.timeOffset x).2 = none) :
    exec (.trellisMeasurement x settled est) s = .next (s.timeOffset x).1 := by
  change execTrellisMeasurement x settled est s = _
  simp only [execTrellisMeasurement, h]

/-- A valid measurement in state 0 brings state 1 (R78). -/
theorem State.trellisMeasured_of_free_running {s : State} (err : Int) (settled : Bool) (h : s.get Obj.TrellisState = 0) :
    s.trellisMeasured err settled = s.trellisTo 1 := by
  simp [State.trellisMeasured, h]

/-- After a measurement the servo either slews or asks a step (R79, R80). -/
theorem State.measured_slews_or_asks (s : State) (err : Int) (settled : Bool) (est : Nat) :
    let u := ((s.put Obj.TrellisOffsetError (wrapS 64 err)).trellisMeasured err settled).tolerance est
    s.measured err settled est = u.slew ∨ s.measured err settled est = u.askStep false (-(qdiv err 65536)) := by
  simp only [State.measured]
  split
  · exact .inr rfl
  · exact .inl rfl

/-! ### Holdover (R78, R82) -/

/-- Leaving the locked state sets the first status bit and no fault ends (R78). -/
theorem State.trellisTo_of_locked {s : State} {st : Int} (h : s.get Obj.TrellisState = 2) (hst : st ≠ 2) :
    s.trellisTo st = ({ s.put Obj.TrellisState st with trellis := { s.trellis with goodRun := 0 } } : State).setBit
      Obj.TrellisStatus 0 := by
  simp [State.trellisTo, State.setBitIf, h, hst]

theorem exec_holdoverEntry_of_locked {s : State} (h : s.get Obj.TrellisState = 2) :
    exec .holdoverEntry s = .next ((s.trellisTo 3).setBit Obj.TrellisStatus 1) := by
  change execHoldoverEntry s = _
  simp [execHoldoverEntry, h]

theorem exec_holdoverLimitExpiry_of_limit {s : State} (h : s.get Obj.TrellisState = 3) (hl : s.inUse Obj.HoldoverLimit ≠ 0) :
    exec .holdoverLimitExpiry s = .next ((s.setBit Obj.TrellisStatus 2).raiseOnce fkTimeLost 0) := by
  change execHoldoverLimitExpiry s = _
  simp [execHoldoverLimitExpiry, h, hl]

theorem exec_holdoverLimitExpiry_of_no_limit {s : State} (hl : s.inUse Obj.HoldoverLimit = 0) :
    exec .holdoverLimitExpiry s = .next s := by
  change execHoldoverLimitExpiry s = _
  simp [execHoldoverLimitExpiry, hl]

/-! ### Steps of time (R80, R81) -/

/-- A step that the host asked for waits behind the host's earlier ones; a step of the servo is dropped (R80). -/
theorem State.askStep_host (s : State) (by_ : Int) :
    s.askStep true by_ =
      { s with trellis := { s.trellis with steps := (s.trellis.steps.filter fun x => x.1) ++ [(true, by_)] } } := by
  simp [State.askStep]

theorem exec_trellisSetTime_of_allowed {s : State} (time : Nat) (h : s.stepAllowed = true) :
    exec (.trellisSetTime time) s = .next (s.askStep true ((time : Int) - s.now)) := by
  change execTrellisSetTime time s = _
  simp only [execTrellisSetTime, h, if_true]

theorem exec_trellisSetTime_of_not_allowed {s : State} (time : Nat) (h : s.stepAllowed = false) :
    exec (.trellisSetTime time) s = .next (s.reply 0x0701) := by
  change execTrellisSetTime time s = _
  simp only [execTrellisSetTime, h, Bool.false_eq_true, if_false]

theorem exec_timeStep (s : State) : exec .timeStep s =
    .next (({ s with trellis := { s.trellis with steps := [] } } : State).makeSteps 0 s.trellis.steps) := rfl

/-- A step that the servo planned is made where the conditions hold (R80). -/
theorem State.makeSteps_of_servo_allowed {s : State} (by_ : Int) (h : s.stepAllowed = true) :
    s.makeSteps 0 [(false, by_)] = s.makeStep by_ := by
  simp [State.makeSteps, h]

/-- A step that the host asked for is refused where the conditions hold no longer (R80). -/
theorem State.makeSteps_of_host_not_allowed {s : State} (by_ : Int) (h : s.stepAllowed = false) :
    s.makeSteps 0 [(true, by_)] = s.answerLate 1 0x0701 := by
  simp [State.makeSteps, h]

/-- Settles O10: each clause is the law of its command, and a first measurement goes from state 0 to state 1. -/
theorem trellisStates : Obligations.TrellisStates := by
  refine ⟨fun _ settled est _ _ h => exec_trellisMeasurement_of_offset settled est h,
    fun _ settled est _ h => exec_trellisMeasurement_of_none settled est h, fun err settled est s h => ⟨_, rfl, ?_⟩,
    fun _ _ => rfl, fun s h => ?_, fun _ h hl => exec_holdoverLimitExpiry_of_limit h hl,
    fun _ hl => exec_holdoverLimitExpiry_of_no_limit hl, fun time s h => ?_, fun time _ h => exec_trellisSetTime_of_not_allowed time h,
    fun by_ s hs h => ?_, fun by_ s hs h => ?_, exec_timeStep⟩
  · have h0 : (s.put Obj.TrellisOffsetError (wrapS 64 err)).get Obj.TrellisState = 0 := by
      rw [s.get_put_other _ (by decide), h]
    rw [← State.trellisMeasured_of_free_running err settled h0]
    exact s.measured_slews_or_asks err settled est
  · rw [exec_holdoverEntry_of_locked h, State.trellisTo_of_locked h (by decide)]
  · rw [exec_trellisSetTime_of_allowed time h, State.askStep_host]
  · rw [exec_timeStep, hs]
    exact congrArg _ (State.makeSteps_of_servo_allowed by_ h)
  · rw [exec_timeStep, hs]
    exact congrArg _ (State.makeSteps_of_host_not_allowed by_ h)

/-! ### What a step leaves (R74, R81) -/

theorem State.cancelCommits_commits (s : State) : s.cancelCommits.commits = [] := rfl

theorem State.cancelCommits_snap (s : State) : s.cancelCommits.snap = s.snap := rfl

theorem State.cancelCommits_get_pendingCommits (s : State) : s.cancelCommits.get Obj.PendingCommits = 0 :=
  State.get_put_same ..

theorem State.cancelCommits_get_other (s : State) {j : Nat} (hg : j ≠ Obj.ConfigGeneration) (hp : j ≠ Obj.PendingCommits) :
    s.cancelCommits.get j = s.get j := by
  unfold State.cancelCommits
  rw [State.get_put_other _ _ hp, State.count_get_other _ _ _ hg]
  rfl

theorem State.passSnapshots_commits (s : State) (time : Nat) : (s.passSnapshots time).commits = s.commits := by
  simp only [State.passSnapshots]
  split
  · rfl
  · rfl

theorem State.passSnapshots_get_other (s : State) (time : Nat) {j : Nat} (hp : j ≠ Obj.SnapshotPending)
    (hm : j ≠ Obj.SnapshotMissed) : (s.passSnapshots time).get j = s.get j := by
  simp only [State.passSnapshots]
  split
  · rfl
  · rw [State.count_get_other _ _ _ hm]
    exact State.get_put_other _ _ hp

/-- Every snapshot that still waits lies after the time: where none was passed, and where those that were are removed (R81). -/
theorem State.passSnapshots_pending (s : State) (time : Nat) : ∀ x ∈ (s.passSnapshots time).snap.pending, time < x := by
  simp only [State.passSnapshots]
  split
  · next h =>
    have none : (s.snap.pending.filter fun x => decide (x ≤ time)) = [] := List.max?_eq_none_iff.1 h
    intro x hx
    simpa using List.filter_eq_nil_iff.1 none x hx
  · intro x hx
    have kept : x ∈ s.snap.pending.filter fun x => decide (time < x) := hx
    simpa using (List.mem_filter.1 kept).2

/-- Without a recording there is nothing to end (R342). -/
theorem State.acqStop_of_not_running {s : State} (cause : Nat) (h : s.get Obj.AcqState < 1 ∨ 3 < s.get Obj.AcqState) :
    s.acqStop cause = s := by
  have idle : ¬(1 ≤ s.get Obj.AcqState ∧ s.get Obj.AcqState ≤ 3) := by omega
  simp only [State.acqStop, if_neg idle]

/-- Time goes on from a new value at the present counter value. -/
def State.rebased (s : State) (time : Nat) : State :=
  (s.put Obj.TrellisOffset time).put Obj.TrellisBaseCounter (s.get Obj.TrellisCounter)

/-- The tick number and the edge time follow the new time. -/
def State.retimed (s : State) (time : Nat) : State :=
  (s.put Obj.TickNumber (time / s.tNs : Nat)).put Obj.TickEdgeTime (time / s.tNs * s.tNs : Nat)

/-- The time after a step, modulo 2^64. -/
def State.steppedTime (s : State) (by_ : Int) : Nat := (wrapU 64 ((s.now : Int) + by_)).toNat

theorem State.makeStep_eq (s : State) (by_ : Int) :
    s.makeStep by_ = (((((s.rebased (s.steppedTime by_)).retimed (s.steppedTime by_)).cancelCommits.passSnapshots
      (s.steppedTime by_)).acqStop 4).setBit Obj.TrellisStatus 4) := rfl

theorem State.retimed_get_other (s : State) (time : Nat) {j : Nat} (hn : j ≠ Obj.TickNumber) (he : j ≠ Obj.TickEdgeTime) :
    (s.retimed time).get j = s.get j := by
  unfold State.retimed
  rw [State.get_put_other _ _ he, State.get_put_other _ _ hn]

theorem State.rebased_get_other (s : State) (time : Nat) {j : Nat} (ho : j ≠ Obj.TrellisOffset)
    (hb : j ≠ Obj.TrellisBaseCounter) : (s.rebased time).get j = s.get j := by
  unfold State.rebased
  rw [State.get_put_other _ _ hb, State.get_put_other _ _ ho]

/-- Without a recording a step ends with the snapshots it passed and the status bit. -/
theorem State.makeStep_of_no_recording {s : State} (by_ : Int) (h : s.get Obj.AcqState < 1 ∨ 3 < s.get Obj.AcqState) :
    s.makeStep by_ = (((s.rebased (s.steppedTime by_)).retimed (s.steppedTime by_)).cancelCommits.passSnapshots
      (s.steppedTime by_)).setBit Obj.TrellisStatus 4 := by
  rw [State.makeStep_eq, State.acqStop_of_not_running]
  rwa [State.passSnapshots_get_other _ _ (by decide) (by decide), State.cancelCommits_get_other _ (by decide) (by decide),
    State.retimed_get_other _ _ (by decide) (by decide), State.rebased_get_other _ _ (by decide) (by decide)]

/-- What follows the change of the time base leaves it. -/
theorem State.makeStep_get_base {s : State} (by_ : Int) (h : s.get Obj.AcqState < 1 ∨ 3 < s.get Obj.AcqState) {j : Nat}
    (hj : j = Obj.TrellisOffset ∨ j = Obj.TrellisBaseCounter) :
    (s.makeStep by_).get j = (s.rebased (s.steppedTime by_)).get j := by
  have apart : ∀ k ∈ [Obj.TrellisStatus, Obj.SnapshotPending, Obj.SnapshotMissed, Obj.ConfigGeneration, Obj.PendingCommits,
      Obj.TickNumber, Obj.TickEdgeTime], j ≠ k := by
    rcases hj with rfl | rfl
    · decide
    · decide
  rw [State.makeStep_of_no_recording by_ h, State.setBit_get_other _ _ (apart _ (by simp)),
    State.passSnapshots_get_other _ _ (apart _ (by simp)) (apart _ (by simp)),
    State.cancelCommits_get_other _ (apart _ (by simp)) (apart _ (by simp)),
    State.retimed_get_other _ _ (apart _ (by simp)) (apart _ (by simp))]

theorem State.rebased_get_trellisOffset (s : State) (time : Nat) : (s.rebased time).get Obj.TrellisOffset = time := by
  rw [State.rebased, State.get_put_other _ _ (by decide), State.get_put_same]

theorem State.rebased_get_trellisBaseCounter (s : State) (time : Nat) :
    (s.rebased time).get Obj.TrellisBaseCounter = s.get Obj.TrellisCounter := State.get_put_same ..

/-- Settles O11: each value is read from the form that a step has without a recording, and its frames leave the time base. -/
theorem aTimeStep : Obligations.ATimeStep := by
  intro by_ s h
  have step := State.makeStep_of_no_recording by_ h
  refine ⟨?_, ?_, ?_, ?_, ?_, ?_⟩
  · rw [step]
    exact State.passSnapshots_commits _ _
  · rw [step, State.setBit_get_other _ _ (by decide), State.passSnapshots_get_other _ _ (by decide) (by decide),
      State.cancelCommits_get_pendingCommits]
  · rw [State.makeStep_get_base by_ h (.inl rfl), State.rebased_get_trellisOffset]
    rfl
  · rw [State.makeStep_get_base by_ h (.inr rfl), State.rebased_get_trellisBaseCounter]
  · rw [step, State.setBit_bit_same]
  · rw [step]
    exact State.passSnapshots_pending _ _

/-! ### Pulses (R87, R88) -/

theorem exec_ppsInEdge_of_selected {s : State} (d : Int) (hs : s.get Obj.TrellisSource = 2) (he : s.get Obj.PpsInEdge = 1) :
    exec (.ppsInEdge true d) s = .next
      (if s.get Obj.TrellisState = 2 ∧ s.natInUse Obj.PpsInWindow ≠ 0 ∧ s.natInUse Obj.PpsInWindow < d.natAbs then
        s.setBit Obj.TrellisStatus 6
      else s.put Obj.TrellisOffsetError (wrapS 64 (d * 65536))) := by
  change execPpsInEdge true d s = _
  simp [execPpsInEdge, hs, he]

theorem exec_ppsOutPulse_rise {s : State} {time : Int} (hw : s.inUse Obj.PpsOutWidth ≠ 0) (hl : s.trellis.ppsOut = false)
    (ht : s.secondIn (s.inUse Obj.PpsOutOffset) = some time) :
    exec (.ppsOutPulse true) s = .next
      (({ s with trellis := { s.trellis with ppsOut := true } } : State).send sentPpsOut [1, time]) := by
  change execPpsOutPulse true s = _
  simp [execPpsOutPulse, ht, hl, hw, b2i]

theorem exec_ppsOutPulse_fall {s : State} {time : Int} (hh : s.trellis.ppsOut = true)
    (ht : s.secondIn (s.inUse Obj.PpsOutOffset + s.inUse Obj.PpsOutWidth) = some time) :
    exec (.ppsOutPulse false) s = .next
      (({ s with trellis := { s.trellis with ppsOut := false } } : State).send sentPpsOut [0, time]) := by
  change execPpsOutPulse false s = _
  simp [execPpsOutPulse, ht, hh, b2i]

/-- With a width of 0 a low pin neither rises nor falls. -/
theorem exec_ppsOutPulse_of_no_width {s : State} (rise : Bool) (hw : s.inUse Obj.PpsOutWidth = 0)
    (hl : s.trellis.ppsOut = false) : exec (.ppsOutPulse rise) s = .next s := by
  change execPpsOutPulse rise s = _
  simp only [execPpsOutPulse, hw, hl]
  split
  · cases rise
    · rfl
    · rfl
  · rfl

/-- The instant lies a whole second plus `add` from the origin of time, in the tick after the latest edge. -/
theorem State.secondIn_spec {s : State} {add time : Int} (h : s.secondIn add = some time) :
    (time - add) % 1000000000 = 0 ∧ (s.tick * s.tNs : Nat) ≤ time ∧ time < ((s.tick + 1) * s.tNs : Nat) := by
  simp only [State.secondIn] at h
  split at h
  · next hle =>
    cases h
    refine ⟨?_, hle, ?_⟩
    · omega
    · omega
  · cases h

/-- Settles O12: each clause is the law of its pin, and the noted time is the pulse's instant in the tick. -/
theorem pulsesAndTimeStamps : Obligations.PulsesAndTimeStamps := by
  refine ⟨fun d s hs he ht => ?_, fun d s hs he ht hw hd => ?_, fun _ _ hw hl ht => exec_ppsOutPulse_rise hw hl ht,
    fun _ _ hh ht => exec_ppsOutPulse_fall hh ht, fun _ _ _ h => State.secondIn_spec h,
    fun rise _ hw hl => exec_ppsOutPulse_of_no_width rise hw hl⟩
  · rw [exec_ppsInEdge_of_selected d hs he, if_neg fun h => ht h.1]
  · rw [exec_ppsInEdge_of_selected d hs he, if_pos ⟨ht, hw, hd⟩]

/-! ### Queues of time stamps (R84, R85) -/

theorem State.setTsQueue_tsQueue_same (s : State) (p : Nat) (l : List (Nat × Nat × Nat)) : (s.setTsQueue p l).tsQueue p = l := by
  unfold State.tsQueue
  exact congrArg (Option.getD · []) (Sparse.lookup_insert_same p l s.plant.tsQueues)

theorem State.setTsQueue_mem (s : State) (p : Nat) (l : List (Nat × Nat × Nat)) : (s.setTsQueue p l).mem = s.mem := rfl

theorem State.setTsQueue_get_other (s : State) {p j : Nat} (l : List (Nat × Nat × Nat)) (h : j ≠ Obj.TsQueueOccupancy p) :
    (s.setTsQueue p l).get j = s.get j := State.get_put_other _ _ h

theorem exec_tsFrameSent_of_room {p id : Nat} {s : State} (hp : p < 3) (hi : id < 4096) (hr : (s.tsQueue p).length < 64) :
    exec (.tsFrameSent p id) s = .next ((s.count (Obj.TsRequested p) 64 1).setTsQueue p (s.tsQueue p ++
      [(id, (s.now16 + s.nat (Obj.PortEgressLatency p)) / 65536, (s.now16 + s.nat (Obj.PortEgressLatency p)) % 65536)])) := by
  have queue : (s.count (Obj.TsRequested p) 64 1).tsQueue p = s.tsQueue p := rfl
  change execTsFrameSent p id s = _
  simp only [execTsFrameSent, if_neg (Nat.not_le.2 hp), queue, if_pos hr, Nat.mod_eq_of_lt hi]

theorem exec_tsQueueEntryRead_of_entry {p : Nat} {e : Nat × Nat × Nat} {l : List (Nat × Nat × Nat)} {s : State} (hp : p < 3)
    (hq : s.tsQueue p = e :: l) :
    exec (.tsQueueEntryRead p) s = .next (((s.setTsQueue p l).count (Obj.TsDelivered p) 64 1).answer (tsBytes p e)) := by
  change execTsQueueEntryRead p s = _
  simp only [execTsQueueEntryRead, if_neg (Nat.not_le.2 hp), hq]

theorem exec_tsQueueEntryRead_of_empty {p : Nat} {s : State} (hp : p < 3) (hq : s.tsQueue p = []) :
    exec (.tsQueueEntryRead p) s = .next (s.answer (List.replicate 16 0)) := by
  change execTsQueueEntryRead p s = _
  simp only [execTsQueueEntryRead, if_neg (Nat.not_le.2 hp), hq]

/-- Settles O13: each clause is the law of its command, and a queue that is replaced is read back. -/
theorem timeStampQueue : Obligations.TimeStampQueue := by
  refine ⟨fun p id s hp hi hr => ⟨_, exec_tsFrameSent_of_room hp hi hr, State.setTsQueue_tsQueue_same _ _ _,
      State.setTsQueue_mem _ _ _, fun k hq ho => ?_⟩,
    fun p id time frac l s hp hq => ⟨_, exec_tsQueueEntryRead_of_entry hp hq, ?_, rfl⟩,
    fun _ _ hp hq => exec_tsQueueEntryRead_of_empty hp hq⟩
  · rw [State.setTsQueue_get_other _ _ ho, State.count_get_other _ _ _ hq]
  · exact s.setTsQueue_tsQueue_same p l

end Sys2Proof.Machine
end

section
/-! SUPPORT. The plant network (spec/03_trellis_network.md): announces and partners, gate lists, the ring, frames and masters. -/

namespace Sys2Proof.Machine

/-! ### Frames that leave (R92, R96) -/

theorem State.sendFrame_in_conflict {s : State} {kind : Nat} (hc : s.plant.conflict = true) (hk : kind ≠ 6) (b : Bool)
    (dest stamp count length : Nat) (records : List Int) : s.sendFrame kind b dest stamp count length records = s := by
  simp [State.sendFrame, hc, hk]

/-- Outside a conflict, and for an announce in one, the frame leaves once where nothing is replicated. -/
theorem State.sendFrame_once {s : State} {kind : Nat} (hc : s.plant.conflict = false ∨ kind = 6)
    (hf : s.flag Obj.FrerEnable = false) (b : Bool) (dest stamp count length : Nat) (records : List Int) :
    s.sendFrame kind b dest stamp count length records = { s with
      plant := { s.plant with
        seqs := Sparse.insert kind (((s.plant.seqs.lookup kind).getD 0 + 1) % 65536) s.plant.seqs }
      sent := s.sent ++ [⟨kind, [3, s.get Obj.PlantVlanId, s.get Obj.PlantPcp, -1, s.get Obj.PlantEtherType,
        ((if b then 1 else 0) + (if s.get Obj.TrellisState = 2 then 0 else 4) : Nat), dest, s.get Obj.PlantAddress,
        ((s.plant.seqs.lookup kind).getD 0 : Nat), stamp, count, length] ++ records⟩] } := by
  have leaves : (s.plant.conflict && kind != 6) = false := by
    rcases hc with hc | hk
    · rw [hc, Bool.false_and]
    · simp [hk]
  have single : ∀ r : PlantRt, ({ s with plant := r } : State).flag Obj.FrerEnable = false := fun _ => hf
  simp only [State.sendFrame, leaves, single, Bool.false_eq_true, if_false]

/-! ### Announces and partners (R94, R95, R96) -/

theorem exec_announceSend (s : State) : exec .announceSend s = .next
    (if s.inUse Obj.AnnounceInterval = 0 then s
     else s.sendFrame sentAnnounce true 0 s.now 1 10 [s.get Obj.PlantAddress, s.get Obj.SerialNumber, s.get Obj.TickPeriod,
       s.get Obj.NetworkCycleTicks, s.get Obj.DeviceState]) := rfl

theorem exec_announceReceive_of_unknown {addr : Nat} {s : State} (serial : Nat) (nl : Bool) (ha : addr ≠ s.nat Obj.PlantAddress)
    (hp : s.plant.partners.any (fun p => p.addr == addr) = false) (hl : s.plant.partners.length < 256) :
    exec (.announceReceive addr serial nl) s = .next (s.setPartners (s.plant.partners ++
      [{ addr := addr, lost := false, configured := s.namesPartner addr, notLocked := nl, serial := serial, time := s.now }])) := by
  change execAnnounceReceive addr serial nl s = _
  simp only [execAnnounceReceive, if_neg ha, hp, Bool.false_eq_true, if_false, if_pos hl]

theorem exec_announceReceive_of_own_address {serial : Nat} {s : State} (nl : Bool) (hs : serial ≠ s.nat Obj.SerialNumber)
    (hc : s.plant.conflict = false) :
    exec (.announceReceive (s.nat Obj.PlantAddress) serial nl) s = .next
      ((({ s with plant := { s.plant with conflict := true } } : State).setBit Obj.PlantStatus 0).raiseOnce fkAddress 0) := by
  change execAnnounceReceive (s.nat Obj.PlantAddress) serial nl s = _
  simp only [execAnnounceReceive, if_true, hs, hc, Bool.false_eq_true, or_self, if_false]

theorem exec_partnerLost_of_missing {addr missed : Nat} {s : State} (h1 : 1 ≤ missed)
    (hm : s.natInUse Obj.PartnerLossCount ≤ missed)
    (hp : s.plant.partners.any (fun p => p.addr == addr && !p.lost) = true) :
    exec (.partnerLost addr missed) s = .next
      ((s.setPartners (s.plant.partners.map fun p => if p.addr = addr then { p with lost := true } else p)).setBit
        Obj.PlantStatus 1) := by
  change execPartnerLost addr missed s = _
  simp only [execPartnerLost, if_pos (And.intro (Nat.max_le.2 ⟨h1, hm⟩) hp)]

/-! ### Gate lists and the ring (R99, R100, R102) -/

/-- The committed gate list of a port, in force. -/
def State.gateCommitted (s : State) (p : Nat) : GateRt :=
  { enable := s.flag (Obj.GateEnable p), cycle := s.nat (Obj.GateCycleTime p), base := s.nat (Obj.GateBaseTime p),
    entries := s.gateEntries p }

theorem exec_gateListSwitch_of_due {p : Nat} {g : GateRt} {s : State} (hg : s.plant.gates.lookup p = some g)
    (hp : g.pending = true) (hs : s.gateStart p g.since < (s.tick + 1) * s.tNs) :
    exec (.gateListSwitch p) s = .next
      { s with plant := { s.plant with gates := Sparse.insert p (s.gateCommitted p) s.plant.gates } } := by
  change execGateListSwitch p s = _
  simp only [execGateListSwitch, hg, if_pos (And.intro hp hs)]
  rfl

theorem exec_ringPathLost_of_period {p : Nat} {s : State} (hp : p < 2) (he : s.flag Obj.FrerEnable = true)
    (hl : s.inUse Obj.FrerLatentPeriod ≠ 0) :
    exec (.ringPathLost p) s = .next ((s.setBit Obj.PlantStatus 2).raiseOnce fkRingLost p) := by
  change execRingPathLost p s = _
  simp only [execRingPathLost, if_pos (And.intro he (And.intro hl hp))]

theorem exec_ringPathLost_of_no_period {s : State} (p : Nat) (hl : s.inUse Obj.FrerLatentPeriod = 0) :
    exec (.ringPathLost p) s = .next s := by
  change execRingPathLost p s = _
  simp [execRingPathLost, hl]

theorem exec_frerResetTimeExpiry_of_time {s : State} (x : Nat) (h : s.inUse Obj.FrerResetTime ≠ 0) :
    exec (.frerResetTimeExpiry x) s = .next
      { s with plant := { s.plant with streams := s.plant.streams.filter fun y => y.1 != x } } := by
  change execFrerResetTimeExpiry x s = _
  simp only [execFrerResetTimeExpiry, if_neg h]

/-- Settles O14: each clause is the law of its command. -/
theorem plantDiscovery : Obligations.PlantDiscovery := by
  refine ⟨fun s h => ?_, fun kind dest stamp count length seq b records s hc hf hs => ?_,
    fun _ dest stamp count length b records _ hc hk => State.sendFrame_in_conflict hc hk b dest stamp count length records,
    fun s h => ?_, fun _ serial nl _ ha hp hl => exec_announceReceive_of_unknown serial nl ha hp hl,
    fun _ nl _ hs hc => exec_announceReceive_of_own_address nl hs hc,
    fun _ _ _ h1 hm hp => exec_partnerLost_of_missing h1 hm hp, fun p g n s hg hp hs hn => ?_,
    fun _ _ hp he hl => exec_ringPathLost_of_period hp he hl, fun p _ hl => exec_ringPathLost_of_no_period p hl,
    fun x _ h => exec_frerResetTimeExpiry_of_time x h⟩
  · rw [exec_announceSend, if_neg h]
  · rw [hs, State.sendFrame_once hc hf]
  · rw [exec_announceSend, if_pos h]
  · rw [hn, exec_gateListSwitch_of_due hg hp hs]
    rfl

/-! ### Frames that come (R92, R93, R97) -/

theorem bitAt_zero_of_even {n : Nat} (h : n % 2 = 0) : bitAt n 0 = false := by
  simp [bitAt, h]

/-- A unicast frame of another device that is not replicated is sent on, rejected or taken. -/
theorem exec_plantFrameReceive_of_unicast {f : PlantFrame} {s : State} (hs : f.source ≠ s.nat Obj.PlantAddress)
    (hr : f.redundancy = none) (hu : f.flags % 2 = 0) :
    exec (.plantFrameReceive f) s = .next
      (if f.dest ≠ s.nat Obj.PlantAddress then s.relay f
       else if frameBad f then (s.inputCount Obj.SumInputFrameRejected).setBit Obj.PlantStatus 3
       else s.frameTake f) := by
  have kept : Frer.passed ≠ Frer.duplicate ∧ Frer.passed ≠ Frer.rogue := by decide
  obtain ⟨notDuplicate, notRogue⟩ := kept
  change execPlantFrameReceive f s = _
  simp only [execPlantFrameReceive, if_neg hs, hr, bitAt_zero_of_even hu, Option.isSome_none, Bool.false_eq_true, if_false,
    if_neg notDuplicate, if_neg notRogue, Bool.or_false]
  by_cases hd : f.dest = s.nat Obj.PlantAddress
  · simp [hd]
  · simp [hd]

theorem exec_plantFrameReceive_of_own {f : PlantFrame} {s : State} (h : f.source = s.nat Obj.PlantAddress) :
    exec (.plantFrameReceive f) s = .next s := by
  change execPlantFrameReceive f s = _
  simp only [execPlantFrameReceive, if_pos h]

/-- A setpoint frame only counts, with records or without (log entry 47). -/
theorem State.frameTake_of_setpoints (s : State) {f : PlantFrame} (hk : f.kind = 2) :
    s.frameTake f = s.inputCount Obj.SumInputFrameAccepted := by
  simp [State.frameTake, hk]

theorem State.scheduleFrame_of_accepted {s : State} {time : Nat} (h : s.scheduleStatus time = 0) :
    s.scheduleFrame time = (s.inputCount Obj.SumInputFrameAccepted).schedule time := by
  simp only [State.scheduleFrame, h, if_true]

theorem State.frameTake_of_schedule {s : State} {f : PlantFrame} (hk : f.kind = 7) (hc : f.count ≠ 0)
    (hs : s.scheduleStatus f.stamp = 0) :
    s.frameTake f = (s.inputCount Obj.SumInputFrameAccepted).schedule f.stamp := by
  simp only [State.frameTake, if_neg hc, if_pos hk, State.scheduleFrame_of_accepted hs]

/-- Settles O15: a unicast frame is sent on or taken, and its type says what taking it does. -/
theorem plantFrames : Obligations.PlantFrames := by
  refine ⟨fun _ _ h => exec_plantFrameReceive_of_own h, fun f s hs hr hd hu => ?_, fun f s hs hr hd hu hb => ?_,
    fun f s hs hr hd hu hb hk => ?_, fun f s hs hr hd hu hb hk hc ht => ?_⟩
  · rw [exec_plantFrameReceive_of_unicast hs hr hu, if_pos hd]
    rfl
  · rw [exec_plantFrameReceive_of_unicast hs hr hu, if_neg (not_not.2 hd), if_pos hb]
    rfl
  · rw [exec_plantFrameReceive_of_unicast hs hr hu, if_neg (not_not.2 hd), hb, if_neg Bool.false_ne_true,
      State.frameTake_of_setpoints s hk]
    rfl
  · rw [exec_plantFrameReceive_of_unicast hs hr hu, if_neg (not_not.2 hd), hb, if_neg Bool.false_ne_true,
      State.frameTake_of_schedule hk hc ht]
    rfl

/-! ### Masters (R103, R104, R105, R163) -/

theorem State.sendFrame_regs (s : State) (kind : Nat) (b : Bool) (dest stamp count length : Nat) (records : List Int) :
    (s.sendFrame kind b dest stamp count length records).regs = s.regs := by
  unfold State.sendFrame
  split
  · rfl
  · rfl

/-- Whether a published master is measured is said by registers alone. -/
theorem State.masterMeasured_of_regs {s t : State} (h : t.regs = s.regs) (j : Nat) : t.masterMeasured j = s.masterMeasured j := by
  simp only [State.masterMeasured, State.nat, State.get, h]

/-- What the row of a state sends for one published entry, after what it sent for others (R104). -/
def State.publishEntry (s : State) (measured : Bool) (t : State) (j : Nat) : State :=
  if measured then
    (if s.tick % s.nat Obj.NetworkCycleTicks = 0 then t.sendMaster true j s.tick (s.tick / s.nat Obj.NetworkCycleTicks) else t)
  else if (s.tick + 1) % s.nat Obj.NetworkCycleTicks = 0 then
    t.sendMaster true j (s.tick + 1) ((s.tick + 1) / s.nat Obj.NetworkCycleTicks)
  else t

theorem State.publishEntry_regs (s : State) (measured : Bool) (t : State) (j : Nat) :
    (s.publishEntry measured t j).regs = t.regs := by
  have sent : ∀ edge cycle, (t.sendMaster true j edge cycle).regs = t.regs := fun _ _ => t.sendFrame_regs ..
  simp only [State.publishEntry, apply_ite State.regs, sent, ite_self]

/-- Sending leaves the registers, so that what was published before an entry does not matter for what it is. -/
theorem State.each_publishEntry (s : State) (l : List Nat) {t : State} (h : t.regs = s.regs) :
    (t.each l fun t j => s.publishEntry (t.masterMeasured j) t j) =
      t.each l fun t j => s.publishEntry (s.masterMeasured j) t j := by
  induction l generalizing t with
  | nil => rfl
  | cons j l ih =>
    change (s.publishEntry (t.masterMeasured j) t j).each l _ = (s.publishEntry (s.masterMeasured j) t j).each l _
    rw [State.masterMeasured_of_regs h j]
    exact ih ((s.publishEntry_regs _ t j).trans h)

theorem exec_masterPublish (s : State) :
    exec .masterPublish s = .next (s.each s.masterEntries fun t j => s.publishEntry (s.masterMeasured j) t j) :=
  congrArg _ (s.each_publishEntry s.masterEntries rfl)

/-- Without a published entry nothing is sent. -/
theorem exec_masterPublish_of_no_entry {s : State} (h : s.masterEntries = []) : exec .masterPublish s = .next s := by
  rw [exec_masterPublish, h]
  rfl

theorem State.setBitIf_graft (s : State) (c : Bool) (k i n : Nat) : (s.setBitIf c k i).graft n = s.graft n := by
  unfold State.setBitIf
  split
  · rfl
  · rfl

theorem State.setActive_graft (s : State) (k i : Nat) (v : Bool) (n : Nat) : (s.setActive k i v).graft n = s.graft n := by
  unfold State.setActive State.putBit
  split
  · rfl
  · rfl

/-- Of the grafts' own state a sample changes what waits for its graft (R160, R163). -/
theorem State.masterSample_graft (s : State) (x : MasterSample) (k n : Nat) :
    (s.masterSample x k).graft n =
      (s.setGraft k { s.graft k with next := some x, nextEarlier := (s.graft k).next }).graft n := by
  simp only [State.masterSample, State.put_graft]
  split
  · rw [State.setActive_graft, State.setBitIf_graft, State.put_graft]
  · rw [State.setBitIf_graft, State.put_graft]

theorem State.masterSample_remoteMasterState (s : State) (x : MasterSample) (k : Nat) :
    (s.masterSample x k).get (Obj.RemoteMasterState k) = 2 := State.get_put_same ..

theorem State.sampleLate_eq_true {s : State} {x : MasterSample} (h : x.time + s.nat Obj.NetworkCycleTicks * s.tNs ≤ s.now) :
    s.sampleLate x = true := decide_eq_true h

theorem State.sampleLate_eq_false {s : State} {x : MasterSample} (h : s.now < x.time + s.nat Obj.NetworkCycleTicks * s.tNs) :
    s.sampleLate x = false := decide_eq_false (Nat.not_le.2 h)

theorem exec_masterSampleReceive (plant : Bool) (src : Nat) (x : MasterSample) (s : State) :
    exec (.masterSampleReceive plant src x) s = .next (s.sampleTake plant src x) := rfl

/-- Settles O16: the clauses are the laws of publishing, and of a sample that is new, old or late. -/
theorem masterSamples : Obligations.MasterSamples := by
  refine ⟨fun c s hc => ?_, fun _ h => exec_masterPublish_of_no_entry h, fun plant src x s hl ho => ?_,
    fun k x s _ => ⟨?_, ?_, s.masterSample_remoteMasterState x k, fun j hj => ?_⟩, fun plant src x s hl ho => ?_,
    fun plant src x s hl => ?_⟩
  · rw [hc, exec_masterPublish]
    rfl
  · rw [exec_masterSampleReceive, State.sampleTake, State.sampleLate_eq_false hl, ho, if_neg Bool.false_ne_true,
      if_neg Bool.false_ne_true]
    rfl
  · rw [State.masterSample_graft, State.setGraft_graft_same]
  · rw [State.masterSample_graft, State.setGraft_graft_same]
  · rw [State.masterSample_graft, State.setGraft_graft_other _ _ hj]
  · rw [exec_masterSampleReceive, State.sampleTake, State.sampleLate_eq_false hl, ho, if_neg Bool.false_ne_true, if_pos rfl]
    rfl
  · rw [exec_masterSampleReceive, State.sampleTake, State.sampleLate_eq_true hl, if_pos rfl]
    rfl

end Sys2Proof.Machine
end

section
/-! SUPPORT. Scheduled snapshots (spec/03_trellis_network.md): which times are scheduled, what an edge takes, and what completing a
snapshot leaves. -/

namespace Sys2Proof.Machine

/-! ### Scheduling (R106) -/

theorem State.scheduleStatus_of_not_multiple (s : State) {time : Nat} (h : time % 1000000 ≠ 0) :
    s.scheduleStatus time = 0x0301 := if_pos h

/-- A multiple of 1 ms that does not wait yet is judged by its distance, then by the room. -/
theorem State.scheduleStatus_of_new {s : State} {time : Nat} (hm : time % 1000000 = 0)
    (hp : s.snap.pending.contains time = false) :
    s.scheduleStatus time =
      if time ≤ s.now + 2 * s.tNs then 0x0601 else if 4 ≤ s.snap.pending.length then 0x0501 else 0 := by
  simp only [State.scheduleStatus, hm, hp, ne_eq, not_true_eq_false, if_false, Bool.false_eq_true]

theorem exec_snapshotScheduleTime_of_refused {s : State} {time : Nat} (h : s.scheduleStatus time ≠ 0) :
    exec (.snapshotScheduleTime time) s = .next (s.reply (s.scheduleStatus time)) := by
  change execSnapshotScheduleTime time s = _
  simp only [execSnapshotScheduleTime, if_pos h]

theorem exec_snapshotScheduleTime_of_new {s : State} {time : Nat} (h : s.scheduleStatus time = 0)
    (hp : s.snap.pending.contains time = false) :
    exec (.snapshotScheduleTime time) s = .next (s.setSnapPending (s.snap.pending ++ [time])).done := by
  change execSnapshotScheduleTime time s = _
  simp only [execSnapshotScheduleTime, State.schedule, h, hp, ne_eq, not_true_eq_false, if_false, Bool.false_eq_true]

theorem exec_snapshotScheduleFrame (time : Nat) (s : State) :
    exec (.snapshotScheduleFrame time) s = .next (s.scheduleFrame time) := rfl

/-! ### Taking and completing (R44, R107) -/

theorem exec_snapshotTake_of_pending {s : State} (hn : s.snap.passed = none)
    (hp : s.snap.pending.contains (s.nat Obj.TickEdgeTime) = true) :
    exec .snapshotTake s = .next ((s.setSnapPending (s.snap.pending.filter fun y => y != s.nat Obj.TickEdgeTime)).takeSnap
      (s.nat Obj.TickEdgeTime) false) := by
  change execSnapshotTake s = _
  simp only [execSnapshotTake, hn, if_pos hp]

theorem exec_snapshotTake_of_period {s : State} (hn : s.snap.passed = none)
    (hp : s.snap.pending.contains (s.nat Obj.TickEdgeTime) = false) (h0 : s.natInUse Obj.SnapshotPeriod * 1000000 ≠ 0)
    (hm : s.nat Obj.TickEdgeTime % (s.natInUse Obj.SnapshotPeriod * 1000000) = 0) :
    exec .snapshotTake s = .next (s.takeSnap (s.nat Obj.TickEdgeTime) false) := by
  change execSnapshotTake s = _
  simp only [execSnapshotTake, hn, hp, Bool.false_eq_true, if_false, if_pos (And.intro h0 hm)]

/-- The snapshot taken has the time of its edge, whether or not another one was still open. -/
theorem State.takeSnap_current (s : State) (time : Nat) (stepped : Bool) :
    ∃ x, (s.takeSnap time stepped).snap.current = some x ∧ x.time = time := ⟨_, rfl, rfl⟩

theorem State.takeSnap_pending (s : State) (time : Nat) (stepped : Bool) :
    (s.takeSnap time stepped).snap.pending = s.snap.pending := by
  simp only [State.takeSnap]
  split
  · rfl
  · rfl

/-- A snapshot that is complete becomes the last one, with its time, number and flags. -/
def State.snapPublished (s : State) (c : Snap) : State :=
  (({ s with snap := { s.snap with current := none, last := some c } } : State).put Obj.SnapshotLastTime c.time).put
    Obj.SnapshotLastNumber (c.time / 1000000 % 4294967296 : Nat) |>.put Obj.SnapshotFlags c.flags

theorem State.snapPublished_ledgerImbalance (s : State) (c : Snap) :
    (s.snapPublished c).nat Obj.LedgerImbalance = s.nat Obj.LedgerImbalance := by
  unfold State.snapPublished State.nat
  rw [State.get_put_other _ _ (by decide), State.get_put_other _ _ (by decide), State.get_put_other _ _ (by decide)]
  rfl

/-- The equations that fail in a snapshot are noted, and each raises its fault. -/
theorem exec_snapshotComplete_of_current {s : State} {c : Snap} (h : s.snap.current = some c) :
    exec .snapshotComplete s = .next
      (((s.snapPublished c).put Obj.LedgerImbalance (s.nat Obj.LedgerImbalance ||| c.bad : Nat)).each
        ((List.range 16).filter fun i => c.bad.testBit i) fun s i => s.raise fkLedger i) := by
  rw [← State.snapPublished_ledgerImbalance s c]
  change execSnapshotComplete s = _
  simp only [execSnapshotComplete, h]
  rfl

/-- Settles O17: a new time is judged by its distance and the room; an edge takes what waits for it or what the period asks;
a snapshot without a failing equation raises nothing. -/
theorem scheduledSnapshots : Obligations.ScheduledSnapshots := by
  refine ⟨fun time s hm hp ht hl => ?_, fun time s hm => ?_, fun time s hm hp ht => ?_, fun time s h => ?_,
    fun s hn hp hc => ?_, fun period s hn hp he h0 hm => ?_, fun x u c hc hu => ?_, fun x s hc hb => ?_⟩
  · have accepted : s.scheduleStatus time = 0 := by
      rw [State.scheduleStatus_of_new hm hp, if_neg (Nat.not_le.2 ht), if_neg (Nat.not_le.2 hl)]
    rw [exec_snapshotScheduleTime_of_new accepted hp, State.setSnapPending, List.length_append, List.length_singleton]
    rfl
  · have refused := s.scheduleStatus_of_not_multiple hm
    rw [exec_snapshotScheduleTime_of_refused (by rw [refused]; decide), refused]
  · have refused : s.scheduleStatus time = 0x0601 := by rw [State.scheduleStatus_of_new hm hp, if_pos ht]
    rw [exec_snapshotScheduleTime_of_refused (by rw [refused]; decide), refused]
  · rw [exec_snapshotScheduleFrame, State.scheduleFrame_of_accepted h]
    rfl
  · obtain ⟨x, hx, htime⟩ := State.takeSnap_current
      (s.setSnapPending (s.snap.pending.filter fun y => y != s.nat Obj.TickEdgeTime)) (s.nat Obj.TickEdgeTime) false
    exact ⟨_, x, exec_snapshotTake_of_pending hn hp, hx, htime, State.takeSnap_pending _ _ _⟩
  · subst he
    exact exec_snapshotTake_of_period hn hp h0 hm
  · rw [exec_snapshotComplete_of_current hc, hu]
    rfl
  · have none : ((List.range 16).filter fun i => x.bad.testBit i) = [] := by simp [hb]
    rw [exec_snapshotComplete_of_current hc, none, hb, Nat.or_zero]
    rfl

end Sys2Proof.Machine
end

section
/-! SUPPORT. The axes and their commands (spec/04_profiles_homing.md): the state an axis enters, the answer to its commands, and what
enabling, resting, casting on, moving, stopping, homing and the brake's delays leave. -/

namespace Sys2Proof.Machine

/-! ### Shared laws -/

theorem State.clrBit_get_other (s : State) {k j : Nat} (i : Nat) (h : j ≠ k) : (s.clrBit k i).get j = s.get j :=
  s.get_put_other _ h

theorem State.addI64_get_other (s : State) {k j : Nat} (d : Int) (h : j ≠ k) : (s.addI64 k d).get j = s.get j :=
  s.get_put_other _ h

@[simp] theorem State.setBit_axis (s : State) (k i a : Nat) : (s.setBit k i).axis a = s.axis a := rfl
@[simp] theorem State.abandonRemaining_axis (s : State) (a n : Nat) : (s.abandonRemaining a).axis n = s.axis n := rfl

@[simp] theorem State.done_axis (s : State) (a : Nat) : s.done.axis a = s.axis a := rfl
@[simp] theorem State.wantLegs_axis (s : State) (n m a : Nat) : (s.wantLegs n m).axis a = s.axis a := rfl

theorem State.putBit_axis (s : State) (k i : Nat) (v : Bool) (a : Nat) : (s.putBit k i v).axis a = s.axis a := by
  cases v
  · rfl
  · rfl

theorem State.abandonRemaining_get_other (s : State) {a j : Nat} (ha : j ≠ Obj.MoveAbandoned a) (hr : j ≠ Obj.MoveRemaining a) :
    (s.abandonRemaining a).get j = s.get j := by
  rw [State.abandonRemaining, State.get_put_other _ _ hr, State.addI64_get_other _ _ ha]

/-! ### Gangs (R36) -/

theorem State.gangOf_eq_none_iff {s : State} {a : Nat} :
    s.gangOf a = none ↔ ∀ g < 16, s.bit (Obj.GangMembers g) a = false := by
  simp [State.gangOf]

/-- An axis that is in no gang is in none where the gangs' members read the same. -/
theorem State.gangOf_none_of_get {s t : State} {a : Nat} (h : ∀ g < 16, t.get (Obj.GangMembers g) = s.get (Obj.GangMembers g))
    (hg : s.gangOf a = none) : t.gangOf a = none := by
  rw [State.gangOf_eq_none_iff] at hg ⊢
  intro g hlt
  rw [State.bit, State.nat, h g hlt]
  exact hg g hlt

theorem State.gangOf_none_of_put {s : State} {a k : Nat} (v : Int) (hk : 0x300000 ≤ k) (hg : s.gangOf a = none) :
    (s.put k v).gangOf a = none :=
  State.gangOf_none_of_get (fun g hlt => s.get_put_other v (by unfold Obj.GangMembers; omega)) hg

theorem State.stopMembers_of_no_gang {s : State} {a : Nat} (hg : s.gangOf a = none) : s.stopMembers a = [a] := by
  simp only [State.stopMembers, hg]

theorem State.leaderOf_of_no_gang {s : State} {a : Nat} (hg : s.gangOf a = none) : s.leaderOf a = a := by
  simp only [State.leaderOf, hg]

theorem State.castGang_of_no_gang {s : State} {a : Nat} (hg : s.gangOf a = none) : s.castGang a = s := by
  simp [State.castGang, State.stopMembers_of_no_gang hg, State.each]

/-! ### The answer to a command (R110) -/

/-- The command of a code of R110. -/
def axisInstr (c a : Nat) : Instr :=
  match c with
  | 1 => .enable a
  | 2 => .disable a
  | 3 => .powerOn a
  | 4 => .moveAbsolute a
  | 5 => .moveRelative a
  | 6 => .velocityMove a
  | 7 => .stop a
  | 8 => .resume a
  | 9 => .quickStop a
  | 10 => .abandon a
  | 11 => .home a
  | 12 => .faultReset a
  | _ => .coilsOff a

/-- A command that the states refuse answers the status and does nothing else: every one of the meanings tests its status first. -/
theorem exec_axisInstr_of_refused {c a : Nat} {s : State} (hc : c ∈ List.range' 1 13) (h : s.cmdStatus a c ≠ 0) :
    exec (axisInstr c a) s = .next (s.reply (s.cmdStatus a c)) := by
  simp only [List.range', List.mem_cons, List.not_mem_nil, or_false] at hc
  rcases hc with rfl | rfl | rfl | rfl | rfl | rfl | rfl | rfl | rfl | rfl | rfl | rfl | rfl
  all_goals exact congrArg _ (if_pos h)

theorem State.gangRefuses_of_no_gang {s : State} {a : Nat} (c : Nat) (hg : s.gangOf a = none) : s.gangRefuses a c = false := by
  simp only [State.gangRefuses, hg]

/-- R110: in Run, and where neither a gang nor a ramp stands in the way, a command outside the states of its row answers 0x0703. -/
theorem State.cmdStatus_outside_states {a c : Nat} {s : State} (ha : a < 64) (hr : s.get Obj.DeviceState = devRun)
    (hg : s.gangOf a = none) (hb : ∀ b ∈ s.groupsOf a, (s.bind b).phase ≠ 2) (hs : s.get (Obj.AxisState a) ∉ cmdStates c) :
    s.cmdStatus a c = 0x0703 := by
  have ramps : ((s.groupsOf a).any fun b => (s.bind b).phase == 2) = false := by
    simpa only [List.any_eq_false, beq_iff_eq] using hb
  have outside : (cmdStates c).contains (s.get (Obj.AxisState a)) = false := by
    simpa only [List.contains_eq_mem, decide_eq_false_iff_not] using hs
  simp only [State.cmdStatus, if_neg (Nat.not_le.2 ha), hr, State.gangRefuses_of_no_gang c hg, ramps, outside, ne_eq,
    not_true_eq_false, and_false, if_false, Bool.false_eq_true, Bool.not_false, if_true]

/-- Settles O18: each command's list of states leaves out the axis's state, so its status is 0x0703. -/
theorem axisCommandsAreRefusedOutsideTheirStates : Obligations.AxisCommandsAreRefusedOutsideTheirStates := by
  intro a s ha hr hg hb
  have refused : ∀ c ∈ List.range' 1 13, s.get (Obj.AxisState a) ∉ cmdStates c →
      exec (axisInstr c a) s = .next (s.reply 0x0703) := by
    intro c hc hs
    have status := State.cmdStatus_outside_states ha hr hg hb hs
    rw [exec_axisInstr_of_refused hc (by rw [status]; decide), status]
  have single : ∀ {x : Int}, s.get (Obj.AxisState a) ≠ x → s.get (Obj.AxisState a) ∉ [x] := List.mem_singleton.not.2
  exact ⟨fun h => refused 1 (by decide) (single h), refused 2 (by decide), fun h => refused 3 (by decide) (single h),
    refused 4 (by decide), refused 5 (by decide), refused 6 (by decide), refused 7 (by decide), refused 8 (by decide),
    refused 9 (by decide), refused 10 (by decide), refused 11 (by decide), fun h => refused 12 (by decide) (single h),
    fun h => refused 13 (by decide) (single h)⟩

/-! ### Rest and the brake (R109, R131) -/

theorem State.enterRest_get_axisState (s : State) (a dst : Nat) :
    (s.enterRest a dst).get (Obj.AxisState a) = if dst = 2 then axDisabled else axStandby := State.get_put_same ..

/-- An axis at rest has its loops off, its brake engaged and no move. -/
theorem State.enterRest_axis (s : State) (a dst : Nat) :
    ((s.enterRest a dst).axis a).closed = false ∧ ((s.enterRest a dst).axis a).brakeEngaged = true ∧
      ((s.enterRest a dst).axis a).move = .none := by
  simp only [State.enterRest, State.put_axis, State.putBit_axis]
  split
  · simp only [State.wantLegs_axis, State.setAxis_axis_same, and_self]
  · simp only [State.setAxis_axis_same, and_self]

theorem State.engageBrake_of_no_output {s : State} {a : Nat} (dst : Nat) (h : s.get (Obj.BrakeOutput a) = 0xFF) :
    s.engageBrake a dst = s.enterRest a dst := if_pos (.inl h)

theorem State.engageBrake_of_delay {s : State} {a : Nat} (dst : Nat) (ho : s.get (Obj.BrakeOutput a) ≠ 0xFF)
    (hd : s.get (Obj.BrakeEngageDelay a) ≠ 0) :
    s.engageBrake a dst = s.setAxis a { s.axis a with engageTo := dst, brakeEngaged := true } := if_neg (not_or.2 ⟨ho, hd⟩)

theorem exec_enable_of_accepted {a : Nat} {s : State} (h : s.cmdStatus a 1 = 0) :
    exec (.enable a) s = .next ((s.put (Obj.AxisState a) axStandby).done) := execEnable_of_accepted h

theorem exec_disable_of_standby {a : Nat} {s : State} (h : s.cmdStatus a 2 = 0) (hs : s.get (Obj.AxisState a) = axStandby) :
    exec (.disable a) s = .next (s.enterRest a 2).done := by
  have notHolding : s.get (Obj.AxisState a) ≠ axHolding := by rw [hs]; decide
  exact congrArg _ ((if_neg (not_not.2 h)).trans (if_neg notHolding))

theorem exec_disable_of_holding {a : Nat} {s : State} (h : s.cmdStatus a 2 = 0) (hs : s.get (Obj.AxisState a) = axHolding) :
    exec (.disable a) s = .next (s.engageBrake a 2).done := congrArg _ ((if_neg (not_not.2 h)).trans (if_pos hs))

theorem exec_coilsOff_of_accepted {a : Nat} {s : State} (h : s.cmdStatus a 13 = 0) :
    exec (.coilsOff a) s = .next (s.engageBrake a 1).done := congrArg _ (if_neg (not_not.2 h))

theorem exec_faultReset_of_no_gang {a : Nat} {s : State} (h : s.cmdStatus a 12 = 0) (hg : s.gangOf a = none) :
    exec (.faultReset a) s = .next (((s.put (Obj.AxisState a) axDisabled).setAxis a { s.axis a with overrunS := false }).done) := by
  have alone : ((s.put (Obj.AxisState a) axDisabled).setAxis a { s.axis a with overrunS := false }).gangOf a = none :=
    State.gangOf_none_of_put axDisabled (by unfold Obj.AxisState; omega) hg
  change execFaultReset a s = _
  simp only [execFaultReset, h, ne_eq, not_true_eq_false, if_false, State.put_axis, alone]

/-! ### Casting on (R109, R270) -/

/-- The registers that entering Casting-on writes. -/
def castKeys (a : Nat) : List Nat :=
  [Obj.AxisLimitState a, Obj.CastOnCount a, Obj.AxisState a, Obj.CastOnResult a, Obj.CastOnState a]

/-- The registers apart from these, by number. -/
theorem not_mem_castKeys {a j : Nat} : j ∉ castKeys a ↔
    j ≠ 0x300004 + 0x4000 * a ∧ j ≠ 0x302F01 + 0x4000 * a ∧ j ≠ 0x300002 + 0x4000 * a ∧ j ≠ 0x302E03 + 0x4000 * a ∧
      j ≠ 0x302E02 + 0x4000 * a := by
  simp only [castKeys, Obj.AxisState, Obj.AxisLimitState, Obj.CastOnCount, Obj.CastOnResult, Obj.CastOnState, List.mem_cons,
    List.not_mem_nil, or_false]
  omega

theorem State.leaveStandby_get_other (s : State) {a j : Nat} (h : j ≠ Obj.AxisLimitState a) :
    (s.leaveStandby a).get j = s.get j := by
  rw [State.leaveStandby]
  split
  · split
    · exact s.clrBit_get_other 2 h
    · exact s.clrBit_get_other 2 h
  · rfl

theorem State.leaveStandby_sl (s : State) (a n : Nat) : (s.leaveStandby a).sl n = s.sl n := by
  rw [State.leaveStandby]
  split
  · split
    · rfl
    · rfl
  · rfl

/-- The axis in Casting-on with the move that waits, before its rotor angle is asked for. -/
def State.castEntered (s : State) (a : Nat) (pending : Option PlanReq) (homing : Bool) : State :=
  let s := ((((s.leaveStandby a).count (Obj.CastOnCount a) 32 1).put (Obj.AxisState a) axCasting).put
    (Obj.CastOnResult a) 0).put (Obj.CastOnState a) 0
  s.setAxis a { s.axis a with afterCast := pending, homeAfterCast := homing }

theorem State.castEntered_get_other (s : State) {a j : Nat} (pending : Option PlanReq) (homing : Bool) (h : j ∉ castKeys a) :
    (s.castEntered a pending homing).get j = s.get j := by
  simp only [castKeys, List.mem_cons, List.not_mem_nil, or_false, not_or] at h
  obtain ⟨limit, count, state, result, cast⟩ := h
  rw [State.castEntered, State.setAxis_get, State.get_put_other _ _ cast, State.get_put_other _ _ result,
    State.get_put_other _ _ state, State.count_get_other _ _ _ count, State.leaveStandby_get_other _ limit]

theorem State.castEntered_sl (s : State) (a : Nat) (pending : Option PlanReq) (homing : Bool) (n : Nat) :
    (s.castEntered a pending homing).sl n = s.sl n := s.leaveStandby_sl a n

theorem State.castEntered_axisState (s : State) (a : Nat) (pending : Option PlanReq) (homing : Bool) :
    (s.castEntered a pending homing).get (Obj.AxisState a) = axCasting := by
  rw [State.castEntered, State.setAxis_get, State.get_put_other _ _ (by unfold Obj.AxisState Obj.CastOnState; omega),
    State.get_put_other _ _ (by unfold Obj.AxisState Obj.CastOnResult; omega), State.get_put_same]

theorem State.castEntered_castOnCount (s : State) (a : Nat) (pending : Option PlanReq) (homing : Bool) :
    (s.castEntered a pending homing).get (Obj.CastOnCount a) = (s.get (Obj.CastOnCount a) + 1) % 4294967296 := by
  rw [State.castEntered, State.setAxis_get, State.get_put_other _ _ (by unfold Obj.CastOnCount Obj.CastOnState; omega),
    State.get_put_other _ _ (by unfold Obj.CastOnCount Obj.CastOnResult; omega),
    State.get_put_other _ _ (by unfold Obj.CastOnCount Obj.AxisState; omega), State.count, State.get_put_same,
    State.leaveStandby_get_other _ (by unfold Obj.CastOnCount Obj.AxisLimitState; omega)]
  rfl

theorem axisState_not_castKeys {a b : Nat} (h : b ≠ a) : Obj.AxisState b ∉ castKeys a :=
  not_mem_castKeys.2 (by unfold Obj.AxisState; omega)

theorem gangMembers_not_castKeys {a g : Nat} (h : g < 16) : Obj.GangMembers g ∉ castKeys a :=
  not_mem_castKeys.2 (by unfold Obj.GangMembers; omega)

/-- What decides how the rotor angle is found is not written by entering Casting-on. -/
theorem State.castEntered_castAcquires (s : State) (a : Nat) (pending : Option PlanReq) (homing : Bool) :
    (s.castEntered a pending homing).castAcquires a = s.castAcquires a := by
  have source : Obj.FbSource a ∉ castKeys a := not_mem_castKeys.2 (by unfold Obj.FbSource; omega)
  have align : Obj.CastOnAlign a ∉ castKeys a := not_mem_castKeys.2 (by unfold Obj.CastOnAlign; omega)
  simp only [State.castAcquires, State.flag, State.castEntered_get_other s pending homing source,
    State.castEntered_get_other s pending homing align, State.castEntered_sl]

theorem State.castEntered_tripLatched (s : State) (a : Nat) (pending : Option PlanReq) (homing : Bool) :
    (s.castEntered a pending homing).tripLatched a = s.tripLatched a := by
  have trip : Obj.PwmTripStatus a ∉ castKeys a := not_mem_castKeys.2 (by unfold Obj.PwmTripStatus; omega)
  simp only [State.tripLatched, State.nat, State.castEntered_get_other s pending homing trip]

/-- The axis in Casting-on whose angle is known: its loops close at an edge. -/
def State.castWaiting (s : State) (a : Nat) (pending : Option PlanReq) (homing : Bool) : State :=
  let s := s.castEntered a pending homing
  s.setSl a { s.sl a with waitEdge := true, closeDue := none }

theorem State.castBegin_of_known_angle {s : State} {a : Nat} (pending : Option PlanReq) (homing : Bool)
    (hv : s.flag (Obj.AxisVirtual a) = false) (hc : s.castAcquires a = false) (ht : (isLocal a && s.tripLatched a) = false) :
    s.castBegin a pending homing = s.castWaiting a pending homing := by
  have real : ¬((s.leaveStandby a).count (Obj.CastOnCount a) 32 1).flag (Obj.AxisVirtual a) = true := by
    rw [State.flag, State.count_get_other _ _ _ (by unfold Obj.AxisVirtual Obj.CastOnCount; omega),
      State.leaveStandby_get_other _ (by unfold Obj.AxisVirtual Obj.AxisLimitState; omega), ← State.flag, hv]
    decide
  have acquires : ¬(s.castEntered a pending homing).castAcquires a = true := by
    rw [State.castEntered_castAcquires, hc]
    decide
  have trip : ¬(isLocal a && (s.castEntered a pending homing).tripLatched a) = true := by
    rw [State.castEntered_tripLatched, ht]
    decide
  rw [State.castBegin, if_neg real]
  exact (if_neg trip).trans (if_neg acquires)

/-- POWER_ON of an axis in no gang whose angle is known. -/
theorem exec_powerOn_of_known_angle {a : Nat} {s : State} (h : s.cmdStatus a 3 = 0) (hg : s.gangOf a = none)
    (hv : s.flag (Obj.AxisVirtual a) = false) (hc : s.castAcquires a = false) (ht : (isLocal a && s.tripLatched a) = false) :
    exec (.powerOn a) s = .next (s.castWaiting a none false).done := by
  have alone : (s.castWaiting a none false).gangOf a = none :=
    State.gangOf_none_of_get (fun _ hlt => s.castEntered_get_other none false (gangMembers_not_castKeys hlt)) hg
  change execPowerOn a s = _
  simp only [execPowerOn, h, ne_eq, not_true_eq_false, if_false, State.castBegin_of_known_angle none false hv hc ht,
    State.castGang_of_no_gang alone]

/-- Settles O19: each clause is the law of its command. -/
theorem axisComesOnAndRests : Obligations.AxisComesOnAndRests := by
  refine ⟨fun a s h => exec_enable_of_accepted h, fun a s h hs => ?_, fun a s h hs ho hd => ?_, fun a s h hg hv hc ht => ?_,
    fun a s h ho => ?_, fun a s h hg => exec_faultReset_of_no_gang h hg⟩
  · obtain ⟨closed, brake, move⟩ := s.enterRest_axis a 2
    exact ⟨_, exec_disable_of_standby h hs, rfl, s.enterRest_get_axisState a 2, closed, brake, move⟩
  · rw [exec_disable_of_holding h hs, State.engageBrake_of_delay 2 ho hd]
  · have afterCast : ((s.castEntered a none false).axis a).afterCast = none := by
      simp only [State.castEntered, State.setAxis_axis_same]
    exact ⟨_, exec_powerOn_of_known_angle h hg hv hc ht, rfl, s.castEntered_axisState a none false,
      s.castEntered_castOnCount a none false, afterCast,
      fun b _ hb => s.castEntered_get_other none false (axisState_not_castKeys hb)⟩
  · obtain ⟨closed, brake, -⟩ := s.enterRest_axis a 1
    rw [exec_coilsOff_of_accepted h, State.engageBrake_of_no_output 1 ho]
    exact ⟨_, rfl, rfl, s.enterRest_get_axisState a 1, closed, brake⟩

/-! ### Moves (R117, R120, R127) -/

/-- The run-time record of an axis that a new move begins with. -/
def AxisRt.moveBegun (r : AxisRt) (k : MoveKind) (mode : Nat) : AxisRt :=
  { r with move := k, home := {}, engageTo := 0, ownScale := false, stopKey := 0, quick := false, mode := mode,
           overridden := false, byCommand := true }

/-- A new move leaves its axis Moving, whether or not the axis is in a gang. -/
theorem State.newMove_get_axisState (s : State) (a : Nat) (k : MoveKind) :
    (s.newMove a k).get (Obj.AxisState a) = axMoving := State.get_put_same ..

theorem State.newMove_axis (s : State) (a : Nat) (k : MoveKind) :
    (s.newMove a k).axis a = (s.axis a).moveBegun k (s.nat (Obj.AxisMoveMode a)) := by
  have mode : (s.abandonRemaining a).get (Obj.AxisMoveMode a) = s.get (Obj.AxisMoveMode a) :=
    s.abandonRemaining_get_other (by unfold Obj.AxisMoveMode Obj.MoveAbandoned; omega)
      (by unfold Obj.AxisMoveMode Obj.MoveRemaining; omega)
  simp only [State.newMove, State.put_axis]
  split
  · simp only [State.put_axis, State.setAxis_axis_same, State.abandonRemaining_axis, State.nat, mode, AxisRt.moveBegun]
  · simp only [State.setAxis_axis_same, State.abandonRemaining_axis, State.nat, mode, AxisRt.moveBegun]

theorem State.commandMove_axis (s : State) (a : Nat) (p target : Int) (req : PlanReq) :
    (s.commandMove a p target req).axis a = { s.axis a with target := target, req := some req } := State.setAxis_axis_same ..

theorem State.commandMove_get_moveRemaining (s : State) (a : Nat) (p target : Int) (req : PlanReq) :
    (s.commandMove a p target req).get (Obj.MoveRemaining a) = wrapS 64 (target - p) := State.get_put_same ..

/-- A move to a target that is accepted of a powered axis, by a plan of its own. -/
theorem State.moveCommand_of_powered {a c : Nat} {absolute : Bool} {s : State} (h : s.cmdStatus a c = 0)
    (hm : s.moveStatus a absolute = 0) (ht : s.get (Obj.AxisMoveMode a) ≠ 3) (hs : s.get (Obj.AxisState a) ≠ axStandby) :
    s.moveCommand a c absolute =
      ((s.newMove a .target).commandMove a (s.axis a).sp
        (s.targetFrom a (s.axis a).sp absolute (s.get (Obj.AxisTargetPosition a)))
        (.move (s.targetFrom a (s.axis a).sp absolute (s.get (Obj.AxisTargetPosition a))))).done := by
  simp only [State.moveCommand, h, hm, hs, ht, ne_eq, not_true_eq_false, if_false]

/-- What a powered axis holds after an accepted move to a target. -/
theorem State.moveCommand_spec {a c : Nat} {absolute : Bool} {s : State} (h : s.cmdStatus a c = 0)
    (hm : s.moveStatus a absolute = 0) (ht : s.get (Obj.AxisMoveMode a) ≠ 3) (hs : s.get (Obj.AxisState a) ≠ axStandby)
    {target : Int} (he : s.targetFrom a (s.axis a).sp absolute (s.get (Obj.AxisTargetPosition a)) = target) :
    (s.moveCommand a c absolute).resp = { status := 0 } ∧ ((s.moveCommand a c absolute).axis a).req = some (.move target) ∧
      ((s.moveCommand a c absolute).axis a).move = .target ∧ ((s.moveCommand a c absolute).axis a).byCommand = true ∧
      (s.moveCommand a c absolute).get (Obj.MoveRemaining a) = wrapS 64 (target - (s.axis a).sp) := by
  have axis := ((s.newMove a .target).commandMove_axis a (s.axis a).sp target (.move target)).trans
    (by rw [s.newMove_axis a .target])
  rw [State.moveCommand_of_powered h hm ht hs, he]
  exact ⟨rfl, congrArg AxisRt.req axis, congrArg AxisRt.move axis, congrArg AxisRt.byCommand axis,
    State.commandMove_get_moveRemaining _ a _ target (.move target)⟩

theorem exec_velocityMove_of_powered {a : Nat} {s : State} (h : s.cmdStatus a 6 = 0)
    (hl : s.latchedToward a (s.get (Obj.AxisTargetVelocity a)) = false) (hs : s.get (Obj.AxisState a) ≠ axStandby) :
    exec (.velocityMove a) s = .next (((s.newMove a .velocity).setAxis a { (s.newMove a .velocity).axis a with
      req := some (.velocity (s.get (Obj.AxisTargetVelocity a))) }).done) := by
  change execVelocityMove a s = _
  simp only [execVelocityMove, h, hl, hs, ne_eq, not_true_eq_false, Bool.false_eq_true, if_false]

/-! ### Stops (R125) -/

/-- The record of an axis that is asked for a stop on a deceleration. -/
def AxisRt.stopAsked (r : AxisRt) (key : Nat) (keep quick : Bool) : AxisRt :=
  { r with req := some (.stop key keep), quick := quick, home := {} }

/-- A Moving axis in no gang that is asked for a stop is Stopping, with the deceleration it was asked for. -/
theorem State.askStop_of_moving {s : State} {a key : Nat} (keep : Bool) (hs : s.get (Obj.AxisState a) = axMoving)
    (hg : s.gangOf a = none) (hk : Obj.StopDeceleration a ≤ key) :
    s.askStop a key keep = (s.setAxis a ((s.axis a).stopAsked key keep (key == Obj.QuickStopDeceleration a))).put
      (Obj.AxisState a) axStopping := by
  have alone : ((s.setAxis a ((s.axis a).stopAsked key keep (key == Obj.QuickStopDeceleration a))).put
      (Obj.AxisState a) axStopping).gangOf a = none :=
    State.gangOf_none_of_put (s := s.setAxis a _) axStopping (by unfold Obj.AxisState; omega) hg
  rw [AxisRt.stopAsked] at alone ⊢
  simp only [State.askStop, State.leaderOf_of_no_gang hg, hs, true_or, if_true, Nat.sub_add_cancel hk, alone]

/-- A stop command to a Moving axis that follows no graft and is in no gang. -/
theorem State.stopCommand_of_moving {s : State} {a key : Nat} (hs : s.get (Obj.AxisState a) = axMoving) (hg : s.gangOf a = none)
    (hf : s.flag (Obj.AxisGraftEngaged a) = false) (hk : Obj.StopDeceleration a ≤ key) :
    s.stopCommand a key true = ((s.setAxis a ((s.axis a).stopAsked key true (key == Obj.QuickStopDeceleration a))).put
      (Obj.AxisState a) axStopping).setAxis a
        { (s.axis a).stopAsked key true (key == Obj.QuickStopDeceleration a) with byCommand := true } := by
  have follows : ¬s.flag (Obj.AxisGraftEngaged a) = true := by rw [hf]; decide
  simp only [State.stopCommand, State.graftDetach, if_neg follows, if_true, State.askStop_of_moving true hs hg hk,
    State.put_axis, State.setAxis_axis_same]

/-- It leaves the axis Stopping on the deceleration asked for, with its target kept. -/
theorem State.stopCommand_spec {s : State} {a key : Nat} (hs : s.get (Obj.AxisState a) = axMoving) (hg : s.gangOf a = none)
    (hf : s.flag (Obj.AxisGraftEngaged a) = false) (hk : Obj.StopDeceleration a ≤ key) :
    (s.stopCommand a key true).regs = (s.put (Obj.AxisState a) axStopping).regs ∧
      ((s.stopCommand a key true).axis a).quick = (key == Obj.QuickStopDeceleration a) ∧
      ((s.stopCommand a key true).axis a).req = some (.stop key true) ∧
      ((s.stopCommand a key true).axis a).target = (s.axis a).target := by
  rw [State.stopCommand_of_moving hs hg hf hk]
  refine ⟨rfl, ?_⟩
  simp only [State.setAxis_axis_same, AxisRt.stopAsked, and_self]

theorem exec_stop_of_moving {a : Nat} {s : State} (h : s.cmdStatus a 7 = 0) (hs : s.get (Obj.AxisState a) = axMoving) :
    exec (.stop a) s = .next (s.stopCommand a (Obj.StopDeceleration a) true).done := by
  have notStopping : s.get (Obj.AxisState a) ≠ axStopping := by rw [hs]; decide
  exact congrArg _ ((if_neg (not_not.2 h)).trans (if_neg notStopping))

theorem exec_quickStop_of_moving {a : Nat} {s : State} (h : s.cmdStatus a 9 = 0) (hs : s.get (Obj.AxisState a) = axMoving) :
    exec (.quickStop a) s = .next (s.stopCommand a (Obj.QuickStopDeceleration a) true).done := by
  have notStopping : s.get (Obj.AxisState a) ≠ axStopping := by rw [hs]; decide
  exact congrArg _ ((if_neg (not_not.2 h)).trans (if_neg fun both => notStopping both.1))

theorem stopDeceleration_le_quick (a : Nat) : Obj.StopDeceleration a ≤ Obj.QuickStopDeceleration a := by
  unfold Obj.StopDeceleration Obj.QuickStopDeceleration
  omega

theorem stopDeceleration_beq_quick (a : Nat) : (Obj.StopDeceleration a == Obj.QuickStopDeceleration a) = false := by
  rw [beq_eq_false_iff_ne]
  unfold Obj.StopDeceleration Obj.QuickStopDeceleration
  omega

/-- Settles O20: an accepted move is a new move with its target; a stop of a Moving axis is asked for with its deceleration. -/
theorem moveAndStopCommands : Obligations.MoveAndStopCommands := by
  refine ⟨fun a s h hm ht hs => ?_, fun a s h hm ht hs => ?_, fun a s h hl hs => ?_, fun a s h hs hg hf => ?_,
    fun a s h hs hg hf => ?_⟩
  · exact ⟨_, rfl, State.moveCommand_spec h hm ht hs rfl⟩
  · obtain ⟨resp, req, move, -, remaining⟩ := State.moveCommand_spec h hm ht hs
      (target := (s.axis a).sp + s.get (Obj.AxisTargetPosition a)) rfl
    rw [add_sub_cancel_left] at remaining
    exact ⟨_, rfl, resp, req, move, remaining⟩
  · have axis := s.newMove_axis a .velocity
    refine ⟨_, exec_velocityMove_of_powered h hl hs, rfl, s.newMove_get_axisState a .velocity, ?_, ?_⟩
    · simp only [State.done_axis, State.setAxis_axis_same, axis, AxisRt.moveBegun]
    · simp only [State.done_axis, State.setAxis_axis_same]
  · obtain ⟨regs, quick, req, target⟩ := State.stopCommand_spec hs hg hf le_rfl
    exact ⟨_, exec_stop_of_moving h hs, rfl, regs, quick.trans (stopDeceleration_beq_quick a), req, target⟩
  · obtain ⟨regs, quick, req, target⟩ := State.stopCommand_spec hs hg hf (stopDeceleration_le_quick a)
    exact ⟨_, exec_quickStop_of_moving h hs, rfl, regs, quick.trans (beq_self_eq_true _), req, target⟩

/-! ### Resume, abandon and homing (R126, R127, R142, R143) -/

/-- RESUME of an axis in no gang that a limit does not hold back. -/
theorem exec_resume_of_no_gang {a : Nat} {s : State} (h : s.cmdStatus a 8 = 0)
    (hl : s.latchedToward a ((s.axis a).target - (s.axis a).sp) = false) (hg : s.gangOf a = none) :
    exec (.resume a) s = .next (((s.setAxis a { s.axis a with
      move := .target, engageTo := 0, ownScale := false, stopKey := 0, quick := false, req := some .resume, byCommand := true }).put
        (Obj.AxisState a) axMoving).done) := by
  have alone : ∀ r, (s.setAxis a r).gangOf a = none := fun _ => hg
  change execResume a s = _
  simp only [execResume, h, hl, alone, ne_eq, not_true_eq_false, Bool.false_eq_true, if_false]

theorem exec_abandon_of_holding {a : Nat} {s : State} (h : s.cmdStatus a 10 = 0) (hs : s.get (Obj.AxisState a) = axHolding) :
    exec (.abandon a) s = .next ((s.abandonRemaining a).setAxis a { s.axis a with move := .none }).done :=
  congrArg _ ((if_neg (not_not.2 h)).trans (if_pos hs))

theorem exec_home_of_missing_input {a : Nat} {s : State} (h : s.cmdStatus a 11 = 0) (hi : s.homeInputMissing a = true) :
    exec (.home a) s = .next (s.reply 0x0402) := congrArg _ ((if_neg (not_not.2 h)).trans (if_pos hi))

/-- HOME of a Holding axis: a new move, in the first phase of homing. -/
theorem exec_home_of_holding {a : Nat} {s : State} (h : s.cmdStatus a 11 = 0) (hi : s.homeInputMissing a = false)
    (hs : s.get (Obj.AxisState a) = axHolding)
    (hl : s.latchedToward a (if (homeDirs (s.nat (Obj.HomingMethod a))).1 = 0 then (homeDirs (s.nat (Obj.HomingMethod a))).2.2
      else (homeDirs (s.nat (Obj.HomingMethod a))).1) = false) :
    exec (.home a) s = .next ((((s.put (Obj.HomingStatus a) 1).newMove a .homing).setAxis a
      { ((s.put (Obj.HomingStatus a) 1).newMove a .homing).axis a with home := { phase := 6 }, byCommand := false }).done) := by
  have holding : (s.put (Obj.HomingStatus a) 1).get (Obj.AxisState a) = axHolding := by
    rw [State.get_put_other _ _ (by unfold Obj.AxisState Obj.HomingStatus; omega), hs]
  have notStandby : axHolding ≠ axStandby := by decide
  change execHome a s = _
  simp only [execHome, h, hi, hl, holding, notStandby, ne_eq, not_true_eq_false, Bool.false_eq_true, if_false, if_true]

/-- Homing that fails on a Moving axis in no gang: its result, its bit, and a quick stop that keeps nothing. -/
theorem State.homeFail_of_moving {s : State} {a : Nat} (hs : s.get (Obj.AxisState a) = axMoving) (hg : s.gangOf a = none) :
    s.homeFail a = ((((s.put (Obj.HomingStatus a) 3).setBit (Obj.AxisStatus a) 1).setAxis a
      ((s.axis a).stopAsked (Obj.QuickStopDeceleration a) false true)).put (Obj.AxisState a) axStopping).setAxis a
        ((s.axis a).stopAsked (Obj.QuickStopDeceleration a) false true) := by
  have alone : ((s.put (Obj.HomingStatus a) 3).setBit (Obj.AxisStatus a) 1).gangOf a = none :=
    State.gangOf_none_of_put _ (by unfold Obj.AxisStatus; omega)
      (State.gangOf_none_of_put 3 (by unfold Obj.HomingStatus; omega) hg)
  have moving : ((s.put (Obj.HomingStatus a) 3).setBit (Obj.AxisStatus a) 1).get (Obj.AxisState a) = axMoving := by
    rw [State.setBit_get_other _ _ (by unfold Obj.AxisState Obj.AxisStatus; omega),
      State.get_put_other _ _ (by unfold Obj.AxisState Obj.HomingStatus; omega), hs]
  simp only [State.homeFail, State.askStop_of_moving false moving alone (stopDeceleration_le_quick a), State.put_axis,
    State.setAxis_axis_same, State.setBit_axis, beq_self_eq_true, AxisRt.stopAsked]

theorem exec_homingTimeout_of_homing {a : Nat} {s : State} (hp : (s.axis a).home.phase ≠ 0)
    (ht : s.flagInUse (Obj.HomingTimeout a) = true) : exec (.homingTimeout a) s = .next (s.homeFail a) :=
  congrArg _ (if_pos ⟨hp, ht⟩)

/-- Settles O21: each clause is the law of its command, and a homing timeout is a failure of homing. -/
theorem resumeAbandonAndHome : Obligations.ResumeAbandonAndHome := by
  refine ⟨fun a s h hl hg => ?_, fun a s h hs => exec_abandon_of_holding h hs, fun a s h hi => exec_home_of_missing_input h hi,
    fun a s h hi hs hl => ?_, fun a s hp ht hg hs => ?_⟩
  · refine ⟨_, exec_resume_of_no_gang h hl hg, rfl, rfl, ?_⟩
    simp only [State.done_axis, State.put_axis, State.setAxis_axis_same, and_self]
  · refine ⟨_, exec_home_of_holding h hi hs hl, rfl, State.newMove_get_axisState _ a .homing, ?_⟩
    simp only [State.done_axis, State.setAxis_axis_same]
  · rw [exec_homingTimeout_of_homing hp ht, State.homeFail_of_moving hs hg]
    refine ⟨_, rfl, ?_, ?_, ?_, ?_⟩
    · rw [State.setAxis_get, State.get_put_other _ _ (by unfold Obj.HomingStatus Obj.AxisState; omega), State.setAxis_get,
        State.setBit_get_other _ _ (by unfold Obj.HomingStatus Obj.AxisStatus; omega), State.get_put_same]
    · rw [State.bit, State.nat, State.setAxis_get, State.get_put_other _ _ (by unfold Obj.AxisStatus Obj.AxisState; omega)]
      exact State.setBit_bit_same _ _ 1
    · exact State.get_put_same ..
    · simp only [State.setAxis_axis_same, AxisRt.stopAsked, and_self]

/-! ### Plans, standstill and the brake's delays (R123, R129, R131) -/

/-- PLAN_START of a velocity move that a command asked for. -/
theorem exec_planStart_of_velocity {a : Nat} {v : Int} {s : State} (hc : (s.axis a).byCommand = true)
    (hl : (s.axis a).closed = true) (hn : (s.axis a).closing = false) (hr : (s.axis a).req = some (.velocity v)) :
    exec (.planStart a) s = .next ((((s.flushBeyond a s.tick).setAxis a
      { (s.flushBeyond a s.tick).axis a with req := none, byCommand := false }).put (Obj.MoveStartEdge a)
        (((s.flushBeyond a s.tick).setAxis a
          { (s.flushBeyond a s.tick).axis a with req := none, byCommand := false }).tick + 1 : Nat)).planVel a v) := by
  have starts : ((s.axis a).byCommand && (s.axis a).closed && !(s.axis a).closing) = true := by rw [hc, hl, hn]; rfl
  have keepsGraft : s.stopDetach a = s := by simp only [State.stopDetach, hr]
  change execPlanStart a s = _
  simp only [execPlanStart, starts, if_true, State.planApply, keepsGraft, hr]

/-- STANDSTILL with its modes 2 and 1 (R129). -/
theorem exec_standstill_of_standby_mode {a : Nat} {s : State} (hs : s.atStandstill a = true) (he : (s.axis a).engageTo = 0)
    (hm : s.natInUse (Obj.StandstillMode a) = 2) : exec (.standstill a) s = .next (s.engageBrake a 1) := by
  change execStandstill a s = _
  simp [execStandstill, hs, he, hm]

theorem exec_standstill_of_holding_mode {a : Nat} {s : State} (hm : s.natInUse (Obj.StandstillMode a) = 1) :
    exec (.standstill a) s = .next s := by
  change execStandstill a s = _
  simp [execStandstill, hm]

theorem exec_brakeEngageDelayExpiry_of_waiting {a : Nat} {s : State} (h : (s.axis a).engageTo ≠ 0) :
    exec (.brakeEngageDelayExpiry a) s = .next (s.enterRest a (s.axis a).engageTo) := congrArg _ (if_neg h)

/-- Settles O22: each clause is the law of its event, and rest is the state that waited. -/
theorem plansBrakesAndStandstill : Obligations.PlansBrakesAndStandstill := by
  have delayOver : ∀ {a dst : Nat} {s : State}, dst ≠ 0 → (s.axis a).engageTo = dst →
      exec (.brakeEngageDelayExpiry a) s = .next (s.enterRest a dst) := by
    intro a dst s h0 he
    subst he
    exact exec_brakeEngageDelayExpiry_of_waiting h0
  refine ⟨fun a v s hc hl hn hr => exec_planStart_of_velocity hc hl hn hr, fun a s hs he hm ho => ?_,
    fun a s _ hm => exec_standstill_of_holding_mode hm, fun a s he => ?_, fun a s he => ?_, fun a s => rfl⟩
  · rw [exec_standstill_of_standby_mode hs he hm, State.engageBrake_of_no_output 1 ho]
    exact ⟨_, rfl, rfl, s.enterRest_get_axisState a 1⟩
  · exact ⟨_, delayOver (by decide) he, rfl, s.enterRest_get_axisState a 2⟩
  · exact ⟨_, delayOver (by decide) he, rfl, s.enterRest_get_axisState a 1⟩

end Sys2Proof.Machine
end

section
/-! SUPPORT. Bind-off of a group and the commands of a path (spec/04_profiles_homing.md): what they leave of the registers of groups and
paths, which the steps of the member axes between do not touch. -/

namespace Sys2Proof.Machine

@[simp] theorem State.done_path (s : State) (p : Nat) : s.done.path p = s.path p := rfl

/-! ### Steps of axes -/

/-- `t` differs from `s` in the axes: the registers below the axes' own, the bind-off groups and the paths stand as they did. -/
structure State.AxesOnly (s t : State) : Prop where
  get : ∀ j < 0x300000, t.get j = s.get j
  binds : t.binds = s.binds
  paths : t.paths = s.paths

theorem State.AxesOnly.refl (s : State) : s.AxesOnly s := ⟨fun _ _ => rfl, rfl, rfl⟩

theorem State.AxesOnly.trans {s t u : State} (h : s.AxesOnly t) (k : t.AxesOnly u) : s.AxesOnly u :=
  ⟨fun j hj => (k.get j hj).trans (h.get j hj), k.binds.trans h.binds, k.paths.trans h.paths⟩

theorem State.AxesOnly.put {s t : State} (h : s.AxesOnly t) {k : Nat} (v : Int) (hk : 0x300000 ≤ k) : s.AxesOnly (t.put k v) :=
  h.trans ⟨fun _ hj => t.get_put_other v (by omega), rfl, rfl⟩

theorem State.AxesOnly.setAxis {s t : State} (h : s.AxesOnly t) (a : Nat) (r : AxisRt) : s.AxesOnly (t.setAxis a r) :=
  h.trans ⟨fun _ _ => rfl, rfl, rfl⟩

theorem State.AxesOnly.setBitIf {s t : State} (h : s.AxesOnly t) (c : Bool) {k : Nat} (i : Nat) (hk : 0x300000 ≤ k) :
    s.AxesOnly (t.setBitIf c k i) := by
  cases c
  · exact h
  · exact h.put _ hk

theorem State.AxesOnly.each {f : State → Nat → State} (h : ∀ t n, State.AxesOnly t (f t n)) (l : List Nat) (s : State) :
    s.AxesOnly (s.each l f) := by
  induction l generalizing s with
  | nil => exact .refl s
  | cons n l ih => exact (h s n).trans (ih (f s n))

theorem State.AxesOnly.bind {s t : State} (h : s.AxesOnly t) (b : Nat) : t.bind b = s.bind b := by
  simp only [State.bind, h.binds]

theorem State.AxesOnly.path {s t : State} (h : s.AxesOnly t) (p : Nat) : t.path p = s.path p := by
  simp only [State.path, h.paths]

theorem State.AxesOnly.tNs {s t : State} (h : s.AxesOnly t) : t.tNs = s.tNs := by
  simp only [State.tNs, State.nat, h.get Obj.TickPeriod (by decide)]

theorem State.abandonRemaining_axesOnly (s : State) (a : Nat) : s.AxesOnly (s.abandonRemaining a) :=
  ((State.AxesOnly.refl s).put _ (by unfold Obj.MoveAbandoned; omega)).put 0 (by unfold Obj.MoveRemaining; omega)

theorem State.flushBeyond_axesOnly (s : State) (a e : Nat) : s.AxesOnly (s.flushBeyond a e) :=
  (((State.AxesOnly.refl s).setAxis a _).put _ (by unfold Obj.SetpointFlushed; omega)).put _
    (by unfold Obj.SetpointQueueOccupancy; omega)

/-! ### Bind-off records (R136, R357) -/

theorem State.exPost_regs (s : State) (dest : Option Nat) (kind inst : Nat) (l : List Byte) :
    (s.exPost dest kind inst l).regs = s.regs := by
  rw [State.exPost]
  split
  · rfl
  · rfl

theorem State.exPost_binds (s : State) (dest : Option Nat) (kind inst : Nat) (l : List Byte) :
    (s.exPost dest kind inst l).binds = s.binds := by
  rw [State.exPost]
  split
  · rfl
  · rfl

theorem State.sendBindOff_get (s : State) (b flags r q start k : Nat) : (s.sendBindOff b flags r q start).get k = s.get k := by
  rw [State.sendBindOff]
  split
  · rfl
  · rw [State.get, State.exPost_regs]
    rfl

theorem State.sendBindOff_bind (s : State) (b flags r q start n : Nat) : (s.sendBindOff b flags r q start).bind n = s.bind n := by
  rw [State.sendBindOff]
  split
  · rfl
  · rw [State.bind, State.exPost_binds]
    rfl

theorem State.bindRepeat_get (s : State) (b k : Nat) : (s.bindRepeat b).get k = s.get k := by
  rw [State.bindRepeat]
  split
  · split
    · exact s.sendBindOff_get ..
    · rw [State.sendBindOff_get, State.setBind_get, State.sendBindOff_get]
  · rfl

/-- Repeating a group's record changes of the group only the velocities it holds and the members that left a graft. -/
theorem State.bindRepeat_bind (s : State) (b : Nat) :
    ∃ vs rejoin, (s.bindRepeat b).bind b = { s.bind b with vs := vs, rejoin := rejoin } := by
  rw [State.bindRepeat]
  split
  · split
    · exact ⟨(s.bind b).vs, (s.bind b).rejoin, s.sendBindOff_bind ..⟩
    · simp only [State.sendBindOff_bind, State.setBind_bind_same]
      exact ⟨_, _, rfl⟩
  · exact ⟨(s.bind b).vs, (s.bind b).rejoin, rfl⟩

/-! ### Requests (R133, R135) -/

theorem exec_bindOffRequest_of_one {b : Nat} {s : State} (hb : b < 16) :
    exec (.bindOffRequest b 1) s = .next (s.askBindOff b).done := congrArg _ (if_neg (Nat.not_le.2 hb))

theorem exec_bindOffRequest_of_other_value {b value : Nat} {s : State} (hb : b < 16) (hv : value ≠ 1) :
    exec (.bindOffRequest b value) s = .next (s.reply 0x0301) := congrArg _ ((if_neg (Nat.not_le.2 hb)).trans (if_pos hv))

theorem State.askBindOff_of_ramp {b : Nat} {s : State} (h : (s.bind b).phase ≠ 0) :
    s.askBindOff b = s.count (Obj.BindOffRequests b) 32 1 := if_neg h

/-- Asking a group for a bind-off records the request and its start edge. -/
theorem State.bindAsked_bind (s : State) (b start : Nat) (vs : List (Nat × Int)) (r0 q0 : Nat) :
    ((s.bindAsked b start vs r0 q0).bind b).phase = 1 ∧ ((s.bindAsked b start vs r0 q0).bind b).start = start := by
  simp only [State.bindAsked, State.sendBindOff_bind, State.setBind_bind_same, and_self]

theorem State.bindAsked_get (s : State) (b start : Nat) (vs : List (Nat × Int)) (r0 q0 k : Nat) :
    (s.bindAsked b start vs r0 q0).get k = s.get k := by
  rw [State.bindAsked, State.sendBindOff_get, State.setBind_get]

/-- A request to an idle group: two edges ahead, and counted. -/
theorem State.askBindOff_of_idle {b : Nat} {s : State} (hb : b < 16) (h : (s.bind b).phase = 0) :
    ((s.askBindOff b).bind b).phase = 1 ∧ ((s.askBindOff b).bind b).start = s.tick + 2 ∧
      (s.askBindOff b).get (Obj.BindOffRequests b) = (s.get (Obj.BindOffRequests b) + 1) % 4294967296 := by
  have idle : ((s.count (Obj.BindOffRequests b) 32 1).bind b).phase = 0 := h
  have tick : (s.count (Obj.BindOffRequests b) 32 1).tick = s.tick :=
    s.count_tick 32 1 (by unfold Obj.TickNumber Obj.BindOffRequests; omega)
  simp only [State.askBindOff, if_pos idle, tick]
  obtain ⟨phase, start⟩ := (s.count (Obj.BindOffRequests b) 32 1).bindAsked_bind b (s.tick + 2)
    (((s.count (Obj.BindOffRequests b) 32 1).bindMoving b).map fun a => (a, (s.count (Obj.BindOffRequests b) 32 1).cmdVel a))
    none32 none32
  refine ⟨phase, start, ?_⟩
  rw [State.bindAsked_get, State.count, State.get_put_same]
  rfl

/-! ### The ramp (R134, R135, R136) -/

/-- A group whose ramp runs, and what its objects report of it. -/
def State.rampBegun (s : State) (b : Nat) (x : BindRt) : State :=
  (((s.setBind b x).put (Obj.BindOffState b) 1).put (Obj.BindOffDuration b) x.tb).put (Obj.BindOffStartEdge b) x.start

theorem State.rampBegun_get (s : State) (b : Nat) (x : BindRt) :
    (s.rampBegun b x).get (Obj.BindOffState b) = 1 ∧ (s.rampBegun b x).get (Obj.BindOffDuration b) = x.tb ∧
      (s.rampBegun b x).get (Obj.BindOffStartEdge b) = x.start := by
  refine ⟨?_, ?_, State.get_put_same ..⟩
  · rw [State.rampBegun, State.get_put_other _ _ (by unfold Obj.BindOffState Obj.BindOffStartEdge; omega),
      State.get_put_other _ _ (by unfold Obj.BindOffState Obj.BindOffDuration; omega), State.get_put_same]
  · rw [State.rampBegun, State.get_put_other _ _ (by unfold Obj.BindOffDuration Obj.BindOffStartEdge; omega), State.get_put_same]

theorem State.rampBegun_bind (s : State) (b : Nat) (x : BindRt) : (s.rampBegun b x).bind b = x := State.setBind_bind_same ..

/-- What a group's objects and its record hold once its ramp has begun, whatever its members did with it since. -/
theorem State.AxesOnly.ramp {s t : State} {b : Nat} {x : BindRt} (h : (s.rampBegun b x).AxesOnly t) (hb : b < 16) :
    t.bind b = x ∧ t.get (Obj.BindOffState b) = 1 ∧ t.get (Obj.BindOffDuration b) = x.tb ∧
      t.get (Obj.BindOffStartEdge b) = x.start := by
  obtain ⟨state, duration, start⟩ := s.rampBegun_get b x
  exact ⟨(h.bind b).trans (s.rampBegun_bind b x), (h.get _ (by unfold Obj.BindOffState; omega)).trans state,
    (h.get _ (by unfold Obj.BindOffDuration; omega)).trans duration, (h.get _ (by unfold Obj.BindOffStartEdge; omega)).trans start⟩

theorem State.bindCasting_axesOnly (s : State) (b : Nat) : s.AxesOnly (s.bindCasting b) :=
  State.AxesOnly.each (fun t a => (t.abandonRemaining_axesOnly a).setAxis a _) _ s

theorem State.bindEngage_axesOnly (s : State) (b e : Nat) : s.AxesOnly (s.bindEngage b e) :=
  State.AxesOnly.each (fun t a => (((t.flushBeyond_axesOnly a e).setAxis a _).setBitIf _ 5 (by unfold Obj.AxisStatus; omega)).put
    axStopping (by unfold Obj.AxisState; omega)) _ s

/-- The group as its ramp begins with the least limits. -/
def BindRt.ramping (x : BindRt) (r q tb : Nat) : BindRt := { x with phase := 2, r := r, q := q, tb := tb, joined := x.start }

/-- The least of a limit of a group's own members and of what the other devices published. -/
def leastPublished (f : Nat × Nat → Nat) (own : Nat) (published : List (Nat × Nat)) : Nat :=
  published.foldl (fun m p => min m (f p)) own

/-- BIND_OFF_RAMP_START at the start edge of a requested bind-off with a moving member. -/
theorem exec_bindOffRampStart_of_due {b r q : Nat} {published : List (Nat × Nat)} {s : State} (hp : (s.bind b).phase = 1)
    (ht : (s.bind b).start ≤ s.tick) (hr : r = leastPublished Prod.fst (s.bind b).r published)
    (hq : q = leastPublished Prod.snd (s.bind b).q published) (h0 : r ≠ none32) :
    ∃ e, exec (.bindOffRampStart b published) s = .next ((((s.bindCasting b).rampBegun b
      ((s.bind b).ramping r q (curveTicks s.tNs r q))).bindEngage b e).bindRepeat b) := by
  have due : ¬((s.bind b).phase ≠ 1 ∨ s.tick < (s.bind b).start) := not_or.2 ⟨not_not.2 hp, Nat.not_lt.2 ht⟩
  rw [← (s.bindCasting_axesOnly b).tNs]
  subst hr hq
  exact ⟨_, congrArg _ ((if_neg due).trans (if_neg h0))⟩

theorem exec_bindOffEnd_of_due {b : Nat} {s : State} (hp : (s.bind b).phase = 2) (ht : (s.bind b).start + (s.bind b).tb ≤ s.tick) :
    exec (.bindOffEnd b) s = .next (s.bindEnd b) := congrArg _ (if_pos ⟨hp, ht⟩)

theorem exec_bindOffEnd_of_early {b : Nat} {s : State} (ht : s.tick < (s.bind b).start + (s.bind b).tb) :
    exec (.bindOffEnd b) s = .next s := congrArg _ (if_neg fun h => Nat.not_le.2 ht h.2)

theorem State.bindEnd_idle (s : State) (b : Nat) :
    ((s.bindEnd b).bind b).phase = 0 ∧ (s.bindEnd b).get (Obj.BindOffState b) = 0 := by
  simp only [State.bindEnd, State.put_bind, State.setBind_bind_same, State.get_put_same, and_self]

/-- The group of a device that joins a ramp late, from the next edge on. -/
def BindRt.late (start r q tb edge : Nat) : BindRt := { phase := 2, start := start, r := r, q := q, tb := tb, joined := edge }

/-- The members of a group as they join its ramp late, each with its mark. -/
def State.joinMarked (s : State) (b : Nat) : State :=
  (s.bindCasting b).each ((s.bindCasting b).bindMembers b) fun s a => s.setBit (Obj.AxisStatus a) 8

/-- BIND_OFF_JOIN_LATE: the group's ramp begins, and what follows are steps of its members. -/
theorem exec_bindOffJoinLate_of_new {b : Nat} (start r q : Nat) {s : State} (hp : (s.bind b).phase ≠ 2) :
    ∃ t, exec (.bindOffJoinLate b start r q) s = .next t ∧ ((s.joinMarked b).rampBegun b
      (.late start r q (if r = none32 then 0 else curveTicks s.tNs r q) (s.tick + 1))).AxesOnly t := by
  refine ⟨_, congrArg Host.Outcome.next (if_neg hp), ?_⟩
  exact (State.AxesOnly.each (fun t a => (State.AxesOnly.refl t).setBitIf _ 5 (by unfold Obj.AxisStatus; omega)) _ _).trans
    (State.bindEngage_axesOnly _ b _)

theorem exec_bindOffJoinLate_of_ramp {b : Nat} (start r q : Nat) {s : State} (hp : (s.bind b).phase = 2) :
    exec (.bindOffJoinLate b start r q) s = .next s := congrArg _ (if_pos hp)

/-- Settles O23: a ramp begins in its group's record and objects, and the steps of the members leave both. -/
theorem bindOffGroups : Obligations.BindOffGroups := by
  refine ⟨fun b s hb hp => ?_, fun b s hb hp => ?_, fun b value s hb hv => exec_bindOffRequest_of_other_value hb hv,
    fun b r q published s hb hp ht hr hq h0 => ?_, fun b s hp ht => ⟨_, exec_bindOffEnd_of_due hp ht, s.bindEnd_idle b⟩,
    fun b s _ ht => exec_bindOffEnd_of_early ht, fun b start r q s hb hp => ?_,
    fun b start r q s hp => exec_bindOffJoinLate_of_ramp start r q hp⟩
  · rw [exec_bindOffRequest_of_one hb, State.askBindOff_of_ramp hp]
  · exact ⟨_, exec_bindOffRequest_of_one hb, rfl, State.askBindOff_of_idle hb hp⟩
  · obtain ⟨e, ht⟩ := exec_bindOffRampStart_of_due hp ht hr hq h0
    obtain ⟨bind, state, duration, start⟩ := ((State.rampBegun _ b _).bindEngage_axesOnly b e).ramp hb
    obtain ⟨vs, rejoin, repeated⟩ := State.bindRepeat_bind _ b
    rw [bind] at repeated
    exact ⟨_, ht, congrArg BindRt.phase repeated, (State.bindRepeat_get _ b _).trans state, congrArg BindRt.r repeated,
      congrArg BindRt.q repeated, (State.bindRepeat_get _ b _).trans start, (State.bindRepeat_get _ b _).trans duration⟩
  · obtain ⟨t, ht, steps⟩ := exec_bindOffJoinLate_of_new start r q hp
    obtain ⟨bind, -, -, startEdge⟩ := steps.ramp hb
    exact ⟨t, ht, congrArg BindRt.phase bind, congrArg BindRt.joined bind, congrArg BindRt.start bind, startEdge⟩

/-! ### Paths (R137, R138, R139) -/

/-- The members' setpoints, where a path starts. -/
def State.pathFrom (s : State) (p : Nat) : List ℚ :=
  (List.range 6).map fun i => match (s.pathMembers p).lookup i with
    | some a => ((s.axis a).sp : ℚ)
    | none => 0

/-- The elements of a path. -/
def State.pathElems (s : State) (p : Nat) : List PathElem := (List.range (s.nat (Obj.PathElementCount p))).map (s.pathElem p)

/-- The segments planned for a member slot of a path. -/
def State.pathPlan (s : State) (p i : Nat) : List Seg :=
  ((s.pathRuns p (s.pathMembers p) 1025
    (pathPieces (s.nat (Obj.PathArcTolerance p)) (s.pathElems p) (s.pathFrom p) [] 0)).map (memberSegs s.tNs i)).flatten

/-- A path that runs at scale 1. -/
def State.pathBegun (s : State) (p : Nat) : State :=
  ((s.setPath p {}).put (Obj.PathState p) 1).put (Obj.PathScale p) 1073741824

theorem State.pathBegun_get_pathState (s : State) (p : Nat) : (s.pathBegun p).get (Obj.PathState p) = 1 := by
  rw [State.pathBegun, State.get_put_other _ _ (by unfold Obj.PathState Obj.PathScale; omega), State.get_put_same]

theorem State.pathBegun_path (s : State) (p : Nat) : (s.pathBegun p).path p = {} := by
  simp only [State.pathBegun, State.put_path, State.setPath_path_same]

theorem exec_pathStart_outside_run {p : Nat} {s : State} (hp : p < 8) (hr : s.get Obj.DeviceState ≠ devRun) :
    exec (.pathStart p) s = .next (s.reply 0x0701) := congrArg _ ((if_neg (Nat.not_le.2 hp)).trans (if_pos hr))

/-- PATH_START of a path whose members stand and whose plan fits: the members are commanded, and the path runs. -/
theorem exec_pathStart_of_accepted {p : Nat} {s : State} (hp : p < 8) (hr : s.get Obj.DeviceState = devRun)
    (hn : s.nat (Obj.PathElementCount p) ≠ 0) (hm : s.pathMembers p ≠ [])
    (hs : ∀ x ∈ s.pathMembers p, s.get (Obj.AxisState x.2) = axHolding)
    (ha : anyArcBad (s.nat (Obj.PathArcTolerance p)) (s.pathElems p) (s.pathFrom p) = false)
    (hl : ∀ x ∈ s.pathMembers p, (s.pathPlan p x.1).length ≤ 4096) :
    ∃ u : State, exec (.pathStart p) s = .next (u.pathBegun p).done := by
  have stand : ¬((s.pathMembers p).any fun x => s.get (Obj.AxisState x.2) != axHolding) = true := by
    simpa only [List.any_eq_true, bne_iff_ne, not_exists, not_and, not_not] using hs
  have sound : ¬anyArcBad (s.nat (Obj.PathArcTolerance p)) (s.pathElems p) (s.pathFrom p) = true := by rw [ha]; decide
  have fits : ¬((s.pathMembers p).any fun x => decide (4096 < (s.pathPlan p x.1).length)) = true := by
    simpa only [List.any_eq_true, decide_eq_true_eq, not_exists, not_and, Nat.not_lt] using hl
  exact ⟨_, congrArg _ ((if_neg (Nat.not_le.2 hp)).trans ((if_neg (not_not.2 hr)).trans ((if_neg (not_or.2 ⟨hn, hm⟩)).trans
    ((if_neg stand).trans ((if_neg sound).trans (if_neg fits))))))⟩

theorem State.pathRewind_axesOnly (s : State) (p : Nat) : s.AxesOnly (s.pathRewind p) :=
  State.AxesOnly.each (fun t a => t.flushBeyond_axesOnly a _) _ s

/-- A path on a new ramp of its time scale from the next edge, in the state it ramps in. -/
def State.pathRamped (s : State) (p : Nat) (x : PathRt) (v : Int) : State :=
  ((s.setPath p x).pathRewind p).put (Obj.PathState p) v

theorem State.pathRamped_path (s : State) (p : Nat) (x : PathRt) (v : Int) : (s.pathRamped p x v).path p = x :=
  (((s.setPath p x).pathRewind_axesOnly p).path p).trans (State.setPath_path_same ..)

/-- PATH_STOP of a running path: its scale falls from the next edge. -/
theorem exec_pathStop_of_running {p : Nat} {s : State} (hp : p < 8) (hs : s.get (Obj.PathState p) = 1) :
    ∃ x : PathRt, x.falling = true ∧ x.ramping = true ∧ x.start = s.tick + 1 ∧
      exec (.pathStop p) s = .next (s.pathRamped p x 2).done :=
  ⟨_, rfl, rfl, rfl, congrArg _ ((if_neg (Nat.not_le.2 hp)).trans (if_neg (not_not.2 hs)))⟩

theorem exec_pathStop_of_other_state {p : Nat} {s : State} (hp : p < 8) (hs : s.get (Obj.PathState p) ≠ 1) :
    exec (.pathStop p) s = .next (s.reply 0x0703) := congrArg _ ((if_neg (Nat.not_le.2 hp)).trans (if_pos hs))

/-- PATH_RESUME of a stopped path: its scale rises from the next edge. -/
theorem exec_pathResume_of_stopped {p : Nat} {s : State} (hp : p < 8) (hs : s.get (Obj.PathState p) = 3)
    (hr : s.get Obj.DeviceState = devRun) :
    ∃ x : PathRt, x.falling = false ∧ x.ramping = true ∧ x.start = s.tick + 1 ∧
      exec (.pathResume p) s = .next (s.pathRamped p x 1).done :=
  ⟨_, rfl, rfl, rfl, congrArg _ ((if_neg (Nat.not_le.2 hp)).trans
    ((if_neg fun h => h.2 hs).trans (if_neg (not_not.2 hr))))⟩

/-- A path at its start values, at scale 1. -/
def State.pathCleared (s : State) (p : Nat) : State := (s.setPath p {}).put (Obj.PathScale p) 1073741824

theorem State.pathCleared_path (s : State) (p : Nat) : (s.pathCleared p).path p = {} := by
  simp only [State.pathCleared, State.put_path, State.setPath_path_same]

/-- PATH_ABANDON of a path that runs or is stopped: whatever it does to its members, the path ends at its start values. -/
theorem exec_pathAbandon_of_active {p : Nat} {s : State} (hp : p < 8)
    (hs : s.get (Obj.PathState p) = 1 ∨ s.get (Obj.PathState p) = 2 ∨ s.get (Obj.PathState p) = 3) :
    ∃ f : State → Nat → State, exec (.pathAbandon p) s = .next
      ((((s.put (Obj.PathState p) 0).each (((s.put (Obj.PathState p) 0).pathMembers p).map fun x => x.2) f).pathCleared p).done) := by
  have active : ¬(s.get (Obj.PathState p) = 0 ∨ s.get (Obj.PathState p) = 4) := by omega
  exact ⟨_, congrArg _ ((if_neg (Nat.not_le.2 hp)).trans (if_neg active))⟩

theorem exec_pathAbandon_of_idle {p : Nat} {s : State} (hp : p < 8) (hs : s.get (Obj.PathState p) = 0) :
    exec (.pathAbandon p) s = .next s.done := congrArg _ ((if_neg (Nat.not_le.2 hp)).trans (if_pos (.inl hs)))

/-- The state of a path does not decide its members. -/
theorem State.pathMembers_put_pathState (s : State) (p : Nat) (v : Int) :
    (s.put (Obj.PathState p) v).pathMembers p = s.pathMembers p := by
  have member : ∀ i < 6, (s.put (Obj.PathState p) v).nat (Obj.PathAxis p i) = s.nat (Obj.PathAxis p i) := fun i hi =>
    congrArg Int.toNat (s.get_put_other v (by unfold Obj.PathAxis Obj.PathState; omega))
  exact List.filterMap_congr fun i hi =>
    congrArg (fun a => if a < 64 then some (i, a) else none) (member i (List.mem_range.1 hi))

/-- Settles O24: each clause is the law of its command; the members' steps leave the path's own record. -/
theorem pathCommands : Obligations.PathCommands := by
  refine ⟨fun p s hp hr => exec_pathStart_outside_run hp hr, fun p s hp hr hn hm hs hplan => ?_, fun p s hp hs => ?_,
    fun p s hp hs => exec_pathStop_of_other_state hp hs, fun p s hp hs hr => ?_, fun p s hp hs hm => ?_, fun p s hp hs => ?_,
    fun p s hp hs => exec_pathAbandon_of_idle hp hs⟩
  · obtain ⟨sound, fits⟩ := hplan
    obtain ⟨u, ht⟩ := exec_pathStart_of_accepted hp hr hn hm hs sound fits
    exact ⟨_, ht, rfl, u.pathBegun_get_pathState p, State.get_put_same .., u.pathBegun_path p⟩
  · obtain ⟨x, falling, ramping, start, ht⟩ := exec_pathStop_of_running hp hs
    refine ⟨_, ht, rfl, State.get_put_same .., ?_⟩
    rw [State.done_path, s.pathRamped_path p x 2]
    exact ⟨falling, ramping, start⟩
  · obtain ⟨x, falling, ramping, start, ht⟩ := exec_pathResume_of_stopped hp hs hr
    refine ⟨_, ht, rfl, State.get_put_same .., ?_⟩
    rw [State.done_path, s.pathRamped_path p x 1]
    exact ⟨falling, ramping, start⟩
  · obtain ⟨f, ht⟩ := exec_pathAbandon_of_active hp hs
    rw [State.pathMembers_put_pathState, hm] at ht
    exact ht
  · obtain ⟨f, ht⟩ := exec_pathAbandon_of_active hp hs
    exact ⟨_, ht, rfl, State.pathCleared_path _ p, State.get_put_same ..⟩

end Sys2Proof.Machine
end

section
/-! SUPPORT. Engaging and disengaging a graft, and the loss of its remote master (spec/05_grafts_line_shaft.md): what latching a chain
leaves of the registers, and what each command does by the state of its graft. -/

namespace Sys2Proof.Machine

@[simp] theorem State.done_graft (s : State) (k : Nat) : s.done.graft k = s.graft k := rfl

/-! ### Latching a chain (R155) -/

/-- The state after latching the grafts of the chain before graft `k`, the nearest of them for the position `x`. -/
def State.latchedBefore (s : State) (p : Int) (n k : Nat) (x : Option Int) : State :=
  (if s.get (Obj.GraftMasterSource k) = 3 then s.latchChain p n (s.nat (Obj.GraftMasterNumber k)) x else (s, 0)).1

/-- A gear's remainder cleared, its ledger kept in balance. -/
def State.remainderCleared (s : State) (k : Nat) : State :=
  (s.addI64 (Obj.GearFollowerTerm k) (s.get (Obj.GearRemainder k))).put (Obj.GearRemainder k) 0

/-- Latching at a graft changes its record, and of a gear it clears the remainder. -/
theorem State.latchChain_succ (s : State) (p : Int) (n k : Nat) (out : Option Int) :
    ∃ x r, (s.latchChain p (n + 1) k out).1 = (s.latchedBefore p n k x).setGraft k r ∨
      (s.latchChain p (n + 1) k out).1 = ((s.latchedBefore p n k x).remainderCleared k).setGraft k r := by
  rw [State.latchChain]
  split
  · exact ⟨_, _, .inr rfl⟩
  · split
    · exact ⟨_, _, .inl rfl⟩
    · split
      · exact ⟨_, _, .inl rfl⟩
      · exact ⟨_, _, .inl rfl⟩

theorem State.remainderCleared_get_other (s : State) (k : Nat) {j : Nat} (hf : j % 256 ≠ 2) (hr : j % 256 ≠ 3) :
    (s.remainderCleared k).get j = s.get j := by
  rw [State.remainderCleared, State.get_put_other _ _ (by unfold Obj.GearRemainder; omega),
    State.addI64_get_other _ _ (by unfold Obj.GearFollowerTerm; omega)]

/-- Latching a chain writes only the gears' follower terms and remainders, at subindices 2 and 3. -/
theorem State.latchChain_get_other (s : State) (p : Int) (n k : Nat) (out : Option Int) {j : Nat} (hf : j % 256 ≠ 2)
    (hr : j % 256 ≠ 3) : (s.latchChain p n k out).1.get j = s.get j := by
  induction n generalizing k out with
  | zero => rfl
  | succ n ih =>
    have before : ∀ x, (s.latchedBefore p n k x).get j = s.get j := by
      intro x
      rw [State.latchedBefore]
      split
      · exact ih ..
      · rfl
    obtain ⟨x, r, latched | latched⟩ := s.latchChain_succ p n k out
    · rw [latched, State.setGraft_get, before]
    · rw [latched, State.setGraft_get, State.remainderCleared_get_other _ k hf hr, before]

/-! ### Engaging (R154, R155) -/

/-- A command to a graft that exists and names a follower is judged by the graft's state. -/
theorem ite_of_follower {k a : Nat} (hk : k < 128) (ha : a < 64) (unknown unnamed judged : State) :
    (if 128 ≤ k then unknown else if 64 ≤ a then unnamed else judged) = judged :=
  (if_neg (Nat.not_le.2 hk)).trans (if_neg (Nat.not_le.2 ha))

theorem State.engageStatus_of_disabled {s : State} {a : Nat} (k : Nat) (hr : s.get Obj.DeviceState = devRun)
    (hs : s.get (Obj.AxisState a) = axDisabled) : s.engageStatus k a = 0x0703 := by
  have resting : ¬(axDisabled = axStandby ∨ axDisabled = axHolding ∨ axDisabled = axMoving) := by decide
  simp only [State.engageStatus, hr, hs, ne_eq, not_true_eq_false, if_false, resting, not_false_eq_true, if_true]

theorem State.engageStatus_of_clutch {s : State} {k a : Nat} (hr : s.get Obj.DeviceState = devRun)
    (hs : s.get (Obj.AxisState a) = axHolding) (hc : s.chainAbsent k = false) (hk : s.get (Obj.GraftKind k) = 4)
    (he : s.get (Obj.ClutchDistance k) ≠ 0) : s.engageStatus k a = 0 := by
  simp only [State.engageStatus, hr, hs, hc, hk, he, ne_eq, not_true_eq_false, not_false_eq_true, if_false, or_true, true_or,
    and_self, false_and, Bool.false_eq_true]

/-- The chain latched for the follower's position, and the follower Moving with its graft. -/
def State.graftJoined (s : State) (k a : Nat) : State :=
  let t := (s.latchChain (s.ownState a).1 128 k (some (s.ownState a).1)).1
  ((t.setAxis a { t.axis a with engageTo := 0, graftCastOn := none }).put (Obj.AxisState a) axMoving).put
    (Obj.AxisGraftEngaged a) 1

theorem State.graftJoined_get_axisGraftEngaged (s : State) (k a : Nat) :
    (s.graftJoined k a).get (Obj.AxisGraftEngaged a) = 1 := State.get_put_same ..

theorem State.graftJoined_get_axisState (s : State) (k a : Nat) : (s.graftJoined k a).get (Obj.AxisState a) = axMoving := by
  rw [State.graftJoined, State.get_put_other _ _ (by unfold Obj.AxisState Obj.AxisGraftEngaged; omega), State.get_put_same]

/-- Of the registers beyond the axes' own joining writes only those of the gears' ledgers. -/
theorem State.graftJoined_get_other (s : State) (k : Nat) {a j : Nat} (ha : a < 64) (hj : 0x400000 ≤ j) (hf : j % 256 ≠ 2)
    (hr : j % 256 ≠ 3) : (s.graftJoined k a).get j = s.get j := by
  rw [State.graftJoined, State.get_put_other _ _ (by unfold Obj.AxisGraftEngaged; omega),
    State.get_put_other _ _ (by unfold Obj.AxisState; omega), State.setAxis_get, State.latchChain_get_other _ _ _ _ _ hf hr]

/-- A graft in state `v` whose clutch has not travelled, its output at the follower's position `p`. -/
def State.clutchBegun (s : State) (k : Nat) (p v : Int) : State :=
  (s.setGraft k { s.graft k with u := 0, own := p, po := p }).put (Obj.GraftState k) v

theorem State.clutchBegun_get_graftState (s : State) (k : Nat) (p v : Int) :
    (s.clutchBegun k p v).get (Obj.GraftState k) = v := State.get_put_same ..

theorem State.clutchBegun_get_other (s : State) {k j : Nat} (p v : Int) (h : j ≠ Obj.GraftState k) :
    (s.clutchBegun k p v).get j = s.get j := State.get_put_other _ _ h

theorem State.clutchBegun_graft (s : State) (k : Nat) (p v : Int) :
    (s.clutchBegun k p v).graft k = { s.graft k with u := 0, own := p, po := p } := State.setGraft_graft_same ..

/-- R154: over a clutch in mode 1 a graft goes to state 2. -/
theorem State.graftGo_of_clutch {s : State} {k a : Nat} (ha : a < 64) (hk : s.get (Obj.GraftKind k) = 4)
    (he : s.get (Obj.ClutchDistance k) ≠ 0) (hm : s.get (Obj.ClutchEngageMode k) = 1) :
    s.graftGo k a = (s.graftJoined k a).clutchBegun k (s.ownState a).1 2 := by
  have kind : (s.graftJoined k a).get (Obj.GraftKind k) = 4 := by
    rw [s.graftJoined_get_other k ha (by unfold Obj.GraftKind; omega) (by unfold Obj.GraftKind; omega)
      (by unfold Obj.GraftKind; omega), hk]
  have distance : (s.graftJoined k a).get (Obj.ClutchDistance k) ≠ 0 := by
    rwa [s.graftJoined_get_other k ha (by unfold Obj.ClutchDistance; omega) (by unfold Obj.ClutchDistance; omega)
      (by unfold Obj.ClutchDistance; omega)]
  have mode : (s.graftJoined k a).get (Obj.ClutchEngageMode k) ≠ 2 := by
    rw [s.graftJoined_get_other k ha (by unfold Obj.ClutchEngageMode; omega) (by unfold Obj.ClutchEngageMode; omega)
      (by unfold Obj.ClutchEngageMode; omega), hm]
    decide
  exact (if_pos ⟨kind, distance⟩).trans (congrArg ((s.graftJoined k a).clutchBegun k (s.ownState a).1) (if_neg mode))

theorem exec_graftEngage_of_refused {k a : Nat} {s u : State} (hu : u = s.lossesFirst k) (hk : k < 128)
    (hf : u.nat (Obj.GraftFollower k) = a) (ha : a < 64) (hs : u.get (Obj.GraftState k) = 0) (hr : u.engageStatus k a ≠ 0) :
    exec (.graftEngage k) s = .next (u.reply (u.engageStatus k a)) := by
  subst hu hf
  exact congrArg _ ((ite_of_follower hk ha ..).trans ((if_neg (not_not.2 hs)).trans (if_pos hr)))

theorem exec_graftEngage_of_holding {k a : Nat} {s u : State} (hu : u = s.lossesFirst k) (hk : k < 128)
    (hf : u.nat (Obj.GraftFollower k) = a) (ha : a < 64) (hs : u.get (Obj.GraftState k) = 0) (hr : u.engageStatus k a = 0)
    (hh : u.get (Obj.AxisState a) = axHolding) : exec (.graftEngage k) s = .next (u.graftGo k a).done := by
  have notStandby : u.get (Obj.AxisState a) ≠ axStandby := by rw [hh]; decide
  subst hu hf
  exact congrArg _ ((ite_of_follower hk ha ..).trans
    ((if_neg (not_not.2 hs)).trans ((if_neg (not_not.2 hr)).trans (if_neg notStandby))))

theorem exec_graftEngage_of_engaged {k : Nat} {s u : State} (hu : u = s.lossesFirst k) (hk : k < 128)
    (ha : u.nat (Obj.GraftFollower k) < 64) (hs : u.get (Obj.GraftState k) ≠ 0) :
    exec (.graftEngage k) s = .next u.done := by
  subst hu
  exact congrArg _ ((ite_of_follower hk ha ..).trans (if_pos hs))

/-! ### Disengaging (R154, R157) -/

theorem exec_graftDisengage_of_disengaged {k : Nat} {s u : State} (hu : u = s.lossesFirst k) (hk : k < 128)
    (ha : u.nat (Obj.GraftFollower k) < 64) (hs : u.get (Obj.GraftState k) = 0) :
    exec (.graftDisengage k) s = .next u.done := by
  subst hu
  exact congrArg _ ((ite_of_follower hk ha ..).trans (if_pos (.inl hs)))

theorem State.not_disengaging_of_engaged {s : State} {k : Nat} (h : s.get (Obj.GraftState k) = 3) :
    ¬(s.get (Obj.GraftState k) = 0 ∨ s.get (Obj.GraftState k) = 4 ∧ s.get (Obj.ClutchDistance k) ≠ 0) := by
  omega

theorem exec_graftDisengage_of_no_distance {k a : Nat} {s u : State} (hu : u = s.lossesFirst k) (hk : k < 128)
    (hf : u.nat (Obj.GraftFollower k) = a) (ha : a < 64) (hs : u.get (Obj.GraftState k) = 3)
    (he : u.get (Obj.ClutchDistance k) = 0) : exec (.graftDisengage k) s = .next (u.graftDetach a).done := by
  subst hu hf
  exact congrArg _ ((ite_of_follower hk ha ..).trans ((if_neg (State.not_disengaging_of_engaged hs)).trans (if_pos he)))

/-- A graft that starts to disengage from weight `w`, its follower on its own profile. -/
def State.disengageBegun (s : State) (k a : Nat) (w : Int) : State :=
  ((s.setGraft k { s.graft k with u := 0, w0 := w, own := (s.graft k).po, raw := (s.graft k).po }).put
    (Obj.GraftState k) 4).ownFromChain a

theorem exec_graftDisengage_of_distance {k a : Nat} {s u : State} (hu : u = s.lossesFirst k) (hk : k < 128)
    (hf : u.nat (Obj.GraftFollower k) = a) (ha : a < 64) (hs : u.get (Obj.GraftState k) = 3)
    (he : u.get (Obj.ClutchDistance k) ≠ 0) :
    exec (.graftDisengage k) s = .next (u.disengageBegun k a 1073741824).done := by
  subst hu hf
  refine congrArg _ ((ite_of_follower hk ha ..).trans ((if_neg (State.not_disengaging_of_engaged hs)).trans
    ((if_neg he).trans ?_)))
  exact congrArg (fun w => (State.disengageBegun _ k _ w).done) (if_pos hs)

/-! ### Remote masters (R163) -/

theorem exec_remoteMasterLost_of_late {k : Nat} {s : State} (h : s.masterLate k = true) :
    exec (.remoteMasterLost k) s = .next (s.loseMaster k) := congrArg _ (if_pos h)

theorem exec_remoteMasterLost_of_in_time {k : Nat} {s : State} (h : s.masterLate k = false) :
    exec (.remoteMasterLost k) s = .next s := congrArg _ (if_neg (ne_true_of_eq_false h))

/-- Settles O25: each clause is the law of its command; what engaging latches of the chain leaves the clutch's own registers. -/
theorem graftsEngageAndDisengage : Obligations.GraftsEngageAndDisengage := by
  refine ⟨fun k s u hu hk ha hs hr hd => ?_, fun k a s u hu hk hf ha hs hr hh hc h4 he hm _ => ?_,
    fun k s u hu hk ha hs => exec_graftEngage_of_engaged hu hk ha hs,
    fun k a s u hu hk hf ha hs he => exec_graftDisengage_of_distance hu hk hf ha hs he,
    fun k a s u hu hk hf ha hs he => exec_graftDisengage_of_no_distance hu hk hf ha hs he,
    fun k s u hu hk ha hs => exec_graftDisengage_of_disengaged hu hk ha hs,
    fun k s h => exec_remoteMasterLost_of_late h, fun k s h => exec_remoteMasterLost_of_in_time h⟩
  · have refused := State.engageStatus_of_disabled k hr hd
    rw [exec_graftEngage_of_refused hu hk rfl ha hs (by rw [refused]; decide), refused]
  · have run := exec_graftEngage_of_holding hu hk hf ha hs (State.engageStatus_of_clutch hr hh hc h4 he) hh
    rw [State.graftGo_of_clutch ha h4 he hm] at run
    refine ⟨_, run, rfl, State.clutchBegun_get_graftState .., ?_, ?_, ?_, ?_⟩
    · rw [State.done_get, State.clutchBegun_get_other _ _ _ (by unfold Obj.AxisState Obj.GraftState; omega),
        State.graftJoined_get_axisState]
    · rw [State.done_get, State.clutchBegun_get_other _ _ _ (by unfold Obj.AxisGraftEngaged Obj.GraftState; omega),
        State.graftJoined_get_axisGraftEngaged]
    · rw [State.done_graft, State.clutchBegun_graft]
    · rw [State.done_graft, State.clutchBegun_graft]

end Sys2Proof.Machine
end

section
/-! SUPPORT. The banks and the states of a span group (spec/06_coupled_spans.md): what a bank write stores, what clearing a group leaves,
and what each command and each run of ticks does by the state of its group. -/

namespace Sys2Proof.Machine

@[simp] theorem State.done_span (s : State) (g : Nat) : s.done.span g = s.span g := rfl

theorem State.nat_of_get {s : State} {k n : Nat} (h : s.get k = n) : s.nat k = n := by
  rw [State.nat, h, Int.toNat_natCast]

/-! ### Writing a bank (R169, R170) -/

/-- Each byte of a string written is read at its place. -/
theorem Memory.read_writeN_of_getElem? {l : List Byte} {i : Nat} {v : Byte} (m : List Host.Cell) (a : Nat) (h : l[i]? = some v) :
    Memory.read (Memory.writeN m a l) (a + i) = v := by
  induction l generalizing m a i with
  | nil => simp at h
  | cons b l ih =>
    rw [Memory.writeN]
    cases i with
    | zero =>
      rw [Memory.read_writeN_other l _ (a + 1) (a + 0) (by omega), Nat.add_zero, Memory.read_write_same]
      simpa using h
    | succ i =>
      rw [← ih (Memory.write m a b) (a + 1) (by simpa using h), Nat.add_right_comm, Nat.add_assoc]

/-- A bank with the bytes of a write, marked as written. -/
def State.spanBankStored (s : State) (g b off : Nat) (data : List Byte) : State :=
  let mask := (2 ^ data.length - 1) * 2 ^ off
  let r := s.span g
  (s.store (spanBankKey g b) off data).setSpan g
    (if b = 0 then { r with written0 := r.written0 ||| mask } else { r with written1 := r.written1 ||| mask })

theorem State.spanBankStored_mem (s : State) (g b off : Nat) (data : List Byte) :
    (s.spanBankStored g b off data).mem = Memory.writeN s.mem (domAddr (spanBankKey g b) off) data := rfl

theorem State.spanBankStored_regs (s : State) (g b off : Nat) (data : List Byte) :
    (s.spanBankStored g b off data).regs = s.regs := rfl

/-- A write inside a bank is judged by the bank in use and by its bytes. -/
theorem exec_spanBankWrite_inside {g b off : Nat} {data : List Byte} (s : State) (hg : g < 8) (hb : b < 2)
    (hl : off + data.length ≤ 4408) :
    exec (.spanBankWrite g b off data) s = .next
      (if s.nat (Obj.SpanActiveBank g) = b then s.reply 0x0501
      else if s.spanBytesOk g off data = false then s.reply 0x0301
      else (s.spanBankStored g b off data).done) :=
  congrArg _ ((if_neg (Nat.not_le.2 hg)).trans ((if_neg (Nat.not_le.2 hb)).trans (if_neg (by omega))))

/-! ### Selecting a bank (R171) -/

theorem exec_spanBankSelect_of_valid {g value : Nat} {s : State} (hg : g < 8) (hv : value < 2)
    (hb : s.spanBankValid g value = true) :
    exec (.spanBankSelect g value) s = .next (s.put (Obj.SpanBankSelect g) value).done :=
  congrArg _ ((if_neg (Nat.not_le.2 hg)).trans
    (if_neg (not_or.2 ⟨Nat.not_le.2 hv, ne_false_of_eq_true hb⟩)))

theorem exec_spanBankSelect_of_invalid {g value : Nat} {s : State} (hg : g < 8)
    (h : 2 ≤ value ∨ s.spanBankValid g value = false) : exec (.spanBankSelect g value) s = .next (s.reply 0x0301) :=
  congrArg _ ((if_neg (Nat.not_le.2 hg)).trans (if_pos h))

/-- Settles O27: memory holds the bytes of an accepted write at the bank's addresses and elsewhere what it held; the other clauses are
the laws of the two commands. -/
theorem spanBanks : Obligations.SpanBanks := by
  refine ⟨fun g b off data s hg hb hl ha => ?_, fun g b off data s hg hb hl ha ho => ?_, fun g b off data s hg hb hl ha ho => ?_,
    fun g value s hg hv hb => exec_spanBankSelect_of_valid hg hv hb, fun g value s hg h => exec_spanBankSelect_of_invalid hg h⟩
  · rw [exec_spanBankWrite_inside s hg hb hl, if_pos (State.nat_of_get ha)]
  · have run := exec_spanBankWrite_inside s hg hb hl
    rw [if_neg ha, if_neg (ne_false_of_eq_true ho)] at run
    refine ⟨_, run, rfl, s.spanBankStored_regs g b off data, fun x hx => ?_, fun i v hv => ?_⟩
    · rw [State.done_mem, State.spanBankStored_mem, Memory.read_writeN_other _ _ _ _ hx]
    · rw [State.done_mem, State.spanBankStored_mem, Memory.read_writeN_of_getElem? _ _ hv]
  · rw [exec_spanBankWrite_inside s hg hb hl, if_neg ha, if_pos ho]

/-! ### Clearing a group (R179) -/

theorem State.get_put_of_same {s : State} {j : Nat} {v : Int} (k : Nat) (h : s.get j = v) : (s.put k v).get j = v := by
  by_cases e : j = k
  · rw [e, State.get_put_same]
  · rw [State.get_put_other _ _ e, h]

/-- A value that each step of a fold keeps stands after the fold. -/
theorem State.each_get_of_kept {f : State → Nat → State} {j : Nat} {v : Int} (kept : ∀ t i, t.get j = v → (f t i).get j = v)
    (l : List Nat) {s : State} (h : s.get j = v) : (s.each l f).get j = v := by
  induction l generalizing s with
  | nil => exact h
  | cons i l ih => exact ih (kept s i h)

/-- A value that one step of a fold writes and every step keeps stands after the fold. -/
theorem State.each_get_of_written {f : State → Nat → State} {j i : Nat} {v : Int} {l : List Nat} (hi : i ∈ l)
    (kept : ∀ t n, t.get j = v → (f t n).get j = v) (written : ∀ t, (f t i).get j = v) (s : State) : (s.each l f).get j = v := by
  induction l generalizing s with
  | nil => cases hi
  | cons n l ih =>
    rcases List.mem_cons.1 hi with rfl | hl
    · exact State.each_get_of_kept kept l (written s)
    · exact ih hl (f s n)

/-- A fold that writes one value to a family of registers leaves it in each of them. -/
theorem State.each_put_get_same (key : Nat → Nat) (v : Int) {l : List Nat} {i : Nat} (hi : i ∈ l) (s : State) :
    (s.each l fun t n => t.put (key n) v).get (key i) = v :=
  State.each_get_of_written hi (fun _ _ => State.get_put_of_same _) (fun t => t.get_put_same (key i) v) s

/-- The state estimates of a group at 0. -/
def State.spanEstimatesCleared (s : State) (g : Nat) : State :=
  s.each (List.range 16) fun s k => s.put (Obj.SpanStateEstimate g k) 0

/-- The integrals of a group at 0. -/
def State.spanIntegralsCleared (s : State) (g : Nat) : State :=
  s.each (List.range 8) fun s j => s.put (Obj.SpanIntegral g j) 0

/-- The trims of a group at 0. -/
def State.spanTrimsCleared (s : State) (g : Nat) : State :=
  s.each (List.range 8) fun s i => (s.put (Obj.SpanTrimVelocity g i) 0).put (Obj.SpanTrimPosition g i) 0

/-- Clearing a group with its trims clears its registers and then the trims' hidden terms. -/
theorem State.spanZero_with_trims (s : State) (g : Nat) :
    s.spanZero g true =
      (((s.spanEstimatesCleared g).spanIntegralsCleared g).spanTrimsCleared g).setSpan g
        { (((s.spanEstimatesCleared g).spanIntegralsCleared g).spanTrimsCleared g).span g with
          carry := [], clampSign := [], posPrev := [] } := by
  simp only [State.spanZero, State.spanEstimatesCleared, State.spanIntegralsCleared, State.spanTrimsCleared, if_true]

theorem State.spanZero_get (s : State) (g j : Nat) :
    (s.spanZero g true).get j = (((s.spanEstimatesCleared g).spanIntegralsCleared g).spanTrimsCleared g).get j := by
  rw [State.spanZero_with_trims, State.setSpan_get]

theorem State.spanZero_carry (s : State) (g : Nat) : ((s.spanZero g true).span g).carry = [] := by
  rw [State.spanZero_with_trims, State.setSpan_span_same]

theorem State.spanIntegralsCleared_get_of_zero {s : State} {j : Nat} (g : Nat) (h : s.get j = 0) :
    (s.spanIntegralsCleared g).get j = 0 := State.each_get_of_kept (fun _ _ => State.get_put_of_same _) _ h

theorem State.put_trims_get_of_zero {s : State} {j : Nat} (g i : Nat) (h : s.get j = 0) :
    ((s.put (Obj.SpanTrimVelocity g i) 0).put (Obj.SpanTrimPosition g i) 0).get j = 0 :=
  State.get_put_of_same _ (State.get_put_of_same _ h)

theorem State.spanTrimsCleared_get_of_zero {s : State} {j : Nat} (g : Nat) (h : s.get j = 0) :
    (s.spanTrimsCleared g).get j = 0 := State.each_get_of_kept (fun _ i => State.put_trims_get_of_zero g i) _ h

theorem State.spanEstimatesCleared_get_estimate (s : State) (g : Nat) {k : Nat} (hk : k < 16) :
    (s.spanEstimatesCleared g).get (Obj.SpanStateEstimate g k) = 0 :=
  State.each_put_get_same (Obj.SpanStateEstimate g) 0 (List.mem_range.2 hk) s

theorem State.spanIntegralsCleared_get_integral (s : State) (g : Nat) {i : Nat} (hi : i < 8) :
    (s.spanIntegralsCleared g).get (Obj.SpanIntegral g i) = 0 :=
  State.each_put_get_same (Obj.SpanIntegral g) 0 (List.mem_range.2 hi) s

theorem State.spanTrimsCleared_get_position (s : State) (g : Nat) {i : Nat} (hi : i < 8) :
    (s.spanTrimsCleared g).get (Obj.SpanTrimPosition g i) = 0 :=
  State.each_get_of_written (List.mem_range.2 hi) (fun _ n => State.put_trims_get_of_zero g n) (fun _ => State.get_put_same ..) s

theorem State.spanTrimsCleared_get_velocity (s : State) (g : Nat) {i : Nat} (hi : i < 8) :
    (s.spanTrimsCleared g).get (Obj.SpanTrimVelocity g i) = 0 :=
  State.each_get_of_written (List.mem_range.2 hi) (fun _ n => State.put_trims_get_of_zero g n)
    (fun _ => State.get_put_of_same _ (State.get_put_same ..)) s

theorem State.spanZero_get_estimate (s : State) (g : Nat) {k : Nat} (hk : k < 16) :
    (s.spanZero g true).get (Obj.SpanStateEstimate g k) = 0 := by
  rw [State.spanZero_get]
  exact State.spanTrimsCleared_get_of_zero g (State.spanIntegralsCleared_get_of_zero g (s.spanEstimatesCleared_get_estimate g hk))

theorem State.spanZero_get_integral (s : State) (g : Nat) {i : Nat} (hi : i < 8) :
    (s.spanZero g true).get (Obj.SpanIntegral g i) = 0 := by
  rw [State.spanZero_get]
  exact State.spanTrimsCleared_get_of_zero g (State.spanIntegralsCleared_get_integral _ g hi)

theorem State.spanZero_get_position (s : State) (g : Nat) {i : Nat} (hi : i < 8) :
    (s.spanZero g true).get (Obj.SpanTrimPosition g i) = 0 := by
  rw [State.spanZero_get, State.spanTrimsCleared_get_position _ g hi]

theorem State.spanZero_get_velocity (s : State) (g : Nat) {i : Nat} (hi : i < 8) :
    (s.spanZero g true).get (Obj.SpanTrimVelocity g i) = 0 := by
  rw [State.spanZero_get, State.spanTrimsCleared_get_velocity _ g hi]

/-! ### Starting a group (R179) -/

/-- A group that converges, its run counts at 0. -/
def State.spanConverging (s : State) (g : Nat) : State :=
  (s.setSpan g { s.span g with settleRun := 0, divergeRun := 0, staleRun := 0, rangeRun := [] }).put (Obj.SpanState g) 1

theorem State.spanConverging_get_state (s : State) (g : Nat) : (s.spanConverging g).get (Obj.SpanState g) = 1 :=
  State.get_put_same ..

theorem State.spanConverging_get_other (s : State) {g j : Nat} (h : j ≠ Obj.SpanState g) :
    (s.spanConverging g).get j = s.get j := by
  rw [State.spanConverging, State.get_put_other _ _ h, State.setSpan_get]

theorem State.spanConverging_carry (s : State) (g : Nat) : ((s.spanConverging g).span g).carry = (s.span g).carry := by
  rw [State.spanConverging, State.put_span, State.setSpan_span_same]

theorem exec_spanStart_away {g : Nat} {s : State} (hg : g < 8) (hh : s.spanHome g = false) :
    exec (.spanStart g) s = .next (s.reply 0x0701) := congrArg _ ((if_neg (Nat.not_le.2 hg)).trans (if_pos hh))

/-- A command to a known group at its home device is judged, not refused. -/
theorem State.ite_of_spanHome {s : State} {g : Nat} (hg : g < 8) (hh : s.spanHome g = true) (unknown away judged : State) :
    (if 8 ≤ g then unknown else if s.spanHome g = false then away else judged) = judged :=
  (if_neg (Nat.not_le.2 hg)).trans (if_neg (ne_false_of_eq_true hh))

/-- At the home device a group that runs goes on; else its conditions decide, and one that was off begins from zero. -/
theorem exec_spanStart_at_home {g : Nat} {s u : State} (hu : u = s.spanDue g) (hg : g < 8) (hh : s.spanHome g = true) :
    exec (.spanStart g) s = .next
      (if u.nat (Obj.SpanState g) = 1 ∨ u.nat (Obj.SpanState g) = 2 then u.done
      else if u.spanStartStatus g ≠ 0 then u.reply (u.spanStartStatus g)
      else ((if u.nat (Obj.SpanState g) = 0 then u.spanZero g true else u).spanConverging g).done) := by
  subst hu
  exact congrArg _ (State.ite_of_spanHome hg hh ..)

theorem exec_spanStart_of_running {g : Nat} {s u : State} (hu : u = s.spanDue g) (hg : g < 8) (hh : s.spanHome g = true)
    (hs : u.get (Obj.SpanState g) = 1 ∨ u.get (Obj.SpanState g) = 2) : exec (.spanStart g) s = .next u.done := by
  rw [exec_spanStart_at_home hu hg hh, if_pos (hs.imp State.nat_of_get State.nat_of_get)]

theorem exec_spanStart_of_suspended {g : Nat} {s u : State} (hu : u = s.spanDue g) (hg : g < 8) (hh : s.spanHome g = true)
    (hs : u.get (Obj.SpanState g) = 3) (hc : u.spanStartStatus g = 0) :
    exec (.spanStart g) s = .next (u.spanConverging g).done := by
  have state : u.nat (Obj.SpanState g) = 3 := State.nat_of_get hs
  rw [exec_spanStart_at_home hu hg hh, if_neg (by omega), if_neg (not_not.2 hc), if_neg (by omega)]

theorem exec_spanStart_of_off {g : Nat} {s u : State} (hu : u = s.spanDue g) (hg : g < 8) (hh : s.spanHome g = true)
    (hs : u.get (Obj.SpanState g) = 0) (hc : u.spanStartStatus g = 0) :
    exec (.spanStart g) s = .next ((u.spanZero g true).spanConverging g).done := by
  have state : u.nat (Obj.SpanState g) = 0 := State.nat_of_get hs
  rw [exec_spanStart_at_home hu hg hh, if_neg (by omega), if_neg (not_not.2 hc), if_pos state]

/-! ### Releasing a group (R179) -/

theorem exec_spanRelease_of_active {g : Nat} {s u : State} (hu : u = s.spanDue g) (hg : g < 8) (hh : s.spanHome g = true)
    (hs : u.get (Obj.SpanState g) = 1 ∨ u.get (Obj.SpanState g) = 2 ∨ u.get (Obj.SpanState g) = 3) :
    exec (.spanRelease g) s = .next (u.put (Obj.SpanState g) 4).done := by
  have active : ¬(u.nat (Obj.SpanState g) = 0 ∨ u.nat (Obj.SpanState g) = 4) := by
    unfold State.nat
    omega
  subst hu
  exact congrArg _ ((State.ite_of_spanHome hg hh ..).trans (if_neg active))

/-! ### Runs of ticks (R175, R177, R179) -/

theorem exec_spanSettled_of_run {g : Nat} {s : State} (hs : s.get (Obj.SpanState g) = 1)
    (hr : s.natInUse (Obj.SpanSettleTicks g) < (s.span g).settleRun) :
    exec (.spanSettled g) s = .next (s.put (Obj.SpanState g) 2) := congrArg _ (if_pos ⟨hs, hr⟩)

theorem exec_spanObserverDiverged_of_run {g : Nat} {s : State} (hs : s.get (Obj.SpanState g) = 2)
    (hr : s.natInUse (Obj.SpanSettleTicks g) < (s.span g).divergeRun) :
    exec (.spanObserverDiverged g) s = .next ((s.put (Obj.SpanState g) 3).setBit (Obj.SpanStatus g) 2) :=
  congrArg _ (if_pos ⟨hs, hr⟩)

theorem exec_spanTensionOutOfRange_of_run {g j n : Nat} {s : State} (hn : (s.span g).rangeRun.lookup j = some n)
    (hr : s.natInUse (Obj.SpanRangeTicks g) < n) :
    exec (.spanTensionOutOfRange g j) s = .next ((s.setBit (Obj.SpanStatus g) 4).raiseOnce fkSpanRange g) :=
  congrArg _ (if_pos (by rwa [hn]))

theorem exec_spanDataStale_of_run {g : Nat} {s : State} (hr : s.natInUse (Obj.SpanStaleLimit g) < (s.span g).staleRun)
    (hs : s.get (Obj.SpanState g) = 1 ∨ s.get (Obj.SpanState g) = 2) :
    exec (.spanDataStale g) s = .next ((s.put (Obj.SpanState g) 3).raiseOnce fkSpanStale g) := congrArg _ (if_pos ⟨hr, hs⟩)

/-- Settles O26: each clause is the law of its command or event; a start from off writes the state beside the registers it clears. -/
theorem spanGroupsChangeState : Obligations.SpanGroupsChangeState := by
  refine ⟨fun g s hg hh => exec_spanStart_away hg hh, fun g s u hu hg hh hs => exec_spanStart_of_running hu hg hh hs,
    fun g s u hu hg hh hs hc => exec_spanStart_of_suspended hu hg hh hs hc, fun g s u hu hg hh hs hc => ?_,
    fun g s u hu hg hh hs => exec_spanRelease_of_active hu hg hh hs, fun g s hs hr => exec_spanSettled_of_run hs hr,
    fun g s hs hr => exec_spanObserverDiverged_of_run hs hr, fun g j n s hn hr => exec_spanTensionOutOfRange_of_run hn hr,
    fun g s hr hs => exec_spanDataStale_of_run hr hs⟩
  refine ⟨_, exec_spanStart_of_off hu hg hh hs hc, State.done_resp _, ?_, fun i hi => ⟨?_, ?_, ?_⟩,
    fun k hk => ?_, ?_⟩
  · rw [State.done_get, State.spanConverging_get_state]
  · rw [State.done_get, State.spanConverging_get_other _ (by unfold Obj.SpanTrimPosition Obj.SpanState; omega),
      u.spanZero_get_position g hi]
  · rw [State.done_get, State.spanConverging_get_other _ (by unfold Obj.SpanTrimVelocity Obj.SpanState; omega),
      u.spanZero_get_velocity g hi]
  · rw [State.done_get, State.spanConverging_get_other _ (by unfold Obj.SpanIntegral Obj.SpanState; omega),
      u.spanZero_get_integral g hi]
  · rw [State.done_get, State.spanConverging_get_other _ (by unfold Obj.SpanStateEstimate Obj.SpanState; omega),
      u.spanZero_get_estimate g hk]
  · rw [State.done_span, State.spanConverging_carry, State.spanZero_carry]

end Sys2Proof.Machine
end

section
/-! SUPPORT. The following error and the status records of network axes (spec/07_servo_loops.md): what a raise leaves of the
registers, and what a record in time, a late record and a run of ticks do. -/

namespace Sys2Proof.Machine

/-! ### What a raise leaves (R432, R436) -/

/-- The registers of the tick and of the row's loads, those below `RowStatus`, stand in `t` as they did in `s`. -/
structure State.TickKept (s t : State) : Prop where
  get : ∀ j < Obj.RowStatus, t.get j = s.get j

theorem State.TickKept.refl (s : State) : s.TickKept s := ⟨fun _ _ => rfl⟩

theorem State.TickKept.trans {s t u : State} (h : s.TickKept t) (k : t.TickKept u) : s.TickKept u :=
  ⟨fun j hj => (k.get j hj).trans (h.get j hj)⟩

theorem State.TickKept.put {s t : State} (h : s.TickKept t) {k : Nat} {v : Int} (hk : Obj.RowStatus ≤ k) :
    s.TickKept (t.put k v) := h.trans ⟨fun _ hj => t.get_put_other v (Nat.ne_of_lt (Nat.lt_of_lt_of_le hj hk))⟩

theorem State.TickKept.setBit {s t : State} (h : s.TickKept t) {k : Nat} (i : Nat) (hk : Obj.RowStatus ≤ k) :
    s.TickKept (t.setBit k i) := h.put hk

/-- Where the registers stand, whatever else changed. -/
theorem State.TickKept.of_regs {s t : State} (h : t.regs = s.regs) : s.TickKept t :=
  ⟨fun _ _ => by rw [State.get, h, State.get]⟩

theorem State.TickKept.ite {s t u : State} {c : Prop} [Decidable c] (h : s.TickKept t) (k : s.TickKept u) :
    s.TickKept (if c then t else u) := by
  split
  · exact h
  · exact k

theorem State.TickKept.each {f : State → Nat → State} (h : ∀ t n, State.TickKept t (f t n)) (l : List Nat) (s : State) :
    s.TickKept (s.each l f) := by
  induction l generalizing s with
  | nil => exact .refl s
  | cons n l ih => exact (h s n).trans (ih (f s n))

theorem State.TickKept.tick {s t : State} (h : s.TickKept t) : t.tick = s.tick := by
  simp only [State.tick, State.nat, h.get Obj.TickNumber (by decide)]

/-- The active bits stand in the objects of the faults. -/
theorem faults_le_activeAt (k i : Nat) : 0x270000 ≤ (activeAt k i).1 := by
  unfold activeAt Obj.FaultActive Obj.FaultActiveHigh
  split
  · dsimp only
    omega
  · dsimp only
    omega

/-- The objects of the faults end before those of the axes. -/
theorem activeAt_lt_axes {k : Nat} (hk : k < 256) (i : Nat) : (activeAt k i).1 < 0x300000 := by
  unfold activeAt Obj.FaultActive Obj.FaultActiveHigh
  split
  · dsimp only
    omega
  · dsimp only
    omega

theorem rowStatus_le_activeAt (k i : Nat) : Obj.RowStatus ≤ (activeAt k i).1 :=
  Nat.le_trans (by decide) (faults_le_activeAt k i)

theorem rowStatus_le_stickyAt (k i : Nat) : Obj.RowStatus ≤ (stickyAt k i).1 := by
  unfold stickyAt Obj.FaultSticky Obj.FaultStickyHigh Obj.RowStatus
  split
  · dsimp only
    omega
  · dsimp only
    omega

theorem State.setActive_tickKept (s : State) (k i : Nat) (v : Bool) : s.TickKept (s.setActive k i v) :=
  ⟨fun _ hj => State.setActive_get_other v (Nat.ne_of_lt (Nat.lt_of_lt_of_le hj (rowStatus_le_activeAt k i)))⟩

theorem State.logAppend_tickKept (s : State) (e : LogEntry) : s.TickKept (s.logAppend e) := by
  unfold State.logAppend
  exact .ite (.of_regs rfl) (.put (.refl s) (by decide))

theorem State.logRaise_tickKept (s : State) (e : LogEntry) : s.TickKept (s.logRaise e) := by
  unfold State.logRaise
  dsimp only
  split
  · exact .ite (.of_regs rfl) (s.logAppend_tickKept e)
  · exact .of_regs rfl
  · exact s.logAppend_tickKept e

theorem State.acqCondition_tickKept (s : State) (kind source value time : Nat) :
    s.TickKept (s.acqCondition kind source value time) := by
  unfold State.acqCondition
  exact .ite (.of_regs rfl) (.refl s)

theorem State.acqMark_tickKept (s : State) (time kind source value : Nat) : s.TickKept (s.acqMark time kind source value) := by
  have full : s.TickKept { s with acq := { s.acq with flags := setBitN s.acq.flags 7 } } := .of_regs rfl
  unfold State.acqMark
  exact .ite (.of_regs rfl) (full.setBit 4 (by decide))

theorem State.acqEvent_tickKept (s : State) (bit kind source value time : Nat) :
    s.TickKept (s.acqEvent bit kind source value time) := by
  have condition := s.acqCondition_tickKept kind source value time
  unfold State.acqEvent
  exact .ite (condition.trans (State.acqMark_tickKept ..)) condition

/-- What a raise records stands in the objects of the faults and of the acquisition. -/
theorem State.raiseRecord_tickKept (s : State) (k i : Nat) (value : Int) (forced lasting : Bool) :
    s.TickKept (s.raiseRecord k i value forced lasting) := by
  unfold State.raiseRecord
  extract_lets _ sticky counted active e logged _ fatal
  have sticky_kept : s.TickKept sticky := .setBit (.refl s) _ (rowStatus_le_stickyAt k i)
  have counted_kept : s.TickKept counted := .put sticky_kept (by unfold Obj.FaultCount Obj.RowStatus; omega)
  have active_kept : s.TickKept active := .ite (counted_kept.trans (counted.setActive_tickKept k i true)) counted_kept
  have logged_kept : s.TickKept logged := (active_kept.trans (active.logRaise_tickKept e)).trans (State.acqEvent_tickKept ..)
  have fatal_kept : s.TickKept fatal := .ite (logged_kept.trans (.of_regs rfl)) logged_kept
  exact .put fatal_kept (by decide)

theorem State.abandonRemaining_tickKept (s : State) (a : Nat) : s.TickKept (s.abandonRemaining a) :=
  ⟨fun j hj => (s.abandonRemaining_axesOnly a).get j (Nat.lt_trans hj (by decide))⟩

theorem State.graftDrop_tickKept (s : State) (a : Nat) : s.TickKept (s.graftDrop a) := by
  unfold State.graftDrop
  refine .ite (.put (.put (.put (.refl s) ?_) ?_) ?_) (.refl s)
  · unfold Obj.AxisGraftEngaged Obj.RowStatus
    omega
  · unfold Obj.GraftState Obj.RowStatus
    omega
  · unfold Obj.GraftStatus Obj.RowStatus
    omega

theorem rowStatus_le_axisState (a : Nat) : Obj.RowStatus ≤ Obj.AxisState a := by unfold Obj.AxisState Obj.RowStatus; omega

theorem rowStatus_le_gangState (g : Nat) : Obj.RowStatus ≤ Obj.GangState g := by unfold Obj.GangState Obj.RowStatus; omega

theorem State.setAxis_tickKept (s : State) (a : Nat) (r : AxisRt) : s.TickKept (s.setAxis a r) := .of_regs rfl

theorem State.TickKept.axisEntered {s t : State} (h : s.TickKept t) (a : Nat) (r : AxisRt) (v : Int) :
    s.TickKept ((t.setAxis a r).put (Obj.AxisState a) v) :=
  .put (h.trans (t.setAxis_tickKept a r)) (rowStatus_le_axisState a)

theorem State.askStop_tickKept (s : State) (a key : Nat) (keep : Bool) : s.TickKept (s.askStop a key keep) := by
  have asked := fun r => State.TickKept.axisEntered (.refl s) (s.leaderOf a) r axStopping
  unfold State.askStop
  dsimp only
  refine .ite ?_ (.refl s)
  split
  · exact .put (asked _) (rowStatus_le_gangState _)
  · exact asked _

theorem State.axisToFaulted_tickKept (s : State) (a : Nat) : s.TickKept (s.axisToFaulted a) := by
  have dropped := (s.abandonRemaining_tickKept a).trans (State.graftDrop_tickKept _ a)
  have faulted := fun r => dropped.axisEntered a r axFaulted
  unfold State.axisToFaulted
  dsimp only
  refine .ite (.refl s) ?_
  split
  · exact .put ((faulted _).trans (State.askStop_tickKept ..)) (rowStatus_le_gangState _)
  · exact faulted _

theorem State.sendSetpoint_regs (s : State) (a : Nat) (record : List Int) (now : Bool) :
    (s.sendSetpoint a record now).regs = s.regs := by
  unfold State.sendSetpoint
  split
  · split
    · exact s.sendFrame_regs ..
    · rfl
  · exact s.exPost_regs ..

/-- A stop of axes sends records and brings each axis to Faulted. -/
theorem State.reactS_tickKept (s : State) (axes : List Nat) : s.TickKept (s.reactS axes) := by
  unfold State.reactS
  refine .trans ?_ (.each State.axisToFaulted_tickKept axes _)
  refine .trans (.trans ?_ (.each (fun t a => .of_regs (t.sendSetpoint_regs ..)) _ _)) (.of_regs rfl)
  exact .ite (.refl s) (.of_regs rfl)

theorem State.nerrLow_tickKept (s : State) (k : Nat) : s.TickKept (s.nerrLow k) :=
  have driven : s.TickKept (s.put Obj.NerrState 1) := .put (.refl s) (by decide)
  driven.trans (.of_regs rfl)

/-- A reaction drives `NERR` and stops axes; its other parts are asked for, not carried out. -/
theorem State.react_tickKept (s : State) (k i set : Nat) : s.TickKept (s.react k i set) := by
  have low : s.TickKept (if set.testBit 2 then s.nerrLow k else s) := .ite (s.nerrLow_tickKept k) (.refl s)
  have stopped := (low.trans (State.reactS_tickKept _ (s.faultAxes k i))).ite (c := set.testBit 4 = true) low
  unfold State.react
  dsimp only
  refine .ite (stopped.trans (.of_regs rfl)) (stopped.trans (.of_regs ?_))
  simp only [apply_ite State.regs, State.reactB, State.send, ite_self]

theorem State.raiseWith_tickKept (s : State) (k i : Nat) (value : Int) (forced lasting : Bool) :
    s.TickKept (s.raiseWith k i value forced lasting) :=
  (s.raiseRecord_tickKept k i value forced lasting).trans (State.react_tickKept ..)

/-! ### Lasting conditions of a record's flags (R200) -/

theorem State.follows_tickKept (s : State) (k i : Nat) (present : Bool) : s.TickKept (s.follows k i present) := by
  unfold State.follows
  exact .ite (.ite (.refl s) (s.raiseWith_tickKept ..)) (.ite (s.setActive_tickKept ..) (.refl s))

theorem State.follows_of_absent {s : State} {k i : Nat} (h : s.faultActive k i = false) : s.follows k i false = s :=
  if_neg (ne_true_of_eq_false h)

/-- A condition stands where a register outside the objects of the faults is written. -/
theorem State.put_faultActive (s : State) {k key : Nat} (i : Nat) (v : Int) (h : key < 0x270000 ∨ 0x300000 ≤ key ∧ k < 256) :
    (s.put key v).faultActive k i = s.faultActive k i := by
  have apart : (activeAt k i).1 ≠ key := by
    rcases h with below | ⟨above, hk⟩
    · exact Nat.ne_of_gt (Nat.lt_of_lt_of_le below (faults_le_activeAt k i))
    · exact Nat.ne_of_lt (Nat.lt_of_lt_of_le (activeAt_lt_axes hk i) above)
  simp only [State.faultActive, State.bit, State.nat, s.get_put_other v apart]

theorem State.inputCount_faultActive (s : State) {key : Nat} (k i : Nat) (hk : key < 0x270000) :
    (s.inputCount key).faultActive k i = s.faultActive k i :=
  (State.put_faultActive _ i _ (.inl hk)).trans (s.put_faultActive i _ (.inl (by decide)))

@[simp] theorem State.setBitIf_false (s : State) (k i : Nat) : s.setBitIf false k i = s := rfl

theorem State.setBitIf_faultActive (s : State) (c : Bool) {k key : Nat} (b i : Nat) (h : 0x300000 ≤ key ∧ k < 256) :
    (s.setBitIf c key b).faultActive k i = s.faultActive k i := by
  cases c
  · rfl
  · exact s.put_faultActive i _ (.inr h)

theorem State.setBitIf_axis (s : State) (c : Bool) (k i a : Nat) : (s.setBitIf c k i).axis a = s.axis a := by
  cases c
  · rfl
  · rfl

theorem State.TickKept.setBitIf {s t : State} (h : s.TickKept t) (c : Bool) {k : Nat} (i : Nat) (hk : Obj.RowStatus ≤ k) :
    s.TickKept (t.setBitIf c k i) := .ite (h.setBit i hk) h

theorem State.inputCount_get_other (s : State) {key j : Nat} (hr : j ≠ Obj.SumInputFrameReceived) (hk : j ≠ key) :
    (s.inputCount key).get j = s.get j := by
  rw [State.inputCount, State.count_get_other _ _ _ hk, State.count_get_other _ _ _ hr]

/-! ### What a record in time says (R22, R199, R200) -/

/-- A record, whatever it says, is of the present tick: it leaves the tick's own registers. -/
theorem State.netStatus_tickKept (s : State) (a drive flags : Nat) (p v t : Int) :
    s.TickKept (s.netStatus a drive flags p v t) := by
  have bit : ∀ {u : State} (c i), s.TickKept u → s.TickKept (u.setBitIf c (Obj.LoopStatus a) i) := fun c i h =>
    h.setBitIf c i (by unfold Obj.LoopStatus Obj.RowStatus; omega)
  have follows : ∀ {u : State} (k c), s.TickKept u → s.TickKept (u.follows k a c) := fun k c h =>
    h.trans (State.follows_tickKept ..)
  have drive : ∀ v, s.TickKept (s.put (Obj.NetAxisDriveState a) v) := fun v =>
    .put (.refl s) (by unfold Obj.NetAxisDriveState Obj.RowStatus; omega)
  unfold State.netStatus
  refine .trans (follows _ _ (bit _ _ (follows _ _ (bit _ _ (.ite ?_ (drive _)))))) (State.setAxis_tickKept ..)
  refine .trans (.put (.put (.put (drive _) ?_) ?_) ?_) (State.raiseWith_tickKept ..)
  · unfold Obj.NetAxisLateReports Obj.RowStatus
    omega
  · unfold Obj.AxisStatus Obj.RowStatus
    omega
  · exact Nat.le_refl _

/-- Whatever else a record says, its values and its degraded mark are held for the next latch. -/
theorem State.netStatus_axis (s : State) (a drive flags : Nat) (p v t : Int) :
    ((s.netStatus a drive flags p v t).axis a).netDegraded = bitAt flags 1 ∧
      ((s.netStatus a drive flags p v t).axis a).netRec = some (if bitAt flags 2 then none else some (p, v), t) := by
  unfold State.netStatus
  rw [State.setAxis_axis_same]
  exact ⟨rfl, rfl⟩

/-- A drive that is not faulted, in a record that reports no late setpoint, no invalid feedback and no withdrawn gate
enable, is taken as it is. -/
theorem State.netStatus_of_sound {s : State} {a drive flags : Nat} (p v t : Int) (hd : drive ≤ 2)
    (late : bitAt flags 0 = false) (invalid : bitAt flags 2 = false) (withdrawn : bitAt flags 4 = false)
    (hn : s.faultActive fkNetDrive a = false) (hf : s.faultActive fkNetFeedback a = false) :
    s.netStatus a drive flags p v t =
      ((s.put (Obj.NetAxisDriveState a) drive).setBitIf (bitAt flags 1) (Obj.LoopStatus a) 1).setAxis a
        { s.axis a with netRec := some (some (p, v), t), netDegraded := bitAt flags 1 } := by
  have known : (if drive ≤ 3 then drive else 3) = drive := if_pos (by omega)
  have sound : (drive == 3) = false := beq_eq_false_iff_ne.2 (by omega)
  have driven : 0x300000 ≤ Obj.NetAxisDriveState a := by unfold Obj.NetAxisDriveState; omega
  have looped : 0x300000 ≤ Obj.LoopStatus a := by unfold Obj.LoopStatus; omega
  have drive_absent : (s.put (Obj.NetAxisDriveState a) drive).faultActive fkNetDrive a = false :=
    (s.put_faultActive a _ (.inr ⟨driven, by decide⟩)).trans hn
  have feedback_absent : ((s.put (Obj.NetAxisDriveState a) drive).setBitIf (bitAt flags 1) (Obj.LoopStatus a) 1).faultActive
      fkNetFeedback a = false :=
    (State.setBitIf_faultActive _ _ 1 a ⟨looped, by decide⟩).trans
      ((s.put_faultActive a _ (.inr ⟨driven, by decide⟩)).trans hf)
  simp only [State.netStatus, known, late, invalid, withdrawn, sound, Bool.false_and, Bool.or_self, Bool.false_eq_true, if_false,
    State.setBitIf_false, State.follows_of_absent drive_absent, State.follows_of_absent feedback_absent, State.setBitIf_axis]
  rfl

/-! ### The record's time (R20, R199) -/

/-- An axis that is none of the device's own and is configured as a network axis takes records. -/
theorem netRecord_taken {a : Nat} {s : State} (h16 : 16 ≤ a) (h64 : a < 64) (hk : s.flag (Obj.NetAxisKind a) = true) :
    (isLocal a || decide (64 ≤ a) || !s.flag (Obj.NetAxisKind a)) = false := by
  have notLocal : isLocal a = false := decide_eq_false (Nat.not_lt.2 h16)
  have exists_axis : decide (64 ≤ a) = false := decide_eq_false (Nat.not_le.2 h64)
  rw [notLocal, exists_axis, hk]
  rfl

theorem exec_netStatusRecord_of_other_axis {a : Nat} {s : State} (stamp drive flags : Nat) (p v t : Int)
    (hk : s.flag (Obj.NetAxisKind a) = false) : exec (.netStatusRecord a stamp drive flags p v t) s = .next s :=
  congrArg _ (if_pos (by rw [hk, Bool.not_false, Bool.or_true]))

/-- A record stamped for the latest edge is an input for the next one, accepted and taken. -/
theorem exec_netStatusRecord_of_present {a : Nat} {s : State} (drive flags : Nat) (p v t : Int) (h16 : 16 ≤ a) (h64 : a < 64)
    (hk : s.flag (Obj.NetAxisKind a) = true) :
    exec (.netStatusRecord a s.tick drive flags p v t) s =
      .next ((s.inputCount Obj.SumInputFrameAccepted).netStatus a drive flags p v t) := by
  have inTime : ¬(!decide (s.tick = s.tick ∨ s.tick + 1 = s.tick ∧ s.row.window = true)) = true := by simp
  have sameTick : s.tick = ((s.inputCount Obj.SumInputFrameAccepted).netStatus a drive flags p v t).tick := by
    rw [(State.netStatus_tickKept ..).tick, State.inputCount, State.count_tick _ _ _ (by decide),
      State.count_tick _ _ _ (by decide)]
  exact congrArg _ ((if_neg (ne_true_of_eq_false (netRecord_taken h16 h64 hk))).trans ((if_neg inTime).trans (if_pos sameTick)))

/-- A record for another tick is late: it counts and marks the row. Only over path 1, the exchange chain, does it
make its origin late. -/
theorem exec_netStatusRecord_of_late {a stamp : Nat} {s : State} (drive flags : Nat) (p v t : Int) (h16 : 16 ≤ a) (h64 : a < 64)
    (hk : s.flag (Obj.NetAxisKind a) = true) (hs : stamp ≠ s.tick) (hw : stamp + 1 ≠ s.tick ∨ s.row.window = false)
    (hp : s.get (Obj.NetAxisPath a) ≠ 1) :
    exec (.netStatusRecord a stamp drive flags p v t) s =
      .next ((s.inputCount Obj.SumInputFrameLate).setBit Obj.RowStatus 7) := by
  have late : (!decide (stamp = s.tick ∨ stamp + 1 = s.tick ∧ s.row.window = true)) = true := by
    rcases hw with before | closed
    · simp [hs, before]
    · simp [hs, closed]
  have path : ((s.inputCount Obj.SumInputFrameLate).setBit Obj.RowStatus 7).get (Obj.NetAxisPath a) ≠ 1 := by
    rw [State.setBit_get_other _ _ (by unfold Obj.NetAxisPath Obj.RowStatus; omega),
      State.inputCount_get_other _ (by unfold Obj.NetAxisPath Obj.SumInputFrameReceived; omega)
        (by unfold Obj.NetAxisPath Obj.SumInputFrameLate; omega)]
    exact hp
  exact congrArg _ ((if_neg (ne_true_of_eq_false (netRecord_taken h16 h64 hk))).trans ((if_pos late).trans (if_neg path)))

/-! ### Runs of ticks (R194, R200) -/

theorem exec_followingError_of_run {a : Nat} {s : State} (h : s.natInUse (Obj.FollowingErrorTicks a) < (s.axis a).followRun) :
    exec (.followingError a) s = .next ((s.setBit (Obj.LoopStatus a) 7).raiseOnce fkFollowing a) := congrArg _ (if_pos h)

theorem exec_followingError_of_short_run {a : Nat} {s : State}
    (h : (s.axis a).followRun ≤ s.natInUse (Obj.FollowingErrorTicks a)) : exec (.followingError a) s = .next s :=
  congrArg _ (if_neg (Nat.not_lt.2 h))

theorem exec_netAxisLost_of_run {a : Nat} {s : State}
    (h : s.natInUse (Obj.NetAxisStatusLossCount a) < (s.axis a).netLateRun) :
    exec (.netAxisLost a) s = .next (s.raiseOnce fkNetLost a) := congrArg _ (if_pos h)

theorem exec_netAxisLost_of_short_run {a : Nat} {s : State}
    (h : (s.axis a).netLateRun ≤ s.natInUse (Obj.NetAxisStatusLossCount a)) : exec (.netAxisLost a) s = .next s :=
  congrArg _ (if_neg (Nat.not_lt.2 h))

/-- Settles O28: each clause is the law of its command; a record for the present tick leaves the tick, so that its values wait
for the next latch. -/
theorem followingAndNetworkAxes : Obligations.FollowingAndNetworkAxes := by
  refine ⟨fun a s h => exec_followingError_of_run h, fun a s h => exec_followingError_of_short_run h,
    fun a drive flags p v t s h16 h64 hk hd late invalid withdrawn hn hf => ?_, fun a drive flags p v t s h16 h64 hk => ?_,
    fun a stamp drive flags p v t s h16 h64 hk hs hw hp => exec_netStatusRecord_of_late drive flags p v t h16 h64 hk hs hw hp,
    fun a stamp drive flags p v t s hk => exec_netStatusRecord_of_other_axis stamp drive flags p v t hk,
    fun a s h => exec_netAxisLost_of_run h, fun a s h => exec_netAxisLost_of_short_run h⟩
  · have counted := fun k => s.inputCount_faultActive (key := Obj.SumInputFrameAccepted) k a (by decide)
    rw [exec_netStatusRecord_of_present drive flags p v t h16 h64 hk,
      State.netStatus_of_sound p v t hd late invalid withdrawn ((counted _).trans hn) ((counted _).trans hf)]
    rfl
  · exact ⟨_, exec_netStatusRecord_of_present drive flags p v t h16 h64 hk, State.netStatus_axis ..⟩

end Sys2Proof.Machine
end

section
/-! SUPPORT. The feedback channels (spec/08_feedback.md): edges that are rejected, what latching an SSI frame, setting a count and
shifting axes leave of a channel, and the commands of `FbCommand`. -/

namespace Sys2Proof.Machine

/-! ### Edges of the count lines (R205, R207) -/

/-- Where nothing was written directly since the edge, an event meets the values stored (R51). -/
theorem viaEdge_of_no_direct_write {s : State} (h : s.oldVals = []) (f : State → Host.Outcome State Fault Refusal) :
    viaEdge f s = f s := by
  have rewritten : ∀ t, s.rewritten t = t := fun t => by rw [State.rewritten, h]; rfl
  have inForce : s.inForce = s := by rw [State.inForce, h]; rfl
  unfold viaEdge
  rw [inForce]
  split
  · next t e => rw [rewritten, e]
  · rfl

/-- An edge on a count line of a type-1 channel without an interval filter and without an edge that waits is judged at once;
against a change of the direction line in the channel's record it is too soon where its sample lies before that change. -/
theorem exec_encoderEdge_of_no_interval {c at8 lines d : Nat} {s : State} (hw : s.oldVals = []) (ht : s.get (Obj.FbType c) = 1)
    (hi : s.get (Obj.FbMinEdgeInterval c) = 0) (hp : (s.fb c).pend = none) (hd : (s.fb c).dirTime = some d)
    (hl : (s.fb c).lines &&& 3 ≠ lines &&& 3) :
    exec (.encoderEdge c at8 lines) s = .next ((s.setFb c { s.fb c with pend := none, dirTime := some d }).fbResolve c
      { sample := at8, time := s.time16 at8, old := (s.fb c).lines, new := lines, lines := lines, bad := false,
        tooSoon := decide (at8 < d) } false) := by
  have typ : s.nat (Obj.FbType c) = 1 := State.nat_of_get ht
  have interval : s.fbInterval c = 0 := by rw [State.fbInterval, State.nat_of_get (n := 0) hi, Nat.zero_mul]
  have flushed : s.fbFlush c at8 = s := by simp only [State.fbFlush, hp]
  have one : edgesIn 1 (s.fb c).lines lines ≠ 2 := by simp [edgesIn]
  have single : countLines 1 = 3 := rfl
  refine (viaEdge_of_no_direct_write hw (encoderEdgeNow c at8 lines)).trans ?_
  simp only [encoderEdgeNow, State.fbEdge, flushed, typ, interval, hp, hd, single, if_neg hl, Nat.reduceBEq, Bool.false_and,
    Bool.false_eq_true, if_false, if_true, Nat.add_zero, decide_eq_false one]

theorem State.fbUncertain_fb (s : State) (c : Nat) (v : Bool) : (s.fbUncertain c v).fb c = { s.fb c with uncertain := v } := by
  cases v
  · exact State.setFb_fb_same ..
  · exact State.setFb_fb_same ..

/-- A rejected edge leaves the count (R205). -/
theorem State.fbReject_count (s : State) (c n : Nat) : ((s.fbReject c n).fb c).count = (s.fb c).count := by
  change ((State.setFb _ c _).fb c).count = _
  rw [State.setFb_fb_same]
  change ((State.fbUncertain _ c true).fb c).count = _
  rw [State.fbUncertain_fb]
  rfl

/-- A count edge too soon after a change of the direction line is not counted (R207). -/
theorem State.fbResolve_count_of_tooSoon {s : State} {c : Nat} {p : FbPend} (bad : Bool) (hp : p.tooSoon = true)
    (hc : lineChange (s.nat (Obj.FbType c)) p.old p.new ≠ .none) : ((s.fbResolve c p bad).fb c).count = (s.fb c).count := by
  have putBit : ∀ (t : State) (v : Bool), (t.putBit (Obj.FbState c) 3 v).fb c = t.fb c := fun t v => by cases v <;> rfl
  unfold State.fbResolve
  dsimp only
  rw [if_pos (.inr (.inr ⟨hp, hc⟩)), State.fbReject_count, putBit, State.setFb_fb_same]

/-- A channel that became a type-1 channel without an interval filter, and whose record still holds a change of its direction
line at sample 1 from its time as a type-2 channel. -/
def directionAhead : State := ((State.reset.put (Obj.FbType 0) 1).put (Obj.FbMinEdgeInterval 0) 0).setFb 0 { dirTime := some 1 }

/-- Refutes O29: its first clause says nothing of the sample of a direction line's last change, which the third one excludes by
`dirTime = none`. An edge of A at sample 0 of the channel above lies before that sample, so it is rejected as too soon and the
count stays 0 where the clause wants 1. -/
theorem not_encoderEdgesCount : ¬ Obligations.EncoderEdgesCount := by
  unfold Obligations.EncoderEdgesCount
  rintro ⟨oneUp, -⟩
  have fb : directionAhead.fb 0 = { dirTime := some 1 } := State.setFb_fb_same ..
  have typ : directionAhead.get (Obj.FbType 0) = 1 := by decide
  have interval : directionAhead.get (Obj.FbMinEdgeInterval 0) = 0 := by decide
  have outputs : directionAhead.emuOutputs 0 = [] := by decide
  obtain ⟨t, ran, -, counted, -⟩ := oneUp 0 0 directionAhead (by decide) rfl typ interval (by rw [fb]) (by rw [fb]) outputs
  rw [exec_encoderEdge_of_no_interval rfl typ interval (by rw [fb]) (d := 1) (by rw [fb]) (by rw [fb]; decide)] at ran
  cases ran
  rw [State.fbResolve_count_of_tooSoon, State.setFb_fb_same, fb] at counted
  · exact absurd counted (by decide)
  · rfl
  · rw [State.nat, State.setFb_get, typ, fb]; decide

/-! ### What leaves the channels -/

/-- The channels and their registers, those between the axes' and the compare units', stand in `t` as they did in `s`. -/
structure State.ChannelsKept (s t : State) : Prop where
  fbs : t.fbs = s.fbs
  get : ∀ j, 0x400000 ≤ j ∧ j < 0x420000 → t.get j = s.get j

theorem State.ChannelsKept.refl (s : State) : s.ChannelsKept s := ⟨rfl, fun _ _ => rfl⟩

theorem State.ChannelsKept.trans {s t u : State} (h : s.ChannelsKept t) (k : t.ChannelsKept u) : s.ChannelsKept u :=
  ⟨k.fbs.trans h.fbs, fun j hj => (k.get j hj).trans (h.get j hj)⟩

theorem State.ChannelsKept.put {s t : State} (h : s.ChannelsKept t) {k : Nat} (v : Int) (hk : k < 0x400000 ∨ 0x420000 ≤ k) :
    s.ChannelsKept (t.put k v) := h.trans ⟨rfl, fun _ _ => t.get_put_other v (by omega)⟩

theorem State.ChannelsKept.setCmp {s t : State} (h : s.ChannelsKept t) (u : Nat) (r : CmpRt) : s.ChannelsKept (t.setCmp u r) :=
  h.trans ⟨rfl, fun _ _ => rfl⟩

theorem State.ChannelsKept.setAxis {s t : State} (h : s.ChannelsKept t) (a : Nat) (r : AxisRt) : s.ChannelsKept (t.setAxis a r) :=
  h.trans ⟨rfl, fun _ _ => rfl⟩

theorem State.ChannelsKept.setGraft {s t : State} (h : s.ChannelsKept t) (g : Nat) (r : GraftRt) :
    s.ChannelsKept (t.setGraft g r) := h.trans ⟨rfl, fun _ _ => rfl⟩

theorem State.ChannelsKept.ite {s t u : State} {c : Prop} [Decidable c] (h : s.ChannelsKept t) (k : s.ChannelsKept u) :
    s.ChannelsKept (if c then t else u) := by
  split
  · exact h
  · exact k

/-- Steps each of which keeps what the earlier ones kept. -/
theorem State.ChannelsKept.each {s t : State} {l : List Nat} {f : State → Nat → State} (h : s.ChannelsKept t)
    (step : ∀ u, ∀ n ∈ l, s.ChannelsKept u → s.ChannelsKept (f u n)) : s.ChannelsKept (t.each l f) := by
  induction l generalizing t with
  | nil => exact h
  | cons n l ih => exact ih (step t n List.mem_cons_self h) fun u m hm => step u m (List.mem_cons_of_mem n hm)

theorem State.ChannelsKept.fb {s t : State} (h : s.ChannelsKept t) (c : Nat) : t.fb c = s.fb c := by rw [State.fb, h.fbs, State.fb]

/-- The axes of a channel are axes. -/
theorem State.lt_of_mem_channelAxes {s : State} {c a : Nat} (h : a ∈ s.channelAxes c) : a < 64 :=
  List.mem_range.1 (List.mem_filter.1 h).1

theorem State.ChannelsKept.slotLatch {s t : State} (h : s.ChannelsKept t) (i : Nat) (v : Int) : s.ChannelsKept (t.slotLatch i v) :=
  h.put _ (.inr (by unfold Obj.SlotValue; omega))

/-! ### SSI frames (R208 to R211) -/

theorem State.ChannelsKept.showSpeed {s t : State} (h : s.ChannelsKept t) {a : Nat} (v : Int) (ha : a < 64) :
    s.ChannelsKept (t.showSpeed a v) := by
  have shown : s.ChannelsKept ((t.put (Obj.SpeedEstimate a) v).put (Obj.SpeedState a) 1) :=
    (h.put v (.inl (by unfold Obj.SpeedEstimate; omega))).put 1 (.inl (by unfold Obj.SpeedState; omega))
  unfold State.showSpeed
  exact .ite shown (shown.put _ (.inl (by unfold Obj.SpeedDirection; omega)))

/-- The axis of an SSI channel takes its measured values. -/
theorem State.ChannelsKept.latchMeasured {s t : State} (h : s.ChannelsKept t) {a c : Nat} (edge : Nat) (hc : c < 16)
    (ht : s.get (Obj.FbType c) = 5) (ha : a < 64) : s.ChannelsKept (t.latchMeasured c edge a) := by
  have position := h.slotLatch (axisSlot a + 3) (t.countPos a (t.get (Obj.FbCount c)))
  have typ : 5 ≤ (t.slotLatch (axisSlot a + 3) (t.countPos a (t.get (Obj.FbCount c)))).nat (Obj.FbType c) := by
    rw [State.nat, position.get _ (by unfold Obj.FbType; omega), ht]
    decide
  unfold State.latchMeasured
  rw [if_pos typ]
  exact (position.slotLatch _ _).showSpeed _ ha

/-- The channel at a good frame, once its delay is measured (R209, R212). -/
def State.ssiMeasured (s : State) (c delay : Nat) : State :=
  let r := s.fb c
  let l := (delay :: r.ssiDelays).take 16
  let mean := (5 * l.sum + l.length) / (2 * l.length)
  let t := (s.setFb c { r with ssiDelays := l }).put (Obj.SsiLineDelay c) (mean : Nat)
  t.put (Obj.SsiReadyTime c) (t.ssiReady c mean : Nat)

theorem State.ssiMeasured_fb (s : State) (c delay : Nat) :
    (s.ssiMeasured c delay).fb c = { s.fb c with ssiDelays := (delay :: (s.fb c).ssiDelays).take 16 } := by
  change (s.setFb c _).fb c = _
  rw [State.setFb_fb_same]

theorem State.ssiMeasured_get_other (s : State) {c j : Nat} (delay : Nat)
    (h : j ≠ Obj.SsiLineDelay c ∧ j ≠ Obj.SsiReadyTime c) :
    (s.ssiMeasured c delay).get j = s.get j := by
  unfold State.ssiMeasured
  rw [State.get_put_other _ _ h.2, State.get_put_other _ _ h.1, State.setFb_get]

theorem State.ssiMeasured_get_type (s : State) (c delay : Nat) :
    (s.ssiMeasured c delay).get (Obj.FbType c) = s.get (Obj.FbType c) :=
  s.ssiMeasured_get_other delay (by unfold Obj.FbType Obj.SsiLineDelay Obj.SsiReadyTime; omega)

theorem State.ssiMeasured_get_shift (s : State) (c delay : Nat) :
    (s.ssiMeasured c delay).get (Obj.SsiPositionShift c) = s.get (Obj.SsiPositionShift c) :=
  s.ssiMeasured_get_other delay (by unfold Obj.SsiPositionShift Obj.SsiLineDelay Obj.SsiReadyTime; omega)

theorem State.ssiMeasured_get_bits (s : State) (c delay : Nat) :
    (s.ssiMeasured c delay).get (Obj.SsiPositionBits c) = s.get (Obj.SsiPositionBits c) :=
  s.ssiMeasured_get_other delay (by unfold Obj.SsiPositionBits Obj.SsiLineDelay Obj.SsiReadyTime; omega)

theorem State.ssiMeasured_get_maxStep (s : State) (c delay : Nat) :
    (s.ssiMeasured c delay).get (Obj.SsiMaxStep c) = s.get (Obj.SsiMaxStep c) :=
  s.ssiMeasured_get_other delay (by unfold Obj.SsiMaxStep Obj.SsiLineDelay Obj.SsiReadyTime; omega)

theorem State.ssiMeasured_get_edges (s : State) (c delay : Nat) :
    (s.ssiMeasured c delay).get (Obj.FbEdges c) = s.get (Obj.FbEdges c) :=
  s.ssiMeasured_get_other delay (by unfold Obj.FbEdges Obj.SsiLineDelay Obj.SsiReadyTime; omega)

/-- An accepted word is latched at once and its axes take their measured values (R208). -/
def State.ssiLatched (s : State) (c : Nat) : State :=
  (s.put (Obj.FbCount c) (s.fb c).count).each ((s.put (Obj.FbCount c) (s.fb c).count).channelAxes c) fun s a =>
    s.latchMeasured c (s.nat Obj.TickEdgeTime) a

theorem State.ssiLatched_channelsKept {s : State} {c : Nat} (hc : c < 16) (ht : s.get (Obj.FbType c) = 5) :
    (s.put (Obj.FbCount c) (s.fb c).count).ChannelsKept (s.ssiLatched c) := by
  have typ : (s.put (Obj.FbCount c) (s.fb c).count).get (Obj.FbType c) = 5 := by
    rw [State.get_put_other _ _ (by unfold Obj.FbType Obj.FbCount; omega), ht]
  exact .each (.refl _) fun u a ha kept => kept.latchMeasured _ hc typ (State.lt_of_mem_channelAxes ha)

/-- A good frame whose line delay is at most 5,000 ns: its word is judged, and latched where it is accepted (R209, R210). -/
theorem exec_ssiFrameComplete_of_good {c word delay : Nat} {s u : State} (hw : s.oldVals = []) (hd : delay ≤ 2000)
    (hu : u = (s.ssiMeasured c delay).ssiAccept c ((s.ssiMeasured c delay).ssiWord c word)) (he : (u.fb c).ssiErrors = 0) :
    exec (.ssiFrameComplete c word delay true false) s = .next (u.ssiLatched c) := by
  subst hu
  have short : ¬2000 < delay := Nat.not_lt.2 hd
  exact (viaEdge_of_no_direct_write hw (ssiFrameCompleteNow c word delay true false)).trans
    (congrArg _ ((if_neg (by decide)).trans ((if_neg short).trans (if_pos he))))

theorem exec_ssiFrameComplete_of_no_answer {s : State} (c word delay : Nat) (low : Bool) (hw : s.oldVals = []) :
    exec (.ssiFrameComplete c word delay false low) s = .next (s.ssiError c false) :=
  (viaEdge_of_no_direct_write hw (ssiFrameCompleteNow c word delay false low)).trans
    (congrArg _ (if_pos (by rw [Bool.not_false, Bool.or_true])))

/-- The position word of a type-5 channel whose position begins at bit 0 (R210). -/
theorem State.ssiWord_of_type5 {s : State} {c w word : Nat} (ht : s.get (Obj.FbType c) = 5)
    (hs : s.get (Obj.SsiPositionShift c) = 0) (hb : s.nat (Obj.SsiPositionBits c) = w) (h : word < 2 ^ w) :
    s.ssiWord c word = word := by
  have binary : s.nat (Obj.FbType c) ≠ 6 := by rw [State.nat_of_get (n := 5) ht]; decide
  unfold State.ssiWord
  dsimp only
  rw [if_neg binary, hb, State.nat_of_get (n := 0) hs, Nat.pow_zero, Nat.div_one, Nat.mod_eq_of_lt h]

theorem State.ssiMeasured_ssiWord {s : State} {c w word : Nat} (delay : Nat) (ht : s.get (Obj.FbType c) = 5)
    (hs : s.get (Obj.SsiPositionShift c) = 0) (hb : s.nat (Obj.SsiPositionBits c) = w) (h : word < 2 ^ w) :
    (s.ssiMeasured c delay).ssiWord c word = word := by
  rw [← s.ssiMeasured_get_type c delay] at ht
  rw [← s.ssiMeasured_get_shift c delay] at hs
  rw [State.nat, ← s.ssiMeasured_get_bits c delay] at hb
  exact State.ssiWord_of_type5 ht hs hb h

/-- A good frame's word on such a channel. -/
theorem exec_ssiFrameComplete_of_word {c word delay w : Nat} {s u : State} (hw : s.oldVals = []) (ht : s.get (Obj.FbType c) = 5)
    (hs : s.get (Obj.SsiPositionShift c) = 0) (hb : s.nat (Obj.SsiPositionBits c) = w) (h : word < 2 ^ w) (hd : delay ≤ 2000)
    (hu : u = (s.ssiMeasured c delay).ssiAccept c word) (he : (u.fb c).ssiErrors = 0) :
    exec (.ssiFrameComplete c word delay true false) s = .next (u.ssiLatched c) :=
  exec_ssiFrameComplete_of_good hw hd (by rw [State.ssiMeasured_ssiWord delay ht hs hb h, hu]) he

/-- The first accepted word after reset (R210). -/
theorem State.ssiAccept_of_first {s : State} {c : Nat} (w : Nat) (h : (s.fb c).ssiPrev = none) :
    s.ssiAccept c w = (s.put (Obj.FbStartCount c) w).setFb c
      { s.fb c with ssiPrev := some w, count := w, ssiErrors := 0, ssiCounts := [(w : Int)] } := by
  simp only [State.ssiAccept, h]

/-- The channel after a step of `d` counts to the word `w` (R210, R225). -/
def State.ssiStepped (s : State) (c w : Nat) (d : Int) : State :=
  let r := s.fb c
  let n := wrapS 64 (r.count + d)
  let t := s.setFb c { r with ssiPrev := some w, count := n, ssiErrors := 0, ssiCounts := (n :: r.ssiCounts).take 65 }
  (t.count (Obj.FbEdges c) 64 d.natAbs).count (if 0 ≤ d then Obj.FbUp c else Obj.FbDown c) 64 d.natAbs

/-- A later word without a check of its step (R210). -/
theorem State.ssiAccept_of_later {s : State} {c p : Nat} (w : Nat) (h : (s.fb c).ssiPrev = some p)
    (hm : s.get (Obj.SsiMaxStep c) = 0) :
    s.ssiAccept c w = s.ssiStepped c w (wrapS (s.nat (Obj.SsiPositionBits c)) ((w : Int) - p)) := by
  have unchecked : ¬(s.nat (Obj.SsiMaxStep c) ≠ 0 ∧
      s.nat (Obj.SsiMaxStep c) < (wrapS (s.nat (Obj.SsiPositionBits c)) ((w : Int) - p)).natAbs) := by
    rw [State.nat_of_get (n := 0) hm]
    exact fun h => h.1 rfl
  simp only [State.ssiAccept, h, if_neg unchecked, State.ssiStepped]

theorem State.ssiStepped_fb (s : State) (c w : Nat) (d : Int) : (s.ssiStepped c w d).fb c =
    { s.fb c with ssiPrev := some w, count := wrapS 64 ((s.fb c).count + d), ssiErrors := 0,
                  ssiCounts := (wrapS 64 ((s.fb c).count + d) :: (s.fb c).ssiCounts).take 65 } := by
  change (s.setFb c _).fb c = _
  rw [State.setFb_fb_same]

/-- The counters of a direction stand behind that of the edges. -/
theorem edges_lt_direction (c : Nat) (d : Int) : Obj.FbEdges c < if 0 ≤ d then Obj.FbUp c else Obj.FbDown c := by
  unfold Obj.FbEdges Obj.FbUp Obj.FbDown
  split
  · omega
  · omega

theorem State.ssiStepped_get_type (s : State) (c w : Nat) (d : Int) :
    (s.ssiStepped c w d).get (Obj.FbType c) = s.get (Obj.FbType c) := by
  have before : Obj.FbType c < Obj.FbEdges c := by unfold Obj.FbType Obj.FbEdges; omega
  unfold State.ssiStepped
  rw [State.count_get_other _ _ _ (Nat.ne_of_lt (before.trans (edges_lt_direction c d))),
    State.count_get_other _ _ _ (Nat.ne_of_lt before), State.setFb_get]

theorem State.ssiStepped_get_edges (s : State) (c w : Nat) (d : Int) :
    (s.ssiStepped c w d).get (Obj.FbEdges c) = wrapU 64 (s.get (Obj.FbEdges c) + d.natAbs) := by
  unfold State.ssiStepped
  rw [State.count_get_other _ _ _ (Nat.ne_of_lt (edges_lt_direction c d)), State.count, State.get_put_same, State.setFb_get]

/-- The first good frame of a type-5 channel takes its word as the count and as the start (R210). -/
theorem exec_ssiFrameComplete_first {c word delay w : Nat} {s : State} (hc : c < 16) (hw : s.oldVals = [])
    (ht : s.get (Obj.FbType c) = 5) (hs : s.get (Obj.SsiPositionShift c) = 0) (hb : s.nat (Obj.SsiPositionBits c) = w)
    (h : word < 2 ^ w) (hd : delay ≤ 2000) (hp : (s.fb c).ssiPrev = none) :
    ∃ t, exec (.ssiFrameComplete c word delay true false) s = .next t ∧ (t.fb c).count = word ∧
      t.get (Obj.FbCount c) = word ∧ t.get (Obj.FbStartCount c) = word ∧ (t.fb c).ssiPrev = some word ∧
      (t.fb c).ssiErrors = 0 := by
  have first : ((s.ssiMeasured c delay).fb c).ssiPrev = none := by rw [State.ssiMeasured_fb]; exact hp
  obtain ⟨u, hu⟩ : ∃ u, u = (s.ssiMeasured c delay).ssiAccept c word := ⟨_, rfl⟩
  have taken := hu.trans (State.ssiAccept_of_first word first)
  have fb : u.fb c = _ := (congrArg (·.fb c) taken).trans (State.setFb_fb_same ..)
  have typ : u.get (Obj.FbType c) = 5 := by
    rw [taken, State.setFb_get, State.get_put_other _ _ (by unfold Obj.FbType Obj.FbStartCount; omega),
      State.ssiMeasured_get_type, ht]
  have latched := State.ssiLatched_channelsKept hc typ
  refine ⟨_, exec_ssiFrameComplete_of_word hw ht hs hb h hd hu (by rw [fb]), ?_, ?_, ?_, ?_, ?_⟩
  · rw [latched.fb, State.put_fb, fb]
  · rw [latched.get _ (by unfold Obj.FbCount; omega), State.get_put_same, fb]
  · rw [latched.get _ (by unfold Obj.FbStartCount; omega),
      State.get_put_other _ _ (by unfold Obj.FbStartCount Obj.FbCount; omega), taken, State.setFb_get, State.get_put_same]
  · rw [latched.fb, State.put_fb, fb]
  · rw [latched.fb, State.put_fb, fb]

/-- A later good frame steps the count by the signed difference of the words (R210, R225). -/
theorem exec_ssiFrameComplete_later {c word delay w p : Nat} {s : State} (hc : c < 16) (hw : s.oldVals = [])
    (ht : s.get (Obj.FbType c) = 5) (hs : s.get (Obj.SsiPositionShift c) = 0) (hb : s.nat (Obj.SsiPositionBits c) = w)
    (h : word < 2 ^ w) (hd : delay ≤ 2000) (hp : (s.fb c).ssiPrev = some p) (hm : s.get (Obj.SsiMaxStep c) = 0) :
    ∃ t, exec (.ssiFrameComplete c word delay true false) s = .next t ∧
      (t.fb c).count = wrapS 64 ((s.fb c).count + wrapS w ((word : Int) - p)) ∧ (t.fb c).ssiPrev = some word ∧
      t.get (Obj.FbEdges c) = wrapU 64 (s.get (Obj.FbEdges c) + (wrapS w ((word : Int) - p)).natAbs) := by
  have later : ((s.ssiMeasured c delay).fb c).ssiPrev = some p := by rw [State.ssiMeasured_fb]; exact hp
  have width : (s.ssiMeasured c delay).nat (Obj.SsiPositionBits c) = w := by rw [State.nat, State.ssiMeasured_get_bits]; exact hb
  obtain ⟨u, hu⟩ : ∃ u, u = (s.ssiMeasured c delay).ssiAccept c word := ⟨_, rfl⟩
  have taken := hu.trans (State.ssiAccept_of_later word later (by rw [State.ssiMeasured_get_maxStep, hm]))
  rw [width] at taken
  have fb : u.fb c = _ := (congrArg (·.fb c) taken).trans (State.ssiStepped_fb ..)
  have typ : u.get (Obj.FbType c) = 5 := by rw [taken, State.ssiStepped_get_type, State.ssiMeasured_get_type, ht]
  have latched := State.ssiLatched_channelsKept hc typ
  refine ⟨_, exec_ssiFrameComplete_of_word hw ht hs hb h hd hu (by rw [fb]), ?_, ?_, ?_⟩
  · rw [latched.fb, State.put_fb, fb, State.ssiMeasured_fb]
  · rw [latched.fb, State.put_fb, fb]
  · rw [latched.get _ (by unfold Obj.FbEdges; omega),
      State.get_put_other _ _ (by unfold Obj.FbEdges Obj.FbCount; omega), taken, State.ssiStepped_get_edges,
      State.ssiMeasured_get_edges]

/-- Settles O30: a frame without an answer is a frame error; a good frame measures its delay, steps the channel and is latched,
which leaves the channel; a line fault changes the state as its definition says. -/
theorem ssiFramesAndLines : Obligations.SsiFramesAndLines :=
  ⟨fun c word delay low _ _ hw => exec_ssiFrameComplete_of_no_answer c word delay low hw,
    fun _ _ _ _ _ hc hw ht hs hb h hd hp => exec_ssiFrameComplete_first hc hw ht hs hb h hd hp,
    fun _ _ _ _ _ _ hc hw ht hs hb h hd hp hm => exec_ssiFrameComplete_later hc hw ht hs hb h hd hp hm,
    fun _ _ => rfl, fun _ _ => rfl⟩


/-! ### Counts that are set (R214, R215) -/

theorem State.ChannelsKept.cmpPop {s t : State} (h : s.ChannelsKept t) (u : Nat) : s.ChannelsKept (t.cmpPop u) := by
  have occupied : ∀ v : Int, ∀ {w : State}, s.ChannelsKept w → s.ChannelsKept (w.put (Obj.CmpOccupancy u) v) := fun v _ k =>
    k.put v (.inr (by unfold Obj.CmpOccupancy; omega))
  unfold State.cmpPop
  dsimp only
  split
  · exact h
  · refine .ite (occupied _ (h.setCmp _ _)) (occupied _ (.put (((occupied _ (h.setCmp _ _)).setCmp _ _)) _ (.inr ?_)))
    unfold Obj.CmpArmed
    omega

theorem State.ChannelsKept.cmpArm {s t : State} (h : s.ChannelsKept t) (u n : Nat) : s.ChannelsKept (t.cmpArm u n) := by
  induction n generalizing t with
  | zero => exact h
  | succ n ih =>
    unfold State.cmpArm
    dsimp only
    refine .ite h ?_
    split
    · exact h
    · refine .ite (h.setCmp _ _) (.ite (ih (.cmpPop ?_ u)) (ih (.cmpPop (.setCmp ?_ _ _) u)))
      · refine .put (.put (.put (.put h _ (.inr ?_)) _ (.inr ?_)) _ (.inr ?_)) _ (.inr ?_)
        · unfold Obj.CmpMissed; omega
        · unfold Obj.CmpMissedAt; omega
        · unfold Obj.CmpMissedPosition; omega
        · unfold Obj.CmpStatus; omega
      · refine .put (.put h _ (.inr ?_)) _ (.inr ?_)
        · unfold Obj.CmpFiredLate; omega
        · unfold Obj.CmpStatus; omega

theorem State.ChannelsKept.cmpReevaluate {s t : State} (h : s.ChannelsKept t) (c : Nat) : s.ChannelsKept (t.cmpReevaluate c) :=
  h.each fun _ _ _ kept => (kept.setCmp _ _).cmpArm _ _

theorem State.fbSetCount_count (s : State) (c : Nat) (new : Int) : ((s.fbSetCount c new).fb c).count = new := by
  unfold State.fbSetCount
  dsimp only
  rw [(State.ChannelsKept.cmpReevaluate (.refl _) c).fb, State.setFb_fb_same]

theorem State.ChannelsKept.shiftSetpoint {s t : State} (h : s.ChannelsKept t) {a : Nat} (d : Int) (ha : a < 64) :
    s.ChannelsKept (t.shiftSetpoint a d) := by
  unfold State.shiftSetpoint
  refine .ite ((h.setGraft _ _).put _ (.inr ?_)) ((h.setAxis _ _).put _ (.inl ?_))
  · unfold Obj.GraftOutputPosition; omega
  · unfold Obj.AxisSetpointPosition; omega

/-- The shifts of a channel's axes leave of the channel all but the counts set since the edge. -/
theorem State.fbApplyShifts_channelsKept (s : State) (c : Nat) :
    (s.setFb c { s.fb c with resets := [] }).ChannelsKept (s.fbApplyShifts c) := by
  unfold State.fbApplyShifts
  refine .ite (.refl _) (.each (.refl _) fun t a ha kept => ?_)
  have axis : a < 64 := State.lt_of_mem_channelAxes ha
  have corrected : State.ChannelsKept _ (t.put (Obj.RideThroughCorrection a) 0) :=
    kept.put 0 (.inl (by unfold Obj.RideThroughCorrection; omega))
  exact .ite (corrected.shiftSetpoint _ axis) corrected

/-- The channel at the edge of a preset: the count is set and shown, and its shift waits for the channel's axes. -/
def State.presetSet (s : State) (c : Nat) : State :=
  let new := s.get (Obj.FbCountPreset c)
  let t := s.fbSetCount c new
  (t.setFb c { t.fb c with presetDue := false, resets := (t.fb c).resets ++ [((s.fb c).count, new)] }).put (Obj.FbCount c) new

/-- The axes of the channel take their positions at the preset count. -/
def State.presetLatched (s : State) (c : Nat) : State :=
  (s.presetSet c).each ((s.presetSet c).channelAxes c) fun t a =>
    t.slotLatch (axisSlot a + 3) (t.countPos a (s.get (Obj.FbCountPreset c)))

theorem State.presetSet_fb (s : State) (c : Nat) :
    ((s.presetSet c).fb c).presetDue = false ∧ ((s.presetSet c).fb c).count = s.get (Obj.FbCountPreset c) := by
  change ((State.setFb _ c _).fb c).presetDue = false ∧ ((State.setFb _ c _).fb c).count = _
  rw [State.setFb_fb_same]
  exact ⟨rfl, State.fbSetCount_count ..⟩

theorem State.presetSet_get_count (s : State) (c : Nat) : (s.presetSet c).get (Obj.FbCount c) = s.get (Obj.FbCountPreset c) :=
  State.get_put_same ..

theorem State.presetLatched_channelsKept (s : State) (c : Nat) : (s.presetSet c).ChannelsKept (s.presetLatched c) :=
  .each (.refl _) fun _ _ _ kept => kept.slotLatch _ _

theorem State.presetApply_of_due {s : State} {c : Nat} (h : (s.fb c).presetDue = true) :
    s.presetApply c = ((s.presetLatched c).fbApplyShifts c).fbUncertain c false := if_pos h

theorem exec_presetApply_of_due {c : Nat} {s : State} (hc : c < 16) (h : (s.fb c).presetDue = true) :
    ∃ t, exec (.presetApply c) s = .next t ∧ (t.fb c).presetDue = false ∧
      t.get (Obj.FbCount c) = s.get (Obj.FbCountPreset c) ∧ (t.fb c).count = s.get (Obj.FbCountPreset c) := by
  obtain ⟨due, count⟩ := s.presetSet_fb c
  have latched := s.presetLatched_channelsKept c
  have shifted := (s.presetLatched c).fbApplyShifts_channelsKept c
  have fb := shifted.fb c
  rw [State.setFb_fb_same, latched.fb] at fb
  refine ⟨((s.presetLatched c).fbApplyShifts c).fbUncertain c false,
    congrArg Host.Outcome.next (State.presetApply_of_due h), ?_⟩
  rw [State.fbUncertain_fb, fb]
  refine ⟨due, ?_, count⟩
  have channel : 0x400000 ≤ Obj.FbCount c ∧ Obj.FbCount c < 0x420000 := by unfold Obj.FbCount; omega
  exact (shifted.get _ channel).trans ((latched.get _ channel).trans (s.presetSet_get_count c))

theorem exec_presetApply_of_none {c : Nat} {s : State} (h : (s.fb c).presetDue = false) : exec (.presetApply c) s = .next s :=
  congrArg _ (if_neg (ne_true_of_eq_false h))

theorem exec_armIndex_of_mode2 {c : Nat} {s : State} (h : s.get (Obj.FbIndexMode c) = 2) :
    exec (.armIndex c) s = .next ((s.setBit (Obj.FbState c) 1).done) := congrArg _ (if_pos h)

theorem exec_armIndex_of_mode0_or_mode1 {c : Nat} {s : State}
    (h : s.get (Obj.FbIndexMode c) = 0 ∨ s.get (Obj.FbIndexMode c) = 1) :
    exec (.armIndex c) s = .next (s.reply 0x0703) := congrArg _ (if_neg (by omega))

/-! ### `FbCommand` in the dictionary (R50, R214) -/

/-- The row of `FbCommand`. -/
def rowFbCommand : Dict.Row := ⟨0x0, 1, 7, 7, 0, 10000, .u8, .wo, 0, .full, false⟩

theorem listed_fbCommand : ∀ c < 16, Dict.Listed (0x4000 + c * 0x20) 7 rowFbCommand := by
  have native : ∀ c < 16, inView (0x4000 + c * 0x20) = false := by decide
  have address : ∀ c < 16, addrStatus (0x4000 + c * 0x20) 7 = 0 := by decide
  have entry : ∀ c < 16, Dict.rowOf (0x4000 + c * 0x20) 7 = some rowFbCommand := by decide
  have row : ∀ c < 16, Dict.row ((0x4000 + c * 0x20) * 256 + 7) = some rowFbCommand := by decide
  exact fun c hc => ⟨native c hc, address c hc, entry c hc, row c hc⟩

/-- A command of the feedback block goes to the channel of its index. -/
theorem State.command_fb (s : State) {n c : Nat} (v : Nat) (hc : c < 16) :
    s.command n (0x4000 + c * 0x20) 7 v = s.pick v [execArmIndex c, execDisarmIndex c, execPreset c] := by
  have channel : (0x4000 + c * 0x20 - 0x4000) / 0x20 = c := by omega
  have other : ∀ k < 0x4000, 0x4000 + c * 0x20 ≠ k := fun k hk => by omega
  have noBind : ¬(0x2040 ≤ 0x4000 + c * 0x20 ∧ 0x4000 + c * 0x20 < 0x2050) := by omega
  have noFault : ¬(0x2701 ≤ 0x4000 + c * 0x20 ∧ 0x4000 + c * 0x20 ≤ 0x2733) := by omega
  have noAxis : ¬(0x3000 ≤ 0x4000 + c * 0x20 ∧ 0x4000 + c * 0x20 < 0x4000) := by omega
  have feedback : 0x4000 ≤ 0x4000 + c * 0x20 ∧ 0x4000 + c * 0x20 < 0x4200 := by omega
  rw [State.command, if_neg (other _ (by decide)), if_neg (other _ (by decide)), if_neg (other _ (by decide)), if_neg noBind,
    if_neg (other _ (by decide)), if_neg (other _ (by decide)), if_neg (other _ (by decide)), if_neg noFault,
    if_neg (other _ (by decide)), if_neg (other _ (by decide)), if_neg (other _ (by decide)), State.blockCommand, if_neg noAxis,
    if_pos feedback, channel]

/-- A write of one byte to `FbCommand` gives the command of its code. -/
theorem exec_dictionaryWrite_fbCommand {n c : Nat} {s : State} (b : Byte) (hn : s.sessionOk n = true)
    (hr : s.power.recovery = false) (hc : c < 16) :
    exec (.dictionaryWrite n (0x4000 + c * 0x20) 7 0 [b]) s =
      .next (s.pick b.toNat [execArmIndex c, execDisarmIndex c, execPreset c]) := by
  obtain ⟨key, hk⟩ : ∃ k, k = (0x4000 + c * 0x20) * 256 + 7 := ⟨_, rfl⟩
  have index : key / 256 = 0x4000 + c * 0x20 := by omega
  have sub : key % 256 = 7 := by omega
  have slot : slotValueKey key = false := by rw [slotValueKey, sub, Bool.and_eq_false_iff]; exact .inr rfl
  have unlocked := s.safetyLocked_of_no_field_object (key := key) (by omega)
  have other : key ≠ Obj.UpdateData := by unfold Obj.UpdateData; omega
  have typ : rowFbCommand.typ ≠ .record := by decide
  have access : rowFbCommand.acc = .wo := rfl
  have value : valueStatus key 0 [b] rowFbCommand = 0 := rfl
  have allowed : ∀ v, s.recoveryAllows (0x4000 + c * 0x20) v = true := fun v => by rw [State.recoveryAllows, hr]; rfl
  have code : leNat [b] = b.toNat := by simp only [leNat, Nat.mul_zero, Nat.add_zero]
  refine congrArg _ ((State.writeObject_of_listed hn hr (listed_fbCommand c hc) 0 [b]).trans ?_)
  simp only [← hk, State.writeRow, slot, unlocked, access, directStatus, if_neg other, if_neg typ, value, index, sub, allowed,
    code, s.command_fb _ hc, Bool.false_eq_true, ne_eq, not_true, if_false, if_true]

theorem State.pick_of_no_code {s : State} {v : Nat} {l : List (State → Host.Outcome State Fault Refusal)}
    (h : v = 0 ∨ l.length < v) : s.pick v l = s.reply 0x0301 := by
  unfold State.pick
  rcases h with zero | beyond
  · exact if_pos zero
  · rw [if_neg (by omega), List.getElem?_eq_none (by omega)]

/-- Settles O31: arming, disarming and the preset are their definitions; a preset that waits is set, shown and latched, which leaves
the channel; a write of one byte to `FbCommand` picks one of the three commands by its code. -/
theorem feedbackCommands : Obligations.FeedbackCommands := by
  refine ⟨fun c s h => exec_armIndex_of_mode2 h, fun c s h => exec_armIndex_of_mode0_or_mode1 h, fun c s => rfl, fun c s => rfl,
    fun c s hc h => exec_presetApply_of_due hc h, fun c s h => exec_presetApply_of_none h, fun n c s hn hr hc => ?_,
    fun n c b s hn hr hc hb h => ?_⟩
  · have write := fun b => exec_dictionaryWrite_fbCommand b hn hr hc
    exact ⟨write 1, write 2, write 3⟩
  · have code : (b : Byte).toNat = b := Nat.mod_eq_of_lt hb
    rw [exec_dictionaryWrite_fbCommand _ hn hr hc, code, State.pick_of_no_code h]

end Sys2Proof.Machine
end

section
/-! SUPPORT. The compare units and the encoder emulation (spec/08_feedback.md): what an append does to a list, and what one step
of an emulation leaves. -/

namespace Sys2Proof.Machine

/-! ### Compare lists (R226, R227, R229) -/

/-- A disabled unit arms nothing. -/
theorem State.cmpArm_of_disabled {s : State} {u : Nat} (h : s.get (Obj.CmpEnable u) = 0) (n : Nat) : s.cmpArm u n = s := by
  have disabled : s.flag (Obj.CmpEnable u) = false := by rw [State.flag, h]; rfl
  cases n with
  | zero => rfl
  | succ n => exact if_pos (by rw [disabled]; rfl)

theorem State.cmpPush_get_enable (s : State) (u : Nat) (e : CmpEntry) :
    (s.cmpPush u e).get (Obj.CmpEnable u) = s.get (Obj.CmpEnable u) := by
  unfold State.cmpPush
  rw [State.get_put_other _ _ (by unfold Obj.CmpEnable Obj.CmpOccupancy; omega),
    State.count_get_other _ _ _ (by unfold Obj.CmpEnable Obj.CmpArmed; omega), State.setCmp_get]

theorem exec_cmpAppend {u : Nat} {s : State} (data : List Byte) (hu : u < 8) (hw : s.oldVals = []) :
    exec (.cmpAppend u data) s = .next ((s.fbFlushNow (s.nat (Obj.CmpChannel u))).cmpAppend u data) :=
  (viaEdge_of_no_direct_write hw (cmpAppendNow u data)).trans (congrArg _ (if_neg (Nat.not_le.2 hu)))

/-- A bad entry answers its own status (R226). -/
theorem State.cmpAppend_of_bad {data : List Byte} (s : State) (u : Nat) (h : cmpEntryStatus data ≠ 0) :
    s.cmpAppend u data = s.reply (cmpEntryStatus data) := if_pos h

theorem State.cmpAppend_of_full {data : List Byte} {s : State} {u : Nat} (h : cmpEntryStatus data = 0)
    (hl : 4096 ≤ (s.cmp u).list.length) : s.cmpAppend u data = s.reply 0x0501 := (if_neg (not_not.2 h)).trans (if_pos hl)

theorem State.cmpAppend_of_room {data : List Byte} {s : State} {u : Nat} (h : cmpEntryStatus data = 0)
    (hl : (s.cmp u).list.length < 4096) (he : s.get (Obj.CmpEnable u) = 0) :
    s.cmpAppend u data = (s.cmpPush u (cmpEntryOf data)).done := by
  refine (if_neg (not_not.2 h)).trans ((if_neg (Nat.not_le.2 hl)).trans ?_)
  rw [State.cmpArm_of_disabled (by rw [State.cmpPush_get_enable, he])]

theorem exec_comparePulseEnd {s : State} (u : Nat) (hw : s.oldVals = []) :
    exec (.comparePulseEnd u) s = comparePulseEndNow u s :=
  viaEdge_of_no_direct_write hw (comparePulseEndNow u)

theorem exec_cmpCancelAll (u : Nat) (s : State) :
    exec (.cmpCancelAll u) s = .next ((((s.setCmp u { s.cmp u with list := [], armed := false }).count (Obj.CmpCancelled u) 64
      ((s.cmp u).list.length : Nat)).put (Obj.CmpOccupancy u) 0).done) := rfl

/-! ### Steps of the emulation (R231, R232) -/

theorem exec_emulationStep {e : Nat} {s w : State} (hw : s.oldVals = []) (h : w = s.emuDeliver (s.emuDue e) e) :
    exec (.emulationStep e) s = .next (w.emuStep e) := by
  subst h
  exact viaEdge_of_no_direct_write hw (emulationStepNow e)

theorem State.emuStep_of_nothing {s : State} {e : Nat} (h : s.get (Obj.EmuDelayed e) = 0 ∨ s.get (Obj.EmuMaxEdgeRate e) = 0) :
    s.emuStep e = s := by
  refine if_pos (h.imp_right fun rate => ?_)
  rw [State.flag, rate]
  rfl

/-- The output after one step up: the step leaves what is owed, and the lines follow the emitted count. -/
def State.emuUp (s : State) (e : Nat) : State :=
  let t := (s.put (Obj.EmuDelayed e) (s.get (Obj.EmuDelayed e) - 1)).addI64 (Obj.EmuEmitted e) 1
  let l := emuLines (t.get (Obj.EmuEmitted e)) (t.nat (Obj.EmuZPeriod e))
  t.setEmu e { t.emu e with a := l.1, b := l.2.1, z := l.2.2 }

/-- A step up may end the overload, and no more. -/
theorem State.emuStep_of_up {s : State} {e : Nat} (ho : 0 < s.get (Obj.EmuDelayed e)) (hr : s.get (Obj.EmuMaxEdgeRate e) ≠ 0) :
    s.emuStep e = s.emuUp e ∨ s.emuStep e = (s.emuUp e).setActive fkEmulation e false := by
  have rate : s.flag (Obj.EmuMaxEdgeRate e) = true := bne_iff_ne.2 hr
  have steps : ¬(s.get (Obj.EmuDelayed e) = 0 ∨ (!s.flag (Obj.EmuMaxEdgeRate e)) = true) := by
    rw [rate]
    exact fun h => h.elim ho.ne' (by decide)
  unfold State.emuStep
  dsimp only
  rw [if_neg steps, if_pos ho]
  split
  · exact .inl rfl
  · exact .inr rfl

theorem State.emuUp_get_emitted (s : State) (e : Nat) :
    (s.emuUp e).get (Obj.EmuEmitted e) = wrapS 64 (s.get (Obj.EmuEmitted e) + 1) := by
  change (State.put _ _ (wrapS 64 (State.get (s.put _ _) _ + 1))).get _ = _
  rw [State.get_put_same, State.get_put_other _ _ (by unfold Obj.EmuEmitted Obj.EmuDelayed; omega)]

theorem State.emuUp_get_delayed (s : State) (e : Nat) :
    (s.emuUp e).get (Obj.EmuDelayed e) = s.get (Obj.EmuDelayed e) - 1 := by
  change (State.addI64 _ _ 1).get _ = _
  rw [State.addI64_get_other _ _ (by unfold Obj.EmuEmitted Obj.EmuDelayed; omega), State.get_put_same]

theorem State.emuUp_a (s : State) (e : Nat) : ((s.emuUp e).emu e).a =
    decide ((s.emuUp e).get (Obj.EmuEmitted e) % 4 = 1 ∨ (s.emuUp e).get (Obj.EmuEmitted e) % 4 = 2) := by
  change ((State.setEmu _ e _).emu e).a = _
  rw [State.setEmu_emu_same]
  rfl

theorem State.setActive_emu (s : State) (k i : Nat) (v : Bool) (e : Nat) : (s.setActive k i v).emu e = s.emu e := by
  cases v
  · rfl
  · rfl

/-- The objects of the emulation outputs stand behind those of the faults. -/
theorem State.setActive_get_emu {s : State} {k i j : Nat} (v : Bool) (hk : k < 256) (hj : 0x428000 ≤ j) :
    (s.setActive k i v).get j = s.get j :=
  State.setActive_get_other v (Nat.ne_of_gt ((activeAt_lt_axes hk i).trans (Nat.lt_of_lt_of_le (by decide) hj)))

theorem exec_emulationStep_of_owed {e : Nat} {s w : State} (hw : s.oldVals = []) (h : w = s.emuDeliver (s.emuDue e) e)
    (ho : 0 < w.get (Obj.EmuDelayed e)) (hr : w.get (Obj.EmuMaxEdgeRate e) ≠ 0) :
    ∃ t, exec (.emulationStep e) s = .next t ∧ t.get (Obj.EmuDelayed e) = w.get (Obj.EmuDelayed e) - 1 ∧
      t.get (Obj.EmuEmitted e) = wrapS 64 (w.get (Obj.EmuEmitted e) + 1) ∧
      (t.emu e).a =
        decide (wrapS 64 (w.get (Obj.EmuEmitted e) + 1) % 4 = 1 ∨ wrapS 64 (w.get (Obj.EmuEmitted e) + 1) % 4 = 2) := by
  have delayed := w.emuUp_get_delayed e
  have emitted := w.emuUp_get_emitted e
  have a := w.emuUp_a e
  rw [emitted] at a
  refine ⟨_, exec_emulationStep hw h, ?_⟩
  rcases State.emuStep_of_up ho hr with up | ended
  · rw [up]
    exact ⟨delayed, emitted, a⟩
  · rw [ended, State.setActive_emu, State.setActive_get_emu _ (by decide) (by unfold Obj.EmuDelayed; omega),
      State.setActive_get_emu _ (by decide) (by unfold Obj.EmuEmitted; omega)]
    exact ⟨delayed, emitted, a⟩

/-- Settles O32: what is due is delivered first, and then the entry or the step is judged; an append to a disabled unit arms
nothing, and a step's lines follow the count it emits. -/
theorem compareAndEmulation : Obligations.CompareAndEmulation := by
  refine ⟨fun u s hw h => ?_, fun u s hw h => ?_, fun u data s w hu hw e h hl he => ?_, fun u data s w hu hw e h hl => ?_,
    fun u data s hu hw h => ?_, exec_cmpCancelAll, fun e s w _ hw h ho hr => exec_emulationStep_of_owed hw h ho hr,
    fun e s w hw h nothing => ?_⟩
  · rw [exec_comparePulseEnd u hw]
    exact congrArg _ (if_neg h)
  · rw [exec_comparePulseEnd u hw]
    exact congrArg _ (if_pos h)
  · rw [exec_cmpAppend data hu hw, ← e, State.cmpAppend_of_room h hl he]
    rfl
  · rw [exec_cmpAppend data hu hw, ← e, State.cmpAppend_of_full h hl]
  · rw [exec_cmpAppend data hu hw, State.cmpAppend_of_bad _ _ h]
  · rw [exec_emulationStep hw h, State.emuStep_of_nothing nothing]

end Sys2Proof.Machine
end

section
/-! SUPPORT. The field pipeline (spec/09_field_control.md): what leaves the pipelines' own records, the sample that a computation takes,
lost inputs, the comparators of currents and general inputs, and the phase voltages. -/

namespace Sys2Proof.Machine

/-! ### What leaves the pipelines' records -/

theorem State.foc_of_focs {s t : State} (h : t.focs = s.focs) (a : Nat) : t.foc a = s.foc a := by
  rw [State.foc, h, State.foc]

theorem State.each_focs {f : State → Nat → State} (h : ∀ t n, (f t n).focs = t.focs) (l : List Nat) (s : State) :
    (s.each l f).focs = s.focs := by
  induction l generalizing s with
  | nil => rfl
  | cons n l ih => exact (ih (f s n)).trans (h s n)

@[simp] theorem State.setBit_focs (s : State) (k i : Nat) : (s.setBit k i).focs = s.focs := rfl

@[simp] theorem State.count_focs (s : State) (k w : Nat) (d : Int) : (s.count k w d).focs = s.focs := rfl

@[simp] theorem State.send_focs (s : State) (kind : Nat) (l : List Int) : (s.send kind l).focs = s.focs := rfl

@[simp] theorem State.setBitIf_focs (s : State) (c : Bool) (k i : Nat) : (s.setBitIf c k i).focs = s.focs := by
  cases c
  · rfl
  · rfl

@[simp] theorem State.setActive_focs (s : State) (k i : Nat) (v : Bool) : (s.setActive k i v).focs = s.focs := by
  cases v
  · rfl
  · rfl

@[simp] theorem State.logAppend_focs (s : State) (e : LogEntry) : (s.logAppend e).focs = s.focs := by
  simp only [State.logAppend, apply_ite State.focs, State.count_focs, ite_self]

@[simp] theorem State.logRaise_focs (s : State) (e : LogEntry) : (s.logRaise e).focs = s.focs := by
  unfold State.logRaise
  dsimp only
  split
  · simp only [apply_ite State.focs, State.logAppend_focs, ite_self]
  · rfl
  · exact s.logAppend_focs e

@[simp] theorem State.acqEvent_focs (s : State) (bit kind source value time : Nat) :
    (s.acqEvent bit kind source value time).focs = s.focs := by
  simp only [State.acqEvent, State.acqMark, State.acqCondition, apply_ite State.focs, State.setBit_focs, State.store_focs, ite_self]

/-- What a raise records stands in the registers, the log and the engine of recordings. -/
@[simp] theorem State.raiseRecord_focs (s : State) (k i : Nat) (value : Int) (forced lasting : Bool) :
    (s.raiseRecord k i value forced lasting).focs = s.focs := by
  simp only [State.raiseRecord, apply_ite State.focs, State.put_focs, State.acqEvent_focs, State.logRaise_focs,
    State.setActive_focs, State.count_focs, State.setBit_focs, ite_self]

theorem State.graftDrop_focs (s : State) (a : Nat) : (s.graftDrop a).focs = s.focs := by
  simp only [State.graftDrop, apply_ite State.focs, State.setBit_focs, State.put_focs, ite_self]

theorem State.askStop_focs (s : State) (a key : Nat) (keep : Bool) : (s.askStop a key keep).focs = s.focs := by
  unfold State.askStop
  dsimp only
  split
  · split
    · rfl
    · rfl
  · rfl

/-- An axis that faults keeps what its pipeline computed. -/
theorem State.axisToFaulted_focs (s : State) (a : Nat) : (s.axisToFaulted a).focs = s.focs := by
  have dropped : ((s.abandonRemaining a).graftDrop a).focs = s.focs := State.graftDrop_focs ..
  unfold State.axisToFaulted
  dsimp only
  split
  · rfl
  · split
    · exact (State.askStop_focs ..).trans dropped
    · exact dropped

theorem State.sendSetpoint_focs (s : State) (a : Nat) (record : List Int) (now : Bool) :
    (s.sendSetpoint a record now).focs = s.focs := by
  simp only [State.sendSetpoint, State.sendFrame, State.exPost, apply_ite State.focs, ite_self]

@[simp] theorem State.reactS_focs (s : State) (axes : List Nat) : (s.reactS axes).focs = s.focs := by
  refine (State.each_focs State.axisToFaulted_focs axes _).trans ?_
  refine (State.each_focs (fun t a => State.sendSetpoint_focs t a _ true) _ _).trans ?_
  simp only [apply_ite State.focs, State.send_focs, ite_self]

@[simp] theorem State.nerrLow_focs (s : State) (k : Nat) : (s.nerrLow k).focs = s.focs := rfl

@[simp] theorem State.reactB_focs (s : State) (axes : List Nat) : (s.reactB axes).focs = s.focs := rfl

@[simp] theorem State.react_focs (s : State) (k i set : Nat) : (s.react k i set).focs = s.focs := by
  simp only [State.react, apply_ite State.focs, State.nerrLow_focs, State.reactS_focs, State.reactB_focs, State.send_focs, ite_self]

/-- A fault raised by a check leaves the pipelines' records. -/
@[simp] theorem State.raiseOnce_focs (s : State) (k i : Nat) : (s.raiseOnce k i).focs = s.focs := by
  simp only [State.raiseOnce, State.raiseLasting, State.raiseWith, apply_ite State.focs, State.react_focs, State.raiseRecord_focs,
    ite_self]

@[simp] theorem State.wantLegs_focs (s : State) (n m : Nat) : (s.wantLegs n m).focs = s.focs := rfl

@[simp] theorem State.sectorLegs_focs (s : State) (n sector : Nat) : (s.sectorLegs n sector).focs = s.focs := rfl

@[simp] theorem State.writeWords_focs (s : State) (n : Nat) (w : Nat × Nat × Nat) : (s.writeWords n w).focs = s.focs := rfl

@[simp] theorem State.pipelineLegs_focs (s : State) (a : Nat) (active : Bool) : (s.pipelineLegs a active).focs = s.focs := by
  simp only [State.pipelineLegs, apply_ite State.focs, State.sectorLegs_focs, State.wantLegs_focs, State.setSl_focs, ite_self]

@[simp] theorem State.useFast_focs (s : State) (a angle : Nat) : (s.useFast a angle).focs = s.focs := by
  simp only [State.useFast, apply_ite State.focs, State.sectorLegs_focs, State.put_focs, State.setSl_focs, ite_self]

@[simp] theorem State.brakeRelease_focs (s : State) (a : Nat) : (s.brakeRelease a).focs = s.focs := by
  simp only [State.brakeRelease, apply_ite State.focs, State.setAxis_focs, ite_self]

@[simp] theorem State.castAcquired_focs (s : State) (a angle : Nat) (v : Int) : (s.castAcquired a angle v).focs = s.focs := by
  simp only [State.castAcquired, apply_ite State.focs, State.wantLegs_focs, State.put_focs, State.setSl_focs,
    State.brakeRelease_focs, ite_self]

/-- The comparison of R271 may complete the acquisition, in the estimators' records and the axis's. -/
@[simp] theorem State.syncStep_focs (s : State) (a time : Nat) (e : EstSample) : (s.syncStep a time e).focs = s.focs := by
  simp only [State.syncStep, apply_ite State.focs, State.castAcquired_focs, State.useFast_focs, State.put_focs, State.setSl_focs,
    ite_self]

theorem State.pvsRequest_focs (s : State) (n f : Nat) : (s.pvsRequest n f).focs = s.focs := by
  simp only [State.pvsRequest, apply_ite State.focs, State.count_focs, ite_self]

/-! ### The estimators of an axis without any (R264) -/

/-- Whether the estimators run is said by the objects of the axis's feedback, ride-through, alignment and state. -/
theorem State.put_estimates (s : State) {a k : Nat} (v : Int) (feedback : Obj.FbSource a ≠ k) (ride : Obj.RideThroughEnable a ≠ k)
    (align : Obj.CastOnAlign a ≠ k) (axis : Obj.AxisState a ≠ k) : (s.put k v).estimates a = s.estimates a := by
  simp only [State.estimates, State.flag, State.casts, s.get_put_other v feedback, s.get_put_other v ride,
    s.get_put_other v align, s.get_put_other v axis]
  rfl

/-- Without an estimator its step only shows that none is in use. -/
theorem State.slStep_of_none {s : State} {a : Nat} (time : Nat) (iab : Int × Int) (e : EstSample) (h : s.estimates a = false) :
    s.slStep a time iab e = if s.flag (Obj.SlEstimator a) then s.put (Obj.SlEstimator a) 0 else s := by
  simp only [State.slStep, h, Bool.not_false, if_true]

theorem State.slStep_get_estimator {s : State} {a : Nat} (time : Nat) (iab : Int × Int) (e : EstSample)
    (h : s.estimates a = false) : (s.slStep a time iab e).get (Obj.SlEstimator a) = 0 := by
  rw [State.slStep_of_none time iab e h]
  split
  · exact State.get_put_same ..
  · next unused => simpa [State.flag] using unused

theorem State.sixStep_of_none {s : State} {a : Nat} (h : s.get (Obj.SlEstimator a) = 0) : s.sixStep a = false := by
  rw [State.sixStep, h]
  rfl

/-! ### The sample of a computation (R237, R248) -/

/-- The state once a computation has judged its samples: the overrange flag and the link's general input. -/
def State.focJudged (s : State) (a : Nat) (raw : List Int) (dc : Int) : State :=
  let u := s.setBitIf (s.focOverrange a raw) (Obj.FocStatus a) 4
  if u.nat (Obj.DcLinkSource a) < 16 then u.put (Obj.GenValue (u.nat (Obj.DcLinkSource a))) (s.focVdc a dc) else u

/-- The currents (α, β) of a computation. -/
def State.focCurrents (s : State) (a : Nat) (raw : List Int) : Int × Int :=
  clarke (s.phaseCurrents a raw).1 (s.phaseCurrents a raw).2.1 (s.phaseCurrents a raw).2.2

/-- The state that the regulators of a computation meet: the samples are judged, the estimators have run and the angle's
flag is set. -/
def State.focSampled (s : State) (a time : Nat) (raw : List Int) (dc : Int) (est : EstSample) : State :=
  let u := s.focJudged a raw dc
  let v := u.slStep a time (s.focCurrents a raw) (u.fastSample a time est)
  v.setBitIf (!(v.focAngle a time).2.2) (Obj.FocStatus a) 8

theorem State.setBitIf_pwms (s : State) (c : Bool) (k i : Nat) : (s.setBitIf c k i).pwms = s.pwms := by
  cases c
  · rfl
  · rfl

theorem State.setBitIf_get_other (s : State) (c : Bool) {k j : Nat} (i : Nat) (h : j ≠ k) : (s.setBitIf c k i).get j = s.get j := by
  cases c
  · rfl
  · exact s.setBit_get_other i h

theorem State.focJudged_focs (s : State) (a : Nat) (raw : List Int) (dc : Int) : (s.focJudged a raw dc).focs = s.focs := by
  simp only [State.focJudged, apply_ite State.focs, State.put_focs, State.setBitIf_focs, ite_self]

theorem State.focJudged_pwms (s : State) (a : Nat) (raw : List Int) (dc : Int) : (s.focJudged a raw dc).pwms = s.pwms := by
  simp only [State.focJudged, apply_ite State.pwms, State.put_pwms, State.setBitIf_pwms, ite_self]

theorem State.setBitIf_estimates (s : State) (c : Bool) (a i : Nat) :
    (s.setBitIf c (Obj.FocStatus a) i).estimates a = s.estimates a := by
  cases c
  · rfl
  · exact s.put_estimates _ (by unfold Obj.FbSource Obj.FocStatus; omega) (by unfold Obj.RideThroughEnable Obj.FocStatus; omega)
      (by unfold Obj.CastOnAlign Obj.FocStatus; omega) (by unfold Obj.AxisState Obj.FocStatus; omega)

theorem State.focJudged_estimates (s : State) (a : Nat) (raw : List Int) (dc : Int) :
    (s.focJudged a raw dc).estimates a = s.estimates a := by
  unfold State.focJudged
  dsimp only
  split
  · refine (State.put_estimates _ _ ?_ ?_ ?_ ?_).trans (s.setBitIf_estimates ..)
    · unfold Obj.FbSource Obj.GenValue; omega
    · unfold Obj.RideThroughEnable Obj.GenValue; omega
    · unfold Obj.CastOnAlign Obj.GenValue; omega
    · unfold Obj.AxisState Obj.GenValue; omega
  · exact s.setBitIf_estimates ..

section
variable {s : State} {a : Nat} (time : Nat) (raw : List Int) (dc : Int) (est : EstSample)

theorem State.focSampled_focs (h : s.estimates a = false) : (s.focSampled a time raw dc est).focs = s.focs := by
  have judged := (s.focJudged_estimates a raw dc).trans h
  simp only [State.focSampled, State.setBitIf_focs, State.slStep_of_none _ _ _ judged, apply_ite State.focs, State.put_focs,
    ite_self, State.focJudged_focs]

theorem State.focSampled_pwms (h : s.estimates a = false) : (s.focSampled a time raw dc est).pwms = s.pwms := by
  have judged := (s.focJudged_estimates a raw dc).trans h
  simp only [State.focSampled, State.setBitIf_pwms, State.slStep_of_none _ _ _ judged, apply_ite State.pwms, State.put_pwms,
    ite_self, State.focJudged_pwms]

theorem State.focSampled_sixStep (h : s.estimates a = false) : (s.focSampled a time raw dc est).sixStep a = false := by
  refine State.sixStep_of_none ((State.setBitIf_get_other _ _ _ (by unfold Obj.SlEstimator Obj.FocStatus; omega)).trans ?_)
  exact State.slStep_get_estimator _ _ _ ((s.focJudged_estimates a raw dc).trans h)

end

/-! ### What a computation leaves in its record (R248, R256) -/

/-- A pipeline's record holds a sample at a time: the number after that of `r0`, the link voltage and the Park currents. -/
structure FocRt.Samples (r r0 : FocRt) (time : Nat) (vdc : Int) (iab : Int × Int) : Prop where
  time : r.time = time
  j : r.j = r0.j + 1
  vdc : r.vdc = vdc
  id : r.id = (park iab.1 iab.2 r.theta).1
  iq : r.iq = (park iab.1 iab.2 r.theta).2

/-- An inactive pipeline: no voltages, no integrators, no field weakening. -/
structure FocRt.Idle (r : FocRt) : Prop where
  vd : r.vd = 0
  vq : r.vq = 0
  ad : r.ad = 0
  aq : r.aq = 0
  idFw : r.idFw = 0
  applied : r.applied = (0, 0, 0)
  active : r.active = false

/-- The record after the checks of a computation, with the runs of the sum and of the link. -/
def FocRt.checked (r : FocRt) (n m : Nat) : FocRt := { r with sumRun := n, dcRun := m }

theorem FocRt.checked_of {r summed linked : FocRt} {n m : Nat} (hn : summed = { r with sumRun := n })
    (hm : linked = { summed with dcRun := m }) : linked = r.checked n m := by
  subst hn hm
  rfl

theorem FocRt.Samples.checked {r r0 : FocRt} {time : Nat} {vdc : Int} {iab : Int × Int} (h : r.Samples r0 time vdc iab) (n m : Nat) :
    (r.checked n m).Samples r0 time vdc iab := ⟨h.time, h.j, h.vdc, h.id, h.iq⟩

theorem FocRt.Idle.checked {r : FocRt} (h : r.Idle) (n m : Nat) : (r.checked n m).Idle :=
  ⟨h.vd, h.vq, h.ad, h.aq, h.idFw, h.applied, h.active⟩

theorem State.focCompute_id {s : State} {a : Nat} (h : s.sixStep a = false) (iab : Int × Int) (vdc : Int) (theta : Nat) (pv : Int)
    (sp : Int × Int) (inject : Int) : (s.focCompute a iab vdc theta pv sp inject).id = (park iab.1 iab.2 theta).1 := by
  simp only [State.focCompute, h, Bool.false_eq_true, if_false]

theorem State.focCompute_iq {s : State} {a : Nat} (h : s.sixStep a = false) (iab : Int × Int) (vdc : Int) (theta : Nat) (pv : Int)
    (sp : Int × Int) (inject : Int) : (s.focCompute a iab vdc theta pv sp inject).iq = (park iab.1 iab.2 theta).2 := by
  simp only [State.focCompute, h, Bool.false_and, Bool.false_eq_true, if_false]

section
variable {s : State} {a : Nat} (time : Nat) (iab : Int × Int) (vdc : Int) (th : Nat × Int × Bool)

/-- Outside six-step a computation, active or not, takes its sample. -/
theorem State.focUpdate_samples (h : s.sixStep a = false) :
    ((s.focUpdate a time iab vdc th).foc a).Samples (s.foc a) time vdc iab := by
  unfold State.focUpdate
  extract_lets r active sp o r' regulated written limited clipped weakened clamped word idle
  have id : o.id = (park iab.1 iab.2 th.1).1 := State.focCompute_id h ..
  have iq : o.iq = (park iab.1 iab.2 th.1).2 := State.focCompute_iq h ..
  split
  · have kept : (clamped.pipelineLegs a true).focs = regulated.focs := by
      simp only [State.pipelineLegs_focs, clamped, weakened, clipped, limited, written, State.setBitIf_focs, State.writeWords_focs]
    rw [State.foc_of_focs kept, State.setFoc_foc_same]
    exact ⟨rfl, rfl, rfl, id, iq⟩
  · have kept : ((idle.writeWords a (word, word, word)).pipelineLegs a false).focs = idle.focs := State.pipelineLegs_focs ..
    rw [State.foc_of_focs kept, State.setFoc_foc_same]
    exact ⟨rfl, rfl, rfl, id, iq⟩

theorem State.focUpdate_idle (h : s.focActive a = false) : ((s.focUpdate a time iab vdc th).foc a).Idle := by
  unfold State.focUpdate
  dsimp only
  rw [h]
  change FocRt.Idle ((State.pipelineLegs _ a false).foc a)
  rw [State.foc_of_focs (State.pipelineLegs_focs ..)]
  change FocRt.Idle ((State.setFoc s a _).foc a)
  rw [State.setFoc_foc_same]
  exact ⟨rfl, rfl, rfl, rfl, rfl, rfl, rfl⟩

end

theorem State.focActive_of_off {s : State} {a : Nat} (h : (s.pwm a).off = true) : s.focActive a = false := by
  simp only [State.focActive, State.stageOff, h, Bool.true_or, Bool.not_true, Bool.false_and]

/-! ### The checks after a computation (R259, R260) -/

theorem State.focSumCheck_foc (s : State) (a : Nat) (sum : Int) :
    ∃ n, (s.focSumCheck a sum).foc a = { s.foc a with sumRun := n } := by
  unfold State.focSumCheck
  dsimp only
  split
  · exact ⟨_, rfl⟩
  · split
    · refine ⟨(s.foc a).sumRun + 1, (State.foc_of_focs ?_ a).trans (s.setFoc_foc_same ..)⟩
      simp only [apply_ite State.focs, State.raiseOnce_focs, State.setBit_focs, ite_self]
    · exact ⟨0, (State.foc_of_focs (State.setActive_focs ..) a).trans (s.setFoc_foc_same ..)⟩

theorem State.focDcCheck_foc (s : State) (a : Nat) (vdc : Int) :
    ∃ n, (s.focDcCheck a vdc).foc a = { s.foc a with dcRun := n } := by
  unfold State.focDcCheck
  dsimp only
  split
  · refine ⟨(s.foc a).dcRun + 1, (State.foc_of_focs ?_ a).trans (s.setFoc_foc_same ..)⟩
    simp only [apply_ite State.focs, State.raiseOnce_focs, State.setBit_focs, ite_self]
  · exact ⟨0, (State.foc_of_focs (State.setActive_focs ..) a).trans (s.setFoc_foc_same ..)⟩

/-- After the regulators a computation changes nothing in its record but the runs of the two checks. -/
theorem State.focRun_foc (s : State) (a time : Nat) (raw : List Int) (dc : Int) (est : EstSample) : ∃ th n m,
    (s.focRun a time raw dc est).foc a =
      (((s.focSampled a time raw dc est).focUpdate a time (s.focCurrents a raw) (s.focVdc a dc) th).foc a).checked n m := by
  unfold State.focRun
  extract_lets i3 iab vdc flagged valued sample stepped th angled updated summed checked synced
  have sampled : angled = s.focSampled a time raw dc est := by
    unfold State.focSampled
    rfl
  have regulated : updated = (s.focSampled a time raw dc est).focUpdate a time iab vdc th := by rw [← sampled]
  obtain ⟨n, hn⟩ := updated.focSumCheck_foc a (i3.1 + i3.2.1 + i3.2.2)
  obtain ⟨m, hm⟩ := summed.focDcCheck_foc a vdc
  have checked_foc : checked.foc a = (updated.foc a).checked n m := FocRt.checked_of hn hm
  rw [regulated] at checked_foc
  have synced_focs : synced.focs = checked.focs := State.syncStep_focs ..
  refine ⟨th, n, m, (State.foc_of_focs ?_ a).trans checked_foc⟩
  split
  · exact (State.each_focs (fun t f => t.pvsRequest_focs a f) _ _).trans synced_focs
  · exact synced_focs

theorem exec_focComputation {s : State} (a time : Nat) (raw : List Int) (dc : Int) (est : EstSample) (hw : s.oldVals = []) :
    exec (.focComputation a time raw dc est) s = .next (s.focRun a time raw dc est) := by
  change Host.Outcome.next (s.atEdge fun t => t.focRun a time raw dc est) = _
  rw [State.atEdge_of_no_direct_write hw]

theorem State.focRun_samples {s : State} {a : Nat} (time : Nat) (raw : List Int) (dc : Int) (est : EstSample)
    (h : s.estimates a = false) :
    ((s.focRun a time raw dc est).foc a).Samples (s.foc a) time (s.focVdc a dc) (s.focCurrents a raw) := by
  obtain ⟨th, n, m, ran⟩ := s.focRun_foc a time raw dc est
  have regulated := State.focUpdate_samples time (s.focCurrents a raw) (s.focVdc a dc) th
    (State.focSampled_sixStep time raw dc est h)
  rw [State.foc_of_focs (State.focSampled_focs time raw dc est h)] at regulated
  rw [ran]
  exact regulated.checked n m

theorem State.focRun_idle {s : State} {a : Nat} (time : Nat) (raw : List Int) (dc : Int) (est : EstSample)
    (h : s.estimates a = false) (off : (s.pwm a).off = true) : ((s.focRun a time raw dc est).foc a).Idle := by
  obtain ⟨th, n, m, ran⟩ := s.focRun_foc a time raw dc est
  have sampled_off : ((s.focSampled a time raw dc est).pwm a).off = true := by
    rw [State.pwm, State.focSampled_pwms time raw dc est h]
    exact off
  rw [ran]
  exact (State.focUpdate_idle time _ _ th (State.focActive_of_off sampled_off)).checked n m

/-! ### Lost inputs (R236) -/

theorem State.inputPhases_of_get {s t : State} (h : ∀ n, t.get (Obj.CurInputU n) = s.get (Obj.CurInputU n) ∧
    t.get (Obj.CurInputV n) = s.get (Obj.CurInputV n) ∧ t.get (Obj.CurInputW n) = s.get (Obj.CurInputW n)) (i : Nat) :
    t.inputPhases i = s.inputPhases i := by
  simp only [State.inputPhases, State.nat, fun n => (h n).1, fun n => (h n).2.1, fun n => (h n).2.2]

/-- The flags of a pipeline stand apart from the wiring of the phase inputs. -/
theorem State.setBit_inputPhases (s : State) (a b i : Nat) : (s.setBit (Obj.FocStatus a) b).inputPhases i = s.inputPhases i :=
  State.inputPhases_of_get (fun n => ⟨s.setBit_get_other _ (by unfold Obj.CurInputU Obj.FocStatus; omega),
    s.setBit_get_other _ (by unfold Obj.CurInputV Obj.FocStatus; omega),
    s.setBit_get_other _ (by unfold Obj.CurInputW Obj.FocStatus; omega)⟩) i

/-- An input that no stage uses is only recorded. -/
theorem exec_modulatorInputLost_of_unused {i : Nat} {s : State} (hp : s.inputPhases i = []) (hd : s.inputDcLink i = [])
    (hi : i ∉ s.lostInputs) : exec (.modulatorInputLost i true) s = .next { s with lostInputs := i :: s.lostInputs } := by
  have phases : ({ s with lostInputs := i :: s.lostInputs } : State).inputPhases i = [] := hp
  have link : ({ s with lostInputs := i :: s.lostInputs } : State).inputDcLink i = [] := hd
  change execModulatorInputLost i true s = _
  simp only [execModulatorInputLost, if_true, if_neg hi, phases, link, List.append_nil, State.each, List.foldl_nil]

theorem exec_modulatorInputLost_of_phase {i a : Nat} {s : State} (hp : s.inputPhases i = [a]) (hd : s.inputDcLink i = [])
    (hi : i ∉ s.lostInputs) : exec (.modulatorInputLost i true) s = .next
      ((({ s with lostInputs := i :: s.lostInputs } : State).setBit (Obj.FocStatus a) 7).raiseOnce fkSense a) := by
  have phases : ({ s with lostInputs := i :: s.lostInputs } : State).inputPhases i = [a] := hp
  have link : ({ s with lostInputs := i :: s.lostInputs } : State).inputDcLink i = [] := hd
  change execModulatorInputLost i true s = _
  simp only [execModulatorInputLost, if_true, if_neg hi, phases, link, List.append_nil, State.each, List.foldl_nil,
    List.foldl_cons, State.setBit_inputPhases]

theorem exec_modulatorInputLost_of_return {i : Nat} {s : State} (hp : s.inputPhases i = []) :
    exec (.modulatorInputLost i false) s = .next { s with lostInputs := s.lostInputs.filter fun x => x != i } := by
  have phases : ({ s with lostInputs := s.lostInputs.filter fun x => x != i } : State).inputPhases i = [] := hp
  change execModulatorInputLost i false s = _
  simp only [execModulatorInputLost, Bool.false_eq_true, if_false, phases, State.each, List.foldl_nil]

/-! ### The current trip of a stage (R239, R240, R299) -/

/-- A comparator that asserts nothing leaves a trip that none asserts. -/
theorem State.compTrip_of_silent {s : State} {n : Nat} (h : (s.pwm n).comp = 0) (b sinceEdge : Nat) (issued : List Nat) :
    s.compTrip n b false sinceEdge issued = s.setPwm n { s.pwm n with comp := 0 } := by
  have clear : clrBitN 0 b = 0 := by simp [clrBitN]
  simp only [State.compTrip, h, Bool.false_eq_true, if_false, clear, if_true]

/-- The first comparator that asserts the trip acts as the trip input when no filter delays it. -/
theorem State.compTrip_of_first {s : State} {n : Nat} (h : (s.pwm n).comp = 0) (hf : s.get (Obj.TripFilter n 2) = 0)
    (b sinceEdge : Nat) (issued : List Nat) :
    s.compTrip n b true sinceEdge issued =
      (s.setPwm n { s.pwm n with comp := setBitN 0 b }).tripInput n 2 true sinceEdge issued := by
  have asserted : setBitN 0 b ≠ 0 := by simp [setBitN]
  have edge : ¬((0 : Nat) == 0) = (setBitN 0 b == 0) := by simp [asserted]
  have filter : ∀ r, (s.setPwm n r).nat (Obj.TripFilter n 2) = 0 := fun r => State.nat_of_get (n := 0) hf
  simp only [State.compTrip, h, if_true, if_neg edge, if_neg asserted, filter]

/-! ### Fast comparators (R239) -/

theorem State.flag_of_one {s : State} {k : Nat} (h : s.get k = 1) : s.flag k = true := by
  rw [State.flag, h]
  rfl

theorem State.flag_of_zero {s : State} {k : Nat} (h : s.get k = 0) : s.flag k = false := by
  rw [State.flag, h]
  rfl

/-- The scaled outputs of a phase's fast filter. -/
def State.fastValues (s : State) (n f : Nat) (outputs : List Int) : List Int := outputs.map fun x =>
  sincScale (s.curCal n f).1 (s.curCal n f).2 (sincFraction (s.nat (Obj.FastOrder n)) (s.nat (Obj.FastOsr n)) x)

/-- The state with a phase's run of values beyond the limits. -/
def State.countedRun (s : State) (n f run : Nat) : State :=
  s.setFoc n { s.foc n with fastRuns := (s.foc n).fastRuns.set f run }

theorem State.countedRun_foc (s : State) (n f run : Nat) :
    ((s.countedRun n f run).foc n).fastRuns = (s.foc n).fastRuns.set f run := by
  rw [State.countedRun, State.setFoc_foc_same]

section
variable {n f : Nat} {outputs : List Int} {s : State} (sinceEdge : Nat) (issued : List Nat) (hw : s.oldVals = [])

include hw in
theorem exec_fastComparatorTrip : exec (.fastComparatorTrip n f ⟨outputs, sinceEdge⟩ issued) s =
    let run := if s.flag (Obj.FastEnable n) then beyondRun (s.get (Obj.FastHigh n)) (s.get (Obj.FastLow n))
      ((s.foc n).fastRuns.getD f 0) (s.fastValues n f outputs) else 0
    .next ((s.countedRun n f run).compTrip n f (s.flag (Obj.FastEnable n) && decide (s.nat (Obj.FastCount n) < run))
      sinceEdge issued) :=
  viaEdge_of_no_direct_write hw (fastComparatorTripNow n f outputs sinceEdge issued)

include hw in
theorem exec_fastComparatorTrip_of_enabled {run : Nat} (enabled : s.get (Obj.FastEnable n) = 1)
    (hr : run = beyondRun (s.get (Obj.FastHigh n)) (s.get (Obj.FastLow n)) ((s.foc n).fastRuns.getD f 0)
      (s.fastValues n f outputs)) :
    exec (.fastComparatorTrip n f ⟨outputs, sinceEdge⟩ issued) s =
      .next ((s.countedRun n f run).compTrip n f (decide (s.nat (Obj.FastCount n) < run)) sinceEdge issued) := by
  rw [exec_fastComparatorTrip sinceEdge issued hw, State.flag_of_one enabled, if_pos rfl, ← hr]
  rfl

include hw in
theorem exec_fastComparatorTrip_of_disabled (disabled : s.get (Obj.FastEnable n) = 0) :
    exec (.fastComparatorTrip n f ⟨outputs, sinceEdge⟩ issued) s =
      .next ((s.countedRun n f 0).compTrip n f false sinceEdge issued) := by
  rw [exec_fastComparatorTrip sinceEdge issued hw, State.flag_of_zero disabled]
  rfl

end

/-- A comparator that asserts nothing only counts its run. -/
theorem State.countedRun_silent {s : State} {n : Nat} (hc : (s.pwm n).comp = 0) (f run sinceEdge : Nat) (issued : List Nat) :
    let t := (s.countedRun n f run).compTrip n f false sinceEdge issued
    t.regs = s.regs ∧ (t.pwm n).comp = 0 ∧ (t.foc n).fastRuns = (s.foc n).fastRuns.set f run := by
  intro t
  have trip : t = (s.countedRun n f run).setPwm n { (s.countedRun n f run).pwm n with comp := 0 } :=
    State.compTrip_of_silent (s := s.countedRun n f run) hc f sinceEdge issued
  rw [trip]
  refine ⟨rfl, ?_, ?_⟩
  · rw [State.setPwm_pwm_same]
  · rw [State.foc_of_focs (State.setPwm_focs ..), State.countedRun_foc]

/-! ### General inputs (R240) -/

/-- The scaled output of a general input's comparator filter. -/
def State.generalValue (s : State) (g : Nat) (raw : Int) : Int :=
  sincScale (s.get (Obj.GenOffset g)) (s.get (Obj.GenGain g)) (sincFraction (s.nat (Obj.FastOrder g)) (s.nat (Obj.FastOsr g)) raw)

theorem exec_generalInputLimit {g : Nat} {raw : Int} {s : State} {trips faults : Bool} (sinceEdge : Nat) (issued : List Nat)
    (hw : s.oldVals = [])
    (ht : (decide (s.get (Obj.GenCompAction g) = 1) &&
      (s.flag (Obj.GenInputEnable g) && s.generalLimit g (s.generalValue g raw))) = trips)
    (hf : (decide (s.get (Obj.GenCompAction g) = 2) &&
      (s.flag (Obj.GenInputEnable g) && s.generalLimit g (s.generalValue g raw))) = faults) :
    exec (.generalInputLimit g ⟨raw, sinceEdge⟩ issued) s = .next
      (if faults then (s.compTrip g 3 trips sinceEdge issued).raiseOnce fkGeneral g
      else (s.compTrip g 3 trips sinceEdge issued).setActive fkGeneral g false) := by
  subst ht hf
  exact viaEdge_of_no_direct_write hw (generalInputLimitNow g raw sinceEdge issued)

/-! ### Phase voltages (R261, R262) -/

theorem exec_pvsConversionComplete {n f : Nat} {l : List (Nat × Nat)} {s : State} (code : Nat) (hw : s.oldVals = [])
    (h : s.pvs = (n, f) :: l) : exec (.pvsConversionComplete code) s = .next
      { s.put (if f = 0 then Obj.PvsVoltageU n else if f = 1 then Obj.PvsVoltageV n else Obj.PvsVoltageW n) (s.pvsScale n code) with
        pvs := l } := by
  refine (viaEdge_of_no_direct_write hw (pvsConversionCompleteNow code)).trans ?_
  rw [pvsConversionCompleteNow, h]

/-- The level of a phase's latest recorded comparator change. -/
def State.pvsLatest (s : State) (n f : Nat) : Option Bool := ((s.foc n).changes.find? fun c => c.1 == f).map fun c => c.2.2

/-- A pipeline's record with a further comparator change of a phase, of which the last eight are held. -/
def FocRt.changed (r : FocRt) (f time : Nat) (high : Bool) : FocRt :=
  { r with changes := (f, time, high) :: ((r.changes.filter fun c => c.1 == f).take 7 ++ r.changes.filter fun c => c.1 != f) }

theorem exec_pvsComparatorChange {n f : Nat} {value : Int} {s : State} {high : Bool} (time sinceEdge : Nat) (hw : s.oldVals = [])
    (hh : high = s.pvsLevel n value ((s.pvsLatest n f).getD false)) :
    exec (.pvsComparatorChange n f time value sinceEdge) s = .next
      (if s.pvsLatest n f = some high then s
      else if sinceEdge < s.nat (Obj.PvsBlanking n) then s.count (Obj.PvsBlanked n) 32 1
      else if s.get (Obj.SlEstimator n) = 2 ∧ time < (s.sl n).commAt + s.nat (Obj.SlDemagTime n) * 5 / 2 then
        s.setFoc n ((s.foc n).changed f time high)
      else (s.setFoc n ((s.foc n).changed f time high)).crossing n f time high ((s.foc n).changes.head?.map fun c => c.1)) := by
  subst hh
  exact viaEdge_of_no_direct_write hw (pvsComparatorChangeNow n f time value sinceEdge)

/-- A crossing that neither a measuring cast-on nor a lock recovery waits for is only noted with its angle. -/
theorem State.crossing_of_unawaited {s : State} {a : Nat} (f time : Nat) (high : Bool) (prev : Option Nat)
    (hc : s.get (Obj.CastOnState a) ≠ 1) (hl : (s.sl a).lost = false) :
    ∃ up, s.crossing a f time high prev = s.setSl a { s.sl a with
      cross := (time :: (s.sl a).cross).take 13, dirUp := up, zAngle := crossAngle f high } := by
  refine ⟨match prev with
    | some p => crossesUp p f
    | none => (s.sl a).dirUp, ?_⟩
  unfold State.crossing
  extract_lets x up noted y
  have lost : y.lost = false := (congrArg SlRt.lost (State.setSl_sl_same ..)).trans hl
  rw [if_neg (fun h => hc h.1), lost]
  rfl

/-- Settles O33: a computation without an estimator takes its sample, and the checks after it leave that sample; every other
clause is the law of its command. -/
theorem currentSensingAndTheFieldPipeline : Obligations.CurrentSensingAndTheFieldPipeline := by
  refine ⟨fun a time raw dc est s _ hw he off source _ _ _ _ => ?_,
    fun a time raw dc est i3 ab s _ hw he hi hab => ?_,
    fun i s hp hd hi => exec_modulatorInputLost_of_unused hp hd hi,
    fun i a s hp hd hi => exec_modulatorInputLost_of_phase hp hd hi,
    fun i s hp => exec_modulatorInputLost_of_return hp,
    fun n f run sinceEdge outputs issued s w _ hw enabled silent unfiltered hr exceeds hs => ?_,
    fun n f run sinceEdge outputs issued s _ hw enabled silent hr within => ?_,
    fun n f sinceEdge outputs issued s _ hw disabled silent => ?_,
    fun g sinceEdge raw issued s hw enabled action silent beyond => ?_,
    fun g sinceEdge raw issued s hw enabled action silent unfiltered beyond => ?_,
    fun g sinceEdge raw issued s hw silent within => ?_,
    fun code n f l s hw h => exec_pvsConversionComplete code hw h,
    fun n f time sinceEdge value old s hw ho changed blanked => ?_,
    fun n f time sinceEdge value old s hw ho equal => ?_,
    fun n f time sinceEdge value old high s _ hw ho hh changed kept estimator early => ?_,
    fun n f time sinceEdge value old high s _ hw ho hh changed kept estimator casting found => ?_⟩
  · have nominal : s.focVdc a dc = s.get (Obj.DcLinkNominal a) :=
      if_neg (by rw [State.nat_of_get (n := 0xFF) source]; decide)
    obtain ⟨at_time, j, vdc, -, -⟩ := State.focRun_samples time raw dc est he
    obtain ⟨vd, vq, ad, aq, idFw, applied, active⟩ := State.focRun_idle time raw dc est he off
    exact ⟨_, exec_focComputation a time raw dc est hw, vd, vq, ad, aq, idFw, applied, active, at_time, vdc.trans nominal, j⟩
  · subst hi hab
    obtain ⟨at_time, j, vdc, id, iq⟩ := State.focRun_samples time raw dc est he
    exact ⟨_, exec_focComputation a time raw dc est hw, at_time, j, vdc, id, iq⟩
  · rw [exec_fastComparatorTrip_of_enabled sinceEdge issued hw enabled hr, decide_eq_true exceeds, hs]
    exact congrArg _ (State.compTrip_of_first (s := s.countedRun n f run) silent unfiltered f sinceEdge issued)
  · rw [exec_fastComparatorTrip_of_enabled sinceEdge issued hw enabled hr, decide_eq_false (Nat.not_lt.2 within)]
    exact ⟨_, rfl, State.countedRun_silent silent f run sinceEdge issued⟩
  · rw [exec_fastComparatorTrip_of_disabled sinceEdge issued hw disabled]
    exact ⟨_, rfl, State.countedRun_silent silent f 0 sinceEdge issued⟩
  · rw [exec_generalInputLimit (trips := false) (faults := true) sinceEdge issued hw (by rw [action]; rfl)
      (by rw [action, State.flag_of_one enabled, State.generalValue, beyond]; rfl), State.compTrip_of_silent silent]
    rfl
  · rw [exec_generalInputLimit (trips := true) (faults := false) sinceEdge issued hw
      (by rw [action, State.flag_of_one enabled, State.generalValue, beyond]; rfl) (by rw [action]; rfl),
      State.compTrip_of_first silent unfiltered]
    rfl
  · rw [exec_generalInputLimit (trips := false) (faults := false) sinceEdge issued hw
      (by rw [State.generalValue, within, Bool.and_false, Bool.and_false])
      (by rw [State.generalValue, within, Bool.and_false, Bool.and_false]), State.compTrip_of_silent silent]
    rfl
  · subst ho
    rw [exec_pvsComparatorChange time sinceEdge hw rfl]
    exact congrArg _ ((if_neg changed).trans (if_pos blanked))
  · subst ho
    rw [exec_pvsComparatorChange time sinceEdge hw rfl]
    exact congrArg _ (if_pos equal)
  · subst ho
    rw [exec_pvsComparatorChange time sinceEdge hw hh]
    exact congrArg _ ((if_neg changed).trans ((if_neg (Nat.not_lt.2 kept)).trans (if_pos ⟨estimator, early⟩)))
  · subst ho
    obtain ⟨up, crossed⟩ := State.crossing_of_unawaited (s := s.setFoc n ((s.foc n).changed f time high)) f time high
      ((s.foc n).changes.head?.map fun c => c.1) casting found
    refine ⟨_, (exec_pvsComparatorChange time sinceEdge hw hh).trans (congrArg _ ((if_neg changed).trans
      ((if_neg (Nat.not_lt.2 kept)).trans ((if_neg fun h => estimator h.1).trans crossed)))), rfl, ?_, ?_, ?_⟩
    · rw [State.setSl_sl_same]
      rfl
    · rw [State.setSl_sl_same]
    · rw [State.foc_of_focs (State.setSl_focs ..), State.setFoc_foc_same]
      rfl

end Sys2Proof.Machine
end

section
/-! SUPPORT. Loss of lock and its recovery, ride-through and the angle test (spec/10_sensorless_cast_on.md): what these steps of a
sensorless axis leave of its registers, its sensorless record and its loops. -/

namespace Sys2Proof.Machine

/-! ### What the shared operations leave -/

@[simp] theorem State.setActive_sl (s : State) (k i : Nat) (v : Bool) (a : Nat) : (s.setActive k i v).sl a = s.sl a := by
  cases v
  · rfl
  · rfl

theorem State.put_inUse_other (s : State) {k j : Nat} (v : Int) (h : j ≠ k) : (s.put k v).inUse j = s.inUse j := by
  rw [State.inUse, State.put_oldVals, s.get_put_other v h, State.inUse]

/-- Whether E shorts or frees the stage is said by the ASC threshold and the link voltage. -/
theorem State.put_ascLevel_other (s : State) {a k : Nat} (v : Int) (h : Obj.AscThreshold a ≠ k) :
    (s.put k v).ascLevel a = s.ascLevel a := by
  rw [State.ascLevel, s.get_put_other v h]
  rfl

/-- The method for high speeds writes the estimator that is in use. -/
theorem State.useFast_get_other (s : State) {a j : Nat} (angle : Nat) (h : j ≠ Obj.SlEstimator a) :
    (s.useFast a angle).get j = s.get j := by
  unfold State.useFast
  split
  · exact State.get_put_other _ 2 h
  · exact s.get_put_other 3 h

/-- Six-step begins in a sector; the method for high speeds writes nothing else of the record. -/
theorem State.useFast_sl (s : State) (a angle : Nat) :
    ∃ sector, (s.useFast a angle).sl a = { s.sl a with sector := sector } := by
  unfold State.useFast
  split
  · exact ⟨_, State.setSl_sl_same ..⟩
  · exact ⟨_, rfl⟩

/-! ### Loss of lock (R274, R275) -/

/-- A cause on a sensorless axis whose loops are closed loses the lock. -/
theorem exec_lockLost_of_closed {a time : Nat} {s : State} (source : s.get (Obj.FbSource a) = 3)
    (cause : s.lockCause a time = true) (closed : (s.axis a).closed = true) :
    exec (.lockLost a time) s = .next (s.loseLock a time) := by
  change execLockLost a time s = _
  simp [execLockLost, source, cause, closed]

theorem exec_lockLost_of_no_cause {a time : Nat} {s : State} (h : s.lockCause a time = false) :
    exec (.lockLost a time) s = .next s := by
  change execLockLost a time s = _
  simp [execLockLost, h]

theorem exec_ascOrFreewheel_of_kept_lock {a : Nat} {s : State} (h : (s.sl a).lost = false) :
    exec (.ascOrFreewheel a) s = .next s := by
  change execAscOrFreewheel a s = _
  simp [execAscOrFreewheel, h]

/-- The shorted stage: ASC, in which the estimator is that of the short circuit. -/
def State.shortStage (s : State) (a : Nat) : State :=
  (((s.setSl a { s.sl a with asc := true }).wantLegs a 2).setBit (Obj.SlStatus a) 6).put (Obj.SlEstimator a) 5

/-- The freewheeling stage: its terminal voltages say the angle, or HFI where E is too low for them. -/
def State.freeStage (s : State) (a : Nat) : State :=
  let t := (s.setSl a { s.sl a with asc := false }).wantLegs a 0
  if (s.sl a).lastE < t.inUse (Obj.CastOnBemfThreshold a) then t.startHfi a else t.put (Obj.SlEstimator a) 4

theorem exec_ascOrFreewheel_of_lost {a : Nat} {s : State} (h : (s.sl a).lost = true) :
    exec (.ascOrFreewheel a) s = .next
      (if s.ascLevel a < (s.sl a).lastE then (s.put (Obj.BemfEstimate a) (s.sl a).lastE).shortStage a
      else (s.put (Obj.BemfEstimate a) (s.sl a).lastE).freeStage a) := by
  have level := s.put_ascLevel_other (s.sl a).lastE (show Obj.AscThreshold a ≠ Obj.BemfEstimate a by
    unfold Obj.AscThreshold Obj.BemfEstimate; omega)
  rw [← level]
  exact congrArg _ (if_neg (by rw [h]; decide))

theorem State.shortStage_asc (s : State) (a : Nat) : ((s.shortStage a).sl a).asc = true :=
  congrArg SlRt.asc (State.setSl_sl_same ..)

theorem State.shortStage_get_estimator (s : State) (a : Nat) : (s.shortStage a).get (Obj.SlEstimator a) = 5 :=
  State.get_put_same ..

theorem State.freeStage_of_measurable {s : State} {a : Nat} (h : s.inUse (Obj.CastOnBemfThreshold a) ≤ (s.sl a).lastE) :
    s.freeStage a = ((s.setSl a { s.sl a with asc := false }).wantLegs a 0).put (Obj.SlEstimator a) 4 :=
  if_neg (Int.not_lt.2 h)

/-! ### Estimates in a short circuit (R276, R278) -/

theorem exec_reacquisitionEstimate_of_hold {a : Nat} {s : State} (time phasor : Nat) (speed : Int) (h : (s.sl a).hold = true) :
    exec (.reacquisitionEstimate a time phasor speed) s = .next
      ((s.setSl a { s.sl a with lastE := s.bemf a speed }).put (Obj.BemfEstimate a) (s.bemf a speed)) :=
  congrArg _ (if_pos h)

/-- A first estimate in ASC has none before it to agree with. -/
theorem exec_reacquisitionEstimate_of_first {a : Nat} {s : State} (time phasor : Nat) (speed : Int)
    (hold : (s.sl a).hold = false) (asc : (s.sl a).asc = true) (first : (s.sl a).estimate = none) :
    exec (.reacquisitionEstimate a time phasor speed) s = .next (s.setSl a { s.sl a with
      estimate := some (time, (((phasor : Int) - s.shortAngle a speed) % 4294967296).toNat, speed) }) := by
  change execReacquisitionEstimate a time phasor speed s = _
  simp [execReacquisitionEstimate, hold, asc, first]

/-! ### Recovery (R278, R279) -/

/-- The axis whose lock counts as found: ASC is over and the legs switch. -/
def State.lockRestored (s : State) (a : Nat) : State :=
  let x := s.sl a
  let t := s.setFoc a { s.foc a with
    active := false, idFw := if x.asc then clampI (s.foc a).id (-(s.inUse (Obj.FwIdMax a))) 0 else 0 }
  (t.setSl a { x with
    lost := false, reacq := false, asc := false, estimate := none, locked := true, lossRun := 0, salRun := 0 }).wantLegs a 1

/-- The speed of the axis with its lock found again says which estimator is in use. -/
def State.relocked (s : State) (a : Nat) : State :=
  if (s.sl a).speed.natAbs < (s.lockRestored a).nat (Obj.SlHandoverSpeed a) then (s.lockRestored a).put (Obj.SlEstimator a) 1
  else (s.lockRestored a).useFast a (s.sl a).angle

/-- The fault's condition is over and the recovery counts. -/
def State.recoveryCounted (s : State) (a : Nat) : State :=
  (s.setActive fkLockLost a false).count (Obj.LockRecoveries a) 32 1

/-- The loops close: onto the ramp of a bind-off in progress, else softly with the running move planned anew. -/
def State.reclosed (s : State) (a : Nat) : State :=
  if s.inRamp a then s.setAxis a { s.axis a with closed := true, closing := true }
  else match s.recoveryPlan a with
    | some q => (s.closeLoop a).setAxis a { (s.closeLoop a).axis a with req := some q }
    | none => s.closeLoop a

theorem exec_lockRecovery_of_reacquired {a : Nat} {s : State} (lost : (s.sl a).lost = true) (found : (s.sl a).reacq = true) :
    exec (.lockRecovery a) s = .next (((s.relocked a).recoveryCounted a).reclosed a) := by
  change execLockRecovery a s = _
  rw [execLockRecovery, lost, found]
  rfl

theorem State.lockRestored_get (s : State) (a k : Nat) : (s.lockRestored a).get k = s.get k := rfl

theorem State.lockRestored_sl (s : State) (a : Nat) : (s.lockRestored a).sl a = { s.sl a with
    lost := false, reacq := false, asc := false, estimate := none, locked := true, lossRun := 0, salRun := 0 } :=
  State.setSl_sl_same ..

theorem State.relocked_sl (s : State) (a : Nat) : ((s.relocked a).sl a).lost = false ∧ ((s.relocked a).sl a).reacq = false ∧
    ((s.relocked a).sl a).locked = true := by
  unfold State.relocked
  split
  · rw [State.put_sl, State.lockRestored_sl]
    exact ⟨rfl, rfl, rfl⟩
  · obtain ⟨sector, fast⟩ := (s.lockRestored a).useFast_sl a (s.sl a).angle
    rw [fast, State.lockRestored_sl]
    exact ⟨rfl, rfl, rfl⟩

theorem State.relocked_get_other (s : State) {a j : Nat} (h : j ≠ Obj.SlEstimator a) : (s.relocked a).get j = s.get j := by
  unfold State.relocked
  split
  · rw [State.get_put_other _ 1 h, State.lockRestored_get]
  · rw [State.useFast_get_other _ _ h, State.lockRestored_get]

theorem State.recoveryCounted_sl (s : State) (a n : Nat) : (s.recoveryCounted a).sl n = s.sl n := s.setActive_sl ..

theorem State.recoveryCounted_get_count (s : State) (a : Nat) :
    (s.recoveryCounted a).get (Obj.LockRecoveries a) = wrapU 32 (s.get (Obj.LockRecoveries a) + 1) := by
  have above := activeAt_lt_axes (k := fkLockLost) (by decide) a
  rw [State.recoveryCounted, State.count, State.get_put_same,
    State.setActive_get_other false (by unfold Obj.LockRecoveries; omega)]

theorem State.closeLoop_axis (s : State) (a : Nat) :
    ((s.closeLoop a).axis a).closed = true ∧ ((s.closeLoop a).axis a).closing = true :=
  ⟨congrArg AxisRt.closed (State.setAxis_axis_same ..), congrArg AxisRt.closing (State.setAxis_axis_same ..)⟩

/-- Closing the loops is a matter of the axis's own record. -/
theorem State.reclosed_keeps_sl_and_get (s : State) (a : Nat) :
    (s.reclosed a).sl a = s.sl a ∧ ∀ k, (s.reclosed a).get k = s.get k := by
  unfold State.reclosed
  split
  · exact ⟨rfl, fun _ => rfl⟩
  · split
    · exact ⟨rfl, fun _ => rfl⟩
    · exact ⟨rfl, fun _ => rfl⟩

theorem State.reclosed_axis (s : State) (a : Nat) :
    ((s.reclosed a).axis a).closed = true ∧ ((s.reclosed a).axis a).closing = true := by
  unfold State.reclosed
  split
  · rw [State.setAxis_axis_same]
    exact ⟨rfl, rfl⟩
  · split
    · rw [State.setAxis_axis_same]
      exact s.closeLoop_axis a
    · exact s.closeLoop_axis a

theorem exec_lockRecoveryFailed_of_no_angle {a : Nat} {s : State} (lost : (s.sl a).lost = true)
    (found : (s.sl a).reacq = false) : exec (.lockRecoveryFailed a) s = .next (s.recoveryFail a) := by
  change execLockRecoveryFailed a s = _
  rw [execLockRecoveryFailed, lost, found]
  rfl

/-! ### Ride-through (R280, R282) -/

theorem State.rideEnd_riding (s : State) (a : Nat) : ((s.rideEnd a).sl a).riding = false :=
  congrArg SlRt.riding (State.setSl_sl_same ..)

theorem State.rideEnd_sourceDue (s : State) (a : Nat) : ((s.rideEnd a).axis a).sourceDue = true :=
  congrArg AxisRt.sourceDue (State.setAxis_axis_same ..)

theorem exec_rideThroughReturn_of_due {a : Nat} {s : State} (riding : (s.sl a).riding = true)
    (automatic : s.inUse (Obj.RideThroughReturn a) = 1)
    (present : s.natInUse (Obj.RideThroughReturnTicks a) < (s.sl a).absent) :
    exec (.rideThroughReturn a) s = .next (s.rideEnd a) := by
  change execRideThroughReturn a s = _
  simp [execRideThroughReturn, riding, automatic, present]

theorem exec_returnFromRideThrough_of_feedback_lost {a : Nat} {s : State} (h : s.faultActive fkFeedbackLost a = true) :
    exec (.returnFromRideThrough a) s = .next (s.reply 0x0702) := congrArg _ (if_pos h)

theorem exec_returnFromRideThrough_of_feedback {a : Nat} {s : State} (h : s.faultActive fkFeedbackLost a = false) :
    exec (.returnFromRideThrough a) s = .next
      (if (s.sl a).riding = true ∧ s.get (Obj.RideThroughReturn a) = 2 then (s.rideEnd a).done else s.done) := by
  change execReturnFromRideThrough a s = _
  simp [execReturnFromRideThrough, h]

/-! ### The angle test (R283) -/

/-- An acquisition writes the state of cast-on and the estimator in use. -/
theorem State.castAcquire_get_other (s : State) {a j : Nat} (state : j ≠ Obj.CastOnState a) (estimator : j ≠ Obj.SlEstimator a) :
    (s.castAcquire a).get j = s.get j := by
  unfold State.castAcquire
  dsimp only
  split
  · exact (State.get_put_other _ 1 estimator).trans (State.get_put_other _ 3 state)
  · exact State.get_put_other _ 1 state

/-- The axis with an angle test begun. -/
def State.angleTested (s : State) (a : Nat) : State :=
  let t := (s.put (Obj.CastOnResult a) 0).castAcquire a
  t.setSl a { t.sl a with test := true }

theorem exec_angleTest_outside_run {a : Nat} {s : State} (h : s.get Obj.DeviceState ≠ devRun) :
    exec (.angleTest a) s = .next (s.reply 0x0701) := congrArg _ (if_pos h)

theorem exec_angleTest_outside_standby {a : Nat} {s : State} (run : s.get Obj.DeviceState = devRun)
    (h : s.get (Obj.AxisState a) ≠ axStandby) : exec (.angleTest a) s = .next (s.reply 0x0703) :=
  congrArg _ ((if_neg (not_not_intro run)).trans (if_pos h))

theorem exec_angleTest_in_standby {a : Nat} {s : State} (run : s.get Obj.DeviceState = devRun)
    (h : s.get (Obj.AxisState a) = axStandby) : exec (.angleTest a) s = .next (s.angleTested a).done :=
  congrArg _ ((if_neg (not_not_intro run)).trans (if_neg (not_not_intro h)))

theorem State.angleTested_test (s : State) (a : Nat) : ((s.angleTested a).sl a).test = true :=
  congrArg SlRt.test (State.setSl_sl_same ..)

theorem State.angleTested_get_axisState (s : State) (a : Nat) :
    (s.angleTested a).get (Obj.AxisState a) = s.get (Obj.AxisState a) := by
  rw [State.angleTested, State.setSl_get, State.castAcquire_get_other _ (by unfold Obj.AxisState Obj.CastOnState; omega)
    (by unfold Obj.AxisState Obj.SlEstimator; omega), State.get_put_other _ _ (by unfold Obj.AxisState Obj.CastOnResult; omega)]

/-- Settles O35: the loops that close again leave the lock and the count, and the angle test leaves the axis in Standby; every
other clause is the law of its command. -/
theorem lockLossAndRecovery : Obligations.LockLossAndRecovery := by
  refine ⟨fun a time s _ source cause closed _ _ _ _ => exec_lockLost_of_closed source cause closed,
    fun a time s h => exec_lockLost_of_no_cause h,
    fun a s _ lost high => ?_,
    fun a s _ lost low measurable => ?_,
    fun a s kept => exec_ascOrFreewheel_of_kept_lock kept,
    fun a time phasor speed s hold asc first => exec_reacquisitionEstimate_of_first time phasor speed hold asc first,
    fun a time phasor speed s hold => exec_reacquisitionEstimate_of_hold time phasor speed hold,
    fun a s _ lost found => ?_,
    fun a s lost found => exec_lockRecoveryFailed_of_no_angle lost found,
    fun a s riding automatic present =>
      ⟨_, exec_rideThroughReturn_of_due riding automatic present, s.rideEnd_riding a, s.rideEnd_sourceDue a⟩,
    fun a s h => exec_angleTest_outside_run h,
    fun a s run h => exec_angleTest_outside_standby run h,
    fun a s _ run h => ⟨_, exec_angleTest_in_standby run h, rfl, s.angleTested_test a, (s.angleTested_get_axisState a).trans h⟩,
    fun a s h => exec_returnFromRideThrough_of_feedback_lost h,
    fun a s present riding commanded => ?_,
    fun a s present other => ?_⟩
  · rw [exec_ascOrFreewheel_of_lost lost, if_pos high]
    exact ⟨_, rfl, State.shortStage_asc .., State.shortStage_get_estimator ..⟩
  · have threshold := s.put_inUse_other (s.sl a).lastE (show Obj.CastOnBemfThreshold a ≠ Obj.BemfEstimate a by
      unfold Obj.CastOnBemfThreshold Obj.BemfEstimate; omega)
    rw [exec_ascOrFreewheel_of_lost lost, if_neg (Int.not_lt.2 low),
      State.freeStage_of_measurable (threshold.trans_le measurable), State.put_sl]
  · obtain ⟨kept, same⟩ := ((s.relocked a).recoveryCounted a).reclosed_keeps_sl_and_get a
    obtain ⟨unlost, unfound, locked⟩ := s.relocked_sl a
    obtain ⟨closed, closing⟩ := ((s.relocked a).recoveryCounted a).reclosed_axis a
    refine ⟨_, exec_lockRecovery_of_reacquired lost found, ?_, ?_, ?_, closed, closing, ?_⟩
    · rw [kept, State.recoveryCounted_sl, unlost]
    · rw [kept, State.recoveryCounted_sl, unfound]
    · rw [kept, State.recoveryCounted_sl, locked]
    · rw [same, State.recoveryCounted_get_count,
        State.relocked_get_other s (by unfold Obj.LockRecoveries Obj.SlEstimator; omega)]
  · rw [exec_returnFromRideThrough_of_feedback present, if_pos ⟨riding, commanded⟩]
  · rw [exec_returnFromRideThrough_of_feedback present, if_neg]
    rintro ⟨riding, commanded⟩
    rcases other with off | automatic
    · exact Bool.noConfusion (off.symm.trans riding)
    · exact automatic commanded

end Sys2Proof.Machine
end

section
/-! SUPPORT. The state right after a power-on reset (spec/19_package_power_reset.md): what its registers read as. -/

namespace Sys2Proof.Machine

/-- After reset every register reads as its default. -/
theorem State.reset_get (k : Nat) : State.reset.get k = Dict.dflt k := rfl

theorem dflt_axisState : ∀ a < 64, Dict.dflt (Obj.AxisState a) = 0 := by decide +kernel

theorem dflt_graftState : ∀ k < 128, Dict.dflt (Obj.GraftState k) = 0 := by decide +kernel

theorem dflt_spanState : ∀ g < 8, Dict.dflt (Obj.SpanState g) = 0 := by decide +kernel

theorem dflt_faultSticky : ∀ k < 0x34, 0 < k → Dict.dflt (Obj.FaultSticky k) = 0 := by decide +kernel

/-- Settles O2: the tables of the state begin empty, and each register named holds its default. -/
theorem resetLeavesTheStatedValues : Obligations.ResetLeavesTheStatedValues := by
  unfold Obligations.ResetLeavesTheStatedValues
  simp only [State.reset_get]
  refine ⟨rfl, rfl, rfl, rfl, ?_, ?_, ?_, ?_, ?_, ?_, dflt_axisState, dflt_graftState, dflt_spanState, dflt_faultSticky⟩
  all_goals decide

end Sys2Proof.Machine
end

section
/-! SUPPORT. The instructions of a loop core between two bundles (spec/12_loop_cores.md): what a single-slot bundle leaves of its
core and its device, and the arithmetic of the registers. -/

namespace Sys2Proof.Machine

/-! ### Registers of a bank (R313) -/

/-- The bank with a physical register written. -/
def Bank.wrote (b : Bank) (w : Nat × Int) : Bank := { b with x := Sparse.insert w.1 w.2 b.x }

theorem Bank.wrote_phys (b : Bank) (w : Nat × Int) (k : Nat) :
    (b.wrote w).phys k = if k = w.1 ∧ k ≠ 0 then w.2 else b.phys k := by
  by_cases zero : k = 0
  · simp [Bank.phys, zero]
  · by_cases e : k = w.1
    · simp only [Bank.phys, Bank.wrote, lookup_insert, if_neg zero, if_pos e, if_pos (And.intro e zero)]
    · simp only [Bank.phys, Bank.wrote, lookup_insert, if_neg zero, if_neg e, if_neg (not_and_of_not_left _ e)]

/-- Writes touch the registers of a bank alone. -/
theorem Bank.foldl_wrote (l : List (Nat × Int)) (b : Bank) : ∃ x, l.foldl Bank.wrote b = { b with x := x } := by
  induction l generalizing b with
  | nil => exact ⟨b.x, rfl⟩
  | cons w l ih => exact ih (b.wrote w)

/-! ### A bundle of one instruction (R310) -/

/-- What an instruction reports of its core: the bits of its status, and a saturated result with the outputs of its stitch. -/
def State.reported (s : State) (core : Nat) (e : Effect) : State :=
  let t := s.each e.status fun t b => t.setBit (Obj.CoreStatus core) b
  if e.sat then
    let u := t.setBit (Obj.CoreStatus core) 3
    match (s.core core).recordOrder.bind u.stitchByOrder with
    | some d => u.each (d.outputs.filter fun o => o != unwired) fun u o => u.setBit (Obj.SlotFlags o) 1
    | none => u
  else t

/-- What a bundle stores. -/
def State.stored (s : State) (l : List (Nat × Nat × Int)) : State :=
  l.foldl (fun s w => s.store (kernelKey w.1) w.2.1 (intLE 8 w.2.2)) s

/-- The core after a bundle of one instruction. -/
def CoreRt.after (c : CoreRt) (e : Effect) : CoreRt :=
  { c with
    main := Bank.flow (e.regs.foldl Bank.wrote c.main) e.flow
    div := e.div.map fun d => (false, d)
    sqrt := e.sqrt.map fun d => (false, d) }

theorem State.each_setBit_cores (f : Nat → Nat × Nat) (l : List Nat) (s : State) :
    (s.each l fun t n => t.setBit (f n).1 (f n).2).cores = s.cores := by
  induction l generalizing s with
  | nil => rfl
  | cons n l ih => exact ih _

theorem State.each_setBit_mem (f : Nat → Nat × Nat) (l : List Nat) (s : State) :
    (s.each l fun t n => t.setBit (f n).1 (f n).2).mem = s.mem := by
  induction l generalizing s with
  | nil => rfl
  | cons n l ih => exact ih _

theorem State.reported_cores (s : State) (core : Nat) (e : Effect) : (s.reported core e).cores = s.cores := by
  have status := State.each_setBit_cores (fun b => (Obj.CoreStatus core, b)) e.status s
  unfold State.reported
  dsimp only
  split
  · split
    · exact (State.each_setBit_cores (fun o => (Obj.SlotFlags o, 1)) _ _).trans status
    · exact status
  · exact status

theorem State.reported_mem (s : State) (core : Nat) (e : Effect) : (s.reported core e).mem = s.mem := by
  have status := State.each_setBit_mem (fun b => (Obj.CoreStatus core, b)) e.status s
  unfold State.reported
  dsimp only
  split
  · split
    · exact (State.each_setBit_mem (fun o => (Obj.SlotFlags o, 1)) _ _).trans status
    · exact status
  · exact status

theorem State.reported_of_silent {s : State} {core : Nat} {e : Effect} (hs : e.status = []) (ha : e.sat = false) :
    s.reported core e = s := by
  simp only [State.reported, hs, ha, Bool.false_eq_true, if_false]
  rfl

theorem State.reported_of_status {s : State} {core b : Nat} {e : Effect} (hs : e.status = [b]) (ha : e.sat = false) :
    s.reported core e = s.setBit (Obj.CoreStatus core) b := by
  simp only [State.reported, hs, ha, Bool.false_eq_true, if_false]
  rfl

theorem State.stored_cores (l : List (Nat × Nat × Int)) (s : State) : (s.stored l).cores = s.cores := by
  induction l generalizing s with
  | nil => rfl
  | cons w l ih => exact ih _

theorem State.stored_regs (l : List (Nat × Nat × Int)) (s : State) : (s.stored l).regs = s.regs := by
  induction l generalizing s with
  | nil => rfl
  | cons w l ih => exact ih _

/-- The end of a bundle whose instructions had the effect `e` on a core that stood at `c0` before the last of them. -/
def State.endBundle (t : State) (core : Nat) (c0 : CoreRt) (e : Effect) : State :=
  let regs := c0.buf ++ e.regs
  let flow := if c0.bufFlow = .next then e.flow else c0.bufFlow
  let c := t.core core
  let drop := fun (o : Option (Bool × Nat × Int)) => o.filter fun d => !(d.1 == c.inShadow && regs.any fun w => w.1 == d.2.1)
  let next : CoreRt := { c with
    buf := [], bufStore := [], bufFlow := .next, bufDiv := none, bufSqrt := none, mid := false
    div := (c0.bufDiv.or (e.div.map fun d => (c0.inShadow, d))).or (drop c.div)
    sqrt := (c0.bufSqrt.or (e.sqrt.map fun d => (c0.inShadow, d))).or (drop c.sqrt) }
  let u := (t.stored (c0.bufStore ++ e.store)).setCore core (next.setBank (Bank.flow (regs.foldl Bank.wrote c.bank) flow))
  let v := if flow = .ret then u.retire core else u
  if (v.core core).inShadow then v else v.nextHandler core

theorem State.issue_last (s : State) (core : Nat) (f : CoreRt → Effect) :
    s.issue ⟨core, false⟩ f = (s.reported core (f (s.core core))).endBundle core (s.core core) (f (s.core core)) := rfl

theorem State.reported_core (s : State) (core : Nat) (e : Effect) (n : Nat) : (s.reported core e).core n = s.core n := by
  rw [State.core, State.reported_cores, State.core]

/-- The state after a bundle of one instruction with the effect `e`: its report, its stores, and its core gone on. -/
def State.issued (s : State) (core : Nat) (e : Effect) : State :=
  ((s.reported core e).stored e.store).setCore core ((s.core core).after e)

/-- A bundle of one instruction that is no RET, between plain bundles. -/
theorem State.issue_of_plain {s : State} {core : Nat} {f : CoreRt → Effect} {e : Effect} (h : (s.core core).Plain)
    (he : f (s.core core) = e) (hf : e.flow ≠ .ret) : s.issue ⟨core, false⟩ f = s.issued core e := by
  obtain ⟨⟨buf, bufStore, bufFlow, bufDiv, bufSqrt, mid⟩, div, sqrt, -, -, waiting, bank⟩ := h
  rw [State.issue_last, he, State.endBundle]
  simp only [State.reported_core, buf, bufStore, bufFlow, bufDiv, bufSqrt, div, sqrt, bank, CoreRt.bank, CoreRt.setBank,
    Bool.false_eq_true, if_false, if_true, List.nil_append, Option.filter_none, Option.or_none, Option.none_or, if_neg hf,
    State.setCore_core_same]
  refine (State.nextHandler_none ?_).trans ?_
  · rw [State.setCore_core_same]
    exact waiting
  · simp only [State.issued, CoreRt.after, buf, bufStore, bufFlow, bufDiv, bufSqrt, mid, bank]

/-! ### What the core and the device read as after such a bundle -/

@[simp] theorem State.issued_core (s : State) (core : Nat) (e : Effect) : (s.issued core e).core core = (s.core core).after e :=
  State.setCore_core_same ..

theorem State.issued_core_other (s : State) {core n : Nat} (e : Effect) (h : n ≠ core) : (s.issued core e).core n = s.core n := by
  rw [State.issued, State.setCore_core_other _ _ h, State.core, State.stored_cores, State.reported_cores, State.core]

theorem State.issued_regs (s : State) (core : Nat) (e : Effect) : (s.issued core e).regs = (s.reported core e).regs :=
  State.stored_regs ..

theorem State.issued_bit (s : State) (core : Nat) (e : Effect) (k i : Nat) :
    (s.issued core e).bit k i = (s.reported core e).bit k i := by
  rw [State.bit, State.nat, State.get, State.issued_regs, State.bit, State.nat, State.get]

theorem State.issued_regs_of_silent {s : State} {core : Nat} {e : Effect} (hs : e.status = []) (ha : e.sat = false) :
    (s.issued core e).regs = s.regs := by rw [State.issued_regs, State.reported_of_silent hs ha]

theorem State.issued_mem_of_no_store {s : State} {core : Nat} {e : Effect} (h : e.store = []) : (s.issued core e).mem = s.mem := by
  change (State.stored _ e.store).mem = _
  rw [h]
  exact State.reported_mem ..

/-- The flow of a bundle on a bank without branch and repeat writes no register. -/
theorem Bank.flow_phys {b : Bank} (branch : b.branch = none) (reps : b.reps = []) (f : Flow) (k : Nat) :
    (b.flow f).phys k = b.phys k ∧ (b.flow f).rof = b.rof := by
  simp only [Bank.flow, branch, Bank.advance, reps]
  cases f <;> exact ⟨rfl, rfl⟩

theorem CoreRt.reg_of_idle_units {c : CoreRt} (bank : c.inShadow = false) (div : c.div = none) (sqrt : c.sqrt = none) (k : Nat) :
    c.reg k = c.main.phys (physReg c.main.rof k) := by
  simp only [CoreRt.reg, CoreRt.inFlight, CoreRt.bank, bank, div, sqrt, Bool.false_eq_true, if_false, Option.getD_none]

theorem CoreRt.acc_of_main {c : CoreRt} (bank : c.inShadow = false) (a : Nat) : c.acc a = c.main.phys (64 + a % 2) := by
  simp only [CoreRt.acc, CoreRt.bank, bank, Bool.false_eq_true, if_false]

section
variable {c : CoreRt} {e : Effect} (h : c.Plain)
include h

theorem CoreRt.Plain.reg_eq (k : Nat) : c.reg k = c.main.phys (physReg c.main.rof k) := by
  obtain ⟨-, div, sqrt, -, -, -, bank⟩ := h
  exact CoreRt.reg_of_idle_units bank div sqrt k

theorem CoreRt.Plain.acc_eq (a : Nat) : c.acc a = c.main.phys (64 + a % 2) := by
  obtain ⟨-, -, -, -, -, -, bank⟩ := h
  exact CoreRt.acc_of_main bank a

theorem CoreRt.Plain.wr_eq (rd : Nat) (v : Int) : c.wr rd v = if rd = 0 then [] else [(physReg c.main.rof rd, v)] := by
  obtain ⟨-, -, -, -, -, -, bank⟩ := h
  simp only [CoreRt.wr, CoreRt.bank, bank, Bool.false_eq_true, if_false]

theorem CoreRt.Plain.written_straight (l : List (Nat × Int)) :
    (l.foldl Bank.wrote c.main).branch = none ∧ (l.foldl Bank.wrote c.main).reps = [] ∧
      (l.foldl Bank.wrote c.main).rof = c.main.rof ∧ (l.foldl Bank.wrote c.main).pc = c.main.pc := by
  obtain ⟨-, -, -, branch, reps, -, -⟩ := h
  obtain ⟨x, hx⟩ := Bank.foldl_wrote l c.main
  rw [hx]
  exact ⟨branch, reps, rfl, rfl⟩

theorem CoreRt.Plain.after_phys (k : Nat) : (c.after e).main.phys k = (e.regs.foldl Bank.wrote c.main).phys k := by
  obtain ⟨branch, reps, -, -⟩ := h.written_straight e.regs
  exact (Bank.flow_phys branch reps e.flow k).1

theorem CoreRt.Plain.after_rof : (c.after e).main.rof = c.main.rof := by
  obtain ⟨branch, reps, rof, -⟩ := h.written_straight e.regs
  exact (Bank.flow_phys branch reps e.flow 0).2.trans rof

theorem CoreRt.Plain.after_acc (a : Nat) : (c.after e).acc a = (e.regs.foldl Bank.wrote c.main).phys (64 + a % 2) := by
  rw [← h.after_phys]
  obtain ⟨-, -, -, -, -, -, bank⟩ := h
  exact CoreRt.acc_of_main (c := c.after e) bank a

theorem CoreRt.Plain.after_reg (hd : e.div = none) (hq : e.sqrt = none) (k : Nat) :
    (c.after e).reg k = (e.regs.foldl Bank.wrote c.main).phys (physReg c.main.rof k) := by
  rw [← h.after_phys, ← h.after_rof (e := e)]
  obtain ⟨-, -, -, -, -, -, bank⟩ := h
  exact CoreRt.reg_of_idle_units (c := c.after e) bank (by simp only [CoreRt.after, hd, Option.map_none])
    (by simp only [CoreRt.after, hq, Option.map_none]) k

/-- A write of a register name after an effect's own. -/
theorem CoreRt.Plain.after_reg_wr (hd : e.div = none) (hq : e.sqrt = none) {rd k : Nat} (v : Int) (hr : rd < 64) (hk : k < 64) :
    (c.after { e with regs := e.regs ++ c.wr rd v }).reg k = if k = rd ∧ rd ≠ 0 then v else (c.after e).reg k := by
  rw [h.after_reg (e := e) hd hq, h.after_reg (e := { e with regs := e.regs ++ c.wr rd v }) hd hq, h.wr_eq]
  by_cases zero : rd = 0
  · simp only [zero, if_true, List.append_nil, ne_eq, not_true, and_false, if_false]
  · have same : physReg c.main.rof k = physReg c.main.rof rd ∧ physReg c.main.rof k ≠ 0 ↔ k = rd ∧ rd ≠ 0 :=
      ⟨fun e => ⟨physReg_inj hk hr e.1, zero⟩, fun e => ⟨e.1 ▸ rfl, fun e' => zero (e.1 ▸ physReg_zero e')⟩⟩
    simp only [if_neg zero, List.foldl_append, List.foldl_cons, List.foldl_nil, Bank.wrote_phys, same]

theorem CoreRt.Plain.after_reg_of_no_write (hr : e.regs = []) (hd : e.div = none) (hq : e.sqrt = none) (k : Nat) :
    (c.after e).reg k = c.reg k := by
  rw [h.after_reg hd hq, hr, h.reg_eq, List.foldl_nil]

theorem CoreRt.Plain.after_pc (hf : e.flow = .next) : (c.after e).main.pc = c.main.pc + 1 := by
  obtain ⟨branch, reps, -, pc⟩ := h.written_straight e.regs
  simp only [CoreRt.after, hf, Bank.flow, branch, Bank.advance, reps, pc]

end

/-- The accumulators lie beyond the registers. -/
theorem acc_ne_physReg (a : Nat) {r k : Nat} (hk : k < 64) : 64 + a % 2 ≠ physReg r k := by
  have := physReg_lt (r := r) hk
  omega

/-! ### Arithmetic (R311, R312) -/

theorem CoreRt.result_wrapped (c : CoreRt) (rd : Nat) (x : Int) : c.result false rd x = { regs := c.wr rd (wrapS 64 x) } := rfl

/-- A saturating ADD writes the saturated sum. -/
theorem CoreRt.Plain.result_reg {c : CoreRt} (h : c.Plain) {rd : Nat} (sat : Bool) (x : Int) (h0 : 0 < rd) :
    (c.after (c.result sat rd x)).reg rd = (narrow 64 sat x).1 := by
  have written : physReg c.main.rof rd ≠ 0 := fun zero => h0.ne' (physReg_zero zero)
  rw [h.after_reg (e := c.result sat rd x) rfl rfl]
  simp only [CoreRt.result, h.wr_eq, if_neg h0.ne', List.foldl_cons, List.foldl_nil, Bank.wrote_phys,
    ne_eq, written, not_false_eq_true, and_self, if_true]

/-- Outside a stitch a saturated result sets the core's saturation bit. -/
theorem State.reported_bit_of_saturated {s : State} {core : Nat} {e : Effect} (hs : e.sat = true) (hc : (s.core core).stitch = none) :
    (s.reported core e).bit (Obj.CoreStatus core) 3 = true := by
  have outside : (s.core core).recordOrder = none := by
    unfold CoreRt.recordOrder
    split
    · rfl
    · exact hc
  simp only [State.reported, hs, outside, if_true, Option.bind_none, State.setBit_bit_same]

/-- Settles O37: every instruction but the saturating ADD only writes its register. -/
theorem midopinArithmetic : Obligations.MidopinArithmetic := by
  refine ⟨fun core s h => ⟨_, rfl, State.wrote_issue _ h (by decide) rfl⟩,
    fun core rd ra rb s h hr => ⟨_, rfl, State.wrote_issue _ h hr rfl⟩,
    fun core rd ra rb s h h0 hr => ?_,
    fun core rd ra rb s h hr => ⟨_, rfl, State.wrote_issue _ h hr rfl⟩,
    fun core rd ra imm s h hr => ⟨_, rfl, State.wrote_issue _ h hr rfl⟩,
    fun core rd imm s h hr => ⟨_, rfl, State.wrote_issue _ h hr rfl⟩,
    fun core rd ra rb s h hr => ⟨_, rfl, State.wrote_issue _ h hr rfl⟩,
    fun core rd ra rb s h hr => ⟨_, rfl, State.wrote_issue _ h hr rfl⟩,
    fun core rd ra rb s h hr => ⟨_, rfl, State.wrote_issue _ h hr rfl⟩,
    fun core rd ra rb s h hr => ⟨_, rfl, State.wrote_issue _ h hr rfl⟩,
    fun core rd ra rb s h hr => ⟨_, rfl, State.wrote_issue _ h hr rfl⟩,
    fun core rd ra rb s h hr => ⟨_, rfl, State.wrote_issue _ h hr rfl⟩⟩
  refine ⟨_, congrArg Host.Outcome.next (State.issue_of_plain h rfl (by rintro ⟨⟩)), ?_, fun beyond outside => ?_⟩
  · rw [State.issued_core]
    exact h.result_reg true _ h0
  · rw [State.issued_bit]
    exact State.reported_bit_of_saturated (bne_iff_ne.2 beyond) outside

end Sys2Proof.Machine
end

section
/-! SUPPORT. Compares, searches and accumulators of a loop core (spec/12_loop_cores.md). -/

namespace Sys2Proof.Machine

/-- What a bundle that only writes registers of its bank leaves of the device. -/
theorem State.issued_keeps {s : State} {core : Nat} {l : List (Nat × Int)} (h : (s.core core).Plain)
    (acc : ∀ a, (l.foldl Bank.wrote (s.core core).main).phys (64 + a % 2) = (s.core core).main.phys (64 + a % 2)) :
    s.KeepsBut (s.issued core { regs := l }) core := by
  refine ⟨State.issued_regs_of_silent rfl rfl, State.issued_mem_of_no_store rfl, fun c hc => State.issued_core_other s _ hc, fun a => ?_⟩
  rw [State.issued_core, h.after_acc, h.acc_eq]
  exact acc a

/-! ### Index search (R317) -/

/-- The running extreme of the pair rd and rd + 1 replaced, outside a repeat. -/
theorem State.search_better {s : State} {core rd ra : Nat} {f : CoreRt → Effect} (h : (s.core core).Plain) (hr : 2 ≤ rd)
    (hr' : rd ≤ 30) (hf : f (s.core core) = (s.core core).search true rd ra) :
    let t := s.issue ⟨core, false⟩ f
    (t.core core).reg rd = (s.core core).reg ra ∧ (t.core core).reg (rd + 1) = 0 ∧ s.KeepsBut t core := by
  have effect : (s.core core).search true rd ra = { regs := [(rd, (s.core core).reg ra), (rd + 1, 0)] } := by
    have iteration : (s.core core).iteration = 0 := by
      obtain ⟨-, -, -, -, reps, -, bank⟩ := h
      simp only [CoreRt.iteration, CoreRt.bank, bank, Bool.false_eq_true, if_false, reps]
    have low : physReg (s.core core).main.rof rd = rd := if_pos (by omega)
    have high : physReg (s.core core).main.rof (rd + 1) = rd + 1 := if_pos (by omega)
    simp only [CoreRt.search, if_true, h.wr_eq, iteration, low, high, if_neg (show rd ≠ 0 by omega), if_neg (Nat.succ_ne_zero rd),
      List.cons_append, List.nil_append]
  have read : ∀ k, k < 32 → physReg (s.core core).main.rof k = k := fun k hk => if_pos hk
  intro t
  have issued : t = s.issued core { regs := [(rd, (s.core core).reg ra), (rd + 1, 0)] } := State.issue_of_plain h (hf.trans effect) (by rintro ⟨⟩)
  rw [issued]
  refine ⟨?_, ?_, State.issued_keeps h fun a => ?_⟩
  · rw [State.issued_core, h.after_reg rfl rfl, read rd (by omega)]
    simp [Bank.wrote_phys]
    omega
  · rw [State.issued_core, h.after_reg rfl rfl, read (rd + 1) (by omega)]
    simp [Bank.wrote_phys]
  · simp only [List.foldl_cons, List.foldl_nil, Bank.wrote_phys]
    rw [if_neg (by omega), if_neg (by omega)]

/-! ### Accumulators (R312) -/

/-- An instruction that only writes one accumulator. -/
theorem State.accumulated_issue {s : State} {core a : Nat} {v : Int} {f : CoreRt → Effect} (h : (s.core core).Plain)
    (hf : f (s.core core) = { regs := [(64 + a % 2, v)] }) : s.Accumulated (s.issue ⟨core, false⟩ f) core a v := by
  rw [State.issue_of_plain h hf (by rintro ⟨⟩)]
  refine ⟨State.issued_regs_of_silent rfl rfl, State.issued_mem_of_no_store rfl, fun c hc => State.issued_core_other s _ hc, ?_, ?_, ?_,
    fun k hk => ?_⟩
  · rw [State.issued_core, h.after_pc rfl]
  · rw [State.issued_core, h.after_acc, List.foldl_cons, List.foldl_nil, Bank.wrote_phys, if_pos ⟨rfl, by omega⟩]
  · rw [State.issued_core, h.after_acc, h.acc_eq, List.foldl_cons, List.foldl_nil, Bank.wrote_phys, if_neg (by omega)]
  · rw [State.issued_core, h.after_reg rfl rfl, h.reg_eq, List.foldl_cons, List.foldl_nil, Bank.wrote_phys,
      if_neg fun e => acc_ne_physReg a hk e.1.symm]

/-- Both accumulators written by one instruction. -/
theorem State.issue_both_acc {s : State} {core : Nat} {v w : Int} {f : CoreRt → Effect} (h : (s.core core).Plain)
    (hf : f (s.core core) = { regs := [(64, v), (65, w)] }) :
    ((s.issue ⟨core, false⟩ f).core core).acc 0 = v ∧ ((s.issue ⟨core, false⟩ f).core core).acc 1 = w := by
  rw [State.issue_of_plain h hf (by rintro ⟨⟩), State.issued_core, h.after_acc, h.after_acc]
  simp [Bank.wrote_phys]

/-- Settles O38: CLAMP, MIN, MAX and ACCR only write their register, and a search that finds nothing better writes none. -/
theorem midopinComparesAndAccumulates : Obligations.MidopinComparesAndAccumulates := by
  refine ⟨fun core rd ra rb s h hr bounds => ⟨_, rfl, State.wrote_issue _ h hr ?_⟩,
    fun core rd ra rb s h hr => ⟨_, rfl, State.wrote_issue _ h hr rfl⟩,
    fun core rd ra rb s h hr => ⟨_, rfl, State.wrote_issue _ h hr rfl⟩,
    fun core rd ra s h low high _ beyond => ⟨_, rfl, ?_⟩,
    fun core rd ra s h within => ⟨_, rfl, State.wrote_issue _ h (by decide) ?_⟩,
    fun core rd ra s h low high _ beyond => ⟨_, rfl, ?_⟩,
    fun core a ra rb s h => ⟨_, rfl, State.accumulated_issue h rfl⟩,
    fun core a ra rb s h => ⟨_, rfl, State.accumulated_issue h ?_⟩,
    fun core ra rb s h => ⟨_, rfl, State.issue_both_acc h rfl⟩,
    fun core a shift rd s h hr => ⟨_, rfl, State.wrote_issue _ h hr rfl⟩,
    fun core a ra s h => ⟨_, rfl, State.accumulated_issue h rfl⟩,
    fun core a ra s h => ⟨_, rfl, State.accumulated_issue h rfl⟩⟩
  · rw [if_neg (Int.not_lt.2 bounds)]
    simp only [clampI, min_comm]
  · exact State.search_better h low high (by rw [decide_eq_true beyond])
  · simp only [CoreRt.search, decide_eq_false (Int.not_lt.2 within), Bool.false_eq_true, if_false]
    rfl
  · exact State.search_better h low high (by rw [decide_eq_true beyond])
  · simp only [CoreRt.accumulate, CoreRt.macTerm, if_true, ← Int.sub_eq_add_neg]
    rfl

end Sys2Proof.Machine
end

section
/-! SUPPORT. The filter tap of a loop core (spec/12_loop_cores.md, R318). -/

namespace Sys2Proof.Machine

/-- What an instruction reports is its status bits and its saturation. -/
theorem State.reported_of_effects {s : State} {core : Nat} {e e' : Effect} (hs : e.status = e'.status) (ha : e.sat = e'.sat) :
    s.reported core e = s.reported core e' := by
  simp only [State.reported, hs, ha]

/-- Settles O39: the move of a filter tap writes a register, which lies apart from the accumulators. -/
theorem ftapIsMacWithAMove : Obligations.FtapIsMacWithAMove := by
  intro core a rc ra rb sat subtract s h hr
  have apart : ∀ b, 64 + b % 2 ≠ physReg (s.core core).main.rof rc := fun b => acc_ne_physReg b hr
  refine ⟨_, _, congrArg Host.Outcome.next (State.issue_of_plain h rfl (by rintro ⟨⟩)),
    congrArg Host.Outcome.next (State.issue_of_plain h rfl (by rintro ⟨⟩)), fun b => ?_, ?_, ?_, ?_, fun k hk => ?_⟩
  · rw [State.issued_core, State.issued_core, h.after_acc, h.after_acc]
    simp only [CoreRt.accumulate, h.wr_eq]
    split
    · rfl
    · simp only [List.cons_append, List.nil_append, List.foldl_cons, List.foldl_nil, Bank.wrote_phys, if_neg (not_and_of_not_left _ (apart b))]
  · rw [State.issued_regs, State.issued_regs]
    exact congrArg State.regs (State.reported_of_effects rfl rfl)
  · rw [State.issued_mem_of_no_store rfl, State.issued_mem_of_no_store rfl]
  · rw [State.issued_core, State.issued_core, h.after_pc rfl, h.after_pc rfl]
  · have acc : ∀ e v, e.div = none → e.sqrt = none → e.regs = [(64 + a % 2, v)] → ((s.core core).after e).reg k = (s.core core).reg k := by
      intro e v hd hq hw
      rw [h.after_reg hd hq, h.reg_eq, hw, List.foldl_cons, List.foldl_nil, Bank.wrote_phys,
        if_neg fun same => acc_ne_physReg a hk same.1.symm]
    rw [State.issued_core]
    refine (h.after_reg_wr rfl rfl _ hr hk).trans ?_
    rw [acc _ _ rfl rfl rfl]

end Sys2Proof.Machine
end

section
/-! SUPPORT. Division, square root and the data memory of a loop core (spec/12_loop_cores.md, R309, R312). -/

namespace Sys2Proof.Machine

/-! ### The units (R312) -/

/-- A register for which the divider holds a result reads as that result. -/
theorem CoreRt.Plain.after_reg_of_div {c : CoreRt} (h : c.Plain) {e : Effect} {k : Nat} {v : Int}
    (he : e.div = some (physReg c.main.rof k, v)) : (c.after e).reg k = v := by
  have rof := h.after_rof (e := e)
  obtain ⟨-, -, -, -, -, -, bank⟩ := h
  have running : (c.after e).inShadow = false := bank
  have div : (c.after e).div = some (false, physReg c.main.rof k, v) := by simp only [CoreRt.after, he, Option.map_some]
  simp only [CoreRt.reg, CoreRt.inFlight, CoreRt.bank, running, div, Bool.false_eq_true, if_false, rof, and_self, if_true,
    Option.getD_some]

/-- A register for which the square-root unit holds a result reads as that result. -/
theorem CoreRt.Plain.after_reg_of_sqrt {c : CoreRt} (h : c.Plain) {e : Effect} {k : Nat} {v : Int} (hd : e.div = none)
    (he : e.sqrt = some (physReg c.main.rof k, v)) : (c.after e).reg k = v := by
  have rof := h.after_rof (e := e)
  obtain ⟨-, -, -, -, -, -, bank⟩ := h
  have running : (c.after e).inShadow = false := bank
  have div : (c.after e).div = none := by simp only [CoreRt.after, hd, Option.map_none]
  have sqrt : (c.after e).sqrt = some (false, physReg c.main.rof k, v) := by simp only [CoreRt.after, he, Option.map_some]
  simp only [CoreRt.reg, CoreRt.inFlight, CoreRt.bank, running, div, sqrt, Bool.false_eq_true, if_false, rof, and_self, if_true,
    Option.getD_some]

/-- A unit that holds no result has none to write. -/
theorem State.divDone_core_of_idle {s : State} {core : Nat} (h : (s.core core).div = none) : (s.divDone core).core core = s.core core := by
  simp only [State.divDone, h, State.unitDone, State.setCore_core_same]
  rw [← h]

theorem State.sqrtDone_core_of_idle {s : State} {core : Nat} (h : (s.core core).sqrt = none) :
    (s.sqrtDone core).core core = s.core core := by
  simp only [State.sqrtDone, h, State.unitDone, State.setCore_core_same]
  rw [← h]

theorem State.unitDone_regs (s : State) (core : Nat) (o : Option (Bool × Nat × Int)) : (s.unitDone core o).regs = s.regs := by
  cases o <;> rfl

theorem State.unitDone_mem (s : State) (core : Nat) (o : Option (Bool × Nat × Int)) : (s.unitDone core o).mem = s.mem := by
  cases o <;> rfl

theorem State.divDone_regs (s : State) (core : Nat) : (s.divDone core).regs = s.regs := State.unitDone_regs ..
theorem State.divDone_mem (s : State) (core : Nat) : (s.divDone core).mem = s.mem := State.unitDone_mem ..
theorem State.sqrtDone_regs (s : State) (core : Nat) : (s.sqrtDone core).regs = s.regs := State.unitDone_regs ..
theorem State.sqrtDone_mem (s : State) (core : Nat) : (s.sqrtDone core).mem = s.mem := State.unitDone_mem ..

/-- A result of the main bank reaches its register. -/
theorem State.unitDone_phys (s : State) (core : Nat) {k : Nat} (v : Int) (h : 0 < k) :
    ((s.unitDone core (some (false, k, v))).core core).main.phys k = v := by
  simp only [State.unitDone, Bool.false_eq_true, if_false, if_neg h.ne', State.setCore_core_same]
  exact (Bank.wrote_phys _ (k, v) k).trans (if_pos ⟨rfl, h.ne'⟩)

/-- The effect of a division. -/
def CoreRt.quotient (c : CoreRt) (rd ra rb : Nat) : Effect :=
  let r := if c.reg32 rb = 0 then 0 else wrapS 64 ((c.reg ra).tdiv (c.reg32 rb))
  { status := if c.reg32 rb = 0 then [4] else [], div := some (if rd = 0 then 0 else physReg c.bank.rof rd, r) }

theorem exec_div_of_idle_unit {core : Nat} {s : State} (rd ra rb : Nat) (h : (s.core core).Plain) :
    exec (.div ⟨core, false⟩ false rd ra rb) s = .next ((s.divDone core).issued core ((s.core core).quotient rd ra rb)) := by
  obtain ⟨-, idle, -⟩ := id h
  have same := State.divDone_core_of_idle idle
  have plain : ((s.divDone core).core core).Plain := by rw [same]; exact h
  refine congrArg Host.Outcome.next (State.issue_of_plain plain ?_ ?_)
  · by_cases zero : (s.core core).reg32 rb = 0
    · simp only [same, CoreRt.quotient, zero, if_true]
    · simp only [same, CoreRt.quotient, zero, if_false]
      rfl
  · rintro ⟨⟩

theorem CoreRt.Plain.quotient_div {c : CoreRt} (h : c.Plain) {rd : Nat} (ra rb : Nat) (h0 : 0 < rd) :
    (c.quotient rd ra rb).div = some (physReg c.main.rof rd,
      if c.reg32 rb = 0 then 0 else wrapS 64 ((c.reg ra).tdiv (c.reg32 rb))) := by
  obtain ⟨-, -, -, -, -, -, bank⟩ := h
  simp only [CoreRt.quotient, CoreRt.bank, bank, Bool.false_eq_true, if_false, if_neg h0.ne']

/-- The register of a quotient reads as the quotient at once. -/
theorem State.quotient_reg {s : State} {core rd : Nat} (ra rb : Nat) (h : (s.core core).Plain) (h0 : 0 < rd) :
    (((s.divDone core).issued core ((s.core core).quotient rd ra rb)).core core).reg rd =
      if (s.core core).reg32 rb = 0 then 0 else wrapS 64 (((s.core core).reg ra).tdiv ((s.core core).reg32 rb)) := by
  obtain ⟨-, idle, -⟩ := id h
  rw [State.issued_core, State.divDone_core_of_idle idle]
  exact h.after_reg_of_div (h.quotient_div ra rb h0)

/-- The effect of a square root. -/
def CoreRt.root (c : CoreRt) (rd ra : Nat) : Effect :=
  { sqrt := some (if rd = 0 then 0 else physReg c.bank.rof rd, (Nat.sqrt (wrapU 64 (c.reg ra)).toNat : Nat)) }

theorem exec_sqrt_of_idle_unit {core : Nat} {s : State} (rd ra : Nat) (h : (s.core core).Plain) :
    exec (.sqrt ⟨core, false⟩ rd ra) s = .next ((s.sqrtDone core).issued core ((s.core core).root rd ra)) := by
  obtain ⟨-, -, idle, -⟩ := id h
  have same := State.sqrtDone_core_of_idle idle
  have plain : ((s.sqrtDone core).core core).Plain := by rw [same]; exact h
  exact congrArg Host.Outcome.next (State.issue_of_plain plain (by simp only [same]; rfl) (by rintro ⟨⟩))

theorem State.root_reg {s : State} {core rd : Nat} (ra : Nat) (h : (s.core core).Plain) (h0 : 0 < rd) :
    (((s.sqrtDone core).issued core ((s.core core).root rd ra)).core core).reg rd =
      (Nat.sqrt (wrapU 64 ((s.core core).reg ra)).toNat : Nat) := by
  obtain ⟨-, -, idle, -, -, -, bank⟩ := id h
  rw [State.issued_core, State.sqrtDone_core_of_idle idle]
  refine h.after_reg_of_sqrt rfl ?_
  simp only [CoreRt.root, CoreRt.bank, bank, Bool.false_eq_true, if_false, if_neg h0.ne']

/-! ### Data memory (R309) -/

section
variable {s : State} {core : Nat} {addr : Int}

theorem State.loadWord_of_inside {order off : Nat} (h : s.recordAt core addr = some (order, off)) :
    s.loadWord core addr = s.sint (kernelKey order) off 8 := by simp only [State.loadWord, h]

theorem State.loadWord_of_outside (h : s.recordAt core addr = none) : s.loadWord core addr = 0 := by simp only [State.loadWord, h]

theorem State.accessCheck_of_inside {order off : Nat} (h : s.recordAt core addr = some (order, off)) : s.accessCheck core addr = s := by
  simp only [State.accessCheck, h, Option.isSome_some, if_true]

theorem State.accessCheck_of_outside (h : s.recordAt core addr = none) : s.accessCheck core addr = s.accessViolation core := by
  simp only [State.accessCheck, h, Option.isSome_none, Bool.false_eq_true, if_false]

theorem State.eccCorrected_of_none (s : State) (core : Nat) : s.eccCorrected core false = s := rfl

end

/-- A bundle that stores one word in a record. -/
theorem State.issued_stores (s : State) (core order off : Nat) (v : Int) (l : List (Nat × Int)) :
    (s.issued core { regs := l, store := [(order, off, v)] }).regs = s.regs ∧
      (s.issued core { regs := l, store := [(order, off, v)] }).mem =
        Memory.writeN s.mem (domAddr (kernelKey order) off) (intLE 8 v) := by
  rw [State.issued, State.reported_of_silent rfl rfl]
  exact ⟨rfl, rfl⟩

/-- Settles O40: a quotient and a root read at once as the unit's result, and an access within the record reports nothing. -/
theorem midopinDivisionAndMemory : Obligations.MidopinDivisionAndMemory := by
  refine ⟨fun core rd ra rb s h h0 _ nonzero => ⟨_, exec_div_of_idle_unit rd ra rb h, ?_, ?_, ?_, ?_⟩,
    fun core rd ra rb s h h0 _ zero => ⟨_, exec_div_of_idle_unit rd ra rb h, ?_, ?_, ?_⟩,
    fun core k v s busy h0 _ => ⟨_, rfl, ?_, ?_, s.divDone_regs core⟩,
    fun core rd ra s h h0 _ => ⟨_, exec_sqrt_of_idle_unit rd ra h, State.root_reg ra h h0, ?_, ?_⟩,
    fun core k v s busy h0 _ => ⟨_, rfl, ?_, ?_, s.sqrtDone_regs core⟩,
    fun core rd ra order off imm s h hr inside => ?_,
    fun core rd ra imm s outside => ?_,
    fun core rd ra order off imm s h inside => ?_,
    fun core rd ra imm s outside => ?_,
    fun core rd ra order off imm s h hra hra' hrd hrd' hne inside => ?_,
    fun core rd ra order off imm s h hra hra' inside => ?_⟩
  · rw [State.quotient_reg ra rb h h0, CoreRt.reg32, if_neg nonzero]
  · rw [State.issued_regs_of_silent (if_neg nonzero) rfl, State.divDone_regs]
  · rw [State.issued_mem_of_no_store rfl, State.divDone_mem]
  · obtain ⟨-, idle, -⟩ := id h
    rw [State.issued_core, State.divDone_core_of_idle idle, h.after_pc rfl]
  · rw [State.quotient_reg ra rb h h0, CoreRt.reg32, if_pos zero]
  · have report : ((s.core core).quotient rd ra rb).status = [4] := if_pos zero
    rw [State.issued_bit, State.reported_of_status report rfl, State.setBit_bit_same]
  · rw [State.issued_mem_of_no_store rfl, State.divDone_mem]
  · rw [State.divDone, State.setCore_core_same]
  · rw [State.divDone, State.setCore_core_same, busy]
    exact s.unitDone_phys core v h0
  · rw [State.issued_regs_of_silent rfl rfl, State.sqrtDone_regs]
  · rw [State.issued_mem_of_no_store rfl, State.sqrtDone_mem]
  · rw [State.sqrtDone, State.setCore_core_same]
  · rw [State.sqrtDone, State.setCore_core_same, busy]
    exact s.unitDone_phys core v h0
  · refine ⟨_, rfl, ?_⟩
    simp only [State.accessCheck_of_inside inside, State.eccCorrected_of_none]
    exact State.wrote_issue _ h hr (by rw [State.loadWord_of_inside inside])
  · change execLd _ _ _ _ _ s = _
    simp only [execLd, State.accessCheck_of_outside outside, State.loadWord_of_outside outside, State.eccCorrected_of_none]
  · have stored := s.issued_stores core order off ((s.core core).reg rd) []
    refine ⟨s.issued core { store := [(order, off, (s.core core).reg rd)] }, ?_, stored.1, stored.2, fun k hk => ?_⟩
    · change execSt _ _ _ _ s = _
      simp only [execSt, State.accessCheck_of_inside inside, inside]
      exact congrArg Host.Outcome.next (State.issue_of_plain h rfl (by rintro ⟨⟩))
    · rw [State.issued_core, h.after_reg_of_no_write rfl rfl rfl]
  · change execSt _ _ _ _ s = _
    simp only [execSt, State.accessCheck_of_outside outside, outside]
  · have read := fun {k} (hk : k < 64) =>
      h.after_reg_wr (e := { regs := (s.core core).wr ra (wrapS 64 ((s.core core).reg ra + 8 * imm)) }) rfl rfl
        (s.sint (kernelKey order) off 8) hrd' hk
    refine ⟨_, ?_, State.issued_regs_of_silent rfl rfl, State.issued_mem_of_no_store rfl,
      (congrArg (fun c : CoreRt => c.reg rd) (State.issued_core ..)).trans ((read hrd').trans (if_pos ⟨rfl, hrd.ne'⟩)),
      (congrArg (fun c : CoreRt => c.reg ra) (State.issued_core ..)).trans ((read hra').trans ?_)⟩
    · change execLdi _ _ _ _ _ s = _
      simp only [execLdi, State.accessCheck_of_inside inside, State.loadWord_of_inside inside, State.eccCorrected_of_none]
      exact congrArg Host.Outcome.next (State.issue_of_plain h rfl (by rintro ⟨⟩))
    · rw [if_neg fun e => hne e.1.symm]
      exact (h.after_reg_wr (e := {}) rfl rfl _ hra' hra').trans (if_pos ⟨rfl, hra.ne'⟩)
  · have stored := s.issued_stores core order off ((s.core core).reg rd)
      ((s.core core).wr ra (wrapS 64 ((s.core core).reg ra + 8 * imm)))
    refine ⟨_, ?_, stored.1, stored.2, ?_⟩
    · change execSti _ _ _ _ s = _
      simp only [execSti, State.accessCheck_of_inside inside, inside]
      exact congrArg Host.Outcome.next (State.issue_of_plain h rfl (by rintro ⟨⟩))
    · rw [State.issued_core]
      exact (h.after_reg_wr (e := { store := [(order, off, (s.core core).reg rd)] }) rfl rfl _ hra' hra').trans (if_pos ⟨rfl, hra.ne'⟩)

end Sys2Proof.Machine
end

section
/-! SUPPORT. Branches, repeats and RET of a loop core (spec/12_loop_cores.md, R308, R314, R315). -/

namespace Sys2Proof.Machine

/-! ### Branches (R315) -/

/-- A taken branch, which writes nothing. -/
theorem State.issue_branch {s : State} {core target : Nat} {f : CoreRt → Effect} (h : (s.core core).Plain)
    (hf : f (s.core core) = { flow := .branch target }) :
    ((s.issue ⟨core, false⟩ f).core core).main =
      { (s.core core).main with pc := (s.core core).main.pc + 1, branch := some (target, 2) } := by
  rw [State.issue_of_plain h hf (by rintro ⟨⟩), State.issued_core]
  obtain ⟨-, -, -, branch, reps, -, -⟩ := h
  simp only [CoreRt.after, List.foldl_nil, Bank.flow, branch, Bank.advance, reps]

theorem CoreRt.Plain.branchIf_true {c : CoreRt} (h : c.Plain) {b : Bool} (offset : Int) (hb : b = true) :
    c.branchIf b offset = { flow := .branch ((c.main.pc : Int) + offset).toNat } := by
  obtain ⟨-, -, -, -, -, -, bank⟩ := h
  simp only [CoreRt.branchIf, hb, CoreRt.bank, bank, Bool.false_eq_true, if_false, if_true]

theorem State.issue_branchIf {s : State} {core : Nat} {b : Bool} {f : CoreRt → Effect} (h : (s.core core).Plain) (offset : Int)
    (hf : f (s.core core) = (s.core core).branchIf b offset) (hb : b = true) :
    ((s.issue ⟨core, false⟩ f).core core).main.branch = some ((((s.core core).main.pc : Int) + offset).toNat, 2) := by
  rw [State.issue_branch h (hf.trans (h.branchIf_true offset hb))]

/-- A handler that starts runs on the other bank. -/
theorem State.nextHandler_main (s : State) (core : Nat) : ((s.nextHandler core).core core).main = (s.core core).main := by
  unfold State.nextHandler
  split
  · exact (congrArg CoreRt.main (State.setCore_core_same s core _)).trans rfl
  · rfl

/-- A NOP between a taken branch and its target. -/
theorem State.issue_in_delay_slot {s : State} {core : Nat} (buf : (s.core core).buf = []) (flow : (s.core core).bufFlow = .next)
    (bank : (s.core core).inShadow = false) :
    ((s.issue ⟨core, false⟩ fun _ => {}).core core).main = Bank.flow (s.core core).main .next := by
  have other : (Flow.next = Flow.ret) = False := eq_false (by rintro ⟨⟩)
  have silent : s.reported core {} = s := State.reported_of_silent rfl rfl
  rw [State.issue_last, silent, State.endBundle]
  simp only [buf, flow, bank, CoreRt.bank, CoreRt.setBank, Bool.false_eq_true, if_false, if_true, other, List.append_nil,
    List.foldl_nil, State.setCore_core_same, State.nextHandler_main]

/-! ### Repeats (R314) -/

/-- The repetitions of REP: the count, or the register held between 0 and the count. -/
def CoreRt.repeats (c : CoreRt) (ra count : Nat) : Nat := if ra = 0 then count else (clampI (c.reg ra) 0 count).toNat

theorem State.issue_rep {s : State} {core : Nat} (rot : Bool) (ra body count : Nat) (h : (s.core core).Plain) :
    ∃ e, exec (.rep ⟨core, false⟩ rot ra body count) s = .next (s.issued core e) ∧ e.regs = [] ∧ e.sat = false ∧
      e.status = (if ra ≠ 0 ∧ (count : Int) < (s.core core).reg ra then [2] else []) ∧
      e.flow = if (s.core core).repeats ra count = 0 then .skip ((s.core core).main.pc + 1 + body)
        else .loop ⟨(s.core core).main.pc + 1, (s.core core).main.pc + body, (s.core core).repeats ra count, 0, rot⟩ := by
  obtain ⟨-, -, -, -, -, -, bank⟩ := id h
  have pc : (s.core core).bank.pc = (s.core core).main.pc := by simp only [CoreRt.bank, bank, Bool.false_eq_true, if_false]
  refine ⟨_, congrArg Host.Outcome.next (State.issue_of_plain h rfl ?_), rfl, rfl, rfl, ?_⟩
  · change (if (s.core core).repeats ra count = 0 then Flow.skip _ else Flow.loop _) ≠ .ret
    split
    · rintro ⟨⟩
    · rintro ⟨⟩
  · simp only [pc]
    rfl

/-- Where the bank goes at a REP outside another repeat. -/
theorem CoreRt.Plain.after_loop {c : CoreRt} {e : Effect} {r : Repeat} (h : c.Plain) (hr : e.regs = []) (hf : e.flow = .loop r) :
    (c.after e).main.pc = c.main.pc + 1 ∧ (c.after e).main.reps = [r] := by
  obtain ⟨-, -, -, branch, reps, -, -⟩ := h
  simp only [CoreRt.after, hr, hf, List.foldl_nil, Bank.flow, branch, reps, and_self]

theorem CoreRt.Plain.after_skip {c : CoreRt} {e : Effect} {target : Nat} (h : c.Plain) (hr : e.regs = []) (hf : e.flow = .skip target) :
    (c.after e).main.pc = target ∧ (c.after e).main.reps = [] := by
  obtain ⟨-, -, -, branch, reps, -, -⟩ := h
  simp only [CoreRt.after, hr, hf, List.foldl_nil, Bank.flow, branch, reps, and_self]

theorem CoreRt.repeats_of_more {c : CoreRt} {ra count : Nat} (h0 : 0 < ra) (h : (count : Int) < c.reg ra) : c.repeats ra count = count := by
  rw [CoreRt.repeats, if_neg h0.ne', clampI]
  omega

theorem CoreRt.repeats_of_not_positive {c : CoreRt} {ra count : Nat} (h0 : 0 < ra) (h : c.reg ra ≤ 0) : c.repeats ra count = 0 := by
  rw [CoreRt.repeats, if_neg h0.ne', clampI]
  omega

/-! ### RET (R308) -/

/-- A core between plain bundles, written out. -/
theorem CoreRt.Plain.eq_record {c : CoreRt} (h : c.Plain) :
    ({ main := c.main, shadow := c.shadow, stitch := c.stitch, irq := c.irq, halted := c.halted, err := c.err, ranVec := c.ranVec,
       pendVec := c.pendVec, deferVec := c.deferVec } : CoreRt) = c := by
  rcases c with ⟨⟩
  obtain ⟨⟨rfl, rfl, rfl, rfl, rfl, rfl⟩, rfl, rfl, -, -, -, rfl⟩ := h
  rfl

/-- RET between plain bundles leaves the bank and completes the stitch; no handler waits. -/
theorem State.issue_ret {s u : State} {core : Nat} (h : (s.core core).Plain) (hu : u = s.setCore core (s.core core))
    (hp : ((u.stitchComplete core).core core).pendVec = 0) :
    s.issue ⟨core, false⟩ (fun _ => { flow := .ret }) = u.stitchComplete core := by
  have record := h.eq_record
  obtain ⟨⟨buf, bufStore, bufFlow, bufDiv, bufSqrt, mid⟩, div, sqrt, branch, -, -, bank⟩ := h
  have silent : s.reported core { flow := .ret } = s := State.reported_of_silent rfl rfl
  have retired : u.retire core = u.stitchComplete core := by
    rw [State.retire, hu, State.setCore_core_same, if_neg (by rw [bank]; exact Bool.false_ne_true)]
  rw [State.issue_last, silent, State.endBundle]
  simp only [buf, bufStore, bufFlow, bufDiv, bufSqrt, div, sqrt, bank, CoreRt.bank, CoreRt.setBank, Bool.false_eq_true, if_false, if_true,
    List.append_nil, List.foldl_nil, Option.filter_none, Option.or_none, Option.none_or, Option.map_none, Bank.flow, branch,
    State.stored, record, ← hu, retired, State.nextHandler_none hp, ite_self]

/-- The completion of a stitch that the row table no longer holds. -/
theorem State.stitchComplete_of_unlisted {s : State} {core o : Nat} (h : (s.core core).stitch = some o) (hn : s.stitchByOrder o = none) :
    s.stitchComplete core =
      (s.setStitch o { s.stitch o with finished := true }).setCore core { s.core core with stitch := none } := by
  simp only [State.stitchComplete, h, hn]
  rfl

/-- Settles O41: a branch and a repeat are the flow of their bundle, and RET leaves the bank where it is. -/
theorem midopinFlow : Obligations.MidopinFlow := by
  refine ⟨fun core ra rb offset s h equal => ⟨_, rfl, State.issue_branch h (h.branchIf_true offset (beq_iff_eq.2 equal))⟩,
    fun core ra rb offset s h differ => ⟨_, rfl, State.wrote_issue _ h (by decide) ?_⟩,
    fun core ra rb offset s h differ => ⟨_, rfl, State.issue_branchIf h offset rfl (bne_iff_ne.2 differ)⟩,
    fun core ra rb offset s h less => ⟨_, rfl, State.issue_branchIf h offset rfl (decide_eq_true less)⟩,
    fun core ra rb offset s h atLeast => ⟨_, rfl, State.issue_branchIf h offset rfl (decide_eq_true atLeast)⟩,
    fun core offset s h => ⟨_, rfl, State.issue_branchIf h offset rfl rfl⟩,
    fun core target n s buf _ flow bank reps branch delay => ⟨_, rfl, ?_⟩,
    fun core body count rot s h positive => ?_,
    fun core ra body count rot s h h0 none => ?_,
    fun core ra body count rot s h h0 positive more => ?_,
    fun core s h idle => ?_,
    fun core o s h running unlisted => ?_⟩
  · rw [CoreRt.branchIf, beq_eq_false_iff_ne.2 differ]
    rfl
  · rw [State.issue_in_delay_slot buf flow bank]
    rcases delay with rfl | rfl
    · simp only [Bank.flow, branch, if_true, and_self]
    · simp [Bank.flow, branch, Bank.advance, reps]
  · obtain ⟨e, ran, regs, -, -, flow⟩ := State.issue_rep rot 0 body count h
    obtain ⟨pc, reps⟩ := h.after_loop regs (flow.trans (if_neg positive.ne'))
    exact ⟨_, ran, by rw [State.issued_core, pc], by rw [State.issued_core, reps]; rfl⟩
  · obtain ⟨e, ran, regs, -, -, flow⟩ := State.issue_rep rot ra body count h
    obtain ⟨pc, reps⟩ := h.after_skip regs (flow.trans (if_pos (CoreRt.repeats_of_not_positive h0 none)))
    exact ⟨_, ran, by rw [State.issued_core, reps], by rw [State.issued_core, pc]⟩
  · obtain ⟨e, ran, regs, sat, status, flow⟩ := State.issue_rep rot ra body count h
    have all := CoreRt.repeats_of_more h0 more
    simp only [all, if_neg positive.ne'] at flow
    refine ⟨_, ran, ?_, by rw [State.issued_core, (h.after_loop regs flow).2]⟩
    rw [State.issued_bit, State.reported_of_status (status.trans (if_pos ⟨h0.ne', more⟩)) sat, State.setBit_bit_same]
  · have done : (s.setCore core (s.core core)).stitchComplete core = s.setCore core (s.core core) := by
      simp only [State.stitchComplete, State.setCore_core_same, idle]
    obtain ⟨-, -, -, -, -, waiting, -⟩ := id h
    refine ⟨_, congrArg Host.Outcome.next (State.issue_ret h rfl ?_), ?_⟩
    · rw [done, State.setCore_core_same, waiting]
    · rw [done, State.setCore_core_same]
      exact ⟨idle, rfl⟩
  · have done : (s.setCore core (s.core core)).stitchComplete core = _ :=
      State.stitchComplete_of_unlisted (by rw [State.setCore_core_same, running]) unlisted
    obtain ⟨-, -, -, -, -, waiting, -⟩ := id h
    refine ⟨_, congrArg Host.Outcome.next (State.issue_ret h rfl ?_), ?_⟩
    · rw [done, State.setCore_core_same, State.setCore_core_same, waiting]
    · rw [done, State.setCore_core_same]
      exact ⟨rfl, congrArg StitchRt.finished (State.setStitch_stitch_same ..)⟩

end Sys2Proof.Machine
end

section
/-! SUPPORT. Interrupts, memory errors and sentry events of a loop core (spec/12_loop_cores.md, R322 to R326). -/

namespace Sys2Proof.Machine

/-- A core that is stopped already does not overrun again (R34). -/
theorem State.overrunCore_of_stopped {s : State} {core : Nat} (forced : Bool) (h : s.row.stopped.testBit core = true) :
    s.overrunCore core forced = s := if_pos h

/-- A restored instruction memory gives no parameter record back (R324). -/
theorem exec_memoryRestored_of_instructions {core address : Nat} {s : State} (h : (s.core core).err = some (false, address)) :
    exec (.memoryRestored core) s = .next ((s.setCore core { s.core core with err := none }).setActive fkCoreMemory core false) := by
  change execMemoryRestored core s = _
  simp only [execMemoryRestored, h, Bool.false_and, Bool.false_eq_true, if_false]

theorem exec_memoryRestored_of_no_error {core : Nat} {s : State} (h : (s.core core).err = none) :
    exec (.memoryRestored core) s = .next s := by
  change execMemoryRestored core s = _
  simp only [execMemoryRestored, h]

/-- What a sentry event of a vector in use does (R325, R326). -/
theorem exec_sentryEvent_of_used {core v : Nat} {s : State} (h : s.vectorUsed core v = true) :
    exec (.sentryEvent core v) s = .next
      (if ((s.core core).ranVec.testBit v || (s.core core).pendVec.testBit v) = true then
        (s.setCore core { s.core core with deferVec := setBitN (s.core core).deferVec v }).count (Obj.SentryDeferred (core - 6)) 32 1
      else if ((s.core core).inShadow || (s.core core).mid) = true then
        s.setCore core { s.core core with pendVec := setBitN (s.core core).pendVec v }
      else s.startHandler core v) := by
  refine congrArg _ (if_neg ?_)
  rw [h]
  decide

/-- Settles O42: an interrupt and a sentry event test what their core waits for. -/
theorem loopCoreEvents : Obligations.LoopCoreEvents := by
  refine ⟨fun core kind holdoff s asked boundary => ?_,
    fun core kind holdoff r s other => congrArg _ (if_pos ?_),
    fun core s => rfl,
    fun core address data s _ stopped => ?_,
    fun core address s h => exec_memoryRestored_of_instructions h,
    fun core s h => exec_memoryRestored_of_no_error h,
    fun core v s used ran waiting bank mid => ?_,
    fun core v s used ran waiting busy => ?_,
    fun core v s used ran => ?_,
    fun core v s unused => congrArg _ (if_pos ?_)⟩
  · refine congrArg _ ((if_neg ?_).trans rfl)
    rw [asked, boundary]
    decide
  · rcases other with off | idle
    · rw [off, Bool.not_false, Bool.or_true]
    · rw [idle, Bool.not_false, Bool.true_or]
  · change execLoopCoreMemoryError core data address s = _
    rw [execLoopCoreMemoryError, State.overrunCore_of_stopped false stopped]
  · rw [exec_sentryEvent_of_used used, ran, waiting, bank, mid]
    rfl
  · have waits : ((s.core core).inShadow || (s.core core).mid) = true := by
      rcases busy with bank | mid
      · rw [bank, Bool.true_or]
      · rw [mid, Bool.or_true]
    rw [exec_sentryEvent_of_used used, ran, waiting, waits]
    rfl
  · rw [exec_sentryEvent_of_used used, ran]
    rfl
  · rw [unused, Bool.not_false]

end Sys2Proof.Machine
end

section
/-! SUPPORT. The power stages (spec/11_pwm.md): half-periods, trip inputs and their blanking, gate enables and auxiliary
channels; and what an event of the acquisition leaves. -/

namespace Sys2Proof.Machine

/-! ### Events of the acquisition (R335, R345) -/

/-- An event is noted in the acquisition engine, its memory and `AcqStatus` alone. -/
theorem State.acqEvent_frame (s : State) (bit kind source value time : Nat) : ∃ acq mem regs,
    s.acqEvent bit kind source value time = { s with acq := acq, mem := mem, regs := regs } ∧
      ∀ j, j ≠ Obj.AcqStatus → (s.acqEvent bit kind source value time).get j = s.get j := by
  have condition : ∃ acq, s.acqCondition kind source value time = { s with acq := acq } := by
    unfold State.acqCondition
    dsimp only
    split
    · exact ⟨_, rfl⟩
    · exact ⟨s.acq, rfl⟩
  obtain ⟨acq, condition⟩ := condition
  unfold State.acqEvent State.acqMark
  dsimp only
  rw [condition]
  split
  · split
    · exact ⟨_, _, _, rfl, fun _ _ => rfl⟩
    · exact ⟨_, _, _, rfl, fun j hj => State.setBit_get_other _ 4 hj⟩
  · exact ⟨acq, _, _, rfl, fun _ _ => rfl⟩

theorem State.acqEvent_get_other (s : State) (bit kind source value time : Nat) {j : Nat} (h : j ≠ Obj.AcqStatus) :
    (s.acqEvent bit kind source value time).get j = s.get j := by
  obtain ⟨_, _, _, -, kept⟩ := s.acqEvent_frame bit kind source value time
  exact kept j h

@[simp] theorem State.acqEvent_pwm (s : State) (bit kind source value time n : Nat) :
    (s.acqEvent bit kind source value time).pwm n = s.pwm n := by
  obtain ⟨_, _, _, same, -⟩ := s.acqEvent_frame bit kind source value time
  rw [same]
  rfl

/-! ### What a half-period and a cut leave of a stage (R291, R300) -/

/-- In `t` the stage `n` stands as in `s` but for its phases, its volt-second ledgers and bit 6 of its status. -/
structure State.StageKept (n : Nat) (s t : State) : Prop where
  get : ∀ j, j ≠ Obj.PwmTripStatus n → j < (0x4408 + n * 0x20) * 256 ∨ (0x440B + n * 0x20) * 256 ≤ j → t.get j = s.get j
  bit : ∀ i, i < 6 → t.bit (Obj.PwmTripStatus n) i = s.bit (Obj.PwmTripStatus n) i
  pwm : ∃ phases, t.pwm n = { s.pwm n with phases := phases }
  sls : t.sls = s.sls

theorem State.StageKept.refl (n : Nat) (s : State) : State.StageKept n s s := ⟨fun _ _ _ => rfl, fun _ _ => rfl, ⟨_, rfl⟩, rfl⟩

theorem State.StageKept.trans {n : Nat} {s t u : State} (h : State.StageKept n s t) (k : State.StageKept n t u) :
    State.StageKept n s u := by
  obtain ⟨p, hp⟩ := h.pwm
  obtain ⟨q, hq⟩ := k.pwm
  exact ⟨fun j hj hr => (k.get j hj hr).trans (h.get j hj hr), fun i hi => (k.bit i hi).trans (h.bit i hi),
    ⟨q, by rw [hq, hp]⟩, k.sls.trans h.sls⟩

/-- A register among the volt-second ledgers of the stage. -/
def isVs (n k : Nat) : Prop := (0x4408 + n * 0x20) * 256 ≤ k ∧ k < (0x440B + n * 0x20) * 256

theorem State.StageKept.put {n : Nat} {s t : State} (h : State.StageKept n s t) {k : Nat} (v : Int) (hk : isVs n k) :
    State.StageKept n s (t.put k v) := by
  obtain ⟨low, high⟩ := hk
  refine h.trans ⟨fun j _ hr => t.get_put_other v (by omega), fun i _ => ?_, ⟨_, rfl⟩, rfl⟩
  rw [State.bit, State.nat, t.get_put_other v (by unfold Obj.PwmTripStatus; omega)]
  rfl

theorem State.StageKept.addI64 {n : Nat} {s t : State} (h : State.StageKept n s t) {k : Nat} (d : Int) (hk : isVs n k) :
    State.StageKept n s (t.addI64 k d) := h.put _ hk

theorem State.StageKept.setPhase {n : Nat} {s t : State} (h : State.StageKept n s t) (f : Nat) (x : PhaseRt) :
    State.StageKept n s (t.setPhase n f x) :=
  h.trans ⟨fun _ _ _ => rfl, fun _ _ => rfl, ⟨_, State.setPwm_pwm_same ..⟩, rfl⟩

theorem setBitN_testBit (x i j : Nat) : (setBitN x i).testBit j = (x.testBit j || decide (i = j)) := by
  rw [setBitN, Nat.testBit_or, Nat.one_shiftLeft, Nat.testBit_two_pow]

theorem State.setBit_bit (s : State) (k i j : Nat) : (s.setBit k i).bit k j = (s.bit k j || decide (i = j)) := by
  rw [State.bit, State.nat, State.setBit, State.get_put_same, Int.toNat_natCast, setBitN_testBit, State.bit]

theorem State.StageKept.suppressed {n : Nat} {s t : State} (h : State.StageKept n s t) (c : Bool) :
    State.StageKept n s (t.setBitIf c (Obj.PwmTripStatus n) 6) := by
  cases c with
  | false => exact h
  | true =>
    refine h.trans ⟨fun j hj _ => State.setBit_get_other t 6 hj, fun i hi => ?_, ⟨_, rfl⟩, rfl⟩
    change (t.setBit _ 6).bit _ i = _
    rw [State.setBit_bit, decide_eq_false (by omega), Bool.or_false]

theorem State.StageKept.ite {n : Nat} {s t u : State} {c : Prop} [Decidable c] (h : State.StageKept n s t)
    (k : State.StageKept n s u) : State.StageKept n s (if c then t else u) := by
  split
  · exact h
  · exact k

theorem State.each_three (s : State) (g : State → Nat → State) : s.each [0, 1, 2] g = g (g (g s 0) 1) 2 := rfl

/-- The three phases of a stage, one after another. -/
theorem State.StageKept.phases {n : Nat} {s t : State} {g : State → Nat → State} (h : State.StageKept n s t)
    (step : ∀ u f, f < 3 → State.StageKept n s u → State.StageKept n s (g u f)) : State.StageKept n s (t.each [0, 1, 2] g) := by
  rw [State.each_three]
  exact step _ 2 (by decide) (step _ 1 (by decide) (step _ 0 (by decide) h))

theorem isVs_of {n f k : Nat} (hf : f < 3) (h : (0x4408 + n * 0x20 + f) * 256 ≤ k ∧ k < (0x4408 + n * 0x20 + f) * 256 + 256) :
    isVs n k := by
  simp only [isVs, Nat.add_mul] at h ⊢
  omega

section
variable {n f : Nat} (hf : f < 3)
include hf

theorem isVs_requested : isVs n (Obj.VsRequested n f) := isVs_of hf (by unfold Obj.VsRequested; omega)
theorem isVs_issued : isVs n (Obj.VsIssued n f) := isVs_of hf (by unfold Obj.VsIssued; omega)
theorem isVs_carry : isVs n (Obj.VsCarry n f) := isVs_of hf (by unfold Obj.VsCarry; omega)
theorem isVs_clamped : isVs n (Obj.VsClamped n f) := isVs_of hf (by unfold Obj.VsClamped; omega)
theorem isVs_tripped : isVs n (Obj.VsTripped n f) := isVs_of hf (by unfold Obj.VsTripped; omega)

theorem State.StageKept.loadPhase {s t : State} (h : State.StageKept n s t) : State.StageKept n s (t.loadPhase n f) := by
  have loaded : State.StageKept n s (if (t.phase n f).fresh then
      t.setPhase n f { t.phase n f with word := (t.phase n f).shadow, fresh := false } else t) := .ite (h.setPhase ..) h
  unfold State.loadPhase State.loadMode
  dsimp only
  refine .ite loaded (.setPhase (.ite ?_ loaded) ..)
  exact (loaded.addI64 _ (isVs_clamped hf)).put _ (isVs_carry hf)

theorem State.StageKept.halfPhase {s t : State} (h : State.StageKept n s t) (up : Bool) (len d : Nat) :
    State.StageKept n s (t.halfPhase n up len d f) := by
  have requested := h.addI64 (t.phase n f).word (isVs_requested hf)
  unfold State.halfPhase
  dsimp only
  refine .ite (h.setPhase ..) (.ite (.setPhase ?_ ..) (.setPhase ?_ ..))
  · exact .put (requested.addI64 _ (isVs_tripped hf)) _ (isVs_carry hf)
  · exact .suppressed (.addI64 (.put (requested.addI64 _ (isVs_clamped hf)) _ (isVs_carry hf)) _ (isVs_issued hf)) _

theorem State.StageKept.cutPhase {s t : State} (h : State.StageKept n s t) (issued : List Nat) :
    State.StageKept n s (t.cutPhase n issued f) := by
  unfold State.cutPhase
  dsimp only
  refine .ite h (.setPhase (.put (.addI64 (h.addI64 _ (isVs_issued hf)) _ (isVs_tripped hf)) _ (isVs_carry hf)) ..)

end

theorem State.StageKept.cutHalf {n : Nat} {s t : State} (h : State.StageKept n s t) (issued : List Nat) :
    State.StageKept n s (t.cutHalf n issued) := by
  unfold State.cutHalf
  exact h.phases fun _ _ hf k => k.cutPhase hf issued

/-- The phases of a half that falls from its peak, with the words loaded where the pipeline updates twice a period. -/
def State.falling (s : State) (n len d : Nat) : State :=
  (if s.get (Obj.FocUpdatesPerPeriod n) = 2 then s.each [0, 1, 2] fun s f => s.loadPhase n f else s).each [0, 1, 2] fun s f =>
    s.halfPhase n false len d f

theorem State.falling_kept (s : State) (n len d : Nat) : State.StageKept n s (s.falling n len d) := by
  unfold State.falling
  exact .phases (.ite (.phases (.refl n s) fun _ _ hf k => k.loadPhase hf) (.refl n s)) fun _ _ hf k => k.halfPhase hf ..

/-- The state with a half counted and its legs shown. -/
def State.halfCounted (s : State) (n i : Nat) : State := (s.setPwm n { s.pwm n with half := i + 1 }).showLegs n

theorem State.halfCounted_half (s : State) (n i : Nat) : ((s.halfCounted n i).pwm n).half = i + 1 :=
  congrArg PwmRt.half (State.setPwm_pwm_same ..)

theorem State.halfCounted_get_other (s : State) {n j : Nat} (i : Nat) (h : j ≠ Obj.PwmLegMode n) :
    (s.halfCounted n i).get j = s.get j := State.get_put_other _ _ h

theorem State.halfCounted_legMode {s : State} {n : Nat} (i : Nat) (off : ∀ f, (s.phase n f).mode = 0) :
    (s.halfCounted n i).get (Obj.PwmLegMode n) = 0 := by
  have leg : ∀ f, ((s.setPwm n { s.pwm n with half := i + 1 }).phase n f).mode = 0 := fun f => by
    rw [State.phase, State.setPwm_pwm_same]
    exact off f
  rw [State.halfCounted, State.showLegs, State.get_put_same, leg 0, leg 1, leg 2]
  rfl

theorem exec_halfPeriodStart_of_falling {n : Nat} {s : State} (hw : s.oldVals = []) (hh : (s.pwm n).half < 2 * s.nat (Obj.PwmRatio n))
    (odd : (s.pwm n).half % 2 = 1) :
    ∃ len d, exec (.halfPeriodStart n) s = .next ((s.falling n len d).halfCounted n (s.pwm n).half) := by
  have falls : ¬(s.pwm n).half % 2 = 0 := by omega
  have started : ∃ len d, s.halfStart n = (s.falling n len d).halfCounted n (s.pwm n).half := by
    unfold State.halfStart
    extract_lets i up valley loaded st p len d begun counted
    have noValley : valley = s := if_neg falls
    have loads : loaded = if s.get (Obj.FocUpdatesPerPeriod n) = 2 then s.each [0, 1, 2] fun s f => s.loadPhase n f else s := by
      change (if up ∨ valley.get _ = 2 then valley.each _ _ else valley) = _
      rw [noValley]
      simp only [show up = False from eq_false falls, false_or]
    have halves : begun = s.falling n len d := by
      change loaded.each _ (fun s f => s.halfPhase n (decide up) len d f) = _
      rw [loads, decide_eq_false (p := up) falls, State.falling]
    refine ⟨len, d, (if_neg (Nat.not_le.2 hh)).trans ?_⟩
    rw [← halves]
    rfl
  obtain ⟨len, d, started⟩ := started
  exact ⟨len, d, congrArg Host.Outcome.next ((State.atEdge_of_no_direct_write hw _).trans started)⟩

/-! ### The modes of the legs (R294) -/

/-- A phase that is replaced by one of its mode leaves every leg's mode. -/
theorem State.setPhase_mode (s : State) {n f : Nat} {x : PhaseRt} (h : x.mode = (s.phase n f).mode) (g : Nat) :
    ((s.setPhase n f x).phase n g).mode = (s.phase n g).mode := by
  rw [State.phase, State.setPhase, State.setPwm_pwm_same]
  by_cases same : f = g
  · subst same
    by_cases inside : f < (s.pwm n).phases.length
    · simp only [List.getD_eq_getElem?_getD, List.getElem?_set_self inside, Option.getD_some, h]
    · rw [List.set_eq_of_length_le (Nat.not_lt.1 inside), State.phase]
  · simp only [List.getD_eq_getElem?_getD, List.getElem?_set_ne same, State.phase]

theorem State.phase_mode_of_all_off {s : State} {n : Nat} (h : ∀ x ∈ (s.pwm n).phases, x.mode = 0) (f : Nat) : (s.phase n f).mode = 0 := by
  rw [State.phase, List.getD_eq_getElem?_getD]
  cases e : (s.pwm n).phases[f]? with
  | none => rfl
  | some x => exact h x (List.mem_of_getElem? e)

theorem State.halfPhase_of_off (s : State) (n : Nat) (up : Bool) (len d : Nat) {f : Nat} (h : (s.phase n f).mode = 0) :
    s.halfPhase n up len d f = s.setPhase n f { s.phase n f with running := false } := by
  rw [State.halfPhase]
  exact if_pos (by rw [h]; decide)

/-- A half of a stage whose legs are off issues nothing and leaves them off. -/
theorem State.falling_of_all_off {s : State} {n : Nat} (once : s.get (Obj.FocUpdatesPerPeriod n) = 1)
    (h : ∀ f, (s.phase n f).mode = 0) (len d : Nat) :
    (s.falling n len d).regs = s.regs ∧ ∀ f, ((s.falling n len d).phase n f).mode = 0 := by
  have step : ∀ t : State, ∀ f, t.regs = s.regs ∧ (∀ g, (t.phase n g).mode = 0) →
      (t.halfPhase n false len d f).regs = s.regs ∧ ∀ g, ((t.halfPhase n false len d f).phase n g).mode = 0 := by
    rintro t f ⟨regs, off⟩
    rw [t.halfPhase_of_off n false len d (off f)]
    exact ⟨regs, fun g => (t.setPhase_mode (x := { t.phase n f with running := false }) rfl g).trans (off g)⟩
  have twice : ¬s.get (Obj.FocUpdatesPerPeriod n) = 2 := by rw [once]; decide
  rw [State.falling, if_neg twice, State.each_three]
  exact step _ 2 (step _ 1 (step s 0 ⟨rfl, h⟩))

/-! ### A cut half (R300) -/

theorem State.cutPhase_mode (s : State) (n : Nat) (issued : List Nat) (f g : Nat) :
    ((s.cutPhase n issued f).phase n g).mode = (s.phase n g).mode := by
  unfold State.cutPhase
  dsimp only
  split
  · rfl
  · exact State.setPhase_mode (f := f) (x := { s.phase n f with lvl := false, run := none, q := 0, running := false }) _ rfl g

theorem State.cutPhase_get_carry_other (s : State) (n : Nat) (issued : List Nat) {f g : Nat} (h : g ≠ f) :
    (s.cutPhase n issued f).get (Obj.VsCarry n g) = s.get (Obj.VsCarry n g) := by
  have carry : Obj.VsCarry n g ≠ Obj.VsCarry n f := by unfold Obj.VsCarry; omega
  have tripped : Obj.VsCarry n g ≠ Obj.VsTripped n f := by unfold Obj.VsCarry Obj.VsTripped; omega
  have issued : Obj.VsCarry n g ≠ Obj.VsIssued n f := by unfold Obj.VsCarry Obj.VsIssued; omega
  unfold State.cutPhase
  dsimp only
  split
  · rfl
  · exact (State.get_put_other _ 0 carry).trans ((State.addI64_get_other _ _ tripped).trans (State.addI64_get_other _ _ issued))

/-- A running leg that is cut carries nothing on. -/
theorem State.cutPhase_get_carry (s : State) (n : Nat) (issued : List Nat) (f : Nat) :
    (s.cutPhase n issued f).get (Obj.VsCarry n f) = 0 ∨ (s.phase n f).mode ≠ 1 := by
  by_cases running : (s.phase n f).mode = 1
  · left
    rw [State.cutPhase, if_neg (not_not_intro running)]
    exact State.get_put_same ..
  · exact .inr running

theorem State.cutHalf_get_carry (s : State) (n : Nat) (issued : List Nat) {f : Nat} (h : f < 3) :
    (s.cutHalf n issued).get (Obj.VsCarry n f) = 0 ∨ (s.phase n f).mode ≠ 1 := by
  rw [State.cutHalf, State.each_three]
  have cut := fun t : State => t.cutPhase_get_carry n issued f
  have hf : f = 0 ∨ f = 1 ∨ f = 2 := by omega
  rcases hf with rfl | rfl | rfl
  · rw [State.cutPhase_get_carry_other _ n issued (by decide), State.cutPhase_get_carry_other _ n issued (by decide)]
    exact cut s
  · rw [State.cutPhase_get_carry_other _ n issued (by decide), ← s.cutPhase_mode n issued 0]
    exact cut _
  · rw [← s.cutPhase_mode n issued 0, ← State.cutPhase_mode _ n issued 1]
    exact cut _

/-! ### Trip inputs (R299 to R304) -/

theorem exec_tripAssert {n i run sinceEdge : Nat} {high : Bool} {s : State} (issued : List Nat) (hw : s.oldVals = []) :
    exec (.tripAssert n i high ⟨run, sinceEdge⟩ issued) s = .next
      (if s.tripPasses n i high run = (s.pwm n).asserted.testBit i then s
      else s.tripInput n i (s.tripPasses n i high run) sinceEdge issued) :=
  viaEdge_of_no_direct_write hw (tripAssertNow n i high run sinceEdge issued)

theorem exec_blankingClose {n i : Nat} {s : State} (issued : List Nat) (hw : s.oldVals = []) :
    exec (.blankingClose n i issued) s = blankingCloseNow n i issued s := viaEdge_of_no_direct_write hw (blankingCloseNow n i issued)

/-- The state in which an assertion was noted: its input, and the acquisition engine. -/
structure State.Asserted (s v : State) (n i : Nat) : Prop where
  pwm : v.pwm n = { s.pwm n with asserted := setBitN (s.pwm n).asserted i, tail := clrBitN (s.pwm n).tail i }
  get : ∀ j, 0x300000 ≤ j → v.get j = s.get j

theorem State.asserted_of {s w v : State} {n i : Nat}
    (hw : w = s.setPwm n { s.pwm n with asserted := setBitN (s.pwm n).asserted i, tail := clrBitN (s.pwm n).tail i })
    (hv : v = w.acqEvent 2 5 n (n * 256 + i) w.now16) : s.Asserted v n i := by
  subst hw hv
  refine ⟨?_, fun j hj => ?_⟩
  · rw [State.acqEvent_pwm, State.setPwm_pwm_same]
  · rw [State.acqEvent_get_other _ _ _ _ _ _ (Nat.ne_of_gt (Nat.lt_of_lt_of_le (by decide) hj)), State.setPwm_get]

theorem State.tripInput_of_assertion {s w v : State} {n i : Nat} (sinceEdge : Nat) (issued : List Nat)
    (hw : w = s.setPwm n { s.pwm n with asserted := setBitN (s.pwm n).asserted i, tail := clrBitN (s.pwm n).tail i })
    (hv : v = w.acqEvent 2 5 n (n * 256 + i) w.now16) :
    s.tripInput n i true sinceEdge issued =
      if v.get (Obj.TripMode n i) = 0 then v
      else if sinceEdge < v.nat (Obj.TripBlanking n i) ∨ v.auxBlanks n i = true then
        v.setPwm n { v.pwm n with waiting := setBitN (v.pwm n).waiting i }
      else v.tripAct n i issued := by
  subst hw hv
  rfl

section
variable {s v : State} {n i : Nat} (h : s.Asserted v n i)
include h

theorem State.Asserted.mode : v.get (Obj.TripMode n i) = s.get (Obj.TripMode n i) := h.get _ (by unfold Obj.TripMode; omega)

theorem State.Asserted.blanking : v.nat (Obj.TripBlanking n i) = s.nat (Obj.TripBlanking n i) :=
  congrArg Int.toNat (h.get _ (by unfold Obj.TripBlanking; omega))

theorem State.Asserted.auxBlanks : v.auxBlanks n i = s.auxBlanks n i := by
  have action : ∀ j, v.get (Obj.AuxAction n j) = s.get (Obj.AuxAction n j) := fun j => h.get _ (by unfold Obj.AuxAction; omega)
  have mask : ∀ j, v.bit (Obj.AuxTripMask n j) i = s.bit (Obj.AuxTripMask n j) i := fun j => by
    rw [State.bit, State.nat, h.get _ (by unfold Obj.AuxTripMask; omega)]
    rfl
  simp only [State.auxBlanks, h.pwm, action, mask]

theorem State.Asserted.count : v.get (tripCount n i) = s.get (tripCount n i) := by
  refine h.get _ ?_
  unfold tripCount Obj.TripCountA Obj.TripCountB Obj.TripCountC
  split
  · omega
  · split
    · omega
    · omega

end

theorem tripCount_bounds (n i : Nat) : (0x4403 + n * 0x20) * 256 + 1 < tripCount n i ∧ tripCount n i < (0x4403 + n * 0x20) * 256 + 5 := by
  unfold tripCount Obj.TripCountA Obj.TripCountB Obj.TripCountC
  split
  · omega
  · split
    · omega
    · omega

/-- A latch on a stage that neither recovers its lock nor casts on (R302). -/
theorem State.tripLatch_of_quiet {s u : State} {n mask : Nat} (hm : mask < 8)
    (hu : u = (s.put (Obj.PwmTripStatus n) (s.nat (Obj.PwmTripStatus n) ||| mask : Nat)).setPwm n { s.pwm n with off := true })
    (lost : ((u.raiseLasting fkTrip n).sl n).lost = false) (casts : (u.raiseLasting fkTrip n).casts n = false) :
    s.tripLatch n mask = u.raiseLasting fkTrip n := by
  unfold State.tripLatch
  extract_lets latched stage off raised sl recovered
  have isOff : off = u := by
    rw [hu]
    change (s.put _ (s.nat _ ||| (mask % 8) : Nat)).setPwm n { s.pwm n with off := true } = _
    rw [Nat.mod_eq_of_lt hm]
  have isRaised : raised = u.raiseLasting fkTrip n := congrArg (State.raiseLasting · fkTrip n) isOff
  have notLost : sl.lost = false := by rw [show sl = raised.sl n from rfl, isRaised, lost]
  have same : recovered = raised := if_neg (by rw [notLost, Bool.false_and]; decide)
  rw [same, isRaised]
  exact if_neg (by rw [casts]; decide)

/-- An input in mode 1 that acts cuts the half, is counted and latches (R300 to R302). -/
theorem State.tripAct_of_latching {s x u : State} {n i : Nat} (issued : List Nat) (hi : i < 3) (mode : s.get (Obj.TripMode n i) = 1)
    (hx : x = (s.count (tripCount n i) 32 1).cutHalf n issued)
    (hu : u = (x.put (Obj.PwmTripStatus n) (x.nat (Obj.PwmTripStatus n) ||| 2 ^ i : Nat)).setPwm n { x.pwm n with off := true })
    (lost : ((u.raiseLasting fkTrip n).sl n).lost = false) (casts : (u.raiseLasting fkTrip n).casts n = false) :
    s.tripAct n i issued = u.raiseLasting fkTrip n := by
  have kept : State.StageKept n (s.count (tripCount n i) 32 1) x := hx ▸ .cutHalf (.refl n _) issued
  have bounds := tripCount_bounds n i
  have latches : x.get (Obj.TripMode n i) = 1 := by
    rw [kept.get _ (by unfold Obj.TripMode Obj.PwmTripStatus; omega) (by unfold Obj.TripMode; omega),
      s.count_get_other 32 1 (by unfold Obj.TripMode; omega), mode]
  rw [hx] at latches
  rw [State.tripAct]
  refine (if_pos latches).trans ?_
  rw [← hx]
  exact State.tripLatch_of_quiet (Nat.pow_le_pow_right (n := 2) (by decide) (show i ≤ 2 by omega) |>.trans_lt (by decide)) hu lost casts

/-- The stage right after a latch, before the fault source is raised: off, with the bit of the input and the count moved on. -/
theorem State.latched_stage {s x u : State} {n i : Nat} {issued : List Nat}
    (hx : x = (s.count (tripCount n i) 32 1).cutHalf n issued)
    (hu : u = (x.put (Obj.PwmTripStatus n) (x.nat (Obj.PwmTripStatus n) ||| 2 ^ i : Nat)).setPwm n { x.pwm n with off := true }) :
    (u.pwm n).off = true ∧ u.bit (Obj.PwmTripStatus n) i = true ∧ u.get (tripCount n i) = wrapU 32 (s.get (tripCount n i) + 1) := by
  have kept : State.StageKept n (s.count (tripCount n i) 32 1) x := hx ▸ .cutHalf (.refl n _) issued
  have bounds := tripCount_bounds n i
  have other : tripCount n i ≠ Obj.PwmTripStatus n := by unfold Obj.PwmTripStatus; omega
  subst hu
  refine ⟨by rw [State.setPwm_pwm_same], ?_, ?_⟩
  · rw [State.bit, State.nat, State.setPwm_get, State.get_put_same, Int.toNat_natCast, Nat.testBit_or, Nat.testBit_two_pow_self,
      Bool.or_true]
  · rw [State.setPwm_get, State.get_put_other _ _ other, kept.get _ other (by omega), State.count, State.get_put_same]

/-! ### Gate enables (R297) -/

/-- The stage whose gate driver lost its enable. -/
def State.driverOff (s : State) (n : Nat) : State :=
  (s.setPwm n { s.pwm n with dse := false, off := true }).setBit (Obj.PwmTripStatus n) 5

theorem State.driverOff_pwm (s : State) (n : Nat) : (s.driverOff n).pwm n = { s.pwm n with dse := false, off := true } :=
  State.setPwm_pwm_same ..

theorem State.driverOff_get_other (s : State) {n j : Nat} (h : j ≠ Obj.PwmTripStatus n) : (s.driverOff n).get j = s.get j :=
  State.setBit_get_other _ 5 h

theorem State.driverOff_casts (s : State) (n : Nat) : (s.driverOff n).casts n = s.casts n := by
  rw [State.casts, State.casts, s.driverOff_get_other (by unfold Obj.AxisState Obj.PwmTripStatus; omega)]
  rfl

theorem State.StageKept.casts {n : Nat} {s t : State} (h : State.StageKept n s t) (hn : n < 16) : t.casts n = s.casts n := by
  rw [State.casts, State.casts, State.sl, State.sl, h.sls,
    h.get _ (by unfold Obj.AxisState Obj.PwmTripStatus; omega) (by unfold Obj.AxisState; omega)]

theorem State.gateOff_of_driver {s : State} {n : Nat} (issued : List Nat) (hn : n < 16) (casts : s.casts n = false) :
    s.gateOff n true issued = ((s.cutHalf n issued).driverOff n).axisToFaulted n := by
  have kept : State.StageKept n s (s.cutHalf n issued) := .cutHalf (.refl n s) issued
  unfold State.gateOff
  extract_lets cut stage off withBit ended
  have idle : withBit.casts n = false := ((s.cutHalf n issued).driverOff_casts n).trans ((kept.casts hn).trans casts)
  exact congrArg (State.axisToFaulted · n) (if_neg (by rw [idle]; decide))

/-! ### Auxiliary channels (R305, R306) -/

/-- A channel that neither requests velocities nor marks the acquisition only follows its level. -/
theorem exec_auxChannelEvent {n j : Nat} {valley : Bool} {s : State} (hw : s.oldVals = []) (two : s.get (Obj.AuxAction n j) ≠ 2)
    (three : s.get (Obj.AuxAction n j) ≠ 3) :
    exec (.auxChannelEvent n j valley) s = .next (s.setPwm n
      (if j = 0 then { s.pwm n with aux0 := valley == (s.get (Obj.AuxRegion n j) == 1) }
      else { s.pwm n with aux1 := valley == (s.get (Obj.AuxRegion n j) == 1) })) := by
  refine (viaEdge_of_no_direct_write hw (auxChannelEventNow n j valley)).trans ?_
  unfold auxChannelEventNow
  extract_lets stage entry followed action
  exact congrArg Host.Outcome.next ((if_neg two).trans (if_neg three))

/-- Settles O36: what each event of a stage does follows from what a half, a cut and an event of the acquisition leave of it. -/
theorem powerStages : Obligations.PowerStages := by
  refine ⟨fun n s hw hh => ?_, fun n s hn hw hh odd once off three => ?_, fun n s hn hw hh odd => ?_,
    fun n i run e high issued s hw same => ?_, fun n i run e high issued s w hn hi hw pass was mode hv => ?_,
    fun n i run e high issued s w v hn hi hw pass was hw' hv mode blank => ?_,
    fun n i run e high issued s w v x u hn hi hw pass was hw' hv mode blank aux hx hu lost casts => ?_,
    fun n i run e high issued s hn hi hw pass was => ?_, fun n i issued s hw idle => ?_,
    fun n i issued s hw waits stands aux => ?_, fun n i issued s hw waits stands aux => ?_,
    fun n issued s hn casts => ?_, fun n s off gen dse clear => ?_, fun n s h => ?_,
    fun n valley s hw two three => exec_auxChannelEvent hw two three,
    fun n valley s hw two three => exec_auxChannelEvent hw two three⟩
  · exact congrArg Host.Outcome.next ((State.atEdge_of_no_direct_write hw _).trans (if_pos hh))
  · obtain ⟨len, d, started⟩ := exec_halfPeriodStart_of_falling hw hh odd
    obtain ⟨regs, modes⟩ := State.falling_of_all_off once (State.phase_mode_of_all_off off) len d
    refine ⟨_, started, State.halfCounted_half .., State.halfCounted_legMode _ modes, fun f hf => ?_⟩
    rw [State.halfCounted_get_other _ _ (by simp only [Obj.VsIssued, Obj.PwmLegMode, Nat.add_mul]; omega), State.get, State.get, regs]
  · obtain ⟨len, d, started⟩ := exec_halfPeriodStart_of_falling hw hh odd
    refine ⟨_, started, State.halfCounted_half .., fun i hi => ?_⟩
    rw [← (s.falling_kept n len d).bit i hi, State.bit, State.nat,
      State.halfCounted_get_other _ _ (by unfold Obj.PwmTripStatus Obj.PwmLegMode; omega), State.bit, State.nat]
  · exact (exec_tripAssert issued hw).trans (congrArg Host.Outcome.next (if_pos same))
  · have changed : ¬s.tripPasses n i high run = (s.pwm n).asserted.testBit i := by rw [pass, was]; decide
    rw [exec_tripAssert issued hw, if_neg changed, pass, State.tripInput_of_assertion e issued hv rfl,
      (State.asserted_of hv rfl).mode, if_pos mode]
  · have changed : ¬s.tripPasses n i high run = (s.pwm n).asserted.testBit i := by rw [pass, was]; decide
    have noted := State.asserted_of hw' hv
    rw [exec_tripAssert issued hw, if_neg changed, pass, State.tripInput_of_assertion e issued hw' hv, noted.mode, noted.blanking,
      if_neg mode, if_pos (.inl blank), noted.pwm]
  · have changed : ¬s.tripPasses n i high run = (s.pwm n).asserted.testBit i := by rw [pass, was]; decide
    have noted := State.asserted_of hw' hv
    have free : ¬(e < s.nat (Obj.TripBlanking n i) ∨ s.auxBlanks n i = true) := by
      rw [aux]
      exact fun h => h.elim (Nat.not_lt.2 blank) (by decide)
    rw [exec_tripAssert issued hw, if_neg changed, pass, State.tripInput_of_assertion e issued hw' hv, noted.mode, noted.blanking,
      noted.auxBlanks, if_neg (by rw [mode]; decide), if_neg free,
      State.tripAct_of_latching issued hi (noted.mode.trans mode) hx hu lost casts, ← noted.count]
    exact ⟨rfl, State.latched_stage hx hu⟩
  · have changed : ¬s.tripPasses n i high run = (s.pwm n).asserted.testBit i := by rw [pass, was]; decide
    rw [exec_tripAssert issued hw, if_neg changed, pass]
    rfl
  · rw [exec_blankingClose issued hw, blankingCloseNow, idle]
    rfl
  · rw [exec_blankingClose issued hw]
    exact congrArg Host.Outcome.next (if_pos (by rw [waits, stands, aux]; decide))
  · rw [exec_blankingClose issued hw]
    exact congrArg Host.Outcome.next ((if_neg (by rw [aux]; simp)).trans (if_pos waits))
  · refine ⟨_, congrArg Host.Outcome.next (State.gateOff_of_driver issued hn casts), ?_, ?_, State.setBit_bit_same .., fun f hf => ?_⟩
    · rw [State.driverOff_pwm]
    · rw [State.driverOff_pwm]
    · rw [State.driverOff_get_other _ (by simp only [Obj.VsCarry, Obj.PwmTripStatus, Nat.add_mul]; omega)]
      exact s.cutHalf_get_carry n issued hf
  · exact congrArg Host.Outcome.next (if_pos (by rw [off, gen, dse, clear]; decide))
  · refine congrArg Host.Outcome.next (if_neg ?_)
    rcases h with h | h | h <;> simp [h]

end Sys2Proof.Machine
end

section
/-! SUPPORT. The acquisition engine (spec/13_acquisition.md): arming, disarming and triggers. -/

namespace Sys2Proof.Machine

/-! ### The header and its time flag (R346) -/

@[simp] theorem State.putHeader_get (s : State) (k : Nat) : s.putHeader.get k = s.get k := by
  rw [State.putHeader, State.store_get]

@[simp] theorem State.putHeader_acq (s : State) : s.putHeader.acq = s.acq := by
  rw [State.putHeader, State.store_acq]

theorem State.acqTimeFlag_get (s : State) (k : Nat) : s.acqTimeFlag.get k = s.get k := by
  unfold State.acqTimeFlag
  split
  · rfl
  · rfl

theorem State.acqTimeFlag_acq (s : State) : ∃ flags, s.acqTimeFlag.acq = { s.acq with flags := flags } := by
  unfold State.acqTimeFlag
  split
  · exact ⟨s.acq.flags, rfl⟩
  · exact ⟨_, rfl⟩

/-- A recording ends in state 4 with its cause (R342). -/
theorem State.acqDone_ends (s : State) (cause : Nat) :
    (s.acqDone cause).get Obj.AcqState = 4 ∧ (s.acqDone cause).acq.cause = cause := by
  rw [State.acqDone, State.putHeader_get, State.putHeader_acq]
  exact ⟨State.get_put_same .., rfl⟩

/-! ### Arming (R331 to R333, R339, R342) -/

section
variable {s : State}

theorem exec_arm_of_running (low : 1 ≤ s.get Obj.AcqState) (high : s.get Obj.AcqState ≤ 3) : exec .arm s = .next (s.reply 0x0501) :=
  congrArg Host.Outcome.next (if_pos ⟨low, high⟩)

theorem not_running_of_idle (h : s.get Obj.AcqState = 0 ∨ s.get Obj.AcqState = 4) :
    ¬(1 ≤ s.get Obj.AcqState ∧ s.get Obj.AcqState ≤ 3) := by omega

theorem exec_arm_of_idle (h : s.get Obj.AcqState = 0 ∨ s.get Obj.AcqState = 4) :
    exec .arm s = .next
      (if s.nat Obj.AcqGroup ≠ 0 ∧ s.nat Obj.AcqArmTime = 0 then s.reply 0x0302
      else if s.nat Obj.AcqGroup ≠ 0 ∧ s.nat Obj.AcqArmTime ≤ s.now + 2 * s.tNs then s.reply 0x0601
      else if s.armStatus (s.nat Obj.AcqArmSlot) ≠ 0 then s.reply (s.armStatus (s.nat Obj.AcqArmSlot))
      else ((if s.nat Obj.AcqGroup = 0 then s
        else s.sendTrigger (s.nat Obj.AcqArmTime)
          [1, (s.nat Obj.AcqGroup : Nat), 0, s.get Obj.PlantAddress, s.nat Obj.AcqArmTime, (s.nat Obj.AcqArmTime % 4294967296 : Nat)]).acqArm
            (s.nat Obj.AcqArmTime)).done) :=
  congrArg Host.Outcome.next (if_neg (not_running_of_idle h))

/-- The state of an engine that an arming edge starts (R342). -/
theorem exec_armingEdge_of_due {time field : Nat} (armed : s.acq.armAt = some (time, field))
    (idle : s.get Obj.AcqState = 0 ∨ s.get Obj.AcqState = 4) (due : time ≤ s.nat Obj.TickEdgeTime) (later : s.tick ≠ s.acq.armAfter) :
    ∃ t, exec .armingEdge s = .next t ∧ t.get Obj.AcqState = 1 ∧ t.acq.armAt = none ∧ t.acq.edge = s.nat Obj.TickEdgeTime ∧
      t.acq.pre = s.natInUse Obj.AcqPreCount ∧ t.acq.post = s.natInUse Obj.AcqPostCount ∧ t.acq.slot = s.natInUse Obj.AcqArmSlot ∧
      t.acq.ring = [] ∧ t.acq.trig = none ∧ t.acq.marks = 0 := by
  have starts : ¬((1 ≤ s.get Obj.AcqState ∧ s.get Obj.AcqState ≤ 3) ∨ s.nat Obj.TickEdgeTime < time ∨ s.tick = s.acq.armAfter) := by
    rintro (running | early | now)
    · exact not_running_of_idle idle running
    · omega
    · exact later now
  change ∃ t, execArmingEdge s = .next t ∧ _
  unfold execArmingEdge
  rw [armed]
  dsimp only
  rw [if_neg starts]
  refine ⟨_, rfl, ?_⟩
  rw [State.putHeader_get, State.putHeader_acq]
  rw [State.acqTimeFlag_get, State.get_put_same]
  obtain ⟨flags, acq⟩ := State.acqTimeFlag_acq _
  rw [acq]
  exact ⟨rfl, rfl, rfl, rfl, rfl, rfl, rfl, rfl, rfl⟩

end

/-! ### Fires (R335 to R337, R340) -/

section
variable {s : State} {r : AcqRt} (hr : s.acq = r) (first : r.trig = none)
include hr first

/-- The first fire of a device without a group begins the recording. -/
theorem State.acqFire_of_armed (st : s.get Obj.AcqState = 1) (alone : s.get Obj.AcqGroup = 0) (t : Nat) :
    s.acqFire t = ({ s with acq := { r with trig := some (t, s.nat Obj.PlantAddress) } } : State).acqTrigger := by
  subst hr
  have free : ¬(s.get Obj.AcqState = 1 ∧ s.get Obj.AcqGroup ≠ 0) := fun h => h.2 alone
  rw [State.acqFire]
  refine (if_pos (.inl st)).trans ?_
  rw [if_neg free, State.acqSee, first]
  exact (if_pos st).trans (if_pos (.inl alone))

/-- In the settle window the first fire is only noted. -/
theorem State.acqFire_of_open (st : s.get Obj.AcqState = 2) (t : Nat) :
    s.acqFire t = { s with acq := { r with trig := some (t, s.nat Obj.PlantAddress) } } := by
  subst hr
  have opened : ¬s.get Obj.AcqState = 1 := by rw [st]; decide
  rw [State.acqFire]
  refine (if_pos (.inr st)).trans ?_
  rw [if_neg (fun h => opened h.1), State.acqSee, first]
  exact if_neg opened

/-- A condition that came true fires at its trigger time. -/
theorem exec_triggerFire_of_open (st : s.get Obj.AcqState = 2) {time t : Nat} (true_ : s.trigTime time = some t) :
    exec (.triggerFire time) s = .next { s with acq := { r with
      patDue := none, cond := none, trig := some (t, s.nat Obj.PlantAddress) } } := by
  subst hr
  have cleared := State.acqFire_of_open (s := { s with acq := { s.acq with patDue := none, cond := none } }) rfl first st t
  change execTriggerFire time s = _
  rw [execTriggerFire, true_]
  exact congrArg Host.Outcome.next cleared

end

theorem State.acqFire_of_idle {s : State} (h : s.get Obj.AcqState = 0 ∨ s.get Obj.AcqState = 4) (t : Nat) : s.acqFire t = s :=
  if_neg (by omega)

theorem exec_triggerFire_of_none {s : State} {time : Nat} (h : s.trigTime time = none) : exec (.triggerFire time) s = .next s := by
  change execTriggerFire time s = _
  rw [execTriggerFire, h]

section
variable {s : State} (time : Nat)

theorem State.trigTime_of_pattern (h : s.get Obj.TrigSource = 1) :
    s.trigTime time = s.acq.patDue.map fun d => s.patternTime d.1 d.2 time := if_pos h

theorem State.trigTime_of_slot (h : s.get Obj.TrigSource = 2) :
    s.trigTime time = if s.trigCrossed then some (s.nat Obj.TickEdgeTime * 65536) else none :=
  (if_neg (by rw [h]; decide)).trans (if_pos h)

theorem State.trigTime_of_event (h : s.get Obj.TrigSource = 3 ∨ s.get Obj.TrigSource = 4) : s.trigTime time = s.acq.cond :=
  (if_neg (by omega)).trans ((if_neg (by omega)).trans (if_pos h))

theorem State.trigTime_of_command (h : s.get Obj.TrigSource = 5) : s.trigTime time = none :=
  (if_neg (by omega)).trans ((if_neg (by omega)).trans (if_neg (by omega)))

end

/-! ### Disarming (R338, R342) -/

/-- A running recording that nothing triggers any more ends with cause 3. -/
theorem exec_disarm_of_running {s : State} (h : s.get Obj.AcqState = 1 ∨ s.get Obj.AcqState = 3) (alone : s.get Obj.AcqGroup = 0) :
    ∃ t, exec .disarm s = .next t ∧ t.resp = { status := 0 } ∧ t.get Obj.AcqState = 4 ∧ t.acq.cause = 3 ∧ t.acq.armAt = none := by
  have silent : ¬(decide (1 ≤ s.get Obj.AcqState ∧ s.get Obj.AcqState ≤ 3) && s.get Obj.AcqGroup != 0) = true := by simp [alone]
  have stopped : s.acqStop 3 = s.acqDone 3 := by
    have running : 1 ≤ s.get Obj.AcqState ∧ s.get Obj.AcqState ≤ 3 := by omega
    have noWindow : ¬s.get Obj.AcqState = 2 := by omega
    have open_ : ¬s.get Obj.AcqState = 4 := by omega
    rw [State.acqStop]
    refine (if_pos running).trans ?_
    rw [if_neg noWindow, if_neg open_]
  have ended := s.acqDone_ends 3
  change ∃ t, execDisarm s = .next t ∧ _
  unfold execDisarm
  dsimp only
  rw [if_neg silent, stopped]
  generalize s.acqDone 3 = u at ended
  obtain ⟨state, cause⟩ := ended
  exact ⟨_, rfl, rfl, state, cause, rfl⟩

theorem exec_disarm_of_idle {s : State} (h : s.get Obj.AcqState = 0) :
    exec .disarm s = .next { s with acq := { s.acq with armAt := none }, resp := { status := 0 } } := by
  have silent : ¬(decide (1 ≤ s.get Obj.AcqState ∧ s.get Obj.AcqState ≤ 3) && s.get Obj.AcqGroup != 0) = true := by simp [h]
  change execDisarm s = _
  rw [execDisarm]
  dsimp only
  rw [if_neg silent, State.acqStop_of_not_running 3 (.inl (by rw [h]; decide))]
  rfl

/-- Settles O43: each command by the state it meets, and each trigger source by what it waits for. -/
theorem acquisitionCommands : Obligations.AcquisitionCommands := by
  refine ⟨fun s idle alone ok => ?_, fun s low high => exec_arm_of_running low high, fun s idle group timed early => ?_,
    fun s idle group untimed => ?_, fun t s idle group ht later ok => ?_, fun s idle alone bad => ?_, fun s h => exec_disarm_of_idle h,
    fun s h alone => exec_disarm_of_running h alone,
    fun s idle => congrArg (fun u : State => Host.Outcome.next u.done) (State.acqFire_of_idle idle _),
    fun r s hr st alone first => congrArg (fun u : State => Host.Outcome.next u.done) (State.acqFire_of_armed hr first st alone _),
    fun r s hr st first => congrArg (fun u : State => Host.Outcome.next u.done) (State.acqFire_of_open hr first st _), fun s none_ => ?_,
    fun time field s armed idle due later => exec_armingEdge_of_due armed idle due later, fun time field s armed waits => ?_,
    fun time s h => exec_triggerFire_of_none (State.trigTime_of_command time h),
    fun r time sample source s hr src st due first => exec_triggerFire_of_open hr first st ?_,
    fun r time s hr src st crossed first => exec_triggerFire_of_open hr first st ?_,
    fun time s src still => exec_triggerFire_of_none ?_,
    fun r time at_ s hr src st due first => exec_triggerFire_of_open hr first st ?_⟩
  · rw [exec_arm_of_idle idle, if_neg (fun h => h.1 alone), if_neg (fun h => h.1 alone), if_neg (not_not_intro ok), if_pos alone]
  · rw [exec_arm_of_idle idle, if_neg (fun h => timed h.2), if_pos ⟨group, early⟩]
  · rw [exec_arm_of_idle idle, if_pos ⟨group, untimed⟩]
  · subst ht
    rw [exec_arm_of_idle idle, if_neg (by omega), if_neg (by omega), if_neg (not_not_intro ok), if_neg group]
  · rw [exec_arm_of_idle idle, if_neg (fun h => h.1 alone), if_neg (fun h => h.1 alone), if_pos bad]
  · change execArmingEdge s = _
    rw [execArmingEdge, none_]
  · change execArmingEdge s = _
    rw [execArmingEdge, armed]
    exact congrArg Host.Outcome.next (if_pos (.inr waits))
  · rw [State.trigTime_of_pattern time src, hr, due, Option.map_some]
  · rw [State.trigTime_of_slot time src, if_pos crossed]
  · rw [State.trigTime_of_slot time src, still]
    rfl
  · rw [State.trigTime_of_event time src, hr, due]

end Sys2Proof.Machine
end

section
/-! SUPPORT. Trigger records between the devices of a group (spec/13_acquisition.md). -/

namespace Sys2Proof.Machine

/-! ### Trigger records (R338, R339) -/

section
variable {r : TrigRecord} {s : State}

theorem exec_triggerRecord_of_other (h : r.group ≠ s.nat Obj.AcqGroup ∨ r.group = 0) : exec (.triggerRecord r) s = .next s :=
  congrArg Host.Outcome.next (if_pos h)

/-- An arm record that came over the chain to its own group is judged by the engine's state and by the arming check. -/
theorem exec_triggerRecord_of_arm (own : r.group = s.nat Obj.AcqGroup) (some_ : r.group ≠ 0) (arm : r.kind = 1) (chain : r.plant = false) :
    exec (.triggerRecord r) s = .next
      (if 1 ≤ s.get Obj.AcqState ∧ s.get Obj.AcqState ≤ 3 then (s.trigCount Obj.SumInputFrameRejected).setBit Obj.AcqStatus 3
      else if s.armStatus (s.nat Obj.AcqArmSlot) ≠ 0 then (s.trigCount Obj.SumInputFrameRejected).setBit Obj.AcqStatus 3
      else (s.trigCount Obj.SumInputFrameAccepted).acqArm r.stamp) := by
  have taken : ¬(r.group ≠ s.nat Obj.AcqGroup ∨ r.group = 0) := fun h => h.elim (fun other => other own) some_
  have sound : ¬((r.plant && r.header != r.stamp) || r.kind == 0 || decide (3 < r.kind)) = true := by simp [chain, arm]
  change Host.Outcome.next (s.trigRecord r) = _
  rw [State.trigRecord]
  simp only [if_neg taken, if_neg sound, if_pos arm, decide_eq_true_eq]

end

/-- Settles O44: a record by its group and kind, and the settle window by its time. -/
theorem groupTriggers : Obligations.GroupTriggers := by
  refine ⟨fun time w s due hw => ?_, fun s none_ => ?_, fun r s h => exec_triggerRecord_of_other h,
    fun r s own some_ arm chain idle ok => ?_, fun r s own some_ arm chain st => ?_,
    fun s st passed => congrArg Host.Outcome.next (if_pos ⟨st, passed⟩),
    fun s h => congrArg Host.Outcome.next (if_neg fun k => h.elim (fun other => other k.1) fun early => Nat.not_lt.2 k.2 early)⟩
  · subst hw
    change execFireRecordSend s = _
    rw [execFireRecordSend, due]
  · change execFireRecordSend s = _
    rw [execFireRecordSend, none_]
  · rw [exec_triggerRecord_of_arm own some_ arm chain, if_neg (not_running_of_idle idle), if_neg (not_not_intro ok)]
    rfl
  · rw [exec_triggerRecord_of_arm own some_ arm chain, if_pos (by rw [st]; decide)]
    rfl

end Sys2Proof.Machine
end

section
/-! SUPPORT. Stored samples, the write-back queue, stream blocks and mark edges (spec/13_acquisition.md, spec/14_jorzer_host.md). -/

namespace Sys2Proof.Machine

/-! ### Samples (R328, R334, R343) -/

theorem exec_acqSampleStored {s : State} {group channel time : Nat} {raw : List Int} (hw : s.oldVals = []) :
    exec (.acqSampleStored group channel time raw) s = acqSampleStoredNow group channel time raw s :=
  viaEdge_of_no_direct_write hw (acqSampleStoredNow group channel time raw)

/-- A sample that is not stored feeds the pattern trigger where it is a due one of the digital group, and else does nothing. -/
theorem acqSampleStoredNow_of_unstored {s : State} {group channel time : Nat} {raw : List Int}
    (h : (s.acqStores group channel && (group != 0 || s.digDue time)) = false) :
    acqSampleStoredNow group channel time raw s = .next
      (if group = 0 ∧ 1 ≤ s.get Obj.AcqState ∧ s.get Obj.AcqState ≤ 2 ∧ s.digDue time then
        s.patternSample time (s.digWord (raw.getLastD 0)).toNat else s) := by
  have skipped : ∀ u : State, u.regs = s.regs → u.acq.edge = s.acq.edge →
      ¬(u.acqStores group channel && (group != 0 || u.digDue time)) = true := fun u regs edge => by
    rw [State.acqStores, State.digDue, State.nat, State.nat, State.nat, State.nat, State.get, State.get, State.get, State.get, regs, edge]
    exact Bool.not_eq_true _ ▸ h
  unfold acqSampleStoredNow
  extract_lets st seen
  refine congrArg Host.Outcome.next (if_neg (skipped seen ?_ ?_))
  · change State.regs (ite _ _ _) = _
    split
    · rfl
    · rfl
  · change (State.acq (ite _ _ _)).edge = _
    split
    · rfl
    · rfl

/-- The sample of the digital group at a width of 32. -/
def State.digSample (s : State) (channel time : Nat) (raw : List Int) : AcqSample :=
  ⟨0, time, s.acqBase.1 == 0 && s.acqBase.2.1 == channel, natLE 4 (wrapU 64 (s.digWord (raw.getLastD 0))).toNat⟩

/-- An armed engine takes a due sample of the whole digital group into its ring. -/
theorem acqSampleStoredNow_of_digital {s w : State} {channel time : Nat} {raw : List Int} (wide : s.get Obj.DigWidth = 32)
    (due : s.digDue time = true) (armed : s.get Obj.AcqState = 1)
    (hw : w = s.patternSample time (s.digWord (raw.getLastD 0)).toNat) :
    acqSampleStoredNow 0 channel time raw s = .next
      (w.acqProvisional (w.digSample channel time raw)
        (keepBase (w.acq.pre + w.acq.settle + 1) (w.acq.ring ++ [w.digSample channel time raw]))) := by
  have sampled : 0 = 0 ∧ 1 ≤ s.get Obj.AcqState ∧ s.get Obj.AcqState ≤ 2 ∧ s.digDue time = true :=
    ⟨rfl, by rw [armed], by rw [armed]; decide, due⟩
  have width : w.nat Obj.DigWidth = 32 := by rw [hw]; exact congrArg Int.toNat wide
  have again : w.digDue time = true := by rw [hw]; exact due
  have stored : (w.acqStores 0 channel && (0 != 0 || w.digDue time)) = true := by
    rw [again]
    change (w.nat Obj.DigWidth != 0 && true) = true
    rw [width]
    decide
  have data : ∀ x, w.acqData 0 channel [x] = natLE 4 (wrapU 64 x).toNat := fun x => by
    change natLE (w.nat Obj.DigWidth / 8) _ = _
    rw [width]
    rfl
  unfold acqSampleStoredNow
  dsimp only
  rw [if_pos sampled, ← hw, if_pos stored]
  refine congrArg Host.Outcome.next ((if_pos armed).trans ?_)
  rw [State.digSample, ← data]
  rfl

/-! ### Stream blocks (R343, R373) -/

@[simp] theorem State.setCq_cq_same (s : State) (q : Nat) (r : CqRt) : (s.setCq q r).cq q = r := Sparse.get_put_same ..

/-- A signal of a queue leaves its entries and blocks. -/
theorem State.cqSignal_keeps_blocks (s : State) (q : Nat) :
    ((s.cqSignal q).cq q).block = (s.cq q).block ∧ ((s.cqSignal q).cq q).occ = (s.cq q).occ ∧
      ((s.cqSignal q).cq q).blocks = (s.cq q).blocks ∧ (s.cqSignal q).acq = s.acq := by
  have signalled : ∀ u : State, u.host = (s.setCq q { s.cq q with irq := 0 }).host → u.acq = s.acq →
      (u.cq q).block = (s.cq q).block ∧ (u.cq q).occ = (s.cq q).occ ∧ (u.cq q).blocks = (s.cq q).blocks ∧ u.acq = s.acq := by
    rintro u host acq
    have queue : u.cq q = { s.cq q with irq := 0 } := by
      rw [State.cq, host]
      exact State.setCq_cq_same ..
    rw [queue]
    exact ⟨rfl, rfl, rfl, acq⟩
  unfold State.cqSignal
  dsimp only
  split
  · exact ⟨rfl, rfl, rfl, rfl⟩
  · split
    · exact signalled _ rfl rfl
    · exact signalled _ rfl rfl

/-- A written completion fills one entry of its queue and says whether it announces a stream block. -/
theorem State.cqWrite_blocks (s : State) (q : Nat) (l : List Byte) (now block : Bool) :
    ((s.cqWrite q l now block).cq q).block = (s.cq q).block ∧ ((s.cqWrite q l now block).cq q).occ = (s.cq q).occ + 1 ∧
      ((s.cqWrite q l now block).cq q).blocks = (s.cq q).blocks ++ [block] ∧ (s.cqWrite q l now block).acq = s.acq := by
  unfold State.cqWrite
  extract_lets r size i e wrap entered tail used sent n
  have written : (sent.cq q).block = r.block ∧ (sent.cq q).occ = r.occ + 1 ∧ (sent.cq q).blocks = r.blocks ++ [block] ∧
      sent.acq = s.acq := by
    have same : sent.cq q = entered.cq q ∧ sent.acq = s.acq := by
      change (State.cq (ite _ _ _) q = _) ∧ State.acq (ite _ _ _) = _
      split
      · exact ⟨rfl, rfl⟩
      · exact ⟨rfl, rfl⟩
    rw [same.1, State.setCq_cq_same]
    exact ⟨rfl, rfl, rfl, same.2⟩
  split
  · obtain ⟨block_, occ, blocks, acq⟩ := sent.cqSignal_keeps_blocks q
    rw [block_, occ, blocks, acq]
    exact written
  · exact written

section
variable {s : State}

theorem exec_streamBlockWrite_of_closed (h : s.nat Obj.AcqStreamQueue = 0xFF) : exec .streamBlockWrite s = .next s := by
  have closed : s.streaming = false := by rw [State.streaming, h]; rfl
  exact congrArg Host.Outcome.next (if_pos (by rw [closed]; rfl))

theorem exec_streamBlockWrite_of_full {q : Nat} (hq : s.get Obj.AcqStreamQueue = q) (full : s.cqRoom q = false) :
    exec .streamBlockWrite s = .next s := by
  have queue : s.nat Obj.AcqStreamQueue = q := by rw [State.nat, hq]; rfl
  refine congrArg Host.Outcome.next (if_pos ?_)
  rw [queue, full]
  simp

/-- A whole block that finds its credit and space leaves the write-back queue. -/
theorem exec_streamBlockWrite_of_block {q : Nat} (low : q < 32) (hq : s.get Obj.AcqStreamQueue = q) (whole : 65536 ≤ s.acq.wb.length)
    (room : s.cqRoom q = true) (space : ((s.cq q).blocks.filter id).length < s.nat (Obj.HcqStreamSize q)) :
    ∃ t, exec .streamBlockWrite s = .next t ∧ t.acq.wb = s.acq.wb.drop 65536 ∧ t.acq.drained = s.acq.drained + 65536 ∧
      (t.cq q).block = ((s.cq q).block + 1) % s.nat (Obj.HcqStreamSize q) ∧ (t.cq q).occ = (s.cq q).occ + 1 ∧
      (t.cq q).blocks = (s.cq q).blocks ++ [true] := by
  have queue : s.nat Obj.AcqStreamQueue = q := by rw [State.nat, hq]; rfl
  have block : (s.acq.wb.take 65536).length = 65536 := by rw [List.length_take, Nat.min_eq_left whole]
  have streams : s.streaming = true := by rw [State.streaming, queue]; exact bne_iff_ne.2 (by omega)
  change ∃ t, execStreamBlockWrite s = .next t ∧ _
  unfold execStreamBlockWrite
  rw [queue]
  extract_lets _ r l due size used off from_ first times acq taken moved sent
  have writes : ¬(!s.streaming || !due || !s.cqRoom q || decide (size ≤ used)) = true := by
    rw [streams, room, show due = true by simp [due, l, block], decide_eq_false (Nat.not_le.2 space)]
    decide
  have advanced : sent.cq q = { s.cq q with block := ((s.cq q).block + 1) % s.nat (Obj.HcqStreamSize q) } :=
    State.setCq_cq_same ..
  have taken_ : sent.acq = taken.acq := rfl
  refine ⟨_, congrArg Host.Outcome.next (if_neg writes), ?_⟩
  generalize entryBytes .. = entry
  obtain ⟨at_, occ, blocks, kept⟩ := State.cqWrite_blocks sent q entry false true
  rw [at_, occ, blocks, kept, advanced, taken_]
  exact ⟨rfl, congrArg (s.acq.drained + ·) block, rfl, rfl, rfl⟩

end

/-! ### The write-back queue (R343, R442) -/

theorem exec_writeBackDrain_of_held {n : Nat} {s : State} (h : s.workHeld = true) : exec (.writeBackDrain n) s = .next s :=
  congrArg Host.Outcome.next (if_pos h)

theorem exec_writeBackDrain_of_stream {n : Nat} {s : State} (h : s.nat Obj.AcqStreamQueue ≠ 0xFF) (free : s.workHeld = false) :
    exec (.writeBackDrain n) s = .next { s with acq := { s.acq with ringWb := s.acq.ringWb - n } } :=
  congrArg Host.Outcome.next ((if_neg (by rw [free]; decide)).trans (if_pos (bne_iff_ne.2 h)))

theorem exec_writeBackDrain_of_slot {n k : Nat} {s : State} (h : s.nat Obj.AcqStreamQueue = 0xFF) (free : s.workHeld = false)
    (hk : k = min n s.acq.ringWb) :
    exec (.writeBackDrain n) s = .next
      { s.store (Obj.SkeinData s.acq.slot) (s.dataOffset s.acq.slot + s.acq.drained) (s.acq.wb.take (n - k)) with
        acq := { s.acq with ringWb := s.acq.ringWb - k, wb := s.acq.wb.drop (n - k),
                            drained := s.acq.drained + min (n - k) s.acq.wb.length } } := by
  have closed : s.streaming = false := by rw [State.streaming, h]; rfl
  subst hk
  exact congrArg Host.Outcome.next ((if_neg (by rw [free]; decide)).trans (if_neg (by rw [closed]; decide)))

/-! ### Mark edges (R347) -/

@[simp] theorem State.count_mark (s : State) (k w : Nat) (d : Int) (m : Nat) : (s.count k w d).mark m = s.mark m := rfl

/-- Events at feedback channels are kept with the channels alone. -/
theorem State.fbEvents_frame (s : State) (time : Nat) (pub : Bool) (l : List Nat) :
    ∃ fbs, s.each l (State.fbEvent · time pub) = { s with fbs := fbs } := by
  induction l generalizing s with
  | nil => exact ⟨s.fbs, rfl⟩
  | cons c l ih =>
    obtain ⟨fbs, same⟩ := ih (s.fbEvent time pub c)
    exact ⟨fbs, same⟩

/-- A latched mark joins its queue and is counted. -/
theorem State.markLatch_latches (s : State) {m : Nat} (hm : m < 16) (time : Nat) :
    (s.markLatch m time).mark m = { s.mark m with queue := (s.mark m).queue ++ [time] } ∧
      (s.markLatch m time).get (Obj.MarkLatched m) = wrapU 64 (s.get (Obj.MarkLatched m) + 1) ∧
      (s.markLatch m time).get (Obj.MarkPending m) = ((s.mark m).queue.length + 1 : Nat) ∧
      (s.markLatch m time).get (Obj.MarkEdges m) = s.get (Obj.MarkEdges m) := by
  unfold State.markLatch
  extract_lets r queued counted noted own axes others
  obtain ⟨acq, mem, regs, frame, kept⟩ := counted.acqEvent_frame 1 4 m (counted.nat (Obj.MarkLatched m)) time
  obtain ⟨_, first⟩ := noted.fbEvents_frame time true own
  obtain ⟨_, second⟩ := (noted.each own (State.fbEvent · time true)).fbEvents_frame time false others
  have edge : ∀ j, (0x4302 + m * 0x10) * 256 ≤ j → noted.get j = counted.get j := fun j hj =>
    kept j (by unfold Obj.AcqStatus; omega)
  have mark : noted.mark m = queued.mark m := by
    change (State.acqEvent counted _ _ _ _ _).mark m = _
    rw [frame]
    rfl
  rw [second, first]
  change noted.mark m = _ ∧ noted.get _ = _ ∧ noted.get _ = _ ∧ noted.get _ = _
  rw [mark, State.setMark_mark_same, edge _ (by unfold Obj.MarkLatched; omega), edge _ (by unfold Obj.MarkPending; omega),
    edge _ (by unfold Obj.MarkEdges; omega)]
  refine ⟨rfl, ?_, State.get_put_same .., ?_⟩
  · exact (State.get_put_other _ _ (by unfold Obj.MarkLatched Obj.MarkPending; omega)).trans (State.get_put_same ..)
  · exact (State.get_put_other _ _ (by unfold Obj.MarkEdges Obj.MarkPending; omega)).trans
      (State.count_get_other _ 64 1 (by unfold Obj.MarkEdges Obj.MarkLatched; omega))

section
variable {s : State} {m at8 width : Nat} {rising : Bool} (hw : s.oldVals = [])
include hw

theorem exec_markEdge_of_passive (passive : s.markActive m rising = false) :
    exec (.markEdge m at8 rising width) s = .next (s.setMark m { s.mark m with lastEdge := some at8 }) :=
  (viaEdge_of_no_direct_write hw (markEdgeNow m at8 rising width)).trans
    (congrArg Host.Outcome.next (if_neg (by rw [passive]; decide)))

/-- An active edge is counted, and then filtered, latched or dropped. -/
theorem exec_markEdge_of_active (active : s.markActive m rising = true) :
    exec (.markEdge m at8 rising width) s = .next
      (if s.markFiltered m at8 (s.time16 at8 / 8192 * 8192) width then
        ((s.setMark m { s.mark m with lastEdge := some at8 }).count (Obj.MarkEdges m) 64 1).count (Obj.MarkFiltered m) 64 1
      else if (s.mark m).queue.length < 16 then
        ((s.setMark m { s.mark m with lastEdge := some at8 }).count (Obj.MarkEdges m) 64 1).markLatch m (s.time16 at8 / 8192 * 8192)
      else ((((s.setMark m { s.mark m with lastEdge := some at8 }).count (Obj.MarkEdges m) 64 1).count (Obj.MarkDropped m) 64 1).setBit
        (Obj.MarkStatus m) 0)) :=
  (viaEdge_of_no_direct_write hw (markEdgeNow m at8 rising width)).trans
    (congrArg Host.Outcome.next (if_pos active))

end

/-- Settles O45: samples by what stores them, the queue by where it drains, and mark edges by their direction, filter and queue. -/
theorem samplesAndMarks : Obligations.SamplesAndMarks := by
  refine ⟨fun group channel time raw s hw unstored some_ => ?_, fun channel time raw s hw narrow due st => ?_,
    fun channel time raw s hw early => ?_, fun channel time raw w s hw wide due st hw' room => ?_,
    fun n k s slot free hk => exec_writeBackDrain_of_slot slot free hk, fun n s held => exec_writeBackDrain_of_held held,
    fun n s stream free => exec_writeBackDrain_of_stream stream free, fun s closed => exec_streamBlockWrite_of_closed closed,
    fun q s hq full => exec_streamBlockWrite_of_full hq full,
    fun q s low hq whole room space => exec_streamBlockWrite_of_block low hq whole room space,
    fun m at8 width rising s hw passive => exec_markEdge_of_passive hw passive, fun m at8 width rising s hw active filtered => ?_,
    fun m at8 time width rising s hm hw active ht latched room => ?_, fun m at8 width rising s hw active unfiltered full => ?_⟩
  · rw [exec_acqSampleStored hw, acqSampleStoredNow_of_unstored (by rw [unstored]; rfl), if_neg fun h => some_ h.1]
  · have unstored : s.acqStores 0 channel = false := by
      change (s.nat Obj.DigWidth != 0) = false
      rw [narrow]
      rfl
    rw [exec_acqSampleStored hw, acqSampleStoredNow_of_unstored (by rw [unstored]; rfl), if_pos ⟨rfl, by omega, by omega, due⟩]
  · rw [exec_acqSampleStored hw, acqSampleStoredNow_of_unstored (by rw [early]; exact Bool.and_false _), if_neg fun h => ?_]
    rw [early] at h
    exact absurd h.2.2.2 (by decide)
  · rw [exec_acqSampleStored hw, acqSampleStoredNow_of_digital wide due st hw']
    exact congrArg Host.Outcome.next (if_pos room)
  · rw [exec_markEdge_of_active hw active, if_pos filtered]
  · subst ht
    rw [exec_markEdge_of_active hw active, if_neg (by rw [latched]; decide), if_pos room]
    obtain ⟨mark, latches, pending, edges⟩ := State.markLatch_latches
      ((s.setMark m { s.mark m with lastEdge := some at8 }).count (Obj.MarkEdges m) 64 1) hm (s.time16 at8 / 8192 * 8192)
    have before : ((s.setMark m { s.mark m with lastEdge := some at8 }).count (Obj.MarkEdges m) 64 1).mark m =
        { s.mark m with lastEdge := some at8 } := by
      rw [State.count_mark, State.setMark_mark_same]
    rw [before] at mark pending
    rw [State.count_get_other _ 64 1 (by unfold Obj.MarkLatched Obj.MarkEdges; omega)] at latches
    refine ⟨_, rfl, ?_, ?_, latches, pending, edges.trans (State.get_put_same ..)⟩
    · rw [mark]
    · rw [mark]
  · rw [exec_markEdge_of_active hw active, if_neg (by rw [unfiltered]; decide), if_neg (Nat.not_lt.2 full)]

end Sys2Proof.Machine
end

section
/-! SUPPORT. The chain's state (spec/14_jorzer_host.md): its ports, the frames a device sends at once, and its credits. -/

namespace Sys2Proof.Machine

/-! ### Ports -/

@[simp] theorem State.setPort_port_same (s : State) (j : Nat) (r : JzPortRt) : (s.setPort j r).port j = r := by
  unfold State.setPort State.port
  split
  · rfl
  · rfl

@[simp] theorem State.setPort_regs (s : State) (j : Nat) (r : JzPortRt) : (s.setPort j r).regs = s.regs := by
  unfold State.setPort
  split
  · rfl
  · rfl

@[simp] theorem State.setPort_get (s : State) (j : Nat) (r : JzPortRt) (k : Nat) : (s.setPort j r).get k = s.get k := by
  rw [State.get, State.get, State.setPort_regs]

@[simp] theorem State.setPort_oldVals (s : State) (j : Nat) (r : JzPortRt) : (s.setPort j r).oldVals = s.oldVals := by
  unfold State.setPort
  split
  · rfl
  · rfl

/-- A condition that comes or goes changes registers alone. -/
theorem State.setActive_frame (s : State) (k i : Nat) (v : Bool) : ∃ regs, s.setActive k i v = { s with regs := regs } := by
  cases v with
  | false => exact ⟨_, rfl⟩
  | true => exact ⟨_, rfl⟩

@[simp] theorem State.setActive_port (s : State) (k i : Nat) (v : Bool) (j : Nat) : (s.setActive k i v).port j = s.port j := by
  obtain ⟨regs, same⟩ := s.setActive_frame k i v
  rw [same]
  rfl

/-! ### Frames that leave at once (R358, R362) -/

/-- A frame of class 0 or 1 is sent or lost: nothing else changes. -/
theorem State.jzSend_of_cyclic (s : State) (port : Nat) (relayed : Bool) {f : JzOut} (h : f.cls ≤ 1) :
    ∃ sent, s.jzSend port relayed f = { s with sent := sent } := by
  unfold State.jzSend
  dsimp only
  split
  · exact ⟨s.sent, rfl⟩
  · split
    · exact ⟨_, rfl⟩
    · exact ⟨s.sent, rfl⟩

theorem State.jzControl_frame (s : State) (port kind flags : Nat) (payload : List Byte) :
    ∃ sent, s.jzControl port kind flags payload = { s with sent := sent } := s.jzSend_of_cyclic port false (Nat.le_refl 1)

@[simp] theorem State.jzControl_get (s : State) (port kind flags : Nat) (payload : List Byte) (k : Nat) :
    (s.jzControl port kind flags payload).get k = s.get k := by
  obtain ⟨sent, same⟩ := s.jzControl_frame port kind flags payload
  rw [same]
  rfl

@[simp] theorem State.jzControl_jz (s : State) (port kind flags : Nat) (payload : List Byte) :
    (s.jzControl port kind flags payload).jz = s.jz := by
  obtain ⟨sent, same⟩ := s.jzControl_frame port kind flags payload
  rw [same]

/-- A port without signal sends nothing (R351). -/
theorem State.jzControl_of_no_signal {s : State} {port : Nat} (kind flags : Nat) (payload : List Byte)
    (h : s.get (Obj.JzPortState port) = 0) : s.jzControl port kind flags payload = s :=
  if_pos (by rw [h]; exact Bool.or_true _)

@[simp] theorem State.sendReconcile_get (s : State) (port k : Nat) : (s.sendReconcile port).get k = s.get k := s.jzControl_get ..
@[simp] theorem State.sendReconcile_jz (s : State) (port : Nat) : (s.sendReconcile port).jz = s.jz := s.jzControl_jz ..

theorem State.serve_of_empty {s : State} {port : Nat} (own : (s.port port).own = []) (relayed : (s.port port).relayed = []) :
    s.serve port ((s.port port).own.length + (s.port port).relayed.length) = s := by
  rw [own, relayed]
  rfl

/-! ### The state of the chain -/

theorem State.jzUpdate_get_other (s : State) {k : Nat} (h : k ≠ Obj.JzState) : s.jzUpdate.get k = s.get k := s.get_put_other _ h
@[simp] theorem State.jzUpdate_jz (s : State) : s.jzUpdate.jz = s.jz := rfl

/-! ### Credits (R374) -/

theorem State.creditGrant_get_other (s : State) {c j : Nat} (n : Nat) (granted : j ≠ Obj.CrGranted c) (held : j ≠ Obj.CrHeld c) :
    (s.creditGrant c n).get j = s.get j :=
  (State.count_get_other _ 64 n held).trans (State.count_get_other _ 64 n granted)

theorem State.creditGrant_held (s : State) (c n : Nat) :
    (s.creditGrant c n).get (Obj.CrHeld c) = wrapU 64 (s.get (Obj.CrHeld c) + n) := by
  rw [State.creditGrant, State.count, State.get_put_same, State.count_get_other _ 64 n (by unfold Obj.CrHeld Obj.CrGranted; omega)]

/-- The credits of a class start afresh and its suspension ends (R374, R375). -/
def State.classGranted (s : State) (port cls : Nat) : State :=
  (s.creditGrant (creditClass port cls) (grantOf cls)).clrBit Obj.Reconciling (creditClass port cls)

theorem State.classGranted_get_other (s : State) {port cls j : Nat} (ledger : j ≠ Obj.Reconciling)
    (granted : j ≠ Obj.CrGranted (creditClass port cls)) (held : j ≠ Obj.CrHeld (creditClass port cls)) :
    (s.classGranted port cls).get j = s.get j :=
  (State.clrBit_get_other _ _ ledger).trans (s.creditGrant_get_other _ granted held)

theorem State.classGranted_held (s : State) (port cls : Nat) :
    (s.classGranted port cls).get (Obj.CrHeld (creditClass port cls)) =
      wrapU 64 (s.get (Obj.CrHeld (creditClass port cls)) + grantOf cls) :=
  (State.clrBit_get_other _ _ (by unfold Obj.CrHeld Obj.Reconciling; omega)).trans (s.creditGrant_held ..)

/-- The three classes of a port that comes up first. -/
def State.portGranted (s : State) (port : Nat) : State :=
  ((s.classGranted port 2).classGranted port 3).classGranted port 4

theorem State.portGranted_get_other (s : State) {port j : Nat} (ledger : j ≠ Obj.Reconciling) (high : j < 0x238000) :
    (s.portGranted port).get j = s.get j := by
  have apart : ∀ c, j ≠ Obj.CrGranted c ∧ j ≠ Obj.CrHeld c := fun c => by unfold Obj.CrGranted Obj.CrHeld; omega
  rw [State.portGranted, State.classGranted_get_other _ ledger (apart _).1 (apart _).2,
    State.classGranted_get_other _ ledger (apart _).1 (apart _).2, State.classGranted_get_other _ ledger (apart _).1 (apart _).2]

theorem State.portGranted_held_of_two (s : State) (port : Nat) :
    (s.portGranted port).get (Obj.CrHeld (creditClass port 2)) = wrapU 64 (s.get (Obj.CrHeld (creditClass port 2)) + 256) := by
  have apart : ∀ cls, 2 < cls → Obj.CrHeld (creditClass port 2) ≠ Obj.Reconciling ∧
      Obj.CrHeld (creditClass port 2) ≠ Obj.CrGranted (creditClass port cls) ∧
      Obj.CrHeld (creditClass port 2) ≠ Obj.CrHeld (creditClass port cls) := fun cls hc => by
    unfold Obj.CrHeld Obj.CrGranted Obj.Reconciling creditClass
    omega
  obtain ⟨_, granted4, held4⟩ := apart 4 (by decide)
  obtain ⟨ledger, granted3, held3⟩ := apart 3 (by decide)
  rw [State.portGranted, State.classGranted_get_other _ ledger granted4 held4, State.classGranted_get_other _ ledger granted3 held3,
    State.classGranted_held]
  rfl

theorem State.portGranted_held_of_four (s : State) (port : Nat) :
    (s.portGranted port).get (Obj.CrHeld (creditClass port 4)) = wrapU 64 (s.get (Obj.CrHeld (creditClass port 4)) + 512) := by
  have apart : ∀ cls, 2 ≤ cls → cls < 4 → Obj.CrHeld (creditClass port 4) ≠ Obj.Reconciling ∧
      Obj.CrHeld (creditClass port 4) ≠ Obj.CrGranted (creditClass port cls) ∧
      Obj.CrHeld (creditClass port 4) ≠ Obj.CrHeld (creditClass port cls) := fun cls low high => by
    unfold Obj.CrHeld Obj.CrGranted Obj.Reconciling creditClass
    omega
  obtain ⟨_, granted2, held2⟩ := apart 2 (by decide) (by decide)
  obtain ⟨ledger, granted3, held3⟩ := apart 3 (by decide) (by decide)
  rw [State.portGranted, State.classGranted_held, State.classGranted_get_other _ ledger granted3 held3,
    State.classGranted_get_other _ ledger granted2 held2]
  rfl

end Sys2Proof.Machine
end

section
/-! SUPPORT. Enumeration, the maps, the links and their reconciliation (spec/14_jorzer_host.md). -/

namespace Sys2Proof.Machine

/-! ### Enumeration and maps (R351, R352) -/

section
variable {position : Nat} {serials : List Nat} {u s : State} (low : position < 63)
  (hu : u = ({ s.put Obj.JzPosition (position + 1 : Nat) with jz := { s.jz with mapped := false, outside := false } } : State).jzUpdate)
include low hu

/-- A device that joins forwards the frame where the chain goes on, and else answers with the map. -/
theorem exec_enumerate_of_joining (inside : (decide (position + 1 = 63) && s.portUp 1) = false) :
    exec (.enumerate position serials) s = .next
      (if s.portUp 1 then u.jzControl 1 5 0 (natLE 1 (position + 1) ++ serialBytes (serials ++ [s.nat Obj.SerialNumber]))
      else (u.jzControl 0 6 1 (serialBytes (serials ++ [s.nat Obj.SerialNumber]))).storeMap (serials ++ [s.nat Obj.SerialNumber])) := by
  have joins : ¬64 ≤ position + 1 := by omega
  have same : ∀ k, k ≠ Obj.JzPosition → k ≠ Obj.JzState → u.get k = s.get k := fun k hp hs => by
    rw [hu]
    exact (State.jzUpdate_get_other _ hs).trans (s.get_put_other _ hp)
  have up : u.portUp 1 = s.portUp 1 := by rw [State.portUp, State.portUp, same _ (by decide) (by decide)]
  have serial : u.nat Obj.SerialNumber = s.nat Obj.SerialNumber := by rw [State.nat, State.nat, same _ (by decide) (by decide)]
  change execEnumerate position serials s = _
  unfold execEnumerate
  extract_lets p outside_ jz placed joined l last marked
  have isU : joined = u := hu.symm
  have list : l = serials ++ [s.nat Obj.SerialNumber] := by rw [← serial, ← isU]
  have noLast : last = false := by
    rw [← inside, ← up, ← isU]
  have unmarked : marked = u := by
    change State.setBitIf joined last _ _ = u
    rw [noLast, isU]
    rfl
  rw [if_neg joins, unmarked, list, noLast, up, Bool.not_false, Bool.and_true]

end

theorem State.compareMaps_of_none_accepted {s : State} (h : s.jz.accepted = 0) : s.compareMaps = s.jzUpdate := by
  have same : s.mapsDiffer = false := by rw [State.mapsDiffer, h]; rfl
  rw [State.compareMaps, same, if_neg (by decide)]

/-- Before a map was accepted a stored one only tells the chain's length. -/
theorem State.storeMap_of_none_accepted {s : State} {serials : List Nat} (none_ : s.jz.accepted = 0) (short : serials.length ≤ 64) :
    (s.storeMap serials).get Obj.JzChainLength = serials.length ∧ (s.storeMap serials).jz = { s.jz with mapped := true } := by
  unfold State.storeMap
  extract_lets l stored length_ jz
  rw [State.compareMaps_of_none_accepted (by exact none_), State.jzUpdate_jz, State.jzUpdate_get_other _ (by decide)]
  exact ⟨(State.get_put_same ..).trans (congrArg (fun l : List Nat => (l.length : Int)) (List.take_of_length_le short)), rfl⟩

theorem exec_map_of_first {serials : List Nat} {s : State} (silent : s.get (Obj.JzPortState 0) = 0) (short : serials.length ≤ 64)
    (first : s.get Obj.JzChainLength = 0) (none_ : s.jz.accepted = 0) :
    ∃ t, exec (.map serials [] []) s = .next t ∧ t.get Obj.JzChainLength = serials.length ∧ t.jz.mapped = true ∧
      t.jz.images = [] := by
  have gone : (s.resetPositions serials ++ []).dedup = [] := by
    rw [State.resetPositions, State.nat, first]
    rfl
  obtain ⟨length_, jz⟩ := State.storeMap_of_none_accepted (s := { s with jz := { s.jz with images := [] } }) none_ short
  refine ⟨({ s with jz := { s.jz with images := [] } } : State).storeMap serials, ?_, length_, ?_, ?_⟩
  · change execMap serials [] [] s = _
    unfold execMap
    dsimp only
    rw [gone, State.jzControl_of_no_signal 6 1 _ silent]
    rfl
  · rw [jz]
  · rw [jz]

/-! ### Links (R351, R354, R374, R375) -/

section
variable {port : Nat} {s : State}

/-- The port of a link that trained, with its fault over and this device's epoch told. -/
def State.trained (s : State) (port : Nat) : State := ((s.put (Obj.JzPortState port) 2).setActive fkJorzer port false).sendReconcile port

theorem State.trained_port (s : State) (port j : Nat) : (s.trained port).port j = s.port j := by
  have sent : (s.trained port).port j = ((s.put (Obj.JzPortState port) 2).setActive fkJorzer port false).port j := by
    rw [State.port, State.trained, State.sendReconcile_jz]
    rfl
  rw [sent, State.setActive_port]
  rfl

theorem State.trained_get_other (s : State) {port k : Nat} (state : k ≠ Obj.JzPortState port) (low : k < 0x270000) :
    (s.trained port).get k = s.get k := by
  rw [State.trained, State.sendReconcile_get, State.setActive_get_other false (Nat.ne_of_lt (Nat.lt_of_lt_of_le low (faults_le_activeAt ..))),
    s.get_put_other _ state]

theorem State.trained_portState (s : State) {port : Nat} (hp : port < 2) : (s.trained port).get (Obj.JzPortState port) = 2 := by
  have low : Obj.JzPortState port < 0x270000 := by unfold Obj.JzPortState; omega
  rw [State.trained, State.sendReconcile_get, State.setActive_get_other false (Nat.ne_of_lt (Nat.lt_of_lt_of_le low (faults_le_activeAt ..))),
    State.get_put_same]

/-- A link that comes up at a device away from the head, by what it does with the port's credits. -/
theorem exec_linkUp_of_member {t : State} (away : s.get Obj.JzPosition ≠ 0)
    (ht : t = if (s.port port).wasUp then s.trained port
      else
        let g := (s.trained port).portGranted port
        let g := g.setPort port { g.port port with wasUp := true }
        g.serve port ((g.port port).own.length + (g.port port).relayed.length))
    (kept : t.get Obj.JzPosition = s.get Obj.JzPosition) :
    exec (.linkUp port) s = .next (({ t with jz := { t.jz with mapped := false } } : State).jzUpdate) := by
  have member : ¬(({ t with jz := { t.jz with mapped := false } } : State).jzUpdate).get Obj.JzPosition = 0 := by
    rw [State.jzUpdate_get_other _ (by decide)]
    exact fun h => away (kept ▸ h)
  have port_ : ((s.put (Obj.JzPortState port) 2).setActive fkJorzer port false).port port = s.port port := by
    rw [State.setActive_port]
    rfl
  change execLinkUp port s = _
  unfold execLinkUp
  dsimp only
  rw [port_]
  change Host.Outcome.next (ite ((State.jzUpdate { (ite _ _ _ : State) with jz := _ }).get _ = 0) _ _) = _
  rw [ht] at member ⊢
  exact congrArg Host.Outcome.next (if_neg member)

/-- A link that comes up first grants classes 2 and 4 their blocks. -/
theorem exec_linkUp_of_first (hp : port < 2) (first : (s.port port).wasUp = false) (outside : s.get Obj.JzPosition = 0xFF)
    (own : (s.port port).own = []) (relayed : (s.port port).relayed = []) :
    ∃ t, exec (.linkUp port) s = .next t ∧ t.get (Obj.JzPortState port) = 2 ∧ (t.port port).wasUp = true ∧
      t.get (Obj.CrHeld (creditClass port 2)) = wrapU 64 (s.get (Obj.CrHeld (creditClass port 2)) + 256) ∧
      t.get (Obj.CrHeld (creditClass port 4)) = wrapU 64 (s.get (Obj.CrHeld (creditClass port 4)) + 512) := by
  have before : ((s.trained port).portGranted port).port port = s.port port := s.trained_port port port
  have idle : (((s.trained port).portGranted port).setPort port { s.port port with wasUp := true }).serve port
      ((s.port port).own.length + (s.port port).relayed.length) =
        ((s.trained port).portGranted port).setPort port { s.port port with wasUp := true } := by
    rw [own, relayed]
    rfl
  have held : ∀ cls, 2 ≤ cls → cls ≤ 4 →
      (s.trained port).get (Obj.CrHeld (creditClass port cls)) = s.get (Obj.CrHeld (creditClass port cls)) := fun cls low high =>
    s.trained_get_other (by unfold Obj.CrHeld Obj.JzPortState creditClass; omega) (by unfold Obj.CrHeld creditClass; omega)
  refine ⟨_, exec_linkUp_of_member (by rw [outside]; decide)
    (t := ((s.trained port).portGranted port).setPort port { s.port port with wasUp := true }) ?_ ?_, ?_, ?_, ?_, ?_⟩
  · rw [first, if_neg (by decide)]
    dsimp only
    rw [State.setPort_port_same, before]
    exact idle.symm
  · rw [State.setPort_get, State.portGranted_get_other _ (by decide) (by decide),
      s.trained_get_other (by unfold Obj.JzPosition Obj.JzPortState; omega) (by decide)]
  · rw [State.jzUpdate_get_other _ (by unfold Obj.JzPortState Obj.JzState; omega)]
    refine (State.setPort_get ..).trans ?_
    rw [State.portGranted_get_other _ (by unfold Obj.JzPortState Obj.Reconciling; omega) (by unfold Obj.JzPortState; omega),
      s.trained_portState hp]
  · exact congrArg JzPortRt.wasUp (State.setPort_port_same ..)
  · rw [State.jzUpdate_get_other _ (by unfold Obj.CrHeld Obj.JzState creditClass; omega), ← held 2 (by decide) (by decide),
      ← State.portGranted_held_of_two]
    exact State.setPort_get ..
  · rw [State.jzUpdate_get_other _ (by unfold Obj.CrHeld Obj.JzState creditClass; omega), ← held 4 (by decide) (by decide),
      ← State.portGranted_held_of_four]
    exact State.setPort_get ..

/-! ### Reconciliation (R43, R375) -/

/-- Returned credits change only the ledgers of their class. -/
theorem State.creditReturn_get_low (s : State) (c n : Nat) {j : Nat} (low : j < 0x238000) : (s.creditReturn c n).get j = s.get j := by
  rw [State.creditReturn, State.count_get_other _ 64 _ (by unfold Obj.CrOccupancy; omega),
    State.count_get_other _ 64 _ (by unfold Obj.CrConsumed; omega), State.count_get_other _ 64 _ (by unfold Obj.CrHeld; omega),
    State.count_get_other _ 64 _ (by unfold Obj.CrGranted; omega)]

theorem State.replayAll_of_acknowledged {s : State} (h : (s.port port).unacked = []) :
    s.replayAll port = s.setPort port (s.port port) := by
  have same : { s.port port with unacked := [] } = s.port port := by rw [← h]
  unfold State.replayAll
  dsimp only
  rw [h]
  exact congrArg (s.setPort port) same

/-- With nothing outstanding a partner of the same epoch only returns credits. -/
theorem State.reconcileSame_of_acknowledged (consumed received : List Nat) (h : (s.port port).unacked = []) :
    ((s.reconcileSame port consumed received).port port) = s.port port ∧
      (s.reconcileSame port consumed received).get Obj.Reconciling = s.get Obj.Reconciling := by
  unfold State.reconcileSame
  extract_lets returned r
  have kept : returned.jz = s.jz ∧ returned.get Obj.Reconciling = s.get Obj.Reconciling := by
    refine List.foldlRecOn (motive := fun t : State => t.jz = s.jz ∧ t.get Obj.Reconciling = s.get Obj.Reconciling) _ _ ⟨rfl, rfl⟩ ?_
    rintro t ⟨jz, ledger⟩ cls -
    dsimp only
    split
    · exact ⟨jz, (t.creditReturn_get_low _ _ (by decide)).trans ledger⟩
    · exact ⟨jz, ledger⟩
  obtain ⟨jz, ledger⟩ := kept
  have before : r = s.port port := by
    change returned.port port = _
    rw [State.port, State.port, jz]
  have filtered : { r with unacked := r.unacked.filter (stillDue received) } = s.port port := by
    rw [before, h, List.filter_nil, ← h]
  rw [filtered, State.replayAll_of_acknowledged (by rw [State.setPort_port_same, h]), State.setPort_port_same, State.setPort_port_same,
    State.setPort_get, State.setPort_get]
  exact ⟨rfl, ledger⟩

/-- The suspension of a port's classes is over. -/
def State.resumed (s : State) (port : Nat) : State :=
  [2, 3, 4].foldl (fun x cls => x.clrBit Obj.Reconciling (creditClass port cls)) s

theorem State.clrBit_bit (s : State) (k i j : Nat) : (s.clrBit k i).bit k j = (s.bit k j && j != i) := by
  rw [State.bit, State.nat, State.clrBit, State.get_put_same, Int.toNat_natCast, clrBitN_testBit, State.bit]

theorem State.resumed_bit (s : State) (port : Nat) {cls : Nat} (h : cls = 2 ∨ cls = 3 ∨ cls = 4) :
    (s.resumed port).bit Obj.Reconciling (creditClass port cls) = false := by
  change ((((s.clrBit _ _).clrBit _ _).clrBit _ _).bit _ _) = false
  rw [State.clrBit_bit, State.clrBit_bit, State.clrBit_bit]
  rcases h with rfl | rfl | rfl <;> simp

/-- A reconciliation by the epoch that the partner had and the one that it tells. -/
theorem exec_reconcile {epoch : Nat} {consumed received : List Nat} {w : State}
    (hw : w = if !((s.port port).epoch.all fun e => decide (e = epoch)) then
        ((s.resumed port).setPort port { s.port port with epoch := some epoch }).reconcileFresh port
      else if ([2, 3, 4].any fun cls => s.suspended (creditClass port cls)) then
        ((s.resumed port).setPort port { s.port port with epoch := some epoch }).reconcileSame port consumed received
      else (s.resumed port).setPort port { s.port port with epoch := some epoch }) :
    exec (.reconcile port epoch consumed received) s = .next
      (w.serve port ((w.port port).own.length + (w.port port).relayed.length)).jzUpdate := by
  change execReconcile port epoch consumed received s = _
  unfold execReconcile
  extract_lets r same held resumed told result served
  have agrees : same = (s.port port).epoch.all fun e => decide (e = epoch) := by
    change (match (s.port port).epoch with | some e => decide (e = epoch) | none => true) = _
    split
    · next h => rw [h]; rfl
    · next h => rw [h]; rfl
  have isW : result = w := by
    rw [hw, ← agrees]
    rfl
  rw [← isW]

theorem exec_reconcile_of_acknowledged {epoch : Nat} (consumed received : List Nat) (unacked : (s.port port).unacked = [])
    (own : (s.port port).own = []) (relayed : (s.port port).relayed = [])
    (partner : (s.port port).epoch = none ∨ (s.port port).epoch = some epoch) :
    ∃ t, exec (.reconcile port epoch consumed received) s = .next t ∧ (t.port port).epoch = some epoch ∧
      t.bit Obj.Reconciling (creditClass port 2) = false ∧ t.bit Obj.Reconciling (creditClass port 3) = false ∧
      t.bit Obj.Reconciling (creditClass port 4) = false := by
  have known : ¬(!((s.port port).epoch.all fun e => decide (e = epoch))) = true := by
    rcases partner with h | h <;> simp [h]
  obtain ⟨u, hu⟩ : ∃ u, u = (s.resumed port).setPort port { s.port port with epoch := some epoch } := ⟨_, rfl⟩
  have told : u.port port = { s.port port with epoch := some epoch } := hu ▸ State.setPort_port_same ..
  have resumed : u.get Obj.Reconciling = (s.resumed port).get Obj.Reconciling := hu ▸ State.setPort_get ..
  obtain ⟨w, hw, kept, ledger⟩ : ∃ w, w = (if ([2, 3, 4].any fun cls => s.suspended (creditClass port cls)) then
      u.reconcileSame port consumed received else u) ∧ w.port port = u.port port ∧ w.get Obj.Reconciling = u.get Obj.Reconciling := by
    refine ⟨_, rfl, ?_⟩
    split
    · exact State.reconcileSame_of_acknowledged consumed received (by rw [told, unacked])
    · exact ⟨rfl, rfl⟩
  have quiet : w.serve port ((w.port port).own.length + (w.port port).relayed.length) = w :=
    State.serve_of_empty (by rw [kept, told, own]) (by rw [kept, told, relayed])
  have ended : ∀ cls, cls = 2 ∨ cls = 3 ∨ cls = 4 → w.jzUpdate.bit Obj.Reconciling (creditClass port cls) = false := fun cls h => by
    rw [← s.resumed_bit port h, State.bit, State.nat, State.jzUpdate_get_other _ (by decide), ledger, resumed]
    rfl
  refine ⟨w.jzUpdate, ?_, ?_, ended 2 (by decide), ended 3 (by decide), ended 4 (by decide)⟩
  · rw [exec_reconcile (w := w) (by rw [if_neg known, hw, hu]), quiet]
  · change (w.port port).epoch = _
    rw [kept, told]

end

/-- Settles O46: each event of the chain by the port, the position and the map it meets. -/
theorem theChainEnumeratesAndJoins : Obligations.TheChainEnumeratesAndJoins := by
  refine ⟨fun s silent unplaced awake => congrArg Host.Outcome.next (if_pos ⟨silent, unplaced, awake⟩),
    fun s h => congrArg Host.Outcome.next (if_neg fun k => ?_), fun position serials s high => ?_,
    fun position serials u s low up hu => ?_, fun position serials u s low down hu => ?_,
    fun serials resets images u s hu => ?_, fun serials s silent short first none_ => exec_map_of_first silent short first none_,
    fun s h => congrArg Host.Outcome.next (if_pos h.symm),
    fun s ready safe => congrArg Host.Outcome.next (if_neg fun h => h.elim safe ready), fun port cause s => rfl,
    fun port cause groups w s hw => hw ▸ rfl,
    fun port s hp first outside own relayed => exec_linkUp_of_first hp first outside own relayed,
    fun port u s again away hu hp => ?_,
    fun port epoch consumed received s hp unacked own relayed partner =>
      exec_reconcile_of_acknowledged consumed received unacked own relayed partner,
    fun port epoch old consumed received u w s partner other hu hw => exec_reconcile ?_,
    fun port epoch consumed received u w s partner held hu hw => exec_reconcile ?_⟩
  · obtain ⟨silent, unplaced, awake⟩ := k
    rcases h with h | h | h
    · exact h unplaced
    · exact h silent
    · rw [awake] at h
      cases h
  · exact congrArg Host.Outcome.next (if_pos (by omega))
  · have up_ : s.portUp 1 = true := by rw [State.portUp, up]; rfl
    rw [exec_enumerate_of_joining (by omega) hu (by rw [decide_eq_false (by omega)]; rfl), if_pos up_]
  · have down_ : s.portUp 1 = false := beq_eq_false_iff_ne.2 down
    rw [exec_enumerate_of_joining low hu (by rw [down_, Bool.and_false]), if_neg (by rw [down_]; decide)]
  · subst hu
    rfl
  · have kept : u.get Obj.JzPosition = s.get Obj.JzPosition := by
      rw [hu]
      exact s.trained_get_other (by unfold Obj.JzPosition Obj.JzPortState; omega) (by decide)
    exact exec_linkUp_of_member away (by rw [again, if_pos rfl, hu]; rfl) kept
  · rw [partner, if_pos (by simp [other]), hw, hu]
    rfl
  · rw [partner, if_neg (by simp), if_pos (by simpa using held), hw, hu]
    rfl

end Sys2Proof.Machine
end

section
/-! SUPPORT. Received chain frames, acknowledges, delays and sync (spec/14_jorzer_host.md). -/

namespace Sys2Proof.Machine

/-! ### Frames with a bad CRC (R356) -/

/-- The time is that of the clock's registers. -/
theorem State.now_of_kept {s t : State} (h : ∀ k, Obj.TrellisCounter ≤ k → k ≤ Obj.TrellisBaseCounter → t.get k = s.get k) :
    t.now = s.now := by
  simp only [State.now, State.timeAt, State.timeProduct, State.nat, h Obj.TrellisCounter (by decide) (by decide),
    h Obj.TrellisOffset (by decide) (by decide), h Obj.TrellisRate (by decide) (by decide),
    h Obj.TrellisBaseCounter (by decide) (by decide)]

section
variable {port : Nat} {f : JzFrame} {s : State}

/-- The times of the latest CRC failures, with the present one. -/
def State.crcNow (s : State) (port : Nat) : List Nat := s.now :: (s.port port).crcTimes.filter fun t => decide (s.now < t + 1000000)

/-- The state in which a bad CRC was counted. -/
def State.crcCounted (s : State) (port : Nat) : State :=
  ((s.count (Obj.JzCrcErrors port) 64 1).setBit Obj.JzStatus 3).setPort port { s.port port with crcTimes := s.crcNow port }

theorem State.crcMarked_natInUse (s : State) (port : Nat) :
    ((s.count (Obj.JzCrcErrors port) 64 1).setBit Obj.JzStatus 3).natInUse Obj.JzCrcLimit = s.natInUse Obj.JzCrcLimit := by
  rw [State.natInUse, State.natInUse, State.inUse, State.inUse, State.setBit_get_other _ 3 (by decide),
    State.count_get_other _ 64 1 (by unfold Obj.JzCrcLimit Obj.JzCrcErrors; omega)]
  rfl

theorem exec_jorzerFrameReceive_of_bad : exec (.jorzerFrameReceive port false f) s = .next
    (if s.natInUse Obj.JzCrcLimit < (s.crcNow port).length then (s.crcCounted port).linkDown port 2
    else if 2 ≤ f.cls then (s.crcCounted port).creditFrame port else s.crcCounted port) := by
  have limit : (s.crcCounted port).natInUse Obj.JzCrcLimit = s.natInUse Obj.JzCrcLimit := by
    rw [← s.crcMarked_natInUse port, State.natInUse, State.natInUse, State.inUse, State.inUse, State.crcCounted, State.setPort_oldVals,
      State.setPort_get]
  have now : ((s.count (Obj.JzCrcErrors port) 64 1).setBit Obj.JzStatus 3).now = s.now := State.now_of_kept fun k low high =>
    (State.setBit_get_other _ 3 (by unfold Obj.JzStatus; unfold Obj.TrellisBaseCounter at high; omega)).trans
      (State.count_get_other _ 64 1 (by unfold Obj.JzCrcErrors; unfold Obj.TrellisBaseCounter at high; omega))
  have failed : s.crcFailure port f = if (s.crcCounted port).natInUse Obj.JzCrcLimit < (s.crcNow port).length then
      (s.crcCounted port).linkDown port 2
      else if 2 ≤ f.cls then (s.crcCounted port).creditFrame port else s.crcCounted port := by
    unfold State.crcFailure
    dsimp only
    rw [now]
    rfl
  rw [← limit, ← failed]
  rfl

theorem State.crcCounted_counts (hp : port < 2) :
    (s.crcCounted port).get (Obj.JzCrcErrors port) = wrapU 64 (s.get (Obj.JzCrcErrors port) + 1) ∧
      (s.crcCounted port).bit Obj.JzStatus 3 = true ∧
      (s.crcCounted port).get (Obj.JzPortState port) = s.get (Obj.JzPortState port) := by
  rw [State.bit, State.nat, State.crcCounted, State.setPort_get, State.setPort_get, State.setPort_get]
  refine ⟨?_, State.setBit_bit_same .., ?_⟩
  · rw [State.setBit_get_other _ 3 (by unfold Obj.JzCrcErrors Obj.JzStatus; omega), State.count, State.get_put_same]
  · rw [State.setBit_get_other _ 3 (by unfold Obj.JzPortState Obj.JzStatus; omega),
      State.count_get_other _ 64 1 (by unfold Obj.JzPortState Obj.JzCrcErrors; omega)]

end

/-! ### Acknowledges (R358, R374) -/

theorem State.creditReturn_get_other (s : State) {c j : Nat} (n : Nat) (granted : j ≠ Obj.CrGranted c) (held : j ≠ Obj.CrHeld c)
    (consumed : j ≠ Obj.CrConsumed c) (occupancy : j ≠ Obj.CrOccupancy c) : (s.creditReturn c n).get j = s.get j := by
  rw [State.creditReturn, State.count_get_other _ 64 _ occupancy, State.count_get_other _ 64 _ consumed,
    State.count_get_other _ 64 _ held, State.count_get_other _ 64 _ granted]

theorem State.creditReturn_consumed (s : State) (c n : Nat) :
    (s.creditReturn c n).get (Obj.CrConsumed c) = wrapU 64 (s.get (Obj.CrConsumed c) + n) := by
  have held : Obj.CrConsumed c ≠ Obj.CrHeld c := by unfold Obj.CrConsumed Obj.CrHeld; omega
  have granted : Obj.CrConsumed c ≠ Obj.CrGranted c := by unfold Obj.CrConsumed Obj.CrGranted; omega
  have occupancy : Obj.CrConsumed c ≠ Obj.CrOccupancy c := by unfold Obj.CrConsumed Obj.CrOccupancy; omega
  rw [State.creditReturn, State.count_get_other _ 64 _ occupancy]
  refine (State.get_put_same ..).trans ?_
  rw [State.count_get_other _ 64 _ held, State.count_get_other _ 64 _ granted]

/-- The credits that a type-10 frame returns to one class. -/
def State.classReturned (s : State) (port : Nat) (credits : List Nat) (cls : Nat) : State :=
  s.creditReturn (creditClass port cls) (min (credits.getD (cls - 2) 0) (s.nat (Obj.CrOccupancy (creditClass port cls))))

theorem State.classReturned_get_of_class (s : State) (port : Nat) (credits : List Nat) {cls other k : Nat} (low : 2 ≤ cls)
    (h : 2 ≤ other) (ne : other ≠ cls) (hk : k = Obj.CrConsumed (creditClass port other) ∨ k = Obj.CrOccupancy (creditClass port other)) :
    (s.classReturned port credits cls).get k = s.get k := by
  refine s.creditReturn_get_other _ ?_ ?_ ?_ ?_ <;> rcases hk with rfl | rfl <;>
    simp only [Obj.CrConsumed, Obj.CrOccupancy, Obj.CrGranted, Obj.CrHeld, creditClass] <;> omega

theorem State.classReturned_port (s : State) (port : Nat) (credits : List Nat) (cls j : Nat) :
    (s.classReturned port credits cls).port j = s.port j := rfl

/-- An acknowledge without a replay removes the frames up to it and takes the credits of the three classes. -/
theorem exec_creditAndAcknowledge_of_idle {port acked : Nat} (credits : List Nat) {s : State} (own : (s.port port).own = [])
    (relayed : (s.port port).relayed = []) :
    ∃ t, exec (.creditAndAcknowledge port acked credits false) s = .next t ∧
      (t.port port).unacked = afterAck acked (s.port port).unacked ∧
      t.get (Obj.CrConsumed (creditClass port 3)) = wrapU 64 (s.get (Obj.CrConsumed (creditClass port 3)) +
        (min (credits.getD 1 0) (s.nat (Obj.CrOccupancy (creditClass port 3))) : Nat)) := by
  obtain ⟨u, hu⟩ : ∃ u, u = s.setPort port { s.port port with unacked := afterAck acked (s.port port).unacked } := ⟨_, rfl⟩
  obtain ⟨t, ht⟩ : ∃ t, t = ((u.classReturned port credits 2).classReturned port credits 3).classReturned port credits 4 := ⟨_, rfl⟩
  have kept : t.port port = { s.port port with unacked := afterAck acked (s.port port).unacked } := by
    rw [ht, State.classReturned_port, State.classReturned_port, State.classReturned_port, hu, State.setPort_port_same]
  have quiet : t.serve port ((t.port port).own.length + (t.port port).relayed.length) = t :=
    State.serve_of_empty (by rw [kept, own]) (by rw [kept, relayed])
  refine ⟨t, ?_, by rw [kept], ?_⟩
  · change execCreditAndAcknowledge port acked credits false s = _
    unfold execCreditAndAcknowledge
    extract_lets r acknowledged returned replayed
    have isT : returned = t := by rw [ht, hu]; rfl
    rw [isT]
    exact congrArg Host.Outcome.next quiet
  · have occupancy : (u.classReturned port credits 2).nat (Obj.CrOccupancy (creditClass port 3)) =
        s.nat (Obj.CrOccupancy (creditClass port 3)) := by
      rw [State.nat, State.nat, u.classReturned_get_of_class port credits (by decide) (by decide) (by decide) (.inr rfl), hu,
        State.setPort_get]
    rw [ht, State.classReturned_get_of_class _ port credits (other := 3) (by decide) (by decide) (by decide) (.inl rfl),
      State.classReturned, State.creditReturn_consumed, occupancy,
      u.classReturned_get_of_class port credits (by decide) (by decide) (by decide) (.inl rfl), hu, State.setPort_get]

/-! ### Delays and sync (R360, R361) -/

section
variable {port t1 t2 t3 t4 : Nat} {s : State}

/-- The state in which a delay was measured. -/
def State.delayed (s : State) (port : Nat) (d : Int) : State :=
  (s.setPort port { s.port port with delays := (d :: (s.port port).delays).take 16, delayAt := s.now }).put (Obj.JzLinkDelay port)
    (wrapU 32 (qdiv ((d :: (s.port port).delays).take 16).sum ((d :: (s.port port).delays).take 16).length))

theorem State.delayed_port (s : State) (port : Nat) (d : Int) :
    (s.delayed port d).port port = { s.port port with delays := (d :: (s.port port).delays).take 16, delayAt := s.now } :=
  State.setPort_port_same ..

theorem exec_delayMeasurement_of_early (some_ : (s.port port).delays ≠ [])
    (early : s.now < (s.port port).delayAt + s.natInUse Obj.JzDelayInterval * 1000000) :
    exec (.delayMeasurement port t1 t2 t3 t4) s = .next s :=
  congrArg Host.Outcome.next (if_pos (by simp [some_, early]))

theorem exec_delayMeasurement_of_due
    (due : (s.port port).delays = [] ∨ (s.port port).delayAt + s.natInUse Obj.JzDelayInterval * 1000000 ≤ s.now) {d : Int}
    (hd : d = qdiv (((t4 : Int) - t1) - ((t3 : Int) - t2)) 2 + s.get (Obj.JzAsymmetry port)) :
    exec (.delayMeasurement port t1 t2 t3 t4) s = .next
      (if 6553600 < d then (s.delayed port d).linkDown port 4 else s.delayed port d) := by
  subst hd
  refine congrArg Host.Outcome.next (if_neg ?_)
  rcases due with h | h
  · rw [h]
    simp
  · rw [decide_eq_false (Nat.not_lt.2 h)]
    simp

end

/-- Away from the head a sync is taken and passed on. -/
theorem exec_sync_of_member (stamp fraction arrival : Nat) (correction residence : Int) {s : State} (away : s.get Obj.JzPosition ≠ 0) :
    ∃ t, exec (.sync stamp fraction correction residence arrival) s = .next t ∧
      t.jz.headTime = (stamp : Int) * 65536 + fraction + correction + s.get (Obj.JzLinkDelay 0) ∧ t.jz.headAt = arrival ∧
      t.regs = s.regs ∧
      t = ({ s with jz := t.jz } : State).jzControl 1 9 0
        (natLE 8 stamp ++ natLE 2 fraction ++ intLE 8 (correction + residence)) := by
  obtain ⟨u, hu⟩ : ∃ u : State, u = { s with jz := { s.jz with
      headTime := (stamp : Int) * 65536 + fraction + correction + s.get (Obj.JzLinkDelay 0), headAt := arrival } } := ⟨_, rfl⟩
  obtain ⟨sent, passed⟩ := u.jzControl_frame 1 9 0 (natLE 8 stamp ++ natLE 2 fraction ++ intLE 8 (correction + residence))
  have jz : (u.jzControl 1 9 0 (natLE 8 stamp ++ natLE 2 fraction ++ intLE 8 (correction + residence))).jz = u.jz := u.jzControl_jz ..
  refine ⟨u.jzControl 1 9 0 (natLE 8 stamp ++ natLE 2 fraction ++ intLE 8 (correction + residence)), ?_, ?_, ?_, ?_, ?_⟩
  · rw [hu]
    exact congrArg Host.Outcome.next (if_neg away)
  · rw [jz, hu]
  · rw [jz, hu]
  · rw [passed, hu]
  · rw [jz, hu]

/-- Settles O47: frames by their CRC, class and order, and each measurement by its time. -/
theorem jorzerFrames : Obligations.JorzerFrames := by
  refine ⟨fun port f s hp cyclic few => ?_, fun port f u s hu many => ?_, fun port f s low high out => ?_, fun port f s low high next => ?_,
    fun port f s other => ?_, fun origin edge payload s => rfl,
    fun port acked credits s hp own relayed => exec_creditAndAcknowledge_of_idle credits own relayed,
    fun port t1 t2 t3 t4 d s hp due hd short => ?_, fun port t1 t2 t3 t4 s some_ early => exec_delayMeasurement_of_early some_ early,
    fun port t1 t2 t3 t4 s hp due long => ?_,
    fun stamp fraction arrival correction residence s away => exec_sync_of_member stamp fraction arrival correction residence away,
    fun stamp fraction arrival correction residence s head off => congrArg Host.Outcome.next ((if_pos head).trans (if_neg off)),
    fun stamp fraction arrival correction residence s head on => congrArg Host.Outcome.next ((if_pos head).trans (if_pos on)),
    fun port s h => congrArg Host.Outcome.next (if_neg fun k => ?_),
    fun port s some_ over_ => congrArg Host.Outcome.next (if_pos ⟨some_, over_⟩)⟩
  · have short : (s.crcNow port).length ≤ (s.port port).crcTimes.length + 1 := Nat.succ_le_succ (List.length_filter_le ..)
    refine ⟨s.crcCounted port, ?_, State.crcCounted_counts hp⟩
    rw [exec_jorzerFrameReceive_of_bad, if_neg (by omega), if_neg (by omega)]
  · have limit : u.natInUse Obj.JzCrcLimit = s.natInUse Obj.JzCrcLimit := by
      rw [hu]
      exact State.crcMarked_natInUse s port
    rw [exec_jorzerFrameReceive_of_bad, if_pos (limit ▸ many), hu]
    rfl
  · exact congrArg Host.Outcome.next ((if_neg (by decide)).trans ((if_pos ⟨low, high⟩).trans (if_neg out)))
  · exact congrArg Host.Outcome.next ((if_neg (by decide)).trans ((if_pos ⟨low, high⟩).trans (if_pos next)))
  · exact congrArg Host.Outcome.next ((if_neg (by decide)).trans (if_neg (by omega)))
  · refine ⟨s.delayed port d, ?_, ?_, ?_, State.get_put_same .., ?_⟩
    · rw [exec_delayMeasurement_of_due due hd, if_neg (Int.not_lt.2 short)]
    · rw [State.delayed_port]
    · rw [State.delayed_port]
    · rw [State.delayed, State.get_put_other _ _ (by unfold Obj.JzPortState Obj.JzLinkDelay; omega), State.setPort_get]
  · refine ⟨s.delayed port (qdiv (((t4 : Int) - t1) - ((t3 : Int) - t2)) 2 + s.get (Obj.JzAsymmetry port)), ?_, ?_⟩
    · rw [State.delayed_port]
    · rw [exec_delayMeasurement_of_due due rfl, if_pos long]
  · obtain ⟨some_, over_⟩ := k
    omega

end Sys2Proof.Machine
end

section
/-! SUPPORT. The host's doorbells, the fetching of entries and the host link (spec/14_jorzer_host.md). -/

namespace Sys2Proof.Machine

/-! ### The mailbox (R365) -/

section
variable {value : Nat} {entry data : List Byte} {s : State} (idle : s.host.busy = false)
include idle

theorem exec_mailboxDoorbell_of_other (other : value ≠ 1) : exec (.mailboxDoorbell value entry data) s = .next s :=
  congrArg Host.Outcome.next ((if_neg (by rw [idle]; decide)).trans (if_pos other))

theorem exec_mailboxDoorbell_of_clean (clean : entryClean entry = true) :
    exec (.mailboxDoorbell 1 entry data) s = .next
      (({ s with host := { s.host with busy := true } } : State).acceptEntry (reqOf 1 0 s.now entry data)) :=
  congrArg Host.Outcome.next ((if_neg (by rw [idle]; decide)).trans ((if_neg (by decide)).trans (if_neg (by rw [clean]; decide))))

theorem exec_mailboxDoorbell_of_reserved (reserved : entryClean entry = false) :
    exec (.mailboxDoorbell 1 entry data) s = .next { s with host := { s.host with
      mailbox := s.doneEntry (reqOf 1 0 s.now entry data) (s.nat Obj.JzPosition) ⟨0x0301, [], false⟩ } } :=
  congrArg Host.Outcome.next ((if_neg (by rw [idle]; decide)).trans ((if_neg (by decide)).trans (if_pos (by rw [reserved]; decide))))

end

/-- An entry that the device executes itself becomes outstanding and is not sent on. -/
theorem State.acceptEntry_of_own {s : State} {r : HostReq} (own : s.ownReq r = true) :
    s.acceptEntry r = { s with host := { s.host with reqs := s.host.reqs ++ [r] } } := by
  unfold State.acceptEntry
  extract_lets hold host accepted
  have noHold : hold = false := by
    change (!s.ownReq r && s.fenced r) = false
    rw [own]
    rfl
  have same : accepted = { s with host := { s.host with reqs := s.host.reqs ++ [r] } } := by
    change ({ s with host := { s.host with reqs := s.host.reqs ++ [if hold then { r with waits := 3 } else r] } } : State) = _
    rw [noHold]
    rfl
  have again : accepted.ownReq r = true := by
    rw [same]
    exact own
  rw [again, Bool.true_or, if_pos rfl, same]

/-! ### Doorbells (R366, R374) -/

section
variable {q value : Nat} {s : State}

theorem exec_submissionTailDoorbell_of_legal (h : value < s.nat (Obj.HsqSize q)) :
    exec (.submissionTailDoorbell q value) s = .next
      (({ s with host := { s.host with tails := Sparse.insert q value s.host.tails } } : State).creditUse 0
        ((value + s.nat (Obj.HsqSize q) - s.sqTail q) % s.nat (Obj.HsqSize q))) :=
  congrArg Host.Outcome.next (if_neg (Nat.not_le.2 h))

end

/-! ### Fetching (R369 to R371, R376) -/

section
variable {c q : Nat} {l : List Nat} {entry data : List Byte} {s : State}

/-- While the host link is lost nothing is fetched. -/
theorem exec_submissionFetch_of_lost (lost : s.host.lost = true) : exec (.submissionFetch entry data) s = .next s := by
  change execSubmissionFetch entry data s = _
  unfold execSubmissionFetch
  dsimp only
  split
  · rfl
  · split
    · rfl
    · rw [if_pos lost]

/-- The entry at the head of the queue whose turn it is is taken. -/
theorem exec_submissionFetch_of_turn (turn : s.fetchClass = some c) (queue : s.sqOf c = q :: l) (linked : s.host.lost = false) :
    exec (.submissionFetch entry data) s = .next
      ((((s.granted c q).put (Obj.HsqHead q)
        (((s.granted c q).nat (Obj.HsqHead q) + 1) % (s.granted c q).nat (Obj.HsqSize q) : Nat)).creditReturn 0 1).fetched
          (reqOf 0 q s.now entry data) entry) := by
  change execSubmissionFetch entry data s = _
  unfold execSubmissionFetch
  simp only [turn, queue]
  exact congrArg Host.Outcome.next (if_neg (by rw [linked]; decide))

/-- A sound entry for this device with a free tag becomes outstanding and counts. -/
theorem State.fetched_of_own {r : HostReq} (clean : entryClean entry = true)
    (free : (s.host.reqs.any fun x => x.path == 0 && x.tag == r.tag) = false) (own : s.ownReq r = true) :
    s.fetched r entry = { (s.count Obj.HostSubmitted 64 1).count Obj.HostOutstanding 64 1 with
      host := { s.host with reqs := s.host.reqs ++ [r] } } := by
  have counted : ((s.count Obj.HostSubmitted 64 1).count Obj.HostOutstanding 64 1).ownReq r = true := by
    rw [State.ownReq, State.nat, State.count_get_other _ 64 1 (by decide), State.count_get_other _ 64 1 (by decide)]
    exact own
  refine (if_neg (by rw [clean]; decide)).trans ((if_neg (by rw [free]; decide)).trans ?_)
  rw [State.acceptEntry_of_own counted]
  rfl

/-- The queue's head moves on and the counts follow. -/
theorem exec_submissionFetch_of_own (turn : s.fetchClass = some c) (queue : s.sqOf c = q :: l) (linked : s.host.lost = false)
    (own : s.ownReq (reqOf 0 q s.now entry data) = true) (clean : entryClean entry = true)
    (free : (s.host.reqs.any fun x => x.path == 0 && x.tag == (reqOf 0 q s.now entry data).tag) = false) (hq : q < 32) :
    ∃ t, exec (.submissionFetch entry data) s = .next t ∧ t.host.reqs = s.host.reqs ++ [reqOf 0 q s.now entry data] ∧
      t.get (Obj.HsqHead q) = ((s.nat (Obj.HsqHead q) + 1) % s.nat (Obj.HsqSize q) : Nat) ∧
      t.get Obj.HostOutstanding = wrapU 64 (s.get Obj.HostOutstanding + 1) ∧
      t.get Obj.HostSubmitted = wrapU 64 (s.get Obj.HostSubmitted + 1) := by
  obtain ⟨moved, hm⟩ : ∃ moved, moved = ((s.granted c q).put (Obj.HsqHead q)
      (((s.granted c q).nat (Obj.HsqHead q) + 1) % (s.granted c q).nat (Obj.HsqSize q) : Nat)).creditReturn 0 1 := ⟨_, rfl⟩
  have reqs : moved.host.reqs = s.host.reqs := by rw [hm]; rfl
  have low : ∀ j, j < 0x238000 → j ≠ Obj.HsqHead q → moved.get j = s.get j := fun j hj head => by
    rw [hm, State.creditReturn_get_low _ _ _ hj, State.get_put_other _ _ head]
    rfl
  have position : moved.ownReq (reqOf 0 q s.now entry data) = true := by
    rw [State.ownReq, State.nat, low Obj.JzPosition (by decide) (by unfold Obj.HsqHead Obj.JzPosition; omega)]
    exact own
  have head : moved.get (Obj.HsqHead q) = ((s.nat (Obj.HsqHead q) + 1) % s.nat (Obj.HsqSize q) : Nat) := by
    rw [hm, State.creditReturn_get_low _ _ _ (by unfold Obj.HsqHead; omega), State.get_put_same]
    rfl
  have fetched : exec (.submissionFetch entry data) s = .next { (moved.count Obj.HostSubmitted 64 1).count Obj.HostOutstanding 64 1 with
      host := { moved.host with reqs := moved.host.reqs ++ [reqOf 0 q s.now entry data] } } := by
    rw [exec_submissionFetch_of_turn turn queue linked, ← hm, State.fetched_of_own clean (by rw [reqs]; exact free) position]
  refine ⟨_, fetched, ?_, ?_, ?_, ?_⟩
  · change moved.host.reqs ++ _ = _
    rw [reqs]
  · refine ((State.count_get_other _ 64 1 (by unfold Obj.HsqHead Obj.HostOutstanding; omega)).trans
      (State.count_get_other _ 64 1 (by unfold Obj.HsqHead Obj.HostSubmitted; omega))).trans head
  · refine (State.get_put_same ..).trans ?_
    rw [State.count_get_other _ 64 1 (by decide), low _ (by decide) (by unfold Obj.HsqHead Obj.HostOutstanding; omega)]
  · refine (State.count_get_other _ 64 1 (by decide)).trans ((State.get_put_same ..).trans ?_)
    rw [low _ (by decide) (by unfold Obj.HsqHead Obj.HostSubmitted; omega)]

end

/-! ### The host link (R376) -/

/-- Without entries in any completion queue a reconciliation only resumes the ledgers. -/
theorem exec_hostReconcile_of_empty {s : State} (lost : s.host.lost = true) (empty : s.host.cqs = []) :
    exec (.hostReconcile []) s = .next (({ s with host := { s.host with lost := false } } : State).put Obj.Reconciling
      (s.nat Obj.Reconciling &&& 0xFFF8 : Nat)) := by
  obtain ⟨u, hu⟩ : ∃ u, u = ({ s with host := { s.host with lost := false } } : State).put Obj.Reconciling
      (s.nat Obj.Reconciling &&& 0xFFF8 : Nat) := ⟨_, rfl⟩
  have queue : ∀ q, u.cq q = {} := fun q => by
    rw [hu, State.cq]
    change Sparse.get (fun _ => ({} : CqRt)) s.host.cqs q = {}
    rw [empty]
    rfl
  have rewrites : u.each (List.range 32) State.cqRewrite = u :=
    State.each_of_fixed (fun q => by rw [State.cqRewrite, queue]; rfl) _
  have signals : u.each (List.range 32) (fun s q =>
      if 0 < (s.cq q).irq ∧ s.natInUse (Obj.HcqIrqCount q) ≤ (s.cq q).irq then s.cqSignal q else s) = u :=
    State.each_of_fixed (fun q => if_neg (by rw [queue]; exact fun h => absurd h.1 (by decide))) _
  have notLinked : ¬(!s.host.lost) = true := by rw [lost]; decide
  change execHostReconcile [] s = _
  unfold execHostReconcile
  rw [if_neg notLinked]
  extract_lets host linked resumed freed rewritten
  have isU : freed = u := hu.symm
  have again : rewritten = u := by
    change freed.each _ _ = u
    rw [isU, rewrites]
  rw [again, signals, hu]

/-- Settles O48: doorbells by their value, fetches by the turn of the classes, and the link's loss and return. -/
theorem hostQueuesAndTheMailbox : Obligations.HostQueuesAndTheMailbox := by
  refine ⟨fun value entry data s busy => congrArg Host.Outcome.next (if_pos busy),
    fun value entry data s idle other => exec_mailboxDoorbell_of_other idle other,
    fun entry data s idle clean => exec_mailboxDoorbell_of_clean idle clean, fun entry data s idle clean own => ?_,
    fun entry data s idle reserved => ⟨_, exec_mailboxDoorbell_of_reserved idle reserved, idle, rfl, rfl, rfl⟩,
    fun q value s beyond => congrArg Host.Outcome.next (if_pos beyond),
    fun q value s legal => exec_submissionTailDoorbell_of_legal legal,
    fun q value s beyond => congrArg Host.Outcome.next (if_pos beyond),
    fun q value s legal => congrArg Host.Outcome.next (if_neg (Nat.not_le.2 legal)), fun entry data s none_ => ?_,
    fun entry data s lost => exec_submissionFetch_of_lost lost,
    fun c q l entry data w s turn queue linked hw => hw ▸ exec_submissionFetch_of_turn turn queue linked,
    fun c q l entry data s turn queue linked own clean free hq => exec_submissionFetch_of_own turn queue linked own clean free hq,
    fun q s h => congrArg Host.Outcome.next (if_neg fun k => ?_),
    fun q s timed some_ passed => congrArg Host.Outcome.next (if_pos ⟨timed, some_, passed⟩), fun s => rfl,
    fun heads s linked => congrArg Host.Outcome.next (if_pos (by rw [linked]; rfl)), fun heads w x s lost hw hx => ?_,
    fun s lost empty => exec_hostReconcile_of_empty lost empty⟩
  · have own_ : ({ s with host := { s.host with busy := true } } : State).ownReq (reqOf 1 0 s.now entry data) = true := own
    refine ⟨_, exec_mailboxDoorbell_of_clean idle clean, ?_⟩
    rw [State.acceptEntry_of_own own_]
    exact ⟨rfl, rfl, rfl⟩
  · change execSubmissionFetch entry data s = _
    rw [execSubmissionFetch, none_]
  · obtain ⟨timed, some_, passed⟩ := k
    omega
  · have notLinked : ¬(!s.host.lost) = true := by rw [lost]; decide
    change execHostReconcile heads s = _
    unfold execHostReconcile
    rw [if_neg notLinked]
    extract_lets host linked resumed freed rewritten
    have isW : freed = w := hw.symm
    have isX : rewritten = x := by rw [hx, ← isW]
    rw [isX]

end Sys2Proof.Machine
end

section
/-! SUPPORT. The requests of the host and their tags (spec/14_jorzer_host.md). -/

namespace Sys2Proof.Machine

/-! ### Requests by their opcode (R367) -/

section
variable {path source tag : Nat} {r : HostReq} {s : State} (found : s.findReq path source tag = some r)
include found

theorem exec_hostRead_of_found (op : r.opcode = 1) :
    exec (.hostRead path source tag) s = .next (s.runReq r fun s => s.readObject r.session r.index r.sub r.offset r.length) := by
  change execHostRead path source tag s = _
  rw [execHostRead, found]
  exact congrArg Host.Outcome.next (if_pos op)

theorem exec_hostWrite_of_found (op : r.opcode = 2) :
    exec (.hostWrite path source tag) s = .next (s.runReq r fun s => s.writeObject r.session r.index r.sub r.offset r.data) := by
  change execHostWrite path source tag s = _
  rw [execHostWrite, found]
  exact congrArg Host.Outcome.next (if_pos op)

theorem exec_hostStage_of_found (op : r.opcode = 3) :
    exec (.hostStage path source tag) s = .next (s.runReq r fun s => s.stageObject r.session r.index r.sub r.offset r.data) := by
  change execHostStage path source tag s = _
  rw [execHostStage, found]
  exact congrArg Host.Outcome.next (if_pos op)

/-- An opcode that starts no access completes: the no-op with status 0, one that the table does not list with 0x0301. -/
theorem exec_hostNoOp_of_found (op : r.opcode = 0 ∨ 6 ≤ r.opcode) :
    exec (.hostNoOp path source tag) s = .next
      (s.complete r (s.nat Obj.JzPosition) ⟨if r.opcode = 6 then 0 else 0x0301, [], false⟩) := by
  change execHostNoOp path source tag s = _
  rw [execHostNoOp, found]
  exact congrArg Host.Outcome.next (if_neg (by omega))

end

/-- Without the entry no request runs. -/
theorem exec_hostRequest_of_missing {path source tag : Nat} {s : State} (none_ : s.findReq path source tag = none) :
    exec (.hostRead path source tag) s = .next s ∧ exec (.hostWrite path source tag) s = .next s ∧
      exec (.hostStage path source tag) s = .next s ∧ exec (.hostNoOp path source tag) s = .next s := by
  change execHostRead path source tag s = _ ∧ execHostWrite path source tag s = _ ∧ execHostStage path source tag s = _ ∧
    execHostNoOp path source tag s = _
  rw [execHostRead, execHostWrite, execHostStage, execHostNoOp, none_]
  exact ⟨rfl, rfl, rfl, rfl⟩

theorem State.runReq_of_empty {r : HostReq} {s : State} (f : State → State) (h : r.length = 0) :
    s.runReq r f = s.complete r (s.nat Obj.JzPosition) ⟨0, [], false⟩ := if_pos h

/-! ### A read through the mailbox (R50, R365, R369) -/

theorem intLE_one (v : Int) : intLE 1 v = [BitVec.ofInt 8 v] := by
  refine congrArg (fun b => [b]) (BitVec.eq_of_toNat_eq ?_)
  rw [BitVec.toNat_ofNat, BitVec.toNat_ofInt, wrapU]
  omega

/-- A read of `TickPeriod` answers with its byte. -/
theorem State.readObject_tickPeriod {s : State} (h : s.power.recovery = false) :
    s.readObject 0 0x2000 1 0 1 = s.answer [BitVec.ofInt 8 (s.get Obj.TickPeriod)] := by
  have open_ : s.sessionOk 0 = true := rfl
  have listed := listed_tickPeriod
  rw [← intLE_one]
  simp only [State.readObject, open_, State.served_of_normal h, listed.native, listed.address, listed.entry]
  rfl

/-- Where no fenced entry waits, none is released. -/
theorem State.releaseFenced_of_none {s : State} (h : ∀ x ∈ s.host.reqs, (x.waits == 3) = false) : s.releaseFenced = s := by
  have none_ : (s.host.reqs.filter fun r => r.waits == 3 && !s.fenced r) = [] :=
    List.filter_eq_nil_iff.2 fun x hx => by rw [h x hx, Bool.false_and]; decide
  rw [State.releaseFenced, none_]
  rfl

/-- A mailbox request with a short answer leaves the mailbox free. -/
theorem State.complete_of_mailbox {s : State} {r : HostReq} (source : Nat) {d : Done} (path : r.path = 1) (short : d.data.length ≤ 32)
    (free : (s.host.reqs.any fun x => x.waits == 3) = false) :
    s.complete r source d = { s with host := { s.host with
      reqs := s.host.reqs.erase r, busy := false, mailbox := s.doneEntry r source d } } := by
  have waiting : ∀ x ∈ s.host.reqs, (x.waits == 3) = false := fun x hx =>
    Bool.eq_false_iff.2 fun h => absurd (List.any_eq_true.2 ⟨x, hx, h⟩) (by rw [free]; decide)
  have released : ({ s with host := { s.host with reqs := s.host.reqs.erase r } } : State).releaseFenced =
      { s with host := { s.host with reqs := s.host.reqs.erase r } } :=
    State.releaseFenced_of_none fun x hx => waiting x (List.mem_of_mem_erase hx)
  have small : ∀ t : State, t.dmaWrite r d = t := fun t => if_pos short
  unfold State.complete
  dsimp only
  rw [released, if_neg (by rw [path]; decide), if_pos path, small]

/-- A read of `TickPeriod` through the mailbox. -/
theorem exec_hostRead_tickPeriod {source tag : Nat} {r : HostReq} {s : State} (found : s.findReq 1 source tag = some r)
    (path : r.path = 1) (op : r.opcode = 1) (index : r.index = 0x2000) (sub : r.sub = 1) (offset : r.offset = 0) (length : r.length = 1)
    (session : r.session = 0) (normal : s.power.recovery = false) (free : (s.host.reqs.any fun x => x.waits == 3) = false) :
    ∃ t, exec (.hostRead 1 source tag) s = .next t ∧ t.regs = s.regs ∧ t.host.busy = false ∧
      t.host.reqs = s.host.reqs.erase r ∧ t.resp.data = [BitVec.ofInt 8 (s.get Obj.TickPeriod)] := by
  obtain ⟨t, ht⟩ : ∃ t : State, t = s.answer [BitVec.ofInt 8 (s.get Obj.TickPeriod)] := ⟨_, rfl⟩
  have read : ({ s with resp := { status := unanswered } } : State).readObject r.session r.index r.sub r.offset r.length = t := by
    rw [index, sub, offset, length, session, ht]
    exact State.readObject_tickPeriod normal
  have status : t.resp.status = 0 := by rw [ht]; rfl
  have answered : t.resp.status ≠ unanswered := by rw [status]; decide
  have data : t.resp.data = [BitVec.ofInt 8 (s.get Obj.TickPeriod)] := by rw [ht]; rfl
  have held : t.host.reqs.contains r = true := by
    rw [ht]
    exact List.contains_iff_mem.2 (List.mem_of_find?_eq_some found)
  have completed : s.runReq r (fun s => s.readObject r.session r.index r.sub r.offset r.length) =
      t.complete r (s.nat Obj.JzPosition) ⟨t.resp.status, t.resp.data, false⟩ := by
    unfold State.runReq
    dsimp only
    rw [if_neg (by rw [length]; decide), read, if_neg answered, if_pos held]
  rw [exec_hostRead_of_found found op, completed, State.complete_of_mailbox _ path (Nat.le_of_lt (by rw [data]; exact (by decide : 1 < 32))) (by rw [ht]; exact free), ht]
  exact ⟨_, rfl, rfl, rfl, rfl, rfl⟩

/-! ### Tags (R378) -/

section
variable {tag : Nat} {s : State}

theorem exec_tagTimeout_of_missing (h : (s.host.reqs.find? fun r => r.path == 0 && r.tag == tag) = none) :
    exec (.tagTimeout tag) s = .next s := by
  change execTagTimeout tag s = _
  unfold execTagTimeout
  rw [h]

/-- An outstanding tag by the time it has waited. -/
theorem exec_tagTimeout_of_found {r : HostReq} (h : (s.host.reqs.find? fun r => r.path == 0 && r.tag == tag) = some r) :
    exec (.tagTimeout tag) s = .next
      (if s.natInUse Obj.HostTagTimeout = 0 ∨ s.now < r.time + s.natInUse Obj.HostTagTimeout * 1000000 then s
      else (s.setBit Obj.HostStatus 2).complete r r.dest ⟨0x0601, [], true⟩) := by
  change execTagTimeout tag s = _
  unfold execTagTimeout
  rw [h]

end

/-- Settles O49: a request by its opcode, and a tag by the time it has waited. -/
theorem hostRequests : Obligations.HostRequests := by
  refine ⟨fun path source tag r s found op => exec_hostRead_of_found found op, fun path source tag r s found op => exec_hostWrite_of_found found op,
    fun path source tag r s found op => exec_hostStage_of_found found op, fun path source tag r s found op => ?_,
    fun path source tag r s found op => ?_, fun path source tag r s found empty op => ?_,
    fun source tag r s found path op index sub offset length session normal free =>
      exec_hostRead_tickPeriod found path op index sub offset length session normal free,
    fun path source tag s none_ => exec_hostRequest_of_missing none_, fun tag s off => ?_, fun tag s none_ => ?_,
    fun tag r s found early => ?_, fun tag r s found timed passed => ?_⟩
  · rw [exec_hostNoOp_of_found found (by omega), if_pos op]
  · rw [exec_hostNoOp_of_found found (by omega), if_neg (by omega)]
  · rw [exec_hostRead_of_found found op, State.runReq_of_empty _ empty]
  · cases h : s.host.reqs.find? fun r => r.path == 0 && r.tag == tag with
    | none => exact exec_tagTimeout_of_missing h
    | some r => rw [exec_tagTimeout_of_found h, if_pos (.inl off)]
  · refine exec_tagTimeout_of_missing (List.find?_eq_none.2 fun x hx h => ?_)
    exact absurd (List.any_eq_true.2 ⟨x, hx, h⟩) (by rw [none_]; decide)
  · rw [exec_tagTimeout_of_found found, if_pos (.inr early)]
  · rw [exec_tagTimeout_of_found found, if_neg (fun h => h.elim timed (Nat.not_lt.2 passed))]

end Sys2Proof.Machine
end

section
/-! SUPPORT. Requests, cancels, sent and received frames of a CAN controller (spec/15_can_fd.md). -/

namespace Sys2Proof.Machine

/-! ### Requests and their end (R386 to R390) -/

section
variable {c b : Nat} {s : State}

theorem canHas_of_lt (hc : c < 2) (hb : b < 64) : canHas c b = true := decide_eq_true ⟨hc, hb⟩

theorem exec_canBufRequest_of_transmit (hc : c < 2) (hb : b < 64) (role : s.get (Obj.CanBufRole c b) = 1) :
    exec (.canBufRequest c b) s = .next (if s.canPending c b then s.reply 0x0501 else (s.canRequest c b).done) := by
  change execCanBufRequest c b s = _
  rw [execCanBufRequest, if_neg (by rw [canHas_of_lt hc hb]; decide), if_neg (not_not_intro role)]

/-- A request of a buffer that takes no data from slots. -/
theorem State.canRequest_of_unfed (unfed : s.get (Obj.CanBufTxSlot c b) = 0xFFFF) :
    s.canRequest c b = ((s.setCan c { s.can c with reqs := (s.can c).reqs ++ [(b, s.now)] }).count
      (Obj.CanQueued c) 64 1).put (Obj.CanBufState c b) 1 := by
  have slot : (s.setCan c { s.can c with reqs := (s.can c).reqs ++ [(b, s.now)] }).nat (Obj.CanBufTxSlot c b) = 0xFFFF :=
    congrArg Int.toNat unfed
  have kept : (s.setCan c { s.can c with reqs := (s.can c).reqs ++ [(b, s.now)] }).canSlotData c b =
      s.setCan c { s.can c with reqs := (s.can c).reqs ++ [(b, s.now)] } := if_pos slot
  rw [State.canRequest]
  dsimp only
  rw [kept]

/-- The state in which a request of a buffer has ended, by the counter that says how. -/
def State.canEnded (s : State) (c b key : Nat) : State :=
  ((s.setCan c { s.can c with
      reqs := (s.can c).reqs.filter (fun x => x.1 != b), cancels := (s.can c).cancels.erase b,
      tt := (s.can c).tt.filter fun x => x.2 != b }).count key 64 1).put (Obj.CanBufState c b) 0

theorem State.canEnd_of_pending {key : Nat} (status : Nat) (pending : s.canPending c b = true) (uncancelled : b ∉ (s.can c).cancels) :
    s.canEnd c b key status = s.canEnded c b key := by
  have waits : ¬(s.can c).cancels.contains b = true := fun h => uncancelled (List.contains_iff_mem.1 h)
  rw [State.canEnd, if_pos pending]
  exact if_neg waits

theorem State.canEnded_can (s : State) (c b key : Nat) : (s.canEnded c b key).can c = { s.can c with
    reqs := (s.can c).reqs.filter (fun x => x.1 != b), cancels := (s.can c).cancels.erase b,
    tt := (s.can c).tt.filter fun x => x.2 != b } := State.setCan_can_same ..

theorem State.canEnded_pending (s : State) (c b key : Nat) : (s.canEnded c b key).canPending c b = false := by
  rw [State.canPending, State.canEnded_can, List.any_eq_false]
  intro x hx
  obtain ⟨-, ne⟩ := List.mem_filter.1 hx
  exact fun h => bne_iff_ne.1 ne (beq_iff_eq.1 h)

theorem State.canEnded_state (s : State) (c b key : Nat) : (s.canEnded c b key).get (Obj.CanBufState c b) = 0 := State.get_put_same ..

theorem State.canEnded_get_other (s : State) (c b : Nat) {key j : Nat} (state : j ≠ Obj.CanBufState c b) (counter : j ≠ key) :
    (s.canEnded c b key).get j = s.get j :=
  (State.get_put_other _ _ state).trans (State.count_get_other _ 64 1 counter)

theorem State.canEnded_counter (s : State) (c b : Nat) {key : Nat} (state : key ≠ Obj.CanBufState c b) :
    (s.canEnded c b key).get key = wrapU 64 (s.get key + 1) :=
  (State.get_put_other _ _ state).trans (State.get_put_same ..)

theorem exec_canBufCancel_of_pending {sof : Nat} (hc : c < 2) (hb : b < 64) (pending : s.canPending c b = true) :
    exec (.canBufCancel c b sof) s = .next
      (if s.canSending c sof = some b then
        (s.setCan c { s.can c with cancels := if (s.can c).cancels.contains b then (s.can c).cancels
          else (s.can c).cancels ++ [b] }).put (Obj.CanBufState c b) 2
      else (s.canEnd c b (Obj.CanCancelled c) 0).done) := by
  change execCanBufCancel c b sof s = _
  rw [execCanBufCancel, if_neg (by rw [canHas_of_lt hc hb]; decide), if_neg (by rw [pending]; decide)]

end

/-! ### Frames (R383, R388 to R390, R396) -/

section
variable {c b sof : Nat} {s : State}

/-- A controller sends in mode 1 only. -/
theorem State.mode_of_canSending (h : s.canSending c sof = some b) : (s.can c).mode = 1 := by
  by_contra off
  rw [State.canSending, if_pos (.inr (.inl off))] at h
  cases h

/-- In mode 1 counters below their limits are only stored. -/
theorem State.canCounters_of_active {tec rec_ : Nat} (mode : (s.can c).mode = 1) (ht : tec < 96) (hr : rec_ < 96) :
    s.canCounters c tec rec_ = (s.put (Obj.CanTec c) tec).put (Obj.CanRec c) rec_ := by
  have warning : decide (96 ≤ tec ∨ 96 ≤ rec_) = false := decide_eq_false (by omega)
  have passive : decide (128 ≤ tec ∨ 128 ≤ rec_) = false := decide_eq_false (by omega)
  have off : ∀ p : Prop, ¬(255 < tec ∧ p) := fun p h => absurd h.1 (by omega)
  rw [State.canCounters, if_neg (not_not_intro mode), warning, passive]
  exact if_neg (off _)

theorem State.canFailed_of_none (h : s.canSending c sof = none) : s.canFailed c sof = s := by
  rw [State.canFailed, h]

theorem State.canFailed_of_oneShot (h : s.canSending c sof = some b) (oneShot : s.get (Obj.CanBufOneShot c b) = 1) :
    s.canFailed c sof = s.canEnd c b (Obj.CanCancelled c) 0 := by
  rw [State.canFailed, h]
  exact if_pos (.inl (flag_of_one oneShot))

theorem State.canFailed_of_repeating (h : s.canSending c sof = some b) (repeats : s.get (Obj.CanBufOneShot c b) = 0)
    (uncancelled : b ∉ (s.can c).cancels) :
    s.canFailed c sof = (s.setCan c { s.can c with tt := (s.can c).tt.filter fun x => x.2 != b }).put (Obj.CanBufState c b) 1 := by
  rw [State.canFailed, h]
  refine if_neg fun k => k.elim (fun f => ?_) fun f => uncancelled (List.contains_iff_mem.1 f)
  rw [flag_of_zero repeats] at f
  cases f

/-- A sent frame by its secondary sample point. -/
theorem exec_canFrameTransmitted_of_sending {tec rec_ delay : Nat} (h : s.canSending c sof = some b) :
    exec (.canFrameTransmitted c ⟨sof, delay⟩ tec rec_) s = .next
      (if s.canTdcFails c b delay then (s.canFailed c sof).canCounters c tec rec_
      else (((s.canSent c b sof).put (Obj.CanBufTime c b) sof).canEnd c b (Obj.CanTransmitted c) 0x0601).canCounters c tec rec_) := by
  change execCanFrameTransmitted c ⟨sof, delay⟩ tec rec_ s = _
  unfold execCanFrameTransmitted
  rw [h]

theorem State.canTdcFails_of_late {delay : Nat} (enabled : s.get (Obj.CanTdcEnable c) = 1)
    (fd : bitAt (s.natInUse (Obj.CanBufFlags c b)) 1 = true) (switched : bitAt (s.natInUse (Obj.CanBufFlags c b)) 2 = true)
    (late : 127 < delay + s.nat (Obj.CanTdcOffset c)) : s.canTdcFails c b delay = true := by
  rw [State.canTdcFails, flag_of_one enabled, fd, switched, decide_eq_true late]
  rfl

/-- A frame that completes stamps its buffer, ends its request and counts. -/
theorem exec_canFrameTransmitted_of_sent {tec rec_ delay : Nat} (h : s.canSending c sof = some b)
    (uncancelled : b ∉ (s.can c).cancels) (inTime : s.canTdcFails c b delay = false) (ht : tec < 96) (hr : rec_ < 96)
    (pending : s.canPending c b = true) :
    ∃ t, exec (.canFrameTransmitted c ⟨sof, delay⟩ tec rec_) s = .next t ∧ t.get (Obj.CanBufTime c b) = sof ∧
      t.get (Obj.CanBufState c b) = 0 ∧ t.get (Obj.CanTransmitted c) = wrapU 64 (s.get (Obj.CanTransmitted c) + 1) ∧
      t.canPending c b = false ∧ t.get (Obj.CanTec c) = tec ∧ t.get (Obj.CanRec c) = rec_ := by
  obtain ⟨u, hu⟩ : ∃ u, u = (s.canSent c b sof).put (Obj.CanBufTime c b) sof := ⟨_, rfl⟩
  have can : u.can c = s.can c := by rw [hu]; rfl
  have kept : ∀ j, j ≠ Obj.CanBufTime c b → u.get j = s.get j := fun j hj => by
    rw [hu, State.get_put_other _ _ hj]
    rfl
  have stamped : u.get (Obj.CanBufTime c b) = sof := by rw [hu, State.get_put_same]
  have ended : u.canEnd c b (Obj.CanTransmitted c) 0x0601 = u.canEnded c b (Obj.CanTransmitted c) :=
    State.canEnd_of_pending _ (by rw [State.canPending, can]; exact pending) (by rw [can]; exact uncancelled)
  have mode : ((u.canEnded c b (Obj.CanTransmitted c)).can c).mode = 1 := by
    rw [State.canEnded_can, can]
    exact State.mode_of_canSending h
  have counted : ∀ j, j ≠ Obj.CanTec c → j ≠ Obj.CanRec c →
      (((u.canEnded c b (Obj.CanTransmitted c)).put (Obj.CanTec c) tec).put (Obj.CanRec c) rec_).get j =
        (u.canEnded c b (Obj.CanTransmitted c)).get j := fun j tecNe recNe =>
    (State.get_put_other _ _ recNe).trans (State.get_put_other _ _ tecNe)
  refine ⟨((u.canEnded c b (Obj.CanTransmitted c)).put (Obj.CanTec c) tec).put (Obj.CanRec c) rec_, ?_, ?_, ?_, ?_, ?_, ?_,
    State.get_put_same ..⟩
  · rw [exec_canFrameTransmitted_of_sending h, if_neg (by rw [inTime]; decide), ← hu, ended, State.canCounters_of_active mode ht hr]
  · rw [counted _ (by unfold Obj.CanBufTime Obj.CanTec; omega) (by unfold Obj.CanBufTime Obj.CanRec; omega),
      State.canEnded_get_other _ _ _ (by unfold Obj.CanBufTime Obj.CanBufState; omega)
        (by unfold Obj.CanBufTime Obj.CanTransmitted; omega), stamped]
  · rw [counted _ (by unfold Obj.CanBufState Obj.CanTec; omega) (by unfold Obj.CanBufState Obj.CanRec; omega), State.canEnded_state]
  · rw [counted _ (by unfold Obj.CanTransmitted Obj.CanTec; omega) (by unfold Obj.CanTransmitted Obj.CanRec; omega),
      State.canEnded_counter _ _ _ (by unfold Obj.CanTransmitted Obj.CanBufState; omega),
      kept _ (by unfold Obj.CanTransmitted Obj.CanBufTime; omega)]
  · exact u.canEnded_pending c b (Obj.CanTransmitted c)
  · exact (State.get_put_other _ _ (by unfold Obj.CanTec Obj.CanRec; omega)).trans (State.get_put_same ..)

end

/-! ### Received frames (R389, R391, R392) -/

section
variable {c sof tec rec_ id flags : Nat} {data : List Byte} {s : State}

theorem exec_canFrameReceived_of_active (mode : (s.can c).mode = 1) :
    exec (.canFrameReceived c sof tec rec_ id flags data) s = .next ((s.canFilter c sof id flags data).canCounters c tec rec_) := by
  have listens : ¬(s.can c).mode = 0 := by rw [mode]; decide
  have detects : ¬((s.can c).mode = 4 ∧ s.canEntries c ≠ []) := by rw [mode]; exact fun h => absurd h.1 (by decide)
  change execCanFrameReceived c sof tec rec_ id flags data s = _
  rw [execCanFrameReceived, if_neg listens, if_neg detects]

/-- A count of received frames leaves what the filters hold. -/
theorem State.count_canMatches (ide : Bool) (f : Nat) :
    (s.count (Obj.CanReceived c) 64 1).canMatches c id ide f = s.canMatches c id ide f := by
  have kept : ∀ j, Obj.CanFltEnable c f ≤ j → (s.count (Obj.CanReceived c) 64 1).get j = s.get j := fun j hj =>
    State.count_get_other _ 64 1 (by unfold Obj.CanFltEnable at hj; unfold Obj.CanReceived; omega)
  simp only [State.canMatches, State.flag, State.nat, kept (Obj.CanFltEnable c f) (Nat.le_refl _),
    kept (Obj.CanFltIde c f) (by unfold Obj.CanFltIde Obj.CanFltEnable; omega),
    kept (Obj.CanFltId c f) (by unfold Obj.CanFltId Obj.CanFltEnable; omega),
    kept (Obj.CanFltMask c f) (by unfold Obj.CanFltMask Obj.CanFltEnable; omega)]

/-- A frame that no filter takes is counted twice. -/
theorem State.canFilter_of_unmatched (none_ : ∀ f, f < 32 → s.canMatches c id (bitAt flags 0) f = false) :
    s.canFilter c sof id flags data = (s.count (Obj.CanReceived c) 64 1).count (Obj.CanFiltered c) 64 1 := by
  have missed : ((List.range 32).find? fun f => (s.count (Obj.CanReceived c) 64 1).canMatches c id (bitAt flags 0) f) = none := by
    refine List.find?_eq_none.2 fun f hf => ?_
    rw [State.count_canMatches, none_ f (List.mem_range.1 hf)]
    decide
  rw [State.canFilter]
  dsimp only
  rw [missed]

/-- The state in which a frame fills a buffer. -/
def State.canFilled (s : State) (c b sof id flags : Nat) (data : List Byte) : State :=
  (((((((s.put (Obj.CanBufId c b) id).put (Obj.CanBufFlags c b) (flags % 32 : Nat)).put (Obj.CanBufLength c b) (data.length : Nat)).store
    (Obj.CanBufData c b) 0 (if bitAt flags 3 then [] else data)).put (Obj.CanBufTime c b) sof).put (Obj.CanBufState c b) 3).count
      (Obj.CanAccepted c) 64 1)

/-- The first filter that matches gives the frame to its buffer. -/
theorem State.canFilter_of_matched {f b : Nat} (hf : f < 32) (match_ : s.canMatches c id (bitAt flags 0) f = true)
    (first : ∀ g, g < f → s.canMatches c id (bitAt flags 0) g = false) (hb : b < 64) (buffer : s.get (Obj.CanFltBuffer c f) = b)
    (role : s.get (Obj.CanBufRole c b) = 2) :
    s.canFilter c sof id flags data =
      if s.get (Obj.CanBufState c b) ≠ 3 then (s.count (Obj.CanReceived c) 64 1).canFilled c b sof id flags data
      else ((s.count (Obj.CanReceived c) 64 1).count (Obj.CanOverrun c) 64 1).setBit (Obj.CanStatus c) 4 := by
  have found : ((List.range 32).find? fun f => (s.count (Obj.CanReceived c) 64 1).canMatches c id (bitAt flags 0) f) = some f := by
    rw [List.find?_range_eq_some]
    refine ⟨(State.count_canMatches ..).trans match_, List.mem_range.2 hf, fun g hg => ?_⟩
    rw [State.count_canMatches, first g hg]
    rfl
  have kept : ∀ j, Obj.CanBufRole c 0 ≤ j → (s.count (Obj.CanReceived c) 64 1).get j = s.get j := fun j hj =>
    State.count_get_other _ 64 1 (by unfold Obj.CanBufRole at hj; unfold Obj.CanReceived; omega)
  have named : (s.count (Obj.CanReceived c) 64 1).nat (Obj.CanFltBuffer c f) = b := by
    rw [State.nat, kept _ (by unfold Obj.CanFltBuffer Obj.CanBufRole; omega), buffer]
    rfl
  rw [State.canFilter]
  dsimp only
  rw [found]
  dsimp only
  rw [named, kept _ (by unfold Obj.CanBufRole; omega), kept _ (by unfold Obj.CanBufState Obj.CanBufRole; omega), role]
  simp only [true_and]
  rfl

/-- What a filled buffer holds. -/
theorem State.canFilled_holds (s : State) {c b : Nat} (hb : b < 64) (sof id flags : Nat) (data : List Byte) :
    (s.canFilled c b sof id flags data).get (Obj.CanBufState c b) = 3 ∧
      (s.canFilled c b sof id flags data).get (Obj.CanBufId c b) = id ∧
      (s.canFilled c b sof id flags data).get (Obj.CanBufLength c b) = data.length ∧
      (s.canFilled c b sof id flags data).get (Obj.CanBufTime c b) = sof ∧
      (s.canFilled c b sof id flags data).get (Obj.CanAccepted c) = wrapU 64 (s.get (Obj.CanAccepted c) + 1) ∧
      (s.canFilled c b sof id flags data).get (Obj.CanOverrun c) = s.get (Obj.CanOverrun c) := by
  have accepted : (s.canFilled c b sof id flags data).get (Obj.CanAccepted c) = wrapU 64 (s.get (Obj.CanAccepted c) + 1) := by
    refine (State.get_put_same ..).trans ?_
    simp (disch := simp only [Obj.CanAccepted, Obj.CanBufState, Obj.CanBufTime, Obj.CanBufLength, Obj.CanBufFlags, Obj.CanBufId]; omega)
      only [State.get_put_other, State.store_get]
  refine ⟨?_, ?_, ?_, ?_, accepted, ?_⟩ <;>
    simp (disch := simp only [Obj.CanAccepted, Obj.CanOverrun, Obj.CanBufState, Obj.CanBufTime, Obj.CanBufLength, Obj.CanBufFlags,
      Obj.CanBufId]; omega) only [State.canFilled, State.count_get_other, State.get_put_same, State.get_put_other, State.store_get]

/-- Counters below their limits leave what a received frame wrote. -/
theorem exec_canFrameReceived_of_filtered {u : State} (mode : (s.can c).mode = 1) (ht : tec < 96) (hr : rec_ < 96)
    (hu : u = s.canFilter c sof id flags data) (same : (u.can c).mode = (s.can c).mode) :
    ∃ t, exec (.canFrameReceived c sof tec rec_ id flags data) s = .next t ∧ t.mem = u.mem ∧
      ∀ j, j ≠ Obj.CanTec c → j ≠ Obj.CanRec c → t.get j = u.get j := by
  refine ⟨(u.put (Obj.CanTec c) tec).put (Obj.CanRec c) rec_, ?_, rfl, fun j tecNe recNe => ?_⟩
  · rw [exec_canFrameReceived_of_active mode, ← hu, State.canCounters_of_active (same.trans mode) ht hr]
  · exact (State.get_put_other _ _ recNe).trans (State.get_put_other _ _ tecNe)

end

/-- Settles O50: requests, cancels and frames by the buffer they meet. -/
theorem canRequestsAndFrames : Obligations.CanRequestsAndFrames := by
  refine ⟨fun c b s hc hb role free unfed => ?_, fun c b s hc hb role pending => ?_, fun c b sof s hc hb free => ?_,
    fun c b sof s hc hb pending waits uncancelled => ?_, fun c b sof s hc hb pending sending uncancelled => ?_,
    fun c b s hc hb full => ?_, fun c b s hc hb notFull => ?_,
    fun c b sof tec rec_ delay s hc hb h uncancelled inTime ht hr pending =>
      exec_canFrameTransmitted_of_sent h uncancelled inTime ht hr pending,
    fun c b sof tec rec_ delay s h enabled fd switched late => ?_, fun c sof tec rec_ delay s h => ?_,
    fun c b sof s hc hb h pending oneShot uncancelled => ?_, fun c b sof s h repeats uncancelled => ?_,
    fun c sof s h => congrArg Host.Outcome.next (State.canFailed_of_none h),
    fun c sof tec rec_ id flags data s hc mode ht hr none_ => ?_,
    fun c sof tec rec_ id flags f b data s hc hb mode ht hr hf match_ first buffer role room => ?_,
    fun c sof tec rec_ id flags f b data s hc hb mode ht hr hf match_ first buffer role full => ?_⟩
  · rw [exec_canBufRequest_of_transmit hc hb role, if_neg (by rw [free]; decide), State.canRequest_of_unfed unfed]
  · rw [exec_canBufRequest_of_transmit hc hb role, if_pos pending]
  · change execCanBufCancel c b sof s = _
    rw [execCanBufCancel, if_neg (by rw [canHas_of_lt hc hb]; decide), if_pos (by rw [free]; decide)]
  · rw [exec_canBufCancel_of_pending hc hb pending, if_neg waits, State.canEnd_of_pending _ pending uncancelled]
    rfl
  · rw [exec_canBufCancel_of_pending hc hb pending, if_pos sending, if_neg fun h => uncancelled (List.contains_iff_mem.1 h)]
  · change execCanBufRelease c b s = _
    rw [execCanBufRelease, if_neg (by rw [canHas_of_lt hc hb]; decide), if_pos full]
  · change execCanBufRelease c b s = _
    rw [execCanBufRelease, if_neg (by rw [canHas_of_lt hc hb]; decide), if_neg notFull]
  · rw [exec_canFrameTransmitted_of_sending h, if_pos (State.canTdcFails_of_late enabled fd switched late)]
  · change execCanFrameTransmitted c ⟨sof, delay⟩ tec rec_ s = _
    unfold execCanFrameTransmitted
    rw [h]
  · refine congrArg Host.Outcome.next ?_
    rw [State.canFailed_of_oneShot h oneShot, State.canEnd_of_pending _ pending uncancelled]
    rfl
  · exact congrArg Host.Outcome.next (State.canFailed_of_repeating h repeats uncancelled)
  · obtain ⟨t, received, mem, kept⟩ := exec_canFrameReceived_of_filtered (data := data) mode ht hr
      (State.canFilter_of_unmatched (sof := sof) none_).symm rfl
    refine ⟨t, received, ?_, ?_, ?_, mem⟩ <;> rw [kept _ (by simp only [Obj.CanReceived, Obj.CanFiltered, Obj.CanAccepted, Obj.CanTec]; omega)
      (by simp only [Obj.CanReceived, Obj.CanFiltered, Obj.CanAccepted, Obj.CanRec]; omega)]
    · rw [State.count_get_other _ 64 1 (by unfold Obj.CanReceived Obj.CanFiltered; omega), State.count, State.get_put_same]
    · rw [State.count, State.get_put_same, State.count_get_other _ 64 1 (by unfold Obj.CanReceived Obj.CanFiltered; omega)]
    · rw [State.count_get_other _ 64 1 (by unfold Obj.CanAccepted Obj.CanFiltered; omega),
        State.count_get_other _ 64 1 (by unfold Obj.CanAccepted Obj.CanReceived; omega)]
  · have filled := State.canFilter_of_matched (sof := sof) (data := data) hf match_ first hb buffer role
    rw [if_pos room] at filled
    obtain ⟨t, received, -, kept⟩ := exec_canFrameReceived_of_filtered mode ht hr filled.symm rfl
    obtain ⟨state, id_, length_, time, accepted, overrun⟩ :=
      (s.count (Obj.CanReceived c) 64 1).canFilled_holds hb sof id flags data
    rw [← kept _ (by simp only [Obj.CanBufState, Obj.CanTec]; omega) (by simp only [Obj.CanBufState, Obj.CanRec]; omega)] at state
    rw [← kept _ (by simp only [Obj.CanBufId, Obj.CanTec]; omega) (by simp only [Obj.CanBufId, Obj.CanRec]; omega)] at id_
    rw [← kept _ (by simp only [Obj.CanBufLength, Obj.CanTec]; omega) (by simp only [Obj.CanBufLength, Obj.CanRec]; omega)] at length_
    rw [← kept _ (by simp only [Obj.CanBufTime, Obj.CanTec]; omega) (by simp only [Obj.CanBufTime, Obj.CanRec]; omega)] at time
    rw [← kept _ (by simp only [Obj.CanAccepted, Obj.CanTec]; omega) (by simp only [Obj.CanAccepted, Obj.CanRec]; omega),
      State.count_get_other _ 64 1 (by unfold Obj.CanAccepted Obj.CanReceived; omega)] at accepted
    rw [← kept _ (by simp only [Obj.CanOverrun, Obj.CanTec]; omega) (by simp only [Obj.CanOverrun, Obj.CanRec]; omega),
      State.count_get_other _ 64 1 (by unfold Obj.CanOverrun Obj.CanReceived; omega)] at overrun
    exact ⟨t, received, state, id_, length_, time, accepted, overrun⟩
  · have overran := State.canFilter_of_matched (sof := sof) (data := data) hf match_ first hb buffer role
    rw [if_neg (not_not_intro full)] at overran
    obtain ⟨t, received, mem, kept⟩ := exec_canFrameReceived_of_filtered mode ht hr overran.symm rfl
    refine ⟨t, received, ?_, ?_, ?_, mem⟩
    · rw [kept _ (by simp only [Obj.CanBufState, Obj.CanTec]; omega) (by simp only [Obj.CanBufState, Obj.CanRec]; omega),
        State.setBit_get_other _ 4 (by unfold Obj.CanBufState Obj.CanStatus; omega),
        State.count_get_other _ 64 1 (by unfold Obj.CanBufState Obj.CanOverrun; omega),
        State.count_get_other _ 64 1 (by unfold Obj.CanBufState Obj.CanReceived; omega), full]
    · rw [kept _ (by simp only [Obj.CanOverrun, Obj.CanTec]; omega) (by simp only [Obj.CanOverrun, Obj.CanRec]; omega),
        State.setBit_get_other _ 4 (by unfold Obj.CanOverrun Obj.CanStatus; omega), State.count, State.get_put_same,
        State.count_get_other _ 64 1 (by unfold Obj.CanOverrun Obj.CanReceived; omega)]
    · rw [State.bit, State.nat, kept _ (by simp only [Obj.CanStatus, Obj.CanTec]; omega) (by simp only [Obj.CanStatus, Obj.CanRec]; omega)]
      exact State.setBit_bit_same ..

end Sys2Proof.Machine
end

section
/-! SUPPORT. The time schedule of a CAN controller (spec/15_can_fd.md): a buffer that is fed from slots and whose length is beyond
what a write admits takes so many bytes that they reach the schedule's table, and the slot's window is then read as 0. -/

namespace Sys2Proof.Machine

/-! ### The data of a buffer fed from slots (R387) -/

/-- A byte of concatenated strings of one length. -/
theorem flatten_getElem?_of_length {n : Nat} {l : List (List Byte)} (same : ∀ x ∈ l, x.length = n) (q : Nat) {r : Nat} (hr : r < n) :
    l.flatten[n * q + r]? = l[q]?.bind fun x => x[r]? := by
  induction l generalizing q with
  | nil => simp
  | cons x l ih =>
    have first : x.length = n := same x (by simp)
    cases q with
    | zero => simp [List.getElem?_append_left (show r < x.length by omega)]
    | succ q =>
      have later : n * (q + 1) + r - x.length = n * q + r := by rw [Nat.mul_add]; omega
      rw [List.flatten_cons, List.getElem?_append_right (by rw [Nat.mul_add]; omega), later,
        ih (fun y hy => same y (List.mem_cons_of_mem _ hy)) q]
      simp

theorem natLE_length (n v : Nat) : (natLE n v).length = n := by
  induction n generalizing v with
  | zero => rfl
  | succ n ih => rw [natLE, List.length_cons, ih]

/-- A slot that holds 0 gives the buffer eight bytes of 0. -/
theorem State.canSlotData_read {s : State} {c b q r : Nat} (fed : s.nat (Obj.CanBufTxSlot c b) ≠ 0xFFFF)
    (long : 8 * q + 8 ≤ s.natInUse (Obj.CanBufLength c b)) (hr : r < 8)
    (zero : s.nat (Obj.SlotValue (s.nat (Obj.CanBufTxSlot c b) + q)) = 0) :
    Memory.read (s.canSlotData c b).mem (domAddr (Obj.CanBufData c b) 0 + (8 * q + r)) = 0 := by
  have inside : q < ceilDiv (s.natInUse (Obj.CanBufLength c b)) 8 := by
    rw [ceilDiv, if_neg (by decide)]
    omega
  rw [State.canSlotData]
  refine (congrArg (fun t : State => Memory.read t.mem _) (if_neg fed)).trans ?_
  refine Memory.read_writeN_of_getElem? _ _ ?_
  rw [List.getElem?_take_of_lt (by omega), flatten_getElem?_of_length (n := 8) ?_ q hr, List.getElem?_map,
    List.getElem?_range inside, Option.map_some, Option.bind_some, zero]
  · have zeros : natLE 8 0 = List.replicate 8 0 := by decide
    rw [zeros, List.getElem?_replicate, if_pos hr]
  · intro x hx
    obtain ⟨i, -, rfl⟩ := List.mem_map.1 hx
    exact natLE_length ..

/-! ### A slot whose window is lost (R394, R395) -/

/-- A due slot whose request leaves its own window 0 starts no window. -/
theorem exec_ttSlotFire_of_lost_window {s : State} {c j : Nat} (due : s.ttDue c j = true)
    (free : s.canPending c (s.ttField c j 3) = false)
    (lost : ((s.setCan c { s.can c with fired := Sparse.insert j (s.ttCycle c) (s.can c).fired }).canRequest c (s.ttField c j 3)).ttField
      c j 1 = 0) :
    exec (.ttSlotFire c j) s = .next
      ((s.setCan c { s.can c with fired := Sparse.insert j (s.ttCycle c) (s.can c).fired }).canRequest c (s.ttField c j 3)) := by
  have unskipped : ¬(s.setCan c { s.can c with fired := Sparse.insert j (s.ttCycle c) (s.can c).fired }).canPending c
      (s.ttField c j 3) = true := by
    rw [State.canPending, State.setCan_can_same]
    exact Bool.not_eq_true _ ▸ free
  have requested : (s.setCan c { s.can c with fired := Sparse.insert j (s.ttCycle c) (s.can c).fired }).canTrigger c (s.ttField c j 3) =
      (s.setCan c { s.can c with fired := Sparse.insert j (s.ttCycle c) (s.can c).fired }).canRequest c (s.ttField c j 3) :=
    if_neg unskipped
  change execTtSlotFire c j s = _
  rw [execTtSlotFire, if_pos due]
  dsimp only
  rw [requested]
  exact congrArg Host.Outcome.next (if_pos (by rw [lost]; simp))

/-- A request leaves the windows of the schedule. -/
theorem State.canRequest_tt (s : State) (c b : Nat) : ((s.canRequest c b).can c).tt = (s.can c).tt := by
  have fed : ∀ t : State, (t.canSlotData c b).cans = t.cans := fun t => by
    unfold State.canSlotData
    dsimp only
    split
    · rfl
    · rfl
  have can : (s.canRequest c b).can c = { s.can c with reqs := (s.can c).reqs ++ [(b, s.now)] } := by
    rw [State.can, State.canRequest]
    change Sparse.get _ (State.canSlotData _ c b).cans c = _
    rw [fed]
    exact State.setCan_can_same ..
  rw [can]

theorem State.canRequest_mem (s : State) (c b : Nat) : (s.canRequest c b).mem =
    ((s.setCan c { s.can c with reqs := (s.can c).reqs ++ [(b, s.now)] }).canSlotData c b).mem := rfl

/-- The window of the first slot is read from four bytes of the table. -/
theorem State.ttField_window_of_zeros {s : State} {c : Nat}
    (h : ∀ i, i < 4 → Memory.read s.mem (domAddr (Obj.TtSlotTable c) 4 + i) = 0) : s.ttField c 0 1 = 0 := by
  have bytes : s.ttField c 0 1 = leNat [Memory.read s.mem (domAddr (Obj.TtSlotTable c) 4 + 0),
      Memory.read s.mem (domAddr (Obj.TtSlotTable c) 4 + 1), Memory.read s.mem (domAddr (Obj.TtSlotTable c) 4 + 2),
      Memory.read s.mem (domAddr (Obj.TtSlotTable c) 4 + 3)] := rfl
  rw [bytes, h 0 (by decide), h 1 (by decide), h 2 (by decide), h 3 (by decide)]
  decide

/-! ### The counterexample -/

/-- The place of the slot value that reaches the window of slot 0 of controller 0 from the data of its buffer 0. -/
def windowSlot : Nat := (Obj.TtSlotTable 0 - Obj.CanBufData 0 0) * 536870912

/-- Controller 0 with slot 0 of its schedule due in every cycle, with a window of 1 ns for its buffer 0; the buffer is fed from slot 0 on,
and its length reaches as far as the table. -/
def longBuffer : State :=
  (((({} : State).put (Obj.TtCycleLength 0) 1000000).put (Obj.CanBufTxSlot 0 0) 0).put (Obj.CanBufLength 0 0)
    (8 * windowSlot + 8 : Nat)).store (Obj.TtSlotTable 0) 0 [0, 0, 0, 0, 1, 0, 0, 0, 1, 0, 0, 0, 0, 0, 0, 0, 0]

/-- The slot as it has fired. -/
def longBufferFired : State :=
  longBuffer.setCan 0 { longBuffer.can 0 with fired := Sparse.insert 0 (longBuffer.ttCycle 0) (longBuffer.can 0).fired }

theorem longBuffer_due : longBuffer.ttDue 0 0 = true := by decide

theorem longBuffer_free : longBuffer.canPending 0 0 = false := by decide
theorem longBuffer_buffer : longBuffer.ttField 0 0 3 = 0 := by decide
theorem longBuffer_window : longBuffer.ttField 0 0 1 = 1 := by decide
theorem longBuffer_fed : longBufferFired.nat (Obj.CanBufTxSlot 0 0) = 0 := by decide
theorem longBuffer_length : longBufferFired.natInUse (Obj.CanBufLength 0 0) = 8 * windowSlot + 8 := by decide
theorem longBuffer_slot : longBufferFired.nat (Obj.SlotValue (0 + windowSlot)) = 0 := by decide

/-- The data of the buffer overwrite the window of the slot. -/
theorem longBuffer_lost : (longBufferFired.canRequest 0 0).ttField 0 0 1 = 0 := by
  obtain ⟨u, hu⟩ : ∃ u, u = longBufferFired.setCan 0
      { longBufferFired.can 0 with reqs := (longBufferFired.can 0).reqs ++ [(0, longBufferFired.now)] } := ⟨_, rfl⟩
  have slot : u.nat (Obj.CanBufTxSlot 0 0) = 0 := by rw [hu]; exact longBuffer_fed
  have length_ : u.natInUse (Obj.CanBufLength 0 0) = 8 * windowSlot + 8 := by rw [hu]; exact longBuffer_length
  have value : u.nat (Obj.SlotValue (u.nat (Obj.CanBufTxSlot 0 0) + windowSlot)) = 0 := by rw [slot, hu]; exact longBuffer_slot
  have mem : (longBufferFired.canRequest 0 0).mem = (u.canSlotData 0 0).mem := by rw [hu, State.canRequest_mem]
  refine State.ttField_window_of_zeros fun i hi => ?_
  have place : domAddr (Obj.TtSlotTable 0) 4 + i = domAddr (Obj.CanBufData 0 0) 0 + (8 * windowSlot + (4 + i)) := by
    unfold domAddr windowSlot Obj.TtSlotTable Obj.CanBufData
    omega
  rw [mem, place]
  exact State.canSlotData_read (by rw [slot]; decide) (by rw [length_]) (by omega) value

/-- Refutes O51: no bound is set on the length of a buffer that is fed from slots, and a request of `longBuffer` writes over the window of
its slot, so that the firing leaves no window behind. -/
theorem not_canStatesAndTheSchedule : ¬ Obligations.CanStatesAndTheSchedule := by
  rintro ⟨-, -, -, -, -, -, -, -, -, -, -, -, -, -, -, -, fires, -⟩
  obtain ⟨t, fired, -, windows, -⟩ := fires 0 0 0 longBuffer (by decide) longBuffer_due longBuffer_buffer (by decide) longBuffer_free
    (by rw [longBuffer_window]; decide)
  have lost := exec_ttSlotFire_of_lost_window longBuffer_due (by rw [longBuffer_buffer]; exact longBuffer_free)
    (by rw [longBuffer_buffer]; exact longBuffer_lost)
  rw [longBuffer_buffer] at lost
  obtain rfl := Host.Outcome.next.inj (fired.symm.trans lost)
  rw [State.canRequest_tt, State.setCan_can_same] at windows
  have grows : (longBuffer.can 0).tt ≠ (longBuffer.can 0).tt ++ [(0, 0)] := by simp
  exact grows windows

end Sys2Proof.Machine
end

section
/-! SUPPORT. The 24 V inputs and outputs, their supply and the die link (spec/16_field_io.md). -/

namespace Sys2Proof.Machine

/-! ### Inputs (R399 to R404) -/

@[simp] theorem State.setFin_fin_same (s : State) (i : Nat) (r : FinRt) : (s.setFin i r).fin i = r := Sparse.get_put_same ..

/-- A run of high samples that fills the filter turns it on. -/
theorem filterRun_of_full {n k : Nat} (c : Nat) (some_ : 0 < k) (full : n ≤ k) : (filterRun n true k c false).2 = true := by
  rw [filterRun, if_neg (by omega)]
  split
  · rfl
  · exact decide_eq_true (by omega)

/-- An input that stays above its threshold for its filter count turns on and counts. -/
theorem exec_fieldInputChange_of_rise {i mv k : Nat} {s : State} (valid : s.finValid i = true) (some_ : 0 < k)
    (full : s.nat (Obj.FinFilterCount i) ≤ k) (plain : s.get (Obj.FinInvert i) = 0) (above : (s.finThresholds i).1 < mv)
    (off : (s.fin i).f = false) :
    ∃ t, exec (.fieldInputChange i [(mv, k)]) s = .next t ∧ (t.fin i).f = true ∧ (t.fin i).voltage = mv ∧
      t.get (Obj.FinTransitions i) = wrapU 32 (s.get (Obj.FinTransitions i) + 1) := by
  have level : s.finCompare i (s.fin i).level mv = true := if_pos above
  have sample : (true != s.flag (Obj.FinInvert i)) = true := by rw [State.flag_of_zero plain]; rfl
  have on : (filterRun (s.nat (Obj.FinFilterCount i)) true k (s.fin i).c (s.fin i).f).2 = true := by
    rw [off]
    exact filterRun_of_full _ some_ full
  obtain ⟨x, hx⟩ : ∃ x, x = filterRun (s.nat (Obj.FinFilterCount i)) true k (s.fin i).c (s.fin i).f := ⟨_, rfl⟩
  have run : s.finRun i mv k = (s.setFin i { s.fin i with level := true, voltage := mv, c := x.1, f := x.2 }).count
      (Obj.FinTransitions i) 32 1 := by
    rw [← hx] at on
    unfold State.finRun
    dsimp only
    rw [level, sample, ← hx, if_pos valid, if_pos (by rw [on, off]; rfl)]
  have input : (s.finRun i mv k).fin i = { s.fin i with level := true, voltage := mv, c := x.1, f := x.2 } := by
    rw [run]
    exact State.setFin_fin_same ..
  refine ⟨s.finRun i mv k, rfl, ?_, ?_, ?_⟩
  · rw [input, hx]
    exact on
  · rw [input]
  · rw [run]
    exact State.get_put_same ..

section
variable {i time mv : Nat} {s : State}

theorem exec_wireBreak_of_low (enabled : s.get (Obj.FinWireBreakEnable i) = 1)
    (low : (s.fin i).voltage < s.nat (Obj.FinWireBreakLevel i) * 100)
    (long : s.natInUse (Obj.FinWireBreakTime i) = 0 ∨ s.natInUse (Obj.FinWireBreakTime i) * 1000 < time) :
    exec (.wireBreak ⟨i, time⟩) s = .next (((s.setFin i { s.fin i with broken := true }).setBit (Obj.FinStatus i) 0).raiseOnce
      fkWireBreak i) := by
  refine congrArg Host.Outcome.next (if_pos ?_)
  rw [State.flag_of_one enabled]
  simpa [low] using long

theorem exec_wireBreak_of_sound (sound : s.get (Obj.FinWireBreakEnable i) = 0 ∨
    s.nat (Obj.FinWireBreakLevel i) * 100 ≤ (s.fin i).voltage ∨
    (s.natInUse (Obj.FinWireBreakTime i) ≠ 0 ∧ time ≤ s.natInUse (Obj.FinWireBreakTime i) * 1000)) :
    exec (.wireBreak ⟨i, time⟩) s = .next s := by
  refine congrArg Host.Outcome.next (if_neg ?_)
  rcases sound with h | h | ⟨timed, short⟩
  · rw [State.flag_of_zero h, Bool.and_false, Bool.false_and]
    decide
  · rw [decide_eq_false (Nat.not_lt.2 h), Bool.and_false]
    decide
  · simp [timed, short]

theorem exec_fieldInputValidAgain_of_high (broken : (s.fin i).broken = true) (high : s.nat (Obj.FinWireBreakLevel i) * 100 < mv) :
    exec (.fieldInputValidAgain i mv) s = .next (((s.setFin i { s.fin i with broken := false }).setActive fkWireBreak i
      false).finFirst i mv) :=
  congrArg Host.Outcome.next (if_pos (by rw [broken, decide_eq_true high]; rfl))

end

/-! ### Outputs (R407, R408, R410) -/

section
variable {o current : Nat} {l : List Nat} {s : State}

theorem exec_openWire (opened : Bool) (h : opened = (s.foutOn o && s.natInUse (Obj.FoutOpenCurrent o) != 0 &&
    decide (current < s.natInUse (Obj.FoutOpenCurrent o)))) :
    exec (.openWire o current) s = .next ((s.setFout o { s.fout o with opened := opened }).setBitIf opened (Obj.FoutStatus o) 3) := by
  subst h
  rfl

/-- The output whose turn it is comes back unless its cause lasts. -/
theorem exec_fieldOutputAutoRestore_of_turn (turn : s.field.restore = o :: l) (due : s.field.at_ ≤ s.now) :
    exec (.fieldOutputAutoRestore o) s = .next
      (if s.foutCause o then { s with field := { s.field with restore := l, at_ := s.field.at_ + 1000000 } }
      else ({ s with field := { s.field with restore := l, at_ := s.field.at_ + 1000000 } } : State).clrBit (Obj.FoutStatus o) 0) := by
  change execFieldOutputAutoRestore o s = _
  unfold execFieldOutputAutoRestore
  rw [turn]
  exact congrArg Host.Outcome.next (if_pos ⟨rfl, due⟩)

theorem exec_fieldOutputAutoRestore_of_waiting (h : s.field.restore.head? ≠ some o ∨ s.now < s.field.at_) :
    exec (.fieldOutputAutoRestore o) s = .next s := by
  change execFieldOutputAutoRestore o s = _
  unfold execFieldOutputAutoRestore
  split
  · rfl
  · next p l e =>
    refine congrArg Host.Outcome.next (if_neg fun k => ?_)
    obtain ⟨same, due⟩ := k
    rw [e, same] at h
    exact h.elim (fun other => other rfl) (Nat.not_lt.2 due)

end

/-! ### The supply and the die link (R409 to R411) -/

theorem State.setActive_field (s : State) (k i : Nat) (v : Bool) : (s.setActive k i v).field = s.field := by
  obtain ⟨regs, same⟩ := s.setActive_frame k i v
  rw [same]

/-- A first valid sample leaves the supply and the link. -/
theorem State.finFirst_field (s : State) (i mv : Nat) :
    (s.finFirst i mv).field.supply = s.field.supply ∧ (s.finFirst i mv).field.link = s.field.link := by
  unfold State.finFirst
  dsimp only
  split
  · exact ⟨rfl, rfl⟩
  · exact ⟨rfl, rfl⟩

/-- The inputs that are valid again take their first samples. -/
def State.finsFirst (s : State) (inputs : List Nat) : State :=
  s.each (List.range 16) fun s i => if s.finValid i then s.finFirst i (inputs.getD i 0) else s

theorem State.finsFirst_field (s : State) (inputs : List Nat) :
    (s.finsFirst inputs).field.supply = s.field.supply ∧ (s.finsFirst inputs).field.link = s.field.link := by
  refine List.foldlRecOn (motive := fun t : State => t.field.supply = s.field.supply ∧ t.field.link = s.field.link) _ _ ⟨rfl, rfl⟩ ?_
  rintro t ⟨supply, link⟩ i -
  split
  · obtain ⟨supply_, link_⟩ := t.finFirst_field i (inputs.getD i 0)
    exact ⟨supply_.trans supply, link_.trans link⟩
  · exact ⟨supply, link⟩

theorem State.inputsValid_get (s : State) : s.inputsValid.get Obj.FieldInputsValid = b2i (s.field.supply && s.field.link) :=
  State.get_put_same ..

/-- With the supply and the link the inputs are valid. -/
theorem State.inputsValid_of_valid {s : State} (inputs : List Nat) (supply : s.field.supply = true) (link : s.field.link = true) :
    (s.finsFirst inputs).inputsValid.field.supply = true ∧ (s.finsFirst inputs).inputsValid.field.link = true ∧
      (s.finsFirst inputs).inputsValid.get Obj.FieldInputsValid = 1 := by
  obtain ⟨supply_, link_⟩ := s.finsFirst_field inputs
  refine ⟨supply_.trans supply, link_.trans link, ?_⟩
  rw [State.inputsValid_get, supply_, link_, supply, link]
  rfl

section
variable {mv : Nat} {inputs : List Nat} {s : State}

theorem exec_fieldSupplyInvalid_of_lost (valid : s.field.supply = true) (out : mv < 18000 ∨ 31000 < mv) :
    ∃ t, exec (.fieldSupplyInvalid mv) s = .next t ∧ t.field.supply = false ∧ t.field.restore = [] ∧
      t.get Obj.FieldInputsValid = 0 := by
  have lost : ((s.put Obj.FieldSupplyVoltage (supplyShown mv)).field.supply && decide (mv < 18000 ∨ 31000 < mv)) = true := by
    rw [decide_eq_true out, Bool.and_true]
    exact valid
  refine ⟨_, congrArg Host.Outcome.next (if_pos lost), rfl, rfl, ?_⟩
  rw [State.inputsValid_get]
  rfl

theorem exec_fieldSupplyValid_of_restored (invalid : s.field.supply = false) (link : s.field.link = true) (low : 19200 ≤ mv)
    (high : mv ≤ 30000) :
    ∃ t, exec (.fieldSupplyValid mv inputs) s = .next t ∧ t.field.supply = true ∧ t.get Obj.FieldInputsValid = 1 := by
  have restored : (!(s.put Obj.FieldSupplyVoltage (supplyShown mv)).field.supply && decide (19200 ≤ mv ∧ mv ≤ 30000)) = true := by
    rw [decide_eq_true ⟨low, high⟩, Bool.and_true]
    change (!s.field.supply) = true
    rw [invalid]
    rfl
  obtain ⟨u, hu, supply, linked⟩ : ∃ u : State, exec (.fieldSupplyValid mv inputs) s = .next (u.finsFirst inputs).inputsValid ∧
      u.field.supply = true ∧ u.field.link = true := ⟨_, congrArg Host.Outcome.next (if_pos restored), rfl, link⟩
  obtain ⟨supply_, -, valid⟩ := State.inputsValid_of_valid inputs supply linked
  exact ⟨_, hu, supply_, valid⟩

theorem exec_dieLinkRestored_of_lost (lost : s.field.link = false) (supply : s.field.supply = true) :
    ∃ t, exec (.dieLinkRestored inputs) s = .next t ∧ t.field.link = true ∧ t.get Obj.FieldInputsValid = 1 := by
  obtain ⟨u, hu⟩ : ∃ u : State, u = { s with field := { s.field with link := true } } := ⟨_, rfl⟩
  obtain ⟨w, hw, field⟩ : ∃ w, w = (if u.faultActive fkDieLink 0 then u.setActive fkDieLink 0 false else u) ∧ w.field = u.field := by
    refine ⟨_, rfl, ?_⟩
    split
    · exact State.setActive_field ..
    · rfl
  have restored : exec (.dieLinkRestored inputs) s = .next (w.finsFirst inputs).inputsValid := by
    rw [hw, hu]
    exact congrArg Host.Outcome.next (if_neg (by rw [lost]; decide))
  obtain ⟨-, link, valid⟩ := State.inputsValid_of_valid (s := w) inputs (by rw [field, hu]; exact supply) (by rw [field, hu])
  exact ⟨_, restored, link, valid⟩

end

/-- Settles O52: each event of the field side by the level, the time and the cause it meets. -/
theorem fieldInputsAndOutputs : Obligations.FieldInputsAndOutputs := by
  refine ⟨fun i mv k s hi valid some_ full plain above off => exec_fieldInputChange_of_rise valid some_ full plain above off,
    fun i time s enabled low long => exec_wireBreak_of_low enabled low long, fun i time s sound => exec_wireBreak_of_sound sound,
    fun i mv s broken high => exec_fieldInputValidAgain_of_high broken high,
    fun o current time s on above long => congrArg Host.Outcome.next (if_pos ⟨on, above, long⟩), fun o current time s h => ?_,
    fun o t s hot => congrArg Host.Outcome.next (if_pos hot),
    fun o t s cool was => congrArg Host.Outcome.next ((if_neg (by omega)).trans (if_pos ⟨cool, was⟩)),
    fun o t s low high => congrArg Host.Outcome.next ((if_neg (by omega)).trans (if_neg fun h => by omega)),
    fun o current s on low => exec_openWire true ?_, fun o current s h => exec_openWire false ?_,
    fun o s invalid due => congrArg Host.Outcome.next (if_neg ?_), fun o s h => congrArg Host.Outcome.next (if_pos h),
    fun o l s turn free due => ?_, fun o l s turn cause due => ?_, fun o s h => exec_fieldOutputAutoRestore_of_waiting h,
    fun mv s valid out => exec_fieldSupplyInvalid_of_lost valid out,
    fun mv s valid low high => congrArg Host.Outcome.next (if_neg ?_), fun mv inputs s invalid out => congrArg Host.Outcome.next (if_neg ?_),
    fun mv inputs s invalid link low high => exec_fieldSupplyValid_of_restored invalid link low high,
    fun s => ⟨_, rfl, rfl, ?_⟩, fun inputs s link => congrArg Host.Outcome.next (if_pos link),
    fun inputs s lost supply => exec_dieLinkRestored_of_lost lost supply⟩
  · refine congrArg Host.Outcome.next (if_neg fun k => ?_)
    obtain ⟨on, above, long⟩ := k
    rcases h with h | h | ⟨timed, short⟩
    · rw [on] at h
      cases h
    · exact Nat.not_lt.2 h above
    · exact long.elim timed (Nat.not_lt.2 short)
  · rw [on, decide_eq_true low, bne_iff_ne.2 (by omega)]
    rfl
  · rcases h with off | high
    · rw [off]
      rfl
    · rw [decide_eq_false (Nat.not_lt.2 high), Bool.and_false]
  · rw [invalid]
    exact fun h => h.elim (by decide) (Nat.not_lt.2 due)
  · rw [exec_fieldOutputAutoRestore_of_turn turn due, if_neg (by rw [free]; decide)]
  · rw [exec_fieldOutputAutoRestore_of_turn turn due, if_pos cause]
  · rw [decide_eq_false (by omega), Bool.and_false]
    decide
  · rw [decide_eq_false (by omega), Bool.and_false]
    decide
  · rw [State.inputsValid_get, Bool.and_false]
    rfl

end Sys2Proof.Machine
end

section
/-! SUPPORT. The safety functions (spec/17_safety.md): the lines they drive, what a cycle checks, and how a session is unlocked. -/

namespace Sys2Proof.Machine

/-! ### Masks of lines -/

/-- The numbers of a list that satisfy a test, as the bits of a mask. -/
def maskOf (l : List Nat) (p : Nat → Bool) : Nat := l.foldl (fun m n => if p n then setBitN m n else m) 0

theorem foldl_setBitN_testBit (l : List Nat) (p : Nat → Bool) (m j : Nat) :
    (l.foldl (fun m n => if p n then setBitN m n else m) m).testBit j = (m.testBit j || (decide (j ∈ l) && p j)) := by
  induction l generalizing m with
  | nil => simp
  | cons n l ih =>
    rw [List.foldl_cons, ih]
    by_cases hp : p n = true
    · by_cases hj : n = j
      · subst hj
        rw [if_pos hp, setBitN_testBit]
        simp [hp]
      · rw [if_pos hp, setBitN_testBit, decide_eq_false hj, Bool.or_false]
        simp [Ne.symm hj]
    · by_cases hj : j = n
      · subst hj
        simp [hp]
      · rw [if_neg hp]
        simp [hj]

theorem maskOf_testBit (l : List Nat) (p : Nat → Bool) (j : Nat) : (maskOf l p).testBit j = (decide (j ∈ l) && p j) := by
  rw [maskOf, foldl_setBitN_testBit, Nat.zero_testBit, Bool.false_or]

theorem maskOf_of_none {l : List Nat} {p : Nat → Bool} (h : ∀ n ∈ l, p n = false) : maskOf l p = 0 := by
  refine Nat.eq_of_testBit_eq fun j => ?_
  rw [maskOf_testBit, Nat.zero_testBit]
  by_cases hj : j ∈ l
  · rw [h j hj, Bool.and_false]
  · rw [decide_eq_false hj, Bool.false_and]

/-! ### The lines (R413, R423, R425) -/

/-- The lines change the two images, the brakes, the outputs and what the stages read back. -/
theorem State.safetyLines_frame (s : State) :
    s.safetyLines.regs = ((s.put Obj.GateEnableImage (maskOf (List.range 16) s.genOn : Nat)).put Obj.SupplyEnableImage
      (maskOf (List.range 4) s.dseOn : Nat)).regs ∧ ∃ brakes, s.safetyLines.safety = { s.safety with brakes := brakes } := by
  have outputs : ∀ (m : Nat) (l : List Nat) (t : State),
      (t.each l fun s o => s.setFout o { s.fout o with cmd := m.testBit o }).regs = t.regs ∧
        (t.each l fun s o => s.setFout o { s.fout o with cmd := m.testBit o }).safety = t.safety := fun m l t => by
    refine List.foldlRecOn (motive := fun u : State => u.regs = t.regs ∧ u.safety = t.safety) _ _ ⟨rfl, rfl⟩ ?_
    rintro u ⟨regs, safety⟩ o -
    exact ⟨regs, safety⟩
  have stages : ∀ (x y : Nat) (l : List Nat) (t : State),
      (t.each l fun s n =>
        if ((s.pwm n).gen || x.testBit n) = (s.pwm n).gen ∧ ((s.pwm n).dse || y.testBit (n / 4)) = (s.pwm n).dse then s
        else s.setPwm n { s.pwm n with gen := (s.pwm n).gen || x.testBit n, dse := (s.pwm n).dse || y.testBit (n / 4) }).regs = t.regs ∧
      (t.each l fun s n =>
        if ((s.pwm n).gen || x.testBit n) = (s.pwm n).gen ∧ ((s.pwm n).dse || y.testBit (n / 4)) = (s.pwm n).dse then s
        else s.setPwm n { s.pwm n with gen := (s.pwm n).gen || x.testBit n, dse := (s.pwm n).dse || y.testBit (n / 4) }).safety =
          t.safety := fun x y l t => by
    refine List.foldlRecOn (motive := fun u : State => u.regs = t.regs ∧ u.safety = t.safety) _ _ ⟨rfl, rfl⟩ ?_
    rintro u ⟨regs, safety⟩ n -
    split
    · exact ⟨regs, safety⟩
    · exact ⟨regs, safety⟩
  unfold State.safetyLines
  extract_lets gen dse brakes imaged old braked switched
  obtain ⟨regs, safety⟩ := stages gen dse (List.range 16) switched
  obtain ⟨regs', safety'⟩ := outputs brakes ((List.range 8).filter fun o => braked.sbcOutputs.testBit o) braked
  exact ⟨regs.trans regs', brakes, safety.trans safety'⟩

theorem State.safetyLines_get_other (s : State) {j : Nat} (gate : j ≠ Obj.GateEnableImage) (supply : j ≠ Obj.SupplyEnableImage) :
    s.safetyLines.get j = s.get j := by
  rw [State.get, s.safetyLines_frame.1]
  exact (State.get_put_other _ _ supply).trans (State.get_put_other _ _ gate)

/-- Lines none of which is on leave both images 0. -/
theorem State.safetyLines_of_off {s : State} (gen : ∀ n, n < 16 → s.genOn n = false) (dse : ∀ g, g < 4 → s.dseOn g = false) :
    s.safetyLines.get Obj.GateEnableImage = 0 ∧ s.safetyLines.get Obj.SupplyEnableImage = 0 := by
  have gates : maskOf (List.range 16) s.genOn = 0 := maskOf_of_none fun n hn => gen n (List.mem_range.1 hn)
  have supplies : maskOf (List.range 4) s.dseOn = 0 := maskOf_of_none fun g hg => dse g (List.mem_range.1 hg)
  rw [State.get, State.get, s.safetyLines_frame.1, gates, supplies]
  exact ⟨(State.get_put_other _ _ (by decide)).trans (State.get_put_same ..), State.get_put_same ..⟩

/-- Withdrawn groups drive no line. -/
theorem State.safetyLines_of_withdrawn {s : State} (h : ∀ g, g < 4 → s.get (Obj.StoGroupState g) = 1) :
    s.safetyLines.get Obj.GateEnableImage = 0 ∧ s.safetyLines.get Obj.SupplyEnableImage = 0 := by
  have off : ∀ g, g < 4 → s.groupOn g = false := fun g hg => by
    rw [State.groupOn, h g hg]
    rfl
  refine State.safetyLines_of_off (fun n hn => ?_) fun g hg => ?_
  · rw [State.genOn, off _ (by omega), Bool.false_and]
  · rw [State.dseOn, off g hg, Bool.false_and]

/-- Where every axis is named, or no frame comes, no line is on (R423). -/
theorem State.safetyLines_of_named {s : State} (h : ∀ n, n < 16 → s.namedOff n = true) :
    s.safetyLines.get Obj.GateEnableImage = 0 ∧ s.safetyLines.get Obj.SupplyEnableImage = 0 := by
  refine State.safetyLines_of_off (fun n hn => ?_) fun g hg => ?_
  · rw [State.genOn, h n hn, Bool.not_true, Bool.and_false]
  · have absent : ((List.range 4).any fun i => !s.namedOff (4 * g + i)) = false := by
      rw [List.any_eq_false]
      intro i hi
      rw [h _ (by have := List.mem_range.1 hi; omega)]
      decide
    rw [State.dseOn, absent, Bool.and_false]

/-! ### Cycles (R412 to R418, R424, R428) -/

theorem State.safetyStateEdge_of_fault {s : State} (h : s.get Obj.SafetyState = 3) : s.safetyStateEdge = s := if_pos (.inr h)

/-- The state outside the self-test and a safety fault follows the configuration and the device. -/
theorem State.safetyStateEdge_of_hold {s : State} (h : s.get Obj.SafetyState = 1) :
    s.safetyStateEdge = s.put Obj.SafetyState (if s.get Obj.SafetyConfigSource = 0 ∨ s.get Obj.DeviceState = devBoot ∨
      s.get Obj.DeviceState = devSafe then 1 else 2) := by
  have running : ¬(s.get Obj.SafetyState = 0 ∨ s.get Obj.SafetyState = 3) := by rw [h]; decide
  rw [State.safetyStateEdge]
  exact if_neg running

theorem State.safetyChecks_of_sound {s : State} (code : Nat) (unsealed : s.safety.sealed = false) :
    s.safetyChecks code false false false = { s with safety := { s.safety with differRun := 0, readRun := 0 } } := by
  unfold State.safetyChecks
  simp only [unsealed, Bool.false_and, Bool.false_or, Bool.or_false, Bool.false_eq_true, if_false]
  rfl

/-- A fold of steps none of which, for the members of its list, changes the state it begins with. -/
theorem State.each_of_fixed_on {f : State → Nat → State} {s : State} {l : List Nat} (h : ∀ n ∈ l, f s n = s) : s.each l f = s := by
  induction l with
  | nil => rfl
  | cons n l ih =>
    change (f s n).each l f = s
    rw [h n (List.mem_cons_self ..), ih fun m hm => h m (List.mem_cons_of_mem _ hm)]

/-- Without a configuration, in a safety fault, a cycle leaves the withdrawn groups as they are. -/
theorem exec_safetyCycle_of_fault {s : State} (inputs code response : Nat) (source : s.get Obj.SafetyConfigSource = 0)
    (fault : s.get Obj.SafetyState = 3) (unsealed : s.safety.sealed = false) (off : ∀ g, g < 4 → s.get (Obj.StoGroupState g) = 1) :
    ∃ t, exec (.safetyCycle inputs code response false false false) s = .next t ∧ t.get Obj.SafetyState = 3 ∧
      t.get Obj.GateEnableImage = 0 ∧ t.get Obj.SupplyEnableImage = 0 ∧ (∀ g, g < 4 → t.get (Obj.StoGroupState g) = 1) := by
  obtain ⟨w, hw⟩ : ∃ w : State, w = { s with safety := { s.safety with differRun := 0, readRun := 0 } } := ⟨_, rfl⟩
  have kept : ∀ j, w.get j = s.get j := fun j => by rw [hw]; rfl
  have checked : s.safetyStateEdge.safetyChecks code false false false = w := by
    rw [State.safetyStateEdge_of_fault fault, State.safetyChecks_of_sound code unsealed, hw]
  have unconfigured : w.safetyCfg = none := by
    rw [State.safetyCfg, State.nat, kept, source]
    rfl
  have still : ∀ g ∈ List.range 4, w.groupCycle g = w := fun g hg => by
    rw [State.groupCycle, unconfigured]
    exact if_pos (by rw [kept, off g (List.mem_range.1 hg)])
  have groups : w.safetyGroups = w.safetyLines := by
    rw [State.safetyGroups, State.each_of_fixed_on still]
  obtain ⟨gate, supply⟩ := State.safetyLines_of_withdrawn (s := w) fun g hg => by rw [kept, off g hg]
  refine ⟨w.safetyLines, ?_, ?_, gate, supply, fun g hg => ?_⟩
  · change execSafetyCycle inputs code response false false false s = _
    unfold execSafetyCycle
    dsimp only
    rw [checked, unconfigured, ← groups]
  · rw [State.safetyLines_get_other _ (by decide) (by decide), kept, fault]
  · rw [State.safetyLines_get_other _ (by unfold Obj.StoGroupState Obj.GateEnableImage; omega)
      (by unfold Obj.StoGroupState Obj.SupplyEnableImage; omega), kept, off g hg]

/-- A pair in discrepancy for longer than its time latches (R416). -/
theorem exec_discrepancyLatch_of_long {p : Nat} {c : SafetyCfg} {s : State} (cfg : s.safetyCfg = some c)
    (on : c.pairs.testBit p = true) (differs : s.get (Obj.PairState p) = 2) (long : c.disc * 10 < s.safety.disc.getD p 0) (hp : p < 4) :
    ∃ u : State, exec (.discrepancyLatch p) s = .next (u.raiseOnce fkDiscrepancy p) ∧ u.get (Obj.PairState p) = 3 ∧
      u.bit Obj.SafetyStatus 0 = true ∧ u.safety.passed.testBit p = false := by
  obtain ⟨w, hw⟩ : ∃ w : State, w = { s with safety := { s.safety with passed := clrBitN s.safety.passed p } } := ⟨_, rfl⟩
  refine ⟨(w.put (Obj.PairState p) 3).setBit Obj.SafetyStatus 0, ?_, ?_, State.setBit_bit_same .., ?_⟩
  · change execDiscrepancyLatch p s = _
    rw [execDiscrepancyLatch, cfg, hw]
    exact congrArg Host.Outcome.next (if_pos ⟨on, differs, long⟩)
  · rw [State.setBit_get_other _ _ (by unfold Obj.PairState Obj.SafetyStatus; omega), State.get_put_same]
  · change w.safety.passed.testBit p = false
    rw [hw]
    exact (clrBitN_testBit ..).trans (by simp)

theorem exec_discrepancyLatch_of_agreeing {p : Nat} {s : State} (h : s.get (Obj.PairState p) ≠ 2) : exec (.discrepancyLatch p) s = .next s := by
  change execDiscrepancyLatch p s = _
  rw [execDiscrepancyLatch]
  split
  · exact congrArg Host.Outcome.next (if_neg fun latch => h latch.2.1)
  · rfl

/-! ### The request path (R423) -/

/-- A frame of a device all of whose axes are disabled names them all and leaves no line on. -/
theorem exec_requestFrame_of_disabled {s : State} (disabled : ∀ n, n < 16 → s.get (Obj.AxisState n) = axDisabled) :
    ∃ t, exec .requestFrame s = .next t ∧ t.safety.path = true ∧ (∀ n, n < 16 → t.safety.named.testBit n = true) ∧
      t.get Obj.GateEnableImage = 0 ∧ t.get Obj.SupplyEnableImage = 0 := by
  obtain ⟨mask, hmask⟩ : ∃ mask, mask = maskOf (List.range 16) fun n =>
    decide (s.get (Obj.AxisState n) = axDisabled ∨ s.get (Obj.AxisState n) = axFaulted) := ⟨_, rfl⟩
  have all : ∀ n, n < 16 → mask.testBit n = true := fun n hn => by
    rw [hmask, maskOf_testBit, decide_eq_true (List.mem_range.2 hn), decide_eq_true (.inl (disabled n hn))]
    rfl
  obtain ⟨w, hw⟩ : ∃ w : State, w = { s with safety := { s.safety with named := mask, path := true } } := ⟨_, rfl⟩
  have named : ∀ n, n < 16 → w.namedOff n = true := fun n hn => by
    rw [State.namedOff, hw]
    exact (congrArg (!true || ·) (all n hn)).trans rfl
  obtain ⟨-, brakes, safety⟩ := w.safetyLines_frame
  refine ⟨w.safetyLines, ?_, ?_, fun n hn => ?_, State.safetyLines_of_named named⟩
  · rw [hw, hmask]
    change execRequestFrame s = _
    simp only [execRequestFrame, maskOf, decide_eq_true_eq]
  · rw [safety, hw]
  · rw [safety, hw]
    exact all n hn

theorem exec_requestPathLost_lines (s : State) :
    ∃ t, exec .requestPathLost s = .next t ∧ t.safety.path = false ∧ t.bit Obj.SafetyStatus 5 = true ∧
      t.get Obj.GateEnableImage = 0 ∧ t.get Obj.SupplyEnableImage = 0 := by
  obtain ⟨w, hw⟩ : ∃ w : State, w = ({ s with safety := { s.safety with path := false } } : State).setBit Obj.SafetyStatus 5 := ⟨_, rfl⟩
  have lost : w.safety.path = false := by rw [hw]; rfl
  obtain ⟨-, brakes, safety⟩ := w.safetyLines_frame
  refine ⟨w.safetyLines, ?_, ?_, ?_, State.safetyLines_of_named fun n _ => ?_⟩
  · rw [hw]
    rfl
  · rw [safety]
    exact lost
  · rw [State.bit, State.nat, State.safetyLines_get_other _ (by decide) (by decide), hw]
    exact State.setBit_bit_same ..
  · rw [State.namedOff, lost]
    rfl

/-! ### Self-test and seal (R418, R428) -/

section
variable {s : State}

/-- A passing self-test brings the state that the configuration and the device give. -/
theorem exec_selfTestComplete_of_passed (testing : s.get Obj.SafetyState = 0) :
    ∃ t, exec (.selfTestComplete true) s = .next t ∧ t.get Obj.SafetyState =
      if s.get Obj.SafetyConfigSource = 0 ∨ s.get Obj.DeviceState = devBoot ∨ s.get Obj.DeviceState = devSafe then 1 else 2 := by
  refine ⟨(s.put Obj.SafetyState 1).safetyStateEdge, congrArg Host.Outcome.next (if_neg fun h => h testing), ?_⟩
  rw [State.safetyStateEdge_of_hold (State.get_put_same ..), State.get_put_same,
    State.get_put_other _ _ (show Obj.SafetyConfigSource ≠ Obj.SafetyState by decide),
    State.get_put_other _ _ (show Obj.DeviceState ≠ Obj.SafetyState by decide)]

theorem State.safetyStateEdge_get_other (s : State) {j : Nat} (h : j ≠ Obj.SafetyState) : s.safetyStateEdge.get j = s.get j := by
  rw [State.safetyStateEdge]
  dsimp only
  split
  · rfl
  · exact State.get_put_other _ _ h

theorem State.safetyStateEdge_safety (s : State) : s.safetyStateEdge.safety = s.safety := by
  rw [State.safetyStateEdge]
  dsimp only
  split <;> rfl

/-- A code of eight bits that names a pair is the configuration's source (R418). -/
theorem exec_sealRead_of_code {code : Nat} (unsealed : s.safety.sealed = false) (small : code < 256) (pairs : code % 16 ≠ 0) :
    ∃ t, exec (.sealRead code) s = .next t ∧ t.get Obj.SealCode = code ∧ t.get Obj.SafetyConfigSource = 1 ∧ t.safety.sealed = true := by
  obtain ⟨w, hw⟩ : ∃ w : State, w = { s.put Obj.SealCode (code % 256 : Nat) with
    safety := { (s.put Obj.SealCode (code % 256 : Nat)).safety with sealed := true } } := ⟨_, rfl⟩
  have stored : w.get Obj.SealCode = code := by
    rw [hw]
    refine (State.get_put_same ..).trans ?_
    rw [Nat.mod_eq_of_lt small]
  have source : w.putSource = w.put Obj.SafetyConfigSource (1 : Nat) := by
    have sealedNow : w.configSource = 1 := by
      rw [State.configSource, State.nat_of_get stored]
      exact (if_neg (by omega)).trans (if_neg pairs)
    rw [State.putSource, sealedNow]
    rfl
  refine ⟨w.putSource.safetyStateEdge, ?_, ?_, ?_, ?_⟩
  · rw [hw]
    exact congrArg Host.Outcome.next (if_neg (by rw [unsealed]; decide))
  · rw [State.safetyStateEdge_get_other _ (by decide), source, State.get_put_other _ _ (by decide), stored]
  · rw [State.safetyStateEdge_get_other _ (by decide), source, State.get_put_same]
    rfl
  · rw [State.safetyStateEdge_safety, source]
    change w.safety.sealed = true
    rw [hw]

/-! ### Unlocking (R420) -/

theorem any_num_of_mem {session : Nat} {x : Session} (hx : x ∈ s.sessions) (num : x.num = session) :
    (s.sessions.any fun x => x.num == session) = true :=
  List.any_eq_true.2 ⟨x, hx, beq_iff_eq.2 num⟩

/-- A request by an open session is judged by its number, then by the device's state. -/
theorem exec_safetyUnlock_of_open {session value : Nat} (opened : (s.sessions.any fun x => x.num == session) = true) :
    exec (.safetyUnlock session value) s = .next
      (if value ≠ s.nat Obj.SerialNumber then s.reply 0x0301
       else if s.get Obj.DeviceState ≠ devSafe then s.reply 0x0701
       else ({ s with sessions := s.sessions.map fun y =>
         if y.num = session then { y with unlocked := true, unlockAt := s.now } else y } : State).done) :=
  congrArg Host.Outcome.next (if_neg (by rw [opened]; decide))

end

/-- Settles O53: each event of the safety functions by the configuration, the state and the time it meets. -/
theorem safetyFunctions : Obligations.SafetyFunctions := by
  refine ⟨fun inputs code response s source fault unsealed off => exec_safetyCycle_of_fault inputs code response source fault unsealed off,
    fun p c s hp cfg on differs long => exec_discrepancyLatch_of_long cfg on differs long hp,
    fun p s h => exec_discrepancyLatch_of_agreeing h,
    fun inputs code response crossFail differ readback w s hw absent => ?_,
    fun inputs code response crossFail differ readback c w u s hw cfg hu => ?_,
    fun g s running due => congrArg Host.Outcome.next (if_pos ⟨running, due⟩),
    fun g s h => congrArg Host.Outcome.next (if_neg fun k => ?_),
    fun mask s hmask => by subst hmask; rfl,
    fun s _ disabled => exec_requestFrame_of_disabled disabled, fun s _ => exec_requestPathLost_lines s,
    fun o s => congrArg Host.Outcome.next (if_neg ?_),
    fun o s switched fault => congrArg Host.Outcome.next ((if_pos ?_).trans (if_pos ?_)),
    fun o s switched => congrArg Host.Outcome.next (if_pos ?_),
    fun o s other => congrArg Host.Outcome.next (if_neg ?_),
    fun s testing => congrArg Host.Outcome.next (if_neg fun h => h testing),
    fun s testing source boot safe => ?_, fun ok s h => congrArg Host.Outcome.next (if_pos h), fun s testing hold => ?_,
    fun s demand => congrArg Host.Outcome.next (if_pos demand), fun s calm => congrArg Host.Outcome.next (if_neg fun h => h calm),
    fun session value s absent => congrArg Host.Outcome.next (if_pos ?_),
    fun session value x s hx num other => ?_, fun session value x s hx num serial state => ?_,
    fun session value x s hx num serial state => ?_, fun session s => rfl, fun session s early => ?_,
    fun code s sealedNow => congrArg Host.Outcome.next (if_pos sealedNow),
    fun code u s unsealed hu => ?_, fun code s unsealed small pairs => exec_sealRead_of_code unsealed small pairs⟩
  · change execSafetyCycle inputs code response crossFail differ readback s = _
    rw [execSafetyCycle]
    dsimp only
    rw [← hw, absent]
  · change execSafetyCycle inputs code response crossFail differ readback s = _
    rw [execSafetyCycle]
    dsimp only
    rw [← hw, cfg, hu]
  · obtain ⟨running, due⟩ := k
    rcases h with stopped | early
    · rw [stopped] at running
      cases running
    · exact Nat.not_lt.2 due early
  · rw [Bool.not_true, Bool.and_false]
    decide
  · rw [switched]
    rfl
  · rw [State.setBit_get_other _ _ (by decide), fault]
  · rw [switched]
    rfl
  · rw [other, Bool.false_and]
    decide
  · obtain ⟨t, passed, state⟩ := exec_selfTestComplete_of_passed testing
    exact ⟨t, passed, state.trans (if_neg fun h => h.elim source fun h => h.elim boot safe)⟩
  · obtain ⟨t, passed, state⟩ := exec_selfTestComplete_of_passed testing
    exact ⟨t, passed, state.trans (if_pos hold)⟩
  · rw [List.any_eq_false.2 fun x hx => by rw [beq_iff_eq]; exact absent x hx]
    rfl
  · rw [exec_safetyUnlock_of_open (any_num_of_mem hx num), if_pos other]
  · rw [exec_safetyUnlock_of_open (any_num_of_mem hx num), if_neg (not_not.2 serial), if_pos state]
  · rw [exec_safetyUnlock_of_open (any_num_of_mem hx num), if_neg (not_not.2 serial), if_neg (not_not.2 state)]
  · have same : (s.sessions.map fun y =>
        if y.num = session ∧ y.unlockAt + 600000000000 ≤ s.now then { y with unlocked := false } else y) = s.sessions :=
      (List.map_congr_left fun y hy => if_neg fun h => Nat.not_lt.2 h.2 (early y hy h.1)).trans (List.map_id _)
    change Host.Outcome.next ({ s with sessions := s.sessions.map fun y =>
        if y.num = session ∧ y.unlockAt + 600000000000 ≤ s.now then { y with unlocked := false } else y } : State) = _
    rw [same]
  · subst hu
    exact congrArg Host.Outcome.next (if_neg (by rw [unsealed]; decide))

end Sys2Proof.Machine
end

section
/-! SUPPORT. Resets and the records of faults (spec/18_faults_thermal.md): what a small record of the store changes, what a reset
of the chip leaves, what a raise records, and what one entry of the log writes. -/

namespace Sys2Proof.Machine

/-! ### Small records (R470, R474) -/

section
variable {s t : State}

/-- The placing of a record changes the store alone. -/
theorem State.nvPlace_frame {r : NvRec} (h : s.nvPlace r = some t) : ∃ nv, t = { s with nv := nv } := by
  unfold State.nvPlace at h
  extract_lets small last placed at h
  split at h
  · cases h
    exact ⟨_, rfl⟩
  · split at h
    · cases h
      exact ⟨_, rfl⟩
    · cases h

/-- A reclaim changes the store alone. -/
theorem State.nvReclaim_frame {sector : Nat} (h : s.nvReclaim sector = some t) : ∃ nv, t = { s with nv := nv } := by
  unfold State.nvReclaim at h
  extract_lets live emptied at h
  refine List.foldlRecOn (motive := fun o : Option State => ∀ t, o = some t → ∃ nv, t = { s with nv := nv }) _ _ ?_ ?_ t h
  · rintro t ⟨⟩
    exact ⟨_, rfl⟩
  · rintro (_ | u) kept r - t placed
    · cases placed
    · obtain ⟨nv, placed⟩ := State.nvPlace_frame placed
      obtain ⟨old, same⟩ := kept u rfl
      rw [placed, same]
      exact ⟨nv, rfl⟩

/-- A small record changes the store and `StoreSequence` alone. -/
theorem State.nvSmall_frame (s : State) (kind : Nat) (payload : List Byte) : ∃ nv regs,
    s.nvSmall kind payload = { s with nv := nv, regs := regs } ∧
      ∀ j, j ≠ Obj.StoreSequence → (s.nvSmall kind payload).get j = s.get j := by
  unfold State.nvSmall
  extract_lets q before
  split
  · exact ⟨_, _, rfl, fun _ _ => rfl⟩
  · next t placed =>
    obtain ⟨nv, ht⟩ := State.nvPlace_frame placed
    obtain ⟨u, hu⟩ : ∃ u, u = t.put Obj.StoreSequence q := ⟨_, rfl⟩
    have sequenced : ∀ nv, ∃ regs, { u with nv := nv } = { s with nv := nv, regs := regs } := fun nv => by
      rw [hu, ht]
      exact ⟨_, rfl⟩
    have kept : ∀ j, j ≠ Obj.StoreSequence → u.get j = s.get j := fun j hj => by
      rw [hu, State.get_put_other _ _ hj, ht]
      rfl
    dsimp only
    rw [← hu]
    split
    · obtain ⟨regs, same⟩ := sequenced u.nv
      exact ⟨_, regs, same, kept⟩
    · split
      · next v reclaimed =>
        obtain ⟨nv', hv⟩ := State.nvReclaim_frame reclaimed
        subst hv
        obtain ⟨regs, same⟩ := sequenced { nv' with dirty := nv'.dirty.filter fun x => x != nextSector u.nv.smallAt.1 }
        exact ⟨_, regs, same, kept⟩
      · obtain ⟨regs, same⟩ := sequenced u.nv
        exact ⟨_, regs, same, kept⟩

theorem State.nvSmall_get_other (s : State) (kind : Nat) (payload : List Byte) {j : Nat} (h : j ≠ Obj.StoreSequence) :
    (s.nvSmall kind payload).get j = s.get j := by
  obtain ⟨_, _, -, kept⟩ := s.nvSmall_frame kind payload
  exact kept j h

/-- The next epoch changes the store, `ResetEpoch` and `StoreSequence` alone (R9, R474). -/
theorem State.bumpEpoch_frame (s : State) : ∃ nv regs, s.bumpEpoch = { s with nv := nv, regs := regs } ∧
    s.bumpEpoch.get Obj.ResetEpoch = ((s.nat Obj.ResetEpoch + 1) % 4294967296 : Nat) ∧
      ∀ j, j ≠ Obj.StoreSequence → j ≠ Obj.ResetEpoch → s.bumpEpoch.get j = s.get j := by
  unfold State.bumpEpoch
  extract_lets e u c
  split
  · obtain ⟨nv, regs, same, kept⟩ := u.nvSmall_frame 3 (natLE 4 (c + 256))
    refine ⟨nv, regs, same, ?_, fun j sequence epoch => (kept j sequence).trans (State.get_put_other _ _ epoch)⟩
    exact (kept _ (by decide)).trans (State.get_put_same ..)
  · exact ⟨_, _, rfl, State.get_put_same .., fun j _ epoch => State.get_put_other _ _ epoch⟩

/-! ### A reset of the chip (R456) -/

/-- What the parts' reset leaves of the registers. -/
theorem State.partsReset_get (s : State) (j : Nat) : s.partsReset.get j = if keptKey j then s.get j else Dict.dflt j :=
  Sparse.get_filter_key Dict.dflt keptKey s.regs j

/-- A reset that begins: the parts are reset, and only the store and the registers change after it. -/
theorem State.chipReset_frame (cause : Nat) (running : s.power.inReset = false) : ∃ nv regs,
    s.chipReset cause = { s.partsReset with nv := nv, regs := regs } ∧ (s.chipReset cause).get Obj.LastResetCause = cause ∧
      ((s.chipReset cause).get Obj.ResetEpoch = if cause = 1 then (0 : Int) else ((s.nat Obj.ResetEpoch + 1) % 4294967296 : Nat)) ∧
      ∀ j, j ≠ Obj.LastResetCause → j ≠ Obj.StoreSequence → j ≠ Obj.ResetEpoch →
        (s.chipReset cause).get j = if keptKey j then s.get j else Dict.dflt j := by
  unfold State.chipReset
  rw [if_neg (by rw [running]; decide)]
  extract_lets nv u w
  have parts : ∀ j, u.partsReset.get j = if keptKey j then s.get j else Dict.dflt j := u.partsReset_get
  have caused : w.get Obj.LastResetCause = cause := State.get_put_same ..
  have kept : ∀ j, j ≠ Obj.LastResetCause → w.get j = if keptKey j then s.get j else Dict.dflt j :=
    fun j hj => (State.get_put_other _ _ hj).trans (parts j)
  split
  · next one =>
    exact ⟨_, _, rfl, (State.get_put_other _ _ (by decide)).trans caused, State.get_put_same ..,
      fun j hj _ epoch => (State.get_put_other _ _ epoch).trans (kept j hj)⟩
  · obtain ⟨nv, regs, same, epoch, other⟩ := w.bumpEpoch_frame
    have before : w.nat Obj.ResetEpoch = s.nat Obj.ResetEpoch := congrArg Int.toNat ((kept _ (by decide)).trans rfl)
    refine ⟨nv, regs, same, (other _ (by decide) (by decide)).trans caused, ?_,
      fun j hj sequence epoch => (other j sequence epoch).trans (kept j hj)⟩
    rw [epoch, before]

theorem State.chipReset_of_reset {cause : Nat} (h : s.power.inReset = true) : s.chipReset cause = s := if_pos h

end

/-! ### Raises without a reaction (R435, R436) -/

theorem State.logRaise_get_other (s : State) (e : LogEntry) {j : Nat} (h : j ≠ Obj.FaultLogDropped) : (s.logRaise e).get j = s.get j := by
  have appended : (s.logAppend e).get j = s.get j := by
    unfold State.logAppend
    split
    · rfl
    · exact State.count_get_other _ _ _ h
  unfold State.logRaise
  dsimp only
  split
  · split
    · rfl
    · exact appended
  · rfl
  · exact appended

/-- What a raise records in the objects of its kind (R436). -/
theorem State.raiseRecord_kind (s : State) {k i : Nat} (value : Int) (forced : Bool) (hk : 0 < k) (hi : i < 64) :
    (s.raiseRecord k i value forced true).bit (Obj.FaultSticky k) i = true ∧
      (s.raiseRecord k i value forced true).get (Obj.FaultCount k) = wrapU 32 (s.get (Obj.FaultCount k) + 1) ∧
      (s.raiseRecord k i value forced true).faultActive k i = true := by
  have sticky_at : stickyAt k i = (Obj.FaultSticky k, i) := if_pos hi
  have active_at : activeAt k i = (Obj.FaultActive k, i) := if_pos hi
  unfold State.raiseRecord
  extract_lets _ sticky counted active e logged _ fatal
  have recorded : ∀ j, j ≠ Obj.FaultLogDropped → j ≠ Obj.AcqStatus → j ≠ Obj.FaultHighestClass →
      (fatal.put Obj.FaultHighestClass fatal.highestClass).get j = active.get j := fun j dropped acq highest => by
    have stored : fatal.get j = logged.get j := by
      change (if _ then _ else logged).get j = _
      split <;> rfl
    rw [State.get_put_other _ _ highest, stored]
    exact (State.acqEvent_get_other _ _ _ _ _ _ acq).trans (State.logRaise_get_other _ _ dropped)
  have lasting : active = counted.setActive k i true := rfl
  have other : ∀ j, j ≠ Obj.FaultActive k → active.get j = counted.get j := fun j hj => by
    rw [lasting, State.setActive_get_other true (by rw [active_at]; exact hj)]
  refine ⟨?_, ?_, ?_⟩
  · rw [State.bit, State.nat, recorded _ (by unfold Obj.FaultSticky Obj.FaultLogDropped; omega)
      (by unfold Obj.FaultSticky Obj.AcqStatus; omega) (by unfold Obj.FaultSticky Obj.FaultHighestClass; omega),
      other _ (by unfold Obj.FaultSticky Obj.FaultActive; omega)]
    rw [show counted = sticky.count (Obj.FaultCount k) 32 1 from rfl,
      State.count_get_other _ _ _ (by unfold Obj.FaultSticky Obj.FaultCount; omega)]
    change sticky.bit (Obj.FaultSticky k) i = true
    rw [show sticky = s.setBit (stickyAt k i).1 (stickyAt k i).2 from rfl, sticky_at]
    exact State.setBit_bit_same ..
  · rw [recorded _ (by unfold Obj.FaultCount Obj.FaultLogDropped; omega) (by unfold Obj.FaultCount Obj.AcqStatus; omega)
      (by unfold Obj.FaultCount Obj.FaultHighestClass; omega), other _ (by unfold Obj.FaultCount Obj.FaultActive; omega)]
    refine (State.get_put_same ..).trans ?_
    rw [show sticky = s.setBit (stickyAt k i).1 (stickyAt k i).2 from rfl, sticky_at,
      State.setBit_get_other _ _ (by unfold Obj.FaultSticky Obj.FaultCount; omega)]
  · rw [State.faultActive, active_at, State.bit, State.nat, recorded _ (by unfold Obj.FaultActive Obj.FaultLogDropped; omega)
      (by unfold Obj.FaultActive Obj.AcqStatus; omega) (by unfold Obj.FaultActive Obj.FaultHighestClass; omega), lasting,
      State.setActive, active_at]
    exact State.setBit_bit_same ..

@[simp] theorem State.react_of_none (s : State) (k i : Nat) : s.react k i 0 = s := by
  simp [State.react]

/-! ### Forced raises (R35, R435) -/

theorem maskBits_two_pow {i : Nat} (h : i < 64) : maskBits (2 ^ i) = [i] := by
  have single : ∀ i < 64, maskBits (2 ^ i) = [i] := by decide
  exact single i h

section
variable {k : Nat} {s : State}

/-- A request that names a kind with its instances is judged by them, then forces each. -/
theorem exec_faultForce_of_kind {high : Bool} {v : Nat} (hk : 0 < k) (le : k ≤ 0x33) (wide : high = false ∨ Dict.wideKind k = true) :
    exec (.faultForce k high v) s = .next
      (if s.forceStatus k ((maskBits v).map fun i => if high then i + 64 else i) ≠ 0 then
         s.reply (s.forceStatus k ((maskBits v).map fun i => if high then i + 64 else i))
       else (s.each ((maskBits v).map fun i => if high then i + 64 else i) fun s i => s.forceOne k i).done) := by
  have named : (high && !Dict.wideKind k) = false := by
    rcases wide with low | wide
    · rw [low, Bool.false_and]
    · rw [wide, Bool.not_true, Bool.and_false]
  exact congrArg Host.Outcome.next ((if_neg (by omega)).trans (if_neg (by rw [named]; decide)))

/-- A request that names one bit of the low word forces it alone. -/
theorem exec_faultForce_of_one {i : Nat} (hk : 0 < k) (le : k ≤ 0x33) (hi : i < 64) (legal : s.forceStatus k [i] = 0) :
    exec (.faultForce k false (2 ^ i)) s = .next (s.forceOne k i).done := by
  have one : ((maskBits (2 ^ i)).map fun i => if false then i + 64 else i) = [i] := by
    rw [maskBits_two_pow hi]
    rfl
  rw [exec_faultForce_of_kind hk le (.inl rfl)]
  simp only [Bool.false_eq_true, if_false] at one ⊢
  rw [one, legal]
  rfl

/-- A forced raise of a kind without a reaction is recorded. -/
theorem exec_faultForce_of_quiet {i : Nat} (hk : 0 < k) (le : k ≤ 0x33) (hi : i < 64) (legal : s.forceStatus k [i] = 0)
    (row : k ≠ fkRowOverrun) (quiet : s.get (Obj.FaultReaction k) = 0) (absent : s.faultActive k i = false) :
    ∃ t, exec (.faultForce k false (2 ^ i)) s = .next t ∧ t.resp = { status := 0 } ∧
      t.bit (Obj.FaultSticky k) i = true ∧ t.get (Obj.FaultCount k) = wrapU 32 (s.get (Obj.FaultCount k) + 1) ∧
      t.faultActive k i = true := by
  obtain ⟨sticky, count, active⟩ := s.raiseRecord_kind 0 true hk hi
  obtain ⟨w, hw⟩ : ∃ w, w = s.raiseRecord k i 0 true true := ⟨_, rfl⟩
  have raised : s.raiseWith k i 0 true true = w := by
    rw [State.raiseWith, State.nat, quiet, hw]
    exact State.react_of_none ..
  have forced : s.forceOne k i = { w with faults := { w.faults with forced := (k * 256 + i) :: w.faults.forced } } := by
    rw [State.forceOne, if_neg (by rw [absent]; decide), if_neg row, raised]
  rw [exec_faultForce_of_one hk le hi legal, forced]
  rw [← hw] at sticky count active
  exact ⟨_, rfl, rfl, sticky, count, active⟩

/-- The rows of the cores are forced in every state (R435). -/
theorem State.forceStatus_rowOverrun {i : Nat} (hi : i < 2) : s.forceStatus fkRowOverrun [i] = 0 := by
  interval_cases i <;> rfl

end

/-! ### The log (R437, R438) -/

/-- One entry of the log moves its head and leaves the fault collector. -/
theorem State.logWrite_head (s : State) (e : LogEntry) :
    (s.logWrite e).get Obj.FaultLogHead = ((s.nat Obj.FaultLogHead + 1) % 131072 : Nat) ∧ (s.logWrite e).faults = s.faults := by
  unfold State.logWrite
  extract_lets h n lo trimmed erased stored headed
  refine ⟨(State.get_put_other _ _ (by decide)).trans (State.get_put_same ..), ?_⟩
  have kept : trimmed.faults = s.faults := by
    change State.faults (if _ then _ else s) = s.faults
    split <;> rfl
  change State.faults (if _ then _ else s) = s.faults
  split
  · exact kept
  · rfl

theorem exec_faultLogCopy_of_free {s : State} (flash : s.flashStopped = false) (work : s.workHeld = false) :
    exec .faultLogCopy s = .next (s.faults.queue.foldl (fun t e =>
      ({ t with faults := { t.faults with recent := (t.nat Obj.FaultLogHead, e) :: t.faults.recent } } : State).logWrite e)
      { s with faults := { s.faults with
        queue := [], recent := s.faults.recent.filter fun p => decide (s.now - p.2.time < 10000000) } }) :=
  congrArg Host.Outcome.next (if_neg (by rw [flash, work]; decide))

/-! ### NERR (R434) -/

theorem State.nerrUpdate_of_held {s : State} (h : s.faults.fatalHold = true) : s.nerrUpdate = s := by
  have held : (s.faults.running && (s.faults.nKinds.all fun k => s.nat (Obj.FaultSticky k) == 0 &&
      !(Dict.wideKind k && s.nat (Obj.FaultStickyHigh k) != 0)) && !s.faults.pulse && !s.faults.fatalHold &&
      !s.power.inReset && !s.power.recovery) = false := by
    rw [h, Bool.not_true, Bool.and_false, Bool.false_and, Bool.false_and]
  exact if_neg (by rw [held]; decide)

theorem State.nerrUpdate_of_clear {s : State} (running : s.faults.running = true) (pulse : s.faults.pulse = false)
    (hold : s.faults.fatalHold = false) (reset : s.power.inReset = false) (service : s.power.recovery = false)
    (clear : ∀ k ∈ s.faults.nKinds, s.nat (Obj.FaultSticky k) = 0 ∧ s.nat (Obj.FaultStickyHigh k) = 0) :
    s.nerrUpdate = { s.put Obj.NerrState 0 with faults := { s.faults with nKinds := [] } } := by
  have all : (s.faults.nKinds.all fun k => s.nat (Obj.FaultSticky k) == 0 &&
      !(Dict.wideKind k && s.nat (Obj.FaultStickyHigh k) != 0)) = true := List.all_eq_true.2 fun k hk => by
    rw [(clear k hk).1, (clear k hk).2]
    simp
  exact if_pos (by rw [running, pulse, hold, reset, service, all]; decide)

theorem State.nerrUpdate_frame (s : State) : ∃ regs kinds,
    s.nerrUpdate = { s with regs := regs, faults := { s.faults with nKinds := kinds } } := by
  unfold State.nerrUpdate
  dsimp only
  split
  · exact ⟨_, _, rfl⟩
  · exact ⟨_, _, rfl⟩

/-- Settles O54: each reset, force, reaction and record by the state it meets. -/
theorem resetsAndFaultRecords : Obligations.ResetsAndFaultRecords := by
  refine ⟨fun source s h => congrArg Host.Outcome.next (if_neg fun k => h (List.contains_iff_mem.1 k)),
    fun source s h => ⟨_, congrArg Host.Outcome.next (if_pos (List.contains_iff_mem.2 h)),
      (State.get_put_other _ _ (by decide)).trans (State.get_put_same ..), State.get_put_same ..⟩,
    fun s h => ?_, fun cause s due other running => ?_,
    fun k v high s h => congrArg Host.Outcome.next (if_pos (by omega)), fun k v high s ge le low => ?_,
    fun s => ?_, fun i s hi absent => ?_,
    fun k i s hk le hi _ legal row quiet _ absent => exec_faultForce_of_quiet hk le hi legal row quiet absent,
    fun k v high l s hk le wide hl legal => ?_,
    fun k v s hk le h => congrArg Host.Outcome.next ((if_neg (by omega)).trans (if_pos h)),
    fun k v s hk le h => congrArg Host.Outcome.next ((if_neg (by omega)).trans (if_neg (not_not.2 h))),
    fun k v s hk le safety free large => ?_, fun s => ?_, fun s h => congrArg Host.Outcome.next (if_pos h), fun s safe => ?_,
    fun s h => congrArg Host.Outcome.next (if_pos ?_), fun w s flash work hw => ?_, fun s flash work empty => ?_,
    fun e s flash work one => ?_, fun s running hold reset service clear due => ?_,
    fun s early => congrArg Host.Outcome.next (if_neg (Nat.not_le.2 early)), fun s hold due => ?_⟩
  · change execChipReset s = _
    rw [execChipReset, h]
  · obtain ⟨nv, regs, same, caused, epoch, kept⟩ := State.chipReset_frame cause running
    have reset : exec .chipReset s = .next (s.chipReset cause) := by
      change execChipReset s = _
      rw [execChipReset, due]
    refine ⟨_, reset, ?_, caused, kept _ (by decide) (by decide) (by decide), ?_, ?_, epoch.trans (if_neg other),
      kept _ (by decide) (by decide) (by decide)⟩
    · rw [same]
      rfl
    · rw [same]
      rfl
    · rw [same]
      rfl
  · have fixed : ∀ l, s.forceStatus k l = 0x0204 := fun l => if_pos ⟨ge, le⟩
    rw [exec_faultForce_of_kind (by omega) (by omega) (.inl low), fixed]
    rfl
  · rfl
  · rw [exec_faultForce_of_one (by decide) (by decide) (by omega) (State.forceStatus_rowOverrun hi), State.forceOne,
      if_neg (by rw [absent]; decide)]
    rfl
  · rw [exec_faultForce_of_kind hk le wide, ← hl, legal]
    rfl
  · have status : reactionStatus k v = 0x0301 :=
      (if_neg safety).trans ((if_neg (by rw [free]; decide)).trans (if_pos large))
    exact congrArg Host.Outcome.next ((if_neg (by omega)).trans ((if_pos (by rw [status]; decide)).trans (by rw [status])))
  · obtain ⟨w, hw⟩ : ∃ w : State, w = { s with faults := { s.faults with fatal := [], copied := 0, fatalHold := false } } := ⟨_, rfl⟩
    obtain ⟨regs, kinds, updated⟩ := w.nerrUpdate_frame
    refine ⟨w.nerrUpdate.done, by rw [hw]; rfl, rfl, ?_, ?_, fun k hk => ?_⟩
    · change w.nerrUpdate.faults.fatal = []
      rw [updated, hw]
    · change w.nerrUpdate.faults.fatalHold = false
      rw [updated, hw]
    · change w.nerrUpdate.get k = s.get k
      rw [State.nerrUpdate_get_other hk, hw]
      rfl
  · obtain ⟨w, hw⟩ : ∃ w : State, w = { s with
        mem := s.mem.filter fun c => cellKey c.1 != Obj.FaultLog
        faults := { s.faults with recent := [] } } := ⟨_, rfl⟩
    have erased : exec .eraseLog s = .next ((w.put Obj.FaultLogHead 0).put Obj.FaultLogCount 0).done := by
      rw [hw]
      exact congrArg Host.Outcome.next (if_neg (not_not.2 safe))
    refine ⟨_, erased, rfl, ?_, w.put Obj.FaultLogHead 0 |>.get_put_same Obj.FaultLogCount 0, fun c hc => ?_⟩
    · exact (State.get_put_other (w.put Obj.FaultLogHead 0) (k := Obj.FaultLogCount) 0 (by decide)).trans (w.get_put_same Obj.FaultLogHead 0)
    change c ∈ w.mem at hc
    rw [hw] at hc
    exact bne_iff_ne.1 (List.mem_filter.1 hc).2
  · rcases h with h | h
    · rw [h]
      rfl
    · rw [h, Bool.or_true]
  · rw [exec_faultLogCopy_of_free flash work, hw]
  · rw [exec_faultLogCopy_of_free flash work, empty]
    exact ⟨_, rfl, rfl, rfl, rfl⟩
  · rw [exec_faultLogCopy_of_free flash work, one, List.foldl_cons, List.foldl_nil]
    refine ⟨_, rfl, ?_, (State.logWrite_head _ e).1, ?_⟩
    · rw [(State.logWrite_head _ e).2]
    · rw [(State.logWrite_head _ e).2]
      rfl
  · obtain ⟨w, hw⟩ : ∃ w : State, w = { s with faults := { s.faults with pulse := false } } := ⟨_, rfl⟩
    have expired : exec .nerrMinPulseExpiry s = .next w.nerrUpdate := by
      rw [hw]
      exact congrArg Host.Outcome.next (if_pos due)
    have high : w.nerrUpdate = { w.put Obj.NerrState 0 with faults := { w.faults with nKinds := [] } } := by
      subst hw
      exact State.nerrUpdate_of_clear running rfl hold reset service clear
    rw [expired, high]
    refine ⟨_, rfl, w.get_put_same Obj.NerrState 0, ?_⟩
    rw [hw]
  · exact congrArg Host.Outcome.next ((if_pos due).trans (State.nerrUpdate_of_held hold))

end Sys2Proof.Machine
end

section
/-! SUPPORT. The thermal manager, supplies, the reset pin and start-up (spec/18_faults_thermal.md, spec/19_package_power_reset.md):
plausible readings, the sides of the throttle's hysteresis, resets by the supplies, and what a release of the reset goes through. -/

namespace Sys2Proof.Machine

/-! ### Plausible readings (R440) -/

section
variable {l : List (Nat × Int)} {s : State}

/-- The first plausible reading of a sensor that is not broken, in a reset, is taken as it is. -/
theorem State.sensorRead_of_first {i : Nat} (f : Nat) {t : Int} (reset : s.power.inReset = true) (sound : s.get Obj.SensorBroken = 0)
    (first : s.thermal.prev.lookup i = none) (low : -550 ≤ t) (high : t ≤ 1750) :
    s.sensorRead i f t = (((({ s with thermal := { s.thermal with
      prev := Sparse.insert i t s.thermal.prev, good := Sparse.insert i 0 s.thermal.good } } : State).clrBit Obj.SensorBroken i).put
        (Obj.SensorFrequency i) f).put (Obj.SensorTemperature i) t) := by
  have was : s.bit Obj.SensorBroken i = false := by
    rw [State.bit, State.nat, sound]
    exact Nat.zero_testBit i
  have plausible : decide (-550 ≤ t ∧ t ≤ 1750) = true := decide_eq_true ⟨low, high⟩
  unfold State.sensorRead
  simp only [first, was, plausible, Bool.not_false, Bool.and_true, Bool.not_true, Bool.false_eq_true, if_false]
  exact if_pos reset

/-- In a reset without a thermal hold, the first `n` sensors have their readings and the others none yet. -/
structure SensorsRead (l : List (Nat × Int)) (n : Nat) (t : State) : Prop where
  reset : t.power.inReset = true
  free : t.thermal.hold = none
  sound : t.get Obj.SensorBroken = 0
  unread : ∀ i, n ≤ i → t.thermal.prev.lookup i = none
  read : ∀ i, i < n → t.get (Obj.SensorTemperature i) = (l.getD i (0, 0)).2 ∧ t.get (Obj.SensorFrequency i) = (l.getD i (0, 0)).1

theorem SensorsRead.step {n : Nat} (h : SensorsRead l n s) (hn : n < 14) (low : -550 ≤ (l.getD n (0, 0)).2)
    (high : (l.getD n (0, 0)).2 ≤ 1750) : SensorsRead l (n + 1) (s.sensorRead n (l.getD n (0, 0)).1 (l.getD n (0, 0)).2) := by
  rw [State.sensorRead_of_first _ h.reset h.sound (h.unread n (Nat.le_refl n)) low high]
  obtain ⟨w, hw⟩ : ∃ w : State, w = { s with thermal := { s.thermal with
      prev := Sparse.insert n (l.getD n (0, 0)).2 s.thermal.prev, good := Sparse.insert n 0 s.thermal.good } } := ⟨_, rfl⟩
  rw [← hw]
  have kept : ∀ j, j ≠ Obj.SensorBroken → j ≠ Obj.SensorFrequency n → j ≠ Obj.SensorTemperature n →
      (((w.clrBit Obj.SensorBroken n).put (Obj.SensorFrequency n) (l.getD n (0, 0)).1).put (Obj.SensorTemperature n)
        (l.getD n (0, 0)).2).get j = s.get j := fun j broken frequency temperature => by
    rw [State.get_put_other _ _ temperature, State.get_put_other _ _ frequency]
    refine (State.get_put_other _ _ broken).trans ?_
    rw [hw]
    rfl
  refine ⟨by subst hw; exact h.reset, by subst hw; exact h.free, ?_, fun i hi => ?_, fun i hi => ?_⟩
  · rw [State.get_put_other _ _ (by unfold Obj.SensorBroken Obj.SensorTemperature; omega),
      State.get_put_other _ _ (by unfold Obj.SensorBroken Obj.SensorFrequency; omega)]
    refine (State.get_put_same ..).trans ?_
    have zero : w.nat Obj.SensorBroken = 0 := by
      subst hw
      exact State.nat_of_get h.sound
    rw [zero, clrBitN, if_neg (by rw [Nat.zero_testBit]; decide)]
    rfl
  · change w.thermal.prev.lookup i = none
    rw [hw]
    exact (lookup_insert ..).trans ((if_neg (by omega)).trans (h.unread i (by omega)))
  · rcases Nat.lt_succ_iff_lt_or_eq.1 hi with before | same
    · obtain ⟨temperature, frequency⟩ := h.read i before
      rw [kept _ (by unfold Obj.SensorTemperature Obj.SensorBroken; omega) (by unfold Obj.SensorTemperature Obj.SensorFrequency; omega)
          (by unfold Obj.SensorTemperature; omega),
        kept _ (by unfold Obj.SensorFrequency Obj.SensorBroken; omega) (by unfold Obj.SensorFrequency; omega)
          (by unfold Obj.SensorFrequency Obj.SensorTemperature; omega)]
      exact ⟨temperature, frequency⟩
    · subst same
      rw [State.get_put_same, State.get_put_other _ _ (by unfold Obj.SensorFrequency Obj.SensorTemperature; omega), State.get_put_same]
      exact ⟨rfl, rfl⟩

theorem SensorsRead.upTo (h : SensorsRead l 0 s) (plausible : ∀ i, i < 14 → -550 ≤ (l.getD i (0, 0)).2 ∧ (l.getD i (0, 0)).2 ≤ 1750)
    {n : Nat} (hn : n ≤ 14) :
    SensorsRead l n (s.each (List.range n) fun y i => y.sensorRead i (l.getD i (0, 0)).1 (l.getD i (0, 0)).2) := by
  induction n with
  | zero => exact h
  | succ n ih =>
    rw [List.range_succ, State.each, List.foldl_append]
    exact (ih (by omega)).step hn (plausible n hn).1 (plausible n hn).2

/-- Without a hold a measurement in a reset is the readings alone. -/
theorem State.coolRun_of_free (h : s.thermal.hold = none) : s.coolRun l = s := by
  rw [State.coolRun, h]

theorem exec_temperatureMeasurement_of_reset (reset : s.power.inReset = true) (free : s.thermal.hold = none) (all : l.length = 14)
    (sound : s.get Obj.SensorBroken = 0) (first : s.thermal.prev = []) (plausible : ∀ x ∈ l, -550 ≤ x.2 ∧ x.2 ≤ 1750) :
    ∃ t, exec (.temperatureMeasurement l) s = .next t ∧ t.get Obj.SensorBroken = 0 ∧
      (∀ i, i < 14 → t.get (Obj.SensorTemperature i) = (l.getD i (0, 0)).2 ∧
        t.get (Obj.SensorFrequency i) = (l.getD i (0, 0)).1) := by
  have sensors : ((List.range l.length).filter fun i => decide (i < 14)) = List.range 14 := by
    rw [all]
    exact List.filter_eq_self.2 fun i hi => decide_eq_true (List.mem_range.1 hi)
  have start : SensorsRead l 0 s := ⟨reset, free, sound, fun i _ => by rw [first]; rfl, fun i hi => absurd hi (Nat.not_lt_zero i)⟩
  have measured := start.upTo (fun i hi => by
    rw [List.getD_eq_getElem _ _ (by omega)]
    exact plausible _ (List.getElem_mem _)) (Nat.le_refl 14)
  refine ⟨_, ?_, measured.sound, measured.read⟩
  change execTemperatureMeasurement l s = _
  unfold execTemperatureMeasurement
  dsimp only
  rw [sensors, if_pos measured.reset, State.coolRun_of_free measured.free]

end

/-! ### The throttle (R441) -/

section
variable {s : State}

/-- Either side of the throttle threshold. -/
theorem hot_iff : (decide (s.throttleAt < s.zone s.hottest) || s.rateHigh) = true ↔
    s.throttleAt < s.zone s.hottest ∨ s.rateHigh = true := by
  rw [Bool.or_eq_true, decide_eq_true_iff]

theorem exec_throttleDown_of_cool (level : 0 < s.get Obj.ThrottleLevel) (slow : s.rateHigh = false)
    (cool : ∀ z, z < 7 → s.zone z < s.throttleAt - 10 * s.inUse Obj.ThermalHysteresis) :
    exec .throttleDown s = .next (if s.get Obj.ThrottleLevel = 1 then
      (s.put Obj.ThrottleLevel (s.get Obj.ThrottleLevel - 1)).each (List.range 7) fun s z => s.setActive fkThrottle z false
      else s.put Obj.ThrottleLevel (s.get Obj.ThrottleLevel - 1)) :=
  congrArg Host.Outcome.next (if_pos ⟨level, List.all_eq_true.2 fun z hz => decide_eq_true (cool z (List.mem_range.1 hz)), slow⟩)

/-! ### Supplies and the reset pin (R452, R455, R457) -/

theorem State.powerReset_of_running (status : Nat) (running : s.power.inReset = false) :
    (s.powerReset status).power.inReset = true ∧ (s.powerReset status).get Obj.LastResetCause = 1 ∧
      (s.powerReset status).get Obj.ResetEpoch = 0 ∧ (s.powerReset status).get Obj.ResetStatus = status := by
  obtain ⟨nv, regs, same, caused, epoch, -⟩ := State.chipReset_frame 1 running
  have reset : s.powerReset status = (s.chipReset 1).put Obj.ResetStatus status := if_neg (by rw [running]; decide)
  rw [reset]
  refine ⟨?_, (State.get_put_other _ _ (by decide)).trans caused, (State.get_put_other _ _ (by decide)).trans (epoch.trans (if_pos rfl)),
    State.get_put_same ..⟩
  change (s.chipReset 1).power.inReset = true
  rw [same]
  rfl

theorem exec_supplyFault_of_out {supply mv : Nat} (hs : supply < 4) (out : supplyOk supply mv = false) (io : supply ≠ 2 ∨ 1500 ≤ mv) :
    exec (.supplyFault supply mv) s = .next
      (({ s.powerReset 4 with power := { (s.powerReset 4).power with good := false } } : State).put
        (Obj.SupplyVoltage supply) (mv * 65536 / 1000 : Nat)) := by
  have judged : ¬(supplyOk supply mv = true ∨ 3 < supply) := fun h => h.elim (by rw [out]; decide) (by omega)
  exact congrArg Host.Outcome.next ((if_neg judged).trans (if_neg (by omega)))

/-- A pin that is qualified resets the part with cause 2. -/
theorem exec_nrstQualified_of_running (state : s.get Obj.NrstState ≠ 2) (running : s.power.inReset = false) :
    ∃ t, exec .nrstQualified s = .next t ∧ t.power.inReset = true ∧ t.power.nrstLow = true ∧ t.get Obj.NrstState = 1 ∧
      t.get Obj.LastResetCause = 2 := by
  obtain ⟨w, hw⟩ : ∃ w : State, w = { s with power := { s.power with nrstLow := true } } := ⟨_, rfl⟩
  obtain ⟨nv, regs, same, caused, -, -⟩ := State.chipReset_frame (s := w) 2 (by rw [hw]; exact running)
  have power : ((w.chipReset 2).put Obj.NrstState 1).power = w.partsReset.power := by
    change (w.chipReset 2).power = _
    rw [same]
  refine ⟨(w.chipReset 2).put Obj.NrstState 1, ?_, ?_, ?_, State.get_put_same .., (State.get_put_other _ _ (by decide)).trans caused⟩
  · rw [hw]
    exact congrArg Host.Outcome.next (if_neg state)
  · rw [power]
    rfl
  · rw [power, hw]
    rfl

/-- The supervisor's own reset leaves its blocks as after power-on. -/
theorem State.supervisorReset_cause (s : State) : s.supervisorReset.get Obj.LastResetCause = 1 ∧
    s.supervisorReset.get Obj.NrstState = 0 ∧ s.supervisorReset.get Obj.ResetStatus = 0 := by
  obtain ⟨w, hw⟩ : ∃ w : State, w = ({ s with power := { s.power with inReset := false } } : State).chipReset 1 := ⟨_, rfl⟩
  have caused : w.get Obj.LastResetCause = 1 := by
    obtain ⟨_, _, -, caused, -, -⟩ := State.chipReset_frame (s := { s with power := { s.power with inReset := false } }) 1 rfl
    rw [hw]
    exact caused
  have registers : ∀ j, s.supervisorReset.get j = (((w.put Obj.ResetStatus 0).put Obj.NrstState 0).put Obj.SensorBroken 0).get j :=
    fun j => by
      rw [hw]
      rfl
  rw [registers, registers, registers]
  refine ⟨?_, (State.get_put_other _ _ (by decide)).trans (State.get_put_same ..), ?_⟩
  · rw [State.get_put_other _ _ (by decide), State.get_put_other _ _ (by decide), State.get_put_other _ _ (by decide), caused]
  · rw [State.get_put_other _ _ (by decide), State.get_put_other _ _ (by decide), State.get_put_same]

theorem exec_powerGood_of_good {voltages : List Nat} (good : ∀ i, i < 4 → supplyOk i (voltages.getD i 0) = true) :
    exec (.powerGood voltages) s = .next ((({ s with power := { s.power with good := true } } : State)).each (List.range 4) fun s i =>
      s.put (Obj.SupplyVoltage i) (voltages.getD i 0 * 65536 / 1000 : Nat)) :=
  congrArg Host.Outcome.next (if_pos (List.all_eq_true.2 fun i hi => good i (List.mem_range.1 hi)))

/-! ### The release of the reset (R464) -/

theorem State.setBitIf_frame (s : State) (c : Bool) (k i : Nat) : ∃ regs, s.setBitIf c k i = { s with regs := regs } := by
  unfold State.setBitIf
  split
  · exact ⟨_, rfl⟩
  · exact ⟨_, rfl⟩

theorem State.startBank_frame (s : State) (b : Nat) : ∃ nv regs, s.startBank b = { s with nv := nv, regs := regs } ∧
    nv.records = s.nv.records ∧ (s.startBank b).get Obj.BootBank = (b + 1 : Nat) ∧
      ∀ j, j ≠ Obj.BootBank → j ≠ Obj.StoreFormat → (s.startBank b).get j = s.get j := by
  obtain ⟨u, hu⟩ : ∃ u, u = s.put Obj.BootBank (b + 1 : Nat) := ⟨_, rfl⟩
  obtain ⟨w, hw⟩ : ∃ w, w = if u.uint (bankKey b) 16 4 = 0 then u else u.put Obj.StoreFormat (u.uint (bankKey b) 30 2 : Nat) := ⟨_, rfl⟩
  have formatted : ∃ regs, w = { s with regs := regs } := by
    rw [hw, hu]
    split
    · exact ⟨_, rfl⟩
    · exact ⟨_, rfl⟩
  have kept : ∀ j, j ≠ Obj.StoreFormat → w.get j = u.get j := fun j hj => by
    rw [hw]
    split
    · rfl
    · exact State.get_put_other _ _ hj
  obtain ⟨slot, started⟩ : ∃ slot, s.startBank b = { w with nv := { w.nv with slot := slot } } := by
    rw [hw, hu]
    exact ⟨_, rfl⟩
  obtain ⟨regs, formatted⟩ := formatted
  have bank : u.get Obj.BootBank = (b + 1 : Nat) := by
    rw [hu]
    exact State.get_put_same ..
  have other : ∀ j, j ≠ Obj.BootBank → u.get j = s.get j := fun j hj => by
    rw [hu]
    exact State.get_put_other _ _ hj
  refine ⟨{ s.nv with slot := slot }, regs, ?_, rfl, ?_, fun j named format => ?_⟩
  · rw [started, formatted]
  · rw [started]
    exact (kept _ (by decide)).trans bank
  · rw [started]
    exact (kept j format).trans (other j named)

theorem State.rollBack_frame (s : State) : ∃ regs, s.rollBack = { s with regs := regs } ∧
    ∀ j, j ≠ Obj.StoreRolledBack → j ≠ Obj.UpdateStatus → j ≠ Obj.StoreUsed → s.rollBack.get j = s.get j := by
  unfold State.rollBack
  extract_lets records n
  obtain ⟨regs, same⟩ := (s.put Obj.StoreRolledBack n).setBitIf_frame (n != 0) Obj.UpdateStatus 1
  have used : ∀ x : State, ∃ regs, x.storeUsed = { x with regs := regs } := fun x => ⟨_, rfl⟩
  obtain ⟨regs', used⟩ := used ((s.put Obj.StoreRolledBack n).setBitIf (n != 0) Obj.UpdateStatus 1)
  refine ⟨regs', ?_, fun j rolled status used => (State.get_put_other _ _ used).trans
    ((State.setBitIf_get_other _ _ _ status).trans (State.get_put_other _ _ rolled))⟩
  rw [used, same]
  rfl

theorem State.holdReport_frame (s : State) : ∃ regs,
    s.holdReport = { s with regs := regs, power := { s.power with held := false, aborted := false } } ∧
      ∀ j, j ≠ Obj.ThermalStatus → s.holdReport.get j = s.get j := by
  unfold State.holdReport
  obtain ⟨regs, held⟩ := s.setBitIf_frame s.power.held Obj.ThermalStatus 6
  obtain ⟨regs', aborted⟩ := (s.setBitIf s.power.held Obj.ThermalStatus 6).setBitIf_frame s.power.aborted Obj.ThermalStatus 7
  refine ⟨regs', ?_, fun j hj => (State.setBitIf_get_other _ _ _ hj).trans (State.setBitIf_get_other _ _ _ hj)⟩
  dsimp only
  rw [aborted, held]

theorem State.fatalToLog_of_empty (h : s.faults.fatal = []) :
    s.fatalToLog = { s with faults := { s.faults with copied := 0 } } := by
  unfold State.fatalToLog
  rw [h, List.drop_nil]
  rfl

theorem State.chooseBank_of_good {bad : Nat} (good : s.bankGood bad s.selBank = true) : s.chooseBank bad = s.startBank s.selBank :=
  if_pos good

theorem State.selTrial_of_records {t : State} (h : t.nv.records = s.nv.records) : t.selTrial = s.selTrial := by
  rw [State.selTrial, State.selTrial, State.nvField, State.nvField, h]

/-- A release outside power-on and trials starts the selected bank. -/
theorem exec_resetRelease_of_selected {bad : Nat} (ready : s.releaseOk true = true) (cause : s.get Obj.LastResetCause ≠ 1)
    (settled : s.selTrial = false) (good : s.bankGood bad s.selBank = true) (pin : s.power.failedStart = false)
    (fatal : s.faults.fatal = []) :
    ∃ t, exec (.resetRelease true bad) s = .next t ∧ t.power.inReset = false ∧ t.power.booting = true ∧
      t.faults.running = true ∧ t.get Obj.BootBank = (s.selBank + 1 : Nat) ∧ t.get Obj.UpdateState = 0 ∧
      t.get Obj.ResetEpoch = s.get Obj.ResetEpoch := by
  obtain ⟨u, hu⟩ : ∃ u : State, u = { s with
      power := { s.power with inReset := false, booting := true, fellBack := false },
      faults := { s.faults with running := true } } := ⟨_, rfl⟩
  have chosen : (u.powerOnEpoch.trialBoot).chooseBank bad = u.startBank s.selBank := by
    have epoch : u.powerOnEpoch = u := if_pos (by rw [hu]; exact cause)
    have trial : u.trialBoot = u := if_pos (by
      rw [State.selTrial_of_records (s := s) (by rw [hu]), settled]
      rfl)
    rw [epoch, trial, hu]
    exact State.chooseBank_of_good good
  obtain ⟨nv, bankRegs, started, records, bank, bankKept⟩ := u.startBank_frame s.selBank
  obtain ⟨rollRegs, rolled, rollKept⟩ := (u.startBank s.selBank).rollBack_frame
  obtain ⟨holdRegs, reported, holdKept⟩ := (u.startBank s.selBank).rollBack.holdReport_frame
  obtain ⟨x, hx⟩ : ∃ x, x = (u.startBank s.selBank).rollBack.holdReport := ⟨_, rfl⟩
  rw [← hx, rolled, started] at reported
  have logged : x.fatalToLog = { x with faults := { x.faults with copied := 0 } } := State.fatalToLog_of_empty (by
    rw [reported, hu]
    exact fatal)
  obtain ⟨y, hy⟩ : ∃ y, y = x.fatalToLog := ⟨_, rfl⟩
  have kept : ∀ j, j ∉ [Obj.StoreRolledBack, Obj.UpdateStatus, Obj.StoreUsed, Obj.ThermalStatus] →
      y.get j = (u.startBank s.selBank).get j := fun j hj => by
    simp only [List.mem_cons, List.not_mem_nil, or_false, not_or] at hj
    obtain ⟨store, status, used, thermal⟩ := hj
    rw [hy, logged, ← rollKept j store status used, ← holdKept j thermal, ← hx]
    rfl
  have trial : y.selTrial = false := by
    rw [State.selTrial_of_records (s := s), settled]
    rw [hy, logged, reported]
    exact records.trans (by rw [hu])
  obtain ⟨z, hz⟩ : ∃ z, z = (y.put Obj.UpdateState 0).put Obj.UpdateTrialCount y.selCount := ⟨_, rfl⟩
  have released : exec (.resetRelease true bad) s = .next z.nerrUpdate := by
    have failed : z.power.failedStart = false := by
      rw [hz]
      change y.power.failedStart = false
      rw [hy, logged, reported, hu]
      exact pin
    refine congrArg Host.Outcome.next ((if_neg (by rw [ready]; decide)).trans ?_)
    dsimp only
    rw [← hu, chosen, ← hx, ← hy, trial]
    simp only [Bool.false_eq_true, if_false]
    change State.nerrUpdate (if ((y.put Obj.UpdateState 0).put Obj.UpdateTrialCount y.selCount).power.failedStart = true then _
      else (y.put Obj.UpdateState 0).put Obj.UpdateTrialCount y.selCount) = _
    rw [← hz, failed]
    rfl
  obtain ⟨nerrRegs, kinds, updated⟩ := z.nerrUpdate_frame
  have power : z.power = { s.power with inReset := false, booting := true, fellBack := false, held := false, aborted := false } := by
    rw [hz]
    change y.power = _
    rw [hy, logged, reported, hu]
  refine ⟨_, released, ?_, ?_, ?_, ?_, ?_, ?_⟩
  · rw [updated]
    exact congrArg PowerRt.inReset power
  · rw [updated]
    exact congrArg PowerRt.booting power
  · rw [updated, hz]
    change y.faults.running = true
    rw [hy, logged, reported, hu]
  · rw [State.nerrUpdate_get_other (by decide), hz, State.get_put_other _ _ (by decide), State.get_put_other _ _ (by decide),
      kept _ (by decide), bank]
  · rw [State.nerrUpdate_get_other (by decide), hz, State.get_put_other _ _ (by decide), State.get_put_same]
  · rw [State.nerrUpdate_get_other (by decide), hz, State.get_put_other _ _ (by decide), State.get_put_other _ _ (by decide),
      kept _ (by decide), bankKept _ (by decide) (by decide), hu]
    rfl

end

/-- Settles O55: each measurement, supply, pin and command by the state it meets. -/
theorem temperaturesSuppliesAndStates : Obligations.TemperaturesSuppliesAndStates := by
  refine ⟨fun s reset free => congrArg Host.Outcome.next ((if_pos reset).trans (State.coolRun_of_free free)),
    fun l s reset free all sound first plausible => exec_temperatureMeasurement_of_reset reset free all sound first plausible,
    fun l w s hw reset => ?_, fun l w x s hw running hx => ?_,
    fun s h => congrArg Host.Outcome.next (if_neg fun k => ?_), fun u s level hot hu => ?_, fun s level low hot => ?_,
    fun s h => congrArg Host.Outcome.next (if_neg fun k => ?_), fun s level slow cool => ?_, fun s level slow cool => ?_,
    fun s h => ?_, fun s level time long fresh => ⟨_, congrArg Host.Outcome.next ((if_pos ⟨time, level, long⟩).trans (if_neg ?_)), rfl⟩,
    fun limit s hold cool => congrArg Host.Outcome.next (if_pos ⟨by rw [hold]; rfl, cool⟩),
    fun s h => congrArg Host.Outcome.next (if_neg fun k => ?_),
    fun supply mv s h => congrArg Host.Outcome.next (if_pos h),
    fun supply mv s hs out io running => ?_, fun supply mv s hs out io reset => ?_, fun mv s low => ?_, fun s running => ?_,
    fun s reset => congrArg Host.Outcome.next (if_pos reset), fun i l s hi out => congrArg Host.Outcome.next (if_neg fun k => ?_),
    fun v0 v1 v2 v3 s g0 g1 g2 g3 => ?_, fun s state => congrArg Host.Outcome.next (if_pos state),
    fun s state running => exec_nrstQualified_of_running state running, fun s state reset => ?_,
    fun s state => congrArg Host.Outcome.next (if_neg state), fun s state => congrArg Host.Outcome.next (if_neg state),
    fun s state => congrArg Host.Outcome.next (if_pos state), fun s state => congrArg Host.Outcome.next (if_neg state),
    fun s state => congrArg Host.Outcome.next (if_pos state), fun s state => congrArg Host.Outcome.next (if_pos state),
    fun locked bad s held => congrArg Host.Outcome.next (if_pos (by rw [held]; rfl)),
    fun bootMs s ended => congrArg Host.Outcome.next (if_pos (by rw [ended]; rfl)),
    fun bad s ready cause settled _ good pin fatal => exec_resetRelease_of_selected ready cause settled good pin fatal,
    fun bootMs s booting absent => ?_, fun bootMs p w s booting stored filled hw => ?_,
    fun core s running => congrArg Host.Outcome.next (if_neg (by rw [running]; decide)),
    fun core s reset => congrArg Host.Outcome.next (if_pos reset),
    fun s h => congrArg Host.Outcome.next (if_neg (by rw [h]; decide)), fun s h => congrArg Host.Outcome.next (if_pos h),
    fun s ready => congrArg Host.Outcome.next (if_pos (.inl ready)),
    fun s halt cool => congrArg Host.Outcome.next (if_pos (.inr ⟨halt, cool⟩)),
    fun s halt hot => congrArg Host.Outcome.next (if_neg fun k => ?_),
    fun s ready halt => congrArg Host.Outcome.next (if_neg fun k => k.elim ready fun k => halt k.1),
    fun s run => congrArg Host.Outcome.next (if_pos run), fun s other => congrArg Host.Outcome.next (if_neg other),
    fun s h => congrArg Host.Outcome.next (if_pos h),
    fun a s boot safe ha enabled => congrArg Host.Outcome.next ((if_neg fun k => k.elim boot safe).trans (if_pos ?_)),
    fun s boot safe disabled => congrArg Host.Outcome.next ((if_neg fun k => k.elim boot safe).trans (if_neg ?_)),
    fun s running => ?_⟩
  · subst hw
    exact congrArg Host.Outcome.next (if_pos reset)
  · subst hx hw
    exact congrArg Host.Outcome.next (if_neg (by rw [running]; decide))
  · obtain ⟨hot, low⟩ := k
    rcases h with level | ⟨cool, slow⟩
    · exact absurd low (by omega)
    · exact (hot_iff.1 hot).elim (by omega) (by rw [slow]; decide)
  · subst hu
    refine congrArg Host.Outcome.next ((if_pos ⟨hot_iff.2 hot, by omega⟩).trans ?_)
    rw [level]
    rfl
  · exact congrArg Host.Outcome.next ((if_pos ⟨hot_iff.2 hot, low⟩).trans (if_neg (by omega)))
  · obtain ⟨level, cool, slow⟩ := k
    rcases h with low | fast | ⟨z, hz, warm⟩
    · exact absurd level (by omega)
    · rw [slow] at fast
      cases fast
    · have below := of_decide_eq_true (List.all_eq_true.1 cool z (List.mem_range.2 hz))
      omega
  · rw [exec_throttleDown_of_cool (by omega) slow cool, if_pos level, level]
    rfl
  · rw [exec_throttleDown_of_cool (by omega) slow cool, if_neg (by omega)]
  · refine congrArg Host.Outcome.next (ite_eq_right_iff.2 fun k => ?_)
    obtain ⟨time, level, long⟩ := k
    rcases h with other | absent | short | marked
    · exact absurd level other
    · exact absurd absent time
    · omega
    · exact if_pos (List.contains_iff_mem.2 marked)
  · exact fun marked => fresh (List.contains_iff_mem.1 marked)
  · obtain ⟨held, cool⟩ := k
    rcases h with free | short
    · rw [free] at held
      cases held
    · omega
  · obtain ⟨reset, caused, epoch, status⟩ := State.powerReset_of_running 4 running
    rw [exec_supplyFault_of_out hs out io]
    have other : ∀ j, j < 0x202008 ∨ 0x20200C ≤ j → j ≠ Obj.SupplyVoltage supply := fun j hj => by
      unfold Obj.SupplyVoltage
      omega
    exact ⟨_, rfl, reset, rfl, (State.get_put_other _ _ (other _ (by decide))).trans caused,
      (State.get_put_other _ _ (other _ (by decide))).trans epoch, (State.get_put_other _ _ (other _ (by decide))).trans status,
      State.get_put_same ..⟩
  · have added : s.powerReset 4 = s.put Obj.ResetStatus (s.nat Obj.ResetStatus ||| 4 : Nat) := if_pos reset
    rw [exec_supplyFault_of_out hs out io, added]
    rfl
  · obtain ⟨caused, pin, status⟩ := s.supervisorReset_cause
    have out : supplyOk 2 mv = false := decide_eq_false fun h => by
      have least : 1710 ≤ mv := h.1
      omega
    have judged : ¬(supplyOk 2 mv = true ∨ 3 < 2) := by
      rw [out]
      decide
    exact ⟨_, congrArg Host.Outcome.next ((if_neg judged).trans (if_pos ⟨rfl, low⟩)), rfl, rfl, rfl, caused, pin, status⟩
  · obtain ⟨reset, caused, epoch, status⟩ := State.powerReset_of_running 8 running
    exact ⟨_, rfl, reset, caused, epoch, status⟩
  · have good := List.all_eq_true.1 k i (List.mem_range.2 hi)
    rw [out] at good
    cases good
  · refine ⟨_, exec_powerGood_of_good fun i hi => ?_, rfl, ?_, State.get_put_same ..⟩
    · interval_cases i
      · exact g0
      · exact g1
      · exact g2
      · exact g3
    · refine (State.get_put_other _ _ (by decide)).trans ((State.get_put_other _ _ (by decide)).trans
        ((State.get_put_other _ _ (by decide)).trans (State.get_put_same ..)))
  · exact congrArg Host.Outcome.next ((if_neg state).trans (congrArg (State.put · Obj.NrstState 1) (State.chipReset_of_reset reset)))
  · change execStartupComplete bootMs s = _
    rw [execStartupComplete, if_neg (by rw [booting]; decide), absent]
  · subst hw
    have entries : ¬p.isEmpty = true := fun empty => filled (List.isEmpty_iff.1 empty)
    change execStartupComplete bootMs s = _
    rw [execStartupComplete, if_neg (by rw [booting]; decide), stored]
    dsimp only
    rw [if_neg entries]
  · rcases k with ready | ⟨-, cool⟩
    · rw [halt] at ready
      revert ready
      decide
    · rw [hot] at cool
      cases cool
  · exact List.any_eq_true.2 ⟨a, List.mem_range.2 ha, bne_iff_ne.2 enabled⟩
  · intro one
    obtain ⟨a, ha, enabled⟩ := List.any_eq_true.1 one
    exact bne_iff_ne.1 enabled (disabled a (List.mem_range.1 ha))
  · obtain ⟨nv, regs, same, caused, -, -⟩ := State.chipReset_frame (s := s.done) 3 running
    refine ⟨s.done.chipReset 3, rfl, ?_, ?_, caused⟩
    · rw [same]
      rfl
    · rw [same]
      rfl

end Sys2Proof.Machine
end

section
/-! SUPPORT. Updates and the store (spec/20_nv_update.md): what the checks and the flash leave of the registers, the activation,
and the reclaim of a sector without live records. -/

namespace Sys2Proof.Machine

section
variable {s : State}

/-! ### Package data (R477) -/

/-- The start of a flash operation changes the store alone. -/
theorem State.flashStart_frame (s : State) : ∃ nv, s.flashStart = { s with nv := nv } := by
  have bank : ∃ nv, (if s.nv.bankPages = 0 then s else { s with nv := { s.nv with op := some .bank, retried := false } }) =
      { s with nv := nv } := by
    split
    · exact ⟨_, rfl⟩
    · exact ⟨_, rfl⟩
  unfold State.flashStart
  dsimp only
  split
  · exact ⟨_, rfl⟩
  · split
    · exact bank
    · split
      · exact bank
      · next placed =>
        obtain ⟨nv, same⟩ := State.nvPlace_frame placed
        rw [same]
        exact ⟨_, rfl⟩

theorem State.updateReject_received (s : State) (cause : Nat) : (s.updateReject cause).get Obj.UpdateReceived = s.get Obj.UpdateReceived := by
  refine (State.setBit_get_other _ _ (by decide)).trans ?_
  exact (State.get_put_other (s.put Obj.UpdateState 5) (k := Obj.UpdateRejectCause) _ (by decide)).trans (State.get_put_other _ _ (by decide))

theorem State.updateVerified_received (s : State) : s.updateVerified.get Obj.UpdateReceived = s.get Obj.UpdateReceived := by
  unfold State.updateVerified
  split
  · refine (State.get_put_other (State.put _ _ _) (k := Obj.BankVersion s.inactiveBank) _ ?_).trans ?_
    · unfold Obj.UpdateReceived Obj.BankVersion
      omega
    · refine (State.get_put_other _ _ ?_).trans (State.get_put_other _ _ (by decide))
      unfold Obj.UpdateReceived Obj.BankState
      omega
  · rfl

/-- The checks of a write leave what was received. -/
theorem State.updateChecks_received (s : State) (old new : Nat) :
    (s.updateChecks old new).get Obj.UpdateReceived = s.get Obj.UpdateReceived := by
  have either : ∀ {c : Prop} [Decidable c] {a b : State}, a.get Obj.UpdateReceived = s.get Obj.UpdateReceived →
      b.get Obj.UpdateReceived = s.get Obj.UpdateReceived → (if c then a else b).get Obj.UpdateReceived = s.get Obj.UpdateReceived :=
    fun ha hb => by
      split
      · exact ha
      · exact hb
  unfold State.updateChecks
  exact either (s.updateReject_received _) (either (s.updateReject_received _)
    (either (s.updateReject_received _) s.updateVerified_received))

theorem exec_updateData_of_fitting {offset : Nat} {data : List Byte} (state : s.get Obj.UpdateState = 2) (fits : s.updateFits offset data = true) :
    ∃ t, exec (.updateData offset data) s = .next t ∧ t.resp = { status := 0 } ∧
      t.get Obj.UpdateReceived = (offset + data.length : Nat) := by
  obtain ⟨u, hu⟩ : ∃ u, u = (s.store (bankKey s.inactiveBank) offset data).put Obj.UpdateReceived (offset + data.length : Nat) := ⟨_, rfl⟩
  obtain ⟨w, hw⟩ : ∃ w : State, w = { u with nv := { u.nv with bankPages := u.nv.bankPages + (data.length + 255) / 256 } } := ⟨_, rfl⟩
  obtain ⟨nv, started⟩ := (w.updateChecks offset (offset + data.length)).flashStart_frame
  have taken : exec (.updateData offset data) s = .next (w.updateChecks offset (offset + data.length)).flashStart.done := by
    rw [hw, hu]
    exact congrArg Host.Outcome.next ((if_neg (not_not.2 state)).trans (if_neg (by rw [fits]; decide)))
  refine ⟨_, taken, rfl, ?_⟩
  rw [started]
  refine (w.updateChecks_received offset (offset + data.length)).trans ?_
  rw [hw, hu]
  exact State.get_put_same ..

theorem exec_updateData_of_misfit {offset : Nat} {data : List Byte} (state : s.get Obj.UpdateState = 2) (fits : s.updateFits offset data = false) :
    exec (.updateData offset data) s = .next (s.reply 0x0301) :=
  congrArg Host.Outcome.next ((if_neg (not_not.2 state)).trans (if_pos (by rw [fits]; rfl)))

/-- Data at another offset than what was received do not fit. -/
theorem State.updateFits_of_offset {offset : Nat} (data : List Byte) (h : (offset : Int) ≠ s.get Obj.UpdateReceived)
    (nonneg : 0 ≤ s.get Obj.UpdateReceived) : s.updateFits offset data = false := by
  have elsewhere : (offset == s.nat Obj.UpdateReceived) = false := by
    rw [beq_eq_false_iff_ne, State.nat]
    omega
  simp only [State.updateFits, elsewhere, Bool.false_and]

/-! ### Activation and confirmation (R479, R481) -/

/-- Where an activation is taken up (R479, R480). -/
theorem updateActivate_allowed (state : s.get Obj.UpdateState = 3)
    (allowed : s.get Obj.DeviceState = devSafe ∨ s.power.recovery = true) :
    ¬(s.get Obj.UpdateState ≠ 3 ∨ (s.get Obj.DeviceState ≠ devSafe ∧ s.power.recovery = false)) := by
  rintro (other | ⟨device, service⟩)
  · exact other state
  · rcases allowed with safe | recovery
    · exact device safe
    · rw [recovery] at service
      cases service

/-- A verified activation resets the part with cause 7. -/
theorem exec_updateActivate_of_verified (state : s.get Obj.UpdateState = 3)
    (allowed : s.get Obj.DeviceState = devSafe ∨ s.power.recovery = true) (idle : s.storeBusy = false) (cool : s.flashStopped = false)
    (running : s.power.inReset = false) :
    ∃ t, exec (.updateActivate true) s = .next t ∧ t.power.inReset = true ∧ t.get Obj.LastResetCause = 7 ∧ t.resp = { status := 0 } := by
  obtain ⟨u, hu⟩ : ∃ u : State, u = { s with nv := { s.nv with
    slots := s.nv.slots.set (1 - s.nv.slot) (s.nv.packages.getD s.inactiveBank 0), fallback := false } } := ⟨_, rfl⟩
  obtain ⟨w, hw⟩ : ∃ w, w = (u.select s.inactiveBank true 0 (1 - s.inactiveBank)).done := ⟨_, rfl⟩
  obtain ⟨nv, regs, selected, -⟩ := u.nvSmall_frame 4
    [BitVec.ofNat 8 s.inactiveBank, if true then 1 else 0, BitVec.ofNat 8 0, BitVec.ofNat 8 (1 - s.inactiveBank)]
  have live : w.power.inReset = false := by
    rw [hw, State.select, selected, hu]
    exact running
  obtain ⟨_, _, same, caused, -, -⟩ := State.chipReset_frame 7 live
  refine ⟨w.chipReset 7, ?_, ?_, caused, ?_⟩
  · rw [hw, hu]
    exact congrArg Host.Outcome.next ((if_neg (updateActivate_allowed state allowed)).trans
      ((if_neg (by rw [idle]; decide)).trans (if_neg (by rw [cool]; decide))))
  · rw [same]
    rfl
  · rw [same, hw]
    rfl

theorem exec_updateConfirm_of_trial (state : s.get Obj.UpdateState = 4) (device : s.get Obj.DeviceState ≠ devBoot) :
    ∃ t, exec .updateConfirm s = .next t ∧ t.resp = { status := 0 } ∧ t.get Obj.UpdateState = 0 ∧
      t.get Obj.UpdateTrialCount = 0 ∧ t.nv.fallback = false :=
  ⟨_, congrArg Host.Outcome.next (if_neg fun h => h.elim (fun other => other state) device), rfl,
    (State.get_put_other (State.put _ _ _) (k := Obj.UpdateTrialCount) 0 (by decide)).trans (State.get_put_same ..),
    State.get_put_same (State.put _ _ _) Obj.UpdateTrialCount 0, rfl⟩

/-! ### Flash operations (R469) and reclaim (R473) -/

theorem flashOp_running {o : FlashOp} (op : s.nv.op = some o) : ¬s.nv.op.isNone = true := by
  rw [op]
  exact Bool.false_ne_true

/-- A sector that may be reclaimed: no operation, no shutdown, not written now, and not free. -/
theorem exec_journalReclaim_of_used {sector : Nat} (idle : s.nv.op = none) (cool : s.flashStopped = false) (low : sector < 64)
    (journal : sector ≠ s.nv.journalAt.1) (small : sector ≠ s.nv.smallAt.1) (used : s.sectorFree sector = false) :
    exec (.journalReclaim sector) s = .next (match s.nvReclaim sector with
      | none => s
      | some t => ({ t with nv := { t.nv with op := some (.erase sector) } } : State).put Obj.StoreState 2) := by
  have free : decide (64 ≤ sector ∨ sector = s.nv.journalAt.1 ∨ sector = s.nv.smallAt.1) = false :=
    decide_eq_false fun h => h.elim (Nat.not_le.2 low) fun h => h.elim journal small
  exact congrArg Host.Outcome.next (if_neg (by rw [idle, cool, free, used]; decide))

/-- A sector without live records is emptied. -/
theorem State.nvReclaim_of_dead {sector : Nat} (dead : ∀ r ∈ s.nv.records, r.sector = sector → s.nvLive r = false) :
    ∃ t, s.nvReclaim sector = some t ∧ ∀ r ∈ t.nv.records, r.sector ≠ sector := by
  have absent : (s.nv.records.filter fun r => r.sector == sector && s.nvLive r) = [] := by
    refine List.filter_eq_nil_iff.2 fun r hr live => ?_
    obtain ⟨here, live⟩ := Bool.and_eq_true_iff.1 live
    rw [dead r hr (beq_iff_eq.1 here)] at live
    cases live
  refine ⟨{ s with nv := { s.nv with records := s.nv.records.filter fun r => r.sector != sector,
                                     dirty := if s.nv.dirty.contains sector then s.nv.dirty else sector :: s.nv.dirty } }, ?_,
    fun r hr => bne_iff_ne.1 (List.mem_filter.1 hr).2⟩
  unfold State.nvReclaim
  rw [absent]
  rfl

/-! ### Measured maxima (R472) -/

theorem exec_measuredMaximumReset_of_row {key : Nat} {r : Dict.Row} (h : Dict.row key = some r) :
    exec (.measuredMaximumReset key) s = .next (if measuredMax r then (s.put key 0).done else s.reply 0x0101) := by
  change execMeasuredMaximumReset key s = _
  rw [execMeasuredMaximumReset, h]

end

theorem stoResponseMax_measured : ∃ r, Dict.row Obj.StoResponseMax = some r ∧ measuredMax r = true :=
  ⟨(Dict.row Obj.StoResponseMax).get (by decide), (Option.some_get _).symm, by decide⟩

theorem deviceState_unmeasured : ∃ r, Dict.row Obj.DeviceState = some r ∧ measuredMax r = false :=
  ⟨(Dict.row Obj.DeviceState).get (by decide), (Option.some_get _).symm, by decide⟩

/-- Settles O56: each command of the update and the store by the state it meets. -/
theorem updateAndStore : Obligations.UpdateAndStore := by
  refine ⟨fun s h => congrArg Host.Outcome.next (if_neg fun k => ?_), fun s state settled _ => ?_,
    fun verified s h => congrArg Host.Outcome.next (if_pos h),
    fun verified s state allowed busy => congrArg Host.Outcome.next
      ((if_neg (updateActivate_allowed state allowed)).trans (if_pos busy)),
    fun s state allowed idle => congrArg Host.Outcome.next ((if_neg (updateActivate_allowed state allowed)).trans
      ((if_neg (by rw [idle]; decide)).trans (if_pos rfl))),
    fun s state allowed idle cool running => exec_updateActivate_of_verified state allowed idle cool running,
    fun s h => congrArg Host.Outcome.next (if_pos h), fun s state device => exec_updateConfirm_of_trial state device,
    fun s state => congrArg Host.Outcome.next (if_neg (not_not.2 state)), fun s state => congrArg Host.Outcome.next (if_pos state),
    fun s low high _ => ?_, fun s h => congrArg Host.Outcome.next (if_neg (by omega)),
    fun offset data s state => congrArg Host.Outcome.next (if_pos state),
    fun offset data s state other nonneg => exec_updateData_of_misfit state (State.updateFits_of_offset data other nonneg),
    fun offset data s state misfit => exec_updateData_of_misfit state misfit,
    fun offset data s state fits => exec_updateData_of_fitting state fits,
    fun s state cool => ⟨_, congrArg Host.Outcome.next (if_pos ⟨state, cool⟩), State.get_put_same .., fun c hc => ?_, fun c hc other => ?_⟩,
    fun s h => congrArg Host.Outcome.next (if_neg fun k => ?_),
    fun ok s absent => congrArg Host.Outcome.next (if_pos (by rw [absent]; rfl)),
    fun o s op first => congrArg Host.Outcome.next ((if_neg (flashOp_running op)).trans
      ((if_neg (by decide)).trans (if_neg (by rw [first]; decide)))),
    fun o s op again => congrArg Host.Outcome.next ((if_neg (flashOp_running op)).trans ((if_neg (by decide)).trans (if_pos again))),
    fun o s op => congrArg Host.Outcome.next ((if_neg (flashOp_running op)).trans (if_pos rfl)),
    fun s service => ⟨congrArg Host.Outcome.next (if_pos service), congrArg Host.Outcome.next (if_pos service)⟩,
    fun s normal busy => ⟨congrArg Host.Outcome.next ((if_neg (by rw [normal]; decide)).trans (if_pos busy)),
      congrArg Host.Outcome.next ((if_neg (by rw [normal]; decide)).trans (if_pos busy))⟩,
    fun s normal idle => congrArg Host.Outcome.next ((if_neg (by rw [normal]; decide)).trans (if_neg (by rw [idle]; decide))),
    fun s normal idle => congrArg Host.Outcome.next ((if_neg (by rw [normal]; decide)).trans (if_neg (by rw [idle]; decide))),
    fun sector s h => congrArg Host.Outcome.next (if_pos ?_), fun sector t s idle cool low journal small used reclaimed => ?_,
    fun sector s full => ?_, fun sector s idle cool low journal small used dead => ?_,
    fun s => ?_, fun key r s row max => ?_, fun key r s row other => ?_, fun s => ?_⟩
  · obtain ⟨state, settled⟩ := k
    rcases h with ⟨zero, five⟩ | ⟨trial, service⟩
    · exact state.elim zero five
    · rw [trial, service] at settled
      revert settled
      decide
  · obtain ⟨u, hu⟩ : ∃ u, u = (s.put (Obj.BankState s.inactiveBank) 0).put Obj.UpdateState 1 := ⟨_, rfl⟩
    obtain ⟨w, hw⟩ : ∃ w : State, w = { u with nv := { u.nv with packages := u.nv.packages.set s.inactiveBank 0 } } := ⟨_, rfl⟩
    have begun : exec .updateBegin s = .next ((w.put Obj.UpdateReceived 0).put Obj.UpdateRejectCause 0).done := by
      rw [hw, hu]
      exact congrArg Host.Outcome.next (if_pos ⟨state, settled⟩)
    have early : ∀ j, j ≠ Obj.UpdateReceived → j ≠ Obj.UpdateRejectCause →
        ((w.put Obj.UpdateReceived 0).put Obj.UpdateRejectCause 0).get j = u.get j := fun j received cause => by
      rw [State.get_put_other _ _ cause, State.get_put_other _ _ received, hw]
      rfl
    refine ⟨_, begun, rfl, (early _ (by decide) (by decide)).trans ?_, (early _ ?_ ?_).trans ?_, ?_, State.get_put_same _ Obj.UpdateRejectCause 0⟩
    · rw [hu]
      exact State.get_put_same ..
    · unfold Obj.BankState Obj.UpdateReceived
      omega
    · unfold Obj.BankState Obj.UpdateRejectCause
      omega
    · rw [hu, State.get_put_other _ _ (by unfold Obj.BankState Obj.UpdateState; omega)]
      exact State.get_put_same ..
    · exact (State.get_put_other (w.put Obj.UpdateReceived 0) (k := Obj.UpdateRejectCause) 0 (by decide)).trans
        (w.get_put_same Obj.UpdateReceived 0)
  · exact ⟨_, congrArg Host.Outcome.next (if_pos ⟨low, high⟩), rfl, State.get_put_same (State.put _ _ _) Obj.UpdateState 0,
      (State.get_put_other (State.put _ _ _) (k := Obj.UpdateState) 0 (by unfold Obj.BankState Obj.UpdateState; omega)).trans
        (State.get_put_same ..), rfl⟩
  · exact bne_iff_ne.1 (List.mem_filter.1 hc).2
  · exact List.mem_filter.2 ⟨hc, bne_iff_ne.2 other⟩
  · obtain ⟨state, cool⟩ := k
    rcases h with other | hot
    · exact other state
    · rw [hot] at cool
      cases cool
  · simp only [Bool.or_eq_true, decide_eq_true_iff]
    tauto
  · rw [exec_journalReclaim_of_used idle cool low journal small used, reclaimed]
  · change execJournalReclaim sector s = _
    rw [execJournalReclaim, full, ite_self]
  · obtain ⟨t, reclaimed, gone⟩ := State.nvReclaim_of_dead dead
    rw [exec_journalReclaim_of_used idle cool low journal small used, reclaimed]
    exact ⟨_, rfl, rfl, State.get_put_same .., gone⟩
  · obtain ⟨r, row, max⟩ := stoResponseMax_measured
    rw [exec_measuredMaximumReset_of_row row, max]
    rfl
  · rw [exec_measuredMaximumReset_of_row row, max]
    rfl
  · rw [exec_measuredMaximumReset_of_row row, other]
    rfl
  · obtain ⟨r, row, other⟩ := deviceState_unmeasured
    rw [exec_measuredMaximumReset_of_row row, other]
    rfl

end Sys2Proof.Machine
end
